-- ==== Sys2Proof/Word.lean ====
section
/-! DEFINITION. The word types of the Ikider: every register is 32 bits wide and little-endian (R10). -/
namespace Sys2Proof

/-- A register word (R10). -/
abbrev Word := BitVec 32

/-- One byte of a frame, a message or a memory. -/
abbrev Byte := BitVec 8

/-- A 64-bit counter or time (R11). -/
abbrev Quad := BitVec 64

end Sys2Proof
end

