-- ==== Sys2Proof/Syntax.lean ====
section
/-! DEFINITION. The commands the package takes: one constructor per row of spec/opcode_table.json, with the operands
the spec's rule gives the event. Instants `at_` are package times in whole nanoseconds (R22). -/
namespace Sys2Proof

/-- A management requester: the pair (home die, agent of Table 1-3) (R36). -/
structure Req where
  die   : Nat
  agent : Nat
deriving DecidableEq, Repr

/-- A management access: who issues it and when it leaves (R34, R36). -/
structure Acc where
  req : Req
  at_ : Nat
deriving DecidableEq, Repr

/-- What becomes of a read (R41): its data returns, its data is lost on the way back to its home die, or its target does not answer. -/
inductive ReadFate where
  | returns | dataLost | silent
deriving DecidableEq, Repr

/-- What a frame on the wire is to the merge sublayer of 802.3br (R152): an express frame; the start of a preemptable frame with its frame count (the
whole of it, or its first fragment); a continuation fragment with the frame count it belongs to and its fragment count, the last one or not. -/
inductive MPacket where
  | express
  | start (frame : Nat) (whole : Bool)
  | more (frame frag : Nat) (last : Bool)
deriving DecidableEq, Repr

/-- A frame, or a fragment of one, as it arrives at a local port (R72): its bytes from the destination address to the last payload byte,
whether its FCS (of a fragment that is not the last its mCRC) is good, what it is to the merge sublayer, and, where the
port's own descriptor names one (host, CPU and trestle ports), its traffic class and whether it asks for a transmit
timestamp (R170). -/
structure RxFrame where
  bytes   : List Byte
  fcsOk   : Bool := true
  part    : MPacket := .express
  tc      : Option Nat := none
  tsReq   : Bool := false
deriving DecidableEq, Repr

/-- A bus message as a sentinel controller stamps it (R182, R183): the channel by its code and the format and identifier in the layout of Table
6-3; `aux`: bit 0 RTR, bit 1 FD, [10:3] SDT and [42:11] acceptance field of CAN XL. -/
structure BusMsg where
  bus     : Nat
  id      : Nat
  fmt     : Nat
  payload : List Byte
  aux     : Nat := 0
deriving DecidableEq, Repr

/-- A sentinel transmit buffer (R208). -/
structure BusBuf where
  bus  : Nat
  slot : Nat
deriving DecidableEq, Repr

/-- A CAN frame as the network-management and selective-wake decoders see it (R318, R323). -/
structure CanFrame where
  id   : Nat
  ext  : Bool
  fd   : Bool
  data : List Byte
deriving DecidableEq, Repr

/-- What a sentinel bus controller finds wrong with a frame (R182). -/
structure BusErr where
  bus  : Nat
  kind : Nat
  tx   : Bool
deriving DecidableEq, Repr

/-- Who issues an outbound access (R224): a core (its agent) or a DMA channel. -/
inductive OutReq where
  | core (agent : Nat)
  | dma (ch : Nat)
deriving DecidableEq, Repr

/-- The status of a PCIe completion (R228). -/
inductive CplStatus where
  | sc | ur | ca | poisoned
deriving DecidableEq, Repr

/-- An error a descriptor's accesses meet, at the given byte of the transfer in the order it is copied (R246): a read fails (a completion, or a
management target), a host read times out (R224), a management write is acknowledged with an error, work memory has an uncorrectable
error; or at the given entry of a scatter-gather list, which cannot be read. -/
inductive DmaErr where
  | src (n : Nat)
  | late (n : Nat)
  | dst (n : Nat)
  | ecc (n : Nat)
  | entry (k : Nat)
deriving DecidableEq, Repr

/-- An access of a cluster's cores, at its core address (R336, R337): a load and what is read outside for it, or a store or the write-back of a cache line,
with its byte enables. -/
inductive CoreAcc where
  | load (addr : Nat) (value : List Byte)
  | store (addr : Nat) (data : List Byte) (be : List Bool)
deriving DecidableEq, Repr

/-- A round of a cluster (R337–R340): what closes it early (a code of Table 12-1, or 0 at an input mismatch; none: its multiple of ROUND_US); the
accesses of its cores in program order; the address of the load that waits for the round to close (READ_AFTER_WRITE of Table 12-1); for each interrupt cause that came, the leading core's retired count at that instant; the retired counts
of the three cores when the boundary point is chosen. -/
structure RoundRun where
  early   : Option Nat := none
  accs    : List CoreAcc := []
  blocked : Option Nat := none
  irqs    : List Nat := []
  counts  : List Nat := [0, 0, 0]
deriving DecidableEq, Repr

/-- A codeword that a read of a NAND block meets with bit errors (R367): the index of its page in the block, its index in the page, and the bits corrected,
at most 24; none: it cannot be corrected. -/
structure CodeRead where
  page : Nat
  code : Nat
  bits : Option Nat
deriving DecidableEq, Repr

/-- What RD_COPY_RECORD brings (R373): for each codeword that the keeper reads for the record, the bits corrected, none where it could not be (R367;
codewords beyond the list have no error); the instant. -/
structure RecordRead where
  ecc : List (Option Nat)
  at_ : Nat
deriving DecidableEq, Repr

/-- How an operation of the keeper runs on the device: it reported no failure (R368); the codewords that had bit errors as the keeper read the block
(R367). -/
structure WorkRun where
  ok  : Bool
  ecc : List CodeRead
deriving DecidableEq, Repr

/-- The port of a transmit decision (R141), and whether the cells of the frame that it starts are free of uncorrectable errors (R134). -/
structure TxTurn where
  port   : Nat
  cellOk : Bool
deriving DecidableEq, Repr

/-- When a bus frame was on its line (R183): its start, and the instant at which its reception ends. -/
structure FrameTime where
  start : Nat
  at_   : Nat
deriving DecidableEq, Repr

/-- A message whose life ends (R210): its number in the buffer; whether another node's frame holds the bus. -/
structure TxMsg where
  idx     : Nat
  busHeld : Bool
deriving DecidableEq, Repr

/-- What an RX or ANALYSIS channel meets (R246, R249): the host bytes that its reads return, by address; an error, where there is one. -/
structure DmaReads where
  hostData : List (Nat × Byte)
  err      : Option DmaErr
deriving DecidableEq, Repr

/-- A read of a low word (R11): its address; whether its data reaches the home die (R41); whether the access covers both words of the pair (R221). -/
structure LowRead where
  addr : Nat
  fate : ReadFate
  pair : Bool
deriving DecidableEq, Repr

/-- What a vote compares (R341, R342, R344): of each of the three cores the digest over its outputs and the digest over its registers (none: it
presented none), in the round and, should it come to that, in its replay; whether the round closed on an input mismatch (R339); whether
a test vote, where one is due, names the core it flips a bit of. -/
structure VoteIn where
  first  : List (Option (Quad × Quad))
  replay : List (Option (Quad × Quad)) := []
  input  : Bool := false
  testOk : Bool := true
deriving DecidableEq, Repr

/-- How a standby detects failure of the active steward (R350): no digest came, it reported ROUND_FAIL or VOTER_FAULT, tile 0 is lost. -/
inductive StbyCause where
  | noDigest | reported | tileLost
deriving DecidableEq, Repr

/-- An output of the round that a takeover closes (R352): a management write (an address of the once-only alias has bit 30 set, R336), or one to
work memory, LPDDR5X or an outbound window of tile 0. -/
structure HeldOut where
  addr  : Nat
  value : Word
  be    : Nat := 15
  loc   : Bool := false
deriving DecidableEq, Repr

/-- What the storage keeper finds on the NAND at mount (R366–R368, R372): the device, its geometry, whether it is within the limits of R366, its
factory bad blocks, whether the last page of the open block fails to decode. -/
structure NandFound where
  id        : Nat
  blocks    : Nat
  page4k    : Bool
  pages128  : Bool
  nvddr2    : Bool
  supported : Bool
  badBlocks : List Nat
  torn      : Bool
deriving DecidableEq, Repr

/-- The commands of spec/opcode_table.json, one constructor per row, in the table's order. -/
inductive Instr where
  /-- REGISTER_WRITE (R14): a 32-bit management write of `value` to package address `addr`, byte enables `be` (bit i enables byte i, R221). -/
  | registerWrite (a : Acc) (addr : Nat) (value : Word) (be : Nat)
  /-- KEYSTONE_WRITE (R64): the same, to a word that holds RK fields or to a keystone table memory. -/
  | keystoneWrite (a : Acc) (addr : Nat) (value : Word) (be : Nat)
  /-- TARGET_TIMEOUT (R41): the completion of write `id` of requester `r` has not come 100 µs after it left. -/
  | targetTimeout (r : Req) (id : Nat)
  /-- WRITE_ACK (R51): the internal acknowledgement of write `id` of requester `r` comes back. -/
  | writeAck (r : Req) (id : Nat) (at_ : Nat)
  /-- SG_FENCE (R51): a write of SG_FENCE on die `die`. -/
  | sgFence (a : Acc) (die : Nat) (value : Word)
  /-- SG_FENCE_WAIT (R52): a read of SG_FENCE_WAIT on die `die`. -/
  | sgFenceWait (a : Acc) (die : Nat)
  /-- FENCE_TIMEOUT (R52): the oldest open fence of requester `r` is 100 µs old. -/
  | fenceTimeout (r : Req)
  /-- FLIT_CRC_FAIL (R28): a flit sent at this span port fails its CRC at the peer. -/
  | flitCrcFail (tile span : Nat) (at_ : Nat)
  /-- SPAN_DOWN (R28): the eighth replay in a row of one flit has failed at this span port; `lost` lists, as (tile, copy id, cells), the copies with cells in flight and how many. -/
  | spanDown (tile span : Nat) (lost : List (Nat × Nat × Nat)) (at_ : Nat)
  /-- SPAN_RETRAIN (R28): 1 ms has passed since this span went DOWN or last retrained. -/
  | spanRetrain (tile span : Nat)
  /-- SPAN_UP (R28): this span completes training. -/
  | spanUp (tile span : Nat) (at_ : Nat)
  /-- TETHER_HEARTBEAT (R32): a 10 µs heartbeat slot of one direction of a tether: the heartbeat arrived, or it is missing. -/
  | tetherHeartbeat (tether : Nat) (toTile arrived : Bool) (at_ : Nat)
  /-- TETHER_DOWN (R32): the third heartbeat in a row is missing on this tether. -/
  | tetherDown (tether : Nat) (at_ : Nat)
  /-- TETHER_RETRAIN (R32): 1 ms has passed since this tether went DOWN or last retrained. -/
  | tetherRetrain (tether : Nat)
  /-- TETHER_UP (R32): three heartbeats in a row have arrived in each direction. -/
  | tetherUp (tether : Nat) (at_ : Nat)
  /-- TAMPER_LEVEL (R33): this tile sees the tamper level on one of its inputs. -/
  | tamperLevel (tile : Nat) (at_ : Nat)
  /-- TIME_BEAT (R44): a time beat reaches this tile, which measures `offset` (its count minus the reference, in 2⁻¹⁶ ns). -/
  | timeBeat (tile : Nat) (offset : Int) (at_ : Nat)
  /-- KS_REQUEST (R60): a write of SI_KS_REQUEST on `tile`. -/
  | ksRequest (a : Acc) (tile : Nat) (value : Word)
  /-- PREPARE (R61): PREPARE reaches this tile. -/
  | prepare (tile : Nat) (at_ : Nat)
  /-- DRAIN_START (R61): T_c − D on this tile. -/
  | drainStart (tile : Nat)
  /-- DRAIN_COMPLETE (R62): this tile's pipeline and trestle input stage are empty. -/
  | drainComplete (tile : Nat) (at_ : Nat)
  /-- DRAINED (R61): DRAINED of this tile reaches the coordinator. -/
  | drained (tile : Nat) (at_ : Nat)
  /-- KS_DEADLINE (R67): T_c − 250 ns on the coordinator. -/
  | ksDeadline 
  /-- DECISION_ACK (R69): this tile's acknowledgement of the decision reaches the coordinator. -/
  | decisionAck (tile : Nat) (at_ : Nat)
  /-- DECISION_REPEAT (R61): 1 µs since the coordinator last sent its decision. -/
  | decisionRepeat 
  /-- CONFIRM (R61): the CONFIRM decision reaches this tile. -/
  | confirm (tile : Nat) (at_ : Nat)
  /-- ABORT (R67): the abort decision reaches this tile. -/
  | abort (tile : Nat) (at_ : Nat)
  /-- KS_COMMIT (R58): T_c on this tile. -/
  | ksCommit (tile : Nat)
  /-- COMMIT_ACK (R70): this tile's acknowledgement of the commit reaches the coordinator. -/
  | commitAck (tile : Nat) (at_ : Nat)
  /-- BANK_COPY_DONE (R58): the background bank copy of this tile ends. -/
  | bankCopyDone (tile : Nat) (at_ : Nat)
  /-- TILE_LOST (R68): this tile is declared lost. -/
  | tileLost (tile : Nat) (at_ : Nat)
  /-- FRAME_RECEIVE (R72): a frame arrives at this local port; `at_` is the instant of its message timestamp point (R169). -/
  | frameReceive (tile port : Nat) (f : RxFrame) (at_ : Nat)
  /-- RECIRCULATION_PASS (R95): the frame at the head of a recirculation list of this tile enters port 23. -/
  | recirculationPass (tile : Nat) (at_ : Nat)
  /-- FRAG_EXPIRE (R83): LIFE_US has passed since fragment entry `idx` of this tile was created. -/
  | fragExpire (tile idx : Nat)
  /-- CT_AGING (R100): package time is the whole number `n` of µs. -/
  | ctAging (tile n : Nat)
  /-- CT_INSERT (R103): a write of PR_CT_CMD with OP = 1. -/
  | ctInsert (a : Acc) (tile : Nat)
  /-- CT_DELETE (R103): a write of PR_CT_CMD with OP = 2. -/
  | ctDelete (a : Acc) (tile : Nat)
  /-- CT_LOOKUP (R103): a write of PR_CT_CMD with OP = 3. -/
  | ctLookup (a : Acc) (tile : Nat)
  /-- ENQUEUE (R110): the waiting copy `copy` of this egress tile is offered to its queue. -/
  | enqueue (tile copy : Nat) (at_ : Nat)
  /-- SPAN_CREDIT_GRANT (R125): egress tile `tile` grants credit to (`src`, `tc`). -/
  | spanCreditGrant (tile src tc cells : Nat) (at_ : Nat)
  /-- TRANSMIT_DECISION (R141): the scheduler of this port takes a transmit decision. -/
  | transmitDecision (tile : Nat) (turn : TxTurn) (at_ : Nat)
  /-- TRANSMIT_END (R109): the frame in transmission on this port ends on the wire. -/
  | transmitEnd (tile port : Nat) (at_ : Nat)
  /-- PAUSE_REFRESH (R112): 1,024 quanta since the port last sent the pause of a held XOFF. -/
  | pauseRefresh (tile port : Nat) (at_ : Nat)
  /-- PFC_RECEIVE (R113): a PFC frame with priority enable vector `enable` and eight quanta. -/
  | pfcReceive (tile port : Nat) (enable : Nat) (quanta : List Nat) (at_ : Nat)
  /-- PAUSE_RECEIVE (R113): an 802.3 pause frame. -/
  | pauseReceive (tile port quanta : Nat) (at_ : Nat)
  /-- PAUSE_EXPIRE (R113): the quanta of the pause on this queue run out. -/
  | pauseExpire (tile port queue : Nat)
  /-- WATCHDOG_STALL (R121): the watchdog timer of this queue reaches STALL_MS. -/
  | watchdogStall (tile port queue : Nat)
  /-- OVERFLOW_READBACK (R123): the next overflow frame of this queue is read back. -/
  | overflowReadback (tile port queue : Nat) (eccOk : Bool) (at_ : Nat)
  /-- MC_HOLD_EXPIRE (R131): HOLD_US since the resolution of the waiting multicast copy `copy`. -/
  | mcHoldExpire (tile copy : Nat)
  /-- LINK_DOWN (R135): the link of this port goes down. -/
  | linkDown (tile port : Nat) (at_ : Nat)
  /-- LINK_UP (R135): the link of this port comes up (`mbps` negotiated, SGMII only). -/
  | linkUp (tile port mbps : Nat) (at_ : Nat)
  /-- GCL_ENTRY_START (R148): an entry of this port's gate control list starts. -/
  | gclEntryStart (tile port : Nat) (at_ : Nat)
  /-- MERGE_VERIFY (R152): an 802.3br verification attempt ends. -/
  | mergeVerify (tile port : Nat) (ok : Bool) (at_ : Nat)
  /-- STREAM_GATE_ENTRY (R159): an entry of this stream gate's list starts. -/
  | streamGateEntry (tile gate : Nat) (at_ : Nat)
  /-- FRER_RESET (R166): RESET_MS since recovery function `fn` last passed a copy. -/
  | frerReset (tile fn : Nat)
  /-- GEN_RESET (R164): a write of TS_GEN_RESET. -/
  | genReset (a : Acc) (tile : Nat) (value : Word)
  /-- TXTS_POP (R170): a read of TM_TXTS_INFO. -/
  | txtsPop (a : Acc) (tile : Nat)
  /-- RATE_ADJ (R172): a write of TM_RATE_ADJ. -/
  | rateAdj (a : Acc) (tile : Nat) (value : Word)
  /-- PHASE_ADJ (R172): a write of TM_PHASE_ADJ. -/
  | phaseAdj (a : Acc) (tile : Nat) (value : Word)
  /-- SAMPLE (R173): package time is `n` × SAMP_INTERVAL. -/
  | sample (tile n : Nat)
  /-- BUS_FRAME_RX (R182): a sentinel bus controller receives a good frame (`own`: one it sent itself). -/
  | busFrameRx (m : BusMsg) (own : Bool) (time : FrameTime)
  /-- TRESTLE_INPUT (R185): the input stage of this tile's trestle takes its next message. -/
  | trestleInput (tile : Nat) (at_ : Nat)
  /-- ACF_FRAME (R198): the next frame delivered to port 21 of this tile is taken. -/
  | acfFrame (tile : Nat) (at_ : Nat)
  /-- AUTH_VERIFY (R200): the authentication engine of this tile verifies the message at its head. -/
  | authVerify (tile : Nat) (at_ : Nat)
  /-- AUTH_GENERATE (R201): the authentication engine of this tile secures the output at its head. -/
  | authGenerate (tile : Nat) (at_ : Nat)
  /-- ACF_BATCH_SEND (R197): WAIT_US since the first message of the frame being filled. -/
  | acfBatchSend (tile stream : Nat)
  /-- BUS_CREDIT_RETURN (R209): a sentinel buffer returns a credit. -/
  | busCreditReturn (buf : BusBuf) (at_ : Nat)
  /-- TX_EXPIRED (R210): TX_LIFE_MS since this message of the buffer was posted. -/
  | txExpired (buf : BusBuf) (msg : TxMsg)
  /-- CAN_TX_DONE (R184): the frame in transmission on this CAN channel completes. -/
  | canTxDone (ch : Nat) (at_ : Nat)
  /-- CAN_BUS_OFF (R184): this CAN controller enters bus-off. -/
  | canBusOff (ch : Nat) (at_ : Nat)
  /-- CAN_AUTO_RECOVER (R184): 128 runs of 11 recessive bits since bus-off. -/
  | canAutoRecover (ch : Nat) (at_ : Nat)
  /-- RECOVER (R184): a write of BUS_CAN_CMD. -/
  | recover (a : Acc) (ch : Nat) (value : Word)
  /-- LIN_SCHEDULE_SLOT (R216): the next schedule slot of this LIN commander begins. -/
  | linScheduleSlot (ch : Nat) (at_ : Nat)
  /-- BAR2_ACCESS (R222): an inbound access through BAR2. -/
  | bar2Access (tile : Nat) (write : Bool) (offset len : Nat) (data : List Byte) (be : List Bool) (poisoned : Bool) (at_ : Nat)
  /-- OUTBOUND_ACCESS (R224): an outbound access of a core or of a DMA channel. -/
  | outboundAccess (tile : Nat) (who : OutReq) (write : Bool) (window offset len : Nat) (data : List Byte) (be : List Bool) (at_ : Nat)
  /-- OUTBOUND_COMPLETION (R228): a completion of one piece of an outbound read. -/
  | outboundCompletion (tile tag : Nat) (status : CplStatus) (data : List Byte) (at_ : Nat)
  /-- COMPLETION_TIMEOUT (R224): the completion timeout of an outbound read. -/
  | completionTimeout (tile tag : Nat)
  /-- PREFETCH_EXPIRE (R233): 2 µs since prefetched bytes came, unused. -/
  | prefetchExpire (tile : Nat)
  /-- MSIX_UNMASK (R235): a write that clears the mask bit of this vector. -/
  | msixUnmask (a : Acc) (tile vec : Nat)
  /-- PCIE_LINK_DOWN (R220): the PCIe link of this endpoint goes down. -/
  | pcieLinkDown (tile : Nat) (at_ : Nat)
  /-- DMA_TAIL_WRITE (R240): a write of DM_CH_TAIL. -/
  | dmaTailWrite (a : Acc) (tile ch : Nat) (value : Word)
  /-- DESCRIPTOR (R241): the channel processes its descriptor at HEAD; the bytes it reads through outbound windows come from `hostData`, what the host holds by host address, and `err` is an error its accesses meet. -/
  | descriptor (tile ch : Nat) (hostData : List (Nat × Byte)) (err : Option DmaErr) (at_ : Nat)
  /-- DESCRIPTOR_DONE (R243): the data writes of the descriptor are acknowledged and it is written back. -/
  | descriptorDone (tile ch : Nat) (wbFails : Bool) (at_ : Nat)
  /-- STOP (R247): a write of DM_CH_CMD.STOP. -/
  | stop (a : Acc) (tile ch : Nat)
  /-- RESUME (R247): a write of DM_CH_CMD.RESUME. -/
  | resume (a : Acc) (tile ch : Nat)
  /-- RX_FRAME_DMA (R249): an RX or ANALYSIS channel takes a frame. -/
  | rxFrameDma (tile ch : Nat) (reads : DmaReads) (at_ : Nat)
  /-- ALLOC (R252): a read of the pod ALLOC address. -/
  | alloc (a : Acc) (tile owner pool : Nat)
  /-- SHARE (R252): a write of the pod SHARE address. -/
  | share (a : Acc) (tile owner other : Nat) (handle : Word)
  /-- RELEASE (R252): a write of the pod RELEASE address. -/
  | release (a : Acc) (tile owner : Nat) (handle : Word)
  /-- FREE (R252): a write of the pod FREE address. -/
  | free (a : Acc) (tile owner : Nat) (handle : Word)
  /-- CK_FEED (R258): a write of CK_FEED. -/
  | ckFeed (a : Acc) (tile unit_ : Nat) (value : Word)
  /-- CK_FEED_B (R258): a write of CK_FEED_B. -/
  | ckFeedB (a : Acc) (tile unit_ : Nat) (value : Word)
  /-- CK_RESTART (R258): a write of CK_CMD.RESTART. -/
  | ckRestart (a : Acc) (tile unit_ : Nat)
  /-- CK_PRESET (R257): a write of CK_CMD.PRESET. -/
  | ckPreset (a : Acc) (tile unit_ : Nat)
  /-- CK_VALUE_LOAD (R260): a write of VALUE_LO or VALUE_HI. -/
  | ckValueLoad (a : Acc) (tile unit_ : Nat) (high : Bool) (value : Word)
  /-- DERIVE (R270): a write of KY_CMD with OP = 1. -/
  | derive (a : Acc) (slot : Nat)
  /-- IMPORT (R272): a write of KY_CMD with OP = 2. -/
  | import_ (a : Acc) (slot : Nat)
  /-- REVOKE (R273): a write of KY_CMD with OP = 3. -/
  | revoke (a : Acc) (slot : Nat)
  /-- SLOT_RELEASE (R277): a write of KY_CMD with OP = 4. -/
  | slotRelease (a : Acc) (slot : Nat)
  /-- NONCE (R283): a write of KY_CMD with OP = 5. -/
  | nonce (a : Acc)
  /-- ATTEST (R281): a write of KY_CMD with OP = 6. -/
  | attest (a : Acc)
  /-- TICKET (R283): a write of KY_CMD with OP = 7. -/
  | ticket (a : Acc)
  /-- VAULT_COMMAND_DONE (R271): the running vault command ends; `fuseFail`: the row of a FUSE_PROGRAM ticket whose read-back does not read 1 (R266). -/
  | vaultCommandDone (fuseFail : Option Nat) (at_ : Nat)
  /-- KEY_TIMER (R274): T_r − lead of this expiry timer. -/
  | keyTimer (timer : Nat)
  /-- REVOCATION_COMMIT (R275): T_r of the pending revocation `seq`. -/
  | revocationCommit (seq : Nat)
  /-- REVOCATION_SWEEP_DONE (R275): the sweep of revocation `seq` has ended and every tile in service has acknowledged. -/
  | revocationSweepDone (seq : Nat) (at_ : Nat)
  /-- REVOCATION_MESSAGE (R276): the numbered revocation message reaches this tile. -/
  | revocationMessage (tile seq : Nat) (at_ : Nat)
  /-- REVOCATION_BEAT (R276): the vault's beat with the latest revocation number reaches this tile. -/
  | revocationBeat (tile seq : Nat) (at_ : Nat)
  /-- LEASE_EXPIRE (R276): 8 µs since this tile's last beat. -/
  | leaseExpire (tile : Nat)
  /-- KEY_TRANSFER (R278): a key transfer from the vault reaches a key cache of this tile. -/
  | keyTransfer (tile slot : Nat) (trestle : Bool) (at_ : Nat)
  /-- SA_VALID_WRITE (R280): a write of word 0 of a secure association entry. -/
  | saValidWrite (a : Acc) (tile : Nat) (offset : Nat) (value : Word)
  /-- TAMPER_EVENT (R284): this tamper source becomes active. -/
  | tamperEvent (source : Nat) (at_ : Nat)
  /-- MODE_REQUEST (R295): a write of PW_MODE_REQ. -/
  | modeRequest (a : Acc) (value : Word)
  /-- RESET (R295): a write of PW_CMD. -/
  | reset (a : Acc) (value : Word)
  /-- DEBUG_REQUEST (R303): a write of PW_DEBUG, by a management requester or (`port`) through the debug port. -/
  | debugRequest (a : Acc) (port : Bool) (value : Word)
  /-- SERVICE_LAPSE (R299): VALID_S of the SERVICE_ENTRY ticket passes. -/
  | serviceLapse 
  /-- DEBUG_TICKET_LAPSE (R302): VALID_S of the INVASIVE_DEBUG ticket passes. -/
  | debugTicketLapse 
  /-- BAT_POWER_UP (R295): BAT first reaches 5.5 V. -/
  | batPowerUp (at_ : Nat)
  /-- WAKE_PIN (R310): this pin becomes debounced-active. -/
  | wakePin (pin : Nat) (at_ : Nat)
  /-- WAKE_PIN_STUCK (R311): this WAKE pin has been debounced-active for 250 ms. -/
  | wakePinStuck (pin : Nat)
  /-- CAN_WUP (R316): this transceiver in SLEEP detects a wake-up pattern. -/
  | canWup (ch : Nat) (at_ : Nat)
  /-- SELECTIVE_WAKE (R323): the selective-wake decoder of this channel decodes a frame. -/
  | selectiveWake (ch : Nat) (m : CanFrame) (at_ : Nat)
  /-- SWK_ERROR_OVERFLOW (R323): the selective-wake decoder of this channel meets a decoding error. -/
  | swkErrorOverflow (ch : Nat) (at_ : Nat)
  /-- TRX_FAILSAFE (R315): 300 ms in STANDBY with no command. -/
  | trxFailsafe (ch : Nat)
  /-- WATCH_CORE_FAILSAFE (R315): 300 ms with no refresh by the watch core. -/
  | watchCoreFailsafe (at_ : Nat)
  /-- TXD_TIMEOUT (R316): TXD of this CAN channel dominant beyond t_TXDTO. -/
  | txdTimeout (ch : Nat) (at_ : Nat)
  /-- BUS_DOM (R316): this bus dominant beyond t_BUSDOM. -/
  | busDom (ch : Nat) (at_ : Nat)
  /-- NM_MESSAGE (R318): an NM message is received on this channel. -/
  | nmMessage (ch : Nat) (m : CanFrame) (at_ : Nat)
  /-- NM_RING_SEND (R318): T_TYP_MS since this channel received the token. -/
  | nmRingSend (ch : Nat)
  /-- NM_RING_LOST (R318): T_MAX_MS since this channel's last NM transmission with no RING for it. -/
  | nmRingLost (ch : Nat)
  /-- LIMPHOME (R318): T_ERROR_MS since this channel last sent LIMPHOME. -/
  | limphome (ch : Nat)
  /-- NM_WAIT_EXPIRE (R320): T_WAIT_MS in PREPARE_SLEEP. -/
  | nmWaitExpire (ch : Nat)
  /-- PN_TIMEOUT (R322): 3 × T_MAX_MS since a message carried this partial network. -/
  | pnTimeout (pn : Nat)
  /-- CONFIRM_WAKE (R324): a write of NM_LOCAL. -/
  | confirmWake (a : Acc) (value : Word)
  /-- FALSE_WAKE (R324): QUIET_MS since the wake with no confirmation. -/
  | falseWake 
  /-- NEW_PERIOD (R326): a write of EL_CMD. -/
  | newPeriod (a : Acc) (value : Word)
  /-- PLAN_TICK (R328): the next plan tick: mean current measured, die temperature, charge of the tick. -/
  | planTick (meas : Nat) (temp : Int) (spentNah : Nat)
  /-- PLAN_TIMER (R331): the k-th housekeeping instant of the period. -/
  | planTimer (k : Nat)
  /-- HK_MAX (R331): HK_MAX_S since the housekeeping wake. -/
  | hkMax 
  /-- RETENTION_CONFIRM (R406): this tile confirms that its retention switch stands at VSTBY. -/
  | retentionConfirm (tile : Nat) (at_ : Nat)
  /-- VSTBY_LOW (R332): VSTBY below its minimum for more than 10 µs. -/
  | vstbyLow (mv : Nat) (at_ : Nat)
  /-- EL_COPY_REFRESH (R333): the 1 ms refresh of this tile's EL copy. -/
  | elCopyRefresh (tile : Nat) (at_ : Nat)
  /-- ROUND_BOUNDARY (R338): a round of this tile's cluster ends. -/
  | roundBoundary (tile : Nat) (run : RoundRun) (at_ : Nat)
  /-- VOTE (R342): the digests of this cluster's cores are in. -/
  | vote (tile : Nat) (v : VoteIn) (at_ : Nat)
  /-- DIGEST_GRACE (R341): GRACE_US since the first core presented its digests; `core` has not. -/
  | digestGrace (tile core : Nat)
  /-- STANDBY_ROUND (R349): the standby's re-executed round ends with its own voted digest. -/
  | standbyRound (digest : Quad) (ownVoteOk : Bool) (at_ : Nat)
  /-- STANDBY_SYNC (R349): the active's checkpoint copy reaches the standby. -/
  | standbySync (at_ : Nat)
  /-- STANDBY_TIMEOUT (R350): a HEALTHY standby detects failure of the active; `replay` are the outputs of the unvoted round re-executed. -/
  | standbyTimeout (cause : StbyCause) (replay : List HeldOut) (at_ : Nat)
  /-- STEWARD_RESTART (R353): this cluster restarts itself. -/
  | stewardRestart (tile : Nat) (at_ : Nat)
  /-- REJOIN (R346): a write of SG_REJOIN. -/
  | rejoin (a : Acc) (tile : Nat) (value : Word)
  /-- DOUBT_CLEAR (R352): a write of SG_DOUBT_CLEAR. -/
  | doubtClear (a : Acc) (tile : Nat) (value : Word)
  /-- CENSUS_LATCH (R357): T_s on this die. -/
  | censusLatch (die : Nat) (periodic : Bool) (at_ : Nat)
  /-- CENSUS_REQUEST (R358): a write of CS_CEN_REQ. -/
  | censusRequest (a : Acc) (tile : Nat) (value : Word)
  /-- CENSUS_PREPARE (R359): the census prepare reaches this die. -/
  | censusPrepare (die : Nat) (at_ : Nat)
  /-- CENSUS_PUBLISH (R360): this die publishes its latched bank. -/
  | censusPublish (die : Nat) (at_ : Nat)
  /-- CENSUS_ABSENT (R359): 100 µs since T_s with no report of this die. -/
  | censusAbsent (die : Nat)
  /-- CENSUS_HOLD (R361): a write of CS_CEN_CFG.HOLD. -/
  | censusHold (a : Acc) (tile : Nat) (hold : Bool)
  /-- JOURNAL_COMMIT (R364): a write of CS_JNL_COMMIT. -/
  | journalCommit (a : Acc) (tile : Nat) (value : Word)
  /-- PAGE_PROGRAM (R371): the NAND page being programmed ends with status pass or FAIL. -/
  | pageProgram (ok : Bool) (at_ : Nat)
  /-- FLUSH_TIMER (R371): FLUSH_MS since the first record of the open page. -/
  | flushTimer 
  /-- FLUSH (R371): a write of ST_CMD.FLUSH. -/
  | flush (a : Acc)
  /-- NAND_MOUNT (R372): the keeper mounts the device it finds. -/
  | nandMount (d : NandFound) (at_ : Nat)
  /-- RD_GO (R373): a write of ST_CMD.RD_GO. -/
  | rdGo (a : Acc) (area : Nat)
  /-- RD_STOP (R373): a write of ST_CMD.RD_STOP. -/
  | rdStop (a : Acc)
  /-- RD_COPY_RECORD (R373): the keeper copies its next record. -/
  | rdCopyRecord (read : RecordRead)
  /-- KEEPER_WORK (R375): the keeper runs its next queued operation. -/
  | keeperWork (run : WorkRun) (at_ : Nat)
  /-- SCRUB_DUE (R370): this block reaches READ_LIMIT or SCRUB_DAYS. -/
  | scrubDue (block : Nat) (at_ : Nat)
  /-- NOR_SCRUB (R374): NOR_SCRUB_DAYS since the last NOR scrub. -/
  | norScrub (at_ : Nat)
  /-- WRITE (R390): a write of UP_CMD with OP = 1. -/
  | write (a : Acc)
  /-- VERIFY (R392): a write of UP_CMD with OP = 2. -/
  | verify (a : Acc) (stage : Bool)
  /-- ACTIVATE_LIVE (R393): a write of UP_CMD with OP = 3, HOW = LIVE. -/
  | activateLive (a : Acc)
  /-- ACTIVATE_RESTART (R393): a write of UP_CMD with OP = 3, HOW = RESTART. -/
  | activateRestart (a : Acc)
  /-- ACTIVATE_NEXT_START (R393): a write of UP_CMD with OP = 3, HOW = NEXT_START. -/
  | activateNextStart (a : Acc)
  /-- CONFIRM_TRIAL (R397): a write of UP_CMD with OP = 4. -/
  | confirmTrial (a : Acc)
  /-- ABANDON (R397): a write of UP_CMD with OP = 5. -/
  | abandon (a : Acc)
  /-- PROV_WRITE (R391): a write of UP_CMD with OP = 6. -/
  | provWrite (a : Acc)
  /-- UP_COMMAND_DONE (R390): the running WRITE, VERIFY or PROV_WRITE ends. -/
  | upCommandDone (readBackOk : Bool) (at_ : Nat)
  /-- ACTIVATION_FLUSH (R395): T_a + 1 ms. -/
  | activationFlush 
  /-- ACTIVATION_RESTART_DONE (R395): this tile reports the end of its restart (or a failure). -/
  | activationRestartDone (tile : Nat) (ok : Bool) (at_ : Nat)
  /-- ACTIVATION_TIMEOUT (R396): 11 ms of the restart phase. -/
  | activationTimeout 
  /-- TRIAL_END (R397): TRIAL_END of the running trial. -/
  | trialEnd 
  /-- BOOT_STAGE_DONE (R386): the current load stage ends, `ok` unless an image failure ends it. -/
  | bootStageDone (ok : Bool) (at_ : Nat)
  /-- SECTION_TIMEOUT (R387): 20 ms since this tile received its last section. -/
  | sectionTimeout (tile : Nat) (at_ : Nat)
  /-- PMIC_PG_RISE (R403): power-good of this group rises. -/
  | pmicPgRise (group : Nat) (at_ : Nat)
  /-- PMIC_ENABLE (R403): the enable of this group rises. -/
  | pmicEnable (group : Nat)
  /-- RAIL_TIMEOUT (R403): 10 ms since this group's enable with no power-good. -/
  | railTimeout (group : Nat)
  /-- PMIC_DISABLE (R404): the enable of this group falls. -/
  | pmicDisable (group : Nat) (at_ : Nat)
  /-- RAIL_FAULT (R405): power-good of this enabled group low for 10 µs. -/
  | railFault (group : Nat) (at_ : Nat)
  /-- BAT_LOW (R402): BAT below 4.5 V for 10 µs. -/
  | batLow (mv : Nat) (at_ : Nat)
  /-- BAT_RECOVER (R402): BAT returns to 5.5 V. -/
  | batRecover (mv : Nat) (at_ : Nat)
  /-- BAT_LOST (R289): BAT below 3.8 V for 10 µs. -/
  | batLost (at_ : Nat)
  /-- THERMAL_SAMPLE (R418): this tile samples its junction temperature. -/
  | thermalSample (tile : Nat) (temp : Int) (at_ : Nat)
  /-- THERMAL_SHUTDOWN (R418): this tile has been at or above 135 °C for 1 ms. -/
  | thermalShutdown (tile : Nat) (at_ : Nat)
  /-- THERMAL_RESTART (R418): 10 s since a thermal power-off. -/
  | thermalRestart 
  /-- LOW_WORD_READ (R11): a read of the low word of a 64-bit pair, or of TM_NOW_LO. -/
  | lowWordRead (a : Acc) (read : LowRead)
  /-- TETHER_TIME_ALIGN (R48): time alignment reaches the sentinel, leaving an error `err` (ns). -/
  | tetherTimeAlign (err : Int) (at_ : Nat)
  /-- SPILL_WRITE_DONE (R122): a frame of this SPILLED queue has been written whole to overflow memory. -/
  | spillWriteDone (tile port queue : Nat) (at_ : Nat)
  /-- SHAPER_ELIGIBLE (R145): the shaper credit of this queue rises back to 0. -/
  | shaperEligible (tile port queue : Nat)
  /-- BUS_FRAME_ERROR (R182): a sentinel bus controller detects a bad frame. -/
  | busFrameError (e : BusErr) (at_ : Nat)
  /-- FLEXRAY_SLOT (R181): the FlexRay controller reaches this slot. -/
  | flexraySlot (chA chB : Bool) (slot : Nat) (cycle : Nat) (dynamic : Bool) (at_ : Nat)
  /-- FLEXRAY_POC_CHANGE (R210): the protocol operation control changes state. -/
  | flexrayPocChange (poc : Nat) (at_ : Nat)
  /-- PCIE_LINK_UP (R220): the PCIe link of this endpoint comes up. -/
  | pcieLinkUp (tile speed width : Nat) (at_ : Nat)
  /-- PCIE_CONFIG_WRITE (R224): a host configuration write. -/
  | pcieConfigWrite (tile : Nat) (bme : Bool) (mps mrrs : Nat) (cplTimeoutUs : Nat) (at_ : Nat)
  /-- WAKE_PIN_INACTIVE (R311): this pin becomes debounced-inactive. -/
  | wakePinInactive (pin : Nat) (at_ : Nat)
  /-- TRANSCEIVER_COMMAND (R315): the watch core commands this transceiver to NORMAL (1), LISTEN (2) or SLEEP (4). -/
  | transceiverCommand (ch cmd : Nat) (at_ : Nat)
  /-- BUS_DOM_CLEAR (R316): this bus has been recessive for t_Filter. -/
  | busDomClear (ch : Nat) (at_ : Nat)
  /-- TXD_RECESSIVE (R316): TXD of this CAN or LIN channel goes recessive. -/
  | txdRecessive (lin : Bool) (ch : Nat) (at_ : Nat)
  /-- LIN_TXD_TIMEOUT (R416): TXD of this LIN channel dominant for more than 12 ms. -/
  | linTxdTimeout (ch : Nat) (at_ : Nat)
  /-- ALLOWANCE_LOW (R335): the meters add this charge while the package is awake. -/
  | allowanceLow (spentNah : Nat) (at_ : Nat)
  /-- STEWARD_RELOAD_DONE (R353): the reload of this restarted cluster completes. -/
  | stewardReloadDone (tile : Nat) (at_ : Nat)
  /-- BAT_BELOW_OPERATING (R402): BAT falls below 5.5 V but stays above 4.5 V. -/
  | batBelowOperating (mv : Nat) (at_ : Nat)
deriving DecidableEq, Repr

end Sys2Proof
end

