-- ==== Sys2Proof/Decode.lean ====
section
/-! DEFINITION. The command that a word spells, for the rows of spec/opcode_table.json that give bits. No row gives any. -/
namespace Sys2Proof

/-- The command a word of the table's bits spells: none, since no row of the table has bits. -/
def decodeTableWord (_nbits _w : Nat) : Option Instr := none

end Sys2Proof
end

