-- ==== Sys2Proof/Config.lean ====
section
/-! DEFINITION. What the spec leaves to standards it names and values it leaves open. None has a body: nothing in Lean can evaluate
one or prove a value of it, and a statement about one holds for every value. -/
namespace Sys2Proof

/-- ECDSA P-384 with SHA-384: signing (R281). The per-message secret of a signature is a random number. -/
opaque Config.ecdsaSign (key data : List Byte) : List Byte

/-- ML-DSA-65, pure mode, empty context (FIPS 204): verification, signing (R281, R283, R383). -/
opaque Config.mldsaVerify (pub data sig : List Byte) : Bool
opaque Config.mldsaSign (key data : List Byte) : List Byte

/-- The private keys that key material spells: P-384 by extra random bits, ML-DSA-65 from a seed of 32 bytes (R267, Table 9-4). The spec does not say
how the 56 bytes that extra random bits take come out of a key of 32. -/
opaque Config.p384Private (seed : List Byte) : List Byte
opaque Config.mldsaPrivate (seed : List Byte) : List Byte

/-- The sentinel's random bit generator (R265, R283): the n-th draw of `len` bytes. -/
opaque Config.randomBytes (n len : Nat) : List Byte

/-- Bytes 8–15 of the DATA_ID_LIST of E2E entry i (Table 6-10): the entry's two words hold eight bytes, and the spec gives the others no
place inside it (DESIGN CHOICE: a free value). -/
opaque Config.dataIdTail (i n : Nat) : Byte

/-- A value the spec leaves open: the n-th one a run meets (DESIGN CHOICE: a free value). -/
opaque Config.freeWord (n : Nat) : Nat

/-- What the bits of a number on which an integrity check or an erased memory leaves undefined read as. -/
opaque Config.freeByte (n : Nat) : Byte

/-- The census map (R356, Table 13-3): entry i of a die. The spec gives its layout and its number of entries, not what they hold. -/
opaque Config.censusMap (die i : Nat) : Nat

/-- What a section of a structure image fixes (Table 2-1): for a section type, a die and the section's bytes, the register words (offset, value)
it gives that die. The spec states what each section fixes and gives no layout for its bytes. -/
opaque Config.sectionWords (type die : Nat) (bytes : List Byte) : List (Nat × Nat)

/-- The parts of the shape that no register shows: onion depth, zones, firewall profiles, gate list lengths, local windows granted (R54). -/
opaque Config.onionDepth (bytes : List Byte) : Nat
opaque Config.zoneList (bytes : List Byte) : List (Nat × Nat)
opaque Config.profileCells (profile : Nat) (bytes : List Byte) : List (Nat × Nat)
opaque Config.gclLengths (tile : Nat) (bytes : List Byte) : List (Nat × Nat)
opaque Config.windowGrants (tile : Nat) (bytes : List Byte) : List (Nat × Nat)

/-- The PLCA node number and node count that a SENTINEL_PINS section sets for T1S PHY k (R417). -/
opaque Config.plcaNode (k : Nat) (bytes : List Byte) : Nat × Nat

/-- The size in bytes of a tile's LPDDR5X channel: CELL_CARVE names it and no register shows it (Table 2-1, R237). -/
opaque Config.lpddrBytes (tile : Nat) : Nat

/-- The depth of the FlexRay dynamic queue that a TRESTLE_SIZE section carves (Table 2-1). -/
opaque Config.flexrayDepth (bytes : List Byte) : Nat

/-- Content-key record k of a provisioning area (R384): the spec gives the record's form and not its place in the area. -/
opaque Config.contentRecord (area : List Byte) (k : Nat) : Option (List Byte)

/-- How many blocks a NAND device of n blocks keeps as spares (Table 13-7 GOOD_SPARE; R368 gives the limits, not the number). -/
opaque Config.nandSpare (n : Nat) : Nat

end Sys2Proof
end

