-- ==== Sys2Proof/Machine/Bits.lean ====
section
/-! DEFINITION. Bit fields of a 32-bit register word, byte orders, and the byte helpers every chapter uses (R10, R13). -/
namespace Sys2Proof.Machine

/-- The mask of the bits [hi:lo] (R10). -/
def fieldMask (hi lo : Nat) : Word := BitVec.ofNat 32 ((2 ^ (hi + 1 - lo) - 1) * 2 ^ lo)

/-- The value of the bits [hi:lo] of a word (R10). -/
def fieldGet (w : Word) (hi lo : Nat) : Nat := (w &&& fieldMask hi lo).toNat / 2 ^ lo

/-- The word with the bits [hi:lo] replaced by v, cut to the field's width (R10). -/
def fieldSet (w : Word) (hi lo v : Nat) : Word :=
  (w &&& ~~~ (fieldMask hi lo)) ||| (BitVec.ofNat 32 (v * 2 ^ lo) &&& fieldMask hi lo)

/-- The word whose enabled bytes come from `new` and whose other bytes come from `old` (R221: byte enables). -/
def byteMerge (be : Nat) (old new : Word) : Word :=
  let m : Word := BitVec.ofNat 32
    ((if be.testBit 0 then 0xFF else 0) + (if be.testBit 1 then 0xFF00 else 0)
      + (if be.testBit 2 then 0xFF0000 else 0) + (if be.testBit 3 then 0xFF000000 else 0))
  (old &&& ~~~ m) ||| (new &&& m)

/-- A Bool as a number. -/
def bit (b : Bool) : Nat := if b then 1 else 0

/-- A 32-bit value as a signed integer. -/
def sgn32 (w : Word) : Int := w.toInt

/-- A signed integer as a 32-bit two's complement value. -/
def toWord (i : Int) : Word := BitVec.ofInt 32 i

/-- Bytes of a number, most significant first (R13: frames are in network order). -/
def beBytes : Nat → Nat → List Byte
  | 0, _ => []
  | n + 1, v => BitVec.ofNat 8 (v / 256 ^ n) :: beBytes n v

/-- The number that bytes spell, most significant first. -/
def beNat (bs : List Byte) : Nat := bs.foldl (fun a b => a * 256 + b.toNat) 0

/-- Bytes of a number, least significant first (R10, R13: registers and table entries are little-endian). -/
def leBytes : Nat → Nat → List Byte
  | 0, _ => []
  | n + 1, v => BitVec.ofNat 8 v :: leBytes n (v / 256)

/-- The number that bytes spell, least significant first. -/
def leNat : List Byte → Nat
  | [] => 0
  | b :: bs => b.toNat + 256 * leNat bs

/-- n bytes from offset o; bytes past the end read 0. -/
def sliceBytes (bs : List Byte) (o n : Nat) : List Byte :=
  (List.range n).map (fun i => bs.getD (o + i) 0)

/-- The big-endian number in n bytes at offset o. -/
def beAt (bs : List Byte) (o n : Nat) : Nat := beNat (sliceBytes bs o n)

/-- The little-endian number in n bytes at offset o. -/
def leAt (bs : List Byte) (o n : Nat) : Nat := leNat (sliceBytes bs o n)

/-- The list with its i-th and following bytes overwritten by `new`. -/
def overwrite (bs : List Byte) (o : Nat) (new : List Byte) : List Byte :=
  bs.take o ++ new ++ bs.drop (o + new.length)

/-- Bits [hi:lo] of a number. -/
def natBits (n hi lo : Nat) : Nat := (n / 2 ^ lo) % 2 ^ (hi + 1 - lo)

/-- a / b, rounded up. -/
def ceilDiv (a b : Nat) : Nat := if b = 0 then 0 else (a + b - 1) / b

/-- Remove the first element that satisfies p. -/
def dropFirst {α : Type} (p : α → Bool) : List α → List α
  | [] => []
  | x :: xs => if p x then xs else x :: dropFirst p xs

/-- Replace each element that satisfies p by f of it. -/
def mapIf {α : Type} (p : α → Bool) (f : α → α) (l : List α) : List α :=
  l.map (fun x => if p x then f x else x)

end Sys2Proof.Machine
end

