-- ==== Sys2Proof/Machine/Crypto.lean ====
section
/-! DEFINITION. The ciphers and digests whose standards the spec names: AES (FIPS 197), CMAC (SP 800-38B), GCM (SP 800-38D), key wrap (SP 800-38F), SHA-256 and
SHA-384 (FIPS 180-4), HMAC (FIPS 198-1), ECDSA and ECDH on P-384 (FIPS 186-5, SP 800-56A). Each follows its standard, which the spec does not repeat. -/
namespace Sys2Proof.Machine

/-- Bytewise exclusive or of equally long lists. -/
def xorBytes (a b : List Nat) : List Nat := List.zipWith Nat.xor a b

/-- Bytes as numbers, and back. -/
def natBytes (l : List Byte) : List Nat := l.map (·.toNat)
def asBytes (l : List Nat) : List Byte := l.map (BitVec.ofNat 8)

/-- A list in pieces of n. -/
def chunks {α : Type} (n : Nat) : Nat → List α → List (List α)
  | 0, _ => []
  | k + 1, l => if l.isEmpty then [] else l.take n :: chunks n k (l.drop n)

/-! ### AES -/

/-- The S-box and its inverse, entry x in bits 8x + 7 to 8x. -/
def aesSbox : Nat := 0x16BB54B00F2D99416842E6BF0D89A18CDF2855CEE9871E9B948ED9691198F8E19E1DC186B95735610EF6034866B53E708A8BBD4B1F74DDE8C6B4A61C2E2578BA08AE7A65EAF4566CA94ED58D6D37C8E779E4959162ACD3C25C2406490A3A32E0DB0B5EDE14B8EE4688902A22DC4F816073195D643D7EA7C41744975FEC130CCDD2F3FF1021DAB6BCF5389D928F40A351A89F3C507F02F94585334D43FBAAEFD0CF584C4A39BECB6A5BB1FC20ED00D153842FE329B3D63B52A05A6E1B1A2C830975B227EBE28012079A059618C323C7041531D871F1E5A534CCF73F362693FDB7C072A49CAFA2D4ADF04759FA7DC982CA76ABD7FE2B670130C56F6BF27B777C63
def aesInvSbox : Nat := 0x7D0C2155631469E126D677BA7E042B17619953833CBBEBC8B0F52AAE4D3BE0A0EF9CC9939F7AE52D0D4AB519A97F51605FEC8027591012B131C7078833A8DD1FF45ACD78FEC0DB9A2079D2C64B3E56FC1BBE18AA0E62B76F89C5291D711AF1476EDF751CE837F9E28535ADE72274AC9673E6B4F0CECFF297EADC674F4111913A6B8A130103BDAFC1020F3FCA8F1E2CD00645B3B80558E4F70AD3BC8C00ABD890849D8DA75746155EDAB9EDFD5048706C92B6655DCC5CA4D41698688664F6F87225D18B6D49A25B76B224D92866A12E084EC3FA420B954CEE3D23C2A632947B54CBE9DEC444438E3487FF2F9B8239E37CFBD7F3819EA340BF38A53630D56A0952
def boxOf (t x : Nat) : Nat := t / 2 ^ (8 * x) % 256

/-- Multiplication by x, and by c < 16, in the field of AES. -/
def xtime (a : Nat) : Nat := if a < 128 then 2 * a else Nat.xor (2 * a) 0x11B
def fieldMul (c a : Nat) : Nat :=
  let b := xtime a
  let d := xtime b
  let part (i v : Nat) : Nat := if c.testBit i then v else 0
  Nat.xor (Nat.xor (part 0 a) (part 1 b)) (Nat.xor (part 2 d) (part 3 (xtime d)))

/-- The next word of the key schedule, from the last nk words, newest first. -/
def aesNextWord (nk i rcon : Nat) (ws : List (List Nat)) : List Nat :=
  let prev := ws.headD []
  let t :=
    if i % nk = 0 then
      (match (prev.drop 1 ++ prev.take 1).map (boxOf aesSbox) with
       | a :: l => Nat.xor a rcon :: l
       | [] => [])
    else if 6 < nk ∧ i % nk = 4 then prev.map (boxOf aesSbox) else prev
  xorBytes (ws.getD (nk - 1) []) t

/-- The words of the key schedule, newest first: n more of them. -/
def aesExpand (nk : Nat) : Nat → Nat → Nat → List (List Nat) → List (List Nat)
  | 0, _, _, ws => ws
  | n + 1, i, rcon, ws => aesExpand nk n (i + 1) (if i % nk = 0 then xtime rcon else rcon) (aesNextWord nk i rcon ws :: ws)

/-- The round keys of a key of 16 or 32 bytes, first round first. -/
def aesRoundKeys (key : List Nat) : List (List Nat) :=
  let nk := key.length / 4
  let ws := (aesExpand nk (4 * (nk + 7) - nk) nk 1 (chunks 4 nk key).reverse).reverse
  (chunks 4 (nk + 7) ws).map (·.flatten)

/-- Row r of the columns moves by r places; `inv` moves it back. -/
def aesShift (inv : Bool) (s : List Nat) : List Nat :=
  (List.range 16).map (fun i => s.getD ((i + (if inv then 12 else 4) * (i % 4)) % 16) 0)

/-- Each column times the polynomial whose coefficients are given. -/
def aesMix (m : List Nat) (s : List Nat) : List Nat :=
  (chunks 4 4 s).flatMap (fun c => (List.range 4).map (fun r =>
    ((List.range 4).map (fun k => fieldMul (m.getD ((k + 4 - r) % 4) 0) (c.getD k 0))).foldl Nat.xor 0))

/-- One block enciphered. -/
def aesBlock (rks : List (List Nat)) (b : List Nat) : List Nat :=
  match rks with
  | [] => b
  | k0 :: ks =>
    let mid := ks.dropLast.foldl (fun s k => xorBytes (aesMix [2, 3, 1, 1] (aesShift false (s.map (boxOf aesSbox)))) k) (xorBytes b k0)
    xorBytes (aesShift false (mid.map (boxOf aesSbox))) (ks.getLastD [])

/-- One block deciphered. -/
def aesUnblock (rks : List (List Nat)) (b : List Nat) : List Nat :=
  match rks with
  | [] => b
  | k0 :: ks =>
    let s0 := (aesShift true (xorBytes b (ks.getLastD []))).map (boxOf aesInvSbox)
    let mid := ks.dropLast.reverse.foldl (fun s k => (aesShift true (aesMix [14, 11, 13, 9] (xorBytes s k))).map (boxOf aesInvSbox)) s0
    xorBytes mid k0

/-! ### CMAC -/

def nat128 (b : List Nat) : Nat := b.foldl (fun a x => a * 256 + x) 0
def bytes128 (n : Nat) : List Nat := (beBytes 16 n).map (·.toNat)

/-- A subkey doubled. -/
def cmacDouble (n : Nat) : Nat := if n < 2 ^ 127 then 2 * n else Nat.xor (2 * n % 2 ^ 128) 0x87

/-- CMAC-AES (R199, R270). -/
def cmacBytes (key data : List Byte) : List Byte :=
  let rks := aesRoundKeys (natBytes key)
  let d := natBytes data
  let k1 := cmacDouble (nat128 (aesBlock rks (List.replicate 16 0)))
  let n := max 1 (ceilDiv d.length 16)
  let last := d.drop (16 * (n - 1))
  let final := if last.length = 16 then xorBytes last (bytes128 k1)
    else xorBytes (last ++ 0x80 :: List.replicate (15 - last.length) 0) (bytes128 (cmacDouble k1))
  asBytes (((chunks 16 n d).take (n - 1) ++ [final]).foldl (fun x b => aesBlock rks (xorBytes x b)) (List.replicate 16 0))

/-! ### GCM -/

/-- Multiplication in the field of GHASH; the first bit of a block is its most significant. -/
def ghashMul (x y : Nat) : Nat :=
  ((List.range 128).foldl (fun (r : Nat × Nat) i =>
    (if x.testBit (127 - i) then Nat.xor r.1 r.2 else r.1, if r.2 % 2 = 1 then Nat.xor (r.2 / 2) (0xE1 * 2 ^ 120) else r.2 / 2)) (0, y)).1

/-- Bytes filled up to whole blocks. -/
def padBlocks (d : List Nat) : List Nat := d ++ List.replicate ((16 - d.length % 16) % 16) 0

def ghash (h : Nat) (d : List Nat) : Nat := (chunks 16 d.length d).foldl (fun y b => ghashMul (Nat.xor y (nat128 b)) h) 0

/-- The counter after one step of its last 32 bits. -/
def gcmInc (c : Nat) : Nat := c / 2 ^ 32 * 2 ^ 32 + (c + 1) % 2 ^ 32

/-- Counter mode from a counter. -/
def gcmStream (rks : List (List Nat)) : List (List Nat) → Nat → List Nat
  | [], _ => []
  | b :: l, c => xorBytes b (aesBlock rks (bytes128 c)) ++ gcmStream rks l (gcmInc c)

/-- The first counter of an initial value. -/
def gcmFirst (h : Nat) (iv : List Nat) : Nat :=
  if iv.length = 12 then nat128 (iv ++ [0, 0, 0, 1]) else ghash h (padBlocks iv ++ bytes128 (8 * iv.length))

/-- The tag of a ciphertext. -/
def gcmTag (rks : List (List Nat)) (h j0 : Nat) (aad ct : List Nat) : List Nat :=
  xorBytes (bytes128 (ghash h (padBlocks aad ++ padBlocks ct ++ bytes128 (8 * aad.length * 2 ^ 64 + 8 * ct.length)))) (aesBlock rks (bytes128 j0))

/-- GCM-AES encryption (R75): the ciphertext followed by its ICV of 16 bytes. -/
def gcmSeal (key iv aad data : List Byte) : List Byte :=
  let rks := aesRoundKeys (natBytes key)
  let h := nat128 (aesBlock rks (List.replicate 16 0))
  let j0 := gcmFirst h (natBytes iv)
  let ct := gcmStream rks (chunks 16 data.length (natBytes data)) (gcmInc j0)
  asBytes (ct ++ gcmTag rks h j0 (natBytes aad) ct)

/-- GCM-AES decryption of a ciphertext followed by its ICV (R75, R384); none: it fails. -/
def gcmOpen (key iv aad data : List Byte) : Option (List Byte) :=
  if data.length < 16 then none
  else
    let rks := aesRoundKeys (natBytes key)
    let h := nat128 (aesBlock rks (List.replicate 16 0))
    let j0 := gcmFirst h (natBytes iv)
    let ct := natBytes (data.take (data.length - 16))
    if gcmTag rks h j0 (natBytes aad) ct = natBytes (data.drop (data.length - 16)) then
      some (asBytes (gcmStream rks (chunks 16 ct.length ct) (gcmInc j0)))
    else none

/-! ### Key wrap -/

def wrapIv : List Nat := List.replicate 8 0xA6

/-- One pass of wrapping over the halves, with the step count. -/
def wrapPass (rks : List (List Nat)) : List (List Nat) → List Nat → Nat → List Nat × List (List Nat) × Nat
  | [], a, t => (a, [], t)
  | r :: l, a, t =>
    let b := aesBlock rks (a ++ r)
    let x := wrapPass rks l (xorBytes (b.take 8) ((beBytes 8 (t + 1)).map (·.toNat))) (t + 1)
    (x.1, b.drop 8 :: x.2.1, x.2.2)

/-- AES key wrap (R384). -/
def keyWrap (kek key : List Byte) : List Byte :=
  let rks := aesRoundKeys (natBytes kek)
  let x := (List.range 6).foldl (fun (x : List Nat × List (List Nat) × Nat) _ => wrapPass rks x.2.1 x.1 x.2.2)
    (wrapIv, chunks 8 key.length (natBytes key), 0)
  asBytes (x.1 ++ x.2.1.flatten)

/-- One pass of unwrapping, over the halves last first. -/
def unwrapPass (rks : List (List Nat)) : List (List Nat) → List Nat → Nat → List Nat × List (List Nat) × Nat
  | [], a, t => (a, [], t)
  | r :: l, a, t =>
    let b := aesUnblock rks (xorBytes a ((beBytes 8 t).map (·.toNat)) ++ r)
    let x := unwrapPass rks l (b.take 8) (t - 1)
    (x.1, b.drop 8 :: x.2.1, x.2.2)

/-- AES key unwrap (R272, R384); none: the integrity check fails. -/
def keyUnwrap (kek data : List Byte) : Option (List Byte) :=
  let rks := aesRoundKeys (natBytes kek)
  let d := natBytes data
  let rs := (chunks 8 d.length (d.drop 8)).reverse
  let x := (List.range 6).foldl (fun (x : List Nat × List (List Nat) × Nat) _ => unwrapPass rks x.2.1 x.1 x.2.2) (d.take 8, rs, 6 * rs.length)
  if x.1 = wrapIv then some (asBytes x.2.1.reverse.flatten) else none

/-! ### SHA-2 and HMAC -/

/-- The round constants of SHA-512; those of SHA-256 are the upper halves of the first 64. -/
def shaK : List Nat :=
  [0x428A2F98D728AE22, 0x7137449123EF65CD, 0xB5C0FBCFEC4D3B2F, 0xE9B5DBA58189DBBC, 0x3956C25BF348B538, 0x59F111F1B605D019, 0x923F82A4AF194F9B, 0xAB1C5ED5DA6D8118, 0xD807AA98A3030242, 0x12835B0145706FBE, 0x243185BE4EE4B28C, 0x550C7DC3D5FFB4E2, 0x72BE5D74F27B896F, 0x80DEB1FE3B1696B1, 0x9BDC06A725C71235, 0xC19BF174CF692694, 0xE49B69C19EF14AD2, 0xEFBE4786384F25E3, 0x0FC19DC68B8CD5B5, 0x240CA1CC77AC9C65] ++
  [0x2DE92C6F592B0275, 0x4A7484AA6EA6E483, 0x5CB0A9DCBD41FBD4, 0x76F988DA831153B5, 0x983E5152EE66DFAB, 0xA831C66D2DB43210, 0xB00327C898FB213F, 0xBF597FC7BEEF0EE4, 0xC6E00BF33DA88FC2, 0xD5A79147930AA725, 0x06CA6351E003826F, 0x142929670A0E6E70, 0x27B70A8546D22FFC, 0x2E1B21385C26C926, 0x4D2C6DFC5AC42AED, 0x53380D139D95B3DF, 0x650A73548BAF63DE, 0x766A0ABB3C77B2A8, 0x81C2C92E47EDAEE6, 0x92722C851482353B] ++
  [0xA2BFE8A14CF10364, 0xA81A664BBC423001, 0xC24B8B70D0F89791, 0xC76C51A30654BE30, 0xD192E819D6EF5218, 0xD69906245565A910, 0xF40E35855771202A, 0x106AA07032BBD1B8, 0x19A4C116B8D2D0C8, 0x1E376C085141AB53, 0x2748774CDF8EEB99, 0x34B0BCB5E19B48A8, 0x391C0CB3C5C95A63, 0x4ED8AA4AE3418ACB, 0x5B9CCA4F7763E373, 0x682E6FF3D6B2B8A3, 0x748F82EE5DEFB2FC, 0x78A5636F43172F60, 0x84C87814A1F0AB72, 0x8CC702081A6439EC] ++
  [0x90BEFFFA23631E28, 0xA4506CEBDE82BDE9, 0xBEF9A3F7B2C67915, 0xC67178F2E372532B, 0xCA273ECEEA26619C, 0xD186B8C721C0C207, 0xEADA7DD6CDE0EB1E, 0xF57D4F7FEE6ED178, 0x06F067AA72176FBA, 0x0A637DC5A2C898A6, 0x113F9804BEF90DAE, 0x1B710B35131C471B, 0x28DB77F523047D84, 0x32CAAB7B40C72493, 0x3C9EBE0A15C9BEBC, 0x431D67C49C100D4C, 0x4CC5D4BECB3E42B6, 0x597F299CFC657E2A, 0x5FCB6FAB3AD6FAEC, 0x6C44198C4A475817]

/-- What SHA-256 and SHA-384 differ in: word width, amounts of Σ0, Σ1, σ0 and σ1 (the last of σ a shift), round constants. -/
structure ShaPar where
  w    : Nat
  big0 : List Nat
  big1 : List Nat
  sml0 : List Nat × Nat
  sml1 : List Nat × Nat
  ks   : List Nat

def sha256Par : ShaPar :=
  { w := 32, big0 := [2, 13, 22], big1 := [6, 11, 25], sml0 := ([7, 18], 3), sml1 := ([17, 19], 10), ks := (shaK.take 64).map (· / 2 ^ 32) }
def sha512Par : ShaPar :=
  { w := 64, big0 := [28, 34, 39], big1 := [14, 18, 41], sml0 := ([1, 8], 7), sml1 := ([19, 61], 6), ks := shaK }

/-- A word rotated right. -/
def ShaPar.rot (p : ShaPar) (x n : Nat) : Nat := x / 2 ^ n + x % 2 ^ n * 2 ^ (p.w - n)
def ShaPar.big (p : ShaPar) (l : List Nat) (x : Nat) : Nat := (l.map (p.rot x)).foldl Nat.xor 0
def ShaPar.small (p : ShaPar) (l : List Nat × Nat) (x : Nat) : Nat := (l.1.map (p.rot x)).foldl Nat.xor (x / 2 ^ l.2)

/-- The rounds of one block: the window of 16 schedule words, the state of 8. -/
def ShaPar.rounds (p : ShaPar) : List Nat → List Nat → List Nat → List Nat
  | k :: ks, w :: l, [a, b, c, d, e, f, g, h] =>
    let m := 2 ^ p.w
    let ch := Nat.xor (Nat.land e f) (Nat.land (m - 1 - e) g)
    let maj := Nat.xor (Nat.xor (Nat.land a b) (Nat.land a c)) (Nat.land b c)
    let t1 := h + p.big p.big1 e + ch + k + w
    let t2 := p.big p.big0 a + maj
    let next := (p.small p.sml1 (l.getD 13 0) + l.getD 8 0 + p.small p.sml0 (l.getD 0 0) + w) % m
    p.rounds ks (l ++ [next]) [(t1 + t2) % m, a, b, c, (d + t1) % m, e, f, g]
  | _, _, s => s

/-- The digest's state after some bytes. -/
def ShaPar.hash (p : ShaPar) (init : List Nat) (data : List Byte) : List Nat :=
  let n := data.length
  let blk := 2 * p.w
  let len := p.w / 4
  let msg := data ++ [0x80] ++ List.replicate ((2 * blk - (n + 1 + len) % blk) % blk) 0 ++ beBytes len (8 * n)
  (chunks blk msg.length msg).foldl (fun s b =>
    List.zipWith (fun x y => (x + y) % 2 ^ p.w) s (p.rounds p.ks ((chunks (p.w / 8) 16 b).map beNat) s)) init

def sha256Init : List Nat := [0x6A09E667, 0xBB67AE85, 0x3C6EF372, 0xA54FF53A, 0x510E527F, 0x9B05688C, 0x1F83D9AB, 0x5BE0CD19]
def sha384Init : List Nat :=
  [0xCBBB9D5DC1059ED8, 0x629A292A367CD507, 0x9159015A3070DD17, 0x152FECD8F70E5939,
   0x67332667FFC00B31, 0x8EB44A8768581511, 0xDB0C2E0D64F98FA7, 0x47B5481DBEFA4FA4]

/-- SHA-256 and SHA-384 (R264, R281, R383). -/
def sha256Bytes (data : List Byte) : List Byte := (sha256Par.hash sha256Init data).flatMap (beBytes 4)
def sha384Bytes (data : List Byte) : List Byte := ((sha512Par.hash sha384Init data).take 6).flatMap (beBytes 8)

/-- HMAC-SHA-256 (R270). -/
def hmacBytes (key data : List Byte) : List Byte :=
  let k := if 64 < key.length then sha256Bytes key else key
  let k := k ++ List.replicate (64 - k.length) 0
  sha256Bytes (k.map (· ^^^ 0x5C) ++ sha256Bytes (k.map (· ^^^ 0x36) ++ data))

/-! ### P-384 -/

/-- The prime, the coefficient b, the order and the base point of P-384. -/
def p384P : Nat := 2 ^ 384 - 2 ^ 128 - 2 ^ 96 + 2 ^ 32 - 1
def p384B : Nat := 0xB3312FA7E23EE7E4988E056BE3F82D19181D9C6EFE8141120314088F5013875AC656398D8A2ED19D2A85C8EDD3EC2AEF
def p384N : Nat := 0xFFFFFFFFFFFFFFFFFFFFFFFFFFFFFFFFFFFFFFFFFFFFFFFFC7634D81F4372DDF581A0DB248B0A77AECEC196ACCC52973
def p384G : Nat × Nat :=
  (0xAA87CA22BE8B05378EB1C71EF320AD746E1D3B628BA79B9859F741E082542A385502F25DBF55296C3A545E3872760AB7,
   0x3617DE4A96262C6F5D9E98BF9292DC29F8F41DBD289A147CE9DA3113B5F0B8C00A60B1CE1D7E819D7A431D7C90EA0E5F)

/-- b^e modulo m, by the n lowest bits of e. -/
def powMod (m : Nat) : Nat → Nat → Nat → Nat
  | 0, _, _ => 1
  | n + 1, b, e => (if e % 2 = 1 then b else 1) * powMod m n (b * b % m) (e / 2) % m

/-- The inverse modulo a prime of 384 bits. -/
def invMod (m a : Nat) : Nat := powMod m 384 (a % m) (m - 2)

/-- a − b modulo m. -/
def subMod (m a b : Nat) : Nat := (a + (m - b % m)) % m

/-- A point of the curve; none: the one at infinity. -/
def ecAdd (p q : Option (Nat × Nat)) : Option (Nat × Nat) :=
  match p, q with
  | none, q => q
  | p, none => p
  | some (x1, y1), some (x2, y2) =>
    if x1 = x2 ∧ (y1 + y2) % p384P = 0 then none
    else
      let l := if x1 = x2 then (3 * x1 * x1 + (p384P - 3)) * invMod p384P (2 * y1) % p384P
        else subMod p384P y2 y1 * invMod p384P (subMod p384P x2 x1) % p384P
      let x := subMod p384P (l * l) (x1 + x2)
      some (x, subMod p384P (l * subMod p384P x1 x) y1)

/-- k times a point, by the n lowest bits of k. -/
def ecMul : Nat → Nat → Option (Nat × Nat) → Option (Nat × Nat)
  | 0, _, _ => none
  | n + 1, k, p => let r := ecMul n (k / 2) (ecAdd p p); if k % 2 = 1 then ecAdd p r else r

/-- A point in uncompressed form, and the point that 97 bytes spell. -/
def ecPoint (bs : List Byte) : Option (Nat × Nat) :=
  if bs.length = 97 ∧ bs.head? = some 4 then some (beNat ((bs.drop 1).take 48), beNat (bs.drop 49)) else none

/-- A point is on the curve P-384 (R272). -/
def onCurve (point : List Byte) : Bool :=
  match ecPoint point with
  | some (x, y) => decide (x < p384P) && decide (y < p384P) && y * y % p384P == (x * x * x + (p384P - 3) * x + p384B) % p384P
  | none => false

/-- The public key of a private one. -/
def p384Public (priv : List Byte) : List Byte :=
  match ecMul 384 (beNat priv) (some p384G) with
  | some (x, y) => 4 :: (beBytes 48 x ++ beBytes 48 y)
  | none => List.replicate 97 0

/-- ECDH P-384 (R272): the shared secret of a private key and a peer's public key. -/
def ecdh (priv peer : List Byte) : List Byte :=
  match ecMul 384 (beNat priv) (ecPoint peer) with
  | some (x, _) => beBytes 48 x
  | none => List.replicate 48 0

/-- ECDSA P-384 with SHA-384: verification of a signature r ‖ s (R281, R283, R383). -/
def ecdsaVerify (pub data sig : List Byte) : Bool :=
  let r := beNat (sig.take 48)
  let t := beNat (sig.drop 48)
  let w := invMod p384N t
  onCurve pub && sig.length == 96 && decide (0 < r) && decide (r < p384N) && decide (0 < t) && decide (t < p384N) &&
  (match ecAdd (ecMul 384 (beNat (sha384Bytes data) * w % p384N) (some p384G)) (ecMul 384 (r * w % p384N) (ecPoint pub)) with
   | some (x, _) => x % p384N == r
   | none => false)

end Sys2Proof.Machine
end

