-- ==== Sys2Proof/Machine/Crc.lean ====
section
/-! DEFINITION. Cyclic redundancy checks of up to 64 bits, bit by bit: CRC-32C of the hash buckets (R88), and the general form of the
check-value units (R256). -/
namespace Sys2Proof.Machine

/-- The low w bits of n in reversed order. -/
def reflectBits : Nat → Nat → Nat
  | 0, _ => 0
  | w + 1, n => (n % 2) * 2 ^ w + reflectBits w (n / 2)

/-- k steps of a reflected register: shift right, and take the reversed polynomial in when a 1 falls out. -/
def crcStepsR (polyR : Nat) : Nat → Nat → Nat
  | 0, c => c
  | k + 1, c => crcStepsR polyR k (if c % 2 = 1 then Nat.xor (c / 2) polyR else c / 2)

/-- k steps of an unreflected register of width w: shift left, and take the polynomial in when a 1 falls out. -/
def crcStepsL (w poly : Nat) : Nat → Nat → Nat
  | 0, c => c
  | k + 1, c =>
    let c' := (2 * c) % 2 ^ w
    crcStepsL w poly k (if 2 ^ (w - 1) ≤ c then Nat.xor c' poly else c')

/-- CRC-32C over bytes, reflected, initial value and final XOR 0xFFFF_FFFF (R88). -/
def crc32c (bs : List Byte) : Nat :=
  Nat.xor (bs.foldl (fun c b => crcStepsR 0x82F63B78 8 (Nat.xor c b.toNat)) 0xFFFFFFFF) 0xFFFFFFFF

/-- CRC-32C over 32-bit words in ascending order, each in little-endian byte order (R88). -/
def crc32cWords (ws : List Nat) : Nat := crc32c (ws.flatMap (leBytes 4))

end Sys2Proof.Machine
end

