-- ==== Sys2Proof/Machine/RegTypes.lean ====
section
/-! DEFINITION. The shape of a register table row: access types (Table 0-3), classes (Table 0-4), fields and words. -/
namespace Sys2Proof.Machine

/-- The access types of Table 0-3 (R14). -/
inductive AccessType where
  | ro | rw | w1c | w1s | wo | rp | rk
deriving DecidableEq, Repr

/-- The field classes of Table 0-4 (R17). -/
inductive FieldClass where
  | cold | keystone | live
deriving DecidableEq, Repr

/-- One field of a register table: name, bit range [hi:lo], access, reset value, class, and the range of
values that is in shape, where the table gives a plain range. -/
structure Field where
  name : String
  hi   : Nat
  lo   : Nat
  acc  : AccessType
  rst  : Nat
  cls  : FieldClass
  rng  : Option (Nat × Nat)
deriving DecidableEq, Repr

/-- One register word of a block, or an array of them: word (i, j) lies at off + i × stride₀ + j × stride₁ (R10). -/
structure RegRow where
  off    : Nat
  dims   : List (Nat × Nat)
  fields : List Field
deriving DecidableEq, Repr

/-- A read-only 64-bit pair (R11), or an array of them. -/
structure PairRow where
  name : String
  off  : Nat
  dims : List (Nat × Nat)
deriving DecidableEq, Repr

/-- A field by place: the offset of its word within its die and its bits [hi:lo] (R10). -/
structure Fld where
  off : Nat
  hi  : Nat
  lo  : Nat
deriving DecidableEq, Repr

end Sys2Proof.Machine
end

