-- ==== Sys2Proof/Machine/RegMapSentinel.lean ====
section
/-! DEFINITION. The register tables of the sentinel, row by row as the chapters of spec/ print them
(word, bits, access type, reset value, class, and the plain value range where the table states one). -/
namespace Sys2Proof.Machine

/-- Words of the ID block (sentinel), part 0: the register tables of its chapter. -/
def sntWordsID0 : List RegRow := [
  { off := 0x0, dims := [], fields :=
    [⟨"MINOR", 3, 0, .ro, 0x1, .cold, none⟩,
     ⟨"MAJOR", 7, 4, .ro, 0x2, .cold, none⟩,
     ⟨"INDEX", 11, 8, .ro, 0x0, .cold, none⟩,
     ⟨"KIND", 15, 12, .ro, 0x0, .cold, none⟩,
     ⟨"DIES", 19, 16, .ro, 0x0, .cold, none⟩,
     ⟨"FAMILY", 31, 20, .ro, 0x1D8, .cold, none⟩] },
  { off := 0x10, dims := [], fields :=
    [⟨"WRITE", 0, 0, .ro, 0x0, .live, none⟩,
     ⟨"AGENT", 11, 8, .ro, 0x0, .live, none⟩,
     ⟨"TARGET_DIE", 19, 16, .ro, 0x0, .live, none⟩,
     ⟨"CODE", 27, 24, .ro, 0x0, .live, none⟩,
     ⟨"OVERFLOW", 30, 30, .w1c, 0x0, .live, none⟩,
     ⟨"VALID", 31, 31, .w1c, 0x0, .live, none⟩] },
  { off := 0x14, dims := [], fields :=
    [⟨"ADDR", 29, 0, .ro, 0x0, .live, none⟩] },
  { off := 0x70, dims := [], fields :=
    [⟨"CODE", 3, 0, .ro, 0x0, .live, none⟩,
     ⟨"AGENT", 7, 4, .ro, 0x0, .live, none⟩,
     ⟨"HOME_DIE", 11, 8, .ro, 0x0, .live, none⟩,
     ⟨"OVERFLOW", 30, 30, .w1c, 0x0, .live, none⟩,
     ⟨"VALID", 31, 31, .w1c, 0x0, .live, none⟩] },
  { off := 0x74, dims := [], fields :=
    [⟨"ADDR", 29, 0, .ro, 0x0, .live, none⟩] }]

/-- All words of the ID block. -/
def sntWordsID : List RegRow := sntWordsID0

/-- 64-bit read-only pairs (R11) of the ID block. -/
def sntPairsID : List PairRow := [
  ⟨"ID_MERR_COUNT", 0x18, []⟩,
  ⟨"ID_TIME", 0x20, []⟩,
  ⟨"ID_CFG_ERRS", 0x60, []⟩]

/-- Words of the KY block (sentinel), part 0: the register tables of its chapter. -/
def sntWordsKY0 : List RegRow := [
  { off := 0x10000, dims := [], fields :=
    [⟨"BUSY", 0, 0, .ro, 0x0, .live, none⟩,
     ⟨"DONE", 1, 1, .w1c, 0x0, .live, none⟩,
     ⟨"LOCKED", 2, 2, .ro, 0x0, .live, none⟩,
     ⟨"ZEROISED", 3, 3, .ro, 0x0, .live, none⟩,
     ⟨"RESULT", 11, 8, .ro, 0x0, .live, none⟩,
     ⟨"SLOTS_USED", 28, 16, .ro, 0x1, .live, none⟩] },
  { off := 0x10004, dims := [], fields :=
    [⟨"OP", 3, 0, .wo, 0x0, .live, none⟩,
     ⟨"SLOT", 15, 4, .wo, 0x0, .live, none⟩] },
  { off := 0x10008, dims := [], fields :=
    [⟨"KIND", 3, 0, .rw, 0x0, .live, none⟩,
     ⟨"KDF", 4, 4, .rw, 0x0, .live, none⟩,
     ⟨"LABEL", 15, 8, .rw, 0x0, .live, none⟩,
     ⟨"POLICY", 31, 16, .rw, 0x0, .live, none⟩] },
  { off := 0x1000C, dims := [], fields :=
    [⟨"KY_EXPIRY_LO", 31, 0, .rw, 0x0, .live, none⟩] },
  { off := 0x10010, dims := [], fields :=
    [⟨"KY_EXPIRY_HI", 31, 0, .rw, 0x0, .live, none⟩] },
  { off := 0x10014, dims := [], fields :=
    [⟨"KY_RV_LEAD_US", 9, 0, .rw, 0xA, .live, some (10, 1000)⟩] },
  { off := 0x10018, dims := [], fields :=
    [⟨"NEW_SLOT", 11, 0, .ro, 0x0, .live, none⟩,
     ⟨"NEW_GEN", 23, 16, .ro, 0x0, .live, none⟩] },
  { off := 0x10020, dims := [(0x4, 8)], fields :=
    [⟨"KY_CTX", 31, 0, .rw, 0x0, .live, none⟩] },
  { off := 0x10040, dims := [(0x4, 4)], fields :=
    [⟨"KY_NONCE", 31, 0, .ro, 0x0, .live, none⟩] },
  { off := 0x10058, dims := [], fields :=
    [⟨"PENDING", 3, 0, .ro, 0x0, .live, none⟩,
     ⟨"DONE", 4, 4, .w1c, 0x0, .live, none⟩,
     ⟨"SEQ", 31, 16, .ro, 0x0, .live, none⟩] },
  { off := 0x10080, dims := [(0x4, 16)], fields :=
    [⟨"SLOT", 11, 0, .rw, 0x0, .live, none⟩,
     ⟨"VALID", 31, 31, .rw, 0x0, .live, none⟩] },
  { off := 0x16000, dims := [(0x10, 64)], fields :=
    [⟨"EXPIRY_LO", 31, 0, .ro, 0x0, .live, none⟩] },
  { off := 0x16004, dims := [(0x10, 64)], fields :=
    [⟨"EXPIRY_HI", 31, 0, .ro, 0x0, .live, none⟩] },
  { off := 0x16008, dims := [(0x10, 64)], fields :=
    [⟨"SLOT", 11, 0, .ro, 0x0, .live, none⟩,
     ⟨"VALID", 31, 31, .ro, 0x0, .live, none⟩] }]

/-- All words of the KY block. -/
def sntWordsKY : List RegRow := sntWordsKY0

/-- 64-bit read-only pairs (R11) of the KY block. -/
def sntPairsKY : List PairRow := [
  ⟨"KY_RV_TR", 0x10050, []⟩,
  ⟨"KY_DERIVES", 0x10100, []⟩,
  ⟨"KY_IMPORTS", 0x10108, []⟩,
  ⟨"KY_REVOKES", 0x10110, []⟩,
  ⟨"KY_SWEPT", 0x10118, []⟩,
  ⟨"KY_REFUSED", 0x10120, []⟩,
  ⟨"KY_TAMPER_ABORTS", 0x10128, []⟩,
  ⟨"KY_TICKETS_OK", 0x10130, []⟩,
  ⟨"KY_TICKETS_BAD", 0x10138, []⟩,
  ⟨"KY_FUSE_FAIL", 0x10140, []⟩]

/-- Words of the NM block (sentinel), part 0: the register tables of its chapter. -/
def sntWordsNM0 : List RegRow := [
  { off := 0x20000, dims := [], fields :=
    [⟨"NODE", 9, 0, .rw, 0x0, .cold, none⟩] },
  { off := 0x20004, dims := [], fields :=
    [⟨"T_TYP_MS", 10, 0, .rw, 0x64, .live, some (10, 1000)⟩,
     ⟨"T_MAX_MS", 26, 16, .rw, 0xFA, .live, some (20, 2000)⟩] },
  { off := 0x20008, dims := [], fields :=
    [⟨"T_ERROR_MS", 13, 0, .rw, 0x3E8, .live, some (100, 10000)⟩,
     ⟨"T_WAIT_MS", 29, 16, .rw, 0x5DC, .live, some (100, 10000)⟩] },
  { off := 0x2000C, dims := [], fields :=
    [⟨"QUIET_MS", 15, 0, .rw, 0x7D0, .live, some (100, 60000)⟩,
     ⟨"STORM_MAX", 23, 16, .rw, 0x14, .live, some (1, 255)⟩] },
  { off := 0x20010, dims := [], fields :=
    [⟨"READY", 0, 0, .rw, 0x0, .live, none⟩,
     ⟨"CONFIRM", 1, 1, .wo, 0x0, .live, none⟩,
     ⟨"PN_REQ", 31, 8, .rw, 0x0, .live, none⟩] },
  { off := 0x20014, dims := [], fields :=
    [⟨"PN_ACTIVE", 23, 0, .ro, 0x0, .live, none⟩,
     ⟨"CONFIRMED", 24, 24, .ro, 0x0, .live, none⟩,
     ⟨"FALSE_WAKE_LAST", 25, 25, .ro, 0x0, .live, none⟩] },
  { off := 0x20018, dims := [], fields :=
    [⟨"LAST_WAKE_SRC", 4, 0, .ro, 0x0, .live, none⟩] },
  { off := 0x20020, dims := [(0x4, 24)], fields :=
    [⟨"NM_PN_MAP", 11, 0, .rw, 0x0, .live, none⟩] },
  { off := 0x20080, dims := [(0x4, 6)], fields :=
    [⟨"FUNC", 1, 0, .ro, 0x0, .cold, none⟩,
     ⟨"ACTIVE_HIGH", 2, 2, .ro, 0x0, .cold, none⟩,
     ⟨"LEVEL", 3, 3, .ro, 0x0, .live, none⟩,
     ⟨"STUCK", 4, 4, .ro, 0x0, .live, none⟩,
     ⟨"DEB", 24, 16, .rw, 0x64, .live, some (1, 500)⟩] },
  { off := 0x200A0, dims := [], fields :=
    [⟨"NM_WAKE_EVT", 5, 0, .w1c, 0x0, .live, none⟩] },
  { off := 0x20100, dims := [(0x40, 12)], fields :=
    [⟨"NM_EN", 0, 0, .rw, 0x0, .cold, none⟩,
     ⟨"EXT", 1, 1, .rw, 0x0, .cold, none⟩,
     ⟨"WUP_EN", 2, 2, .rw, 0x1, .live, none⟩,
     ⟨"SWK_EN", 3, 3, .rw, 0x0, .live, none⟩,
     ⟨"TX_WAKES", 4, 4, .rw, 0x0, .live, none⟩,
     ⟨"RX_ABORTS", 5, 5, .rw, 0x1, .live, none⟩,
     ⟨"ID_BASE", 26, 8, .rw, 0x0, .cold, none⟩] },
  { off := 0x20104, dims := [(0x40, 12)], fields :=
    [⟨"SWK_ID", 28, 0, .rw, 0x0, .live, none⟩,
     ⟨"IDE", 29, 29, .rw, 0x0, .live, none⟩] },
  { off := 0x20108, dims := [(0x40, 12)], fields :=
    [⟨"SWK_ID_MASK", 28, 0, .rw, 0x0, .live, none⟩] },
  { off := 0x2010C, dims := [(0x40, 12)], fields :=
    [⟨"SWK_DLC", 3, 0, .rw, 0x0, .live, none⟩,
     ⟨"DATA_EN", 4, 4, .rw, 0x0, .live, none⟩] },
  { off := 0x20110, dims := [(0x40, 12)], fields :=
    [⟨"SWK_DATA_MASK_LO", 31, 0, .rw, 0x0, .live, none⟩] },
  { off := 0x20114, dims := [(0x40, 12)], fields :=
    [⟨"SWK_DATA_MASK_HI", 31, 0, .rw, 0x0, .live, none⟩] },
  { off := 0x20118, dims := [(0x40, 12)], fields :=
    [⟨"TRX", 2, 0, .ro, 0x0, .live, none⟩,
     ⟨"RING", 5, 3, .ro, 0x0, .live, none⟩,
     ⟨"BUS_DOM", 6, 6, .ro, 0x0, .live, none⟩,
     ⟨"TXD_TO", 7, 7, .ro, 0x0, .live, none⟩,
     ⟨"FEC", 13, 8, .ro, 0x0, .live, none⟩] },
  { off := 0x20700, dims := [], fields :=
    [⟨"PROD", 7, 0, .ro, 0x0, .live, none⟩,
     ⟨"CONS", 23, 16, .rw, 0x0, .live, none⟩] }]

/-- All words of the NM block. -/
def sntWordsNM : List RegRow := sntWordsNM0

/-- 64-bit read-only pairs (R11) of the NM block. -/
def sntPairsNM : List PairRow := [
  ⟨"NM_SLEEP_ABORTS", 0x20120, [(0x40, 12)]⟩,
  ⟨"NM_TRX_FAILSAFE", 0x20128, [(0x40, 12)]⟩,
  ⟨"NM_RING_LOST", 0x20130, [(0x40, 12)]⟩,
  ⟨"NM_BUS_DOM", 0x20138, [(0x40, 12)]⟩,
  ⟨"NM_WAKE_SUPP", 0x20400, [(0x8, 18)]⟩,
  ⟨"NM_WAKE_TAKEN", 0x20500, [(0x8, 20)]⟩,
  ⟨"NM_FALSE_WAKES", 0x20600, []⟩,
  ⟨"NM_LOG_LOST", 0x20608, []⟩]

/-- Words of the EL block (sentinel), part 0: the register tables of its chapter. -/
def sntWordsEL0 : List RegRow := [
  { off := 0x30000, dims := [], fields :=
    [⟨"EL_ALLOWANCE_UAH", 31, 0, .rw, 0x0, .live, none⟩] },
  { off := 0x30004, dims := [], fields :=
    [⟨"EL_HORIZON_S", 23, 0, .rw, 0x0, .live, some (60, 16777215)⟩] },
  { off := 0x30008, dims := [], fields :=
    [⟨"NEW_PERIOD", 0, 0, .wo, 0x0, .live, none⟩] },
  { off := 0x3000C, dims := [], fields :=
    [⟨"EL_TICK_S", 11, 0, .rw, 0x0, .live, some (1, 3600)⟩] },
  { off := 0x30028, dims := [], fields :=
    [⟨"BASE_UA", 15, 0, .rw, 0x0, .live, none⟩,
     ⟨"DORMANT_UA", 31, 16, .rw, 0x0, .live, none⟩] },
  { off := 0x3002C, dims := [], fields :=
    [⟨"SWK_UA", 15, 0, .rw, 0x0, .live, none⟩,
     ⟨"UNSEEN_UA", 31, 16, .rw, 0x0, .live, none⟩] },
  { off := 0x30030, dims := [(0x4, 6)], fields :=
    [⟨"EL_RET_COST", 15, 0, .rw, 0x96, .live, none⟩] },
  { off := 0x30048, dims := [], fields :=
    [⟨"HK_PERIOD_H", 15, 0, .rw, 0x0, .live, some (0, 8760)⟩,
     ⟨"HK_MAX_S", 31, 16, .rw, 0x0, .live, some (10, 3600)⟩] },
  { off := 0x3004C, dims := [], fields :=
    [⟨"HK_COST_UAH", 31, 0, .rw, 0x0, .live, none⟩] },
  { off := 0x30050, dims := [(0x4, 8)], fields :=
    [⟨"EL_SHED_LIST", 31, 0, .rw, 0x0, .live, none⟩] },
  { off := 0x30070, dims := [], fields :=
    [⟨"RET_KEPT", 0, 0, .ro, 0x0, .live, none⟩,
     ⟨"HK_KEPT", 1, 1, .ro, 0x0, .live, none⟩,
     ⟨"SWK_KEPT", 13, 2, .ro, 0x0, .live, none⟩,
     ⟨"EXHAUSTED", 14, 14, .ro, 0x0, .live, none⟩,
     ⟨"HORIZON_PASSED", 15, 15, .ro, 0x0, .live, none⟩] },
  { off := 0x30074, dims := [], fields :=
    [⟨"TEMP", 7, 0, .ro, 0x0, .live, none⟩] },
  { off := 0x30078, dims := [], fields :=
    [⟨"MEAS_UA", 31, 0, .ro, 0x0, .live, none⟩] },
  { off := 0x3007C, dims := [], fields :=
    [⟨"DECL_UA", 31, 0, .ro, 0x0, .live, none⟩] },
  { off := 0x30080, dims := [], fields :=
    [⟨"WARN_UAH", 31, 0, .rw, 0x0, .live, none⟩] },
  { off := 0x30084, dims := [], fields :=
    [⟨"LOW", 0, 0, .w1c, 0x0, .live, none⟩,
     ⟨"SHED", 1, 1, .w1c, 0x0, .live, none⟩,
     ⟨"EXHAUSTED", 2, 2, .w1c, 0x0, .live, none⟩] }]

/-- All words of the EL block. -/
def sntWordsEL : List RegRow := sntWordsEL0

/-- 64-bit read-only pairs (R11) of the EL block. -/
def sntPairsEL : List PairRow := [
  ⟨"EL_SPENT", 0x30010, []⟩,
  ⟨"EL_HORIZON_END", 0x30018, []⟩,
  ⟨"EL_TOTAL", 0x30020, []⟩,
  ⟨"EL_SHEDS", 0x30088, []⟩,
  ⟨"EL_TICKS", 0x30090, []⟩]

/-- Words of the BUS block (sentinel), part 0: the register tables of its chapter. -/
def sntWordsBUS0 : List RegRow := [
  { off := 0x40000, dims := [(0x100, 12)], fields :=
    [⟨"MODE", 1, 0, .rw, 0x0, .cold, none⟩,
     ⟨"LISTEN_ONLY", 2, 2, .rw, 0x0, .cold, none⟩,
     ⟨"AUTO_RECOVER", 3, 3, .rw, 0x1, .live, none⟩,
     ⟨"SIC_XL", 4, 4, .rw, 0x0, .cold, none⟩] },
  { off := 0x40004, dims := [(0x100, 12)], fields :=
    [⟨"PRESC", 7, 0, .rw, 0x0, .cold, none⟩,
     ⟨"TSEG1", 15, 8, .rw, 0x0, .cold, none⟩,
     ⟨"TSEG2", 22, 16, .rw, 0x0, .cold, none⟩,
     ⟨"SJW", 29, 23, .rw, 0x0, .cold, none⟩] },
  { off := 0x40008, dims := [(0x100, 12)], fields :=
    [⟨"PRESC", 7, 0, .rw, 0x0, .cold, none⟩,
     ⟨"TSEG1", 15, 8, .rw, 0x0, .cold, none⟩,
     ⟨"TSEG2", 22, 16, .rw, 0x0, .cold, none⟩,
     ⟨"SJW", 29, 23, .rw, 0x0, .cold, none⟩] },
  { off := 0x4000C, dims := [(0x100, 12)], fields :=
    [⟨"PRESC", 7, 0, .rw, 0x0, .cold, none⟩,
     ⟨"TSEG1", 15, 8, .rw, 0x0, .cold, none⟩,
     ⟨"TSEG2", 22, 16, .rw, 0x0, .cold, none⟩,
     ⟨"SJW", 29, 23, .rw, 0x0, .cold, none⟩] },
  { off := 0x40010, dims := [(0x100, 12)], fields :=
    [⟨"TDCO", 6, 0, .rw, 0x0, .cold, none⟩,
     ⟨"TDC_EN", 7, 7, .rw, 0x0, .cold, none⟩] },
  { off := 0x40014, dims := [(0x100, 12)], fields :=
    [⟨"RECOVER", 0, 0, .wo, 0x0, .live, none⟩] },
  { off := 0x40018, dims := [(0x100, 12)], fields :=
    [⟨"TEC", 7, 0, .ro, 0x0, .live, none⟩,
     ⟨"REC", 15, 8, .ro, 0x0, .live, none⟩,
     ⟨"STATE", 17, 16, .ro, 0x0, .live, none⟩,
     ⟨"FROZEN", 18, 18, .ro, 0x0, .live, none⟩] },
  { off := 0x4001C, dims := [(0x100, 12)], fields :=
    [⟨"TXQ_DEPTH", 8, 0, .ro, 0x0, .cold, none⟩,
     ⟨"TXQ_USED", 24, 16, .ro, 0x0, .live, none⟩] },
  { off := 0x41000, dims := [(0x80, 6)], fields :=
    [⟨"ENABLE", 0, 0, .rw, 0x0, .cold, none⟩,
     ⟨"COMMANDER", 1, 1, .rw, 0x0, .cold, none⟩,
     ⟨"BITRATE", 22, 8, .rw, 0x4B00, .cold, some (1000, 20000)⟩] },
  { off := 0x41004, dims := [(0x80, 6)], fields :=
    [⟨"STATE", 1, 0, .ro, 0x0, .live, none⟩,
     ⟨"LAST_ID", 13, 8, .ro, 0x0, .live, none⟩] },
  { off := 0x42000, dims := [], fields :=
    [⟨"ENABLE", 0, 0, .rw, 0x0, .cold, none⟩,
     ⟨"COLDSTART", 1, 1, .rw, 0x0, .cold, none⟩,
     ⟨"CH_A", 2, 2, .rw, 0x0, .cold, none⟩,
     ⟨"CH_B", 3, 3, .rw, 0x0, .cold, none⟩,
     ⟨"RATE", 5, 4, .rw, 0x0, .cold, some (0, 2)⟩] },
  { off := 0x42004, dims := [], fields :=
    [⟨"MACRO_PER_CYCLE", 13, 0, .rw, 0x0, .cold, some (10, 16000)⟩] },
  { off := 0x42008, dims := [], fields :=
    [⟨"STATIC_SLOTS", 9, 0, .rw, 0x0, .cold, some (2, 1023)⟩,
     ⟨"KEY_SLOT", 20, 10, .rw, 0x0, .cold, some (1, 1023)⟩] },
  { off := 0x4200C, dims := [], fields :=
    [⟨"STATIC_SLOT_MT", 9, 0, .rw, 0x0, .cold, some (3, 664)⟩,
     ⟨"PAYLOAD_WORDS", 16, 10, .rw, 0x0, .cold, none⟩,
     ⟨"ACTION_POINT", 22, 17, .rw, 0x0, .cold, some (1, 63)⟩] },
  { off := 0x42010, dims := [], fields :=
    [⟨"MINISLOTS", 12, 0, .rw, 0x0, .cold, some (0, 7986)⟩,
     ⟨"MINISLOT_MT", 18, 13, .rw, 0x0, .cold, some (2, 63)⟩] },
  { off := 0x42014, dims := [], fields :=
    [⟨"POC", 2, 0, .ro, 0x0, .live, none⟩,
     ⟨"CYCLE", 13, 8, .ro, 0x0, .live, none⟩] }]

/-- All words of the BUS block. -/
def sntWordsBUS : List RegRow := sntWordsBUS0

/-- 64-bit read-only pairs (R11) of the BUS block. -/
def sntPairsBUS : List PairRow := [
  ⟨"BUS_CAN_RX", 0x40040, [(0x100, 12)]⟩,
  ⟨"BUS_CAN_TX", 0x40048, [(0x100, 12)]⟩,
  ⟨"BUS_CAN_ERR_FRAMES", 0x40050, [(0x100, 12)]⟩,
  ⟨"BUS_CAN_BUSOFF", 0x40058, [(0x100, 12)]⟩,
  ⟨"BUS_CAN_TX_EXPIRED", 0x40060, [(0x100, 12)]⟩,
  ⟨"BUS_CAN_TX_REPLACED", 0x40068, [(0x100, 12)]⟩,
  ⟨"BUS_LIN_RX", 0x41040, [(0x80, 6)]⟩,
  ⟨"BUS_LIN_TX", 0x41048, [(0x80, 6)]⟩,
  ⟨"BUS_LIN_NO_RESPONSE", 0x41050, [(0x80, 6)]⟩,
  ⟨"BUS_LIN_CHECKSUM_ERR", 0x41058, [(0x80, 6)]⟩,
  ⟨"BUS_FR_RX", 0x42040, []⟩,
  ⟨"BUS_FR_TX", 0x42048, []⟩,
  ⟨"BUS_FR_SYNTAX_ERR", 0x42050, []⟩,
  ⟨"BUS_FR_TX_EXPIRED", 0x42058, []⟩]

/-- Words of the TP block (sentinel), part 0: the register tables of its chapter. -/
def sntWordsTP0 : List RegRow := [
  { off := 0x50000, dims := [], fields :=
    [⟨"LINE", 0, 0, .ro, 0x0, .live, none⟩,
     ⟨"RAW", 8, 1, .ro, 0x0, .live, none⟩] },
  { off := 0x50004, dims := [], fields :=
    [⟨"SOURCES", 7, 0, .ro, 0x0, .live, none⟩,
     ⟨"DURING_BOOT", 8, 8, .ro, 0x0, .live, none⟩,
     ⟨"DURING_PARK", 9, 9, .ro, 0x0, .live, none⟩,
     ⟨"DURING_KEY_OP", 10, 10, .ro, 0x0, .live, none⟩,
     ⟨"BAT_LOST", 11, 11, .w1c, 0x0, .live, none⟩] },
  { off := 0x50010, dims := [(0x4, 4)], fields :=
    [⟨"ENABLE", 0, 0, .ro, 0x0, .cold, none⟩,
     ⟨"ACTIVE_HIGH", 1, 1, .ro, 0x0, .cold, none⟩,
     ⟨"DEBOUNCE_US", 29, 16, .rw, 0x3E8, .cold, some (10, 10000)⟩] },
  { off := 0x50020, dims := [], fields :=
    [⟨"WAKE_ON_TAMPER", 0, 0, .rw, 0x1, .cold, none⟩] }]

/-- All words of the TP block. -/
def sntWordsTP : List RegRow := sntWordsTP0

/-- 64-bit read-only pairs (R11) of the TP block. -/
def sntPairsTP : List PairRow := [
  ⟨"TP_FIRST_TIME", 0x50008, []⟩,
  ⟨"TP_EVENTS", 0x50028, []⟩]

/-- Words of the PW block (sentinel), part 0: the register tables of its chapter. -/
def sntWordsPW0 : List RegRow := [
  { off := 0x60000, dims := [], fields :=
    [⟨"MODE", 3, 0, .ro, 0x3, .live, none⟩,
     ⟨"PREV", 7, 4, .ro, 0x3, .live, none⟩,
     ⟨"REASON", 12, 8, .ro, 0x0, .live, none⟩,
     ⟨"DEBUG", 17, 16, .ro, 0x0, .live, none⟩,
     ⟨"LOCKSTEP_BROKEN", 18, 18, .ro, 0x0, .live, none⟩,
     ⟨"WARM_VALID", 19, 19, .ro, 0x0, .live, none⟩,
     ⟨"TILES_ON", 26, 20, .ro, 0x0, .live, none⟩] },
  { off := 0x60004, dims := [], fields :=
    [⟨"TARGET", 3, 0, .wo, 0x0, .live, none⟩] },
  { off := 0x60008, dims := [], fields :=
    [⟨"TILES", 6, 0, .rw, 0x1, .live, none⟩] },
  { off := 0x6000C, dims := [], fields :=
    [⟨"RESET", 0, 0, .wo, 0x0, .live, none⟩] },
  { off := 0x60010, dims := [], fields :=
    [⟨"REQ", 1, 0, .rw, 0x0, .live, some (0, 2)⟩,
     ⟨"REFUSED", 30, 30, .w1c, 0x0, .live, none⟩] },
  { off := 0x60014, dims := [], fields :=
    [⟨"RAIL", 0, 0, .w1c, 0x0, .live, none⟩] },
  { off := 0x60018, dims := [], fields :=
    [⟨"CODE", 2, 0, .ro, 0x0, .live, none⟩,
     ⟨"TARGET", 6, 3, .ro, 0x0, .live, none⟩,
     ⟨"OVERFLOW", 30, 30, .w1c, 0x0, .live, none⟩,
     ⟨"VALID", 31, 31, .w1c, 0x0, .live, none⟩] },
  { off := 0x60100, dims := [(0x4, 12)], fields :=
    [⟨"PW_POLICY", 14, 0, .ro, 0x0, .cold, none⟩] },
  { off := 0x60200, dims := [], fields :=
    [⟨"EN", 4, 0, .ro, 0x0, .live, none⟩,
     ⟨"PG", 9, 5, .ro, 0x0, .live, none⟩,
     ⟨"BAT_LOW", 10, 10, .ro, 0x0, .live, none⟩,
     ⟨"VSTBY_ON", 11, 11, .ro, 0x0, .live, none⟩,
     ⟨"THERM_SHUT", 18, 12, .w1c, 0x0, .live, none⟩,
     ⟨"INH0", 19, 19, .ro, 0x0, .live, none⟩,
     ⟨"INH1", 20, 20, .ro, 0x0, .live, none⟩] },
  { off := 0x60204, dims := [], fields :=
    [⟨"BAT_MV", 15, 0, .ro, 0x0, .live, none⟩,
     ⟨"VSTBY_MV", 31, 16, .ro, 0x0, .live, none⟩] }]

/-- All words of the PW block. -/
def sntWordsPW : List RegRow := sntWordsPW0

/-- 64-bit read-only pairs (R11) of the PW block. -/
def sntPairsPW : List PairRow := [
  ⟨"PW_LAST_CHANGE", 0x60020, []⟩,
  ⟨"PW_TRANSITIONS", 0x60040, []⟩,
  ⟨"PW_REFUSED", 0x60048, []⟩,
  ⟨"PW_WAKES_MERGED", 0x60050, []⟩,
  ⟨"PW_RESETS", 0x60058, []⟩,
  ⟨"PW_BAT_LOW_EVENTS", 0x60240, []⟩,
  ⟨"PW_RAIL_FAULTS", 0x60248, []⟩,
  ⟨"PW_THERM_SHUTDOWNS", 0x60250, []⟩]

/-- Words of the FU block (sentinel), part 0: the register tables of its chapter. -/
def sntWordsFU0 : List RegRow := [
  { off := 0x70000, dims := [], fields :=
    [⟨"PROVISIONED", 0, 0, .ro, 0x0, .cold, none⟩,
     ⟨"FIELD", 1, 1, .ro, 0x0, .cold, none⟩,
     ⟨"SCRAPPED", 2, 2, .ro, 0x0, .cold, none⟩,
     ⟨"STATE", 10, 8, .ro, 0x0, .live, none⟩,
     ⟨"ROOT_PRESENT", 11, 11, .ro, 0x0, .cold, none⟩,
     ⟨"ROOT_LOCKED", 12, 12, .ro, 0x0, .live, none⟩,
     ⟨"DEBUG_CAP", 17, 16, .ro, 0x0, .cold, none⟩,
     ⟨"VENDOR_REVOKED", 19, 18, .ro, 0x0, .cold, none⟩] },
  { off := 0x70010, dims := [], fields :=
    [⟨"ROLLBACK_STEP", 6, 0, .ro, 0x0, .cold, none⟩] },
  { off := 0x70020, dims := [], fields :=
    [⟨"FU_HW_TYPE", 31, 0, .ro, 0x0, .cold, none⟩] },
  { off := 0x70100, dims := [(0x80, 2), (0x4, 12)], fields :=
    [⟨"FU_VENDOR_EC_HASH", 31, 0, .ro, 0x0, .cold, none⟩] },
  { off := 0x70140, dims := [(0x80, 2), (0x4, 12)], fields :=
    [⟨"FU_VENDOR_PQ_HASH", 31, 0, .ro, 0x0, .cold, none⟩] },
  { off := 0x70200, dims := [(0x4, 12)], fields :=
    [⟨"FU_OWNER_EC_HASH", 31, 0, .ro, 0x0, .cold, none⟩] },
  { off := 0x70240, dims := [(0x4, 12)], fields :=
    [⟨"FU_OWNER_PQ_HASH", 31, 0, .ro, 0x0, .cold, none⟩] }]

/-- All words of the FU block. -/
def sntWordsFU : List RegRow := sntWordsFU0

/-- 64-bit read-only pairs (R11) of the FU block. -/
def sntPairsFU : List PairRow := [
  ⟨"FU_ROLLBACK", 0x70008, []⟩,
  ⟨"FU_UNIT_ID", 0x70018, []⟩]

end Sys2Proof.Machine
end

