-- ==== Sys2Proof/Machine/RegMapTables.lean ====
section
/-! DEFINITION. The table memories of a tile, word by word, as the chapters of spec/ lay them out (Tables 2-1, 3-9, 3-10, 3-14, 4-3, 5-1 to 5-3, 5-11, 6-4 to
6-10, 6-14, 9-6, 13-3), with the MSI-X table (R235), the stage buffer (Table 13-4) and the vault's input buffer (Table 9-13). -/
namespace Sys2Proof.Machine

/-- Table memory words, part 0. -/
def tableWords0 : List RegRow := [
  { off := 0x3000000, dims := [(0x4, 262144)], fields :=
    [⟨"RULE", 31, 0, .rk, 0x0, .keystone, none⟩] },
  { off := 0x3100000, dims := [(0x4, 262144)], fields :=
    [⟨"RULE_SHADOW", 31, 0, .ro, 0x0, .live, none⟩] },
  { off := 0x3200000, dims := [(0x20, 65536)], fields :=
    [⟨"CT0", 31, 0, .ro, 0x0, .live, none⟩] },
  { off := 0x3200004, dims := [(0x20, 65536)], fields :=
    [⟨"CT1", 31, 0, .ro, 0x0, .live, none⟩] },
  { off := 0x3200008, dims := [(0x20, 65536)], fields :=
    [⟨"CT2", 31, 0, .ro, 0x0, .live, none⟩] },
  { off := 0x320000C, dims := [(0x20, 65536)], fields :=
    [⟨"CT3", 31, 0, .ro, 0x0, .live, none⟩] },
  { off := 0x3200010, dims := [(0x20, 65536)], fields :=
    [⟨"CT4", 31, 0, .ro, 0x0, .live, none⟩] },
  { off := 0x3200014, dims := [(0x20, 65536)], fields :=
    [⟨"CT5", 31, 0, .ro, 0x0, .live, none⟩] },
  { off := 0x3200018, dims := [(0x20, 65536)], fields :=
    [⟨"CT6", 31, 0, .ro, 0x0, .live, none⟩] },
  { off := 0x320001C, dims := [(0x20, 65536)], fields :=
    [⟨"CT7", 31, 0, .ro, 0x0, .live, none⟩] },
  { off := 0x3400000, dims := [(0x4, 256)], fields :=
    [⟨"NODE", 31, 0, .ro, 0x0, .cold, none⟩] },
  { off := 0x3401000, dims := [(0x4, 1024)], fields :=
    [⟨"EDGE", 31, 0, .ro, 0x0, .cold, none⟩] },
  { off := 0x3404000, dims := [(0x4, 512)], fields :=
    [⟨"KEYFIELD", 31, 0, .ro, 0x0, .cold, none⟩] },
  { off := 0x3430000, dims := [(0x10, 4096)], fields :=
    [⟨"DA_HI", 31, 0, .rk, 0x0, .keystone, none⟩] },
  { off := 0x3430004, dims := [(0x10, 4096)], fields :=
    [⟨"DA_LO", 15, 0, .rk, 0x0, .keystone, none⟩,
     ⟨"SA_HI", 31, 16, .rk, 0x0, .keystone, none⟩] },
  { off := 0x3430008, dims := [(0x10, 4096)], fields :=
    [⟨"SA_LO", 31, 0, .rk, 0x0, .keystone, none⟩] }]

/-- Table memory words, part 1. -/
def tableWords1 : List RegRow := [
  { off := 0x343000C, dims := [(0x10, 4096)], fields :=
    [⟨"VALID", 31, 31, .rk, 0x0, .keystone, none⟩] },
  { off := 0x3500000, dims := [(0x20, 4096)], fields :=
    [⟨"MEMBERS_0", 31, 0, .rk, 0x0, .keystone, none⟩] },
  { off := 0x3500004, dims := [(0x20, 4096)], fields :=
    [⟨"MEMBERS_1", 31, 0, .rk, 0x0, .keystone, none⟩] },
  { off := 0x3500008, dims := [(0x20, 4096)], fields :=
    [⟨"MEMBERS_2", 31, 0, .rk, 0x0, .keystone, none⟩] },
  { off := 0x350000C, dims := [(0x20, 4096)], fields :=
    [⟨"MEMBERS_3", 31, 0, .rk, 0x0, .keystone, none⟩] },
  { off := 0x3500010, dims := [(0x20, 4096)], fields :=
    [⟨"MEMBERS_4", 31, 0, .rk, 0x0, .keystone, none⟩] },
  { off := 0x3500014, dims := [(0x20, 4096)], fields :=
    [⟨"MEMBERS_5", 31, 0, .rk, 0x0, .keystone, none⟩] },
  { off := 0x3500018, dims := [(0x20, 4096)], fields :=
    [⟨"MEMBERS_6", 31, 0, .rk, 0x0, .keystone, none⟩] },
  { off := 0x350001C, dims := [(0x20, 4096)], fields :=
    [⟨"HAIRPIN", 0, 0, .rk, 0x0, .keystone, none⟩,
     ⟨"VALID", 31, 31, .rk, 0x0, .keystone, none⟩] },
  { off := 0x3600000, dims := [(0x10, 1024)], fields :=
    [⟨"MAX_SDU", 13, 0, .rk, 0x0, .keystone, none⟩,
     ⟨"BLOCK_OVERSIZE", 14, 14, .rk, 0x0, .keystone, none⟩,
     ⟨"GATE", 21, 16, .rk, 0x0, .keystone, none⟩,
     ⟨"GATE_EN", 22, 22, .rk, 0x0, .keystone, none⟩,
     ⟨"METER_EN", 23, 23, .rk, 0x0, .keystone, none⟩,
     ⟨"VALID", 31, 31, .rk, 0x0, .keystone, none⟩] },
  { off := 0x3600004, dims := [(0x10, 1024)], fields :=
    [⟨"RCVY", 7, 0, .rk, 0x0, .keystone, none⟩,
     ⟨"RCVY_EN", 8, 8, .rk, 0x0, .keystone, none⟩,
     ⟨"GEN", 16, 9, .rk, 0x0, .keystone, none⟩,
     ⟨"GEN_EN", 17, 17, .rk, 0x0, .keystone, none⟩,
     ⟨"STRIP", 18, 18, .rk, 0x0, .keystone, none⟩] },
  { off := 0x3604000, dims := [(0x10, 1024)], fields :=
    [⟨"CIR", 24, 0, .rk, 0x0, .keystone, none⟩] },
  { off := 0x3604004, dims := [(0x10, 1024)], fields :=
    [⟨"EIR", 24, 0, .rk, 0x0, .keystone, none⟩] },
  { off := 0x3604008, dims := [(0x10, 1024)], fields :=
    [⟨"CBS", 15, 0, .rk, 0x0, .keystone, none⟩,
     ⟨"EBS", 31, 16, .rk, 0x0, .keystone, none⟩] },
  { off := 0x360400C, dims := [(0x10, 1024)], fields :=
    [⟨"COLOUR_AWARE", 0, 0, .rk, 0x0, .keystone, none⟩,
     ⟨"COUPLING", 1, 1, .rk, 0x0, .keystone, none⟩,
     ⟨"DROP_YELLOW", 2, 2, .rk, 0x0, .keystone, none⟩,
     ⟨"MARK_YELLOW", 3, 3, .rk, 0x0, .keystone, none⟩,
     ⟨"VALID", 31, 31, .rk, 0x0, .keystone, none⟩] },
  { off := 0x3620000, dims := [(0x10, 64)], fields :=
    [⟨"LEN", 6, 0, .rk, 0x0, .keystone, some (1, 64)⟩,
     ⟨"VALID", 31, 31, .rk, 0x0, .keystone, none⟩] }]

/-- Table memory words, part 2. -/
def tableWords2 : List RegRow := [
  { off := 0x3620004, dims := [(0x10, 64)], fields :=
    [⟨"BASE_LO", 31, 0, .rk, 0x0, .keystone, none⟩] },
  { off := 0x3620008, dims := [(0x10, 64)], fields :=
    [⟨"BASE_HI", 31, 0, .rk, 0x0, .keystone, none⟩] },
  { off := 0x362000C, dims := [(0x10, 64)], fields :=
    [⟨"CYCLE", 29, 0, .rk, 0x0, .keystone, some (1000, 1000000000)⟩] },
  { off := 0x3628000, dims := [(0x8, 4096)], fields :=
    [⟨"OPEN", 0, 0, .rk, 0x0, .keystone, none⟩,
     ⟨"IPV", 3, 1, .rk, 0x0, .keystone, none⟩,
     ⟨"IPV_EN", 4, 4, .rk, 0x0, .keystone, none⟩] },
  { off := 0x3628004, dims := [(0x8, 4096)], fields :=
    [⟨"INTERVAL", 29, 0, .rk, 0x0, .keystone, some (1, 1073741823)⟩] },
  { off := 0x3640000, dims := [(0x8, 16384)], fields :=
    [⟨"GATES", 7, 0, .rk, 0x0, .keystone, none⟩,
     ⟨"OP", 9, 8, .rk, 0x0, .keystone, some (0, 2)⟩] },
  { off := 0x3640004, dims := [(0x8, 16384)], fields :=
    [⟨"INTERVAL", 29, 0, .rk, 0x0, .keystone, some (1, 1073741823)⟩] },
  { off := 0x3660000, dims := [(0x20, 256)], fields :=
    [⟨"ALG", 0, 0, .rk, 0x0, .keystone, none⟩,
     ⟨"HISTORY", 6, 1, .rk, 0x0, .keystone, some (2, 32)⟩,
     ⟨"TAKE_NO_SEQ", 7, 7, .rk, 0x0, .keystone, none⟩,
     ⟨"PORT", 12, 8, .rk, 0x0, .keystone, some (0, 15)⟩,
     ⟨"VALID", 31, 31, .rk, 0x0, .keystone, none⟩] },
  { off := 0x3660004, dims := [(0x20, 256)], fields :=
    [⟨"RESET_MS", 15, 0, .rk, 0x0, .keystone, some (1, 65535)⟩] },
  { off := 0x3670000, dims := [(0x4, 256)], fields :=
    [⟨"GEN_NEXT", 15, 0, .ro, 0x0, .live, none⟩] },
  { off := 0x3680000, dims := [(0x4, 32768)], fields :=
    [⟨"SAMPLE", 31, 0, .ro, 0x0, .live, none⟩] },
  { off := 0x3700000, dims := [(0x40, 16384)], fields :=
    [⟨"KEY_ID", 28, 0, .rk, 0x0, .keystone, none⟩,
     ⟨"KEY_FMT", 31, 29, .rk, 0x0, .keystone, some (0, 4)⟩] },
  { off := 0x3700004, dims := [(0x40, 16384)], fields :=
    [⟨"KEY_SRC", 4, 0, .rk, 0x0, .keystone, none⟩,
     ⟨"KEY_STREAM", 15, 8, .rk, 0x0, .keystone, none⟩,
     ⟨"KEY_BUS", 20, 16, .rk, 0x0, .keystone, none⟩] },
  { off := 0x3700008, dims := [(0x40, 16384)], fields :=
    [⟨"AF", 31, 0, .rk, 0x0, .keystone, none⟩] },
  { off := 0x370000C, dims := [(0x40, 16384)], fields :=
    [⟨"AF_MASK", 31, 0, .rk, 0x0, .keystone, none⟩] },
  { off := 0x3700010, dims := [(0x40, 16384)], fields :=
    [⟨"DST", 4, 0, .rk, 0x0, .keystone, none⟩,
     ⟨"DST_FMT", 7, 5, .rk, 0x0, .keystone, some (0, 4)⟩,
     ⟨"DST_STREAM", 15, 8, .rk, 0x0, .keystone, none⟩,
     ⟨"DST_BUS", 20, 16, .rk, 0x0, .keystone, none⟩,
     ⟨"REPACK", 21, 21, .rk, 0x0, .keystone, none⟩,
     ⟨"REPLACE", 22, 22, .rk, 0x0, .keystone, none⟩,
     ⟨"FD", 23, 23, .rk, 0x0, .keystone, none⟩,
     ⟨"TX_LIFE_MS", 31, 24, .rk, 0x0, .keystone, none⟩] }]

/-- Table memory words, part 3. -/
def tableWords3 : List RegRow := [
  { off := 0x3700014, dims := [(0x40, 16384)], fields :=
    [⟨"DST_ID", 28, 0, .rk, 0x0, .keystone, none⟩] },
  { off := 0x3700018, dims := [(0x40, 16384)], fields :=
    [⟨"MOVE_BASE", 15, 0, .rk, 0x0, .keystone, none⟩,
     ⟨"MOVE_CNT", 20, 16, .rk, 0x0, .keystone, some (0, 16)⟩] },
  { off := 0x370001C, dims := [(0x40, 16384)], fields :=
    [⟨"OUT_LEN", 11, 0, .rk, 0x0, .keystone, some (0, 2048)⟩,
     ⟨"AUTH_V", 17, 12, .rk, 0x0, .keystone, none⟩,
     ⟨"AUTH_G", 23, 18, .rk, 0x0, .keystone, none⟩] },
  { off := 0x3700020, dims := [(0x40, 16384)], fields :=
    [⟨"E2E_CHK", 9, 0, .rk, 0x0, .keystone, none⟩,
     ⟨"E2E_GEN", 19, 10, .rk, 0x0, .keystone, none⟩] },
  { off := 0x3700024, dims := [(0x40, 16384)], fields :=
    [⟨"NEXT", 13, 0, .rk, 0x0, .keystone, none⟩,
     ⟨"NEXT_EN", 14, 14, .rk, 0x0, .keystone, none⟩,
     ⟨"VALID", 31, 31, .rk, 0x0, .keystone, none⟩] },
  { off := 0x3800000, dims := [(0x8, 65536)], fields :=
    [⟨"SRC_BIT", 13, 0, .rk, 0x0, .keystone, none⟩,
     ⟨"DST_BIT", 29, 16, .rk, 0x0, .keystone, none⟩,
     ⟨"SRC_BE", 30, 30, .rk, 0x0, .keystone, none⟩,
     ⟨"DST_BE", 31, 31, .rk, 0x0, .keystone, none⟩] },
  { off := 0x3800004, dims := [(0x8, 65536)], fields :=
    [⟨"LEN", 6, 0, .rk, 0x0, .keystone, some (1, 64)⟩,
     ⟨"OP", 9, 8, .rk, 0x0, .keystone, some (0, 2)⟩] },
  { off := 0x3880000, dims := [(0x10, 1024)], fields :=
    [⟨"ID_LO", 28, 0, .rk, 0x0, .keystone, none⟩,
     ⟨"FMT", 31, 29, .rk, 0x0, .keystone, some (0, 4)⟩] },
  { off := 0x3880004, dims := [(0x10, 1024)], fields :=
    [⟨"ID_HI", 28, 0, .rk, 0x0, .keystone, none⟩] },
  { off := 0x3880008, dims := [(0x10, 1024)], fields :=
    [⟨"SRC", 4, 0, .rk, 0x0, .keystone, none⟩,
     ⟨"PROFILES", 11, 8, .rk, 0x0, .keystone, none⟩,
     ⟨"VALID", 31, 31, .rk, 0x0, .keystone, none⟩] },
  { off := 0x3890000, dims := [(0x20, 256)], fields :=
    [⟨"STREAM_ID_HI", 31, 0, .rk, 0x0, .keystone, none⟩] },
  { off := 0x3890004, dims := [(0x20, 256)], fields :=
    [⟨"STREAM_ID_LO", 31, 0, .rk, 0x0, .keystone, none⟩] },
  { off := 0x3890008, dims := [(0x20, 256)], fields :=
    [⟨"DA_HI", 31, 0, .rk, 0x0, .keystone, none⟩] },
  { off := 0x389000C, dims := [(0x20, 256)], fields :=
    [⟨"DA_LO", 15, 0, .rk, 0x0, .keystone, none⟩,
     ⟨"VID", 27, 16, .rk, 0x0, .keystone, none⟩,
     ⟨"PCP", 30, 28, .rk, 0x0, .keystone, none⟩,
     ⟨"TAGGED", 31, 31, .rk, 0x0, .keystone, none⟩] },
  { off := 0x3890010, dims := [(0x20, 256)], fields :=
    [⟨"DIR_TX", 0, 0, .rk, 0x0, .keystone, none⟩,
     ⟨"DIR_RX", 1, 1, .rk, 0x0, .keystone, none⟩,
     ⟨"TSCF", 2, 2, .rk, 0x0, .keystone, none⟩,
     ⟨"MTV", 3, 3, .rk, 0x0, .keystone, none⟩,
     ⟨"MAX_BYTES", 15, 4, .rk, 0x0, .keystone, some (64, 4092)⟩,
     ⟨"WAIT_US", 27, 16, .rk, 0x0, .keystone, none⟩,
     ⟨"VALID", 31, 31, .rk, 0x0, .keystone, none⟩] },
  { off := 0x3898000, dims := [(0x4, 256)], fields :=
    [⟨"TX_SEQ", 7, 0, .ro, 0x0, .live, none⟩,
     ⟨"RX_SEQ", 15, 8, .ro, 0x0, .live, none⟩,
     ⟨"RX_INIT", 16, 16, .ro, 0x0, .live, none⟩] }]

/-- Table memory words, part 4. -/
def tableWords4 : List RegRow := [
  { off := 0x38A0000, dims := [(0x10, 64)], fields :=
    [⟨"KEY_SLOT", 11, 0, .rk, 0x0, .keystone, none⟩,
     ⟨"DATA_ID", 31, 16, .rk, 0x0, .keystone, none⟩] },
  { off := 0x38A0004, dims := [(0x10, 64)], fields :=
    [⟨"MAC_BYTES", 4, 0, .rk, 0x0, .keystone, some (3, 16)⟩,
     ⟨"TFV_BYTES", 7, 5, .rk, 0x0, .keystone, some (0, 4)⟩,
     ⟨"FV_INDEX", 19, 8, .rk, 0x0, .keystone, none⟩,
     ⟨"ACCEPT_WINDOW", 27, 20, .rk, 0x0, .keystone, some (1, 255)⟩] },
  { off := 0x38A0008, dims := [(0x10, 64)], fields :=
    [⟨"AUTH_LEN", 11, 0, .rk, 0x0, .keystone, some (0, 2048)⟩,
     ⟨"VALID", 31, 31, .rk, 0x0, .keystone, none⟩] },
  { off := 0x38B0000, dims := [(0x8, 4096)], fields :=
    [⟨"FV_LO", 31, 0, .rw, 0x0, .live, none⟩] },
  { off := 0x38B0004, dims := [(0x8, 4096)], fields :=
    [⟨"FV_HI", 31, 0, .rw, 0x0, .live, none⟩] },
  { off := 0x38C0000, dims := [(0x10, 1024)], fields :=
    [⟨"PROFILE", 4, 0, .rk, 0x0, .keystone, none⟩,
     ⟨"OFFSET", 15, 5, .rk, 0x0, .keystone, none⟩,
     ⟨"MAX_DELTA", 23, 16, .rk, 0x0, .keystone, some (1, 255)⟩,
     ⟨"FAIL_DISCARD", 24, 24, .rk, 0x0, .keystone, none⟩,
     ⟨"VALID", 31, 31, .rk, 0x0, .keystone, none⟩] },
  { off := 0x38C0004, dims := [(0x10, 1024)], fields :=
    [⟨"DATA_ID", 31, 0, .rk, 0x0, .keystone, none⟩] },
  { off := 0x38C0008, dims := [(0x10, 1024)], fields :=
    [⟨"DATA_ID_LIST_0", 31, 0, .rk, 0x0, .keystone, none⟩] },
  { off := 0x38C000C, dims := [(0x10, 1024)], fields :=
    [⟨"DATA_ID_LIST_1", 31, 0, .rk, 0x0, .keystone, none⟩] },
  { off := 0x38D0000, dims := [(0x10, 1024)], fields :=
    [⟨"RX_LAST", 31, 0, .rw, 0x0, .live, none⟩] },
  { off := 0x38D0004, dims := [(0x10, 1024)], fields :=
    [⟨"RX_INIT", 0, 0, .rw, 0x0, .live, none⟩] },
  { off := 0x38D0008, dims := [(0x10, 1024)], fields :=
    [⟨"TX_NEXT", 31, 0, .rw, 0x0, .live, none⟩] },
  { off := 0x3900000, dims := [(0x20, 4096)], fields :=
    [⟨"KEY_SLOT", 11, 0, .rw, 0x0, .live, none⟩,
     ⟨"VALID", 31, 31, .rw, 0x0, .live, none⟩] },
  { off := 0x3900004, dims := [(0x20, 4096)], fields :=
    [⟨"PN_LO", 31, 0, .rw, 0x0, .live, none⟩] },
  { off := 0x3900008, dims := [(0x20, 4096)], fields :=
    [⟨"PN_HI", 31, 0, .rw, 0x0, .live, none⟩] },
  { off := 0x390000C, dims := [(0x20, 4096)], fields :=
    [⟨"SSCI", 31, 0, .rw, 0x0, .live, none⟩] }]

/-- Table memory words, part 5. -/
def tableWords5 : List RegRow := [
  { off := 0x3900010, dims := [(0x20, 4096)], fields :=
    [⟨"SALT_0", 31, 0, .rw, 0x0, .live, none⟩] },
  { off := 0x3900014, dims := [(0x20, 4096)], fields :=
    [⟨"SALT_1", 31, 0, .rw, 0x0, .live, none⟩] },
  { off := 0x3900018, dims := [(0x20, 4096)], fields :=
    [⟨"SALT_2", 31, 0, .rw, 0x0, .live, none⟩] },
  { off := 0x390001C, dims := [(0x20, 4096)], fields :=
    [⟨"KEY_READY", 0, 0, .ro, 0x0, .live, none⟩,
     ⟨"REVOKED", 1, 1, .ro, 0x0, .live, none⟩,
     ⟨"KEY_FAULT", 2, 2, .ro, 0x0, .live, none⟩] },
  { off := 0x3920000, dims := [(0x20, 64)], fields :=
    [⟨"KEY_SLOT", 11, 0, .rw, 0x0, .live, none⟩,
     ⟨"VALID", 31, 31, .rw, 0x0, .live, none⟩] },
  { off := 0x3920004, dims := [(0x20, 64)], fields :=
    [⟨"PN_LO", 31, 0, .rw, 0x0, .live, none⟩] },
  { off := 0x3920008, dims := [(0x20, 64)], fields :=
    [⟨"PN_HI", 31, 0, .rw, 0x0, .live, none⟩] },
  { off := 0x392000C, dims := [(0x20, 64)], fields :=
    [⟨"SSCI", 31, 0, .rw, 0x0, .live, none⟩] },
  { off := 0x3920010, dims := [(0x20, 64)], fields :=
    [⟨"SALT_0", 31, 0, .rw, 0x0, .live, none⟩] },
  { off := 0x3920014, dims := [(0x20, 64)], fields :=
    [⟨"SALT_1", 31, 0, .rw, 0x0, .live, none⟩] },
  { off := 0x3920018, dims := [(0x20, 64)], fields :=
    [⟨"SALT_2", 31, 0, .rw, 0x0, .live, none⟩] },
  { off := 0x392001C, dims := [(0x20, 64)], fields :=
    [⟨"KEY_READY", 0, 0, .ro, 0x0, .live, none⟩,
     ⟨"REVOKED", 1, 1, .ro, 0x0, .live, none⟩,
     ⟨"KEY_FAULT", 2, 2, .ro, 0x0, .live, none⟩] },
  { off := 0x3930000, dims := [(0x10, 1024)], fields :=
    [⟨"SCI_HI", 31, 0, .rw, 0x0, .live, none⟩] },
  { off := 0x3930004, dims := [(0x10, 1024)], fields :=
    [⟨"SCI_LO", 31, 0, .rw, 0x0, .live, none⟩] },
  { off := 0x3930008, dims := [(0x10, 1024)], fields :=
    [⟨"SUITE", 1, 0, .rw, 0x0, .live, none⟩,
     ⟨"VALID", 31, 31, .rw, 0x0, .live, none⟩] },
  { off := 0x3A00000, dims := [(0x4, 16384)], fields :=
    [⟨"CENSUS", 31, 0, .ro, 0x0, .live, none⟩] }]

/-- Table memory words, part 6. -/
def tableWords6 : List RegRow := [
  { off := 0x3A20000, dims := [(0x4, 4096)], fields :=
    [⟨"CENSUS_SNT", 31, 0, .ro, 0x0, .live, none⟩] },
  { off := 0x3A30000, dims := [(0x4, 512)], fields :=
    [⟨"CENSUS_MAP", 31, 0, .ro, 0x0, .cold, none⟩] },
  { off := 0x3A31000, dims := [(0x4, 64)], fields :=
    [⟨"CENSUS_MAP_SNT", 31, 0, .ro, 0x0, .cold, none⟩] }]

/-- Words of table memory. -/
def tableWords : List RegRow := tableWords0 ++ tableWords1 ++ tableWords2 ++ tableWords3 ++ tableWords4 ++ tableWords5 ++ tableWords6

/-- 64-bit pairs of table memory: flow counters, meter counters, recovery counters (Tables 3-14 and 5-11). -/
def tablePairs : List PairRow := [
  ⟨"FLOW", 0x3420000, [(8, 8192)]⟩,
  ⟨"METER", 0x3610000, [(8, 4096)]⟩,
  ⟨"RECOVERY", 0x3668000, [(8, 2048)]⟩]

/-- The MSI-X table of an endpoint (R235). -/
def msixWords : List RegRow := [
  { off := 0x1801000, dims := [(0x10, 32)], fields :=
    [⟨"ADDR_LO", 31, 2, .rw, 0x0, .live, none⟩] },
  { off := 0x1801004, dims := [(0x10, 32)], fields :=
    [⟨"ADDR_HI", 31, 0, .rw, 0x0, .live, none⟩] },
  { off := 0x1801008, dims := [(0x10, 32)], fields :=
    [⟨"DATA", 31, 0, .rw, 0x0, .live, none⟩] },
  { off := 0x180100C, dims := [(0x10, 32)], fields :=
    [⟨"MASK", 0, 0, .rw, 0x1, .live, none⟩] }]

/-- The stage buffer of a tile (Table 13-4). -/
def stageWords : List RegRow := [
  { off := 0x1E01000, dims := [(0x4, 1024)], fields :=
    [⟨"STAGE", 31, 0, .rw, 0x0, .live, none⟩] }]

/-- The buffers and the slot metadata of the vault (Tables 9-2 and 9-13). -/
def kyBufferWords : List RegRow := [
  { off := 0x12000, dims := [(0x4, 2048)], fields :=
    [⟨"INPUT", 31, 0, .wo, 0x0, .live, none⟩] },
  { off := 0x14000, dims := [(0x4, 2048)], fields :=
    [⟨"ATTESTATION", 31, 0, .ro, 0x0, .live, none⟩] },
  { off := 0x17000, dims := [(0x4, 64)], fields :=
    [⟨"OUTPUT", 31, 0, .ro, 0x0, .live, none⟩] },
  { off := 0x18000, dims := [(0x4, 8192)], fields :=
    [⟨"SLOT", 31, 0, .ro, 0x0, .live, none⟩] }]

/-- The park log (Table 11-4). -/
def parkLogWords : List RegRow := [
  { off := 0x28000, dims := [(0x4, 2048)], fields :=
    [⟨"LOG", 31, 0, .ro, 0x0, .live, none⟩] }]

/-- The LIN frame tables and schedule tables (R216). -/
def linTableWords : List RegRow := [
  { off := 0x44000, dims := [(0x100, 6), (0x4, 64)], fields :=
    [⟨"LEN", 3, 0, .rw, 0x0, .live, some (1, 8)⟩,
     ⟨"ENHANCED", 4, 4, .rw, 0x0, .live, none⟩,
     ⟨"PUBLISH", 5, 5, .rw, 0x0, .live, none⟩,
     ⟨"SUBSCRIBE", 6, 6, .rw, 0x0, .live, none⟩,
     ⟨"VALID", 31, 31, .rw, 0x0, .live, none⟩] },
  { off := 0x46000, dims := [(0x100, 6), (0x4, 64)], fields :=
    [⟨"ID", 5, 0, .rw, 0x0, .live, none⟩,
     ⟨"SLOT", 15, 8, .rw, 0x0, .live, some (1, 255)⟩,
     ⟨"LAST", 30, 30, .rw, 0x0, .live, none⟩,
     ⟨"VALID", 31, 31, .rw, 0x0, .live, none⟩] }]

end Sys2Proof.Machine
end

