-- ==== Sys2Proof/Machine/RegMapTile.lean ====
section
/-! DEFINITION. The register tables of the tiles, row by row as the chapters of spec/ print them
(word, bits, access type, reset value, class, and the plain value range where the table states one). -/
namespace Sys2Proof.Machine

/-- Words of the ID block (tile), part 0: the register tables of its chapter. -/
def tileWordsID0 : List RegRow := [
  { off := 0x0, dims := [], fields :=
    [⟨"MINOR", 3, 0, .ro, 0x1, .cold, none⟩,
     ⟨"MAJOR", 7, 4, .ro, 0x2, .cold, none⟩,
     ⟨"INDEX", 11, 8, .ro, 0x0, .cold, none⟩,
     ⟨"KIND", 15, 12, .ro, 0x0, .cold, none⟩,
     ⟨"DIES", 19, 16, .ro, 0x0, .cold, none⟩,
     ⟨"FAMILY", 31, 20, .ro, 0x1D8, .cold, none⟩] },
  { off := 0x10, dims := [], fields :=
    [⟨"WRITE", 0, 0, .ro, 0x0, .live, none⟩,
     ⟨"AGENT", 11, 8, .ro, 0x0, .live, none⟩,
     ⟨"TARGET_DIE", 19, 16, .ro, 0x0, .live, none⟩,
     ⟨"CODE", 27, 24, .ro, 0x0, .live, none⟩,
     ⟨"OVERFLOW", 30, 30, .w1c, 0x0, .live, none⟩,
     ⟨"VALID", 31, 31, .w1c, 0x0, .live, none⟩] },
  { off := 0x14, dims := [], fields :=
    [⟨"ADDR", 29, 0, .ro, 0x0, .live, none⟩] },
  { off := 0x40, dims := [], fields :=
    [⟨"TEMP", 7, 0, .ro, 0x0, .live, none⟩,
     ⟨"WARN", 8, 8, .ro, 0x0, .live, none⟩,
     ⟨"ALARM", 9, 9, .ro, 0x0, .live, none⟩] },
  { off := 0x44, dims := [], fields :=
    [⟨"WARN_C", 7, 0, .rw, 0x73, .live, some (60, 124)⟩] },
  { off := 0x48, dims := [], fields :=
    [⟨"WARN_EVT", 0, 0, .w1c, 0x0, .live, none⟩,
     ⟨"ALARM_EVT", 1, 1, .w1c, 0x0, .live, none⟩] },
  { off := 0x100, dims := [(0x40, 6)], fields :=
    [⟨"PRESENT", 0, 0, .ro, 0x0, .cold, none⟩,
     ⟨"STATE", 5, 4, .ro, 0x0, .live, none⟩,
     ⟨"RELAY", 6, 6, .ro, 0x0, .live, none⟩,
     ⟨"PEER_DIE", 11, 8, .ro, 0x0, .cold, none⟩,
     ⟨"PEER_PORT", 15, 12, .ro, 0x0, .cold, none⟩] }]

/-- All words of the ID block. -/
def tileWordsID : List RegRow := tileWordsID0

/-- 64-bit read-only pairs (R11) of the ID block. -/
def tilePairsID : List PairRow := [
  ⟨"ID_MERR_COUNT", 0x18, []⟩,
  ⟨"ID_THERM_ALARMS", 0x50, []⟩,
  ⟨"ID_SPAN_RETRY", 0x108, [(0x40, 6)]⟩,
  ⟨"ID_SPAN_DOWN_CNT", 0x110, [(0x40, 6)]⟩,
  ⟨"ID_SPAN_LOST_CELLS", 0x118, [(0x40, 6)]⟩]

/-- Words of the TM block (tile), part 0: the register tables of its chapter. -/
def tileWordsTM0 : List RegRow := [
  { off := 0x100000, dims := [], fields :=
    [⟨"TM_NOW_LO", 31, 0, .ro, 0x0, .live, none⟩] },
  { off := 0x100004, dims := [], fields :=
    [⟨"TM_NOW_HI", 31, 0, .ro, 0x0, .live, none⟩] },
  { off := 0x100008, dims := [], fields :=
    [⟨"TM_NOW_FRAC", 15, 0, .ro, 0x0, .live, none⟩] },
  { off := 0x10000C, dims := [], fields :=
    [⟨"LOCKED", 0, 0, .ro, 0x0, .live, none⟩,
     ⟨"REFERENCE", 1, 1, .ro, 0x0, .live, none⟩,
     ⟨"SKEW_FAULT", 2, 2, .w1c, 0x0, .live, none⟩,
     ⟨"PATH", 11, 8, .ro, 0xF, .live, none⟩] },
  { off := 0x100010, dims := [], fields :=
    [⟨"TM_OFFSET", 31, 0, .ro, 0x0, .live, none⟩] },
  { off := 0x100100, dims := [], fields :=
    [⟨"TM_RATE_ADJ", 31, 0, .rw, 0x0, .live, none⟩] },
  { off := 0x100104, dims := [], fields :=
    [⟨"TM_PHASE_ADJ", 31, 0, .wo, 0x0, .live, none⟩] },
  { off := 0x100108, dims := [], fields :=
    [⟨"TM_PHASE_PEND", 31, 0, .ro, 0x0, .live, none⟩] },
  { off := 0x10010C, dims := [], fields :=
    [⟨"TM_SLEW", 18, 0, .rw, 0x64, .live, some (1, 500000)⟩] },
  { off := 0x100110, dims := [], fields :=
    [⟨"SEQ_ID", 15, 0, .rp, 0x0, .live, none⟩,
     ⟨"MSG_TYPE", 19, 16, .rp, 0x0, .live, none⟩,
     ⟨"PORT", 23, 20, .rp, 0x0, .live, none⟩,
     ⟨"DOMAIN", 30, 24, .rp, 0x0, .live, none⟩,
     ⟨"VALID", 31, 31, .rp, 0x0, .live, none⟩] },
  { off := 0x10011C, dims := [], fields :=
    [⟨"TM_TXTS_FRAC", 15, 0, .ro, 0x0, .live, none⟩] },
  { off := 0x100200, dims := [(0x10, 16)], fields :=
    [⟨"ONE_STEP", 0, 0, .rk, 0x0, .keystone, none⟩] },
  { off := 0x100204, dims := [(0x10, 16)], fields :=
    [⟨"TX_LAT", 31, 0, .rw, 0x0, .live, none⟩] },
  { off := 0x100208, dims := [(0x10, 16)], fields :=
    [⟨"RX_LAT", 31, 0, .rw, 0x0, .live, none⟩] },
  { off := 0x100400, dims := [(0x10, 4)], fields :=
    [⟨"DOMAIN_NUM", 6, 0, .rw, 0x0, .live, none⟩,
     ⟨"VALID", 31, 31, .rw, 0x0, .live, none⟩] },
  { off := 0x100404, dims := [(0x10, 4)], fields :=
    [⟨"OFFSET_NS_LO", 31, 0, .rw, 0x0, .live, none⟩] },
  { off := 0x100408, dims := [(0x10, 4)], fields :=
    [⟨"OFFSET_NS_HI", 31, 0, .rw, 0x0, .live, none⟩] },
  { off := 0x10040C, dims := [(0x10, 4)], fields :=
    [⟨"OFFSET_FRAC", 15, 0, .rw, 0x0, .live, none⟩] }]

/-- All words of the TM block. -/
def tileWordsTM : List RegRow := tileWordsTM0

/-- 64-bit read-only pairs (R11) of the TM block. -/
def tilePairsTM : List PairRow := [
  ⟨"TM_SKEW_FAULTS", 0x100018, []⟩,
  ⟨"TM_TXTS_NS", 0x100114, []⟩,
  ⟨"TM_TXTS_LOST", 0x100120, []⟩,
  ⟨"TM_ONESTEP_NODOM", 0x100128, []⟩]

/-- Words of the SI block (tile), part 0: the register tables of its chapter. -/
def tileWordsSI0 : List RegRow := [
  { off := 0x200000, dims := [], fields :=
    [⟨"SI_IMAGE_ID", 31, 0, .ro, 0x0, .cold, none⟩] },
  { off := 0x200004, dims := [], fields :=
    [⟨"SI_IMAGE_STEP", 15, 0, .ro, 0x0, .cold, none⟩] },
  { off := 0x200010, dims := [], fields :=
    [⟨"SI_EPOCH", 31, 0, .ro, 0x0, .live, none⟩] },
  { off := 0x200020, dims := [], fields :=
    [⟨"GO", 0, 0, .wo, 0x0, .live, none⟩,
     ⟨"TIMED", 1, 1, .wo, 0x0, .live, none⟩] },
  { off := 0x200024, dims := [], fields :=
    [⟨"SI_KS_AT_LO", 31, 0, .rw, 0x0, .live, none⟩] },
  { off := 0x200028, dims := [], fields :=
    [⟨"SI_KS_AT_HI", 31, 0, .rw, 0x0, .live, none⟩] },
  { off := 0x20002C, dims := [], fields :=
    [⟨"LEAD_US", 7, 0, .rw, 0x14, .live, some (8, 255)⟩,
     ⟨"DRAIN_US", 10, 8, .rw, 0x4, .live, some (1, 4)⟩] },
  { off := 0x200030, dims := [], fields :=
    [⟨"STATE", 1, 0, .ro, 0x0, .live, none⟩,
     ⟨"BANK_SYNC", 2, 2, .ro, 0x0, .live, none⟩,
     ⟨"DONE", 4, 4, .w1c, 0x0, .live, none⟩,
     ⟨"ABORTED", 5, 5, .w1c, 0x0, .live, none⟩,
     ⟨"ADJUSTED", 6, 6, .w1c, 0x0, .live, none⟩,
     ⟨"REASON", 11, 8, .ro, 0x0, .live, none⟩,
     ⟨"EPOCH16", 31, 16, .ro, 0x0, .live, none⟩] },
  { off := 0x200034, dims := [], fields :=
    [⟨"SI_KS_STAGED", 8, 0, .ro, 0x0, .live, none⟩] },
  { off := 0x200048, dims := [], fields :=
    [⟨"SI_KS_DRAIN_MAX", 15, 0, .ro, 0x0, .live, none⟩] },
  { off := 0x200070, dims := [], fields :=
    [⟨"CODE", 3, 0, .ro, 0x0, .live, none⟩,
     ⟨"AGENT", 7, 4, .ro, 0x0, .live, none⟩,
     ⟨"HOME_DIE", 11, 8, .ro, 0x0, .live, none⟩,
     ⟨"OVERFLOW", 30, 30, .w1c, 0x0, .live, none⟩,
     ⟨"VALID", 31, 31, .w1c, 0x0, .live, none⟩] },
  { off := 0x200074, dims := [], fields :=
    [⟨"ADDR", 29, 0, .ro, 0x0, .live, none⟩] }]

/-- All words of the SI block. -/
def tileWordsSI : List RegRow := tileWordsSI0

/-- 64-bit read-only pairs (R11) of the SI block. -/
def tilePairsSI : List PairRow := [
  ⟨"SI_KS_LAST_TC", 0x200040, []⟩,
  ⟨"SI_KS_COMMITS", 0x200050, []⟩,
  ⟨"SI_KS_ABORTS", 0x200058, []⟩,
  ⟨"SI_KS_LATE", 0x200060, []⟩,
  ⟨"SI_CFG_ERRS", 0x200068, []⟩]

/-- Words of the PR block (tile), part 0: the register tables of its chapter. -/
def tileWordsPR0 : List RegRow := [
  { off := 0x400000, dims := [], fields :=
    [⟨"DEEP", 3, 2, .rk, 0x0, .keystone, none⟩,
     ⟨"MALFORMED", 5, 4, .rk, 0x0, .keystone, none⟩,
     ⟨"LONG", 7, 6, .rk, 0x2, .keystone, none⟩,
     ⟨"ORPHAN", 9, 8, .rk, 0x0, .keystone, none⟩,
     ⟨"POISONED", 11, 10, .rk, 0x0, .keystone, none⟩,
     ⟨"MIRROR", 15, 12, .rk, 0x0, .keystone, none⟩] },
  { off := 0x400004, dims := [], fields :=
    [⟨"LIFE_US", 13, 0, .rk, 0x7D0, .keystone, some (100, 16000)⟩,
     ⟨"FLUSH_AT_KS", 14, 14, .rk, 0x0, .keystone, none⟩] },
  { off := 0x400008, dims := [], fields :=
    [⟨"SELECT", 1, 0, .rk, 0x0, .keystone, some (0, 2)⟩,
     ⟨"QUARANTINE", 4, 4, .ro, 0x0, .live, none⟩,
     ⟨"IN_EFFECT", 6, 5, .ro, 0x0, .live, none⟩] },
  { off := 0x40000C, dims := [], fields :=
    [⟨"TCP_NEW_S", 7, 0, .rk, 0x5, .keystone, some (1, 255)⟩,
     ⟨"TCP_CLOSE_S", 15, 8, .rk, 0xA, .keystone, some (1, 255)⟩,
     ⟨"UDP_S", 23, 16, .rk, 0x1E, .keystone, some (1, 255)⟩,
     ⟨"OTHER_S", 31, 24, .rk, 0x1E, .keystone, some (1, 255)⟩] },
  { off := 0x400010, dims := [], fields :=
    [⟨"TCP_EST_S", 15, 0, .rk, 0x258, .keystone, some (1, 65535)⟩] },
  { off := 0x400014, dims := [], fields :=
    [⟨"CT_USED", 16, 0, .ro, 0x0, .live, none⟩,
     ⟨"FRAG_USED", 27, 17, .ro, 0x0, .live, none⟩] },
  { off := 0x400020, dims := [(0x4, 16)], fields :=
    [⟨"PR_CT_DATA", 31, 0, .rw, 0x0, .live, none⟩] },
  { off := 0x400060, dims := [], fields :=
    [⟨"OP", 1, 0, .wo, 0x0, .live, none⟩] },
  { off := 0x400064, dims := [], fields :=
    [⟨"CODE", 2, 0, .ro, 0x0, .live, none⟩,
     ⟨"SLOT", 18, 3, .ro, 0x0, .live, none⟩,
     ⟨"DONE", 31, 31, .w1c, 0x0, .live, none⟩] },
  { off := 0x400300, dims := [(0x10, 8)], fields :=
    [⟨"KIND", 1, 0, .ro, 0x0, .cold, none⟩,
     ⟨"KEY_WORDS", 7, 4, .ro, 0x0, .cold, none⟩,
     ⟨"ENTRY_WORDS", 15, 8, .ro, 0x0, .cold, none⟩] },
  { off := 0x400304, dims := [(0x10, 8)], fields :=
    [⟨"BASE", 19, 0, .ro, 0x0, .cold, none⟩] },
  { off := 0x400308, dims := [(0x10, 8)], fields :=
    [⟨"ENTRIES", 17, 0, .ro, 0x0, .cold, none⟩] },
  { off := 0x40030C, dims := [(0x10, 8)], fields :=
    [⟨"STAGE", 2, 0, .ro, 0x0, .cold, none⟩] }]

/-- All words of the PR block. -/
def tileWordsPR : List RegRow := tileWordsPR0

/-- 64-bit read-only pairs (R11) of the PR block. -/
def tilePairsPR : List PairRow := [
  ⟨"PR_VERDICT_CNT", 0x400100, [(0x8, 6)]⟩,
  ⟨"PR_MALFORMED_CNT", 0x400148, [(0x8, 14)]⟩,
  ⟨"PR_FRAG_CREATED", 0x4001C0, []⟩,
  ⟨"PR_FRAG_DONE", 0x4001C8, []⟩,
  ⟨"PR_FRAG_EXPIRED", 0x4001D0, []⟩,
  ⟨"PR_FRAG_FULL", 0x4001D8, []⟩,
  ⟨"PR_FRAG_HITS", 0x4001E0, []⟩,
  ⟨"PR_FRAG_FLUSHED", 0x4001E8, []⟩,
  ⟨"PR_FW_DENY", 0x400200, [(0x8, 5)]⟩,
  ⟨"PR_CT_CREATED", 0x400240, []⟩,
  ⟨"PR_CT_AGED", 0x400248, []⟩,
  ⟨"PR_NO_ROUTE", 0x400250, []⟩,
  ⟨"PR_RECIRC_LIMIT", 0x400258, []⟩,
  ⟨"PR_POP_SHORT", 0x400260, []⟩,
  ⟨"PR_RW_INVALID", 0x400268, []⟩,
  ⟨"PR_TTL_EXPIRED", 0x400270, []⟩,
  ⟨"PR_RW_ABSENT", 0x400278, []⟩]

/-- Words of the SW block (tile), part 0: the register tables of its chapter. -/
def tileWordsSW0 : List RegRow := [
  { off := 0x800000, dims := [], fields :=
    [⟨"CELLS", 14, 0, .ro, 0x6000, .cold, none⟩] },
  { off := 0x800004, dims := [], fields :=
    [⟨"RECIRC_RSV", 14, 0, .ro, 0x0, .cold, none⟩,
     ⟨"MIRROR_RSV", 30, 16, .ro, 0x0, .cold, none⟩] },
  { off := 0x800008, dims := [], fields :=
    [⟨"SHARED", 14, 0, .ro, 0x0, .cold, none⟩] },
  { off := 0x80000C, dims := [], fields :=
    [⟨"FREE_SHARED", 14, 0, .ro, 0x0, .live, none⟩] },
  { off := 0x800010, dims := [], fields :=
    [⟨"OVF_CELLS", 23, 0, .ro, 0x0, .cold, none⟩,
     ⟨"OVF_PRESENT", 31, 31, .ro, 0x0, .cold, none⟩] },
  { off := 0x800014, dims := [], fields :=
    [⟨"OVF_USED", 23, 0, .ro, 0x0, .live, none⟩] },
  { off := 0x800018, dims := [], fields :=
    [⟨"HOLD_US", 13, 0, .rk, 0x32, .keystone, some (1, 10000)⟩] },
  { off := 0x80001C, dims := [], fields :=
    [⟨"STALL_MS", 9, 0, .rk, 0xA, .keystone, some (1, 1000)⟩,
     ⟨"WD_ENABLE", 16, 16, .rk, 0x1, .keystone, none⟩] },
  { off := 0x800020, dims := [], fields :=
    [⟨"SW_STALL_EVT", 27, 0, .w1c, 0x0, .live, none⟩] },
  { off := 0x800400, dims := [(0x10, 16)], fields :=
    [⟨"DEST", 7, 0, .rk, 0x0, .keystone, none⟩,
     ⟨"TC", 10, 8, .rk, 0x0, .keystone, none⟩,
     ⟨"TRUNC", 23, 16, .rk, 0x0, .keystone, some (0, 143)⟩,
     ⟨"SAMPLE_EXP", 27, 24, .rk, 0x0, .keystone, none⟩,
     ⟨"VALID", 31, 31, .rk, 0x0, .keystone, none⟩] },
  { off := 0x800404, dims := [(0x10, 16)], fields :=
    [⟨"TAG_EN", 0, 0, .rk, 0x0, .keystone, none⟩,
     ⟨"VID", 15, 4, .rk, 0x0, .keystone, none⟩,
     ⟨"PCP", 18, 16, .rk, 0x0, .keystone, none⟩] },
  { off := 0x800600, dims := [(0x20, 6), (0x4, 8)], fields :=
    [⟨"SW_SPAN_MIN", 14, 0, .ro, 0x0, .cold, none⟩] },
  { off := 0x810000, dims := [(0x200, 28)], fields :=
    [⟨"PRESENT", 0, 0, .ro, 0x0, .cold, none⟩,
     ⟨"LANE", 3, 1, .ro, 0x0, .cold, none⟩,
     ⟨"SUBPORT", 5, 4, .ro, 0x0, .cold, none⟩,
     ⟨"MODE", 9, 6, .ro, 0x0, .cold, none⟩,
     ⟨"FEC", 10, 10, .ro, 0x0, .cold, none⟩] },
  { off := 0x810004, dims := [(0x200, 28)], fields :=
    [⟨"CUT_THROUGH", 0, 0, .rk, 0x0, .keystone, none⟩,
     ⟨"PAUSE_TX", 1, 1, .rk, 0x0, .keystone, none⟩,
     ⟨"PAUSE_RX", 2, 2, .rk, 0x1, .keystone, none⟩,
     ⟨"PFC_TX", 11, 4, .rk, 0x0, .keystone, none⟩,
     ⟨"PFC_RX", 19, 12, .rk, 0x0, .keystone, none⟩,
     ⟨"MIRROR_RX_EN", 20, 20, .rk, 0x0, .keystone, none⟩,
     ⟨"MIRROR_TX_EN", 21, 21, .rk, 0x0, .keystone, none⟩,
     ⟨"MIRROR_RX", 25, 22, .rk, 0x0, .keystone, none⟩,
     ⟨"MIRROR_TX", 29, 26, .rk, 0x0, .keystone, none⟩] },
  { off := 0x810008, dims := [(0x200, 28)], fields :=
    [⟨"MAX_FRAME", 13, 0, .rk, 0x2400, .keystone, some (64, 9216)⟩] },
  { off := 0x81000C, dims := [(0x200, 28)], fields :=
    [⟨"LINK_UP", 0, 0, .ro, 0x0, .live, none⟩,
     ⟨"PAUSED_RX", 15, 8, .ro, 0x0, .live, none⟩,
     ⟨"XOFF_TX", 23, 16, .ro, 0x0, .live, none⟩,
     ⟨"STALLED", 31, 24, .ro, 0x0, .live, none⟩] },
  { off := 0x810010, dims := [(0x200, 28)], fields :=
    [⟨"SW_PORT_MAC_HI", 31, 0, .rk, 0x0, .keystone, none⟩] },
  { off := 0x810014, dims := [(0x200, 28)], fields :=
    [⟨"SW_PORT_MAC_LO", 15, 0, .rk, 0x0, .keystone, none⟩] },
  { off := 0x810040, dims := [(0x200, 28), (0x10, 8)], fields :=
    [⟨"MIN", 14, 0, .ro, 0x0, .cold, none⟩,
     ⟨"MAX", 30, 16, .rk, 0x0, .keystone, none⟩] },
  { off := 0x810044, dims := [(0x200, 28), (0x10, 8)], fields :=
    [⟨"XOFF", 14, 0, .rk, 0x0, .keystone, none⟩,
     ⟨"XON", 30, 16, .rk, 0x0, .keystone, none⟩] },
  { off := 0x810048, dims := [(0x200, 28), (0x10, 8)], fields :=
    [⟨"HEADROOM", 14, 0, .rk, 0x0, .keystone, none⟩,
     ⟨"HR_CEILING", 30, 16, .ro, 0x0, .cold, none⟩] },
  { off := 0x81004C, dims := [(0x200, 28), (0x10, 8)], fields :=
    [⟨"OCC", 14, 0, .ro, 0x0, .live, none⟩,
     ⟨"HR_USED", 30, 16, .ro, 0x0, .live, none⟩] },
  { off := 0x8100C0, dims := [(0x200, 28), (0x10, 8)], fields :=
    [⟨"EG_LIMIT", 14, 0, .rk, 0x0, .keystone, none⟩,
     ⟨"SPILL_EN", 15, 15, .rk, 0x0, .keystone, none⟩,
     ⟨"SPILL_AT", 30, 16, .rk, 0x0, .keystone, none⟩] },
  { off := 0x8100C4, dims := [(0x200, 28), (0x10, 8)], fields :=
    [⟨"SPILL_MAX", 23, 0, .rk, 0x0, .keystone, none⟩] }]

/-- Words of the SW block (tile), part 1: the register tables of its chapter. -/
def tileWordsSW1 : List RegRow := [
  { off := 0x8100C8, dims := [(0x200, 28), (0x10, 8)], fields :=
    [⟨"DEPTH_CHIP", 14, 0, .ro, 0x0, .live, none⟩,
     ⟨"SPILLED", 15, 15, .ro, 0x0, .live, none⟩] },
  { off := 0x8100CC, dims := [(0x200, 28), (0x10, 8)], fields :=
    [⟨"DEPTH_OVF", 23, 0, .ro, 0x0, .live, none⟩] }]

/-- All words of the SW block. -/
def tileWordsSW : List RegRow := tileWordsSW0 ++ tileWordsSW1

/-- 64-bit read-only pairs (R11) of the SW block. -/
def tilePairsSW : List PairRow := [
  ⟨"SW_DISC_CNT", 0x800108, [(0x8, 22)]⟩,
  ⟨"SW_MC_PARTIAL", 0x800200, []⟩,
  ⟨"SW_MC_COPIES", 0x800208, []⟩,
  ⟨"SW_CT_STOMP", 0x800210, []⟩,
  ⟨"SW_SPILL_FRAMES", 0x800218, []⟩,
  ⟨"SW_CUT_THROUGH", 0x800220, []⟩,
  ⟨"SW_MIR_COPIES", 0x800500, [(0x10, 16)]⟩,
  ⟨"SW_MIR_DROPS", 0x800508, [(0x10, 16)]⟩,
  ⟨"SW_PORT_RX_DISC", 0x810140, [(0x200, 28)]⟩,
  ⟨"SW_PORT_TX_DISC", 0x810148, [(0x200, 28)]⟩,
  ⟨"SW_PORT_PAUSE_TX", 0x810150, [(0x200, 28)]⟩,
  ⟨"SW_PORT_PAUSE_RX", 0x810158, [(0x200, 28)]⟩,
  ⟨"SW_PORT_STALLS", 0x810160, [(0x200, 28)]⟩,
  ⟨"SW_PORT_SPILLED", 0x810168, [(0x200, 28)]⟩,
  ⟨"SW_PORT_CUT", 0x810170, [(0x200, 28)]⟩]

/-- Words of the TS block (tile), part 0: the register tables of its chapter. -/
def tileWordsTS0 : List RegRow := [
  { off := 0xC00000, dims := [], fields :=
    [⟨"TS_CLASS_TYPE", 15, 0, .ro, 0x0, .cold, none⟩] },
  { off := 0xC00010, dims := [], fields :=
    [⟨"SAMP_EN", 0, 0, .rk, 0x0, .keystone, none⟩,
     ⟨"WRAP", 1, 1, .rk, 0x0, .keystone, none⟩] },
  { off := 0xC00014, dims := [], fields :=
    [⟨"SAMP_INTERVAL", 29, 0, .rk, 0xF4240, .keystone, some (1000, 1000000000)⟩] },
  { off := 0xC00018, dims := [], fields :=
    [⟨"TS_SAMP_PROD", 11, 0, .ro, 0x0, .live, none⟩,
     ⟨"TS_SAMP_CONS", 27, 16, .rw, 0x0, .live, none⟩] },
  { off := 0xC00040, dims := [(0x4, 28)], fields :=
    [⟨"TS_SAMP_SEL", 7, 0, .rk, 0x0, .keystone, none⟩] },
  { off := 0xC00100, dims := [(0x4, 32)], fields :=
    [⟨"TS_SF_BLOCKED", 31, 0, .w1c, 0x0, .live, none⟩] },
  { off := 0xC00240, dims := [], fields :=
    [⟨"TS_GEN_RESET", 7, 0, .wo, 0x0, .live, none⟩] },
  { off := 0xC10000, dims := [(0x100, 28)], fields :=
    [⟨"GATE_EN", 0, 0, .rk, 0x0, .keystone, none⟩,
     ⟨"MERGE_EN", 1, 1, .rk, 0x0, .keystone, none⟩,
     ⟨"VERIFY_DIS", 2, 2, .rk, 0x0, .keystone, none⟩,
     ⟨"ADD_FRAG", 4, 3, .rk, 0x0, .keystone, none⟩,
     ⟨"GUARD", 15, 8, .rk, 0x0, .keystone, none⟩,
     ⟨"PREEMPT", 23, 16, .rk, 0x0, .keystone, none⟩] },
  { off := 0xC10004, dims := [(0x100, 28)], fields :=
    [⟨"TS_PORT_GCL_LEN", 10, 0, .rk, 0x1, .keystone, some (1, 1024)⟩] },
  { off := 0xC10008, dims := [(0x100, 28)], fields :=
    [⟨"TS_PORT_GCL_BASE_LO", 31, 0, .rk, 0x0, .keystone, none⟩] },
  { off := 0xC1000C, dims := [(0x100, 28)], fields :=
    [⟨"TS_PORT_GCL_BASE_HI", 31, 0, .rk, 0x0, .keystone, none⟩] },
  { off := 0xC10010, dims := [(0x100, 28)], fields :=
    [⟨"TS_PORT_GCL_CYCLE", 29, 0, .rk, 0xF4240, .keystone, some (1000, 1000000000)⟩] },
  { off := 0xC10014, dims := [(0x100, 28)], fields :=
    [⟨"GATES", 7, 0, .ro, 0xFF, .live, none⟩,
     ⟨"ENTRY", 17, 8, .ro, 0x0, .live, none⟩,
     ⟨"HOLD", 18, 18, .ro, 0x0, .live, none⟩,
     ⟨"MM_ACTIVE", 19, 19, .ro, 0x0, .live, none⟩,
     ⟨"VERIFY", 21, 20, .ro, 0x0, .live, none⟩] },
  { off := 0xC20000, dims := [(0x100, 28), (0x20, 8)], fields :=
    [⟨"GROUP", 2, 0, .ro, 0x0, .cold, none⟩,
     ⟨"DRR", 3, 3, .ro, 0x0, .cold, none⟩,
     ⟨"SHAPER", 5, 4, .ro, 0x0, .cold, none⟩] },
  { off := 0xC20004, dims := [(0x100, 28), (0x20, 8)], fields :=
    [⟨"QUANTUM", 15, 0, .rk, 0x0, .keystone, none⟩] },
  { off := 0xC20008, dims := [(0x100, 28), (0x20, 8)], fields :=
    [⟨"RATE", 24, 0, .rk, 0x0, .keystone, none⟩] },
  { off := 0xC2000C, dims := [(0x100, 28), (0x20, 8)], fields :=
    [⟨"BURST", 19, 0, .rk, 0x0, .keystone, none⟩] },
  { off := 0xC20010, dims := [(0x100, 28), (0x20, 8)], fields :=
    [⟨"TS_Q_CREDIT", 31, 0, .ro, 0x0, .live, none⟩] }]

/-- All words of the TS block. -/
def tileWordsTS : List RegRow := tileWordsTS0

/-- 64-bit read-only pairs (R11) of the TS block. -/
def tilePairsTS : List PairRow := [
  ⟨"TS_SDU_DISC", 0xC00200, []⟩,
  ⟨"TS_SG_DISC", 0xC00208, []⟩,
  ⟨"TS_METER_DISC", 0xC00210, []⟩,
  ⟨"TS_FRER_DISC", 0xC00218, []⟩,
  ⟨"TS_WF_EXPIRED", 0xC00220, []⟩,
  ⟨"TS_GUARD_DEFER", 0xC00228, []⟩,
  ⟨"TS_FRER_BYPASS", 0xC00230, []⟩,
  ⟨"TS_SAMP_LOST", 0xC00238, []⟩,
  ⟨"TS_PORT_GUARD_DEFER", 0xC10040, [(0x100, 28)]⟩,
  ⟨"TS_PORT_WF_EXPIRED", 0xC10048, [(0x100, 28)]⟩,
  ⟨"TS_PORT_FRAG_TX", 0xC10050, [(0x100, 28)]⟩,
  ⟨"TS_PORT_FRAG_RX", 0xC10058, [(0x100, 28)]⟩,
  ⟨"TS_PORT_HOLD_OVERRUN", 0xC10060, [(0x100, 28)]⟩,
  ⟨"TS_PORT_ASSY_ERR", 0xC10068, [(0x100, 28)]⟩,
  ⟨"TS_Q_TX_FRAMES", 0xC20018, [(0x100, 28), (0x20, 8)]⟩]

/-- Words of the MS block (tile), part 0: the register tables of its chapter. -/
def tileWordsMS0 : List RegRow := [
  { off := 0x1000000, dims := [(0x40, 16)], fields :=
    [⟨"ENABLE", 0, 0, .rk, 0x0, .keystone, none⟩,
     ⟨"VALIDATE", 2, 1, .rk, 0x2, .keystone, some (0, 2)⟩,
     ⟨"CONF_OFFSET", 4, 3, .rk, 0x0, .keystone, some (0, 2)⟩,
     ⟨"REPLAY_PROTECT", 5, 5, .rk, 0x1, .keystone, none⟩] },
  { off := 0x1000004, dims := [(0x40, 16)], fields :=
    [⟨"REPLAY_WINDOW", 29, 0, .rk, 0x0, .keystone, none⟩] },
  { off := 0x1000400, dims := [(0x40, 16)], fields :=
    [⟨"ENABLE", 0, 0, .rk, 0x0, .keystone, none⟩,
     ⟨"SUITE", 2, 1, .rk, 0x0, .keystone, none⟩,
     ⟨"CONF_OFFSET", 4, 3, .rk, 0x0, .keystone, some (0, 2)⟩,
     ⟨"CONFIDENTIAL", 5, 5, .rk, 0x1, .keystone, none⟩,
     ⟨"ENC_AN", 7, 6, .rw, 0x0, .live, none⟩] },
  { off := 0x1000404, dims := [(0x40, 16)], fields :=
    [⟨"SCI_LO", 31, 0, .rk, 0x0, .keystone, none⟩] },
  { off := 0x1000408, dims := [(0x40, 16)], fields :=
    [⟨"SCI_HI", 31, 0, .rk, 0x0, .keystone, none⟩] },
  { off := 0x1000800, dims := [], fields :=
    [⟨"LEASE_OK", 0, 0, .ro, 0x0, .live, none⟩,
     ⟨"ZEROISED", 1, 1, .ro, 0x0, .live, none⟩,
     ⟨"RV_SEQ", 31, 16, .ro, 0x0, .live, none⟩] }]

/-- All words of the MS block. -/
def tileWordsMS : List RegRow := tileWordsMS0

/-- 64-bit read-only pairs (R11) of the MS block. -/
def tilePairsMS : List PairRow := [
  ⟨"MS_KEY_FETCHES", 0x1000810, []⟩,
  ⟨"MS_KEY_INVALIDATED", 0x1000818, []⟩,
  ⟨"MS_RX_KEY_REVOKED", 0x1000820, []⟩,
  ⟨"MS_TX_NO_SA", 0x1000828, []⟩,
  ⟨"MS_TX_ABORTED", 0x1000830, []⟩]

/-- Words of the TR block (tile), part 0: the register tables of its chapter. -/
def tileWordsTR0 : List RegRow := [
  { off := 0x1400000, dims := [], fields :=
    [⟨"ACTIVE", 0, 0, .ro, 0x0, .live, none⟩,
     ⟨"STANDBY", 1, 1, .ro, 0x0, .live, none⟩,
     ⟨"KEYS_ZEROISED", 2, 2, .ro, 0x0, .live, none⟩] },
  { off := 0x1400004, dims := [], fields :=
    [⟨"PAD", 7, 0, .rk, 0xFF, .keystone, none⟩] },
  { off := 0x1400008, dims := [], fields :=
    [⟨"TR_SRC_FILTER", 31, 0, .rk, 0x133F0FFF, .keystone, none⟩] },
  { off := 0x140000C, dims := [], fields :=
    [⟨"XL_TYPE", 7, 0, .rk, 0x78, .keystone, none⟩] },
  { off := 0x1400010, dims := [], fields :=
    [⟨"TR_SRC_MAC_HI", 31, 0, .rk, 0x0, .keystone, none⟩] },
  { off := 0x1400014, dims := [], fields :=
    [⟨"TR_SRC_MAC_LO", 15, 0, .rk, 0x0, .keystone, none⟩] },
  { off := 0x1400018, dims := [], fields :=
    [⟨"TR_FV_SKIP", 15, 0, .rk, 0x400, .keystone, some (1, 65535)⟩] },
  { off := 0x140001C, dims := [], fields :=
    [⟨"ENTRIES", 14, 0, .ro, 0x0, .cold, none⟩,
     ⟨"MOVES", 31, 15, .ro, 0x0, .cold, none⟩] },
  { off := 0x1400020, dims := [], fields :=
    [⟨"ETH_Q_USED", 10, 0, .ro, 0x0, .live, none⟩,
     ⟨"ETH_HELD", 16, 16, .ro, 0x0, .live, none⟩] },
  { off := 0x1400024, dims := [], fields :=
    [⟨"AUTH_Q_USED", 9, 0, .ro, 0x0, .live, none⟩] },
  { off := 0x1400030, dims := [], fields :=
    [⟨"MISS_ID", 28, 0, .ro, 0x0, .live, none⟩,
     ⟨"MISS_FMT", 31, 29, .ro, 0x0, .live, none⟩] },
  { off := 0x1400034, dims := [], fields :=
    [⟨"MISS_SRC", 4, 0, .ro, 0x0, .live, none⟩,
     ⟨"MISS_STREAM", 15, 8, .ro, 0x0, .live, none⟩,
     ⟨"MISS_BUS", 20, 16, .ro, 0x0, .live, none⟩,
     ⟨"VALID", 31, 31, .w1c, 0x0, .live, none⟩] }]

/-- All words of the TR block. -/
def tileWordsTR : List RegRow := tileWordsTR0

/-- 64-bit read-only pairs (R11) of the TR block. -/
def tilePairsTR : List PairRow := [
  ⟨"TR_DISC_CNT", 0x1400108, [(0x8, 20)]⟩,
  ⟨"TR_MSG_IN", 0x1400200, []⟩,
  ⟨"TR_MSG_OUT", 0x1400208, []⟩,
  ⟨"TR_AUTH_VERIFIED", 0x1400210, []⟩,
  ⟨"TR_AUTH_GENERATED", 0x1400218, []⟩,
  ⟨"TR_E2E_OK", 0x1400220, []⟩,
  ⟨"TR_E2E_SOME_LOST", 0x1400228, []⟩,
  ⟨"TR_E2E_REPEATED", 0x1400230, []⟩,
  ⟨"TR_E2E_WRONG_SEQ", 0x1400238, []⟩,
  ⟨"TR_E2E_ERROR", 0x1400240, []⟩,
  ⟨"TR_SEQ_GAP", 0x1400248, []⟩,
  ⟨"TR_MOVE_SHORT", 0x1400250, []⟩,
  ⟨"TR_STANDBY_RX", 0x1400258, []⟩]

/-- Words of the HB block (tile), part 0: the register tables of its chapter. -/
def tileWordsHB0 : List RegRow := [
  { off := 0x1800000, dims := [], fields :=
    [⟨"LINK_UP", 0, 0, .ro, 0x0, .live, none⟩,
     ⟨"SPEED", 3, 1, .ro, 0x0, .live, none⟩,
     ⟨"WIDTH", 6, 4, .ro, 0x0, .live, none⟩,
     ⟨"MPS", 8, 7, .ro, 0x0, .live, none⟩,
     ⟨"MRRS", 11, 9, .ro, 0x0, .live, none⟩,
     ⟨"BME", 12, 12, .ro, 0x0, .live, none⟩] },
  { off := 0x1800100, dims := [], fields :=
    [⟨"HB_VEC_STATUS", 31, 0, .ro, 0x0, .live, none⟩] },
  { off := 0x1800104, dims := [], fields :=
    [⟨"IN_NO_WIN", 0, 0, .w1c, 0x0, .live, none⟩,
     ⟨"OUT_NO_WIN", 1, 1, .w1c, 0x0, .live, none⟩,
     ⟨"OUT_ERR", 2, 2, .w1c, 0x0, .live, none⟩,
     ⟨"CPL_TIMEOUT", 3, 3, .w1c, 0x0, .live, none⟩,
     ⟨"IN_POISONED", 4, 4, .w1c, 0x0, .live, none⟩,
     ⟨"LINK_DOWN", 5, 5, .w1c, 0x0, .live, none⟩] },
  { off := 0x1800200, dims := [(0x10, 8)], fields :=
    [⟨"BASE", 13, 0, .rw, 0x0, .live, none⟩,
     ⟨"SIZE_EXP", 18, 14, .rw, 0xC, .live, some (12, 26)⟩,
     ⟨"LANES", 21, 19, .rw, 0x0, .live, some (0, 4)⟩,
     ⟨"VALID", 31, 31, .rw, 0x0, .live, none⟩] },
  { off := 0x1800204, dims := [(0x10, 8)], fields :=
    [⟨"LOCAL", 31, 0, .rw, 0x0, .live, none⟩] },
  { off := 0x1800400, dims := [(0x10, 16)], fields :=
    [⟨"HOST_LO", 31, 12, .rw, 0x0, .live, none⟩] },
  { off := 0x1800404, dims := [(0x10, 16)], fields :=
    [⟨"HOST_HI", 31, 0, .rw, 0x0, .live, none⟩] },
  { off := 0x1800408, dims := [(0x10, 16)], fields :=
    [⟨"SIZE_EXP", 5, 0, .rw, 0xC, .live, some (12, 36)⟩,
     ⟨"PREFETCH", 6, 6, .rw, 0x0, .live, none⟩,
     ⟨"NO_SNOOP", 7, 7, .rw, 0x0, .live, none⟩,
     ⟨"LANES", 10, 8, .rw, 0x0, .live, some (0, 4)⟩,
     ⟨"VALID", 31, 31, .rw, 0x0, .live, none⟩] }]

/-- All words of the HB block. -/
def tileWordsHB : List RegRow := tileWordsHB0

/-- 64-bit read-only pairs (R11) of the HB block. -/
def tilePairsHB : List PairRow := [
  ⟨"HB_IN_NO_WIN", 0x1800600, []⟩,
  ⟨"HB_OUT_NO_WIN", 0x1800608, []⟩,
  ⟨"HB_OUT_ERR", 0x1800610, []⟩,
  ⟨"HB_CPL_TIMEOUT", 0x1800618, []⟩,
  ⟨"HB_IN_POISONED", 0x1800620, []⟩,
  ⟨"HB_PREFETCH_BYTES", 0x1800628, []⟩,
  ⟨"HB_PREFETCH_DISCARD", 0x1800630, []⟩,
  ⟨"HB_LANE_UNALIGNED", 0x1800638, []⟩,
  ⟨"HB_CUT_PIECES", 0x1800640, []⟩]

/-- Words of the DM block (tile), part 0: the register tables of its chapter. -/
def tileWordsDM0 : List RegRow := [
  { off := 0x1A00000, dims := [(0x100, 16)], fields :=
    [⟨"KIND", 2, 0, .ro, 0x0, .cold, none⟩,
     ⟨"QUEUES", 15, 8, .ro, 0x0, .cold, none⟩,
     ⟨"ENABLE", 16, 16, .rw, 0x0, .live, none⟩,
     ⟨"ERR_HALT", 17, 17, .rw, 0x1, .live, none⟩] },
  { off := 0x1A00004, dims := [(0x100, 16)], fields :=
    [⟨"DM_CH_RING_LO", 31, 0, .rw, 0x0, .live, none⟩] },
  { off := 0x1A00008, dims := [(0x100, 16)], fields :=
    [⟨"DM_CH_RING_HI", 31, 0, .rw, 0x0, .live, none⟩] },
  { off := 0x1A0000C, dims := [(0x100, 16)], fields :=
    [⟨"RING_EXP", 3, 0, .rw, 0x4, .live, some (4, 12)⟩] },
  { off := 0x1A00010, dims := [(0x100, 16)], fields :=
    [⟨"DM_CH_HEAD", 11, 0, .ro, 0x0, .live, none⟩] },
  { off := 0x1A00014, dims := [(0x100, 16)], fields :=
    [⟨"DM_CH_TAIL", 11, 0, .rw, 0x0, .live, none⟩] },
  { off := 0x1A00018, dims := [(0x100, 16)], fields :=
    [⟨"RUNNING", 0, 0, .ro, 0x0, .live, none⟩,
     ⟨"HALTED", 1, 1, .ro, 0x0, .live, none⟩,
     ⟨"STARVED", 2, 2, .ro, 0x0, .live, none⟩,
     ⟨"RING_ERR", 3, 3, .ro, 0x0, .live, none⟩] },
  { off := 0x1A0001C, dims := [(0x100, 16)], fields :=
    [⟨"RESUME", 0, 0, .wo, 0x0, .live, none⟩,
     ⟨"STOP", 1, 1, .wo, 0x0, .live, none⟩] },
  { off := 0x1A00020, dims := [(0x100, 16)], fields :=
    [⟨"DONE", 0, 0, .w1c, 0x0, .live, none⟩,
     ⟨"BAD", 1, 1, .w1c, 0x0, .live, none⟩,
     ⟨"HALT", 2, 2, .w1c, 0x0, .live, none⟩,
     ⟨"STARVE", 3, 3, .w1c, 0x0, .live, none⟩] },
  { off := 0x1A00024, dims := [(0x100, 16)], fields :=
    [⟨"DM_CH_CAUSE_EN", 3, 0, .rw, 0xF, .live, none⟩] }]

/-- All words of the DM block. -/
def tileWordsDM : List RegRow := tileWordsDM0

/-- 64-bit read-only pairs (R11) of the DM block. -/
def tilePairsDM : List PairRow := [
  ⟨"DM_CH_DESC", 0x1A00040, [(0x100, 16)]⟩,
  ⟨"DM_CH_BYTES", 0x1A00048, [(0x100, 16)]⟩,
  ⟨"DM_CH_BAD", 0x1A00050, [(0x100, 16)]⟩,
  ⟨"DM_CH_OVERLAPS", 0x1A00058, [(0x100, 16)]⟩]

/-- Words of the PD block (tile), part 0: the register tables of its chapter. -/
def tileWordsPD0 : List RegRow := [
  { off := 0x1B00000, dims := [(0x20, 64)], fields :=
    [⟨"COUNT", 23, 0, .ro, 0x0, .cold, none⟩,
     ⟨"SIZE_EXP", 27, 24, .ro, 0x0, .cold, none⟩,
     ⟨"PRESENT", 31, 31, .ro, 0x0, .cold, none⟩] },
  { off := 0x1B0000C, dims := [(0x20, 64)], fields :=
    [⟨"FREE", 23, 0, .ro, 0x0, .live, none⟩] },
  { off := 0x1B00010, dims := [(0x20, 64)], fields :=
    [⟨"LOW", 23, 0, .rw, 0x0, .live, none⟩] },
  { off := 0x1B00800, dims := [], fields :=
    [⟨"CODE", 2, 0, .ro, 0x0, .live, none⟩,
     ⟨"OWNER", 11, 4, .ro, 0x0, .live, none⟩,
     ⟨"AGENT", 15, 12, .ro, 0x0, .live, none⟩,
     ⟨"OVERFLOW", 30, 30, .w1c, 0x0, .live, none⟩,
     ⟨"VALID", 31, 31, .w1c, 0x0, .live, none⟩] },
  { off := 0x1B00804, dims := [], fields :=
    [⟨"HANDLE", 31, 0, .ro, 0x0, .live, none⟩] },
  { off := 0x1B00840, dims := [], fields :=
    [⟨"PD_EVT_LOW0", 31, 0, .w1c, 0x0, .live, none⟩] },
  { off := 0x1B00844, dims := [], fields :=
    [⟨"PD_EVT_LOW1", 31, 0, .w1c, 0x0, .live, none⟩] },
  { off := 0x1B00848, dims := [], fields :=
    [⟨"PD_EVT_EMPTY0", 31, 0, .w1c, 0x0, .live, none⟩] },
  { off := 0x1B0084C, dims := [], fields :=
    [⟨"PD_EVT_EMPTY1", 31, 0, .w1c, 0x0, .live, none⟩] },
  { off := 0x1B00C00, dims := [(0x10, 64), (0x4, 4)], fields :=
    [⟨"RSV_COUNT", 23, 0, .ro, 0x0, .cold, none⟩,
     ⟨"RSV_OWNER", 31, 24, .ro, 0x0, .cold, none⟩] },
  { off := 0x1B01800, dims := [(0x4, 256)], fields :=
    [⟨"AGENTS", 11, 0, .ro, 0x0, .cold, none⟩] }]

/-- All words of the PD block. -/
def tileWordsPD : List RegRow := tileWordsPD0

/-- 64-bit read-only pairs (R11) of the PD block. -/
def tilePairsPD : List PairRow := [
  ⟨"BASE", 0x1B00004, [(0x20, 64)]⟩,
  ⟨"PD_EMPTY", 0x1B00018, [(0x20, 64)]⟩,
  ⟨"PD_ERR_CNT", 0x1B00888, [(0x8, 7)]⟩]

/-- Words of the CK block (tile), part 0: the register tables of its chapter. -/
def tileWordsCK0 : List RegRow := [
  { off := 0x1C00000, dims := [(0x40, 8)], fields :=
    [⟨"POLY", 2, 0, .rw, 0x5, .live, some (1, 7)⟩,
     ⟨"REFIN", 3, 3, .rw, 0x1, .live, none⟩,
     ⟨"REFOUT", 4, 4, .rw, 0x1, .live, none⟩,
     ⟨"ATTACH_CH", 8, 5, .rw, 0x0, .live, none⟩,
     ⟨"ATTACH_EN", 9, 9, .rw, 0x0, .live, none⟩,
     ⟨"TRESTLE", 31, 31, .ro, 0x0, .cold, none⟩] },
  { off := 0x1C00004, dims := [(0x40, 8)], fields :=
    [⟨"CK_INIT_LO", 31, 0, .rw, 0xFFFFFFFF, .live, none⟩] },
  { off := 0x1C00008, dims := [(0x40, 8)], fields :=
    [⟨"CK_INIT_HI", 31, 0, .rw, 0xFFFFFFFF, .live, none⟩] },
  { off := 0x1C0000C, dims := [(0x40, 8)], fields :=
    [⟨"CK_XOROUT_LO", 31, 0, .rw, 0xFFFFFFFF, .live, none⟩] },
  { off := 0x1C00010, dims := [(0x40, 8)], fields :=
    [⟨"CK_XOROUT_HI", 31, 0, .rw, 0xFFFFFFFF, .live, none⟩] },
  { off := 0x1C00014, dims := [(0x40, 8)], fields :=
    [⟨"CK_VALUE_LO", 31, 0, .rw, 0xFFFFFFFF, .live, none⟩] },
  { off := 0x1C00018, dims := [(0x40, 8)], fields :=
    [⟨"CK_VALUE_HI", 31, 0, .rw, 0xFFFFFFFF, .live, none⟩] },
  { off := 0x1C00024, dims := [(0x40, 8)], fields :=
    [⟨"CK_FEED", 31, 0, .wo, 0x0, .live, none⟩] },
  { off := 0x1C00028, dims := [(0x40, 8)], fields :=
    [⟨"CK_FEED_B", 7, 0, .wo, 0x0, .live, none⟩] },
  { off := 0x1C0002C, dims := [(0x40, 8)], fields :=
    [⟨"RESTART", 0, 0, .wo, 0x0, .live, none⟩,
     ⟨"PRESET", 1, 1, .wo, 0x0, .live, none⟩] },
  { off := 0x1C00030, dims := [(0x40, 8)], fields :=
    [⟨"BUSY", 0, 0, .ro, 0x0, .live, none⟩,
     ⟨"COLLIDE", 1, 1, .w1c, 0x0, .live, none⟩] }]

/-- All words of the CK block. -/
def tileWordsCK : List RegRow := tileWordsCK0

/-- 64-bit read-only pairs (R11) of the CK block. -/
def tilePairsCK : List PairRow := [
  ⟨"CK_RESULT", 0x1C0001C, [(0x40, 8)]⟩,
  ⟨"CK_COLLIDES", 0x1C00038, [(0x40, 8)]⟩]

/-- Words of the SG block (tile), part 0: the register tables of its chapter. -/
def tileWordsSG0 : List RegRow := [
  { off := 0x1D00000, dims := [], fields :=
    [⟨"ROUND_US", 10, 0, .rw, 0x3E8, .live, some (250, 2000)⟩,
     ⟨"INJECT_PERIOD", 25, 16, .rw, 0x3E8, .live, some (1, 1000)⟩] },
  { off := 0x1D00004, dims := [], fields :=
    [⟨"GRACE_US", 7, 0, .rw, 0x64, .live, some (20, 200)⟩,
     ⟨"SPLIT_BOOT", 8, 8, .ro, 0x0, .cold, none⟩] },
  { off := 0x1D00008, dims := [], fields :=
    [⟨"REJOIN", 0, 0, .wo, 0x0, .live, none⟩] },
  { off := 0x1D0000C, dims := [], fields :=
    [⟨"DOUBT_CLEAR", 0, 0, .wo, 0x0, .live, none⟩] },
  { off := 0x1D00010, dims := [], fields :=
    [⟨"ROLE", 1, 0, .ro, 0x0, .live, none⟩,
     ⟨"CLUSTER", 3, 2, .ro, 0x0, .live, none⟩,
     ⟨"CORES_IN", 6, 4, .ro, 0x7, .live, none⟩,
     ⟨"STBY_HEALTH", 10, 8, .ro, 0x0, .live, none⟩,
     ⟨"ROUND16", 31, 16, .ro, 0x0, .live, none⟩] },
  { off := 0x1D00014, dims := [], fields :=
    [⟨"REPLAY", 0, 0, .w1c, 0x0, .live, none⟩,
     ⟨"EXCLUDED", 1, 1, .w1c, 0x0, .live, none⟩,
     ⟨"ROUND_FAIL", 2, 2, .w1c, 0x0, .live, none⟩,
     ⟨"VOTER_FAULT", 3, 3, .w1c, 0x0, .live, none⟩,
     ⟨"STBY_MISMATCH", 4, 4, .w1c, 0x0, .live, none⟩,
     ⟨"TAKEOVER", 5, 5, .w1c, 0x0, .live, none⟩,
     ⟨"DOUBT", 6, 6, .w1c, 0x0, .live, none⟩,
     ⟨"RESTART", 7, 7, .w1c, 0x0, .live, none⟩] },
  { off := 0x1D00028, dims := [], fields :=
    [⟨"DOUBT_COUNT", 5, 0, .ro, 0x0, .live, none⟩,
     ⟨"DOUBT_OVF", 6, 6, .ro, 0x0, .live, none⟩] },
  { off := 0x1D0002C, dims := [], fields :=
    [⟨"DISSENT", 2, 0, .ro, 0x0, .live, none⟩,
     ⟨"MISSING", 3, 3, .ro, 0x0, .live, none⟩,
     ⟨"IN_REPLAY", 4, 4, .ro, 0x0, .live, none⟩,
     ⟨"KIND", 6, 5, .ro, 0x0, .live, none⟩] },
  { off := 0x1D00100, dims := [], fields :=
    [⟨"SG_FENCE", 31, 0, .wo, 0x0, .live, none⟩] },
  { off := 0x1D00104, dims := [], fields :=
    [⟨"SG_FENCE_WAIT", 31, 0, .ro, 0x0, .live, none⟩] },
  { off := 0x1D00200, dims := [(0x8, 32)], fields :=
    [⟨"ADDR", 29, 0, .ro, 0x0, .live, none⟩,
     ⟨"VALID", 31, 31, .ro, 0x0, .live, none⟩] },
  { off := 0x1D00204, dims := [(0x8, 32)], fields :=
    [⟨"DATA", 31, 0, .ro, 0x0, .live, none⟩] }]

/-- All words of the SG block. -/
def tileWordsSG : List RegRow := tileWordsSG0

/-- 64-bit read-only pairs (R11) of the SG block. -/
def tilePairsSG : List PairRow := [
  ⟨"SG_ROUND", 0x1D00018, []⟩,
  ⟨"SG_ROUND_START", 0x1D00020, []⟩,
  ⟨"SG_ROUNDS", 0x1D00040, []⟩,
  ⟨"SG_REPLAYS", 0x1D00048, []⟩,
  ⟨"SG_REPLAY_OK", 0x1D00050, []⟩,
  ⟨"SG_EXCLUSIONS", 0x1D00058, []⟩,
  ⟨"SG_ROUND_FAILS", 0x1D00060, []⟩,
  ⟨"SG_INJECT_RUNS", 0x1D00068, []⟩,
  ⟨"SG_INJECT_FAILS", 0x1D00070, []⟩,
  ⟨"SG_STBY_ROUNDS", 0x1D00078, []⟩,
  ⟨"SG_STBY_MISMATCH", 0x1D00080, []⟩,
  ⟨"SG_TAKEOVERS", 0x1D00088, []⟩,
  ⟨"SG_RESTARTS", 0x1D00090, []⟩,
  ⟨"SG_REISSUED", 0x1D00098, []⟩,
  ⟨"SG_LOCAL_DROPS", 0x1D000A0, []⟩,
  ⟨"SG_EARLY_CLOSE", 0x1D000C8, [(0x8, 6)]⟩]

/-- Words of the CS block (tile), part 0: the register tables of its chapter. -/
def tileWordsCS0 : List RegRow := [
  { off := 0x1E00000, dims := [], fields :=
    [⟨"PERIODIC", 0, 0, .rk, 0x0, .keystone, none⟩,
     ⟨"INCLUDE_SNT", 1, 1, .rk, 0x0, .keystone, none⟩,
     ⟨"HOLD", 2, 2, .rw, 0x0, .live, none⟩] },
  { off := 0x1E00004, dims := [], fields :=
    [⟨"INTERVAL_US", 23, 0, .rk, 0x3E8, .keystone, some (10, 16000000)⟩] },
  { off := 0x1E00008, dims := [], fields :=
    [⟨"GO", 0, 0, .wo, 0x0, .live, none⟩,
     ⟨"TIMED", 1, 1, .wo, 0x0, .live, none⟩] },
  { off := 0x1E0000C, dims := [], fields :=
    [⟨"CS_CEN_AT_LO", 31, 0, .rw, 0x0, .live, none⟩] },
  { off := 0x1E00010, dims := [], fields :=
    [⟨"CS_CEN_AT_HI", 31, 0, .rw, 0x0, .live, none⟩] },
  { off := 0x1E00014, dims := [], fields :=
    [⟨"LEAD_US", 7, 0, .rw, 0x5, .live, some (1, 255)⟩] },
  { off := 0x1E00018, dims := [], fields :=
    [⟨"STATE", 1, 0, .ro, 0x0, .live, none⟩,
     ⟨"DONE", 2, 2, .w1c, 0x0, .live, none⟩,
     ⟨"LATE", 3, 3, .w1c, 0x0, .live, none⟩,
     ⟨"ABSENT", 4, 4, .w1c, 0x0, .live, none⟩] },
  { off := 0x1E0001C, dims := [], fields :=
    [⟨"CS_CEN_DIES", 15, 0, .ro, 0x0, .live, none⟩] },
  { off := 0x1E00028, dims := [], fields :=
    [⟨"CS_CEN_UNITS", 8, 0, .ro, 0x123, .cold, none⟩] },
  { off := 0x1E00100, dims := [], fields :=
    [⟨"TYPE", 15, 0, .wo, 0x0, .live, none⟩,
     ⟨"PLEN", 27, 16, .wo, 0x0, .live, none⟩] },
  { off := 0x1E00104, dims := [], fields :=
    [⟨"QUEUE_BYTES", 16, 0, .ro, 0x0, .live, none⟩,
     ⟨"REFUSED", 17, 17, .w1c, 0x0, .live, none⟩,
     ⟨"LOST", 18, 18, .w1c, 0x0, .live, none⟩] },
  { off := 0x1E00108, dims := [], fields :=
    [⟨"CS_JNL_SEQ", 31, 0, .ro, 0x0, .live, none⟩] },
  { off := 0x1E0010C, dims := [], fields :=
    [⟨"NODE", 9, 0, .ro, 0x0, .live, none⟩] }]

/-- All words of the CS block. -/
def tileWordsCS : List RegRow := tileWordsCS0

/-- 64-bit read-only pairs (R11) of the CS block. -/
def tilePairsCS : List PairRow := [
  ⟨"CS_CEN_LAST_TS", 0x1E00020, []⟩,
  ⟨"CS_CENSUSES", 0x1E00040, []⟩,
  ⟨"CS_CEN_LATE", 0x1E00048, []⟩,
  ⟨"CS_CEN_ABSENT", 0x1E00050, []⟩,
  ⟨"CS_CEN_BUSY", 0x1E00058, []⟩,
  ⟨"CS_CEN_OVERWRITTEN", 0x1E00060, []⟩,
  ⟨"CS_JNL_RECORDS", 0x1E00140, []⟩,
  ⟨"CS_JNL_REFUSED", 0x1E00148, []⟩,
  ⟨"CS_JNL_LOST", 0x1E00150, []⟩]

/-- Words of the ST block (tile), part 0: the register tables of its chapter. -/
def tileWordsST0 : List RegRow := [
  { off := 0x1F00000, dims := [], fields :=
    [⟨"MOUNTED", 0, 0, .ro, 0x0, .live, none⟩,
     ⟨"UNSUPPORTED", 1, 1, .ro, 0x0, .live, none⟩,
     ⟨"WORN", 2, 2, .ro, 0x0, .live, none⟩,
     ⟨"READ_ONLY", 3, 3, .ro, 0x0, .live, none⟩,
     ⟨"NOR_DAMAGED", 5, 4, .ro, 0x0, .live, none⟩,
     ⟨"PROV_DAMAGED", 6, 6, .ro, 0x0, .live, none⟩,
     ⟨"HK_DONE", 7, 7, .ro, 0x0, .live, none⟩] },
  { off := 0x1F00004, dims := [], fields :=
    [⟨"PAGE_4K", 0, 0, .ro, 0x0, .cold, none⟩,
     ⟨"PAGES_128", 1, 1, .ro, 0x0, .cold, none⟩,
     ⟨"BLOCKS", 16, 2, .ro, 0x0, .cold, none⟩,
     ⟨"NVDDR2", 17, 17, .ro, 0x0, .cold, none⟩] },
  { off := 0x1F00008, dims := [], fields :=
    [⟨"REFRESH_BITS", 4, 0, .rw, 0x10, .live, some (8, 24)⟩,
     ⟨"FLUSH_MS", 15, 8, .rw, 0x64, .live, some (1, 255)⟩,
     ⟨"SCRUB_DAYS", 23, 16, .rw, 0x3C, .live, some (1, 255)⟩,
     ⟨"NOR_SCRUB_DAYS", 31, 24, .rw, 0x1E, .live, some (1, 255)⟩] },
  { off := 0x1F0000C, dims := [], fields :=
    [⟨"READ_LIMIT", 19, 0, .rw, 0xC350, .live, some (1000, 1000000)⟩] },
  { off := 0x1F00010, dims := [], fields :=
    [⟨"STATIC_DELTA", 15, 0, .rw, 0x3E8, .live, some (100, 65535)⟩,
     ⟨"BG_BLOCKS", 23, 16, .rw, 0xA, .live, some (1, 255)⟩] },
  { off := 0x1F00014, dims := [], fields :=
    [⟨"FLUSH", 0, 0, .wo, 0x0, .live, none⟩,
     ⟨"RD_GO", 1, 1, .wo, 0x0, .live, none⟩,
     ⟨"RD_AREA", 2, 2, .wo, 0x0, .live, none⟩,
     ⟨"RD_STOP", 3, 3, .wo, 0x0, .live, none⟩] },
  { off := 0x1F00018, dims := [], fields :=
    [⟨"ST_RD_FROM_LO", 31, 0, .rw, 0x0, .live, none⟩] },
  { off := 0x1F0001C, dims := [], fields :=
    [⟨"ST_RD_FROM_HI", 31, 0, .rw, 0x0, .live, none⟩] },
  { off := 0x1F00020, dims := [], fields :=
    [⟨"ST_RD_BASE_LO", 31, 0, .rw, 0x0, .live, none⟩] },
  { off := 0x1F00024, dims := [], fields :=
    [⟨"ST_RD_BASE_HI", 31, 0, .rw, 0x0, .live, none⟩] },
  { off := 0x1F00028, dims := [], fields :=
    [⟨"RD_EXP", 3, 0, .rw, 0x4, .live, some (4, 12)⟩] },
  { off := 0x1F0002C, dims := [], fields :=
    [⟨"ST_RD_PROD", 11, 0, .ro, 0x0, .live, none⟩,
     ⟨"ST_RD_CONS", 27, 16, .rw, 0x0, .live, none⟩] },
  { off := 0x1F00038, dims := [], fields :=
    [⟨"PENDING_BLOCKS", 15, 0, .ro, 0x0, .live, none⟩,
     ⟨"NOR_DUE", 16, 16, .ro, 0x0, .live, none⟩] },
  { off := 0x1F0003C, dims := [], fields :=
    [⟨"GOOD_SPARE", 15, 0, .ro, 0x0, .live, none⟩,
     ⟨"FREE", 31, 16, .ro, 0x0, .live, none⟩] },
  { off := 0x1F00040, dims := [], fields :=
    [⟨"WORN", 0, 0, .w1c, 0x0, .live, none⟩,
     ⟨"READ_ONLY", 1, 1, .w1c, 0x0, .live, none⟩,
     ⟨"ECC_FAIL", 2, 2, .w1c, 0x0, .live, none⟩,
     ⟨"NOR_DAMAGED", 3, 3, .w1c, 0x0, .live, none⟩,
     ⟨"RD_DONE", 4, 4, .w1c, 0x0, .live, none⟩] }]

/-- All words of the ST block. -/
def tileWordsST : List RegRow := tileWordsST0

/-- 64-bit read-only pairs (R11) of the ST block. -/
def tilePairsST : List PairRow := [
  ⟨"ST_DURABLE", 0x1F00030, []⟩,
  ⟨"ST_PAGES_WRITTEN", 0x1F00080, []⟩,
  ⟨"ST_ERASES", 0x1F00088, []⟩,
  ⟨"ST_ECC_BITS", 0x1F00090, []⟩,
  ⟨"ST_ECC_FAIL", 0x1F00098, []⟩,
  ⟨"ST_GROWN_BAD", 0x1F000A0, []⟩,
  ⟨"ST_REFRESHES", 0x1F000A8, []⟩,
  ⟨"ST_STATIC_MOVES", 0x1F000B0, []⟩,
  ⟨"ST_SCRUB_BLOCKS", 0x1F000B8, []⟩,
  ⟨"ST_WRAPS", 0x1F000C0, []⟩,
  ⟨"ST_TORN", 0x1F000C8, []⟩,
  ⟨"ST_DROPPED", 0x1F000D0, []⟩,
  ⟨"ST_RD_SKIPPED", 0x1F000D8, []⟩,
  ⟨"ST_NOR_SCRUBS", 0x1F000E0, []⟩,
  ⟨"ST_NOR_REPAIRS", 0x1F000E8, []⟩]

/-- Words of the UP block (tile), part 0: the register tables of its chapter. -/
def tileWordsUP0 : List RegRow := [
  { off := 0x2100000, dims := [], fields :=
    [⟨"SLOT", 0, 0, .ro, 0x0, .live, none⟩,
     ⟨"TRIAL", 1, 1, .ro, 0x0, .live, none⟩,
     ⟨"VERIFIED_OTHER", 2, 2, .ro, 0x0, .live, none⟩,
     ⟨"NEXT_START_PENDING", 3, 3, .ro, 0x0, .live, none⟩,
     ⟨"STATE", 5, 4, .ro, 0x0, .live, none⟩,
     ⟨"RESULT", 11, 8, .ro, 0x0, .live, none⟩,
     ⟨"REFUSE", 15, 12, .ro, 0x0, .live, none⟩,
     ⟨"DIE_REV", 16, 16, .ro, 0x0, .live, none⟩] },
  { off := 0x2100004, dims := [], fields :=
    [⟨"OP", 2, 0, .wo, 0x0, .live, some (1, 6)⟩,
     ⟨"HOW", 4, 3, .wo, 0x0, .live, some (0, 2)⟩,
     ⟨"STAGE", 5, 5, .wo, 0x0, .live, none⟩] },
  { off := 0x2100008, dims := [], fields :=
    [⟨"UP_WR_SRC_LO", 31, 0, .rw, 0x0, .live, none⟩] },
  { off := 0x210000C, dims := [], fields :=
    [⟨"UP_WR_SRC_HI", 31, 0, .rw, 0x0, .live, none⟩] },
  { off := 0x2100010, dims := [], fields :=
    [⟨"UP_WR_OFF", 24, 0, .rw, 0x0, .live, none⟩] },
  { off := 0x2100014, dims := [], fields :=
    [⟨"UP_WR_LEN", 24, 0, .rw, 0x0, .live, none⟩] },
  { off := 0x2100018, dims := [], fields :=
    [⟨"UP_TRIAL_S", 9, 0, .rw, 0x1E, .live, some (1, 600)⟩] },
  { off := 0x210001C, dims := [], fields :=
    [⟨"UP_FW_ID", 31, 0, .ro, 0x0, .cold, none⟩] },
  { off := 0x2100020, dims := [], fields :=
    [⟨"FW_STEP", 6, 0, .ro, 0x0, .cold, none⟩] },
  { off := 0x2100030, dims := [], fields :=
    [⟨"DONE", 0, 0, .w1c, 0x0, .live, none⟩,
     ⟨"FELL_BACK", 1, 1, .w1c, 0x0, .live, none⟩,
     ⟨"CONFIRMED", 2, 2, .w1c, 0x0, .live, none⟩,
     ⟨"BOOT_FALLBACK", 3, 3, .w1c, 0x0, .live, none⟩,
     ⟨"RECORD_LOST", 4, 4, .w1c, 0x0, .live, none⟩,
     ⟨"FUSE_FAIL", 5, 5, .w1c, 0x0, .live, none⟩] }]

/-- All words of the UP block. -/
def tileWordsUP : List RegRow := tileWordsUP0

/-- 64-bit read-only pairs (R11) of the UP block. -/
def tilePairsUP : List PairRow := [
  ⟨"UP_TRIAL_END", 0x2100028, []⟩,
  ⟨"UP_ACTIVATIONS", 0x2100040, []⟩,
  ⟨"UP_FALLBACKS", 0x2100048, []⟩,
  ⟨"UP_BOOT_FALLBACKS", 0x2100050, []⟩,
  ⟨"UP_SKIPPED_ENC", 0x2100058, []⟩,
  ⟨"UP_BUS_HELD_LOST", 0x2100060, []⟩,
  ⟨"UP_REFUSED", 0x2100068, []⟩]

end Sys2Proof.Machine
end

