-- ==== Sys2Proof/Machine/RegMap.lean ====
section
/-! DEFINITION. Looking a register word up in the tables of spec/: its fields, its reset value, which of its bits are
writable in which way, and the block maps of Tables 1-4 and 1-5. -/
namespace Sys2Proof.Machine

/-- The three ordering codes (R2, Table 0-1). -/
inductive Variant where
  | ikd2 | ikd4 | ikd8
deriving DecidableEq, Repr

/-- Dies in the package, ID_DEVICE.DIES (R2, R6). -/
def Variant.dies : Variant → Nat
  | .ikd2 => 2 | .ikd4 => 4 | .ikd8 => 8

/-- Tiles in the package: die indices 0 to this number less one (R2). -/
def Variant.tiles (v : Variant) : Nat := v.dies - 1

/-- The sentinel's die index (R20). -/
def sentinelDie : Nat := 15

/-- Die indices present (R2, R20). -/
def Variant.present (v : Variant) (die : Nat) : Bool := die < v.tiles || die == sentinelDie

/-- Whether the offset is the word (i, j) of this row (R10: instance n lies at base + n × stride). -/
def RegRow.hits (r : RegRow) (off : Nat) : Bool :=
  match r.dims with
  | [] => off == r.off
  | [(s, n)] => r.off ≤ off && (off - r.off) % s == 0 && (off - r.off) / s < n
  | (s, n) :: (s2, n2) :: _ =>
    r.off ≤ off && (off - r.off) / s < n && ((off - r.off) % s) % s2 == 0 && ((off - r.off) % s) / s2 < n2

/-- The offset of the low word if this offset is either word of the pair (R11). -/
def PairRow.low (p : PairRow) (off : Nat) : Option Nat :=
  let r : RegRow := { off := p.off, dims := p.dims, fields := [] }
  if r.hits off then some off else if 4 ≤ off && r.hits (off - 4) then some (off - 4) else none

/-- Tile blocks of Table 1-4. -/
inductive Block where
  | id | tm | si | pr | sw | ts | ms | tr | hb | dm | pd | ck | sg | cs | st | el | up | table
  | ky | nm | bus | tp | pw | fu
deriving DecidableEq, Repr

/-- Table 1-4 (R37): the block an offset of a tile lies in; none: unassigned. -/
def tileBlock (off : Nat) : Option Block :=
  if off < 0x0100000 then some .id else if off < 0x0200000 then some .tm
  else if off < 0x0400000 then some .si else if off < 0x0800000 then some .pr
  else if off < 0x0C00000 then some .sw else if off < 0x1000000 then some .ts
  else if off < 0x1400000 then some .ms else if off < 0x1800000 then some .tr
  else if off < 0x1A00000 then some .hb else if off < 0x1B00000 then some .dm
  else if off < 0x1C00000 then some .pd else if off < 0x1D00000 then some .ck
  else if off < 0x1E00000 then some .sg else if off < 0x1F00000 then some .cs
  else if off < 0x2000000 then some .st else if off < 0x2100000 then some .el
  else if off < 0x2200000 then some .up else if off < 0x3000000 then none else some .table

/-- Table 1-5 (R38): the block an offset of the sentinel lies in; none: unassigned. -/
def sentinelBlock (off : Nat) : Option Block :=
  if off < 0x10000 then some .id else if off < 0x20000 then some .ky
  else if off < 0x30000 then some .nm else if off < 0x40000 then some .el
  else if off < 0x50000 then some .bus else if off < 0x60000 then some .tp
  else if off < 0x70000 then some .pw else if off < 0x80000 then some .fu else none

/-- Register words of a tile block, as its chapter's tables give them. The EL block of a tile answers with the copy of
the sentinel's (R333), so it has no words of its own here. -/
def tileRows : Block → List RegRow
  | .id => tileWordsID | .tm => tileWordsTM | .si => tileWordsSI | .pr => tileWordsPR
  | .sw => tileWordsSW | .ts => tileWordsTS | .ms => tileWordsMS | .tr => tileWordsTR
  | .hb => tileWordsHB ++ msixWords | .dm => tileWordsDM | .pd => tileWordsPD | .ck => tileWordsCK
  | .sg => tileWordsSG | .cs => tileWordsCS ++ stageWords | .st => tileWordsST | .up => tileWordsUP
  | .table => tableWords
  | .el | .ky | .nm | .bus | .tp | .pw | .fu => []

/-- 64-bit pairs of a tile block; its EL block has those of the sentinel's (R333). -/
def tilePairs : Block → List PairRow
  | .id => tilePairsID | .tm => tilePairsTM | .si => tilePairsSI | .pr => tilePairsPR
  | .sw => tilePairsSW | .ts => tilePairsTS | .ms => tilePairsMS | .tr => tilePairsTR
  | .hb => tilePairsHB | .dm => tilePairsDM | .pd => tilePairsPD | .ck => tilePairsCK
  | .sg => tilePairsSG | .cs => tilePairsCS | .st => tilePairsST | .up => tilePairsUP
  | .table => tablePairs | .el => sntPairsEL.map (fun p => { p with off := p.off + 0x1FD0000 })
  | .ky | .nm | .bus | .tp | .pw | .fu => []

/-- Register words of a sentinel block. -/
def sentinelRows : Block → List RegRow
  | .id => sntWordsID | .ky => sntWordsKY ++ kyBufferWords | .nm => sntWordsNM ++ parkLogWords | .el => sntWordsEL
  | .bus => sntWordsBUS ++ linTableWords | .tp => sntWordsTP | .pw => sntWordsPW | .fu => sntWordsFU
  | _ => []

/-- 64-bit pairs of a sentinel block. -/
def sentinelPairs : Block → List PairRow
  | .id => sntPairsID | .ky => sntPairsKY | .nm => sntPairsNM | .el => sntPairsEL
  | .bus => sntPairsBUS | .tp => sntPairsTP | .pw => sntPairsPW | .fu => sntPairsFU
  | _ => []

/-- The fields of the register word at this offset of this die; none where no table names the word (it is reserved,
R39, or a table memory). -/
def wordFields (die off : Nat) : List Field :=
  let rows := if die = sentinelDie then (sentinelBlock off).elim [] sentinelRows else (tileBlock off).elim [] tileRows
  match rows.find? (fun r => r.hits off) with
  | some r => r.fields
  | none => []

/-- The offset of the low word of the 64-bit read-only pair this offset belongs to (R11). -/
def pairLow (die off : Nat) : Option Nat :=
  let ps := if die = sentinelDie then (sentinelBlock off).elim [] sentinelPairs else (tileBlock off).elim [] tilePairs
  ps.findSome? (fun p => p.low off)

/-- ID_DEVICE (R6, Table 0-2). -/
def idDevice (v : Variant) (die : Nat) : Word :=
  BitVec.ofNat 32 (0x1D8 * 2 ^ 20 + v.dies * 2 ^ 16 + (if die = sentinelDie then 2 else 1) * 2 ^ 12 + die * 2 ^ 8 + 0x21)

/-- The peer of span port p of tile t (R25): its die index and its port; none: not wired. -/
def spanPeer (v : Variant) (t p : Nat) : Option (Nat × Nat) :=
  match v with
  | .ikd2 => none
  | .ikd4 =>
    if t < 3 then
      if p < 3 then some ((t + 1) % 3, p + 3) else if p < 6 then some ((t + 2) % 3, p - 3) else none
    else none
  | .ikd8 => if t < 7 ∧ p < 6 then some ((t + p + 1) % 7, 5 - p) else none

/-- ID_SPAN_STATUS after reset: PRESENT, PEER_DIE and PEER_PORT from the wiring of R25, STATE 0 (Table 1-2). -/
def spanStatusReset (v : Variant) (t p : Nat) : Word :=
  match spanPeer v t p with
  | some (d, q) => BitVec.ofNat 32 (1 + d * 2 ^ 8 + q * 2 ^ 12)
  | none => 0

/-- The reset value of a word from its fields (Table columns Reset). -/
def fieldsReset (fs : List Field) : Word :=
  fs.foldl (fun w f => fieldSet w f.hi f.lo f.rst) 0

/-- The HEADROOM word of a class of ports 16, 20 and 21 (Table 4-8), which resets to 72. -/
def headroomInternal (off : Nat) : Bool :=
  0x810000 ≤ off && off < 0x813800 &&
  [16, 20, 21].contains ((off - 0x810000) / 0x200) &&
  0x48 ≤ (off - 0x810000) % 0x200 && (off - 0x810000) % 0x200 < 0xC8 && ((off - 0x810000) % 0x200 - 0x48) % 0x10 == 0

/-- The reset value of the register word at an offset of a die, as its table states it; where it depends on the
ordering code, on the die, on the port or on the index, the table's own cases. -/
def wordReset (v : Variant) (die off : Nat) : Word :=
  if off = 0 then idDevice v die
  else if die = sentinelDie then
    if off = 0x60008 then BitVec.ofNat 32 (2 ^ v.tiles - 1)
    else if 0x30030 ≤ off ∧ off < 0x30048 ∧ off % 4 = 0 then
      BitVec.ofNat 32 ([150, 300, 700, 2200, 7000, 14000].getD ((off - 0x30030) / 4) 0)
    else fieldsReset (wordFields die off)
  else if die < 2 ∧ (off = 0x1C00180 ∨ off = 0x1C001C0) then fieldsReset (wordFields die off) ||| 0x80000000#32
  else if 0x3898000 ≤ off ∧ off < 0x3898400 then 0x10000#32
  else if headroomInternal off then
    fieldSet (fieldsReset (wordFields die off)) 14 0 72
  else if 0x100 ≤ off ∧ off < 0x280 ∧ off % 0x40 = 0 then spanStatusReset v die ((off - 0x100) / 0x40)
  else fieldsReset (wordFields die off)

/-- The mask of the bits of a word whose fields satisfy a test. -/
def maskOf (p : Field → Bool) (fs : List Field) : Word :=
  fs.foldl (fun w f => if p f then w ||| fieldMask f.hi f.lo else w) 0

/-- The first offset of a die in the package management space (R34). -/
def dieBase (die : Nat) : Nat := die * 0x4000000

/-- The package address of an offset within a die (R34). -/
def pkgAddr (die off : Nat) : Nat := die * 0x4000000 + off

/-- Bits [29:26] of a package address: the die index (R34). -/
def addrDie (a : Nat) : Nat := (a / 0x4000000) % 16

/-- Bits [25:0] of a package address: the offset within the die (R34). -/
def addrOff (a : Nat) : Nat := a % 0x4000000

/-- The reset value of the word at a package address. -/
def addrReset (v : Variant) (a : Nat) : Word := wordReset v (addrDie a) (addrOff a)

end Sys2Proof.Machine
end

