-- ==== Sys2Proof/Machine/PartsFabric.lean ====
section
/-! DEFINITION. The hidden state of chapters 1, 2 and 10: management traffic and fences, spans, tethers, package time,
keystone commits, and modes. Every structure's defaults are its reset value. -/
namespace Sys2Proof.Machine

/-- What leaves the package, in order. -/
inductive OutEv where
  /-- The answer to a management read. -/
  | reply (r : Req) (addr : Nat) (data : Word)
  /-- A frame on the wire of a local port; `stomped`: it ends with an inverted FCS (R127). -/
  | frame (tile port : Nat) (express stomped : Bool) (bytes : List Byte)
  /-- A frame delivered to the steward's cores at port 20 (R81, R170): its queue, verdict and reason, and its ingress timestamp (2⁻¹⁶ ns). -/
  | cpuFrame (tile q verdict reason stamp : Nat) (bytes : List Byte)
  /-- A PFC frame (source address, enable vector, eight quanta) or an 802.3 pause frame (R112); both go to 01-80-C2-00-00-01. -/
  | pfc (tile port source enable : Nat) (quanta : List Nat)
  | pause (tile port source quanta : Nat)
  /-- An MSI-X message (R235): its address and data are those of the vector's table entry. -/
  | msix (tile vec : Nat) (addr : Nat) (data : Word)
  /-- The completion of an inbound BAR2 read (R222), with its data. -/
  | bar2Completion (tile : Nat) (data : List Byte)
  /-- PCIe requests of an endpoint (R224, R227): a posted write piece, and a read request piece with its tag. -/
  | tlpWrite (tile addr : Nat) (noSnoop : Bool) (data : List Byte)
  | tlpRead (tile addr len tag : Nat) (noSnoop : Bool)
  /-- What an outbound read delivers to its requester (R228): the bytes, or none when it failed. -/
  | outboundData (tile : Nat) (who : OutReq) (data : Option (List Byte))
  /-- A frame on a sentinel bus channel (R184, R216, R181). -/
  | bus (m : BusMsg)
  /-- A traced management transaction (R300, R301): its requester, whether it writes, its address and data. -/
  | trace (r : Req) (write : Bool) (addr : Nat) (data : Word)
  /-- A level on a pin of the package: its name and its level. -/
  | pin (name : String) (index : Nat) (high : Bool)
deriving DecidableEq, Repr

/-- A write whose acknowledgement has not come back (R51): its number, its address, value and byte enables, whether it was issued once-only (R351),
and when it left (2⁻¹⁶ ns). `atPort`: it waits at its target's management port behind a stalled write (R41, R64). -/
structure OutWrite where
  id     : Nat
  addr   : Nat
  value  : Word := 0
  be     : Nat := 15
  once   : Bool := false
  sent   : Nat
  atPort : Bool := false
deriving DecidableEq, Repr

/-- A read whose data will not come back (R41): its number, its address, and when it left (2⁻¹⁶ ns). -/
structure LostRead where
  id   : Nat
  addr : Nat
  sent : Nat
deriving DecidableEq, Repr

/-- An open fence (R51): the writes it still waits for, when it opened, and whether a write it covers timed out. -/
structure Fence where
  covers : List Nat
  opened : Nat
  bad    : Bool := false
deriving DecidableEq, Repr

/-- What a management access does. `bar2`: no access, but the completion of a BAR2 read, with its bytes, behind the reads it must not pass (R229). -/
inductive AccKind where
  | read (fate : ReadFate := .returns)
  | write (value : Word) (be : Nat)
  | bar2 (data : List Byte)
deriving DecidableEq, Repr

/-- A management access that waits: at its home die behind a fence or the 64-write limit, or at a port (R51, R64). -/
structure HeldAcc where
  req  : Req
  addr : Nat
  kind : AccKind
  id   : Nat := 0
deriving DecidableEq, Repr

/-- One requester's traffic (R36, R41, R51, R52). `lost`: the reads that wait for their timeout. `timedOut`: a completed fence timed out or covered a timed-out write. -/
structure ReqSt where
  nextId   : Nat := 0
  unacked  : List OutWrite := []
  lost     : List LostRead := []
  fences   : List Fence := []
  done     : Nat := 0
  timedOut : Bool := false
  held     : List HeldAcc := []
deriving DecidableEq, Repr

/-- A span port (R28): whether traffic uses it (after it has been DOWN, from the first commit after UP), whether it has been DOWN since the last
commit, when it last went DOWN or retrained. -/
structure SpanSt where
  inServ : Bool := false
  fell   : Bool := false
  mark   : Nat := 0
deriving DecidableEq, Repr

/-- How a tile pair's traffic travels on LO-IKD8 (R29). -/
inductive Route where
  | direct
  | relay (tile : Nat)
  | none_
deriving DecidableEq, Repr

/-- A tether (R32): whether it is UP, heartbeats missing and arrived in a row in each direction, when it last went
DOWN or retrained. -/
structure TetherSt where
  up       : Bool := false
  missTo   : Nat := 0
  missFrom : Nat := 0
  goodTo   : Nat := 0
  goodFrom : Nat := 0
  mark     : Nat := 0
deriving DecidableEq, Repr

/-- A die's count against package time, in 2⁻¹⁶ ns (R44–R48): its offset, the backward correction still to absorb,
since when it is being absorbed, how many beats in a row measured more than 2 ns; of the sentinel, the count (ns) from which its present clock steps. -/
structure ClockSt where
  base  : Nat := 0
  off   : Int := 0
  slow  : Nat := 0
  since : Nat := 0
  overs : Nat := 0
deriving DecidableEq, Repr

/-- A keystone decision (R61, R67): REASON 1 DRAIN_LATE, 2 TIME_UNLOCKED, 3 TILE_LOST. -/
inductive Decision where
  | confirm
  | abort (reason : Nat)
deriving DecidableEq, Repr

/-- A staged keystone write (R64). -/
structure Staged where
  addr  : Nat
  value : Word
  be    : Nat
deriving DecidableEq, Repr

/-- A tile's part in a keystone commit (R61, R64): T_c in ns, the epoch PREPARE carried, the decision held, when its
drain began, whether it has sent DRAINED, the staged writes in arrival order. -/
structure KsTile where
  tc       : Nat := 0
  epoch    : Nat := 0
  dec      : Option Decision := none
  /-- On the standby's tile: the decision the standby was sent, which it repeats as new coordinator (R69). -/
  held     : Option Decision := none
  drainAt  : Nat := 0
  drained  : Bool := false
  staged   : List Staged := []
deriving DecidableEq, Repr

/-- The coordinator's sequencer (R60, R61, R67–R70): the commit in progress, and which tiles have answered. -/
structure KsCoord where
  active   : Bool := false
  tile     : Nat := 0
  tc       : Nat := 0
  epoch    : Nat := 0
  tiles    : List Nat := []
  answered : List Nat := []
  drained  : List Nat := []
  notReady : List Nat := []
  dec      : Option Decision := none
  stdbyAck : Bool := false
  acked    : List Nat := []
  done     : List Nat := []
  lastSent : Nat := 0
  /-- When the decision was made (2⁻¹⁶ ns). -/
  decAt    : Nat := 0
deriving DecidableEq, Repr

/-- Modes and grants (chapters 10 and 12): tiles declared lost; which tile holds the active steward; the lifecycle and
DEBUG_CAP that govern since the last restart (R266) and the lapse times (ns) of the SERVICE_ENTRY and INVASIVE_DEBUG
tickets that stand; a debug request waiting for its round boundary; the dies of the INVASIVE ticket's mask; the debug
port's access after its ticket lapsed; whether the package must start in QUARANTINE until a TAMPER_CLEAR (R295); the
mode a pause (ACTIVATING, DEBUG) came from; the tile mask and mode a request asked for, until the next commit; whether
the loaded image's POLICY_SUBSET is in PW_POLICY. -/
structure ModeSt where
  lost       : List Nat := []
  steward    : Nat := 0
  govLife    : Nat := 0
  govCap     : Nat := 0
  service    : Option Nat := none
  invTicket  : Option Nat := none
  invMask    : Nat := 0
  debugReq   : Option Nat := none
  portClosed : Bool := true
  quarantine : Bool := false
  cameFrom   : Nat := 5
  nextParts  : Option (Nat × Nat) := none
  provNext   : Bool := false
  policyIn   : Bool := false
deriving DecidableEq, Repr

end Sys2Proof.Machine
end

