-- ==== Sys2Proof/Machine/PartsHost.lean ====
section
/-! DEFINITION. The hidden state of chapters 7 and 8: outbound reads and prefetched bytes at the host bridge, descriptors between processing
and write-back, pod buffers. -/
namespace Sys2Proof.Machine

/-- A read piece with its tag at the host (R227, R228): host address, length, when it was issued (2⁻¹⁶ ns), how many of its bytes have come. -/
structure LivePiece where
  tag  : Nat
  addr : Nat
  len  : Nat
  sent : Nat
  got  : Nat := 0
deriving DecidableEq, Repr

/-- An outbound read (R224, R228): its requester, the host address of its first byte, the host address each byte it asks for comes from
(R226), whether its window prefetches, the pieces not yet issued and those issued, the bytes that have come, whether it has failed, the
lines a write has overtaken. -/
structure OutRead where
  who     : OutReq
  host    : Nat
  map     : List Nat
  keep    : Bool
  noSnoop : Bool
  todo    : List (Nat × Nat)
  live    : List LivePiece := []
  data    : List (Nat × Byte) := []
  failed  : Bool := false
  dropped : List Nat := []
deriving DecidableEq, Repr

/-- Prefetched bytes (R233): for which requester, the address that follows its last read, the bytes by host address, when they came. -/
structure PfBuf where
  who   : OutReq
  next  : Nat
  bytes : List (Nat × Byte)
  came  : Nat
deriving DecidableEq, Repr

/-- A tile's host bridge beside its registers. `lastRead`: the last read of each requester as (requester, following address). -/
structure BridgeSt where
  nextTag  : Nat := 0
  reads    : List OutRead := []
  pf       : List PfBuf := []
  lastRead : List (OutReq × Nat) := []
  lastDma  : Nat := 15
  cplUs    : Nat := 50000
deriving DecidableEq, Repr

/-- A descriptor between its processing and its write-back (R243): where it lies, its word 4, and words 8 to 14 as they will be written; the
check unit attached when it started with its value then (R246, R259); of a received frame word 9, its ingress timestamp and the handle of
the buffer (R249). -/
structure DmaJob where
  addr    : Nat
  word4   : Word
  done    : Nat := 0
  status  : Nat := 0
  bad     : Bool := false
  overlap : Bool := false
  down    : Bool := false
  check   : Option Nat := none
  unit_   : Option (Nat × Nat) := none
  word9   : Word := 0
  stamp   : Nat := 0
  handle  : Word := 0
deriving DecidableEq, Repr

/-- A DMA channel beside its registers (R240, R249): the descriptor in progress, whether OWN = 0 at HEAD stops it until the next write of
TAIL, whether a STOP halts it when the descriptor is written back, the queue it is taking a frame from and the bytes of that
frame already written. -/
structure DmaCh where
  job   : Option DmaJob := none
  stuck : Bool := false
  stop  : Bool := false
  rxQ   : Nat := 0
  rxAt  : Nat := 0
deriving DecidableEq, Repr

/-- A pod buffer out of its pool (R252, R254): who allocated it and its owners. -/
structure Pod where
  by_    : Nat
  owners : List Nat
deriving DecidableEq, Repr

end Sys2Proof.Machine
end

