-- ==== Sys2Proof/Machine/PartsPower.lean ====
section
/-! DEFINITION. The hidden state of chapters 10 to 15: rails and battery, wakes and the ledger, steward clusters, the census, the journal and the
NAND, start-up and update. Instants are package times in 2⁻¹⁶ ns unless a line says otherwise. -/
namespace Sys2Proof.Machine

/-- Supplies (R402–R406). `bat`: 0 absent, 1 below 5.5 V, 2 above. `phase` of the run rails: 0 off, 1 rising, 2 on, 3 falling. When each enable
and each power-good rose, when each enable fell. What follows a power-down: `restart`: a cold WAKING, `wake`: the source, reason and instant
of a wake that waits. `notBefore`: a start waits until then (R418). -/
structure PowerSt where
  bat       : Nat := 0
  phase     : Nat := 0
  enAt      : SMap Nat := []
  pgAt      : SMap Nat := []
  dnAt      : SMap Nat := []
  restart   : Bool := false
  wake      : Option (Nat × Nat × Nat) := none
  notBefore : Nat := 0
  /-- BAT has been lost since the sentinel last powered up (R289). -/
  lostBat   : Bool := false
  /-- Tiles that have confirmed retention since the park began (R406). -/
  confirmed : List Nat := []
deriving DecidableEq, Repr

/-- Wakes, parks and the ledger (R309–R332). -/
structure WakeSt where
  /-- The buckets (minutes) of the wakes taken from each source in the last hour (R312). -/
  taken     : SMap (List Nat) := []
  /-- The bucket in which each source last logged a suppression, plus 1. -/
  logged    : SMap Nat := []
  /-- The wake taken last: its source, its instant and its entry of the park log (R313). -/
  took      : Option (Nat × Nat × Nat) := none
  /-- The wake that is to be confirmed: its instant (R324). -/
  quiet     : Option Nat := none
  /-- A housekeeping run: the instant of its wake (R331). -/
  hk        : Option Nat := none
  /-- When each transceiver entered STANDBY (R315). -/
  standby   : SMap Nat := []
  /-- When each WAKE pin became debounced-active (R311). -/
  pinAt     : SMap Nat := []
  dormantAt : Nat := 0
  parkAt    : Nat := 0
  tickAt    : Nat := 0
  shed      : Bool := false
  /-- Until when UNSEEN_UA has been added, and what is left below 1 nAh, in µA × 2⁻¹⁶ ns (R325). -/
  unseenAt  : Nat := 0
  unseenRem : Nat := 0
  /-- The ledger still has to take PLAN_DEFAULTS (R326). -/
  defaults  : Bool := true
  /-- Freshness and E2E counters as the last park journalled them, by offset (R204). -/
  saved     : Option (SMap Word) := none
deriving DecidableEq, Repr

/-- An item of a round's log (R339, R340): an input with its address and value, an interrupt with its delivery point, an access fault. -/
inductive RoundItem where
  | input (addr : Nat) (value : List Byte)
  | irq (point : Nat)
  | fault
deriving DecidableEq, Repr

/-- A held output (R337): a register write, or bytes of one line of work memory, LPDDR5X or an outbound window, at its core address with byte enables. -/
structure OutEntry where
  addr : Nat
  data : List Byte
  be   : List Bool
deriving DecidableEq, Repr

/-- A tile's cluster (R336–R354): rounds since the last voter test, the core and the bit the next test flips, cores missing from the round that
closed, when the last round was voted and its output digest, the instants of the standby's failures and of the cluster's restarts, whether
a failure is reported, whether a round has closed and waits for its vote, whether the standby holds the active's checkpoint; of the round that closed its held
outputs, its input log and its boundary point; the outputs that have been voted and are leaving; interrupts and access faults that came for the
next round, and the access faults of the round that runs (R337–R343); whether the round closed at an input mismatch (R339). -/
structure ClusterSt where
  since    : Nat := 0
  testCore : Nat := 0
  testBit  : Nat := 0
  missing  : List Nat := []
  votedAt  : Nat := 0
  digest   : Option Quad := none
  fails    : List Nat := []
  restarts : List Nat := []
  reports  : Bool := false
  closed   : Bool := false
  synced   : Bool := false
  held     : List OutEntry := []
  log      : List RoundItem := []
  point    : Nat := 0
  leaving  : List OutEntry := []
  irqs     : Nat := 0
  faults   : Nat := 0
  due      : Nat := 0
  badInput : Bool := false
deriving DecidableEq, Repr

/-- A census bank (Table 13-1): T_s and the instant of the latch in ns, the status, the counters in map order. -/
structure CenBank where
  ts      : Nat
  latched : Nat
  status  : Nat
  vals    : List Quad
deriving DecidableEq, Repr

/-- A die's part in the census (R357–R361): T_s of a prepare it holds (ns), the bank latched and not yet published, the newest complete bank
that HOLD keeps from the window; the instant at which a tile's HOLD was set (R361). -/
structure CenDie where
  pend    : Option Nat := none
  bank    : Option CenBank := none
  waiting : Option CenBank := none
  heldAt  : Option Nat := none
deriving DecidableEq, Repr

/-- The coordinator of a requested census (R358–R360): its tile, T_s in ns, the dies that have neither published nor been declared absent, those
still to receive the prepare; `told`: the census is complete, and the coordinator's DONE is the cause of vector 27. -/
structure CenCoord where
  active : Bool := false
  tile   : Nat := 0
  ts     : Nat := 0
  left   : List Nat := []
  unsent : List Nat := []
  told   : Bool := false
deriving DecidableEq, Repr

/-- A die's queue of journal records (R363, R364), and the records lost since the last GAP. -/
structure JnlSt where
  queue : List (List Byte) := []
  lost  : Nat := 0
deriving DecidableEq, Repr

/-- A programmed NAND page: PAGE_SEQ, its data, and its codewords that a read could not correct (R367). -/
structure NPage where
  seq  : Nat
  data : List Byte
  bad  : List Nat := []
deriving DecidableEq, Repr

/-- A NAND block (R367–R370): 0 free, 1 JOURNAL, 2 RETAINED, 3 BBT, 4 bad; its erase count, its pages, reads since its erase, its last scrub or
program (ns); whether a codeword of it could not be corrected, so that its refresh retires it (R367). -/
structure NBlock where
  kind    : Nat := 0
  erases  : Nat := 0
  pages   : List NPage := []
  reads   : Nat := 0
  touched : Nat := 0
  failed  : Bool := false
deriving DecidableEq, Repr

/-- A codeword on the NAND: its block, the index of its page in the block, its index in the page (R367). -/
structure CodeAt where
  block : Nat
  page  : Nat
  code  : Nat
deriving DecidableEq, Repr

/-- A journal record as the NAND holds it: its bytes, and the codewords it lies in (R367, R373). -/
structure JnlRec where
  bytes : List Byte
  place : List CodeAt := []
deriving DecidableEq, Repr

/-- What the keeper queues (R375): a refresh, a static move, a retention scrub of a block; the NOR scrub. -/
inductive Work where
  | refresh (b : Nat)
  | move (b : Nat)
  | scrub (b : Nat)
  | nor
deriving DecidableEq, Repr

/-- The storage keeper and its device (R365–R375): blocks, PAGE_SEQ, the open blocks, the records of the open page with the instant of the first,
whether a page is being programmed, the end of each record not yet durable in the stream of programmed bytes with its TIME and bytes, the work queued, a read-out in progress (area, records left), when the
NOR was last scrubbed (ns), blocks worked in the current second. -/
structure KeeperSt where
  device  : Nat := 0
  blocks  : SMap NBlock := []
  seq     : Nat := 0
  open_   : Option Nat := none
  openRet : Option Nat := none
  first   : Option Nat := none
  buf     : List Byte := []
  times   : List (Nat × List Byte) := []
  written : Nat := 0
  busy    : Bool := false
  work    : List Work := []
  rd      : Option (Nat × List JnlRec) := none
  norAt   : Nat := 0
  /-- Slots that the last NOR scrub found damaged (R374). -/
  damaged : List Nat := []
  second  : Nat := 0
  inSec   : Nat := 0
deriving DecidableEq, Repr

/-- A boot record (Table 14-2). -/
structure BootRec where
  version  : Nat := 0
  active   : Nat := 0
  trial    : Bool := false
  next     : Bool := false
  offs     : List Nat := [0, 0, 0, 0]
  trialEnd : Nat := 0
  trialS   : Nat := 0
deriving DecidableEq, Repr

/-- Start-up and update (R386–R399): the stage that runs and the slot it loads (BOOT), whether the other slot was tried; the record in effect and
the copy that holds it; tiles that have reported their sections applied; the running command with its arguments; an activation: its kind (0 none,
1 firmware, 2 structure), the slot it leads to, when it paused, the tiles still to report, whether it reverts and whether it is a
fallback; the restart trial's length; a fallback that waits for a commit. -/
structure BootSt where
  stage     : Nat := 0
  slot      : Nat := 0
  tried     : Bool := false
  applied   : List Nat := []
  record    : BootRec := {}
  copy      : Nat := 0
  trialBoot : Bool := false
  cmd       : Option (Nat × Nat × Nat × Nat) := none
  staged    : Bool := false
  act       : Nat := 0
  actSlot   : Nat := 0
  actAt     : Nat := 0
  /-- When the restart phase that runs, or its repetition by a revert, began. -/
  actFrom   : Nat := 0
  actFlushed : Bool := false
  actLeft   : List Nat := []
  revert    : Bool := false
  fallback  : Bool := false
  waitFall  : Bool := false
  liveTrial : Bool := false
  /-- Whether the trial fuses could not be blown at a confirmation and are tried again at every BOOT (R397): the step they lead to. -/
  fuseGoal  : Nat := 0
deriving DecidableEq, Repr

end Sys2Proof.Machine
end

