-- ==== Sys2Proof/Machine/PartsSecure.lean ====
section
/-! DEFINITION. The hidden state of chapter 9: the vault's secrets, its running command and revocations, key caches. -/
namespace Sys2Proof.Machine

/-- An entry of a tile's key cache (R278): the vault slot and its GEN, the key, the slot with all its ancestors. -/
structure CachedKey where
  slot : Nat
  gen  : Nat
  key  : List Byte
  line : List Nat
deriving DecidableEq, Repr

/-- A running vault command (R271): its code and slot, KY_ARG0, KY_CTX and expiry as it started, the result judged at its start, and
the key of a slot it will create. -/
structure VaultRun where
  op     : Nat
  slot   : Nat
  arg0   : Word := 0
  ctx    : List Byte := []
  expiry : Nat := 0
  result : Nat := 0
  key    : List Byte := []
deriving DecidableEq, Repr

/-- A revocation (R273–R276): its number, the slot, T_r in ns, whether T_r has passed, the tiles its message has reached. -/
structure Revocation where
  seq       : Nat
  slot      : Nat
  tr        : Nat
  committed : Bool := false
  got       : List Nat := []
deriving DecidableEq, Repr

/-- The vault beside its registers (R265, R267): the root secret, the key of each slot, the first 4 bytes of SHA-256 of each slot's
context (Table 9-9), the running command, the revocations, the manifest digests of the images in effect. -/
structure VaultSt where
  root      : List Byte := []
  keys      : SMap (List Byte) := []
  ctx4      : SMap (List Byte) := []
  run       : Option VaultRun := none
  revs      : List Revocation := []
  manifests : List Byte := List.replicate 96 0
deriving DecidableEq, Repr

/-- A tile's lease on its key caches (R276): when its last beat came (2⁻¹⁶ ns) and the number that beat named. -/
structure LeaseSt where
  beatAt  : Nat := 0
  beatSeq : Nat := 0
deriving DecidableEq, Repr

end Sys2Proof.Machine
end

