-- ==== Sys2Proof/Machine/PartsSwitch.lean ====
section
/-! DEFINITION. The hidden state of chapters 3 to 5: the shape the image fixes for classification, fragments, frames in cells, copies in
queues, ports, schedulers, stream checks, timestamps. Every structure's defaults are its reset value. -/
namespace Sys2Proof.Machine

/-- What the structure image fixes for the switch and is no register (R54): onion depth limit L; the zone of each local port; the
four firewall profiles by ingress zone × 16 + egress zone (0 DENY, 1 ALLOW, 2 TRACK, 3 REPLY) in the order PARKED, DRIVING, SERVICE, QUARANTINE; the
longest gate control list of each (tile × 32 + port). -/
structure SwitchShape where
  onion    : Nat := 0
  zones    : SMap Nat := []
  profiles : List (SMap Nat) := []
  gclMax   : SMap Nat := []
deriving DecidableEq, Repr

/-- A VLAN push (Table 3-10, word 1). -/
structure Push where
  kind : Nat
  vidA : Nat
  pcp  : Nat
  dei  : Nat
  vidB : Nat
deriving DecidableEq, Repr

/-- A rewrite (Table 3-10, word 2) with the MAC pair of the rewrite entry it names (R94): DA, SA, whether the entry was valid. -/
structure Rewrite where
  op    : Nat
  val   : Nat
  mac   : Nat
  da    : Nat := 0
  sa    : Nat := 0
  valid : Bool := false
deriving DecidableEq, Repr

/-- A resolved action set (R87, R91): each group is absent or holds its fields. `redir`: a REDIRECT trap has been set, whatever replaced it. -/
structure Act where
  fwd    : Option (Nat × Nat) := none
  pop    : Option Nat := none
  push   : Option Push := none
  rw     : Option Rewrite := none
  recirc : Option Nat := none
  queue  : Option Nat := none
  mirror : Option Nat := none
  meter  : Option Nat := none
  count  : Option Nat := none
  trap   : Option Nat := none
  redir  : Bool := false
  drop   : Bool := false
  final  : Bool := false
deriving DecidableEq, Repr

/-- A header recorded by the parser (R77): its kind, byte offset and length. -/
structure Hdr where
  kind : Nat
  off  : Nat
  len  : Nat
deriving DecidableEq, Repr

/-- The fields of a fragment header that key the fragment table and shape its entry (R82, R83). -/
structure FragInfo where
  key    : List Nat
  offset : Nat
  len    : Nat
  more   : Bool
deriving DecidableEq, Repr

/-- A parse result (R77, R79, R82). -/
structure Parse where
  hdrs    : List Hdr := []
  verdict : Nat := 0
  reason  : Nat := 0
  unknown : Bool := false
  frag    : Option FragInfo := none
deriving DecidableEq, Repr

/-- What a frame's descriptor carries beside its bytes (R86, R94, R164): ingress global port, zone, whether it came secured and its
receive channel, its class before classification, when it came (2⁻¹⁶ ns), whether its sender asks for a transmit
timestamp. -/
structure FrameMeta where
  gin     : Nat := 0
  zone    : Nat := 0
  secured : Bool := false
  sc      : Nat := 0
  tc      : Nat := 0
  rxAt    : Nat := 0
  tsReq   : Bool := false
deriving DecidableEq, Repr

/-- What a copy is (R81, R87, R132): forwarded, a trap copy, or a mirror copy of a session. -/
inductive CopyKind where
  | fwd
  | trap
  | mirror (session : Nat)
deriving DecidableEq, Repr

/-- Where a queued frame is held (R122, R123): on chip; on chip until written to overflow; in overflow memory; read back. -/
inductive Loc where
  | chip | toSpill | ovf | back
deriving DecidableEq, Repr

/-- A copy of a frame on its way to, or in, an egress queue: the frame it refers to, its egress port and queue, its bytes as
received, the edits and redundancy fields of its descriptor, its parse result, its place in the queue, whether it is cut through
(R126) and whether the guard has refused it (R150). Of a copy that crossed from another tile: when it could first join its queue, and
the span port it came on (R27). -/
structure Copy where
  id      : Nat
  frame   : Nat
  tile    : Nat
  port    : Nat
  q       : Nat
  kind    : CopyKind := .fwd
  mc      : Bool := false
  bytes   : List Byte := []
  cells   : Nat := 1
  info    : FrameMeta := {}
  pop     : Option Nat := none
  push    : Option Push := none
  rw      : Option Rewrite := none
  parse   : Parse := {}
  seq     : Option Nat := none
  rcvy    : Option (Nat × Bool) := none
  yellow  : Bool := false
  bad     : Bool := false
  born    : Nat := 0
  loc     : Loc := .chip
  enq     : Nat := 0
  cut     : Bool := false
  deferred : Bool := false
  came    : Nat := 0
  via     : Option Nat := none
deriving DecidableEq, Repr

/-- What an ingress frame's cells are charged to (R109, R119, R125, R133). -/
inductive ChargeKind where
  | account | recirc | mirror | span | released
deriving DecidableEq, Repr

/-- A charge: its kind, the local (or span) port and class of its account, and the cells drawn from each source. -/
structure Charge where
  kind   : ChargeKind := .released
  port   : Nat := 0
  tc     : Nat := 0
  min    : Nat := 0
  shared : Nat := 0
  head   : Nat := 0
deriving DecidableEq, Repr

/-- A frame whose cells a tile holds (R109, R130): its tile, the tile it entered on, its class, its cells, its charge, how many
copies refer to it. A frame that must cross from another tile names the frame
there (`up`) until it has crossed and holds the span credit granted so far (R125); `origin` keeps that name. `before` holds the charges for
the cells that crossed on spans that have gone DOWN since (R28, R29). -/
structure FrameRec where
  tile    : Nat := 0
  src     : Nat := 0
  tc      : Nat := 0
  cells   : Nat := 0
  charge  : Charge := {}
  before  : List Charge := []
  refs    : Nat := 0
  up      : Option Nat := none
  got     : Nat := 0
  origin  : Option Nat := none
  mirror  : Bool := false
deriving DecidableEq, Repr

/-- Cells an ingress account holds, by source (R109). -/
structure AcctUse where
  min    : Nat := 0
  shared : Nat := 0
  head   : Nat := 0
deriving DecidableEq, Repr

/-- Cells of a tile in use: of the shared pool, the recirculation and mirror reserves, the overflow channel (R108, R124). -/
structure PoolUse where
  shared : Nat := 0
  recirc : Nat := 0
  mirror : Nat := 0
  ovf    : Nat := 0
deriving DecidableEq, Repr

/-- A frame that arrived while its tile admits nothing (R63): it waits ahead of the parser, already charged. -/
structure WaitIn where
  tile  : Nat
  port  : Nat
  frame : Nat
  bytes : List Byte
  info  : FrameMeta
  bad   : Bool := false
deriving DecidableEq, Repr

/-- A frame on its way to its second pass (R95, R119). -/
structure Recirc where
  tile  : Nat
  frame : Nat
  bytes : List Byte
  tag   : Nat
  info  : FrameMeta
  bad   : Bool := false
deriving DecidableEq, Repr

/-- A fragment-table entry (R82, R83): its key, the snapshot (edits, queue, mirror, trap and the ports its copies may take, as local
global-port numbers), the bytes counted, the train's end once known, whether it is poisoned, when it was created. -/
structure FragEntry where
  key      : List Nat
  act      : Act
  dests    : List Nat
  mc       : Bool
  hairpin  : Bool := false
  epoch    : Nat
  count    : Nat
  fin      : Option Nat
  poisoned : Bool := false
  born     : Nat
deriving DecidableEq, Repr

/-- A queue of an egress port: whether it is SPILLED (R122), until when the peer's pause holds it (2⁻¹⁶ ns; 0: not paused), since when
the watchdog times it (0: not running), shaper credit in units of 2⁻¹⁶ ÷ 8,000,000 byte and the instant it stood so, the
deficit (R142), whether its credit was seen negative. -/
structure QueueSt where
  spilled : Bool := false
  paused  : Nat := 0
  wdSince : Nat := 0
  credit  : Int := 0
  credAt  : Nat := 0
  deficit : Nat := 0
deriving DecidableEq, Repr

/-- A frame in transmission: the copy as it left the queue, its bytes after edits, when it started, the bytes of it still to
send when that start was made, whether it goes as an express frame, whether it is cut through, whether its overrun of a close is counted (R154). -/
structure Tx where
  copy    : Copy
  bytes   : List Byte
  start   : Nat
  left    : Nat
  express : Bool
  cut     : Bool := false
  overrun : Bool := false
deriving DecidableEq, Repr

/-- A preemptable frame that is being put together from fragments (R152): its frame count, the next fragment's count, its bytes, the fragments
received, and when its first one came. -/
structure Assembly where
  frame : Nat
  next  : Nat
  bytes : List Byte
  parts : Nat
  at_   : Nat
deriving DecidableEq, Repr

/-- A port of a tile: the frame in transmission and a preempted one (R154), the current queue of each DRR group (R142), when it last
sent PFC for each class and, as number 8, its pause (R112), the PFC and pause frames that wait for the frame in transmission (R112), the
rate negotiated on SGMII in Mbit/s, verification attempts made and when the last one ended (R152), until when the wire carries the end of a
fragment (R154), the frame in reassembly (R152). -/
structure PortSt where
  tx        : Option Tx := none
  susp      : Option Tx := none
  ptr       : SMap Nat := []
  pauseSent : SMap Nat := []
  control   : List OutEv := []
  mbps      : Nat := 1000
  attempts  : Nat := 0
  triedAt   : Nat := 0
  busyTill  : Nat := 0
  asm       : Option Assembly := none
deriving DecidableEq, Repr

/-- A meter's buckets, in the units of the shaper credit, and when they stood so (R161). -/
structure MeterSt where
  full  : Bool := true
  cb    : Nat := 0
  eb    : Nat := 0
  at_   : Nat := 0
deriving DecidableEq, Repr

/-- A recovery function's memory (R166): whether it waits for its first copy, RecovSeqNum, the numbers of its history it has seen, when
it last passed a copy. -/
structure RecovSt where
  fresh  : Bool := true
  num    : Nat := 0
  seen   : List Nat := []
  passAt : Nat := 0
deriving DecidableEq, Repr

/-- An entry of the transmit timestamp FIFO (R170). -/
structure TxStamp where
  seqId   : Nat
  msgType : Nat
  port    : Nat
  domain  : Nat
  time    : Nat
deriving DecidableEq, Repr

/-- A frame delivered at an internal port (16, 21, 22), with what its descriptor carries (R81, R170) and the tile's count at its delivery (R183). A
frame for a DMA channel
holds its cells until the channel has taken it (R249): `hold` names them. -/
structure Delivered where
  tile    : Nat
  port    : Nat
  q       : Nat
  bytes   : List Byte
  info    : FrameMeta
  verdict : Nat
  reason  : Nat
  kind    : CopyKind
  at_     : Nat := 0
  hold    : Option Nat := none
deriving DecidableEq, Repr

/-- The writers of a tile that drew cells in the present clock (R111): the clock, the writer served last before it, and each writer (a local
port) with the frame it drew for, in the order of their requests. -/
structure DrawTurn where
  clock : Nat := 0
  last  : Nat := 27
  drew  : List (Nat × Nat) := []
deriving DecidableEq, Repr

/-- The switch: everything chapters 3 to 5 hold beside registers. `spanTurn`: the span served last for each egress port (R27); `draws`: the
cell allocator's turn (R111). `partials`: the frames that have
lost a multicast copy (R131); `absents`: the multicast frames counted in PR_RW_ABSENT (R92); `sampWas`, `sampAdv`: of each tile's TS_SAMP_CONS, the instant of the last software write with the value before it, and of the last hardware
advance (R173); `starved`: the queues of ports 16 and 22 whose DMA channel is STARVED (R249); `phase`: the phase
correction not yet absorbed at `phaseAt`, in 2⁻¹⁶ ns (R172). -/
structure SwitchSt where
  shape    : SwitchShape := {}
  nextId   : Nat := 1
  frames   : SMap FrameRec := []
  acct     : SMap AcctUse := []
  spanUse  : SMap AcctUse := []
  spanHeld : SMap Nat := []
  pool     : SMap PoolUse := []
  waitIn   : List WaitIn := []
  recirc   : List Recirc := []
  frags    : SMap (Option FragEntry) := []
  ctFin    : SMap Nat := []
  waiting  : List Copy := []
  queues   : SMap (List Copy) := []
  queueSt  : SMap QueueSt := []
  ports    : SMap PortSt := []
  mirSeen  : SMap Nat := []
  meters   : SMap MeterSt := []
  recov    : SMap RecovSt := []
  spanTurn : SMap Nat := []
  draws    : SMap DrawTurn := []
  partials : List Nat := []
  absents  : List Nat := []
  stamps   : SMap (List TxStamp) := []
  starved  : SMap Bool := []
  sampWas  : SMap (Nat × Nat) := []
  sampAdv  : SMap Nat := []
  got      : List Delivered := []
  phase    : Int := 0
  phaseAt  : Nat := 0
deriving DecidableEq, Repr

end Sys2Proof.Machine
end

