-- ==== Sys2Proof/Machine/PartsTrestle.lean ====
section
/-! DEFINITION. The hidden state of chapters 6 and 11: messages in the trestle, ACF frames being filled, the sentinel's transmit buffers, the
network-management ring. -/
namespace Sys2Proof.Machine

/-- A message in the trestle (R183, R189–R193): its source (or destination) code, format and identifier, its stream and bus_id, payload, the CAN flags,
the CAN XL SDT and acceptance field, its stamp in ns. -/
structure Msg where
  src     : Nat
  fmt     : Nat
  id      : Nat
  payload : List Byte
  stream  : Nat := 0
  busId   : Nat := 0
  rtr     : Bool := false
  fd      : Bool := false
  sdt     : Nat := 0
  af      : Nat := 0
  stamp   : Nat := 0
deriving DecidableEq, Repr

/-- What a stream's frames are built by (Tables 6-7, 6-13): the words of its entry, the ACF type of CAN XL, the trestle's source address. -/
structure StrmSnap where
  words : List Word := []
  xl    : Nat := 0
  mac   : Nat := 0
deriving DecidableEq, Repr

/-- An entry of a route chain in a message's snapshot (R186): its ten words, its moves, the words of the profiles, the E2E entries and the stream it
names, and the fill byte. -/
structure RouteSnap where
  words  : List Word
  moves  : List (Word × Word)
  authV  : List Word
  authG  : List Word
  e2eChk : List Word
  e2eGen : List Word
  pad    : Byte
  strm   : StrmSnap := {}
deriving DecidableEq, Repr

/-- What waits for the authentication engine (R188): a message to verify with its chain and whether that was cut (R192), or an output to secure. -/
inductive EngJob where
  | verify (m : Msg) (chain : List RouteSnap) (cut : Bool)
  | generate (o : Msg) (d : RouteSnap)
deriving DecidableEq, Repr

/-- An ACF frame being filled (R197): when its first message came (2⁻¹⁶ ns), its messages, and what its frame is built by. -/
structure Batch where
  start : Nat
  msgs  : List Msg
  strm  : StrmSnap := {}
deriving DecidableEq, Repr

/-- An ACF frame ready to leave (R197, R211): its bytes, its class, how many messages it holds. -/
structure AcfOut where
  bytes : List Byte
  tc    : Nat
  count : Nat
deriving DecidableEq, Repr

/-- A trestle beside its registers (R185–R188, R197, R211): messages waiting per sentinel channel, the channel served last, the rest of the ACF
frame being taken, the engine queue, the frames being filled per stream, the frames ready to leave. -/
structure TrestleSt where
  inq     : SMap (List Msg) := []
  last    : Nat := 31
  acf     : List Msg := []
  engine  : List EngJob := []
  batches : SMap Batch := []
  ready   : List AcfOut := []
deriving DecidableEq, Repr

/-- A posted message (R184, R209, R210): its number, the message, the end of its lifetime (2⁻¹⁶ ns), whether its transmission has begun
(for a latest-value buffer: whether the value has been sent). -/
structure Posted where
  id      : Nat
  msg     : Msg
  life    : Option Nat := none
  started : Bool := false
deriving DecidableEq, Repr

/-- The sentinel's bus controllers beside their registers: CAN and FlexRay dynamic queues in posting order, latest-value buffers by
channel × 4,096 + slot or frame ID, the credits the trestle lacks and those freed but not yet returned, LIN schedule positions, the depth
of the dynamic queue, bus messages held through a pause. -/
structure BusSt where
  nextId  : Nat := 1
  queues  : SMap (List Posted) := []
  latest  : SMap (Option Posted) := []
  used    : SMap Nat := []
  owed    : SMap Nat := []
  linPos  : SMap Nat := []
  frDepth : Nat := 16
  held    : List Msg := []
  /-- The PLCA node number and node count of each T1S PHY, as SENTINEL_PINS sets them (R417). -/
  plca    : SMap (Nat × Nat) := []
  /-- LIN channels whose transmitter is released by a dominant time-out (R416). -/
  linOff  : List Nat := []
deriving DecidableEq, Repr

/-- A network-management channel (R318, R319): the message count, the nodes heard since joining, whether a RING for it waits to be answered
and since when, when it last sent, whether every message heard since its last RING consented, transmissions in a row without
acknowledgement, whether one of its own has succeeded in LIMP_HOME, when a LIMPHOME without consent last came, when it entered
PREPARE_SLEEP (times in 2⁻¹⁶ ns). -/
structure NmCh where
  seq      : Nat := 0
  heard    : List Nat := []
  token    : Option Nat := none
  lastTx   : Nat := 0
  allSleep : Bool := true
  unacked  : Nat := 0
  txOk     : Bool := false
  noSleep  : Option Nat := none
  prepAt   : Nat := 0
deriving DecidableEq, Repr

end Sys2Proof.Machine
end

