-- ==== Sys2Proof/Machine/State.lean ====
section
/-! DEFINITION. The state of the package as plain data: its registers and table memories, its counters, the hidden state of
every chapter's blocks, its memories, and the queue of commands that wait; and the machine right after reset. -/
namespace Sys2Proof.Machine

/-- Why a step stops with a fault. No command of this block stops so; the type has one constructor so that a fault can be named. -/
inductive Fault where
  /-- Nobody raises it: the spec gives every command an effect. Safe. -/
  | unused
deriving DecidableEq, Repr

/-- Why a step is refused. -/
inductive Refusal where
  /-- A command that has no meaning yet, by its mnemonic. Safe: nothing is claimed of it. -/
  | notModelled (mnemonic : String)
deriving DecidableEq, Repr

/-- The MSI-X logic of an endpoint (R235): the summary bit and the pending bit of each vector, and the events of
vectors whose cause is an event and no register. -/
structure MsixSt where
  summary : Word := 0
  pending : Word := 0
  events  : Word := 0
deriving DecidableEq, Repr

/-- Everything the package holds but its byte memories and the queue of waiting commands. -/
structure Pkg where
  /-- The ordering code (R2), fixed for the part. -/
  variant  : Variant
  /-- Package time on the time reference, in 2⁻¹⁶ ns (R22). -/
  now      : Nat := 0
  /-- Register words and table-memory words in effect, by package address; an unlisted word reads its table's reset value. -/
  regs     : SMap Word := []
  /-- Shadow copies of words that hold keystone fields (R58), where they differ from a copy of the word in effect. -/
  shadow   : SMap Word := []
  /-- 64-bit counters and read-only pairs (R11), by the package address of the low word; unlisted reads 0. -/
  ctr      : SMap Quad := []
  /-- High words latched by a read of the low word (R11). -/
  latch    : SMap Word := []
  /-- Of a word in which hardware has set bits: the instant at which it last did (2⁻¹⁶ ns), and those bits (R16). -/
  sets     : SMap (Nat × Word) := []
  /-- Cold bits written in PROVISION, by the word's package address, as mask and value: they take effect at the restart of their die (R17). -/
  coldNext : SMap (Word × Word) := []
  /-- MAJOR × 16 + MINOR of a die (R6, R9), where it is not 2.1; fixed for the part. -/
  revs     : SMap Nat := []
  /-- What has left the package, in order. -/
  out      : List OutEv := []
  /-- Reads and advances with each free value a step takes (the model's own field, no part of the hardware). -/
  fresh    : Nat := 0
  msix     : SMap MsixSt := []
  reqs     : SMap ReqSt := []
  /-- Accesses that wait at a management port: the one that holds it first (R64). -/
  portQ    : SMap (List HeldAcc) := []
  /-- The agent each class of a port served last, by die × 8 + class (R36). -/
  portTurn : SMap Nat := []
  spans    : SMap SpanSt := []
  routes   : SMap Route := []
  ctrl     : SMap Nat := []
  tethers  : SMap TetherSt := []
  tether   : Nat := 0
  clocks   : SMap ClockSt := []
  ref      : Nat := 0
  ksTile   : SMap KsTile := []
  ks       : KsCoord := {}
  mode     : ModeSt := {}
  sw       : SwitchSt := {}
  /-- The MACsec key cache of each tile, and the trestle key cache of tiles 0 and 1 (R278). -/
  macKeys  : SMap (List CachedKey) := []
  trKeys   : SMap (List CachedKey) := []
  vault    : VaultSt := {}
  lease    : SMap LeaseSt := []
  trestles : SMap TrestleSt := []
  bus      : BusSt := {}
  nm       : SMap NmCh := []
  /-- When each partial network was last carried by a message (R322), in 2⁻¹⁶ ns plus 1. -/
  pnSeen   : SMap Nat := []
  bridges  : SMap BridgeSt := []
  dma      : SMap DmaCh := []
  /-- Pod buffers out of their pools, by tile × 2³⁰ + handle (R251). -/
  pods     : SMap (Option Pod) := []
  /-- VALUE_LO as staged at each check unit, by tile × 8 + unit (R260). -/
  ckLow    : SMap Word := []
  /-- The local ranges (first, last) that DMA_ALLOT grants to inbound windows of each tile (Table 7-6). -/
  grants   : SMap (List (Nat × Nat)) := []
  power    : PowerSt := {}
  wake     : WakeSt := {}
  clusters : SMap ClusterSt := []
  cens     : SMap CenDie := []
  cenReq   : CenCoord := {}
  jnl      : SMap JnlSt := []
  keeper   : KeeperSt := {}
  boot     : BootSt := {}
  /-- Tiles whose byte memories this step loses; empty between steps. -/
  wipe     : List Nat := []
deriving DecidableEq, Repr

/-- The byte memories (each a list of cells in canonical form). -/
structure Mem where
  cells : List Host.Cell := []
deriving DecidableEq, Repr

/-- The machine. -/
structure State where
  pkg     : Pkg
  mem     : Mem
  pending : List Instr
deriving DecidableEq, Repr

/-- The package right after reset, for an ordering code. -/
def State.resetOf (v : Variant) : State :=
  { pkg := { variant := v }, mem := {}, pending := [] }

/-- The machine right after reset: an LO-IKD8. -/
def State.reset : State := State.resetOf .ikd8

end Sys2Proof.Machine
end

