-- ==== Sys2Proof/Machine/Ops.lean ====
section
/-! DEFINITION. The named operations over the state: register words, fields and counters; the clock; what leaves the package;
management and configuration error records; modes and losses. Every chapter's effects are written with them. -/
namespace Sys2Proof.Machine

/-! ### Register words, fields and counters (R10, R11, R14) -/

/-- The word in effect at an offset of a die. -/
def Pkg.rd (s : Pkg) (die off : Nat) : Word :=
  SMap.get (wordReset s.variant die off) s.regs (pkgAddr die off)

/-- Set the word in effect at an offset of a die. -/
def Pkg.wr (s : Pkg) (die off : Nat) (w : Word) : Pkg :=
  { s with regs := SMap.set (wordReset s.variant die off) s.regs (pkgAddr die off) w }

/-- The value in effect of a field. -/
def Pkg.get (s : Pkg) (die : Nat) (f : Fld) : Nat := fieldGet (s.rd die f.off) f.hi f.lo

/-- Set the value in effect of a field. -/
def Pkg.put (s : Pkg) (die : Nat) (f : Fld) (v : Nat) : Pkg := s.wr die f.off (fieldSet (s.rd die f.off) f.hi f.lo v)

/-- A one-bit field is 1. -/
def Pkg.on (s : Pkg) (die : Nat) (f : Fld) : Bool := s.get die f != 0

/-- Hardware sets bits of a word at this instant: remembered for a write of the same instant (R16). -/
def Pkg.marked (s : Pkg) (die off : Nat) (m : Word) : Pkg :=
  let e := SMap.get (0, 0) s.sets (pkgAddr die off)
  { s with sets := SMap.set (0, 0) s.sets (pkgAddr die off) (s.now, if e.1 = s.now then e.2 ||| m else m) }

/-- The bits of a word that hardware has set at this instant: a write of the same instant does not clear them (R16). -/
def Pkg.setNow (s : Pkg) (die off : Nat) : Word :=
  let e := SMap.get (0, 0) s.sets (pkgAddr die off)
  if e.1 = s.now then e.2 else 0

/-- Hardware sets a one-bit field. -/
def Pkg.raise (s : Pkg) (die : Nat) (f : Fld) : Pkg := (s.put die f 1).marked die f.off (fieldMask f.hi f.lo)

/-- Hardware sets a one-bit field when a condition holds. -/
def Pkg.raiseIf (s : Pkg) (b : Bool) (die : Nat) (f : Fld) : Pkg := if b then s.raise die f else s

/-- Put a field only when a condition holds. -/
def Pkg.putIf (s : Pkg) (b : Bool) (die : Nat) (f : Fld) (v : Nat) : Pkg := if b then s.put die f v else s

/-- The shadow copy of a word that holds keystone fields (R58): the shadow equals the copy in effect until it is written. -/
def Pkg.rdShadow (s : Pkg) (die off : Nat) : Word :=
  if SMap.has s.shadow (pkgAddr die off) then SMap.get 0 s.shadow (pkgAddr die off) else s.rd die off

/-- Write the shadow copy of a word. -/
def Pkg.wrShadow (s : Pkg) (die off : Nat) (w : Word) : Pkg :=
  { s with shadow := SMap.insertSorted (pkgAddr die off) w (SMap.erase (pkgAddr die off) s.shadow) }

/-- The 64-bit counter or pair whose low word lies at this offset (R11). -/
def Pkg.cnt (s : Pkg) (die off : Nat) : Quad := SMap.get 0 s.ctr (pkgAddr die off)

/-- Set a 64-bit pair. -/
def Pkg.setCnt (s : Pkg) (die off : Nat) (v : Quad) : Pkg :=
  { s with ctr := SMap.set 0 s.ctr (pkgAddr die off) v }

/-- Add n to a 64-bit counter, which wraps at 2⁶⁴ (R11). -/
def Pkg.add (s : Pkg) (die off n : Nat) : Pkg := s.setCnt die off (s.cnt die off + BitVec.ofNat 64 n)

/-- Count one event. -/
def Pkg.bump (s : Pkg) (die off : Nat) : Pkg := s.add die off 1

/-- MAJOR and MINOR of a die, as one byte (R9, Table 0-2): revision 2.1 unless the state says otherwise. -/
def Pkg.revision (s : Pkg) (die : Nat) : Nat := SMap.get 0x21 s.revs die

/-- ID_DEVICE of a die (R6, R9). -/
def Pkg.deviceId (s : Pkg) (die : Nat) : Word := fieldSet (idDevice s.variant die) 7 0 (s.revision die)

/-- Instance i of an arrayed field (R10). -/
def Fld.at (f : Fld) (i stride : Nat) : Fld := { f with off := f.off + i * stride }

/-- A 64-bit value that software writes as two 32-bit words at off and off + 4. -/
def Pkg.rd64 (s : Pkg) (die off : Nat) : Nat := (s.rd die off).toNat + (s.rd die (off + 4)).toNat * 2 ^ 32

/-- n bytes of register or table memory from an offset, in the little-endian word layout (R10, R13). -/
def Pkg.bytesAt (s : Pkg) (die off n : Nat) : List Byte :=
  ((List.range (ceilDiv n 4)).flatMap (fun i => leBytes 4 (s.rd die (off + 4 * i)).toNat)).take n

/-- Write bytes to register or table memory from an offset; the last word is filled with zeros. -/
def Pkg.putBytes (s : Pkg) (die off : Nat) (bs : List Byte) : Pkg :=
  (List.range (ceilDiv bs.length 4)).foldl (fun s i => s.wr die (off + 4 * i) (BitVec.ofNat 32 (leAt bs (4 * i) 4))) s

/-- Write a 64-bit value as two words. -/
def Pkg.wr64 (s : Pkg) (die off v : Nat) : Pkg := (s.wr die off (BitVec.ofNat 32 v)).wr die (off + 4) (BitVec.ofNat 32 (v / 2 ^ 32))

/-- The words in effect from offset lo up to hi return to their reset values. -/
def Pkg.clearWords (s : Pkg) (die lo hi : Nat) : Pkg :=
  { s with regs := s.regs.filter (fun e => !(decide (pkgAddr die lo ≤ e.1) && decide (e.1 < pkgAddr die hi))) }

/-- Offsets within a range of a die at which a word other than its reset value is in effect. -/
def Pkg.listed (s : Pkg) (die lo hi : Nat) : List Nat :=
  (s.regs.filter (fun e => decide (pkgAddr die lo ≤ e.1) && decide (e.1 < pkgAddr die hi))).map (fun e => e.1 - pkgAddr die 0)

/-! ### What leaves, free values, the clock -/

/-- Something leaves the package. -/
def Pkg.emit (s : Pkg) (e : OutEv) : Pkg := { s with out := s.out ++ [e] }

/-- Several things leave the package, in order. -/
def Pkg.emitAll (s : Pkg) (es : List OutEv) : Pkg := { s with out := s.out ++ es }

/-- The step has taken n free values. -/
def Pkg.tookFree (s : Pkg) (n : Nat) : Pkg := { s with fresh := s.fresh + n }

/-- One nanosecond in the units of the clock, 2⁻¹⁶ ns (R22). -/
def ns (n : Nat) : Nat := n * 65536

/-- Microseconds and milliseconds in nanoseconds. -/
def us (n : Nat) : Nat := n * 1000
def ms (n : Nat) : Nat := n * 1000000

/-- Package time in whole nanoseconds. -/
def Pkg.nowNs (s : Pkg) : Nat := s.now / 65536

/-- Package time reaches an instant given in nanoseconds; it never runs backwards (R46). -/
def Pkg.reach (s : Pkg) (t : Nat) : Pkg := { s with now := max s.now (ns t) }

/-- Package time reaches an instant given in 2⁻¹⁶ ns. -/
def Pkg.reachFrac (s : Pkg) (t : Nat) : Pkg := { s with now := max s.now t }

/-- The count of a die at the present instant, in 2⁻¹⁶ ns: the reference's count, plus the die's offset, less what it has
absorbed of a backward correction at half its increment (R46). -/
def Pkg.count (s : Pkg) (die : Nat) : Nat :=
  let c := SMap.get {} s.clocks die
  ((s.now : Int) + c.off - (min c.slow ((s.now - c.since) / 2) : Nat)).toNat

/-- A die's count in whole nanoseconds. -/
def Pkg.countNs (s : Pkg) (die : Nat) : Nat := s.count die / 65536

/-- The sentinel's clock runs at 48 MHz in this mode (R42, R48): the parked ones. -/
def slowClock (mode : Nat) : Bool := mode ≤ 2

/-- The count as ID_TIME shows it in a mode (R48): in steps of the sentinel's clock, 5 ns at 200 MHz and 20.8 ns at 48 MHz, from the count at which it
last changed its clock. -/
def Pkg.idTimeIn (s : Pkg) (mode : Nat) : Nat :=
  let b := (SMap.get {} s.clocks 15).base
  let d := s.countNs 15 - b
  b + (if slowClock mode then d * 48 / 1000 * 1000 / 48 else d / 5 * 5)

/-! ### Dies, tiles, modes -/

/-- PW_MODE and its fields (Table 10-7). -/
def fMode : Fld := ⟨0x60000, 3, 0⟩
def fPrev : Fld := ⟨0x60000, 7, 4⟩
def fReason : Fld := ⟨0x60000, 12, 8⟩
def fDebugLevel : Fld := ⟨0x60000, 17, 16⟩
def fLockstepBroken : Fld := ⟨0x60000, 18, 18⟩
def fWarmValid : Fld := ⟨0x60000, 19, 19⟩
def fTilesOn : Fld := ⟨0x60000, 26, 20⟩

/-- The modes of Table 10-1 by their codes. -/
def mDormant : Nat := 0
def mParkedCold : Nat := 1
def mParkedWarm : Nat := 2
def mWaking : Nat := 3
def mBoot : Nat := 4
def mRun : Nat := 5
def mRunPartial : Nat := 6
def mDegraded : Nat := 7
def mActivating : Nat := 8
def mDebug : Nat := 9
def mQuarantine : Nat := 10
def mProvision : Nat := 11

/-- The mode in effect (R293). -/
def Pkg.modeNow (s : Pkg) : Nat := s.get 15 fMode

/-- Tile t is powered (PW_MODE.TILES_ON). -/
def Pkg.tileOn (s : Pkg) (t : Nat) : Bool := t < s.variant.tiles && (s.get 15 fTilesOn).testBit t

/-- Die d is powered: the sentinel always is (R38). -/
def Pkg.dieOn (s : Pkg) (d : Nat) : Bool := d == 15 || s.tileOn d

/-- Tile t has been declared lost (R68). -/
def Pkg.isLost (s : Pkg) (t : Nat) : Bool := s.mode.lost.contains t

/-- Tile t is in service: powered and not lost (R68). -/
def Pkg.inService (s : Pkg) (t : Nat) : Bool := s.tileOn t && !s.isLost t

/-- The tiles in service, in order. -/
def Pkg.serving (s : Pkg) : List Nat := (List.range 7).filter s.inService

/-- The tiles that are powered. -/
def Pkg.powered (s : Pkg) : List Nat := (List.range 7).filter s.tileOn

/-- The tile holding the active steward and trestle (R2, R178). -/
def Pkg.steward (s : Pkg) : Nat := s.mode.steward

/-- The tile that holds the standby steward, where one is in service (R2). -/
def Pkg.standby (s : Pkg) : Option Nat := if s.mode.steward = 0 ∧ s.inService 1 then some 1 else none

/-- Do something on each die of a list. -/
def Pkg.onEach (s : Pkg) (l : List Nat) (f : Nat → Pkg → Pkg) : Pkg := l.foldl (fun s t => f t s) s

/-- An event that is the cause of an MSI-X vector and has no register of its own (Table 7-7). -/
def Pkg.event (s : Pkg) (tile vec : Nat) : Pkg :=
  let m := SMap.get {} s.msix tile
  { s with msix := SMap.set {} s.msix tile { m with events := m.events ||| BitVec.ofNat 32 (2 ^ vec) } }

/-- PW_LAST_CHANGE and the transition counters (Table 10-7). -/
def oLastChange : Nat := 0x60020
def oTransitions : Nat := 0x60040
def oRefused : Nat := 0x60048
def oWakesMerged : Nat := 0x60050
def oResets : Nat := 0x60058

/-- ID_TIME (R48). -/
def Pkg.idTime (s : Pkg) : Nat := s.idTimeIn s.modeNow

/-- The sentinel changes its clock with the mode: its count steps on from where it stands (R48). -/
def Pkg.stepClock (s : Pkg) (m : Nat) : Pkg :=
  if slowClock m = slowClock s.modeNow then s
  else { s with clocks := SMap.set {} s.clocks 15 { SMap.get {} s.clocks 15 with base := s.idTime } }

/-- A mode transition (R294): PW_MODE as one word with the previous mode and the reason, PW_LAST_CHANGE, and vector 30 on
every powered tile. -/
def Pkg.setMode (s : Pkg) (m reason : Nat) : Pkg :=
  let old := s.modeNow
  let s := s.stepClock m
  let s := ((s.put 15 fPrev old).put 15 fMode m).put 15 fReason reason
  let s := (s.setCnt 15 oLastChange (BitVec.ofNat 64 s.nowNs)).bump 15 oTransitions
  s.onEach s.powered (fun t s => s.event t 30)

/-- Entry to DEGRADED (Table 10-2): from RUN and RUN-PARTIAL only. Reasons of Table 10-8. -/
def Pkg.degrade (s : Pkg) (reason : Nat) : Pkg :=
  if s.modeNow = mRun ∨ s.modeNow = mRunPartial then s.setMode mDegraded reason else s

/-- Update of the mode substate. -/
def Pkg.onMode (s : Pkg) (f : ModeSt → ModeSt) : Pkg := { s with mode := f s.mode }

/-- A tile is declared lost (R68, R297): it takes no part in later commits; when it is tile 0 the time reference moves to
tile 1 (R47), and with it steward, trestle and tether (Table 10-3, R31); the package enters DEGRADED with REASON TILE_LOST. -/
def Pkg.declareLost (s : Pkg) (t : Nat) : Pkg :=
  if s.isLost t then s
  else
    let s := s.onMode (fun m => { m with lost := t :: m.lost })
    let s := if t = s.ref ∧ 2 ≤ s.variant.tiles ∧ t = 0 then { s with ref := 1 } else s
    let s := if t = s.mode.steward ∧ 2 ≤ s.variant.tiles ∧ t = 0 then
        { s.onMode (fun m => { m with steward := 1 }) with tether := 1 } else s
    s.degrade 10

/-! ### Management errors and configuration errors -/

/-- ID_MERR_STATUS (Table 1-6). -/
def fMerrWrite : Fld := ⟨0x10, 0, 0⟩
def fMerrAgent : Fld := ⟨0x10, 11, 8⟩
def fMerrDie : Fld := ⟨0x10, 19, 16⟩
def fMerrCode : Fld := ⟨0x10, 27, 24⟩
def fMerrOvf : Fld := ⟨0x10, 30, 30⟩
def fMerrValid : Fld := ⟨0x10, 31, 31⟩
def fMerrAddr : Fld := ⟨0x14, 29, 0⟩
def oMerrCount : Nat := 0x18

/-- The codes of ID_MERR_STATUS. -/
def eAbsentDie : Nat := 1
def eUnassigned : Nat := 2
def eFenceRemote : Nat := 3
def eFenceTimeout : Nat := 4
def ePathDown : Nat := 5
def eRefused : Nat := 6
def eTargetTimeout : Nat := 7
def eAbsentBlock : Nat := 8

/-- Record a management error on the requester's home die (R39, R41): the first one is kept while VALID is 1, a later one
sets OVERFLOW; every one is counted. -/
def Pkg.merr (s : Pkg) (r : Req) (code : Nat) (write : Bool) (addr : Nat) : Pkg :=
  let d := r.die
  let s := s.bump d oMerrCount
  if s.on d fMerrValid then s.raise d fMerrOvf
  else (((((s.put d fMerrWrite (bit write)).put d fMerrAgent r.agent).put d fMerrDie (addrDie addr)).put d fMerrCode code).put d
    fMerrAddr addr).raise d fMerrValid

/-- SI_CFG_ERR of a tile and ID_CFG_ERR of the sentinel (Tables 2-2 and 2-4): offset of the word, of its ADDR word and of
its counter. -/
def cfgErrOff (die : Nat) : Nat := if die = 15 then 0x70 else 0x200070
def cfgErrCnt (die : Nat) : Nat := if die = 15 then 0x60 else 0x200068

/-- The codes of SI_CFG_ERR. -/
def cColdWindow : Nat := 1
def cOutOfShape : Nat := 2
def cKsBusy : Nat := 3
def cNotCoordinator : Nat := 4

/-- Record a configuration error on the die written (R56, R57, R71, R423): first error kept, OVERFLOW, every one counted. -/
def Pkg.cfgErr (s : Pkg) (r : Req) (die code addr : Nat) : Pkg :=
  let o := cfgErrOff die
  let s := s.bump die (cfgErrCnt die)
  if s.on die ⟨o, 31, 31⟩ then s.raise die ⟨o, 30, 30⟩
  else ((((s.put die ⟨o, 3, 0⟩ code).put die ⟨o, 7, 4⟩ r.agent).put die ⟨o, 11, 8⟩ r.die).put die ⟨o + 4, 29, 0⟩ addr).raise
    die ⟨o, 31, 31⟩

/-! ### Commit states (R61) -/

/-- SI_KS_STATUS.STATE and SI_EPOCH (Table 2-2). -/
def fKsState : Fld := ⟨0x200030, 1, 0⟩
def fEpoch : Fld := ⟨0x200010, 31, 0⟩

/-- SI_KS_STATUS.STATE: 0 IDLE, 1 PENDING, 2 DRAINING, 3 HELD. -/
def Pkg.ksState (s : Pkg) (t : Nat) : Nat := s.get t fKsState

/-- A structure activation pauses forwarding (R395); a firmware-only activation leaves the package without its steward (R394). -/
def Pkg.pausing (s : Pkg) : Bool := s.modeNow == mActivating && s.boot.act == 2
def Pkg.stewardAbsent (s : Pkg) : Bool := s.modeNow == mActivating && s.boot.act == 1

/-- A tile's parser admits frames: its commit state is IDLE or PENDING (R61), and no structure activation holds its ports (R395). -/
def Pkg.admits (s : Pkg) (t : Nat) : Bool := s.ksState t ≤ 1 && !s.pausing

/-! ### Updates of the hidden state by key -/

def Pkg.reqSt (s : Pkg) (r : Req) : ReqSt := SMap.get {} s.reqs (r.die * 16 + r.agent)
def Pkg.setReqSt (s : Pkg) (r : Req) (x : ReqSt) : Pkg := { s with reqs := SMap.set {} s.reqs (r.die * 16 + r.agent) x }
def Pkg.spanSt (s : Pkg) (t p : Nat) : SpanSt := SMap.get {} s.spans (t * 8 + p)
def Pkg.setSpanSt (s : Pkg) (t p : Nat) (x : SpanSt) : Pkg := { s with spans := SMap.set {} s.spans (t * 8 + p) x }
def Pkg.tetherSt (s : Pkg) (t : Nat) : TetherSt := SMap.get {} s.tethers t
def Pkg.setTetherSt (s : Pkg) (t : Nat) (x : TetherSt) : Pkg := { s with tethers := SMap.set {} s.tethers t x }
def Pkg.clockSt (s : Pkg) (d : Nat) : ClockSt := SMap.get {} s.clocks d
def Pkg.setClockSt (s : Pkg) (d : Nat) (x : ClockSt) : Pkg := { s with clocks := SMap.set {} s.clocks d x }
def Pkg.ksT (s : Pkg) (t : Nat) : KsTile := SMap.get {} s.ksTile t
def Pkg.setKsT (s : Pkg) (t : Nat) (x : KsTile) : Pkg := { s with ksTile := SMap.set {} s.ksTile t x }
def Pkg.queueAt (s : Pkg) (t : Nat) : List HeldAcc := SMap.get [] s.portQ t
def Pkg.setQueueAt (s : Pkg) (t : Nat) (x : List HeldAcc) : Pkg := { s with portQ := SMap.set [] s.portQ t x }

/-- The instant at which a die's own count will be t, in 2⁻¹⁶ ns: while a backward correction is being absorbed the count advances at half its
increment (R46). -/
def Pkg.instantOf (s : Pkg) (die t : Nat) : Nat :=
  let c := s.clockSt die
  let plain : Int := (t : Int) - c.off
  -- absorbed so far at the instant x: min slow ((x − since) / 2)
  if plain + c.slow ≥ (c.since : Int) + 2 * c.slow then (plain + c.slow).toNat
  else (if (c.since : Int) ≤ plain then 2 * plain - c.since else plain).toNat

/-- Package time reaches the instant at which a die's own count is t ns. -/
def Pkg.reachCount (s : Pkg) (die t : Nat) : Pkg := s.reachFrac (s.instantOf die (ns t))

/-- Update of the switch substate. -/
def Pkg.onSw (s : Pkg) (f : SwitchSt → SwitchSt) : Pkg := { s with sw := f s.sw }

def Pkg.leaseSt (s : Pkg) (t : Nat) : LeaseSt := SMap.get {} s.lease t
def Pkg.setLeaseSt (s : Pkg) (t : Nat) (x : LeaseSt) : Pkg := { s with lease := SMap.set {} s.lease t x }
def Pkg.macCache (s : Pkg) (t : Nat) : List CachedKey := SMap.get [] s.macKeys t
def Pkg.setMacCache (s : Pkg) (t : Nat) (x : List CachedKey) : Pkg := { s with macKeys := SMap.set [] s.macKeys t x }
def Pkg.trCache (s : Pkg) (t : Nat) : List CachedKey := SMap.get [] s.trKeys t
def Pkg.setTrCache (s : Pkg) (t : Nat) (x : List CachedKey) : Pkg := { s with trKeys := SMap.set [] s.trKeys t x }

/-- A condition on the state guards an effect; where it fails, the event does not happen and nothing changes. -/
def Pkg.when (s : Pkg) (b : Bool) (f : Pkg → Pkg) : Pkg := if b then f s else s

end Sys2Proof.Machine
end

