-- ==== Sys2Proof/Machine/Paths.lean ====
section
/-! DEFINITION. Which links are up and which way traffic goes between dies: spans, relay routes, control spans, tethers
(R24–R32, R35, R422). -/
namespace Sys2Proof.Machine

/-- ID_SPAN_STATUS.STATE of span port 0 and the span counters (Table 1-2). -/
def fSpanState : Fld := ⟨0x100, 5, 4⟩
def fSpanRelay : Fld := ⟨0x100, 6, 6⟩
def oSpanRetry : Nat := 0x108
def oSpanDownCnt : Nat := 0x110
def oSpanLost : Nat := 0x118

/-- STATE of a span port: 0 absent, 1 TRAINING, 2 UP, 3 DOWN. -/
def Pkg.spanState (s : Pkg) (t p : Nat) : Nat := s.get t (fSpanState.at p 0x40)

/-- A span port is UP. -/
def Pkg.spanUpAt (s : Pkg) (t p : Nat) : Bool := s.spanState t p == 2

/-- The span ports of tile a that are wired to tile b, in ascending order (R25). -/
def spanPorts (v : Variant) (a b : Nat) : List Nat :=
  (List.range 6).filter (fun p => match spanPeer v a p with | some (d, _) => d == b | none => false)

/-- The span ports of a towards b that are UP. -/
def Pkg.upPorts (s : Pkg) (a b : Nat) : List Nat := (spanPorts s.variant a b).filter (s.spanUpAt a)

/-- The pair's key, lower die index first (R422). -/
def pairKey (a b : Nat) : Nat := min a b * 8 + max a b

/-- The span ports of a towards b that are UP and take traffic: a span that has been DOWN does so from the first commit after it is UP again (R28). -/
def Pkg.servPorts (s : Pkg) (a b : Nat) : List Nat := (s.upPorts a b).filter (fun p => (s.spanSt a p).inServ)

/-- The lowest-numbered tile whose spans to both ends are up and take traffic (R28, R29). -/
def Pkg.relayFor (s : Pkg) (a b : Nat) : Option Nat :=
  (List.range 7).find? (fun t => t != a && t != b && s.inService t && !(s.servPorts t a).isEmpty && !(s.servPorts t b).isEmpty)

/-- The route a pair takes from the spans that take traffic at this instant (R29, R58). -/
def Pkg.bestRoute (s : Pkg) (a b : Nat) : Route :=
  if !(s.servPorts a b).isEmpty then .direct
  else if s.variant = .ikd8 then (match s.relayFor a b with | some t => .relay t | none => .none_) else .none_

/-- The route in use between two tiles (R29): LO-IKD8 keeps the one chosen until the next commit. -/
def Pkg.routeOf (s : Pkg) (a b : Nat) : Route := SMap.get .direct s.routes (pairKey a b)

/-- Whether the pair's route carries traffic now. -/
def Pkg.pairUp (s : Pkg) (a b : Nat) : Bool :=
  a == b ||
  match s.routeOf a b with
  | .direct => !(s.servPorts a b).isEmpty
  | .relay t => !(s.servPorts t a).isEmpty && !(s.servPorts t b).isEmpty
  | .none_ => false

/-- Set the route of a pair. -/
def Pkg.setRoute (s : Pkg) (a b : Nat) (r : Route) : Pkg := { s with routes := SMap.set .direct s.routes (pairKey a b) r }

/-- All pairs of tiles of the ordering code. -/
def tilePairsOf (v : Variant) : List (Nat × Nat) :=
  (List.range v.tiles).flatMap (fun a => ((List.range v.tiles).filter (fun b => a < b)).map (fun b => (a, b)))

/-- The control span of a pair, as a port of the lower-numbered tile (R422): the one chosen at the last commit, at the end of training in BOOT, or
when the chosen one went DOWN; none when no span of the pair takes traffic. -/
def Pkg.ctrlPort (s : Pkg) (a b : Nat) : Option Nat :=
  let lo := min a b
  let hi := max a b
  let kept := SMap.get 7 s.ctrl (pairKey a b)
  if kept < 6 ∧ s.spanUpAt lo kept then some kept else (s.servPorts lo hi).head?

/-- Set the control span a pair keeps (7: none chosen). -/
def Pkg.setCtrl (s : Pkg) (a b p : Nat) : Pkg := { s with ctrl := SMap.set 7 s.ctrl (pairKey a b) p }

/-- Choose a pair's control span: the lowest-numbered span port that takes traffic, counted at the lower die index (R422). -/
def Pkg.chooseCtrl (s : Pkg) (a b : Nat) : Pkg := s.setCtrl a b ((s.servPorts (min a b) (max a b)).head?.getD 7)

/-- The span port of the first hop of a tile's time beat (R44, R422): its own port of the control span of its pair with
the reference, or of the pair with the relay tile. -/
def Pkg.beatPort (s : Pkg) (t : Nat) : Nat :=
  let via := match s.routeOf t s.ref with | .relay r => r | _ => s.ref
  match s.ctrlPort t via with
  | some p => if t < via then p else (match spanPeer s.variant via p with | some (_, q) => q | none => 0xF)
  | none => 0xF

/-- A keystone commit puts the spans that are UP into service and recomputes routes and control spans from the span states at that
instant (R28, R58). Done for the pairs of one tile at its commit. -/
def Pkg.recomputeRoutes (s : Pkg) (t : Nat) : Pkg :=
  let s := (List.range 6).foldl (fun s p =>
    let s := s.setSpanSt t p { s.spanSt t p with inServ := s.spanUpAt t p, fell := false }
    match spanPeer s.variant t p with
    | some (d, q) => s.setSpanSt d q { s.spanSt d q with inServ := s.spanUpAt d q, fell := false }
    | none => s) s
  (List.range 7).foldl (fun s b =>
    if b < s.variant.tiles ∧ b ≠ t then
      (s.setRoute t b (if s.bestRoute t b = .none_ ∧ (spanPorts s.variant t b).isEmpty then .direct else s.bestRoute t b)).chooseCtrl t b
    else s) s

/-- On LO-IKD4, the span that carries the frames of an ingress port to an egress port (R27, R29): number (ingress global
port + egress global port) mod n among the spans of the pair in service and still up, in ascending order. -/
def Pkg.frameSpan (s : Pkg) (a b gin gout : Nat) : Option Nat :=
  let l := s.servPorts a b
  if l.isEmpty then none else l[(gin + gout) % l.length]?

/-- ID_SPAN_STATUS.RELAY (Table 1-2): this span carries relayed traffic of another pair. -/
def Pkg.carriesRelay (s : Pkg) (t p : Nat) : Bool :=
  match spanPeer s.variant t p with
  | none => false
  | some (d, _) => (tilePairsOf s.variant).any (fun (a, b) =>
      match s.routeOf a b with
      | .relay r => (r == t && (d == a || d == b)) || (r == d && (t == a || t == b))
      | _ => false)

/-- A tether is UP (R32). -/
def Pkg.tetherUp (s : Pkg) (t : Nat) : Bool := (s.tetherSt t).up

/-- The tethers of the ordering code (Table 0-1): tile 0, and tile 1 except on LO-IKD2. -/
def tetherCount (v : Variant) : Nat := if v = .ikd2 then 1 else 2

/-- A tether carries traffic: it is UP and the tile at its end has not been lost (R31, R35). -/
def Pkg.tetherServes (s : Pkg) (t : Nat) : Bool := t < tetherCount s.variant && s.tetherUp t && !s.isLost t

/-- The tile at the end of the tether in use, when a tether is UP (R31, R32, R35). -/
def Pkg.tetherTile (s : Pkg) : Option Nat :=
  if s.tetherServes s.tether then some s.tether
  else if s.tetherServes (1 - s.tether) then some (1 - s.tether)
  else none

/-- Whether a management transaction finds a route from its home die to its target (R35, R41, R297). -/
def Pkg.pathUp (s : Pkg) (home target : Nat) : Bool :=
  if home = target then true
  else if home = 15 then
    match s.tetherTile with
    | some e => s.tileOn target && !s.isLost target && s.pairUp e target
    | none => false
  else if target = 15 then
    match s.tetherTile with
    | some e => !s.isLost home && s.pairUp home e
    | none => false
  else s.tileOn target && !s.isLost target && !s.isLost home && s.pairUp home target

/-- The port of tile t of the control span it shares with tile u (R422). -/
def Pkg.ctrlPortAt (s : Pkg) (t u : Nat) : Nat :=
  match s.ctrlPort t u with
  | none => 0
  | some p => if t < u then p else (match spanPeer s.variant u p with | some (_, q) => q | none => 0)

/-- The agent as which a transaction reaches its target's management port (R29, R36): its own on its home die; at the end of the tether
in use, agent 12; else the agent of the span port on which it arrives. -/
def Pkg.portAgent (s : Pkg) (r : Req) (target : Nat) : Nat :=
  if r.die = target then r.agent
  else
    let from_ := if r.die = 15 then s.tetherTile.getD 0 else r.die
    if target = 15 then (if s.tetherTile = some 1 then 2 else 1)
    else if from_ = target then 12
    else match s.routeOf from_ target with
      | .relay t => 6 + s.ctrlPortAt target t
      | _ => 6 + s.ctrlPortAt target from_

end Sys2Proof.Machine
end

