-- ==== Sys2Proof/Machine/Parser.lean ====
section
/-! DEFINITION. The parser graph and its verdicts (R76–R80, R82). -/
namespace Sys2Proof.Machine

/-- A parser node's words (Table 3-3), as table memory holds them. -/
def Pkg.node (s : Pkg) (t n : Nat) : Word × Word := (s.rd t (0x3400000 + 8 * n), s.rd t (0x3400004 + 8 * n))

/-- The header kinds of Table 3-3 that have checks or a meaning of their own. -/
def kEth : Nat := 1
def kCtag : Nat := 2
def kStag : Nat := 3
def kIpv4 : Nat := 4
def kIpv6 : Nat := 5
def kIpv6Ext : Nat := 6
def kIpv6Frag : Nat := 7
def kUdp : Nat := 8
def kTcp : Nat := 9
def kIcmp : Nat := 10
def kVxlan : Nat := 12
def kGeneve : Nat := 13

/-- The innermost IP datagram that encloses what the parser reads: its header, its first byte past the end, whether it is a
fragment, whether a fragment header of it has been recorded. -/
structure IpCtx where
  hdr    : Hdr
  stop   : Nat
  isFrag : Bool
  hasFrag : Bool

/-- The outer VID of a frame: that of its outermost recorded VLAN tag, 0 on an untagged frame (R82). -/
def outerVid (bs : List Byte) (hs : List Hdr) : Nat :=
  match hs.find? (fun h => h.kind == kCtag || h.kind == kStag) with
  | some h => beAt bs h.off 2 % 4096
  | none => 0

/-- The IPv4 header checksum of n bytes at offset o folds to 0xFFFF when it is right. -/
def ones16 (bs : List Byte) (o n : Nat) : Nat :=
  let sum := (List.range (n / 2)).foldl (fun a i => a + beAt bs (o + 2 * i) 2) 0
  let f := fun x => x % 65536 + x / 65536
  f (f (f sum))

/-- The fragment facts of an IPv4 header or an IPv6 fragment header (R82). -/
def fragOf (bs : List Byte) (hs : List Hdr) (h : Hdr) (ip : Option IpCtx) : Option FragInfo :=
  let vid := outerVid bs hs
  if h.kind = kIpv4 then
    let w := beAt bs (h.off + 6) 2
    let ihl := (beAt bs h.off 1 % 16) * 4
    let more := (w / 8192) % 2 == 1
    let off := (w % 8192) * 8
    if more || off != 0 then
      some { key := [4, beAt bs (h.off + 12) 4, beAt bs (h.off + 16) 4, beAt bs (h.off + 9) 1, beAt bs (h.off + 4) 2, vid],
             offset := off, len := beAt bs (h.off + 2) 2 - ihl, more := more }
    else none
  else if h.kind = kIpv6Frag then
    match ip with
    | some c =>
      let w := beAt bs (h.off + 2) 2
      some { key := [6, beAt bs (c.hdr.off + 8) 16, beAt bs (c.hdr.off + 24) 16, beAt bs (h.off + 4) 4, vid],
             offset := (w / 8) * 8, len := c.stop - (h.off + h.len), more := w % 2 == 1 }
    | none => none
  else none

/-- The IP context after a header has been recorded. -/
def nextCtx (bs : List Byte) (h : Hdr) (ip : Option IpCtx) : Option IpCtx :=
  if h.kind = kIpv4 then
    let w := beAt bs (h.off + 6) 2
    some { hdr := h, stop := h.off + beAt bs (h.off + 2) 2, isFrag := w % 16384 != 0, hasFrag := false }
  else if h.kind = kIpv6 then
    some { hdr := h, stop := h.off + 40 + beAt bs (h.off + 4) 2, isFrag := false, hasFrag := false }
  else if h.kind = kIpv6Frag then
    ip.map (fun c => { c with isFrag := true, hasFrag := true })
  else ip

/-- The checks of Table 3-7 beside TRUNC and HDR_LEN_ZERO, in ascending order of reason code; 0: all pass. `via` is the next-header
value that led here, `prev` the header recorded directly before. -/
def kindCheck (bs : List Byte) (n : Nat) (h : Hdr) (ip : Option IpCtx) (prev : Option Hdr) (via : Nat) : Nat :=
  let o := h.off
  if h.kind = kEth then
    (if beAt bs (o + 12) 2 < 0x600 ∧ n - (o + 14) < beAt bs (o + 12) 2 then 2 else 0)
  else if h.kind = kIpv4 then
    let b := beAt bs o 1
    let ihl := (b % 16) * 4
    let total := beAt bs (o + 2) 2
    let w := beAt bs (o + 6) 2
    let more : Bool := (w / 8192) % 2 == 1
    let foff := (w % 8192) * 8
    if b / 16 ≠ 4 ∨ b % 16 < 5 then 3
    else if total < ihl ∨ n < o + total then 4
    else if ones16 bs o ihl ≠ 0xFFFF then 5
    else if (more ∧ (total - ihl) % 8 ≠ 0) ∨ (foff ≠ 0 ∧ 65535 < foff + (total - ihl)) then 12
    else 0
  else if h.kind = kIpv6 then
    (if beAt bs o 1 / 16 ≠ 6 then 6 else if n < o + 40 + beAt bs (o + 4) 2 then 7 else 0)
  else if h.kind = kIpv6Ext then
    let long : Bool := match ip with | some c => decide (c.stop < o + h.len) | none => false
    let hop : Bool := via == 0 && (prev.map (·.kind)) != some kIpv6
    if long then 7 else if hop then 8 else 0
  else if h.kind = kIpv6Frag then
    let long : Bool := match ip with | some c => decide (c.stop < o + h.len) | none => false
    let second : Bool := match ip with | some c => c.hasFrag | none => false
    let w := beAt bs (o + 2) 2
    let len := match ip with | some c => c.stop - (o + h.len) | none => 0
    if long then 7 else if second then 8
    else if (w % 2 = 1 ∧ len % 8 ≠ 0) ∨ 65535 < (w / 8) * 8 + len then 12 else 0
  else if h.kind = kUdp then
    let len := beAt bs (o + 4) 2
    let wrong : Bool := match ip with | some c => !c.isFrag && decide (len ≠ c.stop - o) | none => false
    if len < 8 ∨ wrong then 9 else 0
  else if h.kind = kTcp then
    let doff := beAt bs (o + 12) 1 / 16
    let long : Bool := match ip with | some c => decide (c.stop < o + doff * 4) | none => false
    if doff < 5 ∨ long then 10 else 0
  else if h.kind = kVxlan ∨ h.kind = kGeneve then
    match prev with
    | some u => if u.kind = kUdp ∧ beAt bs (u.off + 4) 2 - 8 < h.len then 13 else 0
    | none => 0
  else 0

/-- The edge of a node that a next-header value matches (R76): its edges run from EDGE_BASE to the one marked LAST, at most 16. -/
def Pkg.edge (s : Pkg) (t base v : Nat) : Nat → Option Nat
  | 0 => none
  | k + 1 =>
    let w := s.rd t (0x3401000 + 4 * base)
    if fieldGet w 31 31 = 1 ∧ fieldGet w 15 0 = v then some (fieldGet w 22 16)
    else if fieldGet w 30 30 = 1 then none
    else s.edge t (base + 1) v k

/-- The parser's steps at one node after another (R77), with fuel for the onion depth; `limit` is L (R78). -/
def Pkg.parseFrom (s : Pkg) (t : Nat) (bs : List Byte) (limit : Nat) (node off via : Nat) (ip : Option IpCtx) (acc : Parse) :
    Nat → Parse
  | 0 => { acc with verdict := 1 }
  | fuel + 1 =>
    let n := bs.length
    let nd := s.node t node
    let w0 := nd.1
    let w1 := nd.2
    if 256 ≤ off then { acc with verdict := 3 }
    else if limit ≤ acc.hdrs.length then { acc with verdict := 1 }
    else
      let isField := fieldGet w0 15 14 = 1
      let lo := off + fieldGet w0 23 16
      if isField ∧ 256 < lo + 2 then { acc with verdict := 3 }
      else if isField ∧ n < lo + 2 then { acc with verdict := 2, reason := 1 }
      else
        let bits := if fieldGet w0 31 28 = 0 then 16 else fieldGet w0 31 28
        let fld := (beAt bs lo 2 / 2 ^ fieldGet w0 27 24) % 2 ^ bits
        let len := fieldGet w0 6 0 + (if isField then fld * 2 ^ fieldGet w1 1 0 else 0)
        if len = 0 then { acc with verdict := 2, reason := 14 }
        else if 256 < off + len then { acc with verdict := 3 }
        else if n < off + len then { acc with verdict := 2, reason := 1 }
        else
          let h : Hdr := { kind := fieldGet w0 13 8, off := off, len := len }
          let bad := kindCheck bs n h ip acc.hdrs.getLast? via
          if bad ≠ 0 then { acc with verdict := 2, reason := bad }
          else
            let hs := acc.hdrs ++ [h]
            let fr := fragOf bs hs h ip
            let acc := { acc with hdrs := hs, frag := acc.frag.or fr }
            let stopFrag : Bool := match fr with | some f => f.offset != 0 | none => false
            if stopFrag then acc
            else
              let ip := nextCtx bs h ip
              match fieldGet w1 3 2 with
              | 1 =>
                let no := off + fieldGet w1 12 5
                let nw := fieldGet w1 4 4 + 1
                if 256 < no + nw then { acc with verdict := 3 }
                else if n < no + nw then { acc with verdict := 2, reason := 1 }
                else
                  let v := beAt bs no nw
                  match s.edge t (fieldGet w1 29 20) v 16 with
                  | some nx => s.parseFrom t bs limit nx (off + len) v ip acc fuel
                  | none => { acc with unknown := true }
              | 2 => s.parseFrom t bs limit (fieldGet w1 19 13) (off + len) 0xFFFFF ip acc fuel
              | _ => acc

/-- The parse of a frame on a tile (R77): from node 0 at byte 0, with the image's onion depth limit. -/
def Pkg.parse (s : Pkg) (t : Nat) (bs : List Byte) : Parse :=
  s.parseFrom t bs s.sw.shape.onion 0 0 0xFFFFF none {} 14

/-- FRAG_FIRST and FRAG_LATER (R82). -/
def Parse.fragFirst (p : Parse) : Bool := match p.frag with | some f => f.offset == 0 | none => false
def Parse.fragLater (p : Parse) : Bool := match p.frag with | some f => f.offset != 0 | none => false

/-- The verdict actions (Table 3-13): 0 DISCARD, 1 TRAP, 2 CLASSIFY, 3 MIRROR_DISCARD. -/
def Pkg.verdictAct (s : Pkg) (t v : Nat) : Nat :=
  match v with
  | 0 => 2
  | 1 => s.get t ⟨0x400000, 3, 2⟩
  | 2 => s.get t ⟨0x400000, 5, 4⟩
  | 3 => s.get t ⟨0x400000, 7, 6⟩
  | 4 => s.get t ⟨0x400000, 9, 8⟩
  | _ => s.get t ⟨0x400000, 11, 10⟩

/-- PR_VERDICT_CNT and PR_MALFORMED_CNT (R81). -/
def Pkg.countVerdict (s : Pkg) (t : Nat) (p : Parse) : Pkg :=
  let s := s.bump t (0x400100 + 8 * p.verdict)
  if p.verdict = 2 then s.bump t (0x400140 + 8 * p.reason) else s

end Sys2Proof.Machine
end

