-- ==== Sys2Proof/Machine/Classify.lean ====
section
/-! DEFINITION. Key construction, the rule tables and resolution (R85–R91, R424). -/
namespace Sys2Proof.Machine

/-- PR_TBL_INFO of table i (Table 3-13). -/
def Pkg.tblKind (s : Pkg) (t i : Nat) : Nat := s.get t ⟨0x400300 + 0x10 * i, 1, 0⟩
def Pkg.tblKeyWords (s : Pkg) (t i : Nat) : Nat := s.get t ⟨0x400300 + 0x10 * i, 7, 4⟩
def Pkg.tblStride (s : Pkg) (t i : Nat) : Nat := s.get t ⟨0x400300 + 0x10 * i, 15, 8⟩
def Pkg.tblBase (s : Pkg) (t i : Nat) : Nat := s.get t ⟨0x400304 + 0x10 * i, 19, 0⟩
def Pkg.tblEntries (s : Pkg) (t i : Nat) : Nat := s.get t ⟨0x400308 + 0x10 * i, 17, 0⟩
def Pkg.tblStage (s : Pkg) (t i : Nat) : Nat := s.get t ⟨0x40030C + 0x10 * i, 2, 0⟩

/-- The metadata a key may include (R86). -/
structure KeyMeta where
  pass    : Nat
  passTag : Nat
  parse   : Parse
  info    : FrameMeta

/-- The header a key field names (Table 3-16): the occurrence counted from the outermost or the innermost of its kind. -/
def pickHdr (hs : List Hdr) (kind : Nat) (inner : Bool) (occ : Nat) : Option Hdr :=
  let l := hs.filter (fun h => h.kind == kind)
  (if inner then l.reverse else l)[occ]?

/-- `width` bits of the frame from bit `bitOff` below the top of the byte at `o` (R424). -/
def bitsAt (bs : List Byte) (o bitOff width : Nat) : Nat :=
  let nb := (bitOff + width + 7) / 8
  (beAt bs o nb / 2 ^ (nb * 8 - bitOff - width)) % 2 ^ width

/-- One field's value, or the bit it sets in the absent mask when its header is absent (R86, R424). -/
def keyField (bs : List Byte) (m : KeyMeta) (w0 w1 : Word) : Nat ⊕ Nat :=
  match fieldGet w0 20 17 with
  | 0 =>
    match pickHdr m.parse.hdrs (fieldGet w1 5 0) (fieldGet w1 6 6 == 1) (fieldGet w1 9 7) with
    | some h => .inl (bitsAt bs (h.off + fieldGet w1 17 10) (fieldGet w1 20 18) (fieldGet w0 16 9))
    | none => .inr (fieldGet w1 24 21)
  | 1 => .inl m.info.gin
  | 2 => .inl m.pass
  | 3 => .inl m.passTag
  | 4 => .inl m.parse.verdict
  | 5 => .inl (if m.parse.verdict = 2 then m.parse.reason else 0)
  | 6 => .inl (bit m.parse.unknown)
  | 7 => .inl (bit m.parse.fragFirst)
  | 8 => .inl (bit m.parse.fragLater)
  | 9 => .inl (bit m.info.secured)
  | 10 => .inl (if m.info.secured then m.info.sc else 0)
  | 11 => .inl m.info.zone
  | _ => .inl 0

/-- The key of a table for a frame (R424): one number; bits no field covers are 0. -/
def Pkg.key (s : Pkg) (t i : Nat) (bs : List Byte) (m : KeyMeta) : Nat :=
  let ds := (List.range 32).map (fun f => (s.rd t (0x3404000 + i * 0x100 + f * 8), s.rd t (0x3404004 + i * 0x100 + f * 8)))
  let ds := ds.filter (fun d => fieldGet d.1 31 31 == 1)
  let absent := ds.foldl (fun a d => match keyField bs m d.1 d.2 with | .inr b => Nat.lor a (2 ^ b) | .inl _ => a) 0
  ds.foldl (fun k d =>
    let v := if fieldGet d.1 20 17 = 12 then absent else (match keyField bs m d.1 d.2 with | .inl v => v | .inr _ => 0)
    Nat.lor k ((v % 2 ^ fieldGet d.1 16 9) * 2 ^ fieldGet d.1 8 0)) 0

/-- Word w of entry e of table i in the rule bank in effect (R89). -/
def Pkg.ruleWord (s : Pkg) (t i e w : Nat) : Word := s.rd t (0x3000000 + s.tblBase t i + (e * s.tblStride t i + w) * 4)

/-- The number that n words of an entry spell, word 0 least significant (R424). -/
def Pkg.ruleNum (s : Pkg) (t i e w : Nat) : Nat → Nat
  | 0 => 0
  | n + 1 => (s.ruleWord t i e w).toNat + 2 ^ 32 * s.ruleNum t i e (w + 1) n

/-- The control word of an entry (Table 3-9). -/
def Pkg.ruleCtl (s : Pkg) (t i e : Nat) : Word :=
  s.ruleWord t i e (s.tblKeyWords t i * (if s.tblKind t i = 2 then 2 else 1) + 4)

/-- Whether an entry is VALID (R90). -/
def Pkg.ruleValid (s : Pkg) (t i e : Nat) : Bool := fieldGet (s.ruleCtl t i e) 31 31 == 1

/-- The entry of a table that a key hits (R88); none: a miss. -/
def Pkg.hit (s : Pkg) (t i key : Nat) : Option Nat :=
  let k := s.tblKeyWords t i
  let n := s.tblEntries t i
  match s.tblKind t i with
  | 1 =>
    let b := crc32cWords ((List.range k).map (fun j => (key / 2 ^ (32 * j)) % 2 ^ 32)) % (n / 4)
    ((List.range 4).map (fun w => b * 4 + w)).find? (fun e => s.ruleValid t i e && s.ruleNum t i e 0 k == key)
  | 2 =>
    (List.range n).find? (fun e => s.ruleValid t i e &&
      Nat.land (s.ruleNum t i e 0 k) (s.ruleNum t i e k k) == Nat.land key (s.ruleNum t i e k k))
  | 3 =>
    (List.range n).foldl (fun best e =>
      let len := fieldGet (s.ruleCtl t i e) 8 0
      let sh := 2 ^ (32 * k - len)
      if s.ruleValid t i e ∧ s.ruleNum t i e 0 k / sh = key / sh then
        match best with
        | some b => if fieldGet (s.ruleCtl t i b) 8 0 < len then some e else some b
        | none => some e
      else best) none
  | _ => none

/-- The MAC pair of a rewrite entry (Table 3-14): DA, SA, VALID. -/
def Pkg.macEntry (s : Pkg) (t n : Nat) : Nat × Nat × Bool :=
  let w := fun i => s.rd t (0x3430000 + n * 16 + i * 4)
  ((w 0).toNat * 65536 + fieldGet (w 1) 15 0, fieldGet (w 1) 31 16 * 2 ^ 32 + (w 2).toNat, fieldGet (w 3) 31 31 == 1)

/-- An action entry (Table 3-10) as its groups. -/
def Pkg.actionAt (s : Pkg) (t i e : Nat) : Act :=
  let a := s.tblKeyWords t i * (if s.tblKind t i = 2 then 2 else 1)
  let w0 := s.ruleWord t i e a
  let w1 := s.ruleWord t i e (a + 1)
  let w2 := s.ruleWord t i e (a + 2)
  let w3 := s.ruleWord t i e (a + 3)
  let p := fun n => fieldGet w0 n n == 1
  let opt := fun (b : Bool) (v : Nat) => if b then some v else none
  let mi := fieldGet w2 27 16
  let m := s.macEntry t mi
  { fwd := if p 0 then some (fieldGet w0 13 12, fieldGet w0 27 16) else none
    pop := opt (p 1) (fieldGet w1 1 0)
    push := if p 2 then some ⟨fieldGet w1 3 2, fieldGet w1 15 4, fieldGet w1 18 16, fieldGet w1 19 19, fieldGet w1 31 20⟩ else none
    rw := if p 3 then some ⟨fieldGet w2 3 0, fieldGet w2 15 4, mi, m.1, m.2.1, m.2.2⟩ else none
    queue := opt (p 4) (fieldGet w3 2 0)
    mirror := opt (p 5) (fieldGet w3 6 3)
    meter := opt (p 6) (fieldGet w3 16 7)
    count := opt (p 7) (fieldGet w3 28 17)
    trap := opt (p 8) (fieldGet w3 30 29)
    redir := p 8 && fieldGet w3 30 29 == 2
    recirc := opt (p 9) (fieldGet w2 31 28)
    drop := p 10
    final := p 11 }

/-- A later action over an earlier one (R87): each group whose present bit is set replaces the earlier value; DROP stays set. -/
def Act.onto (a b : Act) : Act :=
  { fwd := b.fwd.or a.fwd, pop := b.pop.or a.pop, push := b.push.or a.push, rw := b.rw.or a.rw, recirc := b.recirc.or a.recirc
    queue := b.queue.or a.queue, mirror := b.mirror.or a.mirror, meter := b.meter.or a.meter, count := b.count.or a.count
    trap := b.trap.or a.trap, redir := a.redir || b.redir, drop := a.drop || b.drop, final := b.final }

/-- The tables in the order of their rule stages (R87). -/
def Pkg.stages (s : Pkg) (t : Nat) : List Nat :=
  (List.range 8).flatMap (fun st => (List.range 8).filter (fun i => s.tblKind t i != 0 && s.tblStage t i == st))

/-- The action a table yields for a frame (R87): that of the entry hit, else of the miss entry when it is VALID. -/
def Pkg.tableAction (s : Pkg) (t i : Nat) (bs : List Byte) (m : KeyMeta) : Option Act :=
  match s.hit t i (s.key t i bs m) with
  | some e => some (s.actionAt t i e)
  | none => if s.ruleValid t i (s.tblEntries t i) then some (s.actionAt t i (s.tblEntries t i)) else none

/-- The rule stages (R87): tables in order, until an action with FINAL. -/
def Pkg.runStages (s : Pkg) (t : Nat) (bs : List Byte) (m : KeyMeta) : List Nat → Act → Act
  | [], a => a
  | i :: rest, a =>
    match s.tableAction t i bs m with
    | some b => if b.final then a.onto b else s.runStages t bs m rest (a.onto b)
    | none => s.runStages t bs m rest a

/-- The resolved action set of a frame (R87). -/
def Pkg.resolve (s : Pkg) (t : Nat) (bs : List Byte) (m : KeyMeta) : Act := s.runStages t bs m (s.stages t) {}

end Sys2Proof.Machine
end

