-- ==== Sys2Proof/Machine/Firewall.lean ====
section
/-! DEFINITION. The firewall and the connection table (R96–R103). -/
namespace Sys2Proof.Machine

/-- A connection key (R99): the initiator's addresses and ports, the protocol, the outer VID. -/
structure ConnKey where
  v6    : Bool
  src   : Nat
  dst   : Nat
  sport : Nat
  dport : Nat
  proto : Nat
  vid   : Nat
deriving DecidableEq, Repr

/-- The key with source and destination swapped (R96); an ICMP identifier stays the identifier (R99, DEDUCED: see the log). -/
def ConnKey.swap (k : ConnKey) : ConnKey :=
  if k.proto = 1 ∨ k.proto = 58 then { k with src := k.dst, dst := k.src }
  else { k with src := k.dst, dst := k.src, sport := k.dport, dport := k.sport }

/-- Word w of connection slot i (Table 3-12). -/
def Pkg.ctWord (s : Pkg) (t i w : Nat) : Word := s.rd t (0x3200000 + i * 32 + w * 4)
def Pkg.setCtWord (s : Pkg) (t i w : Nat) (v : Word) : Pkg := s.wr t (0x3200000 + i * 32 + w * 4) v

/-- VALID and V6 as a slot's words spell them. -/
def Pkg.ctBit (s : Pkg) (t i : Nat) : Bool := fieldGet (s.ctWord t i 7) 31 31 == 1
def Pkg.ctV6 (s : Pkg) (t i : Nat) : Bool := fieldGet (s.ctWord t i 3) 19 19 == 1

/-- The slot is the even half of an IPv6 pair: its eight words are address bits (R102). -/
def Pkg.ctEven (s : Pkg) (t i : Nat) : Bool := i % 2 == 0 && s.ctBit t (i + 1) && s.ctV6 t (i + 1)

/-- A slot holds an IPv4 connection, or the odd half of an IPv6 pair. -/
def Pkg.ctValid (s : Pkg) (t i : Nat) : Bool := s.ctBit t i && !s.ctEven t i

/-- A slot is free: not VALID, and not the even half of a VALID pair (R102). -/
def Pkg.ctFree (s : Pkg) (t i : Nat) : Bool := !s.ctValid t i && !s.ctEven t i

/-- Four words of a slot as one number, the first word most significant (R102). -/
def Pkg.ct4 (s : Pkg) (t i w : Nat) : Nat :=
  (s.ctWord t i w).toNat * 2 ^ 96 + (s.ctWord t i (w + 1)).toNat * 2 ^ 64 + (s.ctWord t i (w + 2)).toNat * 2 ^ 32
    + (s.ctWord t i (w + 3)).toNat

/-- The key of the connection whose fields lie in slot i (the odd slot of an IPv6 pair). -/
def Pkg.ctKeyAt (s : Pkg) (t i : Nat) : ConnKey :=
  let v6 := s.ctV6 t i
  { v6 := v6
    src := if v6 then s.ct4 t (i - 1) 0 else (s.ctWord t i 0).toNat
    dst := if v6 then s.ct4 t (i - 1) 4 else (s.ctWord t i 1).toNat
    sport := fieldGet (s.ctWord t i 2) 15 0, dport := fieldGet (s.ctWord t i 2) 31 16
    proto := fieldGet (s.ctWord t i 3) 7 0, vid := fieldGet (s.ctWord t i 7) 11 0 }

/-- Four words of a 128-bit address, most significant first. -/
def words4 (a : Nat) : List Nat := [a / 2 ^ 96 % 2 ^ 32, a / 2 ^ 64 % 2 ^ 32, a / 2 ^ 32 % 2 ^ 32, a % 2 ^ 32]

/-- The bucket of a connection (R102). -/
def ConnKey.bucket (k : ConnKey) : Nat :=
  let tail := [k.sport + k.dport * 65536, k.proto + k.vid * 256]
  crc32cWords ((if k.v6 then words4 k.src ++ words4 k.dst else [k.src, k.dst]) ++ tail) % 8192

/-- The eight slots of a bucket. -/
def bucketSlots (b : Nat) : List Nat := (List.range 8).map (fun i => b * 8 + i)

/-- The slot that holds a connection's fields (for IPv6, the odd slot of its pair). -/
def Pkg.ctFind (s : Pkg) (t : Nat) (k : ConnKey) : Option Nat :=
  (bucketSlots k.bucket).find? (fun i => s.ctValid t i && decide (s.ctKeyAt t i = k))

/-- A place for a new connection: the slot that will hold its fields (R102); the lowest free slot or pair is taken (DESIGN CHOICE). -/
def Pkg.ctPlace (s : Pkg) (t : Nat) (k : ConnKey) : Option Nat :=
  if k.v6 then
    ((bucketSlots k.bucket).filter (fun i => i % 2 == 1)).find? (fun i => s.ctFree t i && s.ctFree t (i - 1))
  else (bucketSlots k.bucket).find? (fun i => s.ctFree t i)

/-- PR_CT fields (Table 3-13). -/
def fCtUsed : Fld := ⟨0x400014, 16, 0⟩
def fFragUsed : Fld := ⟨0x400014, 27, 17⟩

/-- Package time [51:20] (Table 3-12). -/
def Pkg.seenNow (s : Pkg) (t : Nat) : Nat := (s.countNs t / 2 ^ 20) % 2 ^ 32

/-- Fill slot i (and, for IPv6, its even partner) with a connection. -/
def Pkg.ctFill (s : Pkg) (t i : Nat) (k : ConnKey) (ini rsp st : Nat) (static : Bool) : Pkg :=
  let w3 := k.proto + ini * 256 + rsp * 4096 + st * 65536 + bit k.v6 * 2 ^ 19 + bit static * 2 ^ 20
  let s := if k.v6 then
      let a := words4 k.src ++ words4 k.dst
      (List.range 8).foldl (fun s w => s.setCtWord t (i - 1) w (BitVec.ofNat 32 (a.getD w 0))) s
    else (s.setCtWord t i 0 (BitVec.ofNat 32 k.src)).setCtWord t i 1 (BitVec.ofNat 32 k.dst)
  let s := (s.setCtWord t i 2 (BitVec.ofNat 32 (k.sport + k.dport * 65536))).setCtWord t i 3 (BitVec.ofNat 32 w3)
  let s := ((s.setCtWord t i 4 (BitVec.ofNat 32 (s.seenNow t))).setCtWord t i 5 0).setCtWord t i 6 0
  let s := s.setCtWord t i 7 (BitVec.ofNat 32 (k.vid + 2 ^ 31))
  let s := s.put t fCtUsed (s.get t fCtUsed + (if k.v6 then 2 else 1))
  s.onSw (fun w => { w with ctFin := SMap.set 0 w.ctFin (t * 65536 + i) 0 })

/-- Free the connection whose fields lie in slot i. -/
def Pkg.ctClear (s : Pkg) (t i : Nat) : Pkg :=
  let v6 := s.ctV6 t i
  let s := if v6 then (List.range 8).foldl (fun s w => s.setCtWord t (i - 1) w 0) s else s
  let s := (List.range 8).foldl (fun s w => s.setCtWord t i w 0) s
  s.put t fCtUsed (s.get t fCtUsed - (if v6 then 2 else 1))

/-- Connection states (Table 3-11). -/
def Pkg.ctState (s : Pkg) (t i : Nat) : Nat := fieldGet (s.ctWord t i 3) 18 16
def Pkg.setCtState (s : Pkg) (t i v : Nat) : Pkg := s.setCtWord t i 3 (fieldSet (s.ctWord t i 3) 18 16 v)

/-- The idle timeout of an entry in s (Table 3-11, Table 3-13). -/
def Pkg.ctTimeout (s : Pkg) (t proto st : Nat) : Nat :=
  if 2 ≤ st then s.get t ⟨0x40000C, 15, 8⟩
  else if proto = 6 then (if st = 0 then s.get t ⟨0x40000C, 7, 0⟩ else s.get t ⟨0x400010, 15, 0⟩)
  else if proto = 17 then s.get t ⟨0x40000C, 23, 16⟩ else s.get t ⟨0x40000C, 31, 24⟩

/-- CT_AGING (R100): the aging engine visits slot n mod 65,536 and frees its entry once package time passes LAST_SEEN plus the
timeout of its state; a visit of either half of an IPv6 pair is a visit of its entry. LAST_SEEN holds bits [51:20] of package time, so the idle time is
taken modulo 2⁵² ns. -/
def ctAging (tile n : Nat) (s : Pkg) : Pkg :=
  (s.reach (us n)).when (s.tileOn tile) (fun s =>
    let v := n % 65536
    let i := if s.ctEven tile v then v + 1 else v
    let idle := (us n + 2 ^ 52 - (s.ctWord tile i 4).toNat * 2 ^ 20) % 2 ^ 52
    let due := s.ctTimeout tile (fieldGet (s.ctWord tile i 3) 7 0) (s.ctState tile i) * 1000000000
    if s.ctValid tile i ∧ fieldGet (s.ctWord tile i 3) 20 20 = 0 ∧ due < idle then (s.ctClear tile i).bump tile 0x400248 else s)

/-- What the firewall reads of a frame (R98, R99): its key and, for TCP, its flags. -/
structure ConnInfo where
  key   : ConnKey
  flags : Nat := 0

/-- The key of a frame (R99), or none when it is UNTRACKABLE (R98). -/
def connInfo (bs : List Byte) (p : Parse) : Option ConnInfo :=
  let isIp := fun (h : Hdr) => h.kind == kIpv4 || h.kind == kIpv6
  match p.hdrs.reverse.find? isIp with
  | none => none
  | some ip =>
    if beAt bs 0 1 % 2 = 1 then none
    else
      let after := p.hdrs.filter (fun h => ip.off < h.off)
      let v6 := ip.kind == kIpv6
      let exts := after.takeWhile (fun h => h.kind == kIpv6Ext || h.kind == kIpv6Frag)
      let next := (after.drop (if v6 then exts.length else 0)).head?
      let src := if v6 then beAt bs (ip.off + 8) 16 else beAt bs (ip.off + 12) 4
      let dst := if v6 then beAt bs (ip.off + 24) 16 else beAt bs (ip.off + 16) 4
      let proto := if v6 then (match exts.getLast? with | some e => beAt bs e.off 1 | none => beAt bs (ip.off + 6) 1)
        else beAt bs (ip.off + 9) 1
      let group := if v6 then dst / 2 ^ 120 == 0xFF else dst / 2 ^ 28 == 0xE || dst == 0xFFFFFFFF
      let want := if proto = 6 then some kTcp else if proto = 17 then some kUdp else if proto = 1 ∨ proto = 58 then some kIcmp else none
      let vid := outerVid bs p.hdrs
      if group then none
      else match want, next with
        | none, _ => some { key := ⟨v6, src, dst, 0, 0, proto, vid⟩ }
        | some _, none => none
        | some k, some h =>
          if h.kind ≠ k then none
          else if k = kIcmp then some { key := ⟨v6, src, dst, beAt bs (h.off + 4) 2, 0, proto, vid⟩ }
          else some { key := ⟨v6, src, dst, beAt bs h.off 2, beAt bs (h.off + 2) 2, proto, vid⟩
                      flags := if k = kTcp then beAt bs (h.off + 13) 1 else 0 }

/-- TCP flag bits. -/
def hasFin (f : Nat) : Bool := f.testBit 0
def hasSyn (f : Nat) : Bool := f.testBit 1
def hasRst (f : Nat) : Bool := f.testBit 2
def hasAck (f : Nat) : Bool := f.testBit 4

/-- A deny with its reason of PR_FW_DENY (R98): 0 ZONE, 1 CT_NO_STATE, 2 CT_FULL, 3 CT_FLAGS, 4 UNTRACKABLE. -/
inductive Judged where
  | pass
  | deny (reason : Nat)
deriving DecidableEq, Repr

/-- Whether a frame is allowed by its connection's state in its direction (Table 3-11). -/
def stateAllows (st : Nat) (tcp initiator : Bool) (flags : Nat) : Bool :=
  if st = 3 then initiator && tcp && hasSyn flags && !hasAck flags
  else if st = 0 && !initiator && tcp then hasSyn flags && hasAck flags
  else true

/-- The connection's state after a frame it allowed (Table 3-11, R99), with the sides whose FIN it has seen (bit 0 the initiator's,
bit 1 the responder's). -/
def stateAfter (st fins : Nat) (tcp initiator : Bool) (flags : Nat) : Nat × Nat :=
  if !tcp then ((if st = 0 && !initiator then 1 else st), fins)
  else if hasRst flags then (3, fins)
  else
    let start : Nat × Nat := if st = 3 then (0, 0) else if st = 0 && !initiator then (1, fins) else (st, fins)
    if hasFin flags then
      let mine := if initiator then 1 else 2
      let other := if initiator then 2 else 1
      let fins' := Nat.lor start.2 mine
      if start.1 = 2 ∧ Nat.land start.2 other ≠ 0 then (3, fins')
      else if start.1 < 2 then (2, fins') else (start.1, fins')
    else start

/-- Apply a passing frame to its connection: state, LAST_SEEN, and its direction's frame count, saturating (Table 3-12). -/
def Pkg.ctTouch (s : Pkg) (t i : Nat) (initiator : Bool) (flags : Nat) : Pkg :=
  let tcp := fieldGet (s.ctWord t i 3) 7 0 == 6
  let fins := SMap.get 0 s.sw.ctFin (t * 65536 + i)
  let r := stateAfter (s.ctState t i) fins tcp initiator flags
  let s := s.setCtState t i r.1
  let s := s.setCtWord t i 4 (BitVec.ofNat 32 (s.seenNow t))
  let w := if initiator then 5 else 6
  let c := (s.ctWord t i w).toNat
  let s := s.setCtWord t i w (BitVec.ofNat 32 (min (c + 1) 0xFFFFFFFF))
  s.onSw (fun x => { x with ctFin := SMap.set 0 x.ctFin (t * 65536 + i) r.2 })

/-- The firewall profile in effect on a tile (R97, Table 10-1): QUARANTINE when forced, SERVICE in PROVISION, else SELECT. -/
def Pkg.profile (s : Pkg) (t : Nat) : Nat :=
  if s.get t ⟨0x400008, 4, 4⟩ = 1 then 3
  else if s.modeNow = mProvision then 2 else s.get t ⟨0x400008, 1, 0⟩

/-- The matrix entry for a pair of zones (R96); a profile the image does not hold denies. -/
def Pkg.fwEntry (s : Pkg) (t zin zout : Nat) : Nat :=
  SMap.get 0 (s.sw.shape.profiles.getD (s.profile t) []) (zin * 16 + zout)

/-- The zone of a local port (R96). -/
def Pkg.zoneOf (s : Pkg) (port : Nat) : Nat := SMap.get 0 s.sw.shape.zones port

/-- Judge one forwarded copy (R96, R98, R101): under REPLY the connection the frame belongs to as responder; under TRACK one of its ingress zone, as
initiator before as responder. DEDUCED: a frame whose connections are all of another zone creates none and is denied as CT_NO_STATE (see the log). `touched`: an earlier copy of the same frame passed on this frame's connection, and in
which direction it belongs (true: as initiator); one frame updates its connection once. -/
def Pkg.judge (s : Pkg) (t zin zout : Nat) (bs : List Byte) (p : Parse) (touched : Option Bool) : Pkg × Judged × Option Bool :=
  match s.fwEntry t zin zout with
  | 0 => (s, .deny 0, touched)
  | 1 => (s, .pass, touched)
  | e =>
    match connInfo bs p with
    | none => (s, .deny 4, touched)
    | some f =>
      let tcp := f.key.proto == 6
      let asIni := s.ctFind t f.key
      let asRsp := s.ctFind t f.key.swap
      let here := fun (o : Option Nat) => o.filter (fun i => fieldGet (s.ctWord t i 3) 11 8 == zin)
      let found : Option (Nat × Bool) :=
        if e = 3 then asRsp.map (·, false) else ((here asIni).map (·, true)).or ((here asRsp).map (·, false))
      match found with
      | some (i, ini) =>
        if touched = some ini then (s, .pass, touched)
        else if stateAllows (s.ctState t i) tcp ini f.flags then
          (if touched.isSome then (s, .pass, touched) else (s.ctTouch t i ini f.flags, .pass, some ini))
        else (s, .deny 3, touched)
      | none =>
        if e = 3 ∨ asIni.isSome ∨ asRsp.isSome then (s, .deny 1, touched)
        else if tcp && !(hasSyn f.flags && !hasAck f.flags) then (s, .deny 1, touched)
        else
          match s.ctPlace t f.key with
          | none => (s, .deny 2, touched)
          | some i =>
            let s := (s.ctFill t i f.key zin zout 0 false).bump t 0x400240
            (s.setCtWord t i 5 1, .pass, some true)

/-- Count a deny in PR_FW_DENY. -/
def Pkg.countDeny (s : Pkg) (t r : Nat) : Pkg := s.bump t (0x400200 + 8 * r)

/-! ### The command port (R103) -/

/-- PR_CT_DATA word d. -/
def Pkg.ctData (s : Pkg) (t d : Nat) : Word := s.rd t (0x400020 + 4 * d)
def Pkg.setCtData (s : Pkg) (t d : Nat) (v : Word) : Pkg := s.wr t (0x400020 + 4 * d) v

/-- Four data words as one number, the first most significant. -/
def Pkg.ctData4 (s : Pkg) (t d : Nat) : Nat :=
  (s.ctData t d).toNat * 2 ^ 96 + (s.ctData t (d + 1)).toNat * 2 ^ 64 + (s.ctData t (d + 2)).toNat * 2 ^ 32 + (s.ctData t (d + 3)).toNat

/-- The key the data registers hold. -/
def Pkg.ctDataKey (s : Pkg) (t : Nat) : ConnKey :=
  let v6 := fieldGet (s.ctData t 3) 19 19 == 1
  { v6 := v6
    src := if v6 then s.ctData4 t 8 else (s.ctData t 0).toNat
    dst := if v6 then s.ctData4 t 12 else (s.ctData t 1).toNat
    sport := fieldGet (s.ctData t 2) 15 0, dport := fieldGet (s.ctData t 2) 31 16
    proto := fieldGet (s.ctData t 3) 7 0, vid := fieldGet (s.ctData t 7) 11 0 }

/-- The result of a command: CODE, SLOT and DONE (Table 3-13); the slot of an IPv6 entry is its even slot. -/
def Pkg.ctResult (s : Pkg) (t code slot : Nat) : Pkg :=
  ((s.put t ⟨0x400064, 2, 0⟩ code).put t ⟨0x400064, 18, 3⟩ slot).raise t ⟨0x400064, 31, 31⟩

/-- The slot reported for a connection whose fields lie in slot i. -/
def ctSlotOf (v6 : Bool) (i : Nat) : Nat := if v6 then i - 1 else i

/-- INSERT (R103): EXISTS, FULL, or the entry is added with LAST_SEEN now and both frame counts 0. An INSERT whose data hold STATE
4–7 is out of shape and runs nothing. -/
def ctInsertEff (r : Req) (tile : Nat) (s : Pkg) : Pkg :=
  let w3 := s.ctData tile 3
  let k := s.ctDataKey tile
  if 4 ≤ fieldGet w3 18 16 then s.cfgErr r tile cOutOfShape (pkgAddr tile 0x400060)
  else match s.ctFind tile k with
    | some i => s.ctResult tile 1 (ctSlotOf k.v6 i)
    | none =>
      match s.ctPlace tile k with
      | none => s.ctResult tile 2 (s.get tile ⟨0x400064, 18, 3⟩)
      | some i =>
        (s.ctFill tile i k (fieldGet w3 11 8) (fieldGet w3 15 12) (fieldGet w3 18 16) (fieldGet w3 20 20 == 1)).ctResult tile 0
          (ctSlotOf k.v6 i)

/-- DELETE (R103). -/
def ctDeleteEff (tile : Nat) (s : Pkg) : Pkg :=
  let k := s.ctDataKey tile
  match s.ctFind tile k with
  | some i => (s.ctClear tile i).ctResult tile 0 (ctSlotOf k.v6 i)
  | none => s.ctResult tile 3 (s.get tile ⟨0x400064, 18, 3⟩)

/-- LOOKUP (R103): the entry is copied into the data registers. -/
def ctLookupEff (tile : Nat) (s : Pkg) : Pkg :=
  let k := s.ctDataKey tile
  match s.ctFind tile k with
  | some i =>
    let s' := (List.range 8).foldl (fun x w => x.setCtData tile w (s.ctWord tile i w)) s
    let s' := if k.v6 then (List.range 8).foldl (fun x w => x.setCtData tile (8 + w) (s.ctWord tile (i - 1) w)) s' else s'
    s'.ctResult tile 0 (ctSlotOf k.v6 i)
  | none => s.ctResult tile 3 (s.get tile ⟨0x400064, 18, 3⟩)

end Sys2Proof.Machine
end

