-- ==== Sys2Proof/Machine/Macsec.lean ====
section
/-! DEFINITION. MACsec at the ports (R73–R75, R280). The SecTAG, its short length, the initial value and the additional data
follow IEEE 802.1AE, which R75 names (PRESUMED). -/
namespace Sys2Proof.Machine

/-- MS_RX_PORT_CFG and the transmit words of port n (Tables 3-2 and 9-15). -/
def fRxMsEnable (n : Nat) : Fld := ⟨0x1000000 + 0x40 * n, 0, 0⟩
def fRxMsValidate (n : Nat) : Fld := ⟨0x1000000 + 0x40 * n, 2, 1⟩
def fRxMsOffset (n : Nat) : Fld := ⟨0x1000000 + 0x40 * n, 4, 3⟩
def fRxMsReplay (n : Nat) : Fld := ⟨0x1000000 + 0x40 * n, 5, 5⟩
def fRxMsWindow (n : Nat) : Fld := ⟨0x1000004 + 0x40 * n, 29, 0⟩
def fTxMsEnable (n : Nat) : Fld := ⟨0x1000400 + 0x40 * n, 0, 0⟩
def fTxMsSuite (n : Nat) : Fld := ⟨0x1000400 + 0x40 * n, 2, 1⟩
def fTxMsOffset (n : Nat) : Fld := ⟨0x1000400 + 0x40 * n, 4, 3⟩
def fTxMsConf (n : Nat) : Fld := ⟨0x1000400 + 0x40 * n, 5, 5⟩
def fTxMsAn (n : Nat) : Fld := ⟨0x1000400 + 0x40 * n, 7, 6⟩
def fLeaseOk : Fld := ⟨0x1000800, 0, 0⟩
def fMsZeroised : Fld := ⟨0x1000800, 1, 1⟩
def fMsRvSeq : Fld := ⟨0x1000800, 31, 16⟩

/-- Table memory of secure channels and associations (R292). -/
def rxScOff (n s : Nat) : Nat := 0x3930000 + (n * 64 + s) * 16
def rxSaOff (n s a : Nat) : Nat := 0x3900000 + ((n * 64 + s) * 4 + a) * 32
def txSaOff (n a : Nat) : Nat := 0x3920000 + (n * 4 + a) * 32

/-- The key of an association (R278, R280): the association is VALID, KEY_READY and not REVOKED, and the cache holds its slot and its
lease (R276). -/
def Pkg.saKey (s : Pkg) (t off : Nat) : Option (List Byte) :=
  let w0 := s.rd t off
  let w7 := s.rd t (off + 28)
  if fieldGet w0 31 31 = 1 ∧ fieldGet w7 0 0 = 1 ∧ fieldGet w7 1 1 = 0 ∧ s.on t fLeaseOk then
    ((SMap.get [] s.macKeys t).find? (fun k => k.slot == fieldGet w0 11 0)).map (·.key)
  else none

/-- PN of an association (Table 9-6): words 1 and 2. -/
def Pkg.saPn (s : Pkg) (t off : Nat) : Nat := s.rd64 t (off + 4)
def Pkg.setSaPn (s : Pkg) (t off v : Nat) : Pkg :=
  (s.wr t (off + 4) (BitVec.ofNat 32 v)).wr t (off + 8) (BitVec.ofNat 32 (v / 2 ^ 32))

/-- The SALT of an association as 12 bytes (Table 9-6, words 4–6, little-endian words R13). -/
def Pkg.saSalt (s : Pkg) (t off : Nat) : Nat :=
  (s.rd t (off + 16)).toNat + (s.rd t (off + 20)).toNat * 2 ^ 32 + (s.rd t (off + 24)).toNat * 2 ^ 64

/-- The initial value: SCI and PN, or for XPN suites SALT xor (SSCI, PN) (IEEE 802.1AE). -/
def Pkg.saIv (s : Pkg) (t off suite sci pn : Nat) : List Byte :=
  if suite < 2 then beBytes 8 sci ++ beBytes 4 (pn % 2 ^ 32)
  else beBytes 12 (Nat.xor (s.saSalt t off) ((s.rd t (off + 12)).toNat * 2 ^ 64 + pn))

/-- Confidentiality offset in bytes (Table 3-2). -/
def confOffset (v : Nat) : Nat := if v = 1 then 30 else if v = 2 then 50 else 0

/-- What MACsec makes of an arriving frame (R73, R74): the frame the parser sees, whether it is SECURED, its channel; or a discard. -/
inductive MacsecRx where
  | frame (bytes : List Byte) (secured : Bool) (sc : Nat)
  | discard
  | revoked
deriving DecidableEq, Repr

/-- The receive channel of an SCI on a port (R75). -/
def Pkg.findSc (s : Pkg) (t n sci : Nat) : Option Nat :=
  (List.range 64).find? (fun c =>
    fieldGet (s.rd t (rxScOff n c + 8)) 31 31 == 1 && (s.rd t (rxScOff n c)).toNat * 2 ^ 32 + (s.rd t (rxScOff n c + 4)).toNat == sci)

/-- The packet number a received frame carries, with its upper half recovered for XPN suites (IEEE 802.1AE). -/
def fullPn (suite low lowest : Nat) : Nat :=
  if suite < 2 then low
  else
    let hi := lowest / 2 ^ 32
    if 2 ^ 31 ≤ lowest % 2 ^ 32 ∧ low < 2 ^ 31 then (hi + 1) * 2 ^ 32 + low else hi * 2 ^ 32 + low

/-- MACsec verification and decryption of a frame that arrives at port n (R73–R75, R280). -/
def Pkg.macsecRx (s : Pkg) (t n : Nat) (bs : List Byte) : Pkg × MacsecRx :=
  let validate := s.get t (fRxMsValidate n)
  let ty := beAt bs 12 2
  if !s.on t (fRxMsEnable n) ∨ ty = 0x888E then (s, .frame bs false 0)
  else if ty ≠ 0x88E5 ∨ validate = 0 then
    (if validate = 2 then (s, .discard) else (s, .frame bs false 0))
  else
    let tci := beAt bs 14 1
    let hasSci := tci.testBit 5
    let hdr := if hasSci then 28 else 20
    let pnLow := beAt bs 16 4
    let sci := if hasSci then beAt bs 20 8 else beAt bs 6 6 * 65536 + 1
    let encrypted := tci.testBit 3
    -- SL: a short frame's secure data, behind which the MAC may have padded
    let sl := beAt bs 15 1 % 64
    let plainLen := if sl = 0 then bs.length - hdr - 16 else sl
    let body := (bs.drop hdr).take (plainLen + 16)
    let odd : Bool := tci.testBit 7 || 64 ≤ beAt bs 15 1 || 48 ≤ sl || (hasSci && (tci.testBit 6 || tci.testBit 4))
    if odd ∨ body.length < plainLen + 16 ∨ bs.length < hdr + 16 then (s, .discard)
    else
      match s.findSc t n sci with
      | none =>
        if validate = 2 ∨ tci.testBit 2 then (s, .discard)
        else (s, .frame (bs.take 12 ++ body.take plainLen) false 0)
      | some c =>
        let off := rxSaOff n c (tci % 4)
        let suite := fieldGet (s.rd t (rxScOff n c + 8)) 1 0
        let lowest := s.saPn t off
        let pn := fullPn suite pnLow lowest
        if fieldGet (s.rd t (off + 28)) 1 1 = 1 then (s, .revoked)
        else if suite < 2 ∧ pnLow = 0 then (s, .discard)
        else match s.saKey t off with
          | none => (s, .discard)
          | some key =>
            let co := if encrypted then min (confOffset (s.get t (fRxMsOffset n))) plainLen else plainLen
            let aad := bs.take hdr ++ body.take co
            match gcmOpen key (s.saIv t off suite sci pn) aad (body.drop co) with
            | none => (s, .discard)
            | some pt =>
              if s.on t (fRxMsReplay n) ∧ pn < lowest then (s, .discard)
              else
                let next := pn + 1 - (if s.on t (fRxMsReplay n) then s.get t (fRxMsWindow n) else 0)
                (s.setSaPn t off (max lowest next), .frame (bs.take 12 ++ body.take co ++ pt) true c)

/-- The transmitting association of a port is ready (R280). -/
def Pkg.txSaReady (s : Pkg) (t n : Nat) : Bool :=
  !s.on t (fTxMsEnable n) || (s.saKey t (txSaOff n (s.get t (fTxMsAn n)))).isSome

/-- A port's controlled port is down (R280). EAPOL frames use the uncontrolled port (IEEE 802.1X). -/
def Pkg.ctrlPortDown (s : Pkg) (t n : Nat) (bs : List Byte) : Bool :=
  n < 16 && !s.txSaReady t n && beAt bs 12 2 != 0x888E

/-- MACsec protection of a frame that leaves port n: SecTAG with the SCI, secure data, ICV, 32 bytes in all. -/
def Pkg.macsecTx (s : Pkg) (t n : Nat) (bs : List Byte) : Pkg × List Byte :=
  if !s.on t (fTxMsEnable n) || beAt bs 12 2 == 0x888E then (s, bs)
  else
    let an := s.get t (fTxMsAn n)
    let off := txSaOff n an
    match s.saKey t off with
    | none => (s, bs)
    | some key =>
      let pn := s.saPn t off
      let suite := s.get t (fTxMsSuite n)
      let conf := s.on t (fTxMsConf n)
      let sci := s.rd64 t (0x1000404 + 0x40 * n)
      let data := bs.drop 12
      let tci := 32 + (if conf then 12 else 0) + an
      let sl := if data.length < 48 then data.length else 0
      let tag := beBytes 2 0x88E5 ++ beBytes 1 tci ++ beBytes 1 sl ++ beBytes 4 (pn % 2 ^ 32) ++ beBytes 8 sci
      let co := if conf then min (confOffset (s.get t (fTxMsOffset n))) data.length else data.length
      let sealed := gcmSeal key (s.saIv t off suite sci pn) (bs.take 12 ++ tag ++ data.take co) (data.drop co)
      (s.setSaPn t off (pn + 1), bs.take 12 ++ tag ++ data.take co ++ sealed)

end Sys2Proof.Machine
end

