-- ==== Sys2Proof/Machine/Cells.lean ====
section
/-! DEFINITION. Ports, cells and accounts: charging, release, back-pressure, discards (R106–R116, R134). -/
namespace Sys2Proof.Machine

/-! ### Ports and their registers (Table 4-8) -/

def qKey (t p q : Nat) : Nat := t * 256 + p * 8 + q
def pKey (t p : Nat) : Nat := t * 32 + p

/-- A field of the SW port block of port n. -/
def portFld (n off hi lo : Nat) : Fld := ⟨0x810000 + n * 0x200 + off, hi, lo⟩
def fPresent (n : Nat) : Fld := portFld n 0 0 0
def fPortMode (n : Nat) : Fld := portFld n 0 9 6
def fCutThrough (n : Nat) : Fld := portFld n 4 0 0
def fPauseTx (n : Nat) : Fld := portFld n 4 1 1
def fPauseRx (n : Nat) : Fld := portFld n 4 2 2
def fPfcTx (n : Nat) : Fld := portFld n 4 11 4
def fPfcRx (n : Nat) : Fld := portFld n 4 19 12
def fMirRxEn (n : Nat) : Fld := portFld n 4 20 20
def fMirTxEn (n : Nat) : Fld := portFld n 4 21 21
def fMirRx (n : Nat) : Fld := portFld n 4 25 22
def fMirTx (n : Nat) : Fld := portFld n 4 29 26
def fMaxFrame (n : Nat) : Fld := portFld n 8 13 0
def fLinkUp (n : Nat) : Fld := portFld n 0xC 0 0
def fPausedRx (n : Nat) : Fld := portFld n 0xC 15 8
def fXoffTx (n : Nat) : Fld := portFld n 0xC 23 16
def fStalled (n : Nat) : Fld := portFld n 0xC 31 24
def fMin (n c : Nat) : Fld := portFld n (0x40 + 0x10 * c) 14 0
def fMax (n c : Nat) : Fld := portFld n (0x40 + 0x10 * c) 30 16
def fXoff (n c : Nat) : Fld := portFld n (0x44 + 0x10 * c) 14 0
def fXon (n c : Nat) : Fld := portFld n (0x44 + 0x10 * c) 30 16
def fHeadroom (n c : Nat) : Fld := portFld n (0x48 + 0x10 * c) 14 0
def fOcc (n c : Nat) : Fld := portFld n (0x4C + 0x10 * c) 14 0
def fHrUsed (n c : Nat) : Fld := portFld n (0x4C + 0x10 * c) 30 16
def fEgLimit (n q : Nat) : Fld := portFld n (0xC0 + 0x10 * q) 14 0
def fSpillEn (n q : Nat) : Fld := portFld n (0xC0 + 0x10 * q) 15 15
def fSpillAt (n q : Nat) : Fld := portFld n (0xC0 + 0x10 * q) 30 16
def fSpillMax (n q : Nat) : Fld := portFld n (0xC4 + 0x10 * q) 23 0
def fRecircRsv : Fld := ⟨0x800004, 14, 0⟩
def fMirrorRsv : Fld := ⟨0x800004, 30, 16⟩
def fShared : Fld := ⟨0x800008, 14, 0⟩
def fOvfCells : Fld := ⟨0x800010, 23, 0⟩
def fOvfPresent : Fld := ⟨0x800010, 31, 31⟩
def fHoldUs : Fld := ⟨0x800018, 13, 0⟩
def fStallMs : Fld := ⟨0x80001C, 9, 0⟩
def fWdEnable : Fld := ⟨0x80001C, 16, 16⟩
def fStallEvt : Fld := ⟨0x800020, 27, 0⟩
def oDisc (code : Nat) : Nat := 0x800100 + 8 * code
def oMcPartial : Nat := 0x800200
def oMcCopies : Nat := 0x800208
def oCtStomp : Nat := 0x800210
def oSpillFrames : Nat := 0x800218
def oCutThrough : Nat := 0x800220
def oRxDisc (n : Nat) : Nat := 0x810140 + n * 0x200
def oTxDisc (n : Nat) : Nat := 0x810148 + n * 0x200
def oPauseTx (n : Nat) : Nat := 0x810150 + n * 0x200
def oPauseRx (n : Nat) : Nat := 0x810158 + n * 0x200
def oStalls (n : Nat) : Nat := 0x810160 + n * 0x200
def oSpilled (n : Nat) : Nat := 0x810168 + n * 0x200
def oCut (n : Nat) : Nat := 0x810170 + n * 0x200

/-- A port with a MAC (R72): local ports 0–15, and 24–27 on tile 0. -/
def macPort (t p : Nat) : Bool := p < 16 || (t == 0 && 24 ≤ p && p < 28)

/-- The local ports a tile may have (R20, R106): 0–16, 20–23, and on tile 0 24–27. The others are reserved. -/
def portNumber (t p : Nat) : Bool := p ≤ 16 || (20 ≤ p && p ≤ 23) || (t == 0 && 24 ≤ p && p < 28)

/-- A port exists (R20, SW_PORT_INFO.PRESENT). -/
def Pkg.hasPort (s : Pkg) (t p : Nat) : Bool := portNumber t p && s.on t (fPresent p)

/-- A port's link is up; the internal ports have none to lose. -/
def Pkg.linkUp (s : Pkg) (t p : Nat) : Bool :=
  !macPort t p || (s.on t (fLinkUp p) && (p < 24 || (s.steward == 0 && ((s.tetherSt 0).up || (s.tetherSt 1).up))))

/-- The port's hidden state. -/
def Pkg.port (s : Pkg) (t p : Nat) : PortSt := SMap.get {} s.sw.ports (pKey t p)
def Pkg.setPort (s : Pkg) (t p : Nat) (x : PortSt) : Pkg := s.onSw (fun w => { w with ports := SMap.set {} w.ports (pKey t p) x })

/-- The port rate of Table 4-1, in kbit/s. -/
def Pkg.portRate (s : Pkg) (t p : Nat) : Nat :=
  match s.get t (fPortMode p) with
  | 1 => (s.port t p).mbps * 1000
  | 2 => 1000000
  | 3 => 2500000
  | 4 => 5000000
  | 5 => 10000000
  | 6 => 2500000
  | 7 => 25000000
  | _ => if p = 16 then 50000000 else if p = 20 ∨ p = 21 then 10000000 else if p = 22 then 25000000
         else if p = 23 then 100000000 else 10000

/-- The class type of a traffic class (R139): 0 STANDARD, 1 LOSSLESS, 2 WINDOW-FRESH. -/
def Pkg.classType (s : Pkg) (t c : Nat) : Nat := s.get t ⟨0xC00000, 2 * c + 1, 2 * c⟩
def Pkg.windowFresh (s : Pkg) (t c : Nat) : Bool := s.classType t c == 2

/-- Cells of a frame of n bytes as received, FCS included (R107). -/
def cellsOf (n : Nat) : Nat := ceilDiv n 256

/-! ### Discards (R134) -/

/-- Count a discard with a reason of Table 4-5: SW_DISC_CNT of the tile, and the ingress port's RX_DISC (codes 1–9 and 19) or the
egress port's TX_DISC. -/
def Pkg.discard (s : Pkg) (t code port : Nat) : Pkg :=
  (s.bump t (oDisc code)).bump t (if code ≤ 9 ∨ code = 19 then oRxDisc port else oTxDisc port)

/-! ### Accounts (R109, R112) -/

def Pkg.acct (s : Pkg) (t p c : Nat) : AcctUse := SMap.get {} s.sw.acct (qKey t p c)
def Pkg.setAcct (s : Pkg) (t p c : Nat) (x : AcctUse) : Pkg := s.onSw (fun w => { w with acct := SMap.set {} w.acct (qKey t p c) x })
def Pkg.pool (s : Pkg) (t : Nat) : PoolUse := SMap.get {} s.sw.pool t
def Pkg.setPool (s : Pkg) (t : Nat) (x : PoolUse) : Pkg := s.onSw (fun w => { w with pool := SMap.set {} w.pool t x })

/-- SW_PORT_OCC: cells charged to an account. -/
def AcctUse.occ (a : AcctUse) : Nat := a.min + a.shared + a.head

/-- Shared cells free on a tile (SW_POOL.FREE_SHARED). -/
def Pkg.freeShared (s : Pkg) (t : Nat) : Nat := s.get t fShared - (s.pool t).shared

/-- The source address of a port's PFC and pause frames (R112). -/
def Pkg.portMac (s : Pkg) (t p : Nat) : Nat := (s.rd t (0x810010 + p * 0x200)).toNat * 65536 + s.get t (portFld p 0x14 15 0)

/-- Bit c of XOFF_TX: class c of the port holds XOFF. -/
def Pkg.holdsXoff (s : Pkg) (t p c : Nat) : Bool := (s.get t (fXoffTx p)).testBit c
def Pkg.setXoffBit (s : Pkg) (t p c : Nat) (b : Bool) : Pkg :=
  let v := s.get t (fXoffTx p)
  s.put t (fXoffTx p) (if b then Nat.lor v (2 ^ c) else v - (if v.testBit c then 2 ^ c else 0))

/-- The port sends PFC for class c (R112). -/
def Pkg.pfcClass (s : Pkg) (t p c : Nat) : Bool := (s.get t (fPfcTx p)).testBit c

/-- The classes of a port that hold XOFF with PFC_TX clear keep the port paused (R112). A WINDOW-FRESH class never pauses its source (R116). -/
def Pkg.pauseHeld (s : Pkg) (t p : Nat) : Bool :=
  s.on t (fPauseTx p) && (List.range 8).any (fun c => s.holdsXoff t p c && !s.pfcClass t p c && !s.windowFresh t c)

/-- A MAC control frame leaves at the next frame boundary (R112): at once on an idle transmitter, else after the frame in transmission. -/
def Pkg.sendControl (s : Pkg) (t p : Nat) (e : OutEv) : Pkg :=
  if (s.port t p).tx.isNone then (s.emit e).bump t (oPauseTx p) else s.setPort t p { s.port t p with control := (s.port t p).control ++ [e] }

/-- A frame boundary: the MAC control frames that waited for it leave. -/
def Pkg.flushControl (s : Pkg) (t p : Nat) : Pkg :=
  let l := (s.port t p).control
  if l.isEmpty then s
  else l.foldl (fun s e => (s.emit e).bump t (oPauseTx p)) (s.setPort t p { s.port t p with control := [] })

/-- Note when PFC of class c, or (c = 8) the pause, was last sent. -/
def Pkg.noteSent (s : Pkg) (t p c : Nat) : Pkg := s.setPort t p { s.port t p with pauseSent := SMap.set 0 (s.port t p).pauseSent c s.now }

/-- Send a PFC frame for class c with a quanta, or an 802.3 pause frame, and count it. -/
def Pkg.sendPfc (s : Pkg) (t p c quanta : Nat) : Pkg :=
  (s.sendControl t p (.pfc t p (s.portMac t p) (2 ^ c) ((List.range 8).map (fun i => if i = c then quanta else 0)))).noteSent t p c
def Pkg.sendPause (s : Pkg) (t p quanta : Nat) : Pkg := (s.sendControl t p (.pause t p (s.portMac t p) quanta)).noteSent t p 8

/-- XOFF is due on an account (R112): its occupancy has reached XOFF (0: threshold off), or it holds a headroom cell; while a structure
activation pauses forwarding, on every class with pause or PFC enabled (R395). -/
def Pkg.xoffDue (s : Pkg) (t p c : Nat) : Bool :=
  let a := s.acct t p c
  (s.get t (fXoff p c) != 0 && s.get t (fXoff p c) ≤ a.occ) || a.head != 0 || (s.pausing && (s.pfcClass t p c || s.on t (fPauseTx p)))

/-- Bring an account's XOFF up to date (R112), sending PFC or pause on assertion and quanta 0 at release. A WINDOW-FRESH class asserts
XOFF too but is never paused upstream (R116); ports 16, 20 and 21 are flow-controlled by credit, which XOFF stops, and send nothing
(R115). -/
def Pkg.updXoff (s : Pkg) (t p c : Nat) : Pkg :=
  let a := s.acct t p c
  let silent : Bool := !macPort t p || s.windowFresh t c
  if !s.holdsXoff t p c then
    if s.xoffDue t p c then
      let paused := s.pauseHeld t p
      let s := s.setXoffBit t p c true
      if silent then s
      else if s.pfcClass t p c then s.sendPfc t p c 0xFFFF
      else if s.on t (fPauseTx p) ∧ !paused then s.sendPause t p 0xFFFF else s
    else s
  else if a.occ ≤ s.get t (fXon p c) ∧ a.head = 0 ∧ !s.xoffDue t p c then
    let s := s.setXoffBit t p c false
    if silent then s
    else if s.pfcClass t p c then s.sendPfc t p c 0
    else if s.on t (fPauseTx p) ∧ !s.pauseHeld t p then s.sendPause t p 0 else s
  else s

/-- What n cells draw from MIN, the shared pool up to MAX, and HEADROOM, in that order (R109); none: they do not fit. -/
def Pkg.drawable (s : Pkg) (t p c n : Nat) : Option AcctUse :=
  let a := s.acct t p c
  let m := min n (s.get t (fMin p c) - a.min)
  let sh := min (n - m) (min (s.get t (fMax p c) - a.shared) (s.freeShared t))
  let h := n - m - sh
  if h ≤ s.get t (fHeadroom p c) - a.head then some ⟨m, sh, h⟩ else none

/-- The allocator's turn on a tile in the present clock (R111): a new clock starts after the writer that was last in the order of the one before. -/
def Pkg.drawTurn (s : Pkg) (t : Nat) : DrawTurn :=
  let d := SMap.get {} s.sw.draws t
  if d.clock = s.now then d
  else
    let rank : Nat × Nat → Nat := fun e => (e.1 + 27 - d.last) % 28
    { clock := s.now, last := (d.drew.foldl (fun (b : Nat × Nat) e => if b.1 ≤ rank e then (rank e, e.1) else b) (0, d.last)).2 }

/-- Draw n cells for a frame that arrives at port p in class c; none: INGRESS_OVERRUN (R114). -/
def Pkg.drawCells (s : Pkg) (t p c n : Nat) : Option (Pkg × Charge) :=
  match s.drawable t p c n with
  | none => none
  | some d =>
    let a := s.acct t p c
    let s := s.setAcct t p c ⟨a.min + d.min, a.shared + d.shared, a.head + d.head⟩
    let s := s.setPool t { s.pool t with shared := (s.pool t).shared + d.shared }
    some (s.updXoff t p c, { kind := .account, port := p, tc := c, min := d.min, shared := d.shared, head := d.head })

/-! ### Span credit (R125) -/

/-- Span-minimum cells in use at (tile, arriving span port, class), and shared cells a (tile, source tile, class) holds. -/
def Pkg.spanMinUsed (s : Pkg) (t p c : Nat) : Nat := (SMap.get {} s.sw.spanUse (qKey t p c)).min
def Pkg.setSpanMinUsed (s : Pkg) (t p c v : Nat) : Pkg :=
  s.onSw (fun w => { w with spanUse := SMap.set {} w.spanUse (qKey t p c) { min := v } })
def Pkg.spanShared (s : Pkg) (t src c : Nat) : Nat := SMap.get 0 s.sw.spanHeld (qKey t src c)
def Pkg.setSpanShared (s : Pkg) (t src c v : Nat) : Pkg := s.onSw (fun w => { w with spanHeld := SMap.set 0 w.spanHeld (qKey t src c) v })

/-- SW_SPAN_MIN (Table 4-7). -/
def fSpanMin (p c : Nat) : Fld := ⟨0x800600 + 0x20 * p + 4 * c, 14, 0⟩

/-- The span port of tile t on which the frames of another tile arrive: the pair's lowest-numbered port in service here; where the
pair is relayed, the port from the relay tile. -/
def Pkg.arrivalPort (s : Pkg) (t src gin gout : Nat) : Nat :=
  let via := match s.routeOf t src with | .relay r => r | _ => src
  if s.variant = .ikd4 then
    match s.frameSpan src t gin gout with
    | some p => (match spanPeer s.variant src p with | some (_, q) => q | none => 0)
    | none => 0
  else (spanPorts s.variant t via).head?.getD 0

/-- Return n credits of (source tile, class): to the shared pool while it holds shared cells, then to its span minimum (R125). -/
def Pkg.returnCredit (s : Pkg) (t src p c n : Nat) : Pkg :=
  let sh := min n (s.spanShared t src c)
  let s := s.setSpanShared t src c (s.spanShared t src c - sh)
  let s := s.setPool t { s.pool t with shared := (s.pool t).shared - sh }
  s.setSpanMinUsed t p c (s.spanMinUsed t p c - (n - sh))

/-! ### Frames and their charges -/

def Pkg.frame (s : Pkg) (id : Nat) : FrameRec := SMap.get {} s.sw.frames id
def Pkg.setFrame (s : Pkg) (id : Nat) (f : FrameRec) : Pkg := s.onSw (fun w => { w with frames := SMap.set {} w.frames id f })

/-- A writer further on in the rotation gives up to n of the shared cells that it drew in this clock, and draws from its HEADROOM instead
(R111). -/
def Pkg.giveShared (s : Pkg) (t id n : Nat) : Pkg × Nat :=
  let f := s.frame id
  if f.charge.kind ≠ .account then (s, 0)
  else
    let a := s.acct t f.charge.port f.charge.tc
    let k := min n (min f.charge.shared (s.get t (fHeadroom f.charge.port f.charge.tc) - a.head))
    if k = 0 then (s, 0)
    else
      let s := s.setAcct t f.charge.port f.charge.tc ⟨a.min, a.shared - k, a.head + k⟩
      let s := s.setPool t { s.pool t with shared := (s.pool t).shared - k }
      let s := s.setFrame id { f with charge := { f.charge with shared := f.charge.shared - k, head := f.charge.head + k } }
      (s.updXoff t f.charge.port f.charge.tc, k)

/-- Before writer p draws n cells (R111): where the shared pool is short of them, the writers of this clock that come after p in the rotation
give back what they drew of it, the furthest first. -/
def Pkg.takeTurn (s : Pkg) (t p c n : Nat) : Pkg :=
  let d := s.drawTurn t
  let a := s.acct t p c
  let m := min n (s.get t (fMin p c) - a.min)
  let want := min (n - m) (s.get t (fMax p c) - a.shared)
  let rank : Nat → Nat := fun w => (w + 27 - d.last) % 28
  let after := (List.range 28).reverse.flatMap (fun k => d.drew.filter (fun e => rank e.1 == k && decide (rank p < k)))
  (after.foldl (fun (r : Pkg × Nat) e => let g := r.1.giveShared t e.2 r.2; (g.1, r.2 - g.2)) (s, want - s.freeShared t)).1

/-- A writer has drawn for a frame. -/
def Pkg.noteDraw (s : Pkg) (t p id : Nat) : Pkg :=
  let d := s.drawTurn t
  s.onSw (fun w => { w with draws := SMap.set {} w.draws t { d with drew := d.drew ++ [(p, id)] } })

/-- A new number for a frame or a copy. -/
def Pkg.freshId (s : Pkg) : Pkg × Nat := (s.onSw (fun w => { w with nextId := w.nextId + 1 }), s.sw.nextId)

/-- Release a frame's charge to the sources it was drawn from (R109, R119, R125, R133). -/
def Pkg.releaseCharge (s : Pkg) (t src : Nat) (c : Charge) : Pkg :=
  match c.kind with
  | .account =>
    let a := s.acct t c.port c.tc
    let s := s.setAcct t c.port c.tc ⟨a.min - c.min, a.shared - c.shared, a.head - c.head⟩
    let s := s.setPool t { s.pool t with shared := (s.pool t).shared - c.shared }
    s.updXoff t c.port c.tc
  | .recirc => s.setPool t { s.pool t with recirc := (s.pool t).recirc - c.min }
  | .mirror => s.setPool t { s.pool t with mirror := (s.pool t).mirror - c.min }
  | .span => s.returnCredit t src c.port c.tc c.min
  | .released => s

/-- Release the charge of a frame that stays known. -/
def Pkg.releaseFrame (s : Pkg) (id : Nat) : Pkg :=
  let f := s.frame id
  let s := f.before.foldl (fun s c => s.releaseCharge f.tile f.src c) s
  (s.releaseCharge f.tile f.src f.charge).setFrame id { f with charge := {}, before := [] }

/-- A frame's cells move to the recirculation account when the reserve holds them (R119). -/
def Pkg.recircMove (s : Pkg) (t id : Nat) : Pkg × Bool :=
  let f := s.frame id
  if f.charge.kind = .recirc then (s, true)
  else if (s.pool t).recirc + f.cells ≤ s.get t fRecircRsv then
    let s := s.releaseFrame id
    let s := s.setPool t { s.pool t with recirc := (s.pool t).recirc + f.cells }
    (s.setFrame id { s.frame id with charge := { kind := .recirc, min := f.cells } }, true)
  else (s, false)

/-- Every frame of the recirculation lists that can move does so (R119): on each ingress port's list in arrival order. -/
def Pkg.recircFill (s : Pkg) (t : Nat) : Pkg :=
  ((s.sw.recirc.filter (fun r => r.tile == t)).foldl (fun (x : Pkg × List Nat) r =>
    if x.2.contains r.info.gin then x
    else
      let m := x.1.recircMove t r.frame
      if m.2 then (m.1, x.2) else (x.1, r.info.gin :: x.2)) (s, [])).1

/-- The charge of a frame whose last reference has gone is released (R109); recirculation cells that free are taken at once (R119). -/
def Pkg.endFrame (s : Pkg) (id : Nat) : Pkg :=
  let f := s.frame id
  let s := (s.releaseFrame id).setFrame id {}
  if f.charge.kind = .recirc then s.recircFill f.tile else s

/-- One reference to a frame goes; with the last its charge is released (R109, R130). -/
def Pkg.dropRef (s : Pkg) (id : Nat) : Pkg :=
  let f := s.frame id
  if 1 < f.refs then s.setFrame id { f with refs := f.refs - 1 }
  else
    let s := s.endFrame id
    match f.up with
    | some u =>
      let g := s.frame u
      if 1 < g.refs then s.setFrame u { g with refs := g.refs - 1 } else s.endFrame u
    | none => s

/-- One more reference. -/
def Pkg.addRef (s : Pkg) (id : Nat) : Pkg := s.setFrame id { s.frame id with refs := (s.frame id).refs + 1 }

/-- A multicast frame has lost a copy: SW_MC_PARTIAL once per frame (R131). -/
def Pkg.mcLost (s : Pkg) (t id : Nat) : Pkg :=
  let o := ((s.frame id).origin).getD id
  if s.sw.partials.contains o then s else (s.bump t oMcPartial).onSw (fun w => { w with partials := o :: w.partials })

/-! ### Queues -/

def Pkg.queue (s : Pkg) (t p q : Nat) : List Copy := SMap.get [] s.sw.queues (qKey t p q)
def Pkg.setQueue (s : Pkg) (t p q : Nat) (l : List Copy) : Pkg := s.onSw (fun w => { w with queues := SMap.set [] w.queues (qKey t p q) l })
def Pkg.qst (s : Pkg) (t p q : Nat) : QueueSt := SMap.get {} s.sw.queueSt (qKey t p q)
def Pkg.setQst (s : Pkg) (t p q : Nat) (x : QueueSt) : Pkg := s.onSw (fun w => { w with queueSt := SMap.set {} w.queueSt (qKey t p q) x })

/-- Cells of a list of copies held in one of some places. -/
def cellsIn (l : List Copy) (p : Loc → Bool) : Nat := ((l.filter (fun c => p c.loc)).map (·.cells)).sum

/-- SW_QUEUE_DEPTH: on-chip cells enqueued (R110), and overflow cells enqueued. -/
def Pkg.depthChip (s : Pkg) (t p q : Nat) : Nat := cellsIn (s.queue t p q) (fun l => l == .chip || l == .toSpill)
def Pkg.depthOvf (s : Pkg) (t p q : Nat) : Nat := cellsIn (s.queue t p q) (fun l => l == .ovf)

/-- The queue is at EG_LIMIT (R110); 0: no limit below the pool. -/
def Pkg.atLimit (s : Pkg) (t p q : Nat) : Bool := s.get t (fEgLimit p q) != 0 && s.get t (fEgLimit p q) ≤ s.depthChip t p q

/-- The queue may spill (R122). -/
def Pkg.maySpill (s : Pkg) (t p q : Nat) : Bool := s.on t fOvfPresent && s.on t (fSpillEn p q) && !s.windowFresh t q

/-- The overflow part takes more (R124). -/
def Pkg.ovfRoom (s : Pkg) (t p q n : Nat) : Bool :=
  s.depthOvf t p q + n ≤ s.get t (fSpillMax p q) && (s.pool t).ovf + n ≤ s.get t fOvfCells

/-- The queue is stalled (R121); is paused by its peer (R113). -/
def Pkg.stalledQ (s : Pkg) (t p q : Nat) : Bool := (s.get t (fStalled p)).testBit q
def Pkg.pausedQ (s : Pkg) (t p q : Nat) : Bool := (s.get t (fPausedRx p)).testBit q

/-- Set one bit of an eight-bit field. -/
def Pkg.setBit8 (s : Pkg) (t : Nat) (f : Fld) (q : Nat) (b : Bool) : Pkg :=
  let v := s.get t f
  s.put t f (if b then Nat.lor v (2 ^ q) else v - (if v.testBit q then 2 ^ q else 0))

/-- The DMA channel that serves a queue of port 16 or 22 is STARVED (R249). -/
def Pkg.starvedQ (s : Pkg) (t p q : Nat) : Bool := SMap.get false s.sw.starved (qKey t p q)

/-- A frame of this queue of port 16 or 22 waits at its head for the DMA channel (R249). -/
def Pkg.headWaits (s : Pkg) (t p q : Nat) : Bool := s.sw.got.any (fun d => d.tile == t && d.port == p && d.q == q)

/-- The watchdog times a queue of these ports (R121). -/
def wdPort (t p : Nat) : Bool := p ≤ 16 || (t == 0 && 24 ≤ p && p < 28)

/-- TS_PORT_GATE_STATUS.GATES. -/
def fGates (n : Nat) : Fld := ⟨0xC10014 + n * 0x100, 7, 0⟩

/-- Bring the watchdog's timer of a queue up to date (R121): it runs while the queue holds a frame and is held; a queue closed by its gate
is not. -/
def Pkg.wdUpdate (s : Pkg) (t p q : Nat) : Pkg :=
  let x := s.qst t p q
  let holds := !(s.queue t p q).isEmpty || (p == 16 && s.headWaits t p q)
  let held := wdPort t p && holds && (s.pausedQ t p q || (p == 16 && s.starvedQ t p q)) && (16 ≤ p || (s.get t (fGates p)).testBit q)
  if held && x.wdSince == 0 then s.setQst t p q { x with wdSince := s.now + 1 }
  else if !held && x.wdSince != 0 then s.setQst t p q { x with wdSince := 0 } else s

/-- The watchdog's timer of a queue that has transmitted starts anew (R121). -/
def Pkg.wdRestart (s : Pkg) (t p q : Nat) : Pkg := (s.setQst t p q { s.qst t p q with wdSince := 0 }).wdUpdate t p q

/-- A queue leaves SPILLED when its overflow part and its read-back buffer are empty (R123); a frame still to be written there keeps it so
(DEDUCED). -/
def Pkg.unspill (s : Pkg) (t p q : Nat) : Pkg :=
  if (s.queue t p q).any (fun c => c.loc != .chip) then s
  else s.setQst t p q { s.qst t p q with spilled := false }

/-- Take a copy's storage back: its overflow cells, and its reference to the frame. -/
def Pkg.freeCopy (s : Pkg) (c : Copy) : Pkg :=
  let s := if c.loc = .ovf then s.setPool c.tile { s.pool c.tile with ovf := (s.pool c.tile).ovf - c.cells } else s
  if c.loc = .ovf ∨ c.loc = .back then s else s.dropRef c.frame

/-- Discard every frame of a queue with a reason, on chip and in overflow memory (R121, R135, R156). -/
def Pkg.flushQueue (s : Pkg) (t p q code : Nat) : Pkg :=
  let l := s.queue t p q
  let s := s.setQueue t p q []
  let s := l.foldl (fun s c => (s.discard t code p).freeCopy c) s
  (s.setQst t p q { s.qst t p q with spilled := false, deficit := 0 }).wdUpdate t p q

end Sys2Proof.Machine
end

