-- ==== Sys2Proof/Machine/Memory.lean ====
section
/-! DEFINITION. The byte memories of the tiles: work memory and LPDDR5X of each (Table 8-1), as a list of cells in canonical form.
DESIGN CHOICE: a byte that nothing has written reads 0 (see the assumption log). -/
namespace Sys2Proof.Machine

/-- The cell of a local address of a tile. -/
def cellKey (tile a : Nat) : Nat := tile * 2 ^ 40 + a

/-- One byte of a tile's memory. -/
def Mem.get (m : Mem) (tile a : Nat) : Byte := SMap.get 0 m.cells (cellKey tile a)

/-- Write one byte. -/
def Mem.set (m : Mem) (tile a : Nat) (b : Byte) : Mem := { cells := SMap.set 0 m.cells (cellKey tile a) b }

/-- n bytes from an address. -/
def Mem.read (m : Mem) (tile a n : Nat) : List Byte := (List.range n).map (fun i => m.get tile (a + i))

/-- Write bytes from an address, in ascending order. -/
def Mem.write (m : Mem) (tile a : Nat) : List Byte → Mem
  | [] => m
  | b :: bs => (m.set tile a b).write tile (a + 1) bs

/-- The canonical form: addresses strictly rising, no entry 0. -/
def Mem.wf (m : Mem) : Bool := SMap.wf (fun _ => (0 : Byte)) m.cells

/-- What a local address leads to (Table 8-1). -/
inductive Local where
  | mgmt
  | byte
  | window (w o : Nat)
  | nowhere
deriving DecidableEq, Repr

/-- The first address beyond the LPDDR5X memory that software sees (R237): what is left of the channel once its overflow cells are carved. DESIGN CHOICE:
they are carved at its end (see the log). -/
def Pkg.lpddrEnd (s : Pkg) (tile : Nat) : Nat :=
  if s.on tile fOvfPresent then 0x200000000 + min 0x80000000 (Config.lpddrBytes tile - 256 * s.get tile fOvfCells) else 0x200000000

/-- Table 8-1 (R237). -/
def Pkg.local (s : Pkg) (tile a : Nat) : Local :=
  if a < 0x40000000 then .mgmt
  else if 0x100000000 ≤ a ∧ a < 0x101000000 then .byte
  else if 0x200000000 ≤ a ∧ a < 0x280000000 then (if a < s.lpddrEnd tile then .byte else .nowhere)
  else if 0x10000000000 ≤ a ∧ a < 0x20000000000 then .window ((a - 0x10000000000) / 0x1000000000) (a % 0x1000000000)
  else .nowhere

/-- The byte memories of a tile hold nothing. -/
def Mem.clearTile (m : Mem) (tile : Nat) : Mem :=
  { cells := m.cells.filter (fun c => c.1 / 2 ^ 40 != tile) }

end Sys2Proof.Machine
end

