-- ==== Sys2Proof/Machine/Streams.lean ====
section
/-! DEFINITION. Gate positions, stream filters, stream gates, meters, sequence generation and recovery (R147, R158–R167). -/
namespace Sys2Proof.Machine

/-! ### Positions in a gate list (R147) -/

/-- The entry in force at a position, and the offset of its start; `interval` gives each entry's duration, `n` how many entries are left.
Past the last entry, the last one is held. -/
def entryAt (interval : Nat → Nat) (pos : Nat) : Nat → Nat → Nat → Nat × Nat
  | 0, i, start => (i - 1, start)
  | n + 1, i, start =>
    if pos < start + interval i then (i, start)
    else if n = 0 then (i, start) else entryAt interval pos n (i + 1) (start + interval i)

/-- Position (t − BASE) mod CYCLE, for t before BASE as well as after it. -/
def cyclePos (t base cycle : Nat) : Nat :=
  if cycle = 0 then 0 else (((t : Int) - base) % (cycle : Int)).toNat

/-! ### Stream gates (R159) -/

/-- Words of a stream gate's header and entries (Table 5-2, Table 5-11). -/
def Pkg.sgHead (s : Pkg) (t g w : Nat) : Word := s.rd t (0x3620000 + g * 16 + w * 4)
def Pkg.sgEntry (s : Pkg) (t g e w : Nat) : Word := s.rd t (0x3628000 + g * 0x200 + e * 8 + w * 4)

/-- The entry of stream gate g in force on the tile's count (R147, R159). -/
def Pkg.sgNow (s : Pkg) (t g : Nat) : Nat :=
  let base := (s.sgHead t g 1).toNat + (s.sgHead t g 2).toNat * 2 ^ 32
  let pos := cyclePos (s.countNs t) base (fieldGet (s.sgHead t g 3) 29 0)
  (entryAt (fun e => fieldGet (s.sgEntry t g e 1) 29 0) pos (fieldGet (s.sgHead t g 0) 6 0) 0 0).1

/-- A stream gate is open: VALID, and its entry in force has OPEN = 1 (R158). -/
def Pkg.sgOpen (s : Pkg) (t g : Nat) : Bool :=
  fieldGet (s.sgHead t g 0) 31 31 == 1 && fieldGet (s.sgEntry t g (s.sgNow t g) 0) 0 0 == 1

/-- The IPV of the entry in force, when it replaces the frame's queue (R160). -/
def Pkg.sgIpv (s : Pkg) (t g : Nat) : Option Nat :=
  let e := s.sgEntry t g (s.sgNow t g) 0
  if fieldGet e 4 4 = 1 then some (fieldGet e 3 1) else none

/-! ### Meters (R161) -/

/-- Bytes in the units of shaper credits and meter buckets: a rate of r kbit/s adds r units in 2⁻¹⁶ ns. -/
def creditUnit : Nat := 8000000 * 65536

/-- Words of meter m. -/
def Pkg.meterWord (s : Pkg) (t m w : Nat) : Word := s.rd t (0x3604000 + m * 16 + w * 4)
def Pkg.meterSt (s : Pkg) (t m : Nat) : MeterSt := SMap.get {} s.sw.meters (t * 1024 + m)
def Pkg.setMeterSt (s : Pkg) (t m : Nat) (x : MeterSt) : Pkg := s.onSw (fun w => { w with meters := SMap.set {} w.meters (t * 1024 + m) x })

/-- The buckets at the present instant: committed at CIR up to CBS, excess at EIR up to EBS; with COUPLING the overflow of the first
fills the second. -/
def Pkg.meterFill (s : Pkg) (t m : Nat) : Nat × Nat :=
  let cbs := fieldGet (s.meterWord t m 2) 15 0 * 64 * creditUnit
  let ebs := fieldGet (s.meterWord t m 2) 31 16 * 64 * creditUnit
  let x := s.meterSt t m
  if x.full then (cbs, ebs)
  else
    let dt := s.now - x.at_
    let c := x.cb + dt * fieldGet (s.meterWord t m 0) 24 0
    let spill := if fieldGet (s.meterWord t m 3) 1 1 = 1 then c - cbs else 0
    (min c cbs, min (x.eb + dt * fieldGet (s.meterWord t m 1) 24 0 + spill) ebs)

/-- Colour a frame of n bytes (R161): 0 green, 1 yellow, 2 red. -/
def Pkg.meterColour (s : Pkg) (t m n : Nat) (pre : Bool) : Pkg × Nat :=
  if fieldGet (s.meterWord t m 3) 31 31 = 0 then (s, 0)
  else
    let b := s.meterFill t m
    let need := n * creditUnit
    let yellowIn : Bool := pre && fieldGet (s.meterWord t m 3) 0 0 == 1
    if !yellowIn && decide (need ≤ b.1) then (s.setMeterSt t m { full := false, cb := b.1 - need, eb := b.2, at_ := s.now }, 0)
    else if need ≤ b.2 then (s.setMeterSt t m { full := false, cb := b.1, eb := b.2 - need, at_ := s.now }, 1)
    else (s.setMeterSt t m { full := false, cb := b.1, eb := b.2, at_ := s.now }, 2)

/-! ### Stream filters (R158) -/

def Pkg.filterWord (s : Pkg) (t m w : Nat) : Word := s.rd t (0x3600000 + m * 16 + w * 4)
def oMeterCnt (m k : Nat) : Nat := 0x3610000 + m * 32 + k * 8
def fBlocked (m : Nat) : Fld := ⟨0xC00100 + 4 * (m / 32), m % 32, m % 32⟩
def oSduDisc : Nat := 0xC00200
def oSgDisc : Nat := 0xC00208
def oMeterDisc : Nat := 0xC00210
def oFrerDisc : Nat := 0xC00218
def oWfExpired : Nat := 0xC00220
def oGuardDefer : Nat := 0xC00228
def oFrerBypass : Nat := 0xC00230
def oSampLost : Nat := 0xC00238

/-- What the per-stream checks decide (R158): a discard code, or the frame goes on with a replaced queue, a yellow mark, a recovery
function and a generator. -/
structure StreamRes where
  disc   : Option Nat := none
  queue  : Option Nat := none
  yellow : Bool := false
  rcvy   : Option (Nat × Bool) := none
  gen    : Option Nat := none

/-- The steps of R158 for index m, for a frame of n bytes as received. A frame that has no forwarded copy left (`live` false) counts no discard
(R162); the meter colours and counts it all the same. -/
def Pkg.streamCheck (s : Pkg) (t m n : Nat) (dei live : Bool) : Pkg × StreamRes :=
  let w0 := s.filterWord t m 0
  let w1 := s.filterWord t m 1
  if fieldGet w0 31 31 = 0 then (s, {})
  else
    let maxSdu := fieldGet w0 13 0
    let g := fieldGet w0 21 16
    let large : Bool := maxSdu != 0 && decide (maxSdu < n)
    let gone : Nat → Pkg := fun ctr => if live then (s.bump t ctr).bump t (oMeterCnt m 3) else s
    if large then ((gone oSduDisc).raiseIf (fieldGet w0 14 14 == 1) t (fBlocked m), { disc := some 11 })
    else if s.on t (fBlocked m) then (if live then s.bump t (oMeterCnt m 3) else s, { disc := some 11 })
    else if fieldGet w0 22 22 = 1 ∧ !s.sgOpen t g then (gone oSgDisc, { disc := some 11 })
    else
      let ipv := if fieldGet w0 22 22 = 1 then s.sgIpv t g else none
      let red : StreamRes :=
        { queue := ipv
          rcvy := if fieldGet w1 8 8 = 1 then some (fieldGet w1 7 0, fieldGet w1 18 18 == 1) else none
          gen := if fieldGet w1 17 17 = 1 then some (fieldGet w1 16 9) else none }
      if fieldGet w0 23 23 = 1 then
        let r := s.meterColour t m n dei
        let s := r.1.bump t (oMeterCnt m r.2)
        let w3 := s.meterWord t m 3
        if r.2 = 2 ∨ (r.2 = 1 ∧ fieldGet w3 2 2 = 1) then (if live then s.bump t oMeterDisc else s, { disc := some 12 })
        else (s, { red with yellow := r.2 == 1 && fieldGet w3 3 3 == 1 })
      else (s, red)

/-- Generator g's next sequence number (R164), which wraps from 65,535 to 0. -/
def Pkg.takeSeq (s : Pkg) (t g : Nat) : Pkg × Nat :=
  let f : Fld := ⟨0x3670000 + 4 * g, 15, 0⟩
  (s.put t f ((s.get t f + 1) % 65536), s.get t f)

/-! ### Recovery (R165–R167) -/

def Pkg.recovWord (s : Pkg) (t r w : Nat) : Word := s.rd t (0x3660000 + r * 32 + w * 4)
def oRecov (r k : Nat) : Nat := 0x3668000 + r * 64 + k * 8
def Pkg.recovSt (s : Pkg) (t r : Nat) : RecovSt := SMap.get {} s.sw.recov (t * 256 + r)
def Pkg.setRecovSt (s : Pkg) (t r : Nat) (x : RecovSt) : Pkg := s.onSw (fun w => { w with recov := SMap.set {} w.recov (t * 256 + r) x })

/-- (sequence − RecovSeqNum) modulo 65,536 as a signed 16-bit value (R166). -/
def seqDelta (sq num : Nat) : Int :=
  let d := (sq + 65536 - num % 65536) % 65536
  if d < 32768 then (d : Int) else (d : Int) - 65536

/-- A copy passes recovery: counted, the reset timer restarts. -/
def Pkg.recovPass (s : Pkg) (t r : Nat) (x : RecovSt) : Pkg := (s.bump t (oRecov r 0)).setRecovSt t r { x with passAt := s.now }

/-- A copy is eliminated: FRER_DISC and its function's counters (R165). -/
def Pkg.recovDrop (s : Pkg) (t r : Nat) : Pkg := (s.bump t (oRecov r 1)).bump t oFrerDisc

/-- Recovery function r judges a copy with a sequence number (R166); true: it passes. -/
def Pkg.recover (s : Pkg) (t r : Nat) (sq : Option Nat) : Pkg × Bool :=
  let w0 := s.recovWord t r 0
  let hist := fieldGet w0 6 1
  let x := s.recovSt t r
  match sq with
  | none =>
    let s := s.bump t (oRecov r 5)
    if fieldGet w0 7 7 = 1 then (s.recovPass t r x, true) else (s.recovDrop t r, false)
  | some n =>
    if x.fresh then (s.recovPass t r { x with fresh := false, num := n, seen := [n] }, true)
    else if fieldGet w0 0 0 = 1 then
      (if n ≠ x.num then (s.recovPass t r { x with num := n }, true) else (s.recovDrop t r, false))
    else
      let d := seqDelta n x.num
      if (hist : Int) ≤ d.natAbs then ((s.recovDrop t r).bump t (oRecov r 3), false)
      else if 0 < d then
        let k := d.toNat
        let inOld := (List.range k).map (fun i => (x.num + 65536 + 1 + i - hist) % 65536)
        let lost := (inOld.filter (fun q => !x.seen.contains q)).length
        let keep := (x.seen.filter (fun q => decide (-(hist : Int) < seqDelta q n))) ++ [n]
        ((s.add t (oRecov r 4) lost).recovPass t r { x with num := n, seen := keep }, true)
      else if x.seen.contains n then (s.recovDrop t r, false)
      else ((s.bump t (oRecov r 2)).recovPass t r { x with seen := x.seen ++ [n] }, true)

/-- Where the R-TAG of a frame lies (R163): after the last VLAN tag, or after the source address. -/
def rtagOff (bs : List Byte) : Nat → Nat → Nat
  | 0, o => o
  | k + 1, o => if beAt bs o 2 = 0x8100 ∨ beAt bs o 2 = 0x88A8 then rtagOff bs k (o + 4) else o

/-- The sequence number of a frame's R-TAG. -/
def rtagSeq (bs : List Byte) : Option Nat :=
  let o := rtagOff bs 4 12
  if beAt bs o 2 = 0xF1C1 then some (beAt bs (o + 4) 2) else none

/-- The sequence number a copy is judged by: the one its descriptor carries, or its R-TAG's. -/
def Copy.seqNum (c : Copy) : Option Nat := c.seq.or (rtagSeq c.bytes)

/-- Recovery as a copy is placed on its queue (R165); true: it passes. -/
def Pkg.recoverCopy (s : Pkg) (c : Copy) : Pkg × Bool :=
  match c.rcvy with
  | none => (s, true)
  | some (r, _) =>
    let w0 := s.recovWord c.tile r 0
    if fieldGet w0 31 31 = 0 then (s, true)
    else if fieldGet w0 12 8 ≠ c.port then (s.bump c.tile oFrerBypass, true)
    else s.recover c.tile r c.seqNum

/-- Recovery bypasses a copy (R165): its function serves another egress port. It passes untouched. -/
def Pkg.bypassed (s : Pkg) (c : Copy) : Bool :=
  match c.rcvy with
  | none => false
  | some (r, _) => fieldGet (s.recovWord c.tile r 0) 31 31 == 1 && fieldGet (s.recovWord c.tile r 0) 12 8 != c.port

/-- FRER_RESET (R166): RESET_MS has passed since the function last passed a copy. -/
def frerReset (tile fn : Nat) (s : Pkg) : Pkg :=
  s.when (s.tileOn tile && fieldGet (s.recovWord tile fn 0) 31 31 == 1 && !(s.recovSt tile fn).fresh) (fun s =>
    let s := s.reachFrac ((s.recovSt tile fn).passAt + ns (ms (fieldGet (s.recovWord tile fn 1) 15 0)))
    (s.bump tile (oRecov fn 6)).setRecovSt tile fn {})

/-- A write of TS_GEN_RESET (R164): generator g's next number is 0. -/
def genResetEff (tile : Nat) (value : Word) (s : Pkg) : Pkg := s.put tile ⟨0x3670000 + 4 * fieldGet value 7 0, 15, 0⟩ 0

end Sys2Proof.Machine
end

