-- ==== Sys2Proof/Machine/Edits.lean ====
section
/-! DEFINITION. The edits of a frame at egress: pop, push, rewrite, R-TAG (R92, R164, R165). -/
namespace Sys2Proof.Machine

/-- The VLAN tags at the front of a frame. -/
def tagCount (bs : List Byte) : Nat → Nat → Nat
  | 0, _ => 0
  | k + 1, o => if beAt bs o 2 = 0x8100 ∨ beAt bs o 2 = 0x88A8 then 1 + tagCount bs k (o + 4) else 0

/-- A VLAN tag's four bytes. -/
def tagBytes (tpid pcp dei vid : Nat) : List Byte := beBytes 2 tpid ++ beBytes 2 (pcp * 8192 + dei * 4096 + vid)

/-- The tags a push puts outermost (Table 3-10): C-tag, S-tag, or an S-tag outside a C-tag. -/
def pushBytes (p : Push) : List Byte :=
  match p.kind with
  | 0 => tagBytes 0x8100 p.pcp p.dei p.vidA
  | 1 => tagBytes 0x88A8 p.pcp p.dei p.vidA
  | _ => tagBytes 0x88A8 p.pcp p.dei p.vidA ++ tagBytes 0x8100 p.pcp p.dei p.vidB

/-- Put bytes after the two MAC addresses. -/
def insertAt (bs : List Byte) (o : Nat) (new : List Byte) : List Byte := bs.take o ++ new ++ bs.drop o

/-- A checksum adjusted for a 16-bit word that changes from m to m' (RFC 1624). -/
def csumAdjust (hc m m' : Nat) : Nat :=
  let s := (0xFFFF - hc) + (0xFFFF - m) + m'
  let f := fun x => x % 65536 + x / 65536
  0xFFFF - f (f s)

/-- Change the byte at o of an IPv4 header at ip, adjusting its checksum by the 16-bit word of the header that holds the byte. -/
def ipv4SetByte (bs : List Byte) (ip o v : Nat) : List Byte :=
  let w := ip + (o - ip) / 2 * 2
  let m := beAt bs w 2
  let bs' := overwrite bs o (beBytes 1 v)
  overwrite bs' (ip + 10) (beBytes 2 (csumAdjust (beAt bs (ip + 10) 2) m (beAt bs' w 2)))

/-- What the edits made of a frame, and which of the counters of R92 it earned. -/
structure Edited where
  bytes    : List Byte
  popShort : Bool := false
  absent   : Bool := false
  invalid  : Bool := false

/-- The outermost IP header of a frame after `shift` bytes have been removed (negative) or added at its front (R92). -/
def editIp (hs : List Hdr) (shift : Int) : Option (Bool × Nat) :=
  match hs.find? (fun h => h.kind == kIpv4 || h.kind == kIpv6) with
  | some h => some (h.kind == kIpv6, ((h.off : Int) + shift).toNat)
  | none => none

/-- Set DSCP, or decrement TTL or hop limit, of the IP header at ip. -/
def setDscp (bs : List Byte) (v6 : Bool) (ip v : Nat) : List Byte :=
  if v6 then
    let w := beAt bs ip 2
    overwrite bs ip (beBytes 2 (w / 4096 * 4096 + v * 64 + w % 64))
  else ipv4SetByte bs ip (ip + 1) (v * 4 + beAt bs (ip + 1) 1 % 4)
def decTtl (bs : List Byte) (v6 : Bool) (ip : Nat) : List Byte :=
  if v6 then overwrite bs (ip + 7) (beBytes 1 (beAt bs (ip + 7) 1 - 1)) else ipv4SetByte bs ip (ip + 8) (beAt bs (ip + 8) 1 - 1)

/-- Set the VID or the PCP of the outermost tag; none: no tag. -/
def setTag (bs : List Byte) (f : Nat → Nat) : Option (List Byte) :=
  if tagCount bs 1 12 = 0 then none else some (overwrite bs 14 (beBytes 2 (f (beAt bs 14 2))))

/-- Pop, push, rewrite, in that order (R92). -/
def editFrame (bs : List Byte) (hs : List Hdr) (pop : Option Nat) (push : Option Push) (rw : Option Rewrite) : Edited :=
  let have_ := tagCount bs 8 12
  let n := min (pop.getD 0) have_
  let b1 := bs.take 12 ++ bs.drop (12 + 4 * n)
  let pb := match push with | some p => pushBytes p | none => []
  let b2 := insertAt b1 12 pb
  let e : Edited := { bytes := b2, popShort := decide (have_ < pop.getD 0) }
  let ip := editIp hs ((pb.length : Int) - 4 * n)
  match rw with
  | none => e
  | some r =>
    let macs := fun (x : List Byte) (both : Bool) =>
      if r.valid then overwrite (overwrite x 0 (beBytes 6 r.da)) (if both then 6 else 0) (beBytes 6 (if both then r.sa else r.da)) else x
    match r.op with
    | 1 => (match setTag b2 (fun w => w / 4096 * 4096 + r.val % 4096) with
            | some b => { e with bytes := b } | none => { e with absent := true })
    | 2 => (match setTag b2 (fun w => (r.val % 8) * 8192 + w % 8192) with
            | some b => { e with bytes := b } | none => { e with absent := true })
    | 3 => (match ip with | some (v6, o) => { e with bytes := setDscp b2 v6 o (r.val % 64) } | none => { e with absent := true })
    | 4 => (match ip with | some (v6, o) => { e with bytes := decTtl b2 v6 o } | none => { e with absent := true })
    | 5 =>
      let b3 := macs b2 true
      let e := { e with invalid := !r.valid }
      (match ip with | some (v6, o) => { e with bytes := decTtl b3 v6 o } | none => { e with bytes := b3, absent := true })
    | 6 => { e with bytes := macs b2 false, invalid := !r.valid }
    | _ => e

/-- TTL or hop limit of the outermost recorded IP header. -/
def ttlOf (bs : List Byte) (hs : List Hdr) : Option Nat :=
  match hs.find? (fun h => h.kind == kIpv4 || h.kind == kIpv6) with
  | some h => some (if h.kind = kIpv6 then beAt bs (h.off + 7) 1 else beAt bs (h.off + 8) 1)
  | none => none

/-- DEC_TTL or ROUTE on a TTL of 1 or less redirects the frame to port 20 (R92). -/
def ttlExpired (bs : List Byte) (hs : List Hdr) (rw : Option Rewrite) : Bool :=
  match rw with
  | some r => (r.op == 4 || r.op == 5) && (match ttlOf bs hs with | some v => decide (v ≤ 1) | none => false)
  | none => false

/-- Remove the R-TAG of a frame (R165, STRIP). -/
def stripRtag (bs : List Byte) : List Byte :=
  let o := rtagOff bs 4 12
  if beAt bs o 2 = 0xF1C1 then bs.take o ++ bs.drop (o + 6) else bs

/-- Insert the R-TAG after the last VLAN tag, or after the source address (R163, R164). -/
def addRtag (bs : List Byte) (seq : Nat) : List Byte :=
  insertAt bs (rtagOff bs 4 12) (beBytes 2 0xF1C1 ++ beBytes 2 0 ++ beBytes 2 seq)

/-- Set DEI = 1 in the outermost tag (Table 5-2, MARK_YELLOW). -/
def markDei (bs : List Byte) : List Byte := (setTag bs (fun w => if (w / 4096) % 2 = 1 then w else w + 4096)).getD bs

/-- All the edits of a copy as it leaves: R92, then MARK_YELLOW, STRIP and the inserted R-TAG. -/
def Copy.edited (c : Copy) : Edited :=
  let e := editFrame c.bytes c.parse.hdrs c.pop c.push c.rw
  let b := if c.yellow then markDei e.bytes else e.bytes
  let b := match c.rcvy with | some (_, true) => stripRtag b | _ => b
  let b := match c.seq, c.rcvy with
    | some n, some (_, true) => (fun _ => b) n
    | some n, _ => addRtag b n
    | none, _ => b
  { e with bytes := b }

/-- Count what the edits of a copy met (R92), on the tile that makes them. PR_RW_ABSENT counts a frame once, with the first of its copies that is edited:
`id` is the frame's own number, and a later copy of a multicast frame finds it noted. -/
def Pkg.countEdits (s : Pkg) (t id : Nat) (mc : Bool) (e : Edited) : Pkg :=
  let s := if e.popShort then s.bump t 0x400260 else s
  let s := if e.invalid then s.bump t 0x400268 else s
  if !e.absent || s.sw.absents.contains id then s
  else (s.bump t 0x400278).onSw (fun w => { w with absents := if mc then id :: w.absents else w.absents })

end Sys2Proof.Machine
end

