-- ==== Sys2Proof/Machine/Place.lean ====
section
/-! DEFINITION. Copies on their way to queues: joining a queue, spill, mirror sessions (R110, R116, R121–R123, R130–R133). -/
namespace Sys2Proof.Machine

/-- A copy joins its queue (R110, R122): written to overflow later when the queue is SPILLED and may still spill; the queue becomes SPILLED when its
on-chip depth reaches SPILL_AT. Mirror copies never spill (R133). -/
def Pkg.joinQueue (s : Pkg) (c : Copy) : Pkg :=
  let t := c.tile
  let mir : Bool := match c.kind with | .mirror _ => true | _ => false
  let spilled := (s.qst t c.port c.q).spilled && s.maySpill t c.port c.q
  let c := { c with enq := s.now, loc := if spilled && !mir then .toSpill else .chip }
  let s := s.setQueue t c.port c.q (s.queue t c.port c.q ++ [c])
  let s := if s.maySpill t c.port c.q && decide (s.get t (fSpillAt c.port c.q) ≤ s.depthChip t c.port c.q) then
      s.setQst t c.port c.q { s.qst t c.port c.q with spilled := true }
    else s
  s.wdUpdate t c.port c.q

/-- A copy made at resolution waits for its queue; it refers to its frame's cells (R130). -/
def Pkg.addCopy (s : Pkg) (c : Copy) : Pkg :=
  let r := s.freshId
  (r.1.onSw (fun w => { w with waiting := w.waiting ++ [{ c with id := r.2, born := s.now }] })).addRef c.frame

/-- A copy that does not wait any longer is gone: its reference goes with it. -/
def Pkg.unwait (s : Pkg) (id : Nat) : Pkg := s.onSw (fun w => { w with waiting := w.waiting.filter (fun c => c.id != id) })

/-! ### Mirror sessions (R132, R133) -/

def fMirDest (k : Nat) : Fld := ⟨0x800400 + 0x10 * k, 7, 0⟩
def fMirTc (k : Nat) : Fld := ⟨0x800400 + 0x10 * k, 10, 8⟩
def fMirTrunc (k : Nat) : Fld := ⟨0x800400 + 0x10 * k, 23, 16⟩
def fMirSample (k : Nat) : Fld := ⟨0x800400 + 0x10 * k, 27, 24⟩
def fMirValid (k : Nat) : Fld := ⟨0x800400 + 0x10 * k, 31, 31⟩
def fMirTagEn (k : Nat) : Fld := ⟨0x800404 + 0x10 * k, 0, 0⟩
def fMirVid (k : Nat) : Fld := ⟨0x800404 + 0x10 * k, 15, 4⟩
def fMirPcp (k : Nat) : Fld := ⟨0x800404 + 0x10 * k, 18, 16⟩
def oMirCopies (k : Nat) : Nat := 0x800500 + 0x10 * k
def oMirDrops (k : Nat) : Nat := 0x800508 + 0x10 * k

/-- A mirror copy is discarded (R133): MIRROR_DROP and its session's count. `port`: the egress port, on the tile that has it. -/
def Pkg.mirDrop (s : Pkg) (t k et ep : Nat) : Pkg := (s.discard et 15 ep).bump t (oMirDrops k)

/-- The bytes of a mirror copy, before its new FCS: the first TRUNC × 64 bytes of the frame, then the pushed C-tag (Table 4-4). -/
def Pkg.mirBytes (s : Pkg) (t k : Nat) (bs : List Byte) : List Byte :=
  let n := s.get t (fMirTrunc k)
  let b := if n = 0 then bs else bs.take (n * 64)
  if s.on t (fMirTagEn k) then insertAt b 12 (tagBytes 0x8100 (s.get t (fMirPcp k)) 0 (s.get t (fMirVid k))) else b

/-- Session k of tile t is triggered with these bytes (R132). The copy never waits (R133): it joins its queue at once, or on another
tile after crossing under the span minimum of its class, or it is discarded. -/
def Pkg.mirror (s : Pkg) (t k : Nat) (bs : List Byte) (info : FrameMeta) (p : Parse) : Pkg :=
  let dest := s.get t (fMirDest k)
  let et := dest / 32
  let ep := dest % 32
  if !s.on t (fMirValid k) then s.mirDrop t k et ep
  else
    let seen := SMap.get 0 s.sw.mirSeen (t * 16 + k)
    let s := s.onSw (fun w => { w with mirSeen := SMap.set 0 w.mirSeen (t * 16 + k) (seen + 1) })
    if seen % 2 ^ s.get t (fMirSample k) ≠ 0 then s
    else
      let b := s.mirBytes t k bs
      let n := cellsOf (b.length + 4)
      let q := s.get t (fMirTc k)
      let ap := s.arrivalPort et t info.gin dest
      let lacking : Bool := decide (s.get t fMirrorRsv < (s.pool t).mirror + n)
      let noSpan : Bool := et != t &&
        (!s.inService et || !s.pairUp t et || decide (s.get et (fSpanMin ap q) < s.spanMinUsed et ap q + n))
      let starved : Bool := ep == 22 && (List.range 8).any (s.starvedQ et 22)
      if lacking || noSpan || starved || !s.linkUp et ep || s.atLimit et ep q then s.mirDrop t k et ep
      else if s.stalledQ et ep q then s.discard et 20 ep
      else
        let r := s.freshId
        let charge : Charge := if et = t then { kind := .mirror, min := n } else { kind := .span, port := ap, tc := q, min := n }
        let s := if et = t then r.1.setPool t { s.pool t with mirror := (s.pool t).mirror + n }
          else r.1.setSpanMinUsed et ap q (s.spanMinUsed et ap q + n)
        let s := s.setFrame r.2 { tile := et, src := t, tc := q, cells := n, charge := charge, refs := 1, mirror := true }
        let r2 := s.freshId
        r2.1.joinQueue { id := r2.2, frame := r.2, tile := et, port := ep, q := q, kind := .mirror (t * 16 + k), bytes := b, cells := n,
                         info := info, parse := p, born := s.now }

end Sys2Proof.Machine
end

