-- ==== Sys2Proof/Machine/Pipeline.lean ====
section
/-! DEFINITION. The ingress pipeline of a tile, from the parser to the copies (R62, R72, R81–R84, R87, R92–R96, R129–R131). -/
namespace Sys2Proof.Machine

/-- A frame in the pipeline: its tile, the frame whose cells it holds, its bytes as the parser sees them, its metadata, its pass. -/
structure PipeIn where
  tile    : Nat
  frame   : Nat
  bytes   : List Byte
  info    : FrameMeta
  pass    : Nat := 0
  passTag : Nat := 0
  bad     : Bool := false

/-- The local port a frame first entered on (R86). -/
def PipeIn.inPort (x : PipeIn) : Nat := x.info.gin % 32

/-! ### The fragment table (R82–R84) -/

def oFrag (k : Nat) : Nat := 0x4001C0 + 8 * k
def fLifeUs : Fld := ⟨0x400004, 13, 0⟩
def fFlushAtKs : Fld := ⟨0x400004, 14, 14⟩

def Pkg.fragEntry (s : Pkg) (t i : Nat) : Option FragEntry := SMap.get none s.sw.frags (t * 1024 + i)
def Pkg.setFrag (s : Pkg) (t i : Nat) (e : Option FragEntry) : Pkg := s.onSw (fun w => { w with frags := SMap.set none w.frags (t * 1024 + i) e })

/-- The entry of a tile with this key. -/
def Pkg.fragFind (s : Pkg) (t : Nat) (key : List Nat) : Option Nat :=
  ((s.sw.frags.filter (fun e => e.1 / 1024 == t)).find? (fun e => match e.2 with | some f => f.key == key | none => false)).map (·.1 % 1024)

/-- Free an entry and count why (2 for done is 1, see Table 3-13). -/
def Pkg.fragFree (s : Pkg) (t i k : Nat) : Pkg :=
  ((s.setFrag t i none).bump t (oFrag k)).put t fFragUsed (s.get t fFragUsed - 1)

/-- The fragment table's step for a frame with verdict PASS (R83): verdict, reason, and the snapshot it goes by. -/
def Pkg.fragLookup (s : Pkg) (t : Nat) (p : Parse) : Pkg × Parse × Option FragEntry :=
  match p.verdict, p.frag with
  | 0, some f =>
    match s.fragFind t f.key with
    | none => (s, (if f.offset = 0 then p else { p with verdict := 4 }), none)
    | some i =>
      match s.fragEntry t i with
      | none => (s, p, none)
      | some e =>
        let s := s.bump t (oFrag 4)
        if e.poisoned then (s, { p with verdict := 5 }, none)
        else
          let e := { e with count := e.count + f.len, fin := if f.more then e.fin else some (f.offset + f.len) }
          match e.fin with
          | none => (s.setFrag t i (some e), p, some e)
          | some n =>
            if e.count = n then (s.fragFree t i 1, p, some e)
            else if n < e.count then (s.setFrag t i (some { e with poisoned := true }), { p with verdict := 2, reason := 11 }, none)
            else (s.setFrag t i (some e), p, some e)
  | _, _ => (s, p, none)

/-- A first fragment creates an entry (R82, R84); a full table creates none and counts it. One that is also the last of its train completes the entry
and frees it at once (R83). -/
def Pkg.fragCreate (s : Pkg) (t : Nat) (f : FragInfo) (act : Act) (dests : List Nat) (mc : Bool) : Pkg :=
  match (List.range 1024).find? (fun i => (s.fragEntry t i).isNone) with
  | none => s.bump t (oFrag 3)
  | some i =>
    let e : FragEntry := { key := f.key, act := act, dests := dests, mc := mc, epoch := s.get t fEpoch, count := f.len,
                           fin := if f.more then none else some (f.offset + f.len), born := s.now }
    let s := ((s.setFrag t i (some e)).bump t (oFrag 0)).put t fFragUsed (s.get t fFragUsed + 1)
    if f.more then s else s.fragFree t i 1

/-- FRAG_EXPIRE (R83): LIFE_US after its creation an entry that has not completed is freed. -/
def fragExpire (tile idx : Nat) (s : Pkg) : Pkg :=
  match (if s.tileOn tile then s.fragEntry tile idx else none) with
  | some e => (s.reachFrac (e.born + ns (us (s.get tile fLifeUs)))).fragFree tile idx 2
  | none => s

/-- FLUSH_AT_KS at a commit (R84). -/
def Pkg.fragFlush (s : Pkg) (t : Nat) : Pkg :=
  if s.on t fFlushAtKs then (List.range 1024).foldl (fun s i => if (s.fragEntry t i).isSome then s.fragFree t i 5 else s) s else s

/-! ### Destinations (R129) -/

def Pkg.groupWord (s : Pkg) (t g w : Nat) : Word := s.rd t (0x3500000 + g * 32 + w * 4)

/-- The destinations of a forwarding action, as global ports in ascending order; none: a group with VALID = 0. -/
def Pkg.destsOf (s : Pkg) (t gin : Nat) (f : Nat × Nat) : Option (List Nat) :=
  if f.1 = 0 then some [f.2]
  else if fieldGet (s.groupWord t f.2 7) 31 31 = 0 then none
  else
    let hair := fieldGet (s.groupWord t f.2 7) 0 0 == 1
    some ((List.range 224).filter (fun g => (s.groupWord t f.2 (g / 32)).getLsbD (g % 32) && (hair || g != gin)))

/-! ### Copies (R81, R92, R130, R131) -/

/-- A trap copy at port 20, as received (R81, R91). -/
def Pkg.trapCopy (s : Pkg) (x : PipeIn) (p : Parse) (q : Nat) : Pkg :=
  s.addCopy { id := 0, frame := x.frame, tile := x.tile, port := 20, q := q, kind := .trap, bytes := x.bytes,
              cells := (s.frame x.frame).cells, info := x.info, parse := p, bad := x.bad }

/-- A frame whose TTL is spent goes to port 20 instead, popped and pushed (R92). -/
def Pkg.ttlRedirect (s : Pkg) (x : PipeIn) (p : Parse) (act : Act) (q : Nat) : Pkg :=
  (s.bump x.tile 0x400270).addCopy
    { id := 0, frame := x.frame, tile := x.tile, port := 20, q := q, kind := .trap, bytes := x.bytes,
      cells := (s.frame x.frame).cells, info := x.info, pop := act.pop, push := act.push, parse := p, bad := x.bad }

/-- What every forwarded copy of a frame carries (R94, R130). -/
structure CopyPlan where
  q      : Nat
  mc     : Bool
  act    : Act
  parse  : Parse
  seq    : Option Nat := none
  rcvy   : Option (Nat × Bool) := none
  yellow : Bool := false

/-- One forwarded copy, of the frame `f` on its egress tile. -/
def PipeIn.copy (x : PipeIn) (pl : CopyPlan) (f t port cells : Nat) : Copy :=
  { id := 0, frame := f, tile := t, port := port, q := pl.q, mc := pl.mc, bytes := x.bytes, cells := cells, info := x.info,
    pop := pl.act.pop, push := pl.act.push, rw := pl.act.rw, parse := pl.parse, seq := pl.seq, rcvy := pl.rcvy, yellow := pl.yellow,
    bad := x.bad }

/-- The members of one egress tile that take a copy; a multicast member whose link is down takes none (R131). -/
def Pkg.membersUp (s : Pkg) (x : PipeIn) (pl : CopyPlan) (b : Nat) (ports : List Nat) : Pkg × List Nat :=
  if !pl.mc then (s, ports)
  else (ports.foldl (fun s l => if s.linkUp b l then s else (s.discard b 17 l).mcLost b x.frame) s, ports.filter (s.linkUp b))

/-- The copies for one egress tile (R130): on the ingress tile each refers to the stored cells; another tile is reached by one
reference that crosses under span credit. A tile that is lost or unreachable discards as LINK_DOWN (R297). On LO-IKD4 the span of a
reference to several member ports is that of the lowest of them (DESIGN CHOICE: R27 names one egress port). -/
def Pkg.copiesTo (s : Pkg) (x : PipeIn) (pl : CopyPlan) (b : Nat) (ports : List Nat) : Pkg :=
  let n := (s.frame x.frame).cells
  if b = x.tile then
    let r := s.membersUp x pl b ports
    r.2.foldl (fun s l => s.addCopy (x.copy pl x.frame b l n)) r.1
  else if !s.inService b || !s.pairUp x.tile b then ports.foldl (fun s l => (s.bump x.tile (oDisc 18)).bump b (oTxDisc l)) s
  else
    let r := s.membersUp x pl b ports
    if r.2.isEmpty then r.1
    else
      let k := r.1.freshId
      let ap := s.arrivalPort b x.tile x.info.gin (b * 32 + r.2.head?.getD 0)
      let s := (k.1.addRef x.frame).setFrame k.2
        { tile := b, src := x.tile, tc := pl.q, cells := n, up := some x.frame, origin := some x.frame,
          charge := { kind := .span, port := ap, tc := pl.q } }
      r.2.foldl (fun s l => s.addCopy (x.copy pl k.2 b l n)) s

/-- The forwarded copies of a frame, by egress tile. -/
def Pkg.fanOut (s : Pkg) (x : PipeIn) (pl : CopyPlan) (dests : List Nat) : Pkg :=
  (List.range 7).foldl (fun s b =>
    let ports := (dests.filter (fun g => g / 32 == b)).map (· % 32)
    if ports.isEmpty then s else s.copiesTo x pl b ports) s

/-! ### The firewall over the copies (R96) -/

/-- Judge each destination in turn: the ones that pass, how many are denied. Copies to port 22 are mirror copies and never
judged. -/
def Pkg.judgeAll (s : Pkg) (x : PipeIn) (p : Parse) : List Nat → Option Bool → Pkg × List Nat × Nat
  | [], _ => (s, [], 0)
  | g :: gs, touched =>
    if g % 32 = 22 then
      let r := s.judgeAll x p gs touched
      (r.1, g :: r.2.1, r.2.2)
    else
      let j := s.judge x.tile x.info.zone (s.zoneOf (g % 32)) x.bytes p touched
      match j.2.1 with
      | .pass =>
        let r := j.1.judgeAll x p gs j.2.2
        (r.1, g :: r.2.1, r.2.2)
      | .deny reason =>
        let r := ((j.1.countDeny x.tile reason).discard x.tile 7 x.inPort).judgeAll x p gs j.2.2
        (r.1, r.2.1, r.2.2 + 1)

/-! ### Recirculation (R95, R119) -/

/-- P_RECIRC of the first pass: its edits are applied, and the frame goes to its port's recirculation list. -/
def Pkg.toRecirc (s : Pkg) (x : PipeIn) (p : Parse) (act : Act) (q : Nat) : Pkg :=
  let t := x.tile
  if ttlExpired x.bytes p.hdrs act.rw then
    s.ttlRedirect x p act q
  else
    let e := editFrame x.bytes p.hdrs act.pop act.push act.rw
    let s := s.countEdits t x.frame false e
    if 9216 < e.bytes.length + 4 then s.discard t 10 23
    else
      let s := (s.addRef x.frame).onSw (fun w => { w with recirc := w.recirc ++
        [{ tile := t, frame := x.frame, bytes := e.bytes, tag := act.recirc.getD 0, info := x.info, bad := x.bad }] })
      s.recircFill t

/-! ### Resolution (R81, R83, R87, R93) -/

/-- What becomes of a frame's forwarding once its action set stands: the ports its copies take, whether the trap copy stays, whether
it recirculates; with what the counters record. -/
structure Routed where
  dests : List Nat := []
  trap  : Nat := 0
  mc    : Bool := false
  rc    : Bool := false
  live  : Bool := false

/-- Forwarding of an action set (R87, R93, R95): a frame for which a REDIRECT trap was ever set is not counted as NO_ROUTE. `snap`: the ports of a fragment snapshot, which are not judged again (R83). -/
def Pkg.route (s : Pkg) (x : PipeIn) (p : Parse) (act : Act) (snap : Option (List Nat)) : Pkg × Routed :=
  let t := x.tile
  let trap := act.trap.getD 0
  if act.recirc.isSome ∧ x.pass = 1 then ((s.bump t 0x400258).discard t 9 x.inPort, { trap := trap })
  else if act.drop then (s.discard t 6 x.inPort, { trap := trap })
  else if act.recirc.isSome then (s, { trap := trap, rc := true, live := true })
  else if trap = 2 then (s, { trap := trap, live := true })
  else
    match act.fwd, act.fwd.bind (fun f => match snap with | some l => some l | none => s.destsOf t x.info.gin f) with
    | some f, some l =>
      match snap with
      | some _ => (s, { dests := l, trap := trap, mc := f.1 == 1, live := true })
      | none =>
        let r := s.judgeAll x p l none
        let keep : Bool := r.2.2 == 0 || (f.1 == 1 && !r.2.1.isEmpty)
        (r.1, { dests := r.2.1, trap := if keep then trap else 0, mc := f.1 == 1, live := !r.2.1.isEmpty })
    | none, _ => if act.redir then (s, { trap := trap }) else ((s.bump t 0x400250).discard t 8 x.inPort, { trap := trap })
    | some _, none => ((s.bump t 0x400250).discard t 8 x.inPort, { trap := trap })

/-- Count a discard by the stream checks (R158, R134): once for the frame, on the tile of resolution, and at the egress ports its copies
had. -/
def Pkg.streamDiscard (s : Pkg) (t code : Nat) (dests : List Nat) : Pkg :=
  dests.foldl (fun s g => s.bump (g / 32) (oTxDisc (g % 32))) (s.bump t (oDisc code))

/-- Make the copies of a routed frame (R92, R95, R130, R164). -/
def Pkg.emitCopies (s : Pkg) (x : PipeIn) (p : Parse) (act : Act) (r : Routed) (sr : StreamRes) (q : Nat) : Pkg :=
  let t := x.tile
  let s := if r.trap = 1 ∨ r.trap = 2 then s.trapCopy x p q else s
  if r.rc then s.toRecirc x p act q
  else if r.dests.isEmpty then s
  else if ttlExpired x.bytes p.hdrs act.rw then
    s.ttlRedirect x p act q
  else
    let sq : Pkg × Option Nat := match sr.gen with
      | some g => (match s.takeSeq t g with | (s, n) => (s, some n))
      | none => (s, none)
    sq.1.fanOut x { q := q, mc := r.mc, act := act, parse := p, seq := sq.2, rcvy := sr.rcvy, yellow := sr.yellow } r.dests

/-- The count action (R93, Table 3-14): frames and bytes of flow counter c. -/
def Pkg.countFlow (s : Pkg) (t c n : Nat) : Pkg := (s.bump t (0x3420000 + 16 * c)).add t (0x3420008 + 16 * c) n

/-- Resolution of a frame that reaches the rule stages. -/
def Pkg.resolveFrame (s : Pkg) (x : PipeIn) (p : Parse) : Pkg :=
  let t := x.tile
  let n := x.bytes.length + 4
  let act := s.resolve t x.bytes { pass := x.pass, passTag := x.passTag, parse := p, info := x.info }
  let s := match act.count with | some c => s.countFlow t c n | none => s
  let s := match act.mirror with | some k => if x.bad then s else s.mirror t k x.bytes x.info p | none => s
  let rt := s.route x p act none
  let dei : Bool := tagCount x.bytes 1 12 != 0 && (beAt x.bytes 14 2 / 4096) % 2 == 1
  let sr : Pkg × StreamRes := match act.meter with | some m => rt.1.streamCheck t m n dei rt.2.live | none => (rt.1, {})
  match sr.2.disc with
  | some code => if rt.2.live then sr.1.streamDiscard t code rt.2.dests
                 else if rt.2.trap = 1 ∨ rt.2.trap = 2 then sr.1.trapCopy x p (act.queue.getD x.info.tc) else sr.1
  | none =>
    let q := (sr.2.queue.or act.queue).getD x.info.tc
    let s := sr.1.emitCopies x p act rt.2 sr.2 q
    match p.frag with
    | some f =>
      if p.verdict = 0 ∧ f.offset = 0 ∧ x.pass = 0 ∧ act.recirc.isNone ∧ (!rt.2.dests.isEmpty ∨ rt.2.trap ≠ 0) then
        s.fragCreate t f { act with queue := some q, trap := if rt.2.trap = 0 then none else some rt.2.trap } rt.2.dests rt.2.mc
      else s
    | none => s

/-- A later fragment goes by the snapshot of its train (R83). -/
def Pkg.snapFrame (s : Pkg) (x : PipeIn) (p : Parse) (e : FragEntry) : Pkg :=
  let s := match e.act.mirror with | some k => if x.bad then s else s.mirror x.tile k x.bytes x.info p | none => s
  let rt := s.route x p e.act (some e.dests)
  rt.1.emitCopies x p e.act rt.2 {} (e.act.queue.getD x.info.tc)

/-- PR_VERDICT_ACT.MIRROR. -/
def fVerdictMirror : Fld := ⟨0x400000, 15, 12⟩

/-- One pass of a frame through parser, fragment table, rule stages, firewall and resolution (R72). -/
def Pkg.process (s : Pkg) (x : PipeIn) : Pkg :=
  let t := x.tile
  let p := s.parse t x.bytes
  let s := if x.pass = 0 ∧ s.on t (fMirRxEn x.inPort) ∧ !x.bad then s.mirror t (s.get t (fMirRx x.inPort)) x.bytes x.info p else s
  let r := s.fragLookup t p
  let p := r.2.1
  let s := r.1.countVerdict t p
  match r.2.2 with
  | some e => s.snapFrame x p e
  | none =>
    match s.verdictAct t p.verdict with
    | 0 => s.discard t 5 x.inPort
    | 1 => s.trapCopy x p x.info.tc
    | 2 => s.resolveFrame x p
    | _ =>
      let s := if x.bad then s else s.mirror t (s.get t fVerdictMirror) x.bytes x.info p
      s.discard t 5 x.inPort

end Sys2Proof.Machine
end

