-- ==== Sys2Proof/Machine/Sched.lean ====
section
/-! DEFINITION. The egress scheduler: gates, guard, shapers, groups and deficit round robin, preemption, window-fresh expiry
(R139–R157), and the transmit timestamps (R168–R171). -/
namespace Sys2Proof.Machine

/-! ### Registers (Tables 5-8, 5-9) -/

def tsPort (n off hi lo : Nat) : Fld := ⟨0xC10000 + n * 0x100 + off, hi, lo⟩
def tsQueue (n q off hi lo : Nat) : Fld := ⟨0xC20000 + n * 0x100 + q * 0x20 + off, hi, lo⟩
def fGateEn (n : Nat) : Fld := tsPort n 0 0 0
def fMergeEn (n : Nat) : Fld := tsPort n 0 1 1
def fVerifyDis (n : Nat) : Fld := tsPort n 0 2 2
def fAddFrag (n : Nat) : Fld := tsPort n 0 4 3
def fGuard (n : Nat) : Fld := tsPort n 0 15 8
def fPreempt (n : Nat) : Fld := tsPort n 0 23 16
def fGclLen (n : Nat) : Fld := tsPort n 4 10 0
def fGclCycle (n : Nat) : Fld := tsPort n 0x10 29 0
def fGclEntry (n : Nat) : Fld := tsPort n 0x14 17 8
def fHold (n : Nat) : Fld := tsPort n 0x14 18 18
def fMmActive (n : Nat) : Fld := tsPort n 0x14 19 19
def fVerify (n : Nat) : Fld := tsPort n 0x14 21 20
def oPortGuard (n : Nat) : Nat := 0xC10040 + n * 0x100
def oPortWf (n : Nat) : Nat := 0xC10048 + n * 0x100
def oFragTx (n : Nat) : Nat := 0xC10050 + n * 0x100
def oHoldOverrun (n : Nat) : Nat := 0xC10060 + n * 0x100
def fGroup (n q : Nat) : Fld := tsQueue n q 0 2 0
def fDrr (n q : Nat) : Fld := tsQueue n q 0 3 3
def fShaper (n q : Nat) : Fld := tsQueue n q 0 5 4
def fQuantum (n q : Nat) : Fld := tsQueue n q 4 15 0
def fRate (n q : Nat) : Fld := tsQueue n q 8 24 0
def fBurst (n q : Nat) : Fld := tsQueue n q 0xC 19 0
def oTxFrames (n q : Nat) : Nat := 0xC20018 + n * 0x100 + q * 0x20

/-! ### Gate control lists (R146–R149) -/

/-- An entry of a list as it runs: from and to which offset of the cycle (ns), its gates, its OP, its index. -/
structure GateSpan where
  start : Nat
  stop  : Nat
  gates : Nat
  op    : Nat
  idx   : Nat
deriving DecidableEq, Repr

/-- The entries as they run (R147): cut at the cycle's end, the last one held to it. -/
def gateSpans (ent : Nat → Word × Word) (cycle : Nat) : Nat → Nat → Nat → List GateSpan
  | 0, _, _ => []
  | k + 1, i, start =>
    if cycle ≤ start then []
    else
      let e := ent i
      let stop := start + fieldGet e.2 29 0
      ⟨start, (if k = 0 then cycle else min stop cycle), fieldGet e.1 7 0, fieldGet e.1 9 8, i⟩ :: gateSpans ent cycle k (i + 1) stop

/-- A port's list: whether gates are in force, its base (ns), its cycle (ns), its entries. -/
structure GateList where
  on    : Bool
  base  : Nat
  cycle : Nat
  spans : List GateSpan
deriving DecidableEq, Repr

/-- The gate list of port n as some copy of the registers and banks holds it. -/
def gateListOf (rd : Nat → Word) (n : Nat) : GateList :=
  let o := 0xC10000 + n * 0x100
  let cycle := fieldGet (rd (o + 0x10)) 29 0
  { on := n < 16 && fieldGet (rd o) 0 0 == 1
    base := (rd (o + 8)).toNat + (rd (o + 12)).toNat * 2 ^ 32
    cycle := cycle
    spans := gateSpans (fun e => (rd (0x3640000 + n * 0x2000 + e * 8), rd (0x3640004 + n * 0x2000 + e * 8))) cycle
      (fieldGet (rd (o + 4)) 10 0) 0 0 }

/-- The list in effect; the list the shadow holds. -/
def Pkg.gateList (s : Pkg) (t n : Nat) : GateList := gateListOf (s.rd t) n
def Pkg.shadowList (s : Pkg) (t n : Nat) : GateList := gateListOf (s.rdShadow t) n

/-- The position of a list at a count in 2⁻¹⁶ ns (R147). -/
def GateList.pos (g : GateList) (count : Nat) : Nat := cyclePos count (ns g.base) (ns g.cycle)

/-- The entry in force at a count. -/
def GateList.now (g : GateList) (count : Nat) : Option GateSpan :=
  (g.spans.find? (fun x => decide (g.pos count < ns x.stop))).or g.spans.getLast?

/-- The gates at a count: every gate is open while GATE_EN = 0 (R148). -/
def GateList.gates (g : GateList) (count : Nat) : Nat :=
  if g.on then (match g.now count with | some x => x.gates | none => 0xFF) else 0xFF

/-- How long until queue q's gate next closes, in 2⁻¹⁶ ns (R150); none: it stays open. -/
def GateList.nextClose (g : GateList) (count q : Nat) : Option Nat :=
  if !g.on then none
  else
    let p := g.pos count
    let later := (g.spans.filter (fun x => decide (p < ns x.start))).map (fun x => (ns x.start, x))
    let again := g.spans.map (fun x => (ns (x.start + g.cycle), x))
    ((later ++ again).find? (fun x => !x.2.gates.testBit q && decide (x.2.start < x.2.stop))).map (fun x => x.1 - p)

/-- The hold a list stands in at a count: the last SET_AND_HOLD or SET_AND_RELEASE before it, around the cycle (R154). -/
def GateList.holdNow (g : GateList) (count : Nat) : Bool :=
  if !g.on then false
  else
    let p := g.pos count
    let past := g.spans.filter (fun x => decide (ns x.start ≤ p))
    let rest := g.spans.filter (fun x => decide (p < ns x.start))
    match ((rest ++ past).reverse.find? (fun x => x.op == 1 || x.op == 2)) with
    | some x => x.op == 1
    | none => false

/-! ### Preemption and the guard (R150–R154) -/

def Pkg.mmActive (s : Pkg) (t n : Nat) : Bool := s.on t (fMmActive n)
def Pkg.preemptable (s : Pkg) (t n q : Nat) : Bool := s.mmActive t n && (s.get t (fPreempt n)).testBit q

/-- The guard applies to a queue (R150). -/
def Pkg.guarded (s : Pkg) (t n q : Nat) : Bool :=
  n < 16 && s.on t (fGateEn n) && ((s.get t (fGuard n)).testBit q || s.windowFresh t q || !s.mmActive t n)

/-- Bytes of a frame on the wire: edits, R-TAG, FCS, and MACsec's 32 bytes (R140). -/
def Pkg.wireLen (s : Pkg) (c : Copy) : Nat :=
  c.edited.bytes.length + 4 + (if c.port < 16 ∧ s.on c.tile (fTxMsEnable c.port) ∧ beAt c.edited.bytes 12 2 ≠ 0x888E then 32 else 0)

/-- The charge C of a copy (R140). -/
def Pkg.chargeOf (s : Pkg) (c : Copy) : Nat := s.wireLen c + 20

/-- The time n bytes take on port p, in 2⁻¹⁶ ns. -/
def Pkg.wireTime (s : Pkg) (t p n : Nat) : Nat := ceilDiv (n * creditUnit) (s.portRate t p)

/-- How long until the guard's next close of a queue (R150, R151). -/
def Pkg.closeIn (s : Pkg) (t n q : Nat) : Option Nat :=
  let c := s.count t
  let own := (s.gateList t n).nextClose c q
  let tc := ns (s.ksT t).tc
  let st := s.ksState t
  if (st = 1 ∨ st = 2) ∧ c < tc ∧ !((s.shadowList t n).gates tc).testBit q then
    (match own with | some x => some (min x (tc - c)) | none => some (tc - c))
  else own

/-- The guard admits the head frame of a queue (R150). -/
def Pkg.guardOk (s : Pkg) (c : Copy) : Bool :=
  !s.guarded c.tile c.port c.q ||
  (match s.closeIn c.tile c.port c.q with
   | some x => decide (s.wireTime c.tile c.port (s.chargeOf c) ≤ x)
   | none => true)

/-! ### Shapers (R144, R145) -/

/-- A port's frame in transmission comes from this queue. -/
def Pkg.sending (s : Pkg) (t n q : Nat) : Bool := match (s.port t n).tx with | some x => x.copy.q == q | none => false

/-- The gate of a queue as TS_PORT_GATE_STATUS has it. -/
def Pkg.gateBit (s : Pkg) (t n q : Nat) : Bool := (s.get t (fGates n)).testBit q

/-- A hold stops a preemptable queue (R154). -/
def Pkg.heldQ (s : Pkg) (t n q : Nat) : Bool := s.on t (fHold n) && s.preemptable t n q

/-- A credit brought up to the present instant (R144, R145). -/
def Pkg.creditNow (s : Pkg) (t n q : Nat) : Int :=
  let x := s.qst t n q
  let dt : Int := (s.now - x.credAt : Nat)
  let rate : Int := s.get t (fRate n q)
  if rate = 0 then x.credit
  else match s.get t (fShaper n q) with
    | 1 => min (x.credit + dt * rate) ((s.get t (fBurst n q) : Int) * creditUnit)
    | 2 =>
      if s.sending t n q then x.credit + dt * (rate - s.portRate t n)
      else if !s.gateBit t n q || s.pausedQ t n q || s.heldQ t n q then x.credit
      else if (s.queue t n q).isEmpty then (if x.credit < 0 then min 0 (x.credit + dt * rate) else x.credit)
      else x.credit + dt * rate
    | _ => x.credit

/-- Bring a queue's credit up to date before something that shapes it changes. -/
def Pkg.settleQ (s : Pkg) (t n q : Nat) : Pkg := s.setQst t n q { s.qst t n q with credit := s.creditNow t n q, credAt := s.now }

/-- The same for all queues of a port. -/
def Pkg.settlePort (s : Pkg) (t n : Nat) : Pkg := (List.range 8).foldl (fun s q => s.settleQ t n q) s

/-- A credit-based queue that is empty keeps no positive credit (R145). -/
def Pkg.emptyCredit (s : Pkg) (t n q : Nat) : Pkg :=
  if s.get t (fShaper n q) = 2 ∧ (s.queue t n q).isEmpty ∧ !s.sending t n q ∧ 0 < (s.qst t n q).credit then
    s.setQst t n q { s.qst t n q with credit := 0 }
  else s

/-- A queue from which a frame was taken without being sent: the deficit of an empty one is 0 (R142), and it keeps no positive credit (R145). -/
def Pkg.emptied (s : Pkg) (t n q : Nat) : Pkg :=
  let s := if (s.queue t n q).isEmpty then s.setQst t n q { s.qst t n q with deficit := 0 } else s
  s.emptyCredit t n q

/-- The shaper allows a queue (R143, R144). -/
def Pkg.shaperOk (s : Pkg) (t n q : Nat) : Bool :=
  s.get t (fShaper n q) == 0 || s.get t (fRate n q) == 0 || decide (0 ≤ s.creditNow t n q)

/-! ### Eligibility and choice (R140–R142) -/

/-- The head of a queue, when its cells are where transmission needs them. -/
def Pkg.headCopy (s : Pkg) (t n q : Nat) : Option Copy :=
  match s.queue t n q with
  | c :: _ => if c.loc = .ovf then none else some c
  | [] => none

/-- A queue is eligible but for the guard (R140). -/
def Pkg.ready (s : Pkg) (t n q : Nat) : Bool :=
  (s.headCopy t n q).isSome && ((s.gateList t n).gates (s.count t)).testBit q && !s.pausedQ t n q && s.shaperOk t n q &&
  !s.heldQ t n q && !(n == 16 && s.starvedQ t n q) && !((n == 16 || n == 21 || n == 22) && s.headWaits t n q)

/-- The frame at the head of a queue is refused by the guard: counted once for each frame (R150). -/
def Pkg.guardDefer (s : Pkg) (t n q : Nat) : Pkg :=
  match s.queue t n q with
  | c :: l =>
    if c.deferred then s
    else ((s.bump t (oPortGuard n)).bump t oGuardDefer).setQueue t n q ({ c with deferred := true } :: l)
  | [] => s

/-- The eligible queues of a port, with the guard's refusals counted. -/
def Pkg.eligible (s : Pkg) (t n : Nat) : Pkg × List Nat :=
  (List.range 8).foldl (fun (r : Pkg × List Nat) q =>
    if r.1.ready t n q then
      match r.1.headCopy t n q with
      | some c => if r.1.guardOk c then (r.1, r.2 ++ [q]) else (r.1.guardDefer t n q, r.2)
      | none => r
    else r) (s, [])

/-- The head charge of a queue. -/
def Pkg.headCharge (s : Pkg) (t n q : Nat) : Nat := match s.headCopy t n q with | some c => s.chargeOf c | none => 0

/-- The quantum of a queue (R142): one still at 0 is served with the port's MAX_FRAME. -/
def Pkg.quantum (s : Pkg) (t n q : Nat) : Nat := if s.get t (fQuantum n q) = 0 then s.get t (fMaxFrame n) else s.get t (fQuantum n q)

/-- The next member after cur in ascending order, wrapping. -/
def nextMember (l : List Nat) (cur : Nat) : Nat := ((l.find? (fun q => decide (cur < q))).or l.head?).getD 0

/-- Deficit round robin (R142): the queue reached, with the deficits its search gave out. -/
def Pkg.drrFrom (s : Pkg) (t n : Nat) (l : List Nat) (cur : Nat) : Nat → Pkg × Nat
  | 0 => (s, cur)
  | k + 1 =>
    let q := nextMember l cur
    let s := s.setQst t n q { s.qst t n q with deficit := (s.qst t n q).deficit + s.quantum t n q }
    if s.headCharge t n q ≤ (s.qst t n q).deficit then (s, q) else s.drrFrom t n l q k

/-- The queue served among eligible ones (R141); the DRR pointer of its group is kept as queue + 1. -/
def Pkg.choose (s : Pkg) (t n : Nat) (l : List Nat) : Option (Pkg × Nat) :=
  match l with
  | [] => none
  | _ :: _ =>
    let g := (l.map (fun q => s.get t (fGroup n q))).foldl max 0
    let ms := l.filter (fun q => s.get t (fGroup n q) == g)
    let q0 := ms.head?.getD 0
    if !s.on t (fDrr n q0) then some (s, q0)
    else
      let p := SMap.get 0 (s.port t n).ptr g
      let r := if p ≠ 0 ∧ ms.contains (p - 1) ∧ s.headCharge t n (p - 1) ≤ (s.qst t n (p - 1)).deficit then (s, p - 1)
        else s.drrFrom t n ms (if p = 0 then 8 else p - 1) 1200
      some (r.1.setPort t n { r.1.port t n with ptr := SMap.set 0 (r.1.port t n).ptr g (r.2 + 1) }, r.2)

/-! ### Timestamps (R168–R171) -/

/-- The 802.1AS message of a frame: where it starts, after the VLAN tags. -/
def ptpAt (bs : List Byte) : Option Nat :=
  let o := 12 + 4 * tagCount bs 4 12
  if beAt bs o 2 = 0x88F7 then some (o + 2) else none

/-- Sync, Pdelay_Req and Pdelay_Resp are event messages (R168). -/
def eventMsg (ty : Nat) : Bool := ty == 0 || ty == 2 || ty == 3

def fOneStep (n : Nat) : Fld := ⟨0x100200 + 0x10 * n, 0, 0⟩
def oTxLat (n : Nat) : Nat := 0x100204 + 0x10 * n
def oRxLat (n : Nat) : Nat := 0x100208 + 0x10 * n
def oTxtsLost : Nat := 0x100120
def oNoDomain : Nat := 0x100128

/-- A count with a signed correction in 2⁻¹⁶ ns. -/
def shiftTime (c : Nat) (w : Word) : Nat := ((c : Int) + sgn32 w).toNat

/-- A timestamp enters the tile's FIFO of 64 entries, or is lost (R170). -/
def Pkg.pushStamp (s : Pkg) (t : Nat) (x : TxStamp) : Pkg :=
  let l := SMap.get [] s.sw.stamps t
  if 64 ≤ l.length then s.bump t oTxtsLost else s.onSw (fun w => { w with stamps := SMap.set [] w.stamps t (l ++ [x]) })

/-- The domain instance of a domainNumber (R171). -/
def Pkg.domainOf (s : Pkg) (t d : Nat) : Option Nat :=
  (List.range 4).find? (fun i => fieldGet (s.rd t (0x100400 + 0x10 * i)) 31 31 == 1 && fieldGet (s.rd t (0x100400 + 0x10 * i)) 6 0 == d)

/-- One-step completion of a Sync (R171; the field places are those of IEEE 1588): originTimestamp and correctionField. -/
def Pkg.oneStep (s : Pkg) (t i : Nat) (bs : List Byte) (o stamp : Nat) : List Byte :=
  let off : Int := (BitVec.ofNat 64 (s.rd64 t (0x100404 + 0x10 * i))).toInt * 65536 + fieldGet (s.rd t (0x10040C + 0x10 * i)) 15 0
  let v := ((stamp : Int) + off).toNat
  let nsec := v / 65536
  let ts := beBytes 6 (nsec / 1000000000) ++ beBytes 4 (nsec % 1000000000)
  overwrite (overwrite bs (o + 34) ts) (o + 8) (beBytes 8 ((beAt bs (o + 8) 8 + v % 65536) % 2 ^ 64))

/-- What the timestamp request does to a frame that starts on a port (R170, R171). The timestamp is that of the message timestamp point (R169),
eight bytes of preamble after the start. -/
def Pkg.stampTx (s : Pkg) (c : Copy) (bs : List Byte) : Pkg × List Byte :=
  let t := c.tile
  let src := c.info.gin % 32
  match (if c.port < 16 ∧ c.info.tsReq ∧ (src = 16 ∨ src = 20) then ptpAt bs else none) with
  | none => (s, bs)
  | some o =>
    let ty := beAt bs o 1 % 16
    if !eventMsg ty then (s, bs)
    else
      let stamp := shiftTime (s.count t + s.wireTime t c.port 8) (s.rd t (oTxLat c.port))
      let x : TxStamp := { seqId := beAt bs (o + 30) 2, msgType := ty, port := c.port, domain := beAt bs (o + 4) 1, time := stamp }
      if ty = 0 ∧ s.on t (fOneStep c.port) then
        match s.domainOf t (beAt bs (o + 4) 1) with
        | some i => (s, s.oneStep t i bs o stamp)
        | none => ((s.bump t oNoDomain).pushStamp t x, bs)
      else (s.pushStamp t x, bs)

/-! ### Transmission (R109, R127, R132, R141, R154) -/

/-- Whether the edits take a frame beyond 9,216 bytes or the egress MAX_FRAME (Table 4-5, OVERSIZE_TX). -/
def Pkg.oversize (s : Pkg) (c : Copy) (n : Nat) : Bool := decide (9216 < n + 4) || decide (s.get c.tile (fMaxFrame c.port) < n + 4)

/-- MS_TX_NO_SA (Table 9-15). -/
def oTxNoSa : Nat := 0x1000828

/-- A head copy that has left its queue is discarded and not sent. -/
def Pkg.dropHead (s : Pkg) (c : Copy) (code : Nat) : Pkg :=
  ((((s.discard c.tile code c.port).freeCopy c).unspill c.tile c.port c.q).emptied c.tile c.port c.q).wdUpdate c.tile c.port c.q

/-- What a frame's start takes from its queue: its charge from a token bucket (R144), and from the deficit of a DRR queue, which is 0 once
the queue is empty (R142). -/
def Pkg.chargeStart (s : Pkg) (t n q charge : Nat) : Pkg :=
  let x := s.qst t n q
  s.setQst t n q
    { x with deficit := if (s.queue t n q).isEmpty then 0 else if s.on t (fDrr n q) then x.deficit - charge else x.deficit
             credit := if s.get t (fShaper n q) = 1 then x.credit - (charge * creditUnit : Nat) else x.credit }

/-- The head copy of queue q leaves its queue and starts on the wire; one with an uncorrectable cell is discarded (R134). -/
def Pkg.startTx (s : Pkg) (t n q : Nat) (cellOk : Bool) : Pkg :=
  match s.queue t n q with
  | [] => s
  | c :: l =>
    let charge := s.chargeOf c
    let s := (s.settlePort t n).setQueue t n q l
    let e := c.edited
    if !cellOk then s.dropHead c 22
    else
      let s := s.countEdits t (((s.frame c.frame).origin).getD c.frame) c.mc e
      if s.oversize c e.bytes.length then s.dropHead c 10
      else if s.ctrlPortDown t n e.bytes then (s.dropHead c 18).bump t oTxNoSa
      else
        let s := s.chargeStart t n q charge
        let st := s.stampTx c e.bytes
        let s := if s.on t (fMirTxEn n) ∧ !c.bad then st.1.mirror t (s.get t (fMirTx n)) st.2 c.info c.parse else st.1
        let m := if n < 16 then s.macsecTx t n st.2 else (s, st.2)
        let s := m.1.bump t (oTxFrames n q)
        let tx : Tx := { copy := c, bytes := m.2, start := s.now, left := charge - 20, express := !s.preemptable t n q, cut := c.cut }
        ((s.setPort t n { s.port t n with tx := some tx }).unspill t n q).wdUpdate t n q

/-- Bytes of the frame in transmission that this fragment holds when it ends at the next boundary that 802.3br permits (R152, R154): the fragment ends
with its mCRC on a boundary of 8 bytes of the wire (DEDUCED from Table 5-6) and is not shorter than the minimum. -/
def Pkg.sentBytes (s : Pkg) (t n : Nat) (x : Tx) : Nat :=
  max (ceilDiv ((s.now - x.start) * s.portRate t n / creditUnit - 8 + 4) 8 * 8 - 4) ((s.get t (fAddFrag n) + 1) * 64 - 4)

/-- The preemptable frame in transmission ends its fragment, when enough bytes of it remain (R154). The wire is free when the fragment's last byte and
its mCRC have gone. -/
def Pkg.splitTx (s : Pkg) (t n : Nat) (x : Tx) : Option Pkg :=
  let sent := s.sentBytes t n x
  if x.left < sent + 64 then none
  else
    let s := s.settlePort t n
    let s := s.setPort t n { s.port t n with tx := none, susp := some { x with left := x.left - sent }, busyTill := x.start + s.wireTime t n (sent + 12) }
    some ((s.bump t (oFragTx n)).flushControl t n)

/-- A preempted frame resumes (R154). -/
def Pkg.resumeTx (s : Pkg) (t n : Nat) (x : Tx) : Pkg :=
  let s := s.settlePort t n
  s.setPort t n { s.port t n with tx := some { x with start := s.now }, susp := none }

/-- TRANSMIT_DECISION (R68, R140–R143, R154): with nothing in transmission, the scheduler serves an express queue, or resumes a
preempted frame, or serves a preemptable queue; with a preemptable frame in transmission and preemption active, an express frame that is ready
preempts it. A start waits for the end of a fragment that still stands on the wire. -/
def transmitDecision (tile port : Nat) (cellOk : Bool) (at_ : Nat) (s : Pkg) : Pkg :=
  (s.reach at_).when (s.inService tile && s.hasPort tile port && s.linkUp tile port && port != 23 && s.ksState tile != 3) (fun s =>
    let s := if (s.port tile port).tx.isNone then s.reachFrac (s.port tile port).busyTill else s
    let e := s.eligible tile port
    let s := e.1
    let fast := e.2.filter (fun q => !s.preemptable tile port q)
    let slow := e.2.filter (fun q => s.preemptable tile port q)
    match (s.port tile port).tx with
    | none =>
      (match s.choose tile port fast with
       | some (s, q) => s.startTx tile port q cellOk
       | none =>
         match (s.port tile port).susp with
         | some x =>
           if ((s.gateList tile port).gates (s.count tile)).testBit x.copy.q ∧ !s.heldQ tile port x.copy.q then s.resumeTx tile port x else s
         | none =>
           match s.choose tile port slow with
           | some (s, q) => s.startTx tile port q cellOk
           | none => s)
    | some x =>
      if x.express ∨ !s.mmActive tile port ∨ (s.port tile port).susp.isSome then s
      else match s.choose tile port fast with
        | some (s', q) =>
          (match s'.splitTx tile port x with
           | some s2 => (s2.reachFrac (s2.port tile port).busyTill).startTx tile port q cellOk
           | none => s)
        | none => s)

/-- A copy is delivered at an internal port: to the DMA channels of ports 16 and 22 and to the trestle at 21, where one frame of a queue
waits at a time; to the steward's cores at 20 with its ingress timestamp (R170). -/
def Pkg.deliver (s : Pkg) (c : Copy) (bs : List Byte) : Pkg :=
  let dma : Bool := c.port == 16 || c.port == 22
  let d : Delivered := { tile := c.tile, port := c.port, q := c.q, bytes := bs, info := c.info, verdict := c.parse.verdict, reason := c.parse.reason,
                         kind := c.kind, at_ := s.count c.tile, hold := if dma && c.loc != .back then some c.frame else none }
  if c.port = 20 then (s.emit (.cpuFrame c.tile c.q c.parse.verdict c.parse.reason c.info.rxAt bs)).freeCopy c
  else
    let s := s.onSw (fun w => { w with got := w.got ++ [d] })
    if dma then s else s.freeCopy c

/-- TRANSMIT_END (R109, R127): the frame in transmission ends. A copy cut through whose frame was bad, or one whose cells have not all come over
their span by then, is stomped. Its copy is counted where it is delivered and its reference goes. -/
def transmitEnd (tile port at_ : Nat) (s : Pkg) : Pkg :=
  match (s.reach at_).port tile port with
  | { tx := some x, .. } =>
    let s := (s.reach at_).settlePort tile port
    let c := x.copy
    let s := s.setPort tile port { s.port tile port with tx := none }
    let stomp : Bool := (x.cut && c.bad) || (s.frame c.frame).up.isSome
    let s := if stomp then s.bump tile oCtStomp
      else match c.kind with
        | .fwd => if c.mc then s.bump tile oMcCopies else s
        | .trap => s
        | .mirror k => s.bump (k / 16) (oMirCopies (k % 16))
    let s := if macPort tile port then (s.emit (.frame tile port x.express stomp x.bytes)).freeCopy c else s.deliver c x.bytes
    ((s.flushControl tile port).emptyCredit tile port c.q).wdRestart tile port c.q
  | _ => s.reach at_

/-! ### Gate events (R148, R154–R157) -/

/-- Every frame of a WINDOW-FRESH queue is discarded at the close of its window (R156). -/
def Pkg.expireWindow (s : Pkg) (t n q : Nat) : Pkg :=
  let k := (s.queue t n q).length
  (((s.flushQueue t n q 14).emptyCredit t n q).add t (oPortWf n) k).add t oWfExpired k

/-- The preemptable frame in transmission ends its fragment because its gate has closed or a hold stands; one too short to split
completes and counts HOLD_OVERRUN, once (R154). Without preemption active no frame is fragmented (R153). -/
def Pkg.cutFragment (s : Pkg) (t n : Nat) : Pkg :=
  match (s.port t n).tx with
  | some x =>
    if x.express ∨ !s.mmActive t n ∨ (s.gateBit t n x.copy.q ∧ !s.heldQ t n x.copy.q) then s
    else (s.splitTx t n x).getD
      (if x.overrun then s else (s.bump t (oHoldOverrun n)).setPort t n { s.port t n with tx := some { x with overrun := true } })
  | none => s

/-- Apply new gate states to a port: windows that close expire (a port whose list was not in force has none, R155), a preemptable
frame whose gate closes is fragmented. -/
def Pkg.applyGates (s : Pkg) (t n gates entry : Nat) (hold wasOn : Bool) : Pkg :=
  let s := s.settlePort t n
  let old := s.get t (fGates n)
  let s := ((s.put t (fGates n) gates).put t (fGclEntry n) entry).put t (fHold n) (bit hold)
  let s := (List.range 8).foldl (fun s q => if wasOn && s.windowFresh t q && old.testBit q && !gates.testBit q then s.expireWindow t n q else s) s
  (List.range 8).foldl (fun s q => s.wdUpdate t n q) (s.cutFragment t n)

/-- GCL_ENTRY_START (R148): the entry in force starts: its gates and its OP. -/
def gclEntryStart (tile port at_ : Nat) (s : Pkg) : Pkg :=
  (s.reach at_).when (s.inService tile && port < 16 && s.hasPort tile port && s.on tile (fGateEn port)) (fun s =>
    match (s.gateList tile port).now (s.count tile) with
    | some x =>
      let hold : Bool := if x.op = 1 then true else if x.op = 2 then false else s.on tile (fHold port)
      s.applyGates tile port x.gates x.idx hold true
    | none => s)

/-- The port lists change at T_c (R149, R157): each enters at its position; a port without gates has all of them open and no hold. `wasOn`: the ports whose lists were in force before. -/
def Pkg.gatesAtCommit (s : Pkg) (t : Nat) (wasOn : List Nat) : Pkg :=
  (List.range 16).foldl (fun s n =>
    if !s.hasPort t n then s
    else
      let g := s.gateList t n
      if g.on then
        match g.now (s.count t) with
        | some x => s.applyGates t n x.gates x.idx (g.holdNow (s.count t)) (wasOn.contains n)
        | none => s
      else s.applyGates t n 0xFF 0 false false) s

/-- Token-bucket credits are capped at the BURST that a commit brings (R144). -/
def Pkg.capCredits (s : Pkg) (t : Nat) : Pkg :=
  (List.range 28).foldl (fun s n => (List.range 8).foldl (fun s q =>
    if s.get t (fShaper n q) = 1 then
      s.setQst t n q { s.qst t n q with credit := min (s.qst t n q).credit ((s.get t (fBurst n q) : Int) * creditUnit) }
    else s) s) s

/-- SHAPER_ELIGIBLE (R145): the instant the credit of a queue rises back to 0; the queue is eligible from then on. -/
def shaperEligible (tile port queue : Nat) (s : Pkg) : Pkg :=
  s.when (s.inService tile && s.hasPort tile port && s.get tile (fShaper port queue) != 0 && s.get tile (fRate port queue) != 0 &&
      decide (s.creditNow tile port queue < 0) && !s.sending tile port queue) (fun s =>
    let s := s.settleQ tile port queue
    let wait := ceilDiv (-(s.qst tile port queue).credit).toNat (s.get tile (fRate port queue))
    (s.reachFrac (s.now + wait)).settleQ tile port queue)

/-- The state of 802.3br verification when MERGE_EN, VERIFY_DIS or the link changes (R152). -/
def Pkg.mergeStart (s : Pkg) (t n : Nat) : Pkg :=
  let on := s.on t (fMergeEn n) && s.linkUp t n
  let s := s.settlePort t n
  if !on then (s.put t (fMmActive n) 0).put t (fVerify n) 0
  else if s.on t (fVerifyDis n) then (s.put t (fMmActive n) 1).put t (fVerify n) 0
  else if s.get t (fVerify n) = 0 then
    ((s.put t (fMmActive n) 0).put t (fVerify n) 1).setPort t n { s.port t n with attempts := 0 }
  else s

/-- MERGE_VERIFY (R152): a verification attempt ends; the third failure ends verification. Attempts are 10 ms apart: none ends before that. -/
def mergeVerify (tile port : Nat) (ok : Bool) (at_ : Nat) (s : Pkg) : Pkg :=
  (s.reach at_).when
    (s.inService tile && port < 16 && s.hasPort tile port && s.linkUp tile port && s.on tile (fMergeEn port) &&
      !s.on tile (fVerifyDis port) && s.get tile (fVerify port) == 1 &&
      ((s.port tile port).attempts == 0 || decide ((s.port tile port).triedAt + ns (ms 10) ≤ (s.reach at_).now))) (fun s =>
    if ok then ((s.settlePort tile port).put tile (fVerify port) 2).put tile (fMmActive port) 1
    else
      let k := (s.port tile port).attempts + 1
      let s := s.setPort tile port { s.port tile port with attempts := k, triedAt := s.now }
      if 3 ≤ k then s.put tile (fVerify port) 3 else s)

end Sys2Proof.Machine
end

