-- ==== Sys2Proof/Machine/Ingress.lean ====
section
/-! DEFINITION. Frames as they enter a tile: MAC checks, MACsec, cells, admission to the parser, the second pass (R63, R72, R74, R113–R115, R119, R127). -/
namespace Sys2Proof.Machine

/-! ### Received pause (R113, R121) -/

/-- A queue is held by its peer no longer: its pause and any stall end (R121). -/
def Pkg.liftPause (s : Pkg) (t p q : Nat) : Pkg :=
  let s := s.settleQ t p q
  let s := (s.setBit8 t (fPausedRx p) q false).setBit8 t (fStalled p) q false
  (s.setQst t p q { s.qst t p q with paused := 0 }).wdUpdate t p q

/-- The peer pauses queue q for some quanta of 512 bit times; 0 lifts the pause (R113). -/
def Pkg.takePause (s : Pkg) (t p q quanta : Nat) : Pkg :=
  if quanta = 0 then s.liftPause t p q
  else
    let s := (s.settleQ t p q).setBit8 t (fPausedRx p) q true
    (s.setQst t p q { s.qst t p q with paused := s.now + s.wireTime t p (64 * quanta) }).wdUpdate t p q

/-- A received PFC frame (R113): counted, and honoured on the queues enabled for it. -/
def Pkg.takePfc (s : Pkg) (t p enable : Nat) (quanta : List Nat) : Pkg :=
  (List.range 8).foldl (fun s q =>
    if enable.testBit q && (s.get t (fPfcRx p)).testBit q then s.takePause t p q (quanta.getD q 0) else s) (s.bump t (oPauseRx p))

/-- A received 802.3 pause (R113). -/
def Pkg.takePause8 (s : Pkg) (t p quanta : Nat) : Pkg :=
  let s := s.bump t (oPauseRx p)
  if s.on t (fPauseRx p) then (List.range 8).foldl (fun s q => s.takePause t p q quanta) s else s

/-! ### Admission (R61–R63) -/

/-- The frame on the recirculation account goes through its second pass (R95, R118). -/
def Pkg.secondPass (s : Pkg) (r : Recirc) : Pkg :=
  let s := s.onSw (fun w => { w with recirc := w.recirc.filter (fun x => x.frame != r.frame) })
  (s.process { tile := r.tile, frame := r.frame, bytes := r.bytes, info := r.info, pass := 1, passTag := r.tag, bad := r.bad }).dropRef r.frame

/-- The frames of a tile that have moved to the recirculation account (R119). -/
def Pkg.recircReady (s : Pkg) (t : Nat) : List Recirc := s.sw.recirc.filter (fun r => r.tile == t && (s.frame r.frame).charge.kind == .recirc)

/-- Port 23 takes precedence at parser admission (R118): the frames that have moved enter before any other port's frame does. -/
def Pkg.passFirst (s : Pkg) (t : Nat) : Pkg := (s.recircReady t).foldl (fun s r => s.secondPass r) s

/-- A frame with its cells charged goes through the pipeline after what port 23 holds, or waits ahead of the parser while the tile admits
nothing. The reference it holds meanwhile ends when its copies have been made. -/
def Pkg.letIn (s : Pkg) (x : PipeIn) : Pkg :=
  if s.admits x.tile then ((s.passFirst x.tile).process x).dropRef x.frame
  else s.onSw (fun w => { w with waitIn := w.waitIn ++
    [{ tile := x.tile, port := x.inPort, frame := x.frame, bytes := x.bytes, info := x.info, bad := x.bad }] })

/-- Admission resumes on a tile: what waits ahead of its parser goes in, in arrival order (R63), port 23 ahead of the others (R118). -/
def Pkg.readmit (s : Pkg) (t : Nat) : Pkg :=
  let l := s.sw.waitIn.filter (fun w => w.tile == t)
  let s := s.onSw (fun w => { w with waitIn := w.waitIn.filter (fun x => x.tile != t) })
  l.foldl (fun s w => ((s.passFirst t).process { tile := t, frame := w.frame, bytes := w.bytes, info := w.info, bad := w.bad }).dropRef w.frame) s

/-! ### Receiving (R72, R109, R114) -/

/-- The class a frame is charged to before classification: its descriptor's on ports 16, 20 and 21, else the PCP of its outermost VLAN
tag, 0 when it has none. -/
def arrivalClass (port : Nat) (f : RxFrame) : Nat :=
  if macPort 0 port then (if tagCount f.bytes 1 12 = 0 then 0 else beAt f.bytes 14 2 / 8192) else (f.tc.getD 0) % 8

/-- The reason a frame fails at the MAC (R72, Table 4-5); 0: it passes. -/
def Pkg.macFault (s : Pkg) (t p : Nat) (f : RxFrame) : Nat :=
  let n := f.bytes.length + 4
  if s.get t (fMaxFrame p) < n then 3 else if !f.fcsOk then 1 else if n < 64 then 2 else 0

/-- A frame on a port that may cut through has reached the pipeline before its FCS is known (R127). -/
def Pkg.mayCutIn (s : Pkg) (t p : Nat) : Bool := p < 16 && s.on t (fCutThrough p) && !s.on t (fRxMsEnable p)

/-- The ingress timestamp of a frame whose message timestamp point passed at a count (R168, R169): on the ports with a lane less RX_LAT, on ports 24–27
none. -/
def Pkg.rxStamp (s : Pkg) (t p count : Nat) : Nat :=
  if p < 16 then ((count : Int) - sgn32 (s.rd t (oRxLat p))).toNat else if p < 24 then count else 0

/-- A frame that has passed the MAC and MACsec stages draws its cells in its port's turn (R111) and is admitted. `at_`: the count at its message
timestamp point. -/
def Pkg.enter (s : Pkg) (t p tc n : Nat) (bytes : List Byte) (secured : Bool) (sc : Nat) (tsReq bad : Bool) (at_ : Nat) : Pkg :=
  match (s.takeTurn t p tc n).drawCells t p tc n with
  | none => s.discard t 19 p
  | some (s, charge) =>
    let rx := s.rxStamp t p at_
    let info : FrameMeta := { gin := t * 32 + p, zone := s.zoneOf p, secured := secured, sc := sc, tc := tc, rxAt := rx, tsReq := tsReq }
    let k := s.freshId
    let s := k.1.setFrame k.2 { tile := t, src := t, tc := tc, cells := n, charge := charge, refs := 1 }
    (s.noteDraw t p k.2).letIn { tile := t, frame := k.2, bytes := bytes, info := info, bad := bad }

/-- MS_RX_KEY_REVOKED (Table 9-15). -/
def oRxRevoked : Nat := 0x1000820

/-- A whole frame at a port with a MAC. MAC control frames are consumed there (R113). -/
def Pkg.receiveMac (s : Pkg) (t p : Nat) (f : RxFrame) (at_ : Nat) : Pkg :=
  let n := f.bytes.length + 4
  let tc := arrivalClass p f
  match s.macFault t p f with
  | 0 =>
    if beAt f.bytes 12 2 = 0x8808 then
      (if beAt f.bytes 14 2 = 0x0101 then s.takePfc t p (beAt f.bytes 16 2 % 256) ((List.range 8).map (fun i => beAt f.bytes (18 + 2 * i) 2))
       else if beAt f.bytes 14 2 = 1 then s.takePause8 t p (beAt f.bytes 16 2) else s.bump t (oPauseRx p))
    else if p < 16 ∧ s.on t (fRxMsEnable p) then
      match s.macsecRx t p f.bytes with
      | (s, .frame b secured sc) => s.enter t p tc (cellsOf n) b secured sc f.tsReq false at_
      | (s, .discard) => s.discard t 4 p
      | (s, .revoked) => (s.discard t 4 p).bump t oRxRevoked
    else s.enter t p tc (cellsOf n) f.bytes false 0 f.tsReq false at_
  | 1 =>
    let s := s.discard t 1 p
    if s.mayCutIn t p ∧ beAt f.bytes 12 2 ≠ 0x8808 then s.enter t p tc (cellsOf n) f.bytes false 0 f.tsReq true at_ else s
  | code => s.discard t code p

def oFragRx (n : Nat) : Nat := 0xC10058 + n * 0x100
def oAssyErr (n : Nat) : Nat := 0xC10068 + n * 0x100

/-- Reassembly of a preemptable frame is given up: the fragments received of it are discarded (TS_PORT_ASSY_ERR). -/
def Pkg.dropAssembly (s : Pkg) (t p : Nat) : Pkg :=
  match (s.port t p).asm with
  | some a => (s.add t (oAssyErr p) a.parts).setPort t p { s.port t p with asm := none }
  | none => s

/-- The receive half of the merge sublayer (R152, 802.3br): express frames pass; a fragment starts a frame or continues the one in reassembly, which its last
fragment ends. One that does not fit, or fails its mCRC, ends the reassembly with what it has. -/
def Pkg.receiveMerge (s : Pkg) (t p : Nat) (f : RxFrame) : Pkg :=
  match f.part with
  | .express => s.receiveMac t p f (s.count t)
  | .start n whole =>
    if !s.on t (fMergeEn p) then s
    else
      let s := s.dropAssembly t p
      if whole then s.receiveMac t p f (s.count t)
      else if !f.fcsOk then s.bump t (oAssyErr p)
      else s.setPort t p { s.port t p with asm := some { frame := n, next := 0, bytes := f.bytes, parts := 1, at_ := s.count t } }
  | .more n k last =>
    if !s.on t (fMergeEn p) then s
    else
      let s := s.bump t (oFragRx p)
      match (s.port t p).asm with
      | none => s.bump t (oAssyErr p)
      | some a =>
        if a.frame ≠ n ∨ a.next ≠ k ∨ (!f.fcsOk ∧ !last) then (s.dropAssembly t p).bump t (oAssyErr p)
        else if last then
          (s.setPort t p { s.port t p with asm := none }).receiveMac t p { f with bytes := a.bytes ++ f.bytes, part := .express } a.at_
        else s.setPort t p { s.port t p with asm := some { a with next := (k + 1) % 4, bytes := a.bytes ++ f.bytes, parts := a.parts + 1 } }

/-- The source of port 16, 20 or 21 is stopped by credit (R115). -/
def Pkg.creditStopped (s : Pkg) (t p : Nat) : Bool := s.get t (fXoffTx p) != 0

/-- A frame from the host port, the steward CPU port or the trestle port (R72, R115). -/
def Pkg.receiveInside (s : Pkg) (t p : Nat) (f : RxFrame) : Pkg :=
  s.enter t p (arrivalClass p f) (cellsOf (f.bytes.length + 4)) f.bytes false 0 f.tsReq false (s.count t)

/-- FRAME_RECEIVE (R72). -/
def frameReceive (tile port : Nat) (f : RxFrame) (at_ : Nat) (s : Pkg) : Pkg :=
  (s.reach at_).when (s.inService tile && s.hasPort tile port && s.linkUp tile port) (fun s =>
    if port < 16 then s.receiveMerge tile port f
    else if macPort tile port then s.receiveMac tile port f (s.count tile)
    else if (port = 16 ∨ port = 20 ∨ port = 21) ∧ !s.creditStopped tile port then s.receiveInside tile port f else s)

/-! ### The second pass (R95, R118, R119) -/

/-- RECIRCULATION_PASS (R95, R118, R119): the first frame that has moved to the recirculation account enters port 23 with pass number 1 and the
PASS_TAG of its first pass. -/
def recirculationPass (tile at_ : Nat) (s : Pkg) : Pkg :=
  (s.reach at_).when (s.inService tile && s.ksState tile != 3) (fun s =>
    match s.recircReady tile with
    | [] => s
    | r :: _ => s.secondPass r)

end Sys2Proof.Machine
end

