-- ==== Sys2Proof/Machine/SwitchCore.lean ====
section
/-! DEFINITION. Chapter 4's events: enqueue, span credit, pause, watchdog, overflow, link state, multicast hold (R110–R135). -/
namespace Sys2Proof.Machine

/-! ### Enqueue (R110, R116, R121, R126, R135, R165) -/

/-- The waiting copy with this number. -/
def Pkg.waitingCopy (s : Pkg) (id : Nat) : Option Copy := s.sw.waiting.find? (fun c => c.id == id)

/-- A waiting copy is discarded. -/
def Pkg.dropWaiting (s : Pkg) (c : Copy) (code : Nat) : Pkg :=
  let s := if code = 19 then s.discard (c.info.gin / 32) 19 (c.info.gin % 32) else s.discard c.tile code c.port
  (s.unwait c.id).dropRef c.frame

/-- The port has no frame in transmission and eight empty queues (R126). -/
def Pkg.idlePort (s : Pkg) (t p : Nat) : Bool :=
  (s.port t p).tx.isNone && (s.port t p).susp.isNone && (List.range 8).all (fun q => (s.queue t p q).isEmpty)

/-- A copy is cut through (R126). -/
def Pkg.cuts (s : Pkg) (c : Copy) : Bool :=
  let it := c.info.gin / 32
  let ip := c.info.gin % 32
  c.kind == .fwd && s.mayCutIn it ip && s.on c.tile (fCutThrough c.port) && s.idlePort c.tile c.port &&
  decide (s.portRate c.tile c.port ≤ s.portRate it ip) && !(s.qst c.tile c.port c.q).spilled && !s.pausedQ c.tile c.port c.q &&
  !s.guarded c.tile c.port c.q

/-- Enough of the copy's cells are on its egress tile to start it (R125, R126): all of them, or 2 of a frame that is crossing. -/
def Pkg.crossed (s : Pkg) (c : Copy) : Bool := (s.frame c.frame).up.isNone || decide (2 ≤ (s.frame c.frame).got)

/-- All of the copy's cells are on its egress tile. -/
def Pkg.crossedWhole (s : Pkg) (c : Copy) : Bool := (s.frame c.frame).up.isNone

/-- The copies on their egress tile that wait for a queue, in the order of their arrival (R110). -/
def Pkg.arrived (s : Pkg) (t p q : Nat) : List Copy := s.sw.waiting.filter (fun d => d.tile == t && d.port == p && d.q == q && s.crossed d)

/-- The span an egress port serves next (R27): of those that brought copies in one clock, the first after the span served last. -/
def Pkg.spanNext (s : Pkg) (t p : Nat) (l : List Copy) : Option Nat :=
  let last := SMap.get 0 s.sw.spanTurn (pKey t p)
  let has : Nat → Bool := fun v => l.any (fun c => c.via == some v)
  (((List.range 6).find? (fun v => decide (last ≤ v) && has v)).or ((List.range 6).find? has))

/-- The copy that joins a queue next (R27, R49, R110): the first that arrived there, and of those that several spans brought in the same clock the
one whose span's turn it is. -/
def Pkg.nextArrived (s : Pkg) (t p q : Nat) : Option Copy :=
  let l := s.arrived t p q
  match l with
  | [] => none
  | d :: _ =>
    if d.via.isNone then some d
    else
      let same := l.filter (fun c => c.via.isSome && c.came == d.came)
      same.find? (fun c => c.via == s.spanNext t p same)

/-- The copy is the one that joins its queue next (R49, R110). -/
def Pkg.firstWaiting (s : Pkg) (c : Copy) : Bool := match s.nextArrived c.tile c.port c.q with | some d => d.id == c.id | none => false

/-- The span of a copy that has joined its queue was the one served last (R27). -/
def Pkg.tookSpan (s : Pkg) (c : Copy) : Pkg :=
  match c.via with
  | some v => s.onSw (fun w => { w with spanTurn := SMap.set 0 w.spanTurn (pKey c.tile c.port) (v + 1) })
  | none => s

/-- A full queue that cannot spill holds its frames back (R110). -/
def Pkg.queueFull (s : Pkg) (t p q n : Nat) : Bool := s.atLimit t p q && !(s.maySpill t p q && s.ovfRoom t p q n)

/-- ENQUEUE (R110): a waiting copy is offered to its queue, and is discarded, or joins it in its turn, or goes on waiting. -/
def enqueue (tile copy at_ : Nat) (s : Pkg) : Pkg :=
  match (s.reach at_).waitingCopy copy with
  | none => s.reach at_
  | some c =>
    (s.reach at_).when (c.tile == tile && s.inService tile && s.crossed c) (fun s =>
      let cut := s.cuts c
      if c.bad && !cut then (s.unwait c.id).dropRef c.frame
      else if !s.linkUp tile c.port then (if c.mc then s else s.dropWaiting c 18)
      else if s.ctrlPortDown tile c.port c.edited.bytes then (s.dropWaiting c 18).bump tile oTxNoSa
      else if s.stalledQ tile c.port c.q then s.dropWaiting c 20
      else if s.windowFresh tile c.q && s.atLimit tile c.port c.q then s.dropWaiting c 19
      else if !s.firstWaiting c || s.queueFull tile c.port c.q c.cells then s
      else
        let r := (s.tookSpan c).recoverCopy c
        if !r.2 then r.1.dropWaiting c 13
        else
          let s := r.1.settleQ tile c.port c.q
          let s := if cut then (s.bump tile oCutThrough).bump tile (oCut c.port) else s
          (s.unwait c.id).joinQueue { c with cut := cut, rcvy := if s.bypassed c then none else c.rcvy })

/-! ### Crossing (R125, R28) -/

/-- The first frame from a source tile in a class that still needs credit. -/
def Pkg.needsCredit (s : Pkg) (t src tc : Nat) : Option (Nat × FrameRec) :=
  s.sw.frames.find? (fun e => e.2.tile == t && e.2.src == src && e.2.tc == tc && e.2.up.isSome)

/-- The copies of a frame that crosses have come to their tile: they wait for their queues behind those that came before (R27, R110). -/
def Pkg.arrive (s : Pkg) (id p : Nat) : Pkg :=
  s.onSw (fun w => { w with waiting := w.waiting.filter (fun c => c.frame != id) ++
    (w.waiting.filter (fun c => c.frame == id)).map (fun c => { c with came := s.now, via := some p }) })

/-- SPAN_CREDIT_GRANT (R125): cells of credit, from the span minimum first and the shared pool after that. While a queue that the frame
goes to is full and cannot spill, none is granted. Once credit covers 2 cells its copies may start (R126); once it covers the frame, the
frame has crossed and its reference on the source tile goes. -/
def spanCreditGrant (tile src tc cells at_ : Nat) (s : Pkg) : Pkg :=
  (s.reach at_).when (s.inService tile && s.inService src && s.pairUp tile src && tile != src) (fun s =>
    match s.needsCredit tile src tc with
    | none => s
    | some (id, f) =>
      let mine := s.sw.waiting.filter (fun c => c.frame == id)
      let held := !mine.isEmpty && mine.all (fun c => !s.windowFresh tile c.q && s.queueFull tile c.port c.q c.cells)
      let n := min cells (f.cells - f.got)
      let p := f.charge.port
      let fromMin := min n (s.get tile (fSpanMin p tc) - s.spanMinUsed tile p tc)
      let sh := n - fromMin
      if held || decide (s.freeShared tile < sh) then s
      else
        let s := s.setSpanMinUsed tile p tc (s.spanMinUsed tile p tc + fromMin)
        let s := s.setSpanShared tile src tc (s.spanShared tile src tc + sh)
        let s := s.setPool tile { s.pool tile with shared := (s.pool tile).shared + sh }
        let done : Bool := f.got + n == f.cells
        let s := if !mine.isEmpty && decide (f.got < min 2 f.cells) && decide (min 2 f.cells ≤ f.got + n) then s.arrive id p else s
        let s := s.setFrame id { f with got := f.got + n, charge := { f.charge with min := f.charge.min + n }, up := if done then none else f.up }
        if done then (match f.up with | some u => s.dropRef u | none => s) else s)

/-- A copy of a frame, wherever it stands. -/
def Pkg.copyOf (s : Pkg) (id : Nat) : Option Copy :=
  (s.sw.waiting.find? (fun c => c.frame == id)).or (s.sw.queues.findSome? (fun e => e.2.find? (fun c => c.frame == id)))

/-- Frames that still wait to cross move with their pair's traffic (R29): the span they arrive on is chosen anew, and the credit their cells drew on
the span that went DOWN stays with the port it was drawn at. -/
def Pkg.moveCharges (s : Pkg) : Pkg :=
  (s.sw.frames.filter (fun e => e.2.up.isSome && e.2.charge.kind == .span)).foldl (fun s e =>
    match s.copyOf e.1 with
    | none => s
    | some c =>
      let ap := s.arrivalPort e.2.tile e.2.src c.info.gin (e.2.tile * 32 + c.port)
      if ap = e.2.charge.port then s
      else s.setFrame e.1 { e.2 with charge := { kind := .span, port := ap, tc := e.2.tc },
                                     before := if e.2.charge.min = 0 then e.2.before else e.2.charge :: e.2.before }) s

/-- The queue of a tile that holds a copy whose frame has not wholly crossed, with its port and number. -/
def Pkg.queuedCopy (s : Pkg) (t id : Nat) : Option Copy :=
  s.sw.queues.findSome? (fun e => e.2.find? (fun c => c.id == id && c.tile == t && (s.frame c.frame).up.isSome))

/-- A copy in transmission will be stomped. -/
def Pkg.stompTx (s : Pkg) (t id : Nat) : Pkg :=
  (List.range 28).foldl (fun s p =>
    match (s.port t p).tx with
    | some x => if x.copy.id = id then s.setPort t p { s.port t p with tx := some { x with cut := true, copy := { x.copy with bad := true } } } else s
    | none => s) s

/-- Frames with cells in flight on a span that went DOWN are discarded whole at their egress tile (R28). One already in transmission there is
ended with an inverted FCS instead, as its cells do not arrive (R127). -/
def Pkg.spanLost (s : Pkg) (lost : List (Nat × Nat × Nat)) : Pkg :=
  lost.foldl (fun s (e, id, _) =>
    match s.waitingCopy id with
    | some c => if c.tile = e then s.dropWaiting c 21 else s
    | none =>
      match s.queuedCopy e id with
      | some c =>
        let s := (s.settleQ e c.port c.q).setQueue e c.port c.q ((s.queue e c.port c.q).filter (fun d => d.id != id))
        (((s.discard e 21 c.port).freeCopy c).unspill e c.port c.q).wdUpdate e c.port c.q
      | none => s.stompTx e id) s

/-! ### Pause (R112, R113) -/

/-- 1,024 quanta have passed since PFC of class c, or (c = 8) the pause, was last sent (R112). -/
def Pkg.refreshDue (s : Pkg) (t p c : Nat) : Bool := decide (SMap.get 0 (s.port t p).pauseSent c + s.wireTime t p 65536 ≤ s.now)

/-- PAUSE_REFRESH (R112): a port that holds XOFF repeats its PFC for a class, or its pause, 1,024 quanta after it last sent it. -/
def pauseRefresh (tile port at_ : Nat) (s : Pkg) : Pkg :=
  (s.reach at_).when (s.tileOn tile && macPort tile port && s.linkUp tile port) (fun s =>
    let s := (List.range 8).foldl (fun s c =>
      if s.holdsXoff tile port c && s.pfcClass tile port c && !s.windowFresh tile c && s.refreshDue tile port c then s.sendPfc tile port c 0xFFFF else s) s
    if s.pauseHeld tile port && s.refreshDue tile port 8 then s.sendPause tile port 0xFFFF else s)

/-- PFC_RECEIVE and PAUSE_RECEIVE (R113), at a port whose link is up. -/
def pfcReceive (tile port enable : Nat) (quanta : List Nat) (at_ : Nat) (s : Pkg) : Pkg :=
  (s.reach at_).when (s.tileOn tile && macPort tile port && s.hasPort tile port && s.linkUp tile port) (fun s => s.takePfc tile port enable quanta)
def pauseReceive (tile port quanta at_ : Nat) (s : Pkg) : Pkg :=
  (s.reach at_).when (s.tileOn tile && macPort tile port && s.hasPort tile port && s.linkUp tile port) (fun s => s.takePause8 tile port quanta)

/-- PAUSE_EXPIRE (R113, R121): the quanta of a queue's pause run out. -/
def pauseExpire (tile port queue : Nat) (s : Pkg) : Pkg :=
  s.when (s.tileOn tile && s.pausedQ tile port queue) (fun s =>
    (s.reachFrac (s.qst tile port queue).paused).liftPause tile port queue)

/-- What each port sends while it holds XOFF, before a commit: its PFC_TX mask and whether it keeps its peer paused. -/
def Pkg.pauseConfig (s : Pkg) (t : Nat) : List (Nat × Nat × Bool) :=
  ((List.range 28).filter (fun p => macPort t p && s.hasPort t p)).map (fun p => (p, s.get t (fPfcTx p), s.pauseHeld t p))

/-- Thresholds, PFC_TX and PAUSE_TX change at a commit (R112): what is newly enabled while XOFF stands is sent, what no longer holds is
released (DEDUCED: see the log). -/
def Pkg.pauseAtCommit (s : Pkg) (t : Nat) (old : List (Nat × Nat × Bool)) : Pkg :=
  old.foldl (fun s (p, mask, held) =>
    let s := (List.range 8).foldl (fun s c =>
      if s.holdsXoff t p c && s.pfcClass t p c && !s.windowFresh t c && !mask.testBit c then s.sendPfc t p c 0xFFFF
      else if s.holdsXoff t p c && !s.windowFresh t c && !s.pfcClass t p c && mask.testBit c then s.sendPfc t p c 0 else s) s
    let s := if s.pauseHeld t p && !held then s.sendPause t p 0xFFFF else if held && !s.pauseHeld t p then s.sendPause t p 0 else s
    (List.range 8).foldl (fun s c => s.updXoff t p c) s) s

/-! ### The watchdog (R121) -/

/-- A frame that a channel of the tile was taking from a queue is gone (R249). -/
def Pkg.rxLost (s : Pkg) (t q : Nat) : Pkg :=
  { s with dma := s.dma.filterMap (fun e =>
      if e.1 / 16 = t ∧ e.2.rxQ = q ∧ e.2.rxAt ≠ 0 then
        (let c : DmaCh := { e.2 with rxAt := 0, rxQ := 0 }
         if c = {} then none else some (e.1, c))
      else some e) }

/-- Frames of a queue of port 16 that wait at its head for their channel are flushed with it (R249). -/
def Pkg.flushHead (s : Pkg) (t p q code : Nat) : Pkg :=
  let mine : Delivered → Bool := fun d => d.tile == t && d.port == p && d.q == q
  let l := s.sw.got.filter mine
  let s := (s.onSw (fun w => { w with got := w.got.filter (fun d => !mine d) })).rxLost t q
  l.foldl (fun s d => let s := s.discard t code p; match d.hold with | some f => s.dropRef f | none => s) s

/-- When the watchdog's timer of a queue reaches STALL_MS (R121). -/
def Pkg.stallAt (s : Pkg) (t p q : Nat) : Nat := (s.qst t p q).wdSince - 1 + ns (ms (s.get t fStallMs))

/-- WATCHDOG_STALL (R121): the timer of a queue reaches STALL_MS. A pause that ends at that instant or before it wins. -/
def watchdogStall (tile port queue : Nat) (s : Pkg) : Pkg :=
  s.when (s.tileOn tile && s.on tile fWdEnable && (s.qst tile port queue).wdSince != 0 && !s.stalledQ tile port queue &&
      (port == 16 || decide (s.stallAt tile port queue < (s.qst tile port queue).paused))) (fun s =>
    let s := s.reachFrac (s.stallAt tile port queue)
    let s := (s.setBit8 tile (fStalled port) queue true).bump tile (oStalls port)
    let s := s.raise tile ⟨0x800020, port, port⟩
    ((((s.settleQ tile port queue).flushHead tile port queue 20).flushQueue tile port queue 20).emptyCredit tile port queue).wdUpdate tile port queue)

/-! ### Overflow memory (R122–R124) -/

/-- The first copy of a queue in some place, and the queue with it changed. -/
def replaceFirst (p : Copy → Bool) (f : Copy → Copy) : List Copy → List Copy
  | [] => []
  | c :: l => if p c then f c :: l else c :: replaceFirst p f l

/-- SPILL_WRITE_DONE (R122, R124): the next frame of a SPILLED queue that may spill has been written whole to overflow memory; its on-chip charge is
released and its span credit returned. -/
def spillWriteDone (tile port queue at_ : Nat) (s : Pkg) : Pkg :=
  (s.reach at_).when (s.tileOn tile) (fun s =>
    match (s.queue tile port queue).find? (fun c => c.loc == .toSpill) with
    | none => s
    | some c =>
      if !s.maySpill tile port queue || !s.ovfRoom tile port queue c.cells || !s.crossedWhole c then s
      else
        let s := s.setQueue tile port queue (replaceFirst (fun d => d.id == c.id) (fun d => { d with loc := .ovf }) (s.queue tile port queue))
        let s := s.setPool tile { s.pool tile with ovf := (s.pool tile).ovf + c.cells }
        ((s.bump tile oSpillFrames).bump tile (oSpilled port)).dropRef c.frame)

/-- OVERFLOW_READBACK (R123, R124): the next overflow frame of a queue comes back into the port's buffer of 16 cells; one with an
uncorrectable cell is discarded. -/
def overflowReadback (tile port queue : Nat) (eccOk : Bool) (at_ : Nat) (s : Pkg) : Pkg :=
  (s.reach at_).when (s.tileOn tile) (fun s =>
    let buf := ((List.range 8).map (fun q => cellsIn (s.queue tile port q) (fun l => l == .back))).sum
    match (s.queue tile port queue).find? (fun c => c.loc == .ovf) with
    | none => s
    | some c =>
      if buf ≠ 0 ∧ 16 < buf + c.cells then s
      else
        let s := s.setPool tile { s.pool tile with ovf := (s.pool tile).ovf - c.cells }
        if eccOk then s.setQueue tile port queue (replaceFirst (fun d => d.id == c.id) (fun d => { d with loc := .back }) (s.queue tile port queue))
        else
          let s := (s.settleQ tile port queue).setQueue tile port queue ((s.queue tile port queue).filter (fun d => d.id != c.id))
          (((s.discard tile 22 port).unspill tile port queue).emptied tile port queue).wdUpdate tile port queue)

/-! ### Multicast hold and link state (R131, R135) -/

/-- MC_HOLD_EXPIRE (R131): HOLD_US after its resolution a multicast copy that has not joined its queue is discarded for that port alone. -/
def mcHoldExpire (tile copy : Nat) (s : Pkg) : Pkg :=
  match s.waitingCopy copy with
  | some c =>
    s.when (c.tile == tile && c.mc) (fun s =>
      let s := s.reachFrac (c.born + ns (us (s.get (c.info.gin / 32) fHoldUs)))
      (s.mcLost tile c.frame).dropWaiting c 16)
  | none => s

/-- The frame in transmission and a preempted one are cut off with the link (R135). -/
def Pkg.cutOff (s : Pkg) (t p : Nat) : Pkg :=
  let x := s.port t p
  let s := s.setPort t p { x with tx := none, susp := none, control := [] }
  let go := fun (s : Pkg) (o : Option Tx) => match o with | some y => (s.discard t 18 p).freeCopy y.copy | none => s
  go (go s x.tx) x.susp

/-- LINK_DOWN (R135): every frame in the port's queues is discarded, on chip and in overflow memory. -/
def linkDown (tile port at_ : Nat) (s : Pkg) : Pkg :=
  (s.reach at_).when (s.tileOn tile && macPort tile port && s.hasPort tile port && s.on tile (fLinkUp port)) (fun s =>
    let s := ((s.dropAssembly tile port).settlePort tile port).put tile (fLinkUp port) 0
    let s := (List.range 8).foldl (fun s q => (s.flushQueue tile port q 18).emptyCredit tile port q) (s.cutOff tile port)
    ((s.mergeStart tile port).put tile (fVerify port) 0))

/-- LINK_UP (R135): frames are enqueued to the port again; on SGMII the negotiated rate is the port rate from now on. -/
def linkUp (tile port mbps at_ : Nat) (s : Pkg) : Pkg :=
  (s.reach at_).when (s.tileOn tile && macPort tile port && s.hasPort tile port && !s.on tile (fLinkUp port)) (fun s =>
    let s := (s.settlePort tile port).put tile (fLinkUp port) 1
    let s := if s.get tile (fPortMode port) = 1 then s.setPort tile port { s.port tile port with mbps := if mbps = 100 then 100 else 1000 } else s
    s.mergeStart tile port)

end Sys2Proof.Machine
end

