-- ==== Sys2Proof/Machine/Acf.lean ====
section
/-! DEFINITION. IEEE 1722 ACF frames and messages (R195–R198). The byte layouts of the standard are not in the spec (PRESUMED: see the
log); the CAN XL message is the model's, with the 32-byte header that R195's limits imply. -/
namespace Sys2Proof.Machine

/-- Bytes that pad n bytes to whole quadlets. -/
def padQuad (n : Nat) : Nat := (4 - n % 4) % 4

/-- The ACF type and header length of a message: CAN carries a timestamp when MTV is set, else it is CAN Brief (Table 6-7). -/
def acfKind (xl : Nat) (mtv : Bool) (fmt : Nat) : Nat × Nat :=
  if fmt = 2 then (xl % 128, 32) else if fmt = 3 then (3, 12) else if fmt = 4 then (0, 16)
  else if mtv then (1, 16) else (2, 8)

/-- The bytes an ACF message takes. -/
def acfBytes (xl : Nat) (mtv : Bool) (m : Msg) : Nat :=
  let n := (acfKind xl mtv m.fmt).2 + m.payload.length
  n + padQuad n

/-- An ACF message (R197). -/
def acfEncode (xl : Nat) (mtv : Bool) (m : Msg) : List Byte :=
  let k := acfKind xl mtv m.fmt
  let pad := padQuad (k.2 + m.payload.length)
  let q := min ((k.2 + m.payload.length + pad) / 4) 511
  let ts := if mtv then beBytes 8 m.stamp else List.replicate 8 0
  let bus := m.busId % 32
  let head := beBytes 2 (k.1 * 512 + q)
  let body :=
    if m.fmt = 2 then
      [BitVec.ofNat 8 (bit mtv * 32), BitVec.ofNat 8 bus] ++ ts ++ beBytes 2 (m.id % 2048) ++ beBytes 1 (m.id / 2048) ++
        beBytes 1 m.sdt ++ beBytes 4 m.af ++ beBytes 2 m.payload.length ++ List.replicate 10 0
    else if m.fmt = 3 then
      [BitVec.ofNat 8 (pad * 64 + bit mtv * 32 + bus), BitVec.ofNat 8 (m.id % 64)] ++ ts
    else if m.fmt = 4 then
      [BitVec.ofNat 8 (pad * 64 + bit mtv * 32 + bus), 0] ++ ts ++ beBytes 2 (m.id % 2048) ++ beBytes 2 (m.id / 2048 % 64)
    else
      let eff : Bool := m.fmt == 1
      [BitVec.ofNat 8 (pad * 64 + bit mtv * 32 + bit m.rtr * 16 + bit eff * 8 + bit m.fd * 4 + bit m.fd * 2), BitVec.ofNat 8 bus] ++
        (if mtv then ts else []) ++ beBytes 4 (m.id % (if eff then 2 ^ 29 else 2048))
  head ++ body ++ m.payload ++ List.replicate pad 0

/-- The AVTP frame of a stream from its destination, tag, stream_id and ACF bytes (R195–R197), filled to the Ethernet minimum. -/
def acfFrameBytes (da sa : Nat) (tag : Option Nat) (tscf : Bool) (seq sid : Nat) (acf : List Byte) : List Byte :=
  let n := acf.length
  let avtp :=
    if tscf then [0x05, 0x80, BitVec.ofNat 8 seq, 0] ++ beBytes 8 sid ++ beBytes 4 0 ++ beBytes 4 0 ++ beBytes 2 n ++ [0, 0]
    else beBytes 1 0x82 ++ beBytes 2 (0x8000 + n % 2048) ++ beBytes 1 seq ++ beBytes 8 sid
  let b := beBytes 6 da ++ beBytes 6 sa ++ (match tag with | some t => beBytes 2 0x8100 ++ beBytes 2 t | none => []) ++
    beBytes 2 0x22F0 ++ avtp ++ acf
  b ++ List.replicate (60 - b.length) 0

/-- What is found at one place of the ACF data (R198): a message, a type not supported, or a length that runs past the data. -/
inductive AcfItem where
  | msg (m : Msg) (len : Nat)
  | unknown (len : Nat)
  | bad
deriving DecidableEq, Repr

/-- The message at the front of the ACF data. -/
def acfItem (xl : Nat) (d : List Byte) : AcfItem :=
  let typ := beAt d 0 1 / 2
  let len := beAt d 0 2 % 512 * 4
  let fl := beAt d 2 1
  let pad := fl / 64
  let plain := fun (hdr : Nat) (m : Msg) =>
    if d.length < 2 ∨ len < hdr + pad ∨ d.length < len then AcfItem.bad else .msg { m with payload := sliceBytes d hdr (len - pad - hdr) } len
  let can := fun (hdr : Nat) =>
    let eff : Bool := fl.testBit 3
    plain hdr { src := 28, fmt := bit eff, id := beAt d (hdr - 4) 4 % (if eff then 2 ^ 29 else 2048), payload := [], busId := beAt d 3 1 % 32
                rtr := fl.testBit 4, fd := fl.testBit 1 }
  if d.length < 4 then .bad
  else if typ = 1 then can 16
  else if typ = 2 then can 8
  else if typ = 3 then plain 12 { src := 28, fmt := 3, id := beAt d 3 1 % 64, payload := [], busId := fl % 32 }
  else if typ = 0 then plain 16 { src := 28, fmt := 4, id := beAt d 12 2 % 2048 + beAt d 14 2 % 64 * 2048, payload := [], busId := fl % 32 }
  else if typ = xl % 128 then
    let n := beAt d 20 2
    let whole := 32 + n + padQuad (32 + n)
    if d.length < 22 ∨ d.length < whole then .bad
    else .msg { src := 28, fmt := 2, id := beAt d 12 2 % 2048 + beAt d 14 1 * 2048, payload := sliceBytes d 32 n, busId := beAt d 3 1 % 32
                sdt := beAt d 15 1, af := beAt d 16 4 } whole
  else if len = 0 ∨ d.length < len then .bad else .unknown len

/-- The messages of a frame in order, the unsupported ones, and whether its data ended badly (R198). -/
def acfItems (xl : Nat) : Nat → List Byte → List Msg × Nat × Bool
  | 0, _ => ([], 0, false)
  | fuel + 1, d =>
    if d.isEmpty then ([], 0, false)
    else match acfItem xl d with
      | .msg m n => let r := acfItems xl fuel (d.drop n); (m :: r.1, r.2.1, r.2.2)
      | .unknown n => let r := acfItems xl fuel (d.drop n); (r.1, r.2.1 + 1, r.2.2)
      | .bad => ([], 0, true)

/-- The header of an AVTP frame (R198): stream_id, sequence number and ACF data; none: a header fault. -/
def avtpHeader (bs : List Byte) (off : Nat) : Option (Nat × Nat × List Byte) :=
  let h := off + 2
  let sub := beAt bs h 1
  let b1 := beAt bs (h + 1) 1
  let take := fun (n seq start : Nat) =>
    if b1 / 16 ≠ 8 ∨ bs.length < start + n then none else some (beAt bs (h + 4) 8, seq, sliceBytes bs start n)
  if bs.length < h + 12 ∨ beAt bs off 2 ≠ 0x22F0 then none
  else if sub = 0x82 then take (b1 % 8 * 256 + beAt bs (h + 2) 1) (beAt bs (h + 3) 1) (h + 12)
  else if sub = 0x05 ∧ h + 24 ≤ bs.length then take (beAt bs (h + 20) 2) (beAt bs (h + 2) 1) (h + 24)
  else none

end Sys2Proof.Machine
end

