-- ==== Sys2Proof/Machine/E2E.lean ====
section
/-! DEFINITION. Check values by the presets of Table 8-4, and the headers of the AUTOSAR E2E profiles (R205–R207). Which bytes each profile's CRC covers,
and the byte order of its header, follow AUTOSAR, which R205 names (PRESUMED: see the log). -/
namespace Sys2Proof.Machine

/-- The parameters of a check (Table 8-4). -/
structure CrcPar where
  width  : Nat
  poly   : Nat
  init   : Nat
  refin  : Bool
  refout : Bool
  xorout : Nat
deriving DecidableEq, Repr

/-- Table 8-4. -/
def crcPreset (i : Nat) : CrcPar :=
  match i with
  | 1 => ⟨8, 0x1D, 0xFF, false, false, 0xFF⟩
  | 2 => ⟨8, 0x2F, 0xFF, false, false, 0xFF⟩
  | 3 => ⟨16, 0x1021, 0xFFFF, false, false, 0⟩
  | 4 => ⟨32, 0x04C11DB7, 0xFFFFFFFF, true, true, 0xFFFFFFFF⟩
  | 5 => ⟨32, 0x1EDC6F41, 0xFFFFFFFF, true, true, 0xFFFFFFFF⟩
  | 6 => ⟨32, 0xF4ACFB13, 0xFFFFFFFF, true, true, 0xFFFFFFFF⟩
  | _ => ⟨64, 0x42F0E1EBA9EA3693, 0xFFFFFFFFFFFFFFFF, true, true, 0xFFFFFFFFFFFFFFFF⟩

/-- The running value after one more byte (R258): most significant bit first, or least significant first when REFIN is set. The value is
held unreflected. -/
def crcByte (p : CrcPar) (c : Nat) (b : Byte) : Nat :=
  let v := if p.refin then reflectBits 8 b.toNat else b.toNat
  crcStepsL p.width p.poly 8 (Nat.xor c (v * 2 ^ (p.width - 8)))

/-- The result of a running value: reflected when REFOUT is set, then XORed. -/
def crcResult (p : CrcPar) (c : Nat) : Nat := Nat.xor (if p.refout then reflectBits p.width c else c) p.xorout

/-- The check value of some bytes. -/
def crcOf (p : CrcPar) (bs : List Byte) : Nat := crcResult p (bs.foldl (crcByte p) p.init)

/-- Where a profile keeps its header: CRC, counter, length, data ID, as (offset, bytes) from OFFSET; whether the CRC is little-endian
(Table 6-9). -/
structure E2eShape where
  preset : Nat
  crc    : Nat × Nat
  ctr    : Nat × Nat
  nibble : Bool := false
  len    : Option (Nat × Nat) := none
  id     : Option (Nat × Nat) := none
  crcLe  : Bool := false
  modulus : Nat
deriving DecidableEq, Repr

def e2eShape (profile : Nat) : E2eShape :=
  match profile with
  | 1 | 11 => { preset := 1, crc := (0, 1), ctr := (1, 1), nibble := true, modulus := 15 }
  | 2 | 22 => { preset := 2, crc := (0, 1), ctr := (1, 1), nibble := true, modulus := 16 }
  | 4 => { preset := 6, crc := (8, 4), ctr := (2, 2), len := some (0, 2), id := some (4, 4), modulus := 65536 }
  | 5 => { preset := 3, crc := (0, 2), ctr := (2, 1), crcLe := true, modulus := 256 }
  | 6 => { preset := 3, crc := (0, 2), ctr := (4, 1), len := some (2, 2), modulus := 256 }
  | _ => { preset := 7, crc := (0, 8), ctr := (12, 4), len := some (8, 4), id := some (16, 4), modulus := 2 ^ 32 }

/-- Bytes of the header. -/
def E2eShape.size (h : E2eShape) (profile : Nat) : Nat :=
  match profile with | 4 => 12 | 5 => 3 | 6 => 5 | 7 => 20 | _ => h.ctr.1 + h.ctr.2

/-- The counter in a payload. -/
def E2eShape.counter (h : E2eShape) (bs : List Byte) (off : Nat) : Nat :=
  let v := beAt bs (off + h.ctr.1) h.ctr.2
  if h.nibble then v % 16 else v

/-- The bytes the CRC covers (R205, R207): the payload without the CRC field, with the data ID that is not transmitted. -/
def e2eCovered (profile off ctr dataId : Nat) (list : List Byte) (bs : List Byte) : List Byte :=
  let h := e2eShape profile
  let rest := bs.take (off + h.crc.1) ++ bs.drop (off + h.crc.1 + h.crc.2)
  let lo := BitVec.ofNat 8 dataId
  let hi := BitVec.ofNat 8 (dataId / 256)
  match profile with
  | 1 | 11 => lo :: hi :: rest
  | 2 | 22 => rest ++ [list.getD (ctr % 16) 0]
  | 5 => rest ++ [lo, hi]
  | 6 => rest ++ [hi, lo]
  | _ => rest

/-- Overwrite within a payload: bytes past its end are not written. -/
def writeWithin (bs : List Byte) (o : Nat) (new : List Byte) : List Byte := (overwrite bs o new).take bs.length

/-- The results of a check (R206). -/
inductive E2eRes where
  | ok | someLost | repeated | wrongSeq | error
deriving DecidableEq, Repr

/-- A header without fault: long enough, CRC, data ID and length right (R206). -/
def e2eSound (profile off dataId : Nat) (list bs : List Byte) : Bool :=
  let h := e2eShape profile
  let ctr := h.counter bs off
  let c := crcOf (crcPreset h.preset) (e2eCovered profile off ctr dataId list bs)
  decide (off + h.size profile ≤ bs.length) &&
  (if h.crcLe then leAt bs (off + h.crc.1) h.crc.2 == c else beAt bs (off + h.crc.1) h.crc.2 == c) &&
  (match h.len with | some (o, n) => beAt bs (off + o) n == bs.length | none => true) &&
  (match h.id with | some (o, n) => beAt bs (off + o) n == dataId % 256 ^ n | none => true)

/-- The payload with its header written for a counter (R207). -/
def e2eWrite (profile off ctr dataId : Nat) (list bs : List Byte) : List Byte :=
  let h := e2eShape profile
  let c0 := beAt bs (off + h.ctr.1) 1
  let bs := writeWithin bs (off + h.ctr.1) (if h.nibble then [BitVec.ofNat 8 (c0 / 16 * 16 + ctr % 16)] else beBytes h.ctr.2 ctr)
  let bs := match h.len with | some (o, n) => writeWithin bs (off + o) (beBytes n bs.length) | none => bs
  let bs := match h.id with | some (o, n) => writeWithin bs (off + o) (beBytes n dataId) | none => bs
  let c := crcOf (crcPreset h.preset) (e2eCovered profile off ctr dataId list bs)
  writeWithin bs (off + h.crc.1) (if h.crcLe then leBytes h.crc.2 c else beBytes h.crc.2 c)

end Sys2Proof.Machine
end

