-- ==== Sys2Proof/Machine/Policy.lean ====
section
/-! DEFINITION. The mode, lifecycle and debug matrix (Table 10-4), POLICY_SUBSET as PW_POLICY shows it (R305), and what a keystone commit
does to modes. -/
namespace Sys2Proof.Machine

/-- Lifecycle states by their codes in FU STATE (Table 9-1). -/
def lBlank : Nat := 0
def lProvisioned : Nat := 1
def lField : Nat := 2
def lService : Nat := 3
def lScrapped : Nat := 4

/-- FU fields (Table 9-1). -/
def fFuProvisioned : Fld := ⟨0x70000, 0, 0⟩
def fFuField : Fld := ⟨0x70000, 1, 1⟩
def fFuScrapped : Fld := ⟨0x70000, 2, 2⟩
def fFuState : Fld := ⟨0x70000, 10, 8⟩
def fRootPresent : Fld := ⟨0x70000, 11, 11⟩
def fRootLocked : Fld := ⟨0x70000, 12, 12⟩
def fDebugCap : Fld := ⟨0x70000, 17, 16⟩
def fVendorRevoked : Fld := ⟨0x70000, 19, 18⟩

/-- The lifecycle the fuses spell, SERVICE while a SERVICE_ENTRY ticket stands (R266). -/
def Pkg.fuseLife (s : Pkg) : Nat :=
  if s.on 15 fFuScrapped then lScrapped
  else if s.on 15 fFuField then (if s.mode.service.isSome then lService else lField)
  else if s.on 15 fFuProvisioned then lProvisioned else lBlank

/-- The lifecycle that governs: a newly programmed fuse governs from the next restart (R266). -/
def Pkg.life (s : Pkg) : Nat :=
  if s.mode.govLife = lField ∧ s.mode.service.isSome then lService else s.mode.govLife

/-- Table 10-4 without the DEBUG_CAP conditions: bit 0 the mode is permitted (C), bit 1 T, bit 2 I. In DEBUG the level is
always I. -/
def matrixCell (mode life : Nat) : Nat :=
  match mode with
  | 0 | 1 => if life = lService then 0 else 1
  | 2 => if life = lProvisioned ∨ life = lField then 1 else 0
  | 3 | 4 => if life = lService then 0 else 1
  | 5 | 6 | 7 => if life = lBlank ∨ life = lScrapped then 0 else 7
  | 8 => if life = lBlank ∨ life = lScrapped then 0 else 3
  | 9 => if life = lScrapped then 0 else 5
  | 10 => if life = lBlank then 0 else if life = lScrapped then 3 else 7
  | 11 => if life = lField ∨ life = lScrapped then 0 else 7
  | _ => 0

/-- PW_POLICY (m), lifecycle l: bits [3l+2:3l] (Table 10-7). -/
def fPolicy (m l : Nat) : Fld := ⟨0x60100 + 4 * m, 3 * l + 2, 3 * l⟩

/-- The matrix as narrowed by POLICY_SUBSET (R305); in BLANK, and before an image is loaded, it is not narrowed. -/
def Pkg.policyCell (s : Pkg) (mode life : Nat) : Nat :=
  if life = lBlank ∨ !s.mode.policyIn then matrixCell mode life else s.get 15 (fPolicy mode life)

/-- The DEBUG_CAP conditions of Table 10-4, which hold in FIELD and SERVICE: T needs at least 1, I needs 2. -/
def capAllows (life cap level : Nat) : Bool :=
  if life = lField ∨ life = lService then level ≤ cap else true

/-- A debug level is permitted in a mode and lifecycle (R303, R304). Levels: 0 CLOSED, 1 TRACE, 2 INVASIVE. -/
def Pkg.levelAllowed (s : Pkg) (mode life level : Nat) : Bool :=
  (s.policyCell mode life).testBit level && capAllows life s.mode.govCap level

/-- A mode is permitted in a lifecycle by the matrix; by POLICY_SUBSET. -/
def matrixAllows (mode life : Nat) : Bool := (matrixCell mode life).testBit 0
def Pkg.policyAllows (s : Pkg) (mode life : Nat) : Bool := (s.policyCell mode life).testBit 0

/-- The mask of every present tile. -/
def allTiles (v : Variant) : Nat := 2 ^ v.tiles - 1

/-- What a keystone commit on the coordinator does to the mode (Table 10-2): a requested change of the powered tiles takes
effect, tiles removed go into retention and the mode becomes RUN or RUN-PARTIAL; a requested PROVISION takes effect. A request that meets another mode
is dropped (R296). -/
def Pkg.modeAtCommit (s : Pkg) : Pkg :=
  if s.modeNow ≠ mRun ∧ s.modeNow ≠ mRunPartial then s.onMode (fun m => { m with nextParts := none, provNext := false })
  else
    let s := match s.mode.nextParts with
      | some (mask, target) =>
        let s := (s.put 15 fTilesOn mask).onMode (fun m => { m with nextParts := none })
        if s.modeNow = target then s else s.setMode target 9
      | none => s
    if s.mode.provNext then (s.onMode (fun m => { m with provNext := false })).setMode mProvision 9 else s

end Sys2Proof.Machine
end

