-- ==== Sys2Proof/Machine/Vault.lean ====
section
/-! DEFINITION. The key vault: slots, derivation, import, nonces, attestation, revocation on the sentinel (R264–R281, R290). -/
namespace Sys2Proof.Machine

/-! ### Registers (Tables 9-1, 9-13, 9-14) -/

def fKyBusy : Fld := ⟨0x10000, 0, 0⟩
def fKyDone : Fld := ⟨0x10000, 1, 1⟩
def fKyLocked : Fld := ⟨0x10000, 2, 2⟩
def fKyZeroised : Fld := ⟨0x10000, 3, 3⟩
def fKyResult : Fld := ⟨0x10000, 11, 8⟩
def fSlotsUsed : Fld := ⟨0x10000, 28, 16⟩
def oKyArg0 : Nat := 0x10008
def oKyExpiry : Nat := 0x1000C
def fRvLead : Fld := ⟨0x10014, 9, 0⟩
def fNewSlot : Fld := ⟨0x10018, 11, 0⟩
def fNewGen : Fld := ⟨0x10018, 23, 16⟩
def oKyCtx : Nat := 0x10020
def oKyNonce : Nat := 0x10040
def oRvTr : Nat := 0x10050
def fRvPending : Fld := ⟨0x10058, 3, 0⟩
def fRvDone : Fld := ⟨0x10058, 4, 4⟩
def fRvSeq : Fld := ⟨0x10058, 31, 16⟩
def oKyDerives : Nat := 0x10100
def oKyImports : Nat := 0x10108
def oKyRevokes : Nat := 0x10110
def oKySwept : Nat := 0x10118
def oKyRefused : Nat := 0x10120
def oKyTamperAborts : Nat := 0x10128
def oKyTicketsOk : Nat := 0x10130
def oKyTicketsBad : Nat := 0x10138
def oKyFuseFail : Nat := 0x10140
def oKyIn : Nat := 0x12000
def oKyAttest : Nat := 0x14000
def oKyOut : Nat := 0x17000
def fTpLine : Fld := ⟨0x50000, 0, 0⟩
def fTpSources : Fld := ⟨0x50004, 7, 0⟩
def fTpBoot : Fld := ⟨0x50004, 8, 8⟩
def fTpPark : Fld := ⟨0x50004, 9, 9⟩
def fTpKeyOp : Fld := ⟨0x50004, 10, 10⟩

/-- Results of Table 9-13. -/
def kOk : Nat := 0
def kBusy : Nat := 1
def kNoSlot : Nat := 2
def kBadSlot : Nat := 3
def kPolicy : Nat := 4
def kDepth : Nat := 5
def kRevoked : Nat := 6
def kTampered : Nat := 7
def kRefused : Nat := 8
def kBadBlob : Nat := 9
def kBadTicket : Nat := 10
def kNoTimer : Nat := 11

/-- Update of the vault substate. -/
def Pkg.onVault (s : Pkg) (f : VaultSt → VaultSt) : Pkg := { s with vault := f s.vault }

/-- ROOT_LOCKED (R265): no root, SCRAPPED, or locked by tamper. -/
def Pkg.rootLocked (s : Pkg) : Bool := s.on 15 fRootLocked || !s.on 15 fRootPresent || s.on 15 fFuScrapped

/-! ### Slots (R267–R269) -/

/-- Slot metadata (Table 9-2). -/
def slotOff (k : Nat) : Nat := 0x18000 + 8 * k
def fSlParent (k : Nat) : Fld := ⟨slotOff k, 11, 0⟩
def fSlDepth (k : Nat) : Fld := ⟨slotOff k, 15, 12⟩
def fSlState (k : Nat) : Fld := ⟨slotOff k, 17, 16⟩
def fSlKind (k : Nat) : Fld := ⟨slotOff k, 21, 18⟩
def fSlTimer (k : Nat) : Fld := ⟨slotOff k, 27, 22⟩
def fSlHasTimer (k : Nat) : Fld := ⟨slotOff k, 28, 28⟩
def fSlPolicy (k : Nat) : Fld := ⟨slotOff k + 4, 15, 0⟩
def fSlLabel (k : Nat) : Fld := ⟨slotOff k + 4, 23, 16⟩
def fSlGen (k : Nat) : Fld := ⟨slotOff k + 4, 31, 24⟩

/-- A slot and its ancestors, up to the given number of steps (R267: depths 0–8). -/
def Pkg.lineUp (s : Pkg) : Nat → Nat → List Nat
  | 0, k => [k]
  | n + 1, k => if k = 0 then [0] else k :: s.lineUp n (s.get 15 (fSlParent k))

/-- A slot with all its ancestors. -/
def Pkg.line (s : Pkg) (k : Nat) : List Nat := s.lineUp 9 k

/-- The slots of a subtree that are not EMPTY (R273). -/
def Pkg.subtree (s : Pkg) (k : Nat) : List Nat :=
  (List.range 4096).filter (fun j => s.get 15 (fSlState j) != 0 && (s.line j).contains k)

/-- A slot is unusable by revocation (R275): marked REVOKED, or in the subtree of a revocation whose T_r has passed. -/
def Pkg.slotRevoked (s : Pkg) (k : Nat) : Bool :=
  s.get 15 (fSlState k) == 2 || s.vault.revs.any (fun r => r.committed && (s.line k).contains r.slot)

/-- A slot is pending or revoked: nothing can be made under it (R273). -/
def Pkg.slotPending (s : Pkg) (k : Nat) : Bool :=
  s.get 15 (fSlState k) == 2 || s.vault.revs.any (fun r => (s.line k).contains r.slot)

/-- A slot may be used: ACTIVE and not revoked (R269). -/
def Pkg.slotActive (s : Pkg) (k : Nat) : Bool := s.get 15 (fSlState k) == 1 && !s.slotRevoked k

/-- STATE as a read of the metadata shows it: the progress of a sweep is never visible (R275). -/
def Pkg.slotShown (s : Pkg) (k : Nat) : Word :=
  if s.get 15 (fSlState k) = 1 ∧ s.slotRevoked k then fieldSet (s.rd 15 (slotOff k)) 17 16 2 else s.rd 15 (slotOff k)

/-- The key of a slot. -/
def Pkg.slotKey (s : Pkg) (k : Nat) : List Byte := SMap.get [] s.vault.keys k

/-- Set SLOTS_USED to what is in use. -/
def Pkg.countUsed (s : Pkg) (d : Int) : Pkg := s.put 15 fSlotsUsed ((s.get 15 fSlotsUsed : Int) + d).toNat

/-- A slot is filled (R268): its parent, kind, policy, label, timer, key, and the digest of its context. -/
def Pkg.fillSlot (s : Pkg) (k parent depth kind policy label : Nat) (timer : Option Nat) (key ctx : List Byte) : Pkg :=
  let gen := s.get 15 (fSlGen k)
  let t := match timer with | some t => t * 2 ^ 22 + 2 ^ 28 | none => 0
  let s := s.wr 15 (slotOff k) (BitVec.ofNat 32 (parent + depth * 2 ^ 12 + 2 ^ 16 + kind * 2 ^ 18 + t))
  let s := s.wr 15 (slotOff k + 4) (BitVec.ofNat 32 (policy + label * 2 ^ 16 + gen * 2 ^ 24))
  s.onVault (fun v => { v with keys := SMap.set [] v.keys k key, ctx4 := SMap.set [] v.ctx4 k ((sha256Bytes ctx).take 4) })

/-! ### Derivation (R270) -/

/-- The ASCII bytes of a string. -/
def ascii (x : String) : List Byte := x.toList.map (fun c => BitVec.ofNat 8 c.toNat)

/-- The label a code stands for (Table 9-4); none: not listed. -/
def labelOf (code : Nat) : Option (List Byte) :=
  match code with
  | 0x10 => some (ascii "IKD.FLEET") | 0x11 => some (ascii "IKD.VEHICLE") | 0x12 => some (ascii "IKD.SESSION")
  | 0x13 => some (ascii "IKD.COMMAND") | 0x14 => some (ascii "IKD.SECOC") | 0x15 => some (ascii "IKD.MKA-CAK")
  | 0x16 => some (ascii "IKD.MKA-KEK") | 0x17 => some (ascii "IKD.SERVICE")
  | _ => if 0x20 ≤ code ∧ code ≤ 0x3F then some (ascii "IKD.USER" ++ [BitVec.ofNat 8 code]) else none

/-- SP 800-108 in counter mode (R270): `bits` bits of key material. -/
def kdf (cmacPrf : Bool) (key label ctx : List Byte) (bits : Nat) : List Byte :=
  let block := fun (i : Nat) =>
    let m := beBytes 4 i ++ label ++ [0] ++ ctx ++ beBytes 4 bits
    if cmacPrf then cmacBytes key m else hmacBytes key m
  (block 1 ++ block 2).take (bits / 8)

/-- Key length in bits by KIND (R270). -/
def kindBits (kind : Nat) : Nat := if kind = 1 then 128 else 256

/-- Contexts and keys derived straight from the root (R267, Table 9-4, R384). UNIT_ID and HW_TYPE are taken most significant byte
first (DESIGN CHOICE: see the log). -/
def Pkg.unitId (s : Pkg) : List Byte := beBytes 8 (s.rd64 15 0x70018)
def Pkg.hwType (s : Pkg) : List Byte := beBytes 4 (s.rd 15 0x70020).toNat
def Pkg.rootKey (s : Pkg) (label : String) (ctx : List Byte) : List Byte :=
  kdf false s.vault.root (ascii label) (ctx ++ List.replicate (32 - ctx.length) 0) 256
def Pkg.imageKey (s : Pkg) : List Byte := s.rootKey "IKD.IMAGE" s.hwType
def Pkg.identEc (s : Pkg) : List Byte := Config.p384Private (s.rootKey "IKD.IDENT" (ascii "EC"))
def Pkg.identPq (s : Pkg) : List Byte := Config.mldsaPrivate (s.rootKey "IKD.IDENT" (ascii "PQ"))
def Pkg.agreeKey (s : Pkg) : List Byte := Config.p384Private (s.rootKey "IKD.AGREE" [])

/-- The vault at a power-up of the sentinel, or at the restart that ends a tamper: empty but for slot 0, which exists unless
ROOT_LOCKED (R267). -/
def Pkg.vaultFresh (s : Pkg) : Pkg :=
  let s := (s.clearWords 15 0x16000 0x16400).clearWords 15 0x18000 0x20000
  let s := s.onVault (fun v => { v with keys := [], ctx4 := [], run := none, revs := [] })
  let s := ((s.put 15 fKyZeroised 0).put 15 fRvPending 0).put 15 fKyBusy 0
  if s.rootLocked then s.put 15 fSlotsUsed 0
  else (s.fillSlot 0 0 0 0 3 1 none (s.rootKey "IKD.VAULT" s.unitId) []).put 15 fSlotsUsed 1

/-- The restart of a package whose vault lacks its root node while the root is not locked (R265, R283). -/
def Pkg.vaultRestart (s : Pkg) : Pkg :=
  if !s.rootLocked ∧ s.get 15 (fSlState 0) ≠ 1 then s.vaultFresh else s

/-! ### Timers (R274) -/

def timerOff (t : Nat) : Nat := 0x16000 + 0x10 * t
def fTimerSlot (t : Nat) : Fld := ⟨timerOff t + 8, 11, 0⟩
def fTimerValid (t : Nat) : Fld := ⟨timerOff t + 8, 31, 31⟩

/-- The lowest free timer. -/
def Pkg.freeTimer (s : Pkg) : Option Nat := (List.range 64).find? (fun t => !s.on 15 (fTimerValid t))

/-- A slot's timer is freed (R274). -/
def Pkg.dropTimer (s : Pkg) (k : Nat) : Pkg :=
  if s.on 15 (fSlHasTimer k) then
    let t := s.get 15 (fSlTimer k)
    ((s.wr64 15 (timerOff t) 0).wr 15 (timerOff t + 8) 0).put 15 (fSlHasTimer k) 0
  else s

/-! ### Commands (R271, R272) -/

/-- The lowest EMPTY slot but slot 0. -/
def Pkg.emptySlot (s : Pkg) : Option Nat := (List.range 4096).find? (fun k => k != 0 && s.get 15 (fSlState k) == 0)

/-- What DERIVE and IMPORT check after their own conditions: depth, a slot, a timer. -/
def Pkg.roomFor (s : Pkg) (parent : Nat) : Nat :=
  if 8 ≤ s.get 15 (fSlDepth parent) then kDepth
  else if s.emptySlot.isNone then kNoSlot
  else if s.rd64 15 oKyExpiry ≠ 0 ∧ s.freeTimer.isNone then kNoTimer else kOk

/-- Fields of KY_ARG0. -/
def argKind (a : Word) : Nat := fieldGet a 3 0
def argKdf (a : Word) : Bool := fieldGet a 4 4 == 1
def argLabel (a : Word) : Nat := fieldGet a 15 8
def argPolicy (a : Word) : Nat := fieldGet a 31 16

/-- A policy is a subset of another (R269). -/
def subPolicy (a b : Nat) : Bool := (List.range 16).all (fun i => !a.testBit i || b.testBit i)

/-- The result of DERIVE as judged at its start (R269, R270, Table 9-5). The order of the checks is the model's (DESIGN CHOICE: see
the log). -/
def Pkg.judgeDerive (s : Pkg) (parent : Nat) : Nat :=
  let a := s.rd 15 oKyArg0
  if (labelOf (argLabel a)).isNone ∨ 3 < argKind a then kRefused
  else if s.get 15 (fSlState parent) = 0 ∨ s.get 15 (fSlState parent) = 3 then kBadSlot
  else if s.slotPending parent then kRevoked
  else if !(s.get 15 (fSlPolicy parent)).testBit 0 ∨ (s.get 15 (fSlKind parent) ≠ 0 ∧ s.get 15 (fSlKind parent) ≠ 2) then kPolicy
  else if (argPolicy a).testBit 1 ∨ 512 ≤ argPolicy a ∨ !subPolicy (argPolicy a) (s.get 15 (fSlPolicy parent)) then kPolicy
  else s.roomFor parent

/-- The key of a DERIVE (R270). -/
def Pkg.derivedKey (s : Pkg) (parent : Nat) : List Byte :=
  let a := s.rd 15 oKyArg0
  kdf (argKdf a) (s.slotKey parent) ((labelOf (argLabel a)).getD []) (s.bytesAt 15 oKyCtx 32) (kindBits (argKind a))

/-- The key that an import blob holds (R272); none: BAD_BLOB. -/
def Pkg.importedKey (s : Pkg) (parent : Nat) : Option (List Byte) :=
  let a := s.rd 15 oKyArg0
  let n := kindBits (argKind a) / 8 + 8
  if s.bytesAt 15 oKyIn 1 = [1] then
    let peer := sliceBytes (s.bytesAt 15 oKyIn 100) 1 97
    let wrapped := sliceBytes (s.bytesAt 15 oKyIn 140) 98 n
    if onCurve peer then
      let kek := kdf (argKdf a) (ecdh s.agreeKey peer) (ascii "IKD.IMPORT")
        (s.unitId ++ s.hwType ++ beBytes 4 a.toNat ++ List.replicate 16 0) 256
      keyUnwrap kek wrapped
    else none
  else keyUnwrap (s.slotKey parent) (sliceBytes (s.bytesAt 15 oKyIn 44) 1 n)

/-- An ECDH import in PROVISION of an AES-256 key with no policy yields a content-key record, not a slot (R384). -/
def Pkg.contentKey (s : Pkg) : Bool :=
  let a := s.rd 15 oKyArg0
  s.bytesAt 15 oKyIn 1 == [1] && s.modeNow == mProvision && argKind a == 2 && argPolicy a == 0

/-- The result of IMPORT as judged at its start (R269, R272). -/
def Pkg.judgeImport (s : Pkg) (parent : Nat) : Nat :=
  let a := s.rd 15 oKyArg0
  let form := s.bytesAt 15 oKyIn 1
  if 3 < argKind a then kRefused
  else if form = [1] then
    (if parent ≠ 0 ∨ s.get 15 (fSlState 0) ≠ 1 then kBadSlot
     else if s.modeNow ≠ mProvision ∧ s.life ≠ lService then kRefused
     else if (argPolicy a).testBit 1 ∨ 512 ≤ argPolicy a then kPolicy
     else if (s.importedKey parent).isNone then kBadBlob
     else if s.contentKey then kOk else s.roomFor parent)
  else if form = [2] then
    (if s.get 15 (fSlState parent) = 0 ∨ s.get 15 (fSlState parent) = 3 then kBadSlot
     else if s.slotPending parent then kRevoked
     else if !(s.get 15 (fSlPolicy parent)).testBit 2 ∨ (s.get 15 (fSlKind parent) ≠ 1 ∧ s.get 15 (fSlKind parent) ≠ 2) then kPolicy
     else if (argPolicy a).testBit 1 ∨ 512 ≤ argPolicy a ∨ !subPolicy (argPolicy a) (s.get 15 (fSlPolicy parent)) then kPolicy
     else if (s.importedKey parent).isNone then kBadBlob
     else s.roomFor parent)
  else kBadBlob

/-- The result of REVOKE (R273). -/
def Pkg.judgeRevoke (s : Pkg) (k : Nat) : Nat :=
  if k = 0 ∨ s.get 15 (fSlState k) = 0 ∨ s.get 15 (fSlState k) = 3 then kBadSlot
  else if s.slotPending k then kRevoked
  else if 8 ≤ s.get 15 fRvPending then kBusy else kOk

/-- The result of RELEASE (R277). -/
def Pkg.judgeRelease (s : Pkg) (k : Nat) : Nat :=
  if s.get 15 (fSlState k) ≠ 2 ∨ s.vault.revs.any (fun r => (s.line k).contains r.slot) then kBadSlot else kOk

/-- The slots KY_LIST names (R281). -/
def Pkg.attestList (s : Pkg) : List Nat :=
  ((List.range 16).filter (fun i => fieldGet (s.rd 15 (0x10080 + 4 * i)) 31 31 == 1)).map (fun i => fieldGet (s.rd 15 (0x10080 + 4 * i)) 11 0)

/-- The result of ATTEST (R281). -/
def Pkg.judgeAttest (s : Pkg) : Nat :=
  if s.life = lBlank then kRefused
  else if s.rootLocked ∧ s.on 15 fFuProvisioned then kTampered
  else if s.attestList.any (fun k => !s.slotActive k || !(s.get 15 (fSlPolicy k)).testBit 8) then kPolicy else kOk

/-- The result of a command, judged at its start. Tamper comes before everything (R286, R289), then the INVASIVE lock (R302). -/
def Pkg.judgeCommand (s : Pkg) (op slot : Nat) : Nat :=
  if op ≠ 5 ∧ op ≠ 7 ∧ s.on 15 fTpLine then kTampered
  else if op ≠ 5 ∧ op ≠ 7 ∧ s.on 15 fKyLocked then kRefused
  else match op with
    | 1 => s.judgeDerive slot
    | 2 => s.judgeImport slot
    | 3 => s.judgeRevoke slot
    | 4 => s.judgeRelease slot
    | 6 => s.judgeAttest
    | _ => kOk

/-- A revocation is accepted with its T_r, and its number goes to the tiles (R273, R274, R276). -/
def Pkg.acceptRevocation (s : Pkg) (k tr : Nat) : Pkg :=
  let seq := (s.get 15 fRvSeq + 1) % 65536
  let s := s.onVault (fun v => { v with revs := v.revs ++ [{ seq := seq, slot := k, tr := tr }] })
  let s := ((s.put 15 fRvSeq seq).put 15 fRvPending (s.get 15 fRvPending + 1)).put 15 fRvDone 0
  s.setCnt 15 oRvTr (BitVec.ofNat 64 tr)

/-- A vault command is written to KY_CMD while the vault is free, or refused while it runs another (R271). -/
def vaultStart (op slot : Nat) (s : Pkg) : Pkg :=
  if s.on 15 fKyBusy then s.bump 15 oKyRefused
  else
    let result := s.judgeCommand op slot
    let key := if result ≠ kOk then [] else if op = 1 then s.derivedKey slot else if op = 2 then (s.importedKey slot).getD [] else []
    let run : VaultRun := { op := op, slot := slot, arg0 := s.rd 15 oKyArg0, ctx := s.bytesAt 15 oKyCtx 32, result := result, key := key
                            expiry := let e := s.rd64 15 oKyExpiry
                                      if e = 0 then 0 else max e (s.countNs 15 + us (s.get 15 fRvLead)) }
    let s := (s.clearWords 15 oKyOut (oKyOut + 0x100)).put 15 fKyBusy 1
    let s := s.onVault (fun v => { v with run := some run })
    if op = 3 ∧ result = kOk then (s.acceptRevocation slot (s.countNs 15 + us (s.get 15 fRvLead))).bump 15 oKyRevokes else s

/-- The slot that a DERIVE or an IMPORT creates is filled at the command's end. -/
def Pkg.createSlot (s : Pkg) (r : VaultRun) (label : Nat) : Pkg :=
  match s.emptySlot with
  | none => s
  | some k =>
    let timer := if r.expiry = 0 then none else s.freeTimer
    let s := s.fillSlot k r.slot (s.get 15 (fSlDepth r.slot) + 1) (argKind r.arg0) (argPolicy r.arg0) label timer r.key r.ctx
    let s := match timer with
      | some t => (s.wr64 15 (timerOff t) r.expiry).wr 15 (timerOff t + 8) (BitVec.ofNat 32 (k + 2 ^ 31))
      | none => s
    ((s.countUsed 1).put 15 fNewSlot k).put 15 fNewGen (s.get 15 (fSlGen k))

/-- A fresh nonce (R283). -/
def Pkg.newNonce (s : Pkg) : Pkg := (s.putBytes 15 oKyNonce (Config.randomBytes s.fresh 16)).tookFree 1

/-- A record of a slot in an attestation statement (Table 9-9). -/
def Pkg.attestRecord (s : Pkg) (k : Nat) : List Byte :=
  beBytes 2 k ++ beBytes 2 (s.get 15 (fSlParent k)) ++ beBytes 1 (s.get 15 (fSlGen k)) ++ beBytes 1 (s.get 15 (fSlState k)) ++
  beBytes 1 (s.get 15 (fSlKind k)) ++ beBytes 1 (s.get 15 (fSlDepth k)) ++ beBytes 1 (s.get 15 (fSlLabel k)) ++ [0] ++
  beBytes 2 (s.get 15 (fSlPolicy k)) ++ sliceBytes (SMap.get [] s.vault.ctx4 k) 0 4

/-- The attestation statement (R281, Table 9-9), signed with the identity keys. -/
def Pkg.statement (s : Pkg) : List Byte :=
  let l := s.attestList
  let ids := (15 :: List.range 7).flatMap (fun d => beBytes 4 (if s.variant.present d then (s.deviceId d).toNat else 0))
  let body := beBytes 4 0x494B4154 ++ beBytes 2 1 ++ beBytes 2 (308 + 16 * l.length) ++ ids ++ s.unitId ++ s.hwType ++
    beBytes 1 s.fuseLife ++ beBytes 1 (s.get 15 fDebugLevel) ++ beBytes 1 s.modeNow ++ beBytes 1 l.length ++
    beBytes 4 (s.rd 15 0x50004).toNat ++ beBytes 1 (s.get 15 ⟨0x70010, 6, 0⟩) ++ [0, 0, 0] ++
    beBytes 8 (s.countNs 15) ++ beBytes 4 (s.rd s.steward 0x200010).toNat ++ [0, 0, 0, 0] ++
    s.vault.manifests ++ s.bytesAt 15 oKyCtx 32 ++ sliceBytes (p384Public s.agreeKey) 0 97 ++ [0, 0, 0] ++ l.flatMap s.attestRecord
  body ++ sliceBytes (Config.ecdsaSign s.identEc body) 0 96 ++ sliceBytes (Config.mldsaSign s.identPq body) 0 3309

/-- The end of a command: BUSY falls, DONE and RESULT are set. -/
def Pkg.vaultEnd (s : Pkg) (result : Nat) : Pkg :=
  ((s.onVault (fun v => { v with run := none })).put 15 fKyBusy 0 |>.raise 15 fKyDone).put 15 fKyResult result

/-- What a command other than TICKET does at its end. -/
def Pkg.vaultEffect (s : Pkg) (r : VaultRun) : Pkg :=
  if r.op = 5 then s.newNonce
  else if r.result ≠ kOk then s
  else match r.op with
    | 1 => (s.createSlot r (argLabel r.arg0)).bump 15 oKyDerives
    | 2 =>
      (if argKind r.arg0 = 2 ∧ argPolicy r.arg0 = 0 ∧ r.slot = 0 ∧ s.modeNow = mProvision then
        s.putBytes 15 oKyOut (sliceBytes (keyWrap s.imageKey r.key) 0 40)
       else s.createSlot r 0).bump 15 oKyImports
    | 4 =>
      let g := (s.get 15 (fSlGen r.slot) + 1) % 256
      let s := (s.wr 15 (slotOff r.slot) 0).wr 15 (slotOff r.slot + 4) (BitVec.ofNat 32 (g * 2 ^ 24))
      (s.onVault (fun v => { v with keys := SMap.erase r.slot v.keys, ctx4 := SMap.erase r.slot v.ctx4 })).countUsed (-1)
    | 6 => s.putBytes 15 oKyAttest s.statement
    | _ => s

end Sys2Proof.Machine
end

