-- ==== Sys2Proof/Machine/KeyCache.lean ====
section
/-! DEFINITION. Revocation on the tiles, key transfers, secure associations, the trestle's keys, and what the tamper level does to a tile
(R33, R273–R280, R285, R286). -/
namespace Sys2Proof.Machine

def fTrZeroised : Fld := ⟨0x1400000, 2, 2⟩
def oKeyFetches : Nat := 0x1000810
def oKeyInvalidated : Nat := 0x1000818
def oTxAborted : Nat := 0x1000830

/-! ### Secure associations (R280, Table 9-6) -/

def fSaValid (o : Nat) : Fld := ⟨o, 31, 31⟩
def fSaSlot (o : Nat) : Fld := ⟨o, 11, 0⟩
def fSaReady (o : Nat) : Fld := ⟨o + 28, 0, 0⟩
def fSaRevoked (o : Nat) : Fld := ⟨o + 28, 1, 1⟩
def fSaFault (o : Nat) : Fld := ⟨o + 28, 2, 2⟩

/-- The associations of a tile in use, by the offsets of their entries. -/
def Pkg.validSas (s : Pkg) (t : Nat) : List Nat :=
  (s.listed t 0x3900000 0x3920800).filter (fun o => o % 32 == 0 && s.on t (fSaValid o))

/-- The suite an association serves: its channel's, or its port's for transmission. -/
def Pkg.saSuite (s : Pkg) (t o : Nat) : Nat :=
  if o < 0x3920000 then
    let i := (o - 0x3900000) / 128
    fieldGet (s.rd t (rxScOff (i / 64) (i % 64) + 8)) 1 0
  else s.get t (fTxMsSuite ((o - 0x3920000) / 128))

/-- A slot fits an association (R280): its KIND the suite, its policy the direction. -/
def Pkg.slotFitsSa (s : Pkg) (t o : Nat) : Bool :=
  let k := s.get t (fSaSlot o)
  s.get 15 (fSlState k) == 1 && s.get 15 (fSlKind k) == (if s.saSuite t o % 2 = 0 then 1 else 2) &&
  (s.get 15 (fSlPolicy k)).testBit (if o < 0x3920000 then 5 else 6)

/-- A write of word 0 of an association (R280): setting VALID starts the key fetch; a slot that does not fit sets KEY_FAULT. With no path to the vault
the fetch waits (R24, R35). -/
def saValidEff (tile off : Nat) (value : Word) (s : Pkg) : Pkg :=
  let s := (s.wr tile off (value &&& 0x80000FFF#32)).wr tile (off + 28) 0
  if fieldGet value 31 31 = 0 ∨ !s.pathUp 15 tile then s
  else if s.slotRevoked (fieldGet value 11 0) then s.raise tile (fSaRevoked off)
  else if s.slotFitsSa tile off ∧ !s.on tile fMsZeroised then s else s.raise tile (fSaFault off)

/-! ### Revocation on a tile (R275, R276, R278) -/

/-- LEASE_OK: the last beat has not lapsed and names no revocation the tile has not applied (R276). -/
def Pkg.renewLease (s : Pkg) (t : Nat) : Pkg :=
  let x := s.leaseSt t
  s.put t fLeaseOk (bit (x.beatAt != 0 && decide (s.now < x.beatAt + ns (us 8)) && x.beatSeq == s.get t fMsRvSeq))

/-- At T_r a tile's caches invalidate every entry of the subtree, and its associations bound to them are REVOKED (R278, R280). -/
def Pkg.invalidate (s : Pkg) (t slot : Nat) : Pkg :=
  let hit : CachedKey → Bool := fun c => c.line.contains slot
  let n := ((s.macCache t).filter hit).length + ((s.trCache t).filter hit).length
  let s := (s.setMacCache t ((s.macCache t).filter (fun c => !hit c))).setTrCache t ((s.trCache t).filter (fun c => !hit c))
  let s := s.add t oKeyInvalidated n
  ((s.validSas t).filter (fun o => (s.line (s.get t (fSaSlot o))).contains slot)).foldl (fun s o =>
    (s.put t (fSaReady o) 0).raise t (fSaRevoked o)) s

/-- REVOCATION_MESSAGE (R276): a numbered message reaches a tile; one whose T_r has passed is applied at once. -/
def revocationMessage (tile seq at_ : Nat) (s : Pkg) : Pkg :=
  match s.vault.revs.find? (fun r => r.seq == seq) with
  | none => s.reach at_
  | some r =>
    (s.reach at_).when (s.tileOn tile && s.pathUp 15 tile && !r.got.contains tile) (fun s =>
      let s := s.onVault (fun v => { v with revs := v.revs.map (fun x => if x.seq = seq then { x with got := tile :: x.got } else x) })
      let s := s.put tile fMsRvSeq seq
      (if r.committed then s.invalidate tile r.slot else s).renewLease tile)

/-- REVOCATION_BEAT (R276): the vault's beat names its latest number. -/
def revocationBeat (tile seq at_ : Nat) (s : Pkg) : Pkg :=
  (s.reach at_).when (s.tileOn tile && s.pathUp 15 tile) (fun s =>
    (s.setLeaseSt tile { beatAt := max s.now 1, beatSeq := seq }).renewLease tile)

/-- LEASE_EXPIRE (R276): 8 µs since a tile's last beat. -/
def leaseExpire (tile : Nat) (s : Pkg) : Pkg :=
  s.when (s.tileOn tile && s.on tile fLeaseOk) (fun s =>
    (s.reachFrac ((s.leaseSt tile).beatAt + ns (us 8))).put tile fLeaseOk 0)

/-- KEY_TIMER (R274): T_r − KY_RV_LEAD_US of an expiry timer: its slot's revocation goes out. -/
def keyTimer (timer : Nat) (s : Pkg) : Pkg :=
  s.when (s.on 15 (fTimerValid timer)) (fun s =>
    let k := s.get 15 (fTimerSlot timer)
    let tr := s.rd64 15 (timerOff timer)
    let s := s.reachCount 15 (tr - us (s.get 15 fRvLead))
    s.when (!s.slotPending k && s.get 15 fRvPending < 8 && !s.on 15 fTpLine) (fun s => s.acceptRevocation k tr))

/-- REVOCATION_COMMIT (R275, R278): T_r. The subtree is unusable from now on, on the vault and on every tile that has the message. -/
def revocationCommit (seq : Nat) (s : Pkg) : Pkg :=
  match s.vault.revs.find? (fun r => r.seq == seq) with
  | none => s
  | some r =>
    s.when (!r.committed) (fun s =>
      let s := s.reachCount 15 r.tr
      let s := s.onVault (fun v => { v with revs := v.revs.map (fun x => if x.seq = seq then { x with committed := true } else x) })
      let s := s.put 15 fRvPending (s.get 15 fRvPending - 1)
      (r.got.filter s.tileOn).foldl (fun s t => s.invalidate t r.slot) s)

/-- REVOCATION_SWEEP_DONE (R275): the subtree is marked, its timers are freed, and every tile in service has acknowledged. -/
def revocationSweepDone (seq at_ : Nat) (s : Pkg) : Pkg :=
  match s.vault.revs.find? (fun r => r.seq == seq) with
  | none => s.reach at_
  | some r =>
    (s.reach at_).when (r.committed && s.serving.all (fun t => r.got.contains t)) (fun s =>
      let l := (s.subtree r.slot).filter (fun k => s.get 15 (fSlState k) == 1)
      let s := l.foldl (fun s k => (s.dropTimer k).put 15 (fSlState k) 2) s
      let s := (s.add 15 oKySwept l.length).raiseIf (s.get 15 fRvSeq == seq) 15 fRvDone
      s.onVault (fun v => { v with revs := v.revs.filter (fun x => x.seq != seq) }))

/-! ### Key transfers (R278–R280) -/

/-- An authentication profile in effect (Table 6-8): word w of profile i. -/
def Pkg.authWord (s : Pkg) (t i w : Nat) : Word := s.rd t (0x38A0000 + 16 * i + 4 * w)

/-- A profile of the trestle in effect names this slot (R279). -/
def Pkg.trWants (s : Pkg) (t slot : Nat) : Bool :=
  (List.range 64).any (fun i => i != 0 && fieldGet (s.authWord t i 2) 31 31 == 1 && fieldGet (s.authWord t i 0) 11 0 == slot)

/-- The vault may transfer the key of a slot now. -/
def Pkg.mayTransfer (s : Pkg) (tile slot : Nat) : Bool :=
  s.inService tile && s.pathUp 15 tile && s.slotActive slot && !s.on 15 fTpLine && !s.on 15 fKyLocked

/-- The entry a transfer fills. -/
def Pkg.cacheEntry (s : Pkg) (slot : Nat) : CachedKey := { slot := slot, gen := s.get 15 (fSlGen slot), key := s.slotKey slot, line := s.line slot }

/-- KEY_TRANSFER (R278): a key reaches a cache that needs it. -/
def keyTransfer (tile slot : Nat) (trestle : Bool) (at_ : Nat) (s : Pkg) : Pkg :=
  (s.reach at_).when (s.mayTransfer tile slot) (fun s =>
    let e := s.cacheEntry slot
    if trestle then
      let l := (s.trCache tile).filter (fun c => c.slot != slot)
      if tile ≤ 1 ∧ s.trWants tile slot ∧ l.length < 64 ∧ !s.on tile fTrZeroised then (s.setTrCache tile (e :: l)).bump tile oKeyFetches else s
    else
      let l := (s.macCache tile).filter (fun c => c.slot != slot)
      let mine := (s.validSas tile).filter (fun o => s.get tile (fSaSlot o) == slot && s.get tile (fSaFault o) == 0 && s.get tile (fSaRevoked o) == 0)
      if mine.isEmpty ∨ 1024 ≤ l.length ∨ s.on tile fMsZeroised then s
      else mine.foldl (fun s o => s.raise tile (if s.slotFitsSa tile o then fSaReady o else fSaFault o))
        ((s.setMacCache tile (e :: l)).bump tile oKeyFetches))

/-! ### The trestle's keys (R203, R279) -/

/-- What the engine finds for a profile's slot. -/
inductive KeyRes where
  | key (k : List Byte)
  | absent
  | revoked
  | wait
deriving DecidableEq, Repr

/-- The key of a slot for an authentication engine, for verify or generate (R203, R276, R279). With no path to the vault a tile has what its cache
holds, while its lease stands (R24, R276). -/
def Pkg.trKey (s : Pkg) (t slot : Nat) (gen : Bool) : KeyRes :=
  let p := s.get 15 (fSlPolicy slot)
  if s.on t fTrZeroised then .absent
  else if !s.pathUp 15 t then
    (match (s.trCache t).find? (fun c => c.slot == slot) with
     | some c => if s.on t fLeaseOk ∧ p.testBit 7 ∧ p.testBit (if gen then 3 else 4) then .key c.key else .absent
     | none => .absent)
  else if s.slotRevoked slot then .revoked
  else if s.get 15 (fSlState slot) ≠ 1 ∨ s.get 15 (fSlKind slot) ≠ 1 ∨ !p.testBit 7 ∨ !p.testBit (if gen then 3 else 4) then .absent
  else match (s.trCache t).find? (fun c => c.slot == slot && c.gen == s.get 15 (fSlGen slot)) with
    | some c => if s.on t fLeaseOk then .key c.key else .absent
    | none => if s.mayTransfer t slot then .wait else .absent

/-! ### Zeroisation on a tile (R33, R285, R286, R302) -/

/-- Both caches are erased, ZEROISED and KEYS_ZEROISED are set, and no association is ready. -/
def Pkg.zeroiseTile (s : Pkg) (t : Nat) : Pkg :=
  let s := (s.setMacCache t []).setTrCache t []
  let s := s.raise t fMsZeroised
  let s := if t ≤ 1 then s.raise t fTrZeroised else s
  (s.validSas t).foldl (fun s o => s.put t (fSaReady o) 0) s

/-- A frame under transmit protection is ended on the wire with an inverted FCS (R286). -/
def Pkg.abortProtected (s : Pkg) (t : Nat) : Pkg :=
  (List.range 16).foldl (fun s p =>
    match (s.port t p).tx with
    | some x =>
      if s.on t (fTxMsEnable p) then
        (((s.setPort t p { s.port t p with tx := none }).emit (.frame t p x.express true x.bytes)).bump t oTxAborted).freeCopy x.copy
      else s
    | none => s) s

/-- TAMPER_LEVEL (R33, R285): a tile that sees the level zeroises its keys and forces the QUARANTINE profile (R97). -/
def tamperLevel (tile at_ : Nat) (s : Pkg) : Pkg :=
  (s.reach at_).when (s.tileOn tile && s.on 15 fTpLine) (fun s =>
    ((s.zeroiseTile tile).abortProtected tile).raise tile ⟨0x400008, 4, 4⟩)

end Sys2Proof.Machine
end

