-- ==== Sys2Proof/Machine/Ring.lean ====
section
/-! DEFINITION. The consent ring as other blocks touch it: sending NM messages, consent, partial networks, aborting a sleep (R317–R320, R322). -/
namespace Sys2Proof.Machine

/-! ### CAN channel registers (Tables 6-15 and 11-6) -/

def canOff (c o : Nat) : Nat := 0x40000 + 0x100 * c + o
def fCanMode (c : Nat) : Fld := ⟨canOff c 0, 1, 0⟩
def fCanListen (c : Nat) : Fld := ⟨canOff c 0, 2, 2⟩
def fCanAuto (c : Nat) : Fld := ⟨canOff c 0, 3, 3⟩
def fCanTec (c : Nat) : Fld := ⟨canOff c 0x18, 7, 0⟩
def fCanRec (c : Nat) : Fld := ⟨canOff c 0x18, 15, 8⟩
def fCanState (c : Nat) : Fld := ⟨canOff c 0x18, 17, 16⟩
def fCanFrozen (c : Nat) : Fld := ⟨canOff c 0x18, 18, 18⟩
def fTxqDepth (c : Nat) : Fld := ⟨canOff c 0x1C, 8, 0⟩
def fTxqUsed (c : Nat) : Fld := ⟨canOff c 0x1C, 24, 16⟩
def oCanRx (c : Nat) : Nat := canOff c 0x40
def oCanTx (c : Nat) : Nat := canOff c 0x48
def oCanErr (c : Nat) : Nat := canOff c 0x50
def oCanBusoff (c : Nat) : Nat := canOff c 0x58
def oCanExpired (c : Nat) : Nat := canOff c 0x60
def oCanReplaced (c : Nat) : Nat := canOff c 0x68

def nmOff (c o : Nat) : Nat := 0x20100 + 0x40 * c + o
def fNmEn (c : Nat) : Fld := ⟨nmOff c 0, 0, 0⟩
def fNmExt (c : Nat) : Fld := ⟨nmOff c 0, 1, 1⟩
def fWupEn (c : Nat) : Fld := ⟨nmOff c 0, 2, 2⟩
def fSwkEn (c : Nat) : Fld := ⟨nmOff c 0, 3, 3⟩
def fTxWakes (c : Nat) : Fld := ⟨nmOff c 0, 4, 4⟩
def fRxAborts (c : Nat) : Fld := ⟨nmOff c 0, 5, 5⟩
def fIdBase (c : Nat) : Fld := ⟨nmOff c 0, 26, 8⟩
def fTrx (c : Nat) : Fld := ⟨nmOff c 0x18, 2, 0⟩
def fRing (c : Nat) : Fld := ⟨nmOff c 0x18, 5, 3⟩
def fBusDom (c : Nat) : Fld := ⟨nmOff c 0x18, 6, 6⟩
def fTxdTo (c : Nat) : Fld := ⟨nmOff c 0x18, 7, 7⟩
def fFec (c : Nat) : Fld := ⟨nmOff c 0x18, 13, 8⟩
def oSleepAborts (c : Nat) : Nat := nmOff c 0x20
def oTrxFailsafe (c : Nat) : Nat := nmOff c 0x28
def oRingLost (c : Nat) : Nat := nmOff c 0x30
def oBusDom (c : Nat) : Nat := nmOff c 0x38
def fNode : Fld := ⟨0x20000, 9, 0⟩
def fTTyp : Fld := ⟨0x20004, 10, 0⟩
def fTMax : Fld := ⟨0x20004, 26, 16⟩
def fTError : Fld := ⟨0x20008, 13, 0⟩
def fTWait : Fld := ⟨0x20008, 29, 16⟩
def fReady : Fld := ⟨0x20010, 0, 0⟩
def fPnReq : Fld := ⟨0x20010, 31, 8⟩
def fPnActive : Fld := ⟨0x20014, 23, 0⟩
def fConfirmed : Fld := ⟨0x20014, 24, 24⟩
def fPnMap (n : Nat) : Fld := ⟨0x20020 + 4 * n, 11, 0⟩

/-- RING states (Table 11-6). -/
def rOff : Nat := 0
def rRing : Nat := 1
def rLimp : Nat := 2
def rPrepare : Nat := 3
def rSleep : Nat := 4

def Pkg.nmCh (s : Pkg) (c : Nat) : NmCh := SMap.get {} s.nm c
def Pkg.setNmCh (s : Pkg) (c : Nat) (x : NmCh) : Pkg := { s with nm := SMap.set {} s.nm c x }

/-! ### Partial networks and consent (R319, R322) -/

/-- Partial network n is active (R322). -/
def Pkg.pnActive (s : Pkg) (n : Nat) : Bool := (s.get 15 fPnReq).testBit n || SMap.get 0 s.pnSeen n != 0

/-- The active networks as bits. -/
def Pkg.pnBits (s : Pkg) (p : Nat → Bool) : Nat := ((List.range 24).filter (fun n => s.pnActive n && p n)).foldl (fun a n => a + 2 ^ n) 0

/-- A channel that some partial network maps is partial (R322). -/
def Pkg.partialCh (s : Pkg) (c : Nat) : Bool := (List.range 24).any (fun n => (s.get 15 (fPnMap n)).testBit c)

/-- The Ikider consents to sleep on a channel (R319). -/
def Pkg.consents (s : Pkg) (c : Nat) : Bool :=
  if s.partialCh c then (List.range 24).all (fun n => !((s.get 15 (fPnMap n)).testBit c && s.pnActive n)) else s.on 15 fReady

/-! ### Sending (R317, R318) -/

/-- The identifier of an NM message of this node on a channel. -/
def Pkg.nmId (s : Pkg) (c node : Nat) : Nat :=
  if s.on 15 (fNmExt c) then (s.get 15 (fIdBase c)) % 2 ^ 19 * 1024 + node else (s.get 15 (fIdBase c)) % 8 * 256 + node % 256

/-- The payload of Table 11-3. -/
def nmPayload (dest op : Nat) (ind ack : Bool) (seq pn : Nat) : List Byte :=
  beBytes 2 (dest * 64 + op * 8 + bit ind * 4 + bit ack * 2) ++ beBytes 1 seq ++ beBytes 3 pn ++ [0, 0]

/-- The channel may send: its transceiver is NORMAL, its controller on the bus and not listening only. -/
def Pkg.canSends (s : Pkg) (c : Nat) : Bool :=
  s.get 15 (fCanMode c) != 0 && !s.on 15 (fCanListen c) && s.get 15 (fTrx c) == 1 && s.get 15 (fCanState c) < 2 && !s.on 15 (fTxdTo c)

/-- An NM message leaves on a channel; one that cannot, because the channel is at bus-off, puts the channel into LIMP_HOME (R318). -/
def Pkg.sendNm (s : Pkg) (c dest op : Nat) (ack : Bool) : Pkg :=
  let x := s.nmCh c
  let x := { x with lastTx := s.now, token := none, allSleep := if op = 2 then true else x.allSleep }
  if s.get 15 (fCanState c) = 2 then (s.setNmCh c x).put 15 (fRing c) rLimp
  else if !s.canSends c then s.setNmCh c x
  else
    let m : BusMsg := { bus := c, id := s.nmId c (s.get 15 fNode), fmt := if s.on 15 (fNmExt c) then 1 else 0
                        payload := nmPayload dest op (s.consents c || ack) ack x.seq (s.pnBits (fun n => (s.get 15 (fPnMap n)).testBit c)) }
    ((s.setNmCh c { x with seq := (x.seq + 1) % 256 }).emit (.bus m)).bump 15 (oCanTx c)

/-- Its successor (R318): the lowest node above its own among those heard, else the lowest heard, else itself. -/
def Pkg.successor (s : Pkg) (c : Nat) : Nat :=
  let me := s.get 15 fNode
  let h := (s.nmCh c).heard
  let above := h.filter (fun n => decide (me < n))
  match (if above.isEmpty then h else above) with
  | [] => me
  | x :: l => l.foldl min x

/-- ALIVE, RING to the successor, LIMPHOME. -/
def Pkg.sendAlive (s : Pkg) (c : Nat) : Pkg := s.sendNm c (s.get 15 fNode) 1 false
def Pkg.sendRing (s : Pkg) (c : Nat) (ack : Bool) : Pkg := s.sendNm c (s.successor c) 2 ack
def Pkg.sendLimp (s : Pkg) (c : Nat) : Pkg := s.sendNm c (s.get 15 fNode) 3 false

/-- A channel joins the ring (R318). -/
def Pkg.joinRing (s : Pkg) (c : Nat) : Pkg :=
  ((s.setNmCh c { seq := (s.nmCh c).seq }).put 15 (fRing c) rRing).sendAlive c

/-- A sleep in preparation is aborted (R320). -/
def Pkg.abortSleep (s : Pkg) (c : Nat) : Pkg :=
  ((s.put 15 (fRing c) rRing).bump 15 (oSleepAborts c)).sendAlive c

/-- Channels in PREPARE_SLEEP whose consent has fallen abort (R320). -/
def Pkg.recheckConsent (s : Pkg) : Pkg :=
  (List.range 12).foldl (fun s c => if s.get 15 (fRing c) = rPrepare ∧ !s.consents c then s.abortSleep c else s)
    (s.put 15 fPnActive (s.pnBits (fun _ => true)))

end Sys2Proof.Machine
end

