-- ==== Sys2Proof/Machine/Posting.lean ====
section
/-! DEFINITION. Posting to the sentinel's transmit buffers: credits, replacement, latest-value buffers, channels that are down (R184, R209, R210). -/
namespace Sys2Proof.Machine

/-! ### Trestle counters (Tables 6-11, 6-13) -/

def oTrDisc (r : Nat) : Nat := 0x1400100 + 8 * r
def oMsgIn : Nat := 0x1400200
def oMsgOut : Nat := 0x1400208
def oAuthVerified : Nat := 0x1400210
def oAuthGenerated : Nat := 0x1400218
def oE2eOk : Nat := 0x1400220
def oE2eSomeLost : Nat := 0x1400228
def oE2eRepeated : Nat := 0x1400230
def oE2eWrongSeq : Nat := 0x1400238
def oE2eError : Nat := 0x1400240
def oSeqGap : Nat := 0x1400248
def oMoveShort : Nat := 0x1400250
def oStandbyRx : Nat := 0x1400258

/-- The discard codes of Table 6-11. -/
def tSrcDeny : Nat := 1
def tNoRoute : Nat := 2
def tAfReject : Nat := 3
def tAuthFormat : Nat := 4
def tAuthFv : Nat := 5
def tAuthMac : Nat := 6
def tKeyAbsent : Nat := 7
def tKeyRevoked : Nat := 8
def tFvExhausted : Nat := 9
def tE2eFail : Nat := 10
def tOutFormat : Nat := 11
def tChainLong : Nat := 12
def tTxFull : Nat := 13
def tTxReplaced : Nat := 14
def tTxExpired : Nat := 15
def tChannelDown : Nat := 16
def tEthFull : Nat := 17
def tNoStream : Nat := 18
def tAcfMalformed : Nat := 19
def tAcfUnknown : Nat := 20

/-- Count a discard on a tile's trestle (R212). -/
def Pkg.trDisc (s : Pkg) (t code : Nat) : Pkg := s.bump t (oTrDisc code)

/-! ### Buffers -/

/-- LIN and FlexRay registers (Tables 6-16, 6-17). -/
def linOff (l o : Nat) : Nat := 0x41000 + 0x80 * l + o
def fLinEnable (l : Nat) : Fld := ⟨linOff l 0, 0, 0⟩
def fLinCommander (l : Nat) : Fld := ⟨linOff l 0, 1, 1⟩
def fLinState (l : Nat) : Fld := ⟨linOff l 4, 1, 0⟩
def fLinLastId (l : Nat) : Fld := ⟨linOff l 4, 13, 8⟩
def oLinRx (l : Nat) : Nat := linOff l 0x40
def oLinTx (l : Nat) : Nat := linOff l 0x48
def oLinNoResponse (l : Nat) : Nat := linOff l 0x50
def oLinChecksum (l : Nat) : Nat := linOff l 0x58
def fFrEnable : Fld := ⟨0x42000, 0, 0⟩
def fFrChA : Fld := ⟨0x42000, 2, 2⟩
def fFrChB : Fld := ⟨0x42000, 3, 3⟩
def fFrSlots : Fld := ⟨0x42008, 9, 0⟩
def fFrPayload : Fld := ⟨0x4200C, 16, 10⟩
def fFrPoc : Fld := ⟨0x42014, 2, 0⟩
def fFrCycle : Fld := ⟨0x42014, 13, 8⟩
def oFrRx : Nat := 0x42040
def oFrTx : Nat := 0x42048
def oFrSyntax : Nat := 0x42050
def oFrExpired : Nat := 0x42058

/-- The frame-table word of a LIN frame ID (R216). -/
def Pkg.linFrame (s : Pkg) (l id : Nat) : Word := s.rd 15 (0x44000 + 0x100 * l + 4 * (id % 64))

def Pkg.onBus (s : Pkg) (f : BusSt → BusSt) : Pkg := { s with bus := f s.bus }
def Pkg.busQueue (s : Pkg) (b : Nat) : List Posted := SMap.get [] s.bus.queues b

/-- The messages of a buffer that wait; on CAN, TXQ_USED shows their number. -/
def Pkg.setBusQueue (s : Pkg) (b : Nat) (l : List Posted) : Pkg :=
  let s := s.onBus (fun x => { x with queues := SMap.set [] x.queues b l })
  if b < 12 then s.put 15 (fTxqUsed b) (l.filter (fun e => !e.started)).length else s

/-- The latest-value buffer of a slot or frame ID. -/
def latestKey (bus slot : Nat) : Nat := bus * 4096 + slot
def Pkg.latest (s : Pkg) (bus slot : Nat) : Option Posted := SMap.get none s.bus.latest (latestKey bus slot)
def Pkg.setLatest (s : Pkg) (bus slot : Nat) (v : Option Posted) : Pkg :=
  s.onBus (fun x => { x with latest := SMap.set none x.latest (latestKey bus slot) v })

/-- Credits the trestle lacks, and credits freed but not yet returned (R209). -/
def Pkg.creditsUsed (s : Pkg) (b : Nat) : Nat := SMap.get 0 s.bus.used b
def Pkg.setCreditsUsed (s : Pkg) (b v : Nat) : Pkg := s.onBus (fun x => { x with used := SMap.set 0 x.used b v })
def Pkg.creditsOwed (s : Pkg) (b : Nat) : Nat := SMap.get 0 s.bus.owed b
def Pkg.setCreditsOwed (s : Pkg) (b v : Nat) : Pkg := s.onBus (fun x => { x with owed := SMap.set 0 x.owed b v })

/-- The rank of a message in a CAN transmit buffer (R184): the lowest identifier first, a base identifier ahead of an extended one that begins
with it; CAN XL by its priority identifier. -/
def canRank (m : Msg) : Nat :=
  if m.fmt = 1 then (m.id / 2 ^ 18 % 2048 * 2 + 1) * 2 ^ 18 + m.id % 2 ^ 18 else m.id % 2048 * 2 ^ 19

/-- The first message of least rank that has not begun. -/
def bestPosted : List Posted → Option Posted
  | [] => none
  | e :: l =>
    match bestPosted l with
    | none => if e.started then none else some e
    | some b => if !e.started ∧ canRank e.msg ≤ canRank b.msg then some e else some b

/-- A controller with nothing in transmission begins the message of least rank (DESIGN CHOICE: see the log). -/
def Pkg.canKick (s : Pkg) (c : Nat) : Pkg :=
  let l := s.busQueue c
  if !s.canSends c ∨ l.any (·.started) then s
  else match bestPosted l with
    | none => s
    | some e => s.setBusQueue c (l.map (fun x => if x.id = e.id then { x with started := true } else x))

/-- The message in transmission returns to the buffer: it lost arbitration, or failed (R184). -/
def Pkg.canBack (s : Pkg) (c : Nat) : Pkg := s.setBusQueue c ((s.busQueue c).map (fun x => { x with started := false }))

/-- A CAN channel takes no posting (R210): OFF, listen-only or asleep. -/
def Pkg.canDown (s : Pkg) (c : Nat) : Bool :=
  s.get 15 (fCanMode c) == 0 || s.on 15 (fCanListen c) || s.get 15 (fCanState c) == 3 || s.get 15 (fTrx c) != 1

/-- A LIN channel is on and awake. -/
def Pkg.linUp (s : Pkg) (l : Nat) : Bool := s.on 15 (fLinEnable l) && s.get 15 (fLinState l) != 2

/-- A posted message with its number and lifetime (R210). -/
def Pkg.posted (s : Pkg) (m : Msg) (lifeMs : Nat) : Pkg × Posted :=
  (s.onBus (fun x => { x with nextId := x.nextId + 1 }),
   { id := s.bus.nextId, msg := m, life := if lifeMs = 0 then none else some (s.now + ns (ms lifeMs)) })

/-- Post to a queue of some depth (R209). -/
def Pkg.postQueue (s : Pkg) (t b depth : Nat) (m : Msg) (replace : Bool) (lifeMs : Nat) : Pkg :=
  let p := s.posted m lifeMs
  let l := s.busQueue b
  if s.creditsUsed b < depth then
    ((p.1.setBusQueue b (l ++ [p.2])).setCreditsUsed b (s.creditsUsed b + 1)).bump t oMsgOut
  else match (if replace then l.find? (fun e => !e.started && e.msg.fmt == m.fmt && e.msg.id == m.id) else none) with
    | none => s.trDisc t tTxFull
    | some e =>
      let s := p.1.setBusQueue b (l.map (fun x => if x.id = e.id then p.2 else x))
      let s := (s.trDisc t tTxReplaced).bump t oMsgOut
      if b < 12 then s.bump 15 (oCanReplaced b) else s

/-- Post to latest-value buffers (R209): an overwritten value that was never sent counts TX_REPLACED. -/
def Pkg.postLatest (s : Pkg) (t : Nat) (buses : List Nat) (slot : Nat) (m : Msg) (lifeMs : Nat) : Pkg :=
  let p := s.posted m lifeMs
  let lost : Bool := buses.any (fun b => match s.latest b slot with | some e => !e.started | none => false)
  let s := buses.foldl (fun s b => s.setLatest b slot (some p.2)) p.1
  (if lost then s.trDisc t tTxReplaced else s).bump t oMsgOut

/-- The FlexRay channels of a destination code (Table 6-3). -/
def frBuses (dst : Nat) : List Nat := if dst = 26 then [24, 25] else [dst]

/-- A message is posted to its destination (R209, R210, R320). With no path to the sentinel the channel counts as
down (DEDUCED: see the log). -/
def Pkg.post (s : Pkg) (t dst : Nat) (m : Msg) (replace : Bool) (lifeMs : Nat) : Pkg :=
  if !s.pathUp t 15 then s.trDisc t tChannelDown
  else if dst < 12 then
    let prep : Bool := s.get 15 (fRing dst) == rPrepare
    if prep ∧ !s.on 15 (fTxWakes dst) then s.trDisc t tChannelDown
    else
      let s := if prep then s.abortSleep dst else s
      if s.canDown dst then s.trDisc t tChannelDown
      else (s.postQueue t dst (s.get 15 (fTxqDepth dst)) m replace lifeMs).canKick dst
  else if dst < 24 then
    (if s.linUp (dst - 16) then s.postLatest t [dst] (m.id % 64) m lifeMs else s.trDisc t tChannelDown)
  else if s.get 15 fFrPoc ≠ 3 then s.trDisc t tChannelDown
  else if m.id % 2048 ≤ s.get 15 fFrSlots then s.postLatest t (frBuses dst) (m.id % 2048) m lifeMs
  else s.postQueue t 24 s.bus.frDepth { m with src := dst } replace lifeMs

end Sys2Proof.Machine
end

