-- ==== Sys2Proof/Machine/Trestle.lean ====
section
/-! DEFINITION. Chapter 6: the path of a message through the trestle (R178–R212). -/
namespace Sys2Proof.Machine

def fTrActive : Fld := ⟨0x1400000, 0, 0⟩
def fTrStandby : Fld := ⟨0x1400000, 1, 1⟩
def fTrPad : Fld := ⟨0x1400004, 7, 0⟩
def oSrcFilter : Nat := 0x1400008
def fXlType : Fld := ⟨0x140000C, 7, 0⟩
def oTrMac : Nat := 0x1400010
def fFvSkip : Fld := ⟨0x1400018, 15, 0⟩
def fTrEntries : Fld := ⟨0x140001C, 14, 0⟩
def oMissKey : Nat := 0x1400030
def oMissSrc : Nat := 0x1400034

def Pkg.trestle (s : Pkg) (t : Nat) : TrestleSt := SMap.get {} s.trestles t
def Pkg.setTrestle (s : Pkg) (t : Nat) (x : TrestleSt) : Pkg := { s with trestles := SMap.set {} s.trestles t x }

/-- This tile's trestle is the active one (R178). -/
def Pkg.trActive (s : Pkg) (t : Nat) : Bool := t == s.steward && s.inService t

/-- A live table word is written here and, by the active trestle, mirrored to the standby (R204). -/
def Pkg.wrLive (s : Pkg) (t off : Nat) (w : Word) : Pkg :=
  let s := s.wr t off w
  if t = s.steward then (match s.standby with | some b => s.wr b off w | none => s) else s

/-! ### ACF streams (Table 6-7) -/

def strmOff (i : Nat) : Nat := 0x3890000 + 32 * i
def Pkg.strmWord (s : Pkg) (t i w : Nat) : Word := s.rd t (strmOff i + 4 * w)
def Pkg.strmId (s : Pkg) (t i : Nat) : Nat := (s.strmWord t i 0).toNat * 2 ^ 32 + (s.strmWord t i 1).toNat
def Pkg.strmOn (s : Pkg) (t i b : Nat) : Bool := fieldGet (s.strmWord t i 4) 31 31 == 1 && fieldGet (s.strmWord t i 4) b b == 1
def strmState (i : Nat) : Nat := 0x3898000 + 4 * i
def fTxSeq (i : Nat) : Fld := ⟨strmState i, 7, 0⟩
def fRxSeq (i : Nat) : Fld := ⟨strmState i, 15, 8⟩
def fRxInit (i : Nat) : Fld := ⟨strmState i, 16, 16⟩

/-! ### Delivery to ETH (R197, R211) -/

/-- Messages in the ETH output queue: in the frames being filled and in those ready to leave. -/
def TrestleSt.ethUsed (x : TrestleSt) : Nat := (x.batches.map (fun b => b.2.msgs.length)).sum + (x.ready.map (·.count)).sum

/-- Frames that are ready enter the switch core at port 21, while credit lets them (R115, R211). -/
def Pkg.flushEth (s : Pkg) (t : Nat) : Pkg :=
  let l := (s.trestle t).ready
  l.foldl (fun s f =>
    if s.creditStopped t 21 then s.setTrestle t { s.trestle t with ready := (s.trestle t).ready ++ [f] }
    else s.receiveInside t 21 { bytes := f.bytes, fcsOk := true, tc := some f.tc }) (s.setTrestle t { s.trestle t with ready := [] })

/-- Fields of a stream as a snapshot holds it. -/
def StrmSnap.fld (x : StrmSnap) (i hi lo : Nat) : Nat := fieldGet (x.words.getD i 0) hi lo
def StrmSnap.mtv (x : StrmSnap) : Bool := x.fld 4 3 3 == 1
def StrmSnap.txOn (x : StrmSnap) : Bool := x.fld 4 31 31 == 1 && x.fld 4 0 0 == 1
def StrmSnap.limit (x : StrmSnap) : Nat := x.fld 4 15 4
def StrmSnap.waitUs (x : StrmSnap) : Nat := x.fld 4 27 16

/-- A stream as it stands (R186). -/
def Pkg.strmSnap (s : Pkg) (t i : Nat) : StrmSnap :=
  { words := (List.range 5).map (s.strmWord t i), xl := s.get t fXlType
    mac := (s.rd t oTrMac).toNat * 65536 + fieldGet (s.rd t (oTrMac + 4)) 15 0 }

/-- The frame being filled for a stream is complete (R197). -/
def Pkg.closeBatch (s : Pkg) (t i : Nat) : Pkg :=
  let x := s.trestle t
  match x.batches.find? (fun b => b.1 == i) with
  | none => s
  | some (_, b) =>
    let k := b.strm
    let da := k.fld 2 31 0 * 65536 + k.fld 3 15 0
    let pcp := k.fld 3 30 28
    let tagged : Bool := k.fld 3 31 31 == 1
    let tag := if tagged then some (pcp * 8192 + k.fld 3 27 16) else none
    let seq := s.get t (fTxSeq i)
    let bytes := acfFrameBytes da k.mac tag (k.fld 4 2 2 == 1) seq (k.fld 0 31 0 * 2 ^ 32 + k.fld 1 31 0) (b.msgs.flatMap (acfEncode k.xl k.mtv))
    let f : AcfOut := { bytes := bytes, tc := if tagged then pcp else 0, count := b.msgs.length }
    let s := s.setTrestle t { x with batches := SMap.erase i x.batches, ready := x.ready ++ [f] }
    (s.put t (fTxSeq i) ((seq + 1) % 256)).flushEth t

/-- A message for ETH joins the frame being filled for its stream, or is discarded as ETH_FULL (R197, R211). The stream is that of the message's snapshot
(R186): a frame filled under another is closed first. -/
def Pkg.toEth (s : Pkg) (t : Nat) (m : Msg) (k : StrmSnap) : Pkg :=
  if 1024 ≤ (s.trestle t).ethUsed then s.trDisc t tEthFull
  else
    let i := m.stream
    let size := fun (b : Batch) => (b.msgs.map (acfBytes k.xl k.mtv)).sum
    let s := match (s.trestle t).batches.find? (fun b => b.1 == i) with
      | some (_, b) => if b.strm ≠ k ∨ k.limit < size b + acfBytes k.xl k.mtv m then s.closeBatch t i else s
      | none => s
    let x := s.trestle t
    let b : Batch := match x.batches.find? (fun b => b.1 == i) with
      | some (_, b) => { b with msgs := b.msgs ++ [m] }
      | none => { start := s.now, msgs := [m], strm := k }
    let s := (s.setTrestle t { x with batches := SMap.insertSorted i b (SMap.erase i x.batches) }).bump t oMsgOut
    if k.waitUs = 0 then s.closeBatch t i else s

/-- ACF_BATCH_SEND (R197): WAIT_US since the first message of the frame being filled. -/
def acfBatchSend (tile stream : Nat) (s : Pkg) : Pkg :=
  match (s.trestle tile).batches.find? (fun b => b.1 == stream) with
  | none => s
  | some (_, b) => s.when (s.trActive tile) (fun s => (s.reachFrac (b.start + ns (us b.strm.waitUs))).closeBatch tile stream)

/-! ### Route entries (Table 6-5) -/

def RouteSnap.word (r : RouteSnap) (i : Nat) : Word := r.words.getD i 0
def RouteSnap.fld (r : RouteSnap) (i hi lo : Nat) : Nat := fieldGet (r.word i) hi lo
def RouteSnap.dst (r : RouteSnap) : Nat := r.fld 4 4 0
def RouteSnap.fmt (r : RouteSnap) : Nat := r.fld 4 7 5

def routeOff (i : Nat) : Nat := 0x3700000 + 64 * i
def Pkg.routeValid (s : Pkg) (t i : Nat) : Bool := fieldGet (s.rd t (routeOff i + 36)) 31 31 == 1
def Pkg.words (s : Pkg) (t off n : Nat) : List Word := (List.range n).map (fun i => s.rd t (off + 4 * i))

/-- An entry with the profiles, E2E entries, moves and stream it names (R186). -/
def Pkg.snapshot (s : Pkg) (t i : Nat) : RouteSnap :=
  let w := s.words t (routeOff i) 10
  let g := fun (k hi lo : Nat) => fieldGet (w.getD k 0) hi lo
  { words := w
    moves := (List.range (g 6 20 16)).map (fun k =>
      (s.rd t (0x3800000 + 8 * (g 6 15 0 + k)), s.rd t (0x3800004 + 8 * (g 6 15 0 + k))))
    authV := s.words t (0x38A0000 + 16 * g 7 17 12) 3
    authG := s.words t (0x38A0000 + 16 * g 7 23 18) 3
    e2eChk := s.words t (0x38C0000 + 16 * g 8 9 0) 4
    e2eGen := s.words t (0x38C0000 + 16 * g 8 19 10) 4
    pad := BitVec.ofNat 8 (s.get t fTrPad)
    strm := if g 4 4 0 = 28 then s.strmSnap t (g 4 15 8) else {} }

/-- The chain from an entry (R192): up to 16 destinations; whether it was cut. -/
def Pkg.chainFrom (s : Pkg) (t : Nat) : Nat → Nat → List RouteSnap × Bool
  | 0, _ => ([], true)
  | n + 1, i =>
    let e := s.snapshot t i
    let nxt := e.fld 9 13 0
    if e.fld 9 14 14 = 0 ∨ s.get t fTrEntries ≤ nxt ∨ !s.routeValid t nxt then ([e], false)
    else let r := s.chainFrom t n nxt; (e :: r.1, r.2)

/-- The key of a message: words 0 and 1 of the entry that fits it (R191). -/
def Msg.key0 (m : Msg) (id : Nat) : Nat := id % 2 ^ 29 + m.fmt * 2 ^ 29
def Msg.key1 (m : Msg) : Nat := if m.src = 28 then 28 + m.stream * 256 + m.busId % 32 * 65536 else m.src

/-- The lowest matching way of the bucket a key falls into (R191). -/
def Pkg.routeFind (s : Pkg) (t k0 k1 : Nat) : Option Nat :=
  let b := crc32cWords [k0, k1] % max 1 (s.get t fTrEntries / 4)
  (List.range 4).findSome? (fun w =>
    let i := 4 * b + w
    if s.routeValid t i ∧ (s.rd t (routeOff i)).toNat = k0 ∧ (s.rd t (routeOff i + 4)).toNat = k1 then some i else none)

/-- The route of a message; FlexRay by its cycle first, then by cycle 0x40 (R191). -/
def Pkg.routeOfMsg (s : Pkg) (t : Nat) (m : Msg) : Option Nat :=
  match s.routeFind t (m.key0 m.id) m.key1 with
  | some i => some i
  | none => if m.fmt = 4 then s.routeFind t (m.key0 (m.id % 2048 + 0x40 * 2048)) m.key1 else none

/-- The source filter passes a message (R190). -/
def Pkg.srcPermitted (s : Pkg) (t : Nat) (m : Msg) : Bool :=
  let id := if m.fmt = 2 ∨ m.fmt = 4 then m.id % 2048 else m.id
  !(s.rd t oSrcFilter).getLsbD m.src ||
  (List.range 1024).any (fun k =>
    let w2 := s.rd t (0x3880008 + 16 * k)
    let w0 := s.rd t (0x3880000 + 16 * k)
    fieldGet w2 31 31 == 1 && fieldGet w2 4 0 == m.src && w2.getLsbD (8 + s.profile t) && fieldGet w0 31 29 == m.fmt &&
    decide (fieldGet w0 28 0 ≤ id) && decide (id ≤ fieldGet (s.rd t (0x3880004 + 16 * k)) 28 0))

/-! ### Output construction (R193, R194) -/

/-- The bit positions of a signal, least significant bit first (R194). -/
def signalBits (start : Nat) (be : Bool) (n : Nat) : List Nat :=
  if be then
    ((List.range (n - 1)).foldl (fun l _ => match l with
      | p :: _ => (if p % 8 = 0 then p + 15 else p - 1) :: l
      | [] => l) [start])
  else (List.range n).map (fun k => start + k)

def payloadBit (bs : List Byte) (p : Nat) : Bool := (bs.getD (p / 8) 0).getLsbD (p % 8)
def setPayloadBit (bs : List Byte) (p : Nat) (v : Bool) : List Byte :=
  bs.set (p / 8) (let b := bs.getD (p / 8) 0; if v then b ||| BitVec.ofNat 8 (2 ^ (p % 8)) else b &&& ~~~ (BitVec.ofNat 8 (2 ^ (p % 8))))

/-- One move (R194): the output, and whether the source ran past the payload. A bit beyond the output is not written. -/
def applyMove (src : List Byte) (pad : Byte) (out : List Byte) (m : Word × Word) : List Byte × Bool :=
  let n := fieldGet m.2 6 0
  let op := fieldGet m.2 9 8
  let sp := signalBits (fieldGet m.1 13 0) (fieldGet m.1 30 30 == 1) n
  let dp := signalBits (fieldGet m.1 29 16) (fieldGet m.1 31 31 == 1) n
  let short : Bool := op == 0 && sp.any (fun p => decide (src.length ≤ p / 8))
  let val := fun (p : Nat) => if op = 0 then (if p / 8 < src.length then payloadBit src p else pad.getLsbD (p % 8)) else op == 2
  ((sp.zip dp).foldl (fun o (p, d) => setPayloadBit o d (val p)) out, short)

/-- The next length that CAN FD has a DLC for (R193). -/
def fdLength (n : Nat) : Nat := if n ≤ 8 then n else ([12, 16, 20, 24, 32, 48, 64].find? (fun k => decide (n ≤ k))).getD n

/-- The length of an output as its destination takes it (R193, step 5); none: OUT_FORMAT. -/
def Pkg.outLength (s : Pkg) (r : RouteSnap) (m : Msg) (n : Nat) : Option Nat :=
  let dst := r.dst
  if dst < 12 then
    (if r.fmt = 2 then (if 1 ≤ n ∧ n ≤ 2048 then some n else none)
     else if 2 < r.fmt then none
     else if m.fd then (if n ≤ 64 then some (fdLength n) else none)
     else if n ≤ 8 then some n else none)
  else if dst < 24 then
    (let w := s.linFrame (dst - 16) m.id
     if r.fmt = 3 ∧ fieldGet w 31 31 = 1 ∧ n = fieldGet w 3 0 then some n else none)
  else if dst < 28 then
    (if r.fmt ≠ 4 then none
     else if m.id % 2048 ≤ s.get 15 fFrSlots then
       (let k := 2 * s.get 15 fFrPayload
        if n ≤ k then some k else none)
     else if n ≤ 254 then some (n + n % 2) else none)
  else
    (if r.strm.txOn ∧ acfBytes r.strm.xl r.strm.mtv { m with payload := List.replicate n 0 } ≤ r.strm.limit then some n else none)

/-- The output of step 6 (R182, R193, R194); none: OUT_FORMAT. -/
def Pkg.buildOut (s : Pkg) (t : Nat) (m : Msg) (r : RouteSnap) : Pkg × Option Msg :=
  let n := if r.fld 7 11 0 = 0 then m.payload.length else r.fld 7 11 0
  let base := if r.fld 4 21 21 = 1 then List.replicate n r.pad else m.payload.take n ++ List.replicate (n - m.payload.length) r.pad
  let out := r.moves.foldl (fun (o : List Byte × Bool × Nat) mv =>
    let x := applyMove m.payload r.pad o.1 mv
    (x.1, x.2, o.2.2 + bit x.2)) (base, false, 0)
  let s := s.add t oMoveShort out.2.2
  let xl : Bool := r.fmt == 2
  let o : Msg :=
    { src := r.dst, fmt := r.fmt, id := r.fld 5 28 0, payload := out.1, stream := r.fld 4 15 8, busId := r.fld 4 20 16, rtr := m.rtr
      fd := r.fld 4 23 23 == 1 && decide (r.fmt ≤ 1), sdt := if xl && m.fmt == 2 then m.sdt else 0
      af := if xl && m.fmt == 2 then m.af else 0, stamp := m.stamp }
  if m.rtr ∧ 12 ≤ r.dst ∧ r.dst ≠ 28 then (s, none)
  else match s.outLength r o n with
    | none => (s, none)
    | some k => (s, some { o with payload := o.payload ++ List.replicate (k - o.payload.length) r.pad })

/-! ### E2E (R205–R207) -/

def e2eCtr (i : Nat) : Nat := 0x38D0000 + 16 * i

/-- Fields of an E2E entry (Table 6-10). -/
def e2eValid (w : List Word) : Bool := fieldGet (w.getD 0 0) 31 31 == 1
def e2eList (w : List Word) : List Byte := leBytes 4 (w.getD 2 0).toNat ++ leBytes 4 (w.getD 3 0).toNat

/-- The DATA_ID_LIST of P02 and P22 (Table 6-10): the two words hold bytes 0–7; bytes 8–15 are free values (DESIGN CHOICE: see the log). -/
def e2eIds (i : Nat) (w : List Word) : List Byte := e2eList w ++ (List.range 8).map (fun n => Config.dataIdTail i (8 + n))

/-- E2E check of a message (R206): its result is counted, the counter is taken; false: it is discarded as E2E_FAIL. -/
def Pkg.e2eCheck (s : Pkg) (t : Nat) (r : RouteSnap) (m : Msg) : Pkg × Bool :=
  let i := r.fld 8 9 0
  let w := r.e2eChk
  if i = 0 ∨ !e2eValid w then (s, true)
  else
    let w0 := w.getD 0 0
    let profile := fieldGet w0 4 0
    let off := fieldGet w0 15 5
    let h := e2eShape profile
    let ctr := h.counter m.payload off
    let delta := ((ctr : Int) - (s.rd t (e2eCtr i)).toNat) % (h.modulus : Int)
    let res : E2eRes :=
      if !e2eSound profile off (w.getD 1 0).toNat (e2eIds i w) m.payload then .error
      else if s.rd t (e2eCtr i + 4) &&& 1 = 1 ∨ delta = 1 then .ok
      else if delta = 0 then .repeated
      else if delta ≤ fieldGet w0 23 16 then .someLost else .wrongSeq
    let s := s.bump t (match res with
      | .ok => oE2eOk | .someLost => oE2eSomeLost | .repeated => oE2eRepeated | .wrongSeq => oE2eWrongSeq | .error => oE2eError)
    let s := match res with
      | .error => s
      | _ => (s.wrLive t (e2eCtr i) (BitVec.ofNat 32 ctr)).wrLive t (e2eCtr i + 4) 0
    (s, !(fieldGet w0 24 24 == 1 && (match res with | .repeated | .wrongSeq | .error => true | _ => false)))

/-- E2E protection of an output (R207). -/
def Pkg.e2eProtect (s : Pkg) (t : Nat) (r : RouteSnap) (o : Msg) : Pkg × Msg :=
  let i := r.fld 8 19 10
  let w := r.e2eGen
  if i = 0 ∨ !e2eValid w then (s, o)
  else
    let w0 := w.getD 0 0
    let profile := fieldGet w0 4 0
    let ctr := (s.rd t (e2eCtr i + 8)).toNat % (e2eShape profile).modulus
    (s.wrLive t (e2eCtr i + 8) (BitVec.ofNat 32 ((ctr + 1) % (e2eShape profile).modulus)),
     { o with payload := e2eWrite profile (fieldGet w0 15 5) ctr (w.getD 1 0).toNat (e2eIds i w) o.payload })

/-! ### Steps 5 to 9 -/

/-- Step 9: delivery (R209–R211). -/
def Pkg.deliverOut (s : Pkg) (t : Nat) (o : Msg) (r : RouteSnap) : Pkg :=
  if r.dst = 28 then s.toEth t o r.strm else s.post t r.dst o (r.fld 4 22 22 == 1) (r.fld 4 31 24)

/-- Steps 6 to 8 for one destination: an output to be secured waits for the engine. -/
def Pkg.oneOutput (s : Pkg) (t : Nat) (m : Msg) (r : RouteSnap) : Pkg :=
  match s.buildOut t m r with
  | (s, none) => s.trDisc t tOutFormat
  | (s, some o) =>
    let x := s.e2eProtect t r o
    if r.fld 7 23 18 = 0 then x.1.deliverOut t x.2 r
    else x.1.setTrestle t { x.1.trestle t with engine := (x.1.trestle t).engine ++ [.generate x.2 r] }

/-- Steps 5 to 9 of a message. A chain that was cut counts CHAIN_LONG at step 6, after the outputs it still has (R185, R192). -/
def Pkg.outputs (s : Pkg) (t : Nat) (m : Msg) (chain : List RouteSnap) (cut : Bool) : Pkg :=
  match chain with
  | [] => s
  | h :: _ =>
    match s.e2eCheck t h m with
    | (s, true) =>
      let s := chain.foldl (fun s r => s.oneOutput t m r) s
      if cut then s.trDisc t tChainLong else s
    | (s, false) => s.trDisc t tE2eFail

/-- Steps 5 to 9 of a message that the engine has verified: the outputs it must secure go ahead of the jobs of later messages, so that uses of a counter
stay in input order (R202). -/
def Pkg.outputsFirst (s : Pkg) (t : Nat) (m : Msg) (chain : List RouteSnap) (cut : Bool) : Pkg :=
  let rest := (s.trestle t).engine
  let s := (s.setTrestle t { s.trestle t with engine := [] }).outputs t m chain cut
  s.setTrestle t { s.trestle t with engine := (s.trestle t).engine ++ rest }

/-! ### Steps 1 to 3 (R185–R192) -/

/-- A miss is recorded while none is (R191). -/
def Pkg.recordMiss (s : Pkg) (t : Nat) (m : Msg) : Pkg :=
  if fieldGet (s.rd t oMissSrc) 31 31 = 1 then s
  else ((s.wr t oMissKey (BitVec.ofNat 32 (m.key0 m.id))).wr t oMissSrc (BitVec.ofNat 32 m.key1)).raise t ⟨oMissSrc, 31, 31⟩

/-- The input stage on one message. -/
def Pkg.inputStage (s : Pkg) (t : Nat) (m : Msg) : Pkg :=
  let s := s.bump t oMsgIn
  if !s.srcPermitted t m then s.trDisc t tSrcDeny
  else match s.routeOfMsg t m with
    | none => (s.recordMiss t m).trDisc t tNoRoute
    | some i =>
      let af : Word := BitVec.ofNat 32 m.af
      if m.fmt = 2 ∧ (af ^^^ s.rd t (routeOff i + 8)) &&& s.rd t (routeOff i + 12) ≠ 0 then s.trDisc t tAfReject
      else
        let c := s.chainFrom t 16 i
        match c.1 with
        | [] => s
        | h :: _ =>
          if h.fld 7 17 12 = 0 then s.outputs t m c.1 c.2
          else s.setTrestle t { s.trestle t with engine := (s.trestle t).engine ++ [.verify m c.1 c.2] }

/-- The next message of the input stage (R187): the rest of an ACF frame, or the channel after the one served last. -/
def TrestleSt.pick (x : TrestleSt) : Option (Msg × TrestleSt) :=
  match x.acf with
  | m :: l => some (m, { x with acf := l })
  | [] =>
    match (x.inq.find? (fun e => decide (x.last < e.1))).or x.inq.head? with
    | some (c, m :: l) => some (m, { x with inq := SMap.set [] x.inq c l, last := c })
    | _ => none

/-- The tile drains for a commit (R61). -/
def Pkg.draining (s : Pkg) (t : Nat) : Bool := s.ksState t == 2

/-- TRESTLE_INPUT (R185): the next message passes the trestle up to the engine or its delivery. While a drain is on the stage takes none but those of
an ACF frame already split (R62, R186), nor any while the engine's queue is full (DESIGN CHOICE: see the log). -/
def trestleInput (tile at_ : Nat) (s : Pkg) : Pkg :=
  (s.reach at_).when (s.trActive tile && (s.admits tile || (s.draining tile && !(s.trestle tile).acf.isEmpty)) && decide ((s.trestle tile).engine.length < 512)) (fun s =>
    match (s.trestle tile).pick with
    | none => s
    | some (m, x) => (s.setTrestle tile x).inputStage tile m)

/-! ### ACF frames (R187, R188, R198) -/

/-- The stream a received stream_id belongs to. -/
def Pkg.rxStream (s : Pkg) (t sid : Nat) : Option Nat := (List.range 256).find? (fun i => s.strmOn t i 1 && s.strmId t i == sid)

/-- A gap in sequence_num (R198). -/
def Pkg.countGap (s : Pkg) (t i seq : Nat) : Pkg :=
  let s := if s.on t (fRxInit i) then s else s.add t oSeqGap ((seq + 256 - s.get t (fRxSeq i)) % 256)
  ((s.put t (fRxInit i) 0).put t (fRxSeq i) ((seq + 1) % 256))

/-- An accepted or faulty frame (R198). Its messages carry the tile's time at the frame's delivery, `at_` (R183). -/
def Pkg.acfTake (s : Pkg) (t : Nat) (bs : List Byte) (at_ : Nat) : Pkg :=
  match avtpHeader bs (12 + 4 * tagCount bs 8 12) with
  | none => s.trDisc t tAcfMalformed
  | some (sid, seq, d) =>
    match s.rxStream t sid with
    | none => s.trDisc t tNoStream
    | some i =>
      let r := acfItems (s.get t fXlType) d.length d
      let s := (s.countGap t i seq).add t (oTrDisc tAcfUnknown) r.2.1
      let s := if r.2.2 then s.trDisc t tAcfMalformed else s
      s.setTrestle t { s.trestle t with acf := r.1.map (fun m => { m with stream := i, stamp := at_ / 65536 }) }

/-- ACF_FRAME (R179, R187, R188, R198): the next frame delivered to port 21. The standby's is consumed unprocessed; the active trestle takes it
after the bus messages, once the messages of the frame before have been taken, with 128 free entries in the engine's queue. -/
def acfFrame (tile at_ : Nat) (s : Pkg) : Pkg :=
  let s := s.reach at_
  match s.sw.got.find? (fun d => d.tile == tile && d.port == 21) with
  | none => s
  | some d =>
    let gone := s.onSw (fun w => { w with got := dropFirst (fun x => x.tile == tile && x.port == 21) w.got })
    if !s.inService tile then s
    else if tile ≠ s.steward then gone.bump tile oStandbyRx
    else if s.admits tile ∧ (s.trestle tile).acf.isEmpty ∧ (s.trestle tile).inq.isEmpty ∧ (s.trestle tile).engine.length ≤ 384 then
      gone.acfTake tile d.bytes d.at_
    else s

/-! ### Authentication (R199–R204) -/

/-- Fields of an authentication profile (Table 6-8). -/
def apSlot (w : List Word) : Nat := fieldGet (w.getD 0 0) 11 0
def apDataId (w : List Word) : Nat := fieldGet (w.getD 0 0) 31 16
def apMac (w : List Word) : Nat := fieldGet (w.getD 1 0) 4 0
def apTfv (w : List Word) : Nat := fieldGet (w.getD 1 0) 7 5
def apFv (w : List Word) : Nat := fieldGet (w.getD 1 0) 19 8
def apWindow (w : List Word) : Nat := fieldGet (w.getD 1 0) 27 20
def apLen (w : List Word) : Nat := fieldGet (w.getD 2 0) 11 0
def apValid (w : List Word) : Bool := fieldGet (w.getD 2 0) 31 31 == 1

/-- The authentic bytes A of a payload (R199). -/
def apAuthentic (w : List Word) (n : Nat) : Nat := if apLen w = 0 then n - apTfv w - apMac w else apLen w

/-- A payload long enough for its profile (R199). -/
def apFits (w : List Word) (n : Nat) : Bool := decide (apAuthentic w n + apTfv w + apMac w ≤ n)

/-- The code of a payload (R199): the first MAC_BYTES of CMAC over DATA_ID, the authentic bytes and the freshness value. -/
def apCode (key : List Byte) (w : List Word) (authentic : List Byte) (fv : Nat) : List Byte :=
  (cmacBytes key (beBytes 2 (apDataId w) ++ authentic ++ beBytes 8 fv)).take (apMac w)

/-- Freshness counters (Table 6-14). -/
def fvOff (i : Nat) : Nat := 0x38B0000 + 8 * i
def Pkg.fv (s : Pkg) (t i : Nat) : Nat := s.rd64 t (fvOff i)
def Pkg.setFv (s : Pkg) (t i v : Nat) : Pkg :=
  (s.wrLive t (fvOff i) (BitVec.ofNat 32 v)).wrLive t (fvOff i + 4) (BitVec.ofNat 32 (v / 2 ^ 32))

/-- The candidate of a received freshness value (R200). -/
def fvCandidate (stored tfvBytes tfv : Nat) : Nat :=
  if tfvBytes = 0 then stored + 1
  else
    let m := 256 ^ tfvBytes
    let c := stored - stored % m + tfv
    if c ≤ stored then c + m else c

/-- The job at the head of the engine's queue is done. -/
def Pkg.popEngine (s : Pkg) (t : Nat) : Pkg := s.setTrestle t { s.trestle t with engine := (s.trestle t).engine.drop 1 }

/-- Verification of a message with a key (R199, R200). -/
def Pkg.verifyWith (s : Pkg) (t : Nat) (key : List Byte) (w : List Word) (m : Msg) (chain : List RouteSnap) (cut : Bool) : Pkg :=
  let n := m.payload.length
  let a := apAuthentic w n
  if !apFits w n then s.trDisc t tAuthFormat
  else
    let stored := s.fv t (apFv w)
    let cand := fvCandidate stored (apTfv w) (beAt m.payload a (apTfv w))
    if 2 ^ 64 ≤ cand ∨ apWindow w < cand - stored then s.trDisc t tAuthFv
    else if apCode key w (m.payload.take a) cand ≠ sliceBytes m.payload (a + apTfv w) (apMac w) then s.trDisc t tAuthMac
    else ((s.setFv t (apFv w) cand).bump t oAuthVerified).outputsFirst t m chain cut

/-- AUTH_VERIFY (R200, R203, R279): the engine verifies the message at its head. A message that needs a key not yet fetched waits. -/
def authVerify (tile at_ : Nat) (s : Pkg) : Pkg :=
  (s.reach at_).when (s.trActive tile) (fun s =>
    match (s.trestle tile).engine with
    | .verify m chain cut :: _ =>
      let w := match chain with | h :: _ => h.authV | [] => []
      if !apValid w then (s.popEngine tile).trDisc tile tKeyAbsent
      else match s.trKey tile (apSlot w) false with
        | .absent => (s.popEngine tile).trDisc tile tKeyAbsent
        | .revoked => (s.popEngine tile).trDisc tile tKeyRevoked
        | .wait => s
        | .key k => (s.popEngine tile).verifyWith tile k w m chain cut
    | _ => s)

/-- Securing an output with a key (R199, R201). -/
def Pkg.generateWith (s : Pkg) (t : Nat) (key : List Byte) (o : Msg) (r : RouteSnap) : Pkg :=
  let w := r.authG
  let n := o.payload.length
  let a := apAuthentic w n
  let fv := s.fv t (apFv w) + 1
  if !apFits w n then s.trDisc t tAuthFormat
  else if 2 ^ 64 ≤ fv then s.trDisc t tFvExhausted
  else
    let out := writeWithin o.payload a (beBytes (apTfv w) fv ++ apCode key w (o.payload.take a) fv)
    ((s.setFv t (apFv w) fv).bump t oAuthGenerated).deliverOut t { o with payload := out } r

/-- AUTH_GENERATE (R201, R203, R279): the engine secures the output at its head. -/
def authGenerate (tile at_ : Nat) (s : Pkg) : Pkg :=
  (s.reach at_).when (s.trActive tile) (fun s =>
    match (s.trestle tile).engine with
    | .generate o r :: _ =>
      if !apValid r.authG then (s.popEngine tile).trDisc tile tKeyAbsent
      else match s.trKey tile (apSlot r.authG) true with
        | .absent => (s.popEngine tile).trDisc tile tKeyAbsent
        | .revoked => (s.popEngine tile).trDisc tile tKeyRevoked
        | .wait => s
        | .key k => (s.popEngine tile).generateWith tile k o r
    | _ => s)

/-- Generate counters in effect on a tile: those of the profiles that valid routes name for generation (R204). -/
def Pkg.generateCounters (s : Pkg) (t : Nat) : List Nat :=
  let used := (s.listed t 0x3700000 0x3800000).filterMap (fun o =>
    if o % 64 = 28 ∧ s.routeValid t ((o - 0x3700000) / 64) then some (fieldGet (s.rd t o) 23 18) else none)
  ((List.range 64).filter (fun p => p != 0 && used.contains p)).map (fun p => fieldGet (s.authWord t p 1) 19 8) |>.eraseDups

/-- TR_FV_SKIP is added to every generate counter (R204); a counter does not wrap. -/
def Pkg.skipCounters (s : Pkg) (t : Nat) : Pkg :=
  let k := s.get t fFvSkip
  (s.generateCounters t).foldl (fun s i => s.setFv t i (min (s.fv t i + k) (2 ^ 64 - 1))) s

/-- A word of the freshness or E2E counters (Table 6-14). -/
def mirroredWord (off : Nat) : Bool := (decide (0x38B0000 ≤ off) && decide (off < 0x38B8000)) || (decide (0x38D0000 ≤ off) && decide (off < 0x38D4000))

/-- A counter that software has written on the active trestle reaches the standby (R204). -/
def Pkg.mirrorWord (s : Pkg) (t off : Nat) : Pkg :=
  if t = s.steward ∧ mirroredWord off then (match s.standby with | some b => s.wr b off (s.rd t off) | none => s) else s

/-- What a keystone commit does to the trestle (R206): each E2E entry it writes gets RX_INIT. -/
def Pkg.e2eInit (s : Pkg) (t : Nat) (written : List Nat) : Pkg := written.foldl (fun s i => s.wrLive t (e2eCtr i + 4) 1) s

end Sys2Proof.Machine
end

