-- ==== Sys2Proof/Machine/TimeSync.lean ====
section
/-! DEFINITION. gPTP controls, the depth and delay sampler, and what a keystone commit does to the switch (R149, R157, R161, R166,
R170–R173). -/
namespace Sys2Proof.Machine

/-! ### The transmit timestamp FIFO (R170) -/

/-- TM_TXTS_INFO as a word, and the pairs its read latches. -/
def fTxtsFrac : Fld := ⟨0x10011C, 15, 0⟩
def oTxtsInfo : Nat := 0x100110
def oTxtsNs : Nat := 0x100114

/-- A read of TM_TXTS_INFO (R170): the head is popped and its time latched; an empty FIFO reads 0. -/
def Pkg.popStamp (s : Pkg) (t : Nat) : Pkg × Word :=
  match SMap.get [] s.sw.stamps t with
  | [] => (s, 0)
  | x :: l =>
    let s := s.onSw (fun w => { w with stamps := SMap.set [] w.stamps t l })
    let s := (s.setCnt t oTxtsNs (BitVec.ofNat 64 (x.time / 65536))).put t fTxtsFrac (x.time % 65536)
    (s, BitVec.ofNat 32 (x.seqId % 65536 + (x.msgType % 16) * 2 ^ 16 + (x.port % 16) * 2 ^ 20 + (x.domain % 128) * 2 ^ 24 + 2 ^ 31))

/-! ### Rate and phase (R172) -/

def oRateAdj : Nat := 0x100100
def oPhaseAdj : Nat := 0x100104
def oPhasePend : Nat := 0x100108
def fSlew : Fld := ⟨0x10010C, 18, 0⟩

/-- The phase correction not yet absorbed, in 2⁻¹⁶ ns: it is absorbed at TM_SLEW ppm. -/
def Pkg.phaseNow (s : Pkg) (t : Nat) : Int :=
  let done : Int := ((s.now - s.sw.phaseAt) * s.get t fSlew / 1000000 : Nat)
  if 0 ≤ s.sw.phase then max 0 (s.sw.phase - done) else min 0 (s.sw.phase + done)

/-- Bring the pending correction up to date; TM_PHASE_PEND shows it in ns. -/
def Pkg.settlePhase (s : Pkg) : Pkg :=
  let v := s.phaseNow s.ref
  (s.onSw (fun w => { w with phase := v, phaseAt := s.now })).wr s.ref oPhasePend (toWord (v / 65536))

/-- A write of TM_RATE_ADJ (R172): on the time reference only; beyond ±2,147,483 out of shape. -/
def rateAdjEff (r : Req) (tile : Nat) (value : Word) (s : Pkg) : Pkg :=
  if tile ≠ s.ref then s
  else if 2147483 < (sgn32 value).natAbs then s.cfgErr r tile cOutOfShape (pkgAddr tile oRateAdj)
  else s.wr tile oRateAdj value

/-- A write of TM_PHASE_ADJ (R172): added to the pending correction, on the time reference only; beyond ±1 s out of shape. -/
def phaseAdjEff (r : Req) (tile : Nat) (value : Word) (s : Pkg) : Pkg :=
  if tile ≠ s.ref then s
  else
    let s := s.settlePhase
    let v := s.sw.phase + sgn32 value * 65536
    if 1000000000 * 65536 < v.natAbs then s.cfgErr r tile cOutOfShape (pkgAddr tile oPhaseAdj)
    else (s.onSw (fun w => { w with phase := v })).settlePhase

/-! ### The sampler (R173) -/

def fSampEn : Fld := ⟨0xC00010, 0, 0⟩
def fSampWrap : Fld := ⟨0xC00010, 1, 1⟩
def fSampInterval : Fld := ⟨0xC00014, 29, 0⟩
def fSampProd : Fld := ⟨0xC00018, 11, 0⟩
def fSampCons : Fld := ⟨0xC00018, 27, 16⟩
def fSampSel (n : Nat) : Fld := ⟨0xC00040 + 4 * n, 7, 0⟩

/-- The hardware advances TS_SAMP_CONS: a software write in the same clock is lost to it (R173). -/
def Pkg.advanceCons (s : Pkg) (t : Nat) : Pkg :=
  let w := SMap.get (0, 0) s.sw.sampWas t
  let v := if w.1 = s.now + 1 then w.2 else s.get t fSampCons
  (s.put t fSampCons ((v + 1) % 4096)).onSw (fun x =>
    { x with sampWas := SMap.set (0, 0) x.sampWas t (0, 0), sampAdv := SMap.set 0 x.sampAdv t (s.now + 1) })

/-- One record of Table 5-5, written at TS_SAMP_PROD. -/
def Pkg.sampleRecord (s : Pkg) (t p q time : Nat) : Pkg :=
  let i := s.get t fSampProd
  let a := 0x3680000 + 32 * i
  let soj := match s.queue t p q with
    | c :: _ => min ((s.now - c.enq) / 65536) 0xFFFFFFFF
    | [] => 0
  let w2 := p + q * 32 + s.depthChip t p q % 2 ^ 15 * 256 + bit (s.qst t p q).spilled * 2 ^ 23
  let s := (s.wr t a (BitVec.ofNat 32 time)).wr t (a + 4) (BitVec.ofNat 32 (time / 2 ^ 32))
  let s := ((s.wr t (a + 8) (BitVec.ofNat 32 w2)).wr t (a + 12) (BitVec.ofNat 32 soj)).wr t (a + 16) (BitVec.ofNat 32 (s.depthOvf t p q % 2 ^ 24))
  s.put t fSampProd ((i + 1) % 4096)

/-- A record for one queue, or what becomes of it when the ring is full (R173). -/
def Pkg.sampleQueue (s : Pkg) (t p q time : Nat) : Pkg :=
  let full : Bool := (s.get t fSampProd + 1) % 4096 == s.get t fSampCons
  if !full then s.sampleRecord t p q time
  else if s.on t fSampWrap then
    ((s.advanceCons t).bump t oSampLost).sampleRecord t p q time
  else s.bump t oSampLost

/-- SAMPLE (R173): at the n-th multiple of SAMP_INTERVAL every selected queue is sampled, in ascending order of port and queue. -/
def sample (tile n : Nat) (s : Pkg) : Pkg :=
  s.when (s.inService tile && s.on tile fSampEn) (fun s =>
    let time := n * s.get tile fSampInterval
    let s := s.reach time
    (List.range 28).foldl (fun s p => (List.range 8).foldl (fun s q =>
      if (s.get tile (fSampSel p)).testBit q then s.sampleQueue tile p q time else s) s) s)

/-! ### The stream gates (R159) -/

/-- STREAM_GATE_ENTRY (R159): the instant an entry of a stream gate starts. A gate's state is read off package time (R147), so the
start itself moves nothing but time. -/
def streamGateEntry (tile gate at_ : Nat) (s : Pkg) : Pkg :=
  if s.inService tile ∧ gate < 64 ∧ fieldGet (s.sgHead tile gate 0) 31 31 = 1 then s.reach at_ else s

/-! ### At a keystone commit -/

/-- What the switch must know of the old epoch at T_c. -/
structure OldEpoch where
  gated  : List Nat
  pause  : List (Nat × Nat × Bool)
  meters : List Nat
  recovs : List Nat
  e2e    : List Nat

/-- Indices of the entries of a table memory with a written shadow word: from `lo`, n entries of `stride` bytes. -/
def Pkg.writtenEntries (s : Pkg) (t lo stride n : Nat) : List Nat :=
  (List.range n).filter (fun i => s.shadow.any (fun e => pkgAddr t (lo + i * stride) ≤ e.1 && e.1 < pkgAddr t (lo + (i + 1) * stride)))

/-- Before the shadows take effect: credits are brought up to date under the old rates. -/
def Pkg.beforeCommit (s : Pkg) (t : Nat) : Pkg × OldEpoch :=
  let old : OldEpoch :=
    { gated := (List.range 16).filter (fun n => s.on t (fGateEn n)), pause := s.pauseConfig t
      meters := s.writtenEntries t 0x3604000 16 1024, recovs := s.writtenEntries t 0x3660000 32 256
      e2e := s.writtenEntries t 0x38C0000 16 1024 }
  ((List.range 28).foldl (fun s n => s.settlePort t n) s, old)

/-- After they have: gate lists, merge state, credits, pauses, meters, recovery functions, fragments (R84, R112, R144, R149, R152,
R157, R161, R166). -/
def Pkg.afterCommit (s : Pkg) (t : Nat) (old : OldEpoch) : Pkg :=
  let s := s.capCredits t
  let s := (List.range 16).foldl (fun s n => if s.hasPort t n then s.mergeStart t n else s) s
  let s := (s.gatesAtCommit t old.gated).pauseAtCommit t old.pause
  let s := old.meters.foldl (fun s m => s.setMeterSt t m {}) s
  let s := old.recovs.foldl (fun s r => (s.bump t (oRecov r 6)).setRecovSt t r {}) s
  (s.fragFlush t).e2eInit t old.e2e

end Sys2Proof.Machine
end

