-- ==== Sys2Proof/Machine/Fabric.lean ====
section
/-! DEFINITION. Chapter 1: spans, tethers and package time. -/
namespace Sys2Proof.Machine

/-! ### Spans (R28, R29) -/

/-- TM_STATUS and TM_OFFSET (Table 1-8). -/
def fLocked : Fld := ⟨0x10000C, 0, 0⟩
def fReference : Fld := ⟨0x10000C, 1, 1⟩
def fSkewFault : Fld := ⟨0x10000C, 2, 2⟩
def fTimePath : Fld := ⟨0x10000C, 11, 8⟩
def fTmOffset : Fld := ⟨0x100010, 31, 0⟩
def oSkewFaults : Nat := 0x100018

/-- Do something at both ends of the span at port p of tile t (R25). -/
def Pkg.bothEnds (s : Pkg) (t p : Nat) (f : Nat → Nat → Pkg → Pkg) : Pkg :=
  match spanPeer s.variant t p with
  | some (d, q) => f d q (f t p s)
  | none => s

/-- A span port that exists on a powered tile. -/
def Pkg.spanThere (s : Pkg) (t p : Nat) : Bool := s.tileOn t && (spanPeer s.variant t p).isSome

/-- FLIT_CRC_FAIL (R28): the flit is replayed and not lost, and the replay is counted. -/
def flitCrcFail (tile span at_ : Nat) (s : Pkg) : Pkg :=
  (s.reach at_).when (s.spanThere tile span && s.spanUpAt tile span) (fun s => s.bump tile (oSpanRetry + span * 0x40))

/-- After a span has gone DOWN, its pair's traffic and what was relayed over it move at once (R29), control traffic to the lowest-numbered span port
still up, where it stays until the next commit (R422). A pair left without a
route takes the package into DEGRADED with REASON NO_ROUTE (R29, Table 10-2). -/
def Pkg.moveRoutes (s : Pkg) : Pkg :=
  (tilePairsOf s.variant).foldl (fun s (a, b) =>
    let kept := SMap.get 7 s.ctrl (pairKey a b)
    let s := if kept < 6 ∧ !s.spanUpAt a kept then s.chooseCtrl a b else s
    if s.tileOn a && s.tileOn b && !s.pairUp a b then
      match s.routeOf a b, s.bestRoute a b with
      | .none_, _ => s
      | _, .none_ => (s.setRoute a b .none_).degrade 12
      | _, r => s.setRoute a b r
    else s) s

/-- TM_STATUS.PATH of every tile that takes beats follows its control span (R44, Table 1-8). -/
def Pkg.showPaths (s : Pkg) : Pkg :=
  s.onEach (s.serving.filter (fun t => t != s.ref && s.get t fTimePath != 15)) (fun t s => s.put t fTimePath (s.beatPort t))

/-- SPAN_DOWN (R28, R29): both ports go DOWN and count the transition; the cells in flight are discarded and counted at
the port that sent them, and their frames discarded whole at the egress tile; traffic moves at once. -/
def spanDown (tile span : Nat) (lost : List (Nat × Nat × Nat)) (at_ : Nat) (s : Pkg) : Pkg :=
  (s.reach at_).when (s.spanThere tile span && s.spanUpAt tile span) (fun s =>
    let s := s.bothEnds tile span (fun t p s =>
      let s := (s.put t (fSpanState.at p 0x40) 3).bump t (oSpanDownCnt + p * 0x40)
      s.setSpanSt t p { inServ := false, fell := true, mark := s.now })
    let s := lost.foldl (fun s (e, _, n) =>
      match spanPeer s.variant tile span with
      | some (d, q) => if e = d then s.add tile (oSpanLost + span * 0x40) n else s.add d (oSpanLost + q * 0x40) n
      | none => s) s
    let s := match spanPeer s.variant tile span with
      | some (d, _) => (s.event tile 6).event d 6
      | none => s
    ((s.spanLost lost).moveRoutes.moveCharges).showPaths)

/-- SPAN_RETRAIN (R28): a DOWN span retrains 1 ms after it went DOWN or last retrained; it is in training until it comes UP. -/
def spanRetrain (tile span : Nat) (s : Pkg) : Pkg :=
  s.when (s.spanThere tile span && (s.spanState tile span == 3 || s.spanState tile span == 1)) (fun s =>
    let s := s.reachFrac ((s.spanSt tile span).mark + ns (ms 1))
    s.bothEnds tile span (fun t p s =>
      (s.put t (fSpanState.at p 0x40) 1).setSpanSt t p { s.spanSt t p with mark := s.now }))

/-- A pair's spans are chosen while they train in BOOT (R422): the lowest-numbered span port that is UP; one whose control span was gone takes the
first that is up again. -/
def Pkg.trainedCtrl (s : Pkg) (tile span : Nat) : Pkg :=
  match spanPeer s.variant tile span with
  | some (d, _) =>
    let lo := min tile d
    let kept := SMap.get 7 s.ctrl (pairKey tile d)
    if s.get lo fEpoch = 0 ∨ 6 ≤ kept ∨ !s.spanUpAt lo kept then s.chooseCtrl tile d else s
  | none => s

/-- SPAN_UP (R28): the span is UP at both ends; it takes traffic at once where it has never been DOWN and the tile has not yet taken its first commit,
otherwise at the first keystone commit after that. -/
def spanUp (tile span at_ : Nat) (s : Pkg) : Pkg :=
  (s.reach at_).when (s.spanThere tile span && !s.spanUpAt tile span) (fun s =>
    (s.bothEnds tile span (fun t p s =>
      let s := s.put t (fSpanState.at p 0x40) 2
      s.setSpanSt t p { s.spanSt t p with inServ := s.get t fEpoch == 0 && !(s.spanSt t p).fell })).trainedCtrl tile span)

/-! ### Tethers (R31, R32) -/

/-- A tether of this ordering code whose tile is powered. -/
def Pkg.tetherThere (s : Pkg) (t : Nat) : Bool := t < tetherCount s.variant && s.tileOn t

/-- TETHER_HEARTBEAT (R32): one heartbeat slot of one direction. -/
def tetherHeartbeat (tether : Nat) (toTile arrived : Bool) (at_ : Nat) (s : Pkg) : Pkg :=
  (s.reach at_).when (s.tetherThere tether) (fun s =>
    let x := s.tetherSt tether
    s.setTetherSt tether
      (if toTile then { x with missTo := if arrived then 0 else x.missTo + 1, goodTo := if arrived then x.goodTo + 1 else 0 }
       else { x with missFrom := if arrived then 0 else x.missFrom + 1, goodFrom := if arrived then x.goodFrom + 1 else 0 }))

/-- A transition the sentinel records while no tether is UP (R32): the tiles are not told; each tile at the end of a DOWN
tether raises vector 30 on its own. -/
def Pkg.degradeAlone (s : Pkg) (reason : Nat) : Pkg :=
  let s := if s.modeNow = mRun ∨ s.modeNow = mRunPartial then
      let old := s.modeNow
      let s := ((s.put 15 fPrev old).put 15 fMode mDegraded).put 15 fReason reason
      (s.setCnt 15 oLastChange (BitVec.ofNat 64 s.nowNs)).bump 15 oTransitions
    else s
  s.onEach ((List.range 2).filter (fun t => s.tetherThere t)) (fun t s => s.event t 30)

/-- TETHER_DOWN (R32): the third heartbeat in a row is missing. The traffic of the tether in use moves to the other one
where that is UP; when no tether is UP the package enters DEGRADED with REASON TETHER_DOWN. -/
def tetherDown (tether at_ : Nat) (s : Pkg) : Pkg :=
  (s.reach at_).when
    (s.tetherThere tether && s.tetherUp tether && (3 ≤ (s.tetherSt tether).missTo || 3 ≤ (s.tetherSt tether).missFrom)) (fun s =>
    let s := s.setTetherSt tether { s.tetherSt tether with up := false, goodTo := 0, goodFrom := 0, mark := s.now }
    let other := 1 - tether
    if other < tetherCount s.variant && s.tetherUp other then
      (if s.tether = tether then { s with tether := other } else s)
    else s.degradeAlone 21)

/-- TETHER_RETRAIN (R32): a DOWN tether retrains every 1 ms. -/
def tetherRetrain (tether : Nat) (s : Pkg) : Pkg :=
  s.when (s.tetherThere tether && !s.tetherUp tether) (fun s =>
    let s := s.reachFrac ((s.tetherSt tether).mark + ns (ms 1))
    s.setTetherSt tether { s.tetherSt tether with mark := s.now })

/-- TETHER_UP (R32): three heartbeats in a row have arrived in each direction. Where no other tether is UP it carries the
traffic from now on; otherwise traffic moves back to the steward's tether at the first keystone commit. -/
def tetherUp (tether at_ : Nat) (s : Pkg) : Pkg :=
  (s.reach at_).when
    (s.tetherThere tether && !s.tetherUp tether && 3 ≤ (s.tetherSt tether).goodTo && 3 ≤ (s.tetherSt tether).goodFrom) (fun s =>
    let s := s.setTetherSt tether { s.tetherSt tether with up := true }
    if s.tetherUp (1 - tether) && 1 - tether < tetherCount s.variant then s else { s with tether := tether })

/-! ### Package time (R44–R48) -/

/-- The coordinator holds NOT_READY from a tile whose lock falls between PREPARE and T_c − 250 ns (R61, R67). -/
def Pkg.lockFell (s : Pkg) (t : Nat) : Pkg :=
  if s.ks.active ∧ s.ks.dec = none ∧ s.ks.answered.contains t ∧ s.countNs t + 250 ≤ s.ks.tc ∧ !s.ks.notReady.contains t then
    { s with ks := { s.ks with notReady := t :: s.ks.notReady } }
  else s

/-- Correct a die's count (R46), measured to stand at `seen` where it should stand at `target`: a die that is behind is stepped forward; one that is
ahead absorbs the difference at half its increment. The count never runs backwards. -/
def Pkg.correct (s : Pkg) (die : Nat) (seen target : Int) : Pkg :=
  let c := s.clockSt die
  let stands : Int := max (s.count die : Int) (max seen target)
  s.setClockSt die { c with off := stands - s.now, slow := (stands - target).toNat, since := s.now }

/-- TIME_BEAT (R44, R45): the tile measures its offset from the reference, reports it, corrects its count, and sets or
clears LOCKED; two beats in a row above 2 ns are a skew fault, on which it goes on counting on its own increment. DEDUCED: every later beat of the
same excursion is again one of two in a row, so it is another detection (R45; see the log). -/
def timeBeat (tile : Nat) (offset : Int) (at_ : Nat) (s : Pkg) : Pkg :=
  (s.reach at_).when (s.inService tile && tile != s.ref && s.pairUp tile s.ref) (fun s =>
    let big : Bool := decide (131072 < offset.natAbs)
    let overs := if big then (s.clockSt tile).overs + 1 else 0
    let s := s.setClockSt tile { s.clockSt tile with overs := overs }
    let s := (s.put tile fTmOffset (toWord offset).toNat).put tile fTimePath (s.beatPort tile)
    let here : Int := s.count s.ref
    let s := if 2 ≤ overs then s else s.correct tile (here + offset) here
    if 2 ≤ overs then
      (((s.raise tile fSkewFault).put tile fLocked 0).bump tile oSkewFaults).lockFell tile
    else s.putIf (!big) tile fLocked 1)

/-- TETHER_TIME_ALIGN (R48): in RUN the sentinel aligns its count to the reference, to within ±20 ns; `err` is the error it
is left with, and an error outside the bound is not one the alignment leaves. -/
def tetherTimeAlign (err : Int) (at_ : Nat) (s : Pkg) : Pkg :=
  (s.reach at_).when (s.tetherTile.isSome && (s.modeNow == mRun) && err.natAbs ≤ 20) (fun s =>
    s.correct 15 0 ((s.count s.ref : Int) + err * 65536))

end Sys2Proof.Machine
end

