-- ==== Sys2Proof/Machine/Lost.lean ====
section
/-! DEFINITION. What follows when the active trestle moves from tile 0 to tile 1 (R180, R204), and a tile that is lost (R68, R297). -/
namespace Sys2Proof.Machine

/-- The active trestle has moved to tile 1: T1S ports lose their link, with the frames queued for them (R180, R135), and the standby adds TR_FV_SKIP to
every generate counter before its first use (R204). -/
def Pkg.trestleMoves (s : Pkg) : Pkg :=
  let s := [24, 25, 26, 27].foldl (fun s p => (List.range 8).foldl (fun s q => (s.flushQueue 0 p q 18).emptyCredit 0 p q) (s.cutOff 0 p)) s
  s.skipCounters 1

/-- A tile is lost, with what its loss moves to tile 1. -/
def Pkg.loseTile (s : Pkg) (t : Nat) : Pkg :=
  let p := s.declareLost t
  if p.steward = s.steward then p else p.trestleMoves

end Sys2Proof.Machine
end

