-- ==== Sys2Proof/Machine/Keystone.lean ====
section
/-! DEFINITION. Chapter 2: keystone commits. The coordinator's sequencer and each tile's part in it (R58–R70). -/
namespace Sys2Proof.Machine

/-- SI registers (Table 2-2). -/
def fKsLead : Fld := ⟨0x20002C, 7, 0⟩
def fKsDrain : Fld := ⟨0x20002C, 10, 8⟩
def oKsAt : Nat := 0x200024
def fBankSync : Fld := ⟨0x200030, 2, 2⟩
def fKsDone : Fld := ⟨0x200030, 4, 4⟩
def fKsAborted : Fld := ⟨0x200030, 5, 5⟩
def fKsAdjusted : Fld := ⟨0x200030, 6, 6⟩
def fKsReason : Fld := ⟨0x200030, 11, 8⟩
def fEpoch16 : Fld := ⟨0x200030, 31, 16⟩
def oLastTc : Nat := 0x200040
def fDrainMax : Fld := ⟨0x200048, 15, 0⟩
def oKsCommits : Nat := 0x200050
def oKsAborts : Nat := 0x200058
def oKsLate : Nat := 0x200060

/-- Update of the coordinator's sequencer. -/
def Pkg.onKs (s : Pkg) (f : KsCoord → KsCoord) : Pkg := { s with ks := f s.ks }

/-! ### Shadows (R58, R64) -/

/-- The bits of a word that are keystone fields (Table 0-4). -/
def keystoneMask (die off : Nat) : Word := maskOf (fun f => decide (f.acc = .rk)) (wordFields die off)

/-- Make the shadow copies of a die the copies in effect (R58): in each written shadow word, its keystone bits. -/
def Pkg.takeShadows (s : Pkg) (die : Nat) : Pkg :=
  let mine := s.shadow.filter (fun e => addrDie e.1 == die)
  let s := mine.foldl (fun s (a, w) =>
    let m := keystoneMask die (addrOff a)
    s.wr die (addrOff a) ((s.rd die (addrOff a) &&& ~~~ m) ||| (w &&& m))) s
  { s with shadow := s.shadow.filter (fun e => addrDie e.1 != die) }

/-- Write a keystone write into the shadow (R64, R14: RK writes the shadow copy). -/
def Pkg.toShadow (s : Pkg) (w : Staged) : Pkg :=
  let d := addrDie w.addr
  let o := addrOff w.addr
  let m := keystoneMask d o
  let old := s.rdShadow d o
  s.wrShadow d o ((old &&& ~~~ m) ||| (byteMerge w.be old w.value &&& m))

/-- Keystone writes are staged on this tile (R64). -/
def Pkg.staging (s : Pkg) (t : Nat) : Bool := s.ksState t != 0 || s.on t fBankSync

/-- The staged writes go into the shadow, in arrival order, once STATE is IDLE and BANK_SYNC is 0 (R64). -/
def Pkg.applyStaged (s : Pkg) (t : Nat) : Pkg :=
  if s.staging t then s
  else
    let s' := (s.ksT t).staged.foldl (fun s w => s.toShadow w) s
    s'.setKsT t { s'.ksT t with staged := [] }

/-- SI_KS_STAGED (Table 2-2). -/
def Pkg.stagedCount (s : Pkg) (t : Nat) : Nat := (s.ksT t).staged.length

/-! ### The request and PREPARE (R60, R61) -/

/-- PREPARE on a tile: PENDING, with T_c and the epoch it carries; an unlocked tile answers NOT_READY. -/
def Pkg.takePrepare (s : Pkg) (t : Nat) : Pkg :=
  let s := (s.put t fKsState 1).setKsT t { s.ksT t with tc := s.ks.tc, epoch := s.ks.epoch, dec := none, held := none, drained := false }
  let s := s.onKs (fun k => { k with answered := t :: k.answered })
  if s.on t fLocked then s else s.onKs (fun k => { k with notReady := t :: k.notReady })

/-- A write of SI_KS_REQUEST (R60). -/
def ksRequestEff (r : Req) (tile : Nat) (value : Word) (s : Pkg) : Pkg :=
  if value.getLsbD 0 = false then s
  else if tile ≠ s.steward then s.cfgErr r tile cNotCoordinator (pkgAddr tile 0x200020)
  else if s.ksState tile ≠ 0 then s.cfgErr r tile cKsBusy (pkgAddr tile 0x200020)
  else
    let least := s.countNs tile + us (s.get tile fKsLead)
    let asked := if value.getLsbD 1 then s.rd64 tile oKsAt else 0
    let s := s.raiseIf (value.getLsbD 1 && decide (asked < least)) tile fKsAdjusted
    let s := s.onKs (fun _ =>
      { active := true, tile := tile, tc := max asked least, epoch := ((s.rd tile 0x200010).toNat + 1) % 2 ^ 32, tiles := s.serving })
    s.takePrepare tile

/-- PREPARE (R61): it reaches a tile of the commit that has not answered yet. -/
def prepare (tile at_ : Nat) (s : Pkg) : Pkg :=
  (s.reach at_).when
    (s.ks.active && s.ks.tiles.contains tile && !s.ks.answered.contains tile && s.inService tile && s.pairUp s.ks.tile tile)
    (fun s => s.takePrepare tile)

/-- DRAIN_START (R61): at T_c − D the tile stops admission to its parser. -/
def drainStart (tile : Nat) (s : Pkg) : Pkg :=
  s.when (s.inService tile && s.ksState tile == 1) (fun s =>
    let s := s.reachCount tile ((s.ksT tile).tc - us (s.get s.ks.tile fKsDrain))
    (s.put tile fKsState 2).setKsT tile { s.ksT tile with drainAt := s.now })

/-- Nothing that the drain must empty is left on this tile (R62): no frame between its passes, no message of a split ACF frame in the trestle's input
stage. -/
def Pkg.drainEmpty (s : Pkg) (t : Nat) : Bool := !(s.sw.recirc.any (fun r => r.tile == t)) && (SMap.get {} s.trestles t).acf.isEmpty

/-- DRAIN_COMPLETE (R61, R62): pipeline and trestle input stage are empty; the tile sends DRAINED and keeps its longest drain. -/
def drainComplete (tile at_ : Nat) (s : Pkg) : Pkg :=
  (s.reach at_).when (s.inService tile && s.ksState tile == 2 && s.drainEmpty tile && !(s.ksT tile).drained) (fun s =>
    let d := (s.now - (s.ksT tile).drainAt) / 65536
    (s.put tile fDrainMax (max (s.get tile fDrainMax) (min d 65535))).setKsT tile { s.ksT tile with drained := true })

/-! ### The decision (R61, R67, R69) -/

/-- The coordinator decides: the standby is told first; with no standby in the commit the decision stands at once. -/
def Pkg.ksDecide (s : Pkg) (d : Decision) : Pkg :=
  let alone : Bool := match s.standby with | some b => !s.ks.tiles.contains b || b == s.ks.tile | none => true
  let s := s.onKs (fun k => { k with dec := some d, lastSent := s.now, decAt := s.now, stdbyAck := alone })
  if alone then (s.setKsT s.ks.tile { s.ksT s.ks.tile with dec := some d }).onKs (fun k => { k with acked := [k.tile] }) else s

/-- Every tile of the commit has drained and none is not ready. -/
def KsCoord.allDrained (k : KsCoord) : Bool := k.tiles.all (fun t => k.drained.contains t) && k.notReady.isEmpty

/-- DRAINED (R61, R67): it reaches the coordinator in time, before T_c − 250 ns; the coordinator confirms once every tile has drained and none is not
ready. -/
def drained (tile at_ : Nat) (s : Pkg) : Pkg :=
  (s.reach at_).when
    (s.ks.active && s.ks.tiles.contains tile && s.ks.dec.isNone && (s.ksT tile).drained && !s.ks.drained.contains tile &&
      s.pairUp s.ks.tile tile && decide ((s.reach at_).countNs s.ks.tile + 250 ≤ s.ks.tc))
    (fun s =>
      let s := s.onKs (fun k => { k with drained := tile :: k.drained })
      if s.ks.allDrained then s.ksDecide .confirm else s)

/-- The reason an abort is recorded with, by the precedence of R67. -/
def KsCoord.reason (k : KsCoord) : Nat :=
  if k.tiles.any (fun t => !k.answered.contains t) then 3 else if !k.notReady.isEmpty then 2 else 1

/-- KS_DEADLINE (R67): at T_c − 250 ns the coordinator lacks DRAINED or holds NOT_READY, and decides to abort. -/
def ksDeadline (s : Pkg) : Pkg :=
  s.when (s.ks.active && s.ks.dec.isNone) (fun s =>
    let s := s.reachCount s.ks.tile (s.ks.tc - 250)
    s.ksDecide (.abort s.ks.reason))

/-- DECISION_REPEAT (R61): every 1 µs to each tile that has not acknowledged the decision. -/
def decisionRepeat (s : Pkg) : Pkg :=
  s.when (s.ks.active && s.ks.dec.isSome && s.ks.tiles.any (fun t => !s.ks.acked.contains t)) (fun s =>
    let s := s.reachFrac (s.ks.lastSent + ns (us 1))
    s.onKs (fun k => { k with lastSent := s.now }))

/-! ### T_c on a tile (R58, R67, R68) -/

/-- Every tile has acknowledged the commit: DONE on the coordinator (R70). -/
def Pkg.checkDone (s : Pkg) : Pkg :=
  if s.ks.active ∧ s.ks.dec = some .confirm ∧ s.ks.tiles.all (fun t => s.ks.done.contains t) then
    (s.raise s.ks.tile fKsDone).onKs (fun k => { k with active := false })
  else s

/-- Every tile has acknowledged an abort: the sequence is over. -/
def Pkg.checkAborted (s : Pkg) : Pkg :=
  match s.ks.dec with
  | some (.abort _) => if s.ks.tiles.all (fun t => s.ks.acked.contains t) then s.onKs (fun k => { k with active := false }) else s
  | _ => s

/-- A keystone commit on one tile (R58): shadows and banks take effect, SI_EPOCH is the epoch that PREPARE carried, routes
and control spans are recomputed, the background bank copy starts. On the coordinator the mode changes that wait for
the commit take effect and traffic moves back to the steward's tether (R32). -/
def Pkg.doCommit (s : Pkg) (t : Nat) : Pkg :=
  let k := s.ksT t
  let b := s.beforeCommit t
  let s := (b.1.takeShadows t).afterCommit t b.2
  let s := ((s.put t fEpoch k.epoch).put t fEpoch16 (k.epoch % 65536)).put t fKsState 0
  let s := ((s.put t fBankSync 1).setCnt t oLastTc (BitVec.ofNat 64 k.tc)).bump t oKsCommits
  let s := s.setKsT t { s.ksT t with dec := none }
  let s := ((s.recomputeRoutes t).showPaths).readmit t
  if t = s.ks.tile then
    let s := if s.tetherUp s.steward && s.steward < tetherCount s.variant then { s with tether := s.steward } else s
    ((s.onKs (fun k => { k with done := t :: k.done })).modeAtCommit).checkDone
  else s.raise t fKsDone

/-- An abort on one tile (R67): admission resumes in the old epoch, shadows are kept, staged writes go into the shadow. -/
def Pkg.doAbort (s : Pkg) (t reason : Nat) : Pkg :=
  let k := s.ksT t
  let s := ((s.put t fKsState 0).raise t fKsAborted).put t fKsReason reason
  let s := (s.setCnt t oLastTc (BitVec.ofNat 64 k.tc)).bump t oKsAborts
  ((s.setKsT t { s.ksT t with dec := none }).applyStaged t).readmit t

/-- Act on a decision at T_c or after HELD. -/
def Pkg.actOn (s : Pkg) (t : Nat) (d : Decision) : Pkg :=
  match d with
  | .confirm => s.doCommit t
  | .abort r => s.doAbort t r

/-- A decision reaches a tile: a HELD tile acts on it at once and counts SI_KS_LATE (R68); another keeps it for T_c. The standby keeps it for as long as
tiles may lack it (R69). -/
def Pkg.takeDecision (s : Pkg) (t : Nat) (d : Decision) : Pkg :=
  let s := if s.standby = some t then s.setKsT t { s.ksT t with held := some d } else s
  if s.ksState t = 3 then (s.actOn t d).bump t oKsLate
  else if s.ksState t = 0 then s
  else s.setKsT t { s.ksT t with dec := some d }

/-- The coordinator may send its decision to this tile now: to the standby first, to the others after its acknowledgement. -/
def Pkg.mayReceive (s : Pkg) (t : Nat) : Bool :=
  s.ks.active && s.ks.tiles.contains t && !s.ks.acked.contains t && s.pairUp s.ks.tile t &&
  (s.ks.stdbyAck || s.standby == some t) && t != s.ks.tile

/-- CONFIRM (R61): the CONFIRM decision reaches this tile. -/
def confirm (tile at_ : Nat) (s : Pkg) : Pkg :=
  (s.reach at_).when (s.mayReceive tile && decide (s.ks.dec = some .confirm)) (fun s => s.takeDecision tile .confirm)

/-- ABORT (R67): the abort decision reaches this tile. -/
def abort (tile at_ : Nat) (s : Pkg) : Pkg :=
  (s.reach at_).when (s.mayReceive tile) (fun s =>
    match s.ks.dec with
    | some (.abort r) => s.takeDecision tile (.abort r)
    | _ => s)

/-- DECISION_ACK (R61, R69): a tile's acknowledgement reaches the coordinator; the standby's lets the coordinator act on
the decision itself and send it to every other tile. -/
def decisionAck (tile at_ : Nat) (s : Pkg) : Pkg :=
  (s.reach at_).when (s.mayReceive tile && s.ks.dec.isSome && (decide ((s.ksT tile).dec = s.ks.dec) || s.ksState tile == 0)) (fun s =>
    let s := s.onKs (fun k => { k with acked := tile :: k.acked })
    let s := if s.standby = some tile ∧ !s.ks.stdbyAck then
        let s := s.onKs (fun k => { k with stdbyAck := true, acked := k.tile :: k.acked, lastSent := s.now })
        match s.ks.dec with
        | some d => s.takeDecision s.ks.tile d
        | none => s
      else s
    s.checkAborted)

/-- KS_COMMIT (R58, R61, R67, R68): T_c on this tile. With CONFIRM it commits, with an abort it resumes in the old epoch,
with no decision it enters HELD. -/
def ksCommit (tile : Nat) (s : Pkg) : Pkg :=
  s.when (s.inService tile && (s.ksState tile == 2 || s.ksState tile == 1)) (fun s =>
    let s := s.reachCount tile (s.ksT tile).tc
    match (s.ksT tile).dec with
    | some d => s.actOn tile d
    | none => s.put tile fKsState 3)

/-- COMMIT_ACK (R70): a tile's acknowledgement of its commit reaches the coordinator. -/
def commitAck (tile at_ : Nat) (s : Pkg) : Pkg :=
  (s.reach at_).when
    (s.ks.active && s.ks.tiles.contains tile && (s.ksState tile == 0) && decide (s.ks.dec = some .confirm) &&
      s.get tile fEpoch == s.ks.epoch && s.pairUp s.ks.tile tile)
    (fun s => (s.onKs (fun k => { k with done := tile :: k.done })).checkDone)

/-- BANK_COPY_DONE (R58, R64): the background bank copy ends, BANK_SYNC clears, the staged writes go into the shadow. -/
def bankCopyDone (tile at_ : Nat) (s : Pkg) : Pkg :=
  (s.reach at_).when (s.tileOn tile && s.on tile fBankSync) (fun s => (s.put tile fBankSync 0).applyStaged tile)

/-- A lost tile drops out of the commit in progress. When it was the coordinator's, the standby repeats the decision it
holds, or aborts with TILE_LOST (R69). -/
def Pkg.ksDropTile (s : Pkg) (t : Nat) : Pkg :=
  if !s.ks.active then s
  else
    let coordLost := t = s.ks.tile
    let s := s.onKs (fun k => { k with tiles := k.tiles.filter (· != t) })
    if coordLost then
      if s.inService 1 then
        let d : Decision := ((s.ksT 1).held).getD (.abort 3)
        let s := s.onKs (fun k => { k with tile := 1, dec := some d, stdbyAck := true, acked := [1], lastSent := s.now })
        (s.takeDecision 1 d).checkAborted
      else s.onKs (fun k => { k with active := false })
    else
      let s := if s.ks.dec.isSome ∧ !s.ks.stdbyAck ∧ t = 1 then
          let s := s.onKs (fun k => { k with stdbyAck := true, acked := k.tile :: k.acked })
          match s.ks.dec with | some d => s.takeDecision s.ks.tile d | none => s
        else s
      let s := if s.ks.dec.isNone ∧ s.ks.allDrained then s.ksDecide .confirm else s
      s.checkDone.checkAborted

/-- A tile of the commit in progress has acknowledged no decision 1 ms after it was made (R68). DEDUCED: for the coordinator's own tile, T_c is 1 ms past
and a tile still lacks the decision (R69; see the log). -/
def Pkg.unanswering (s : Pkg) (t : Nat) : Bool :=
  s.ks.active && s.ks.tiles.contains t &&
  (if t = s.ks.tile then s.ks.tiles.any (fun u => !s.ks.acked.contains u) && decide (ns (s.ks.tc + ms 1) ≤ s.count t)
   else s.ks.dec.isSome && !s.ks.acked.contains t && decide (s.ks.decAt + ns (ms 1) ≤ s.now))

/-- TILE_LOST (R68, R69): a tile that has acknowledged no decision after 1 ms is declared lost, and the package enters DEGRADED. -/
def tileLost (tile at_ : Nat) (s : Pkg) : Pkg :=
  (s.reach at_).when (s.inService tile && (s.reach at_).unanswering tile) (fun s => (s.loseTile tile).ksDropTile tile)

end Sys2Proof.Machine
end

