-- ==== Sys2Proof/Machine/Rounds.lean ====
section
/-! DEFINITION. Chapter 12: the accesses of a round, the agreement unit's log, delivery points (R336–R340). -/
namespace Sys2Proof.Machine

def Pkg.cluster (s : Pkg) (t : Nat) : ClusterSt := SMap.get {} s.clusters t
def Pkg.setCluster (s : Pkg) (t : Nat) (x : ClusterSt) : Pkg := { s with clusters := SMap.set {} s.clusters t x }

/-! ### Kinds of access (R336, R337) -/

/-- What a core address leads to: replica memory, the management space (at an address of it) and its once-only alias, data of work memory, LPDDR5X
or an outbound window, nothing. -/
inductive CoreKind where
  | replica
  | mgmt (addr : Nat)
  | once (addr : Nat)
  | data
  | nowhere
deriving DecidableEq, Repr

/-- The core address space (R336, Table 8-1). -/
def Pkg.coreKind (s : Pkg) (tile a : Nat) : CoreKind :=
  if 0x300000000 ≤ a ∧ a < 0x300400000 then .replica
  else if 0x40000000 ≤ a ∧ a < 0x80000000 then .once (a - 0x40000000)
  else match s.local tile a with
    | .mgmt => .mgmt a
    | .nowhere => .nowhere
    | _ => .data

/-- A store makes one entry: all its bytes lie in one register, or in one 64-byte line (R337). -/
def oneEntry (mgmt : Bool) (a n : Nat) : Bool := decide (0 < n) && decide (a % (if mgmt then 4 else 64) + n ≤ (if mgmt then 4 else 64))

/-- The byte that the newest held output gives an address. -/
def heldByte (l : List OutEntry) (a : Nat) : Option Byte :=
  l.foldl (fun r e => if e.addr ≤ a ∧ a < e.addr + e.data.length ∧ e.be.getD (a - e.addr) false then some (e.data.getD (a - e.addr) 0) else r) none

/-- A round as its accesses are taken: outputs, log, the lines of replica memory it has changed. -/
structure RoundSt where
  held : List OutEntry := []
  log  : List RoundItem := []
  undo : List Nat := []

/-- One access of a round (R336, R337, R339): a private one changes replica memory alone; a store is held; a load is served from what its core holds, and
is an input where it also needs bytes that are not held; a store through the once-only alias that is no aligned 32-bit store, or an
access to nothing, is an access fault. -/
def Pkg.coreAccess (s : Pkg) (tile : Nat) (x : RoundSt) : CoreAcc → RoundSt
  | .store a d be =>
    match s.coreKind tile a with
    | .replica => { x with undo := ((List.range d.length).map (fun i => (a + i) / 64)).foldl (fun u l => if u.contains l then u else l :: u) x.undo }
    | .nowhere => { x with log := x.log ++ [.fault] }
    | .once _ =>
      if d.length = 4 ∧ a % 4 = 0 ∧ be = [true, true, true, true] then { x with held := x.held ++ [{ addr := a, data := d, be := be }] }
      else { x with log := x.log ++ [.fault] }
    | k => if oneEntry (k != .data) a d.length then { x with held := x.held ++ [{ addr := a, data := d, be := be }] } else x
  | .load a v =>
    match s.coreKind tile a with
    | .replica => x
    | .nowhere => { x with log := x.log ++ [.fault] }
    | _ =>
      let l := (List.range v.length).map (fun i => heldByte x.held (a + i))
      if l.all Option.isSome then x
      else { x with log := x.log ++ [.input a ((l.zip v).map (fun e => e.1.getD e.2))] }

/-! ### What closes a round early (Table 12-1) -/

/-- The management address of an entry, if it goes to the management space. -/
def Pkg.entryMgmt (s : Pkg) (tile : Nat) (e : OutEntry) : Option Nat :=
  match s.coreKind tile e.addr with | .mgmt a => some a | .once a => some a | _ => none

/-- READ_AFTER_WRITE: an uncached load of a die to which the round holds an output (R338). -/
def Pkg.readsBehind (s : Pkg) (tile : Nat) (held : List OutEntry) (a : Nat) : Bool :=
  match s.coreKind tile a with
  | .mgmt b | .once b => held.any (fun e => match s.entryMgmt tile e with | some c => addrDie c == addrDie b | none => false)
  | _ => false

/-- The condition of a code of Table 12-1. BUSY is what the cores report; TAKEOVER closes no round here (R352). -/
def Pkg.closes (s : Pkg) (tile : Nat) (x : RoundSt) (run : RoundRun) : Nat → Bool
  | 1 => x.held.length == 512
  | 2 => x.log.length == 4096
  | 3 => decide (4096 ≤ x.undo.length)
  | 4 => match run.blocked with | some a => s.readsBehind tile x.held a | none => false
  | 5 => true
  | _ => false

/-- The lowest code whose condition holds, BUSY if none does. -/
def Pkg.closeCode (s : Pkg) (tile : Nat) (x : RoundSt) (run : RoundRun) : Nat := ([1, 2, 3, 4].find? (s.closes tile x run)).getD 5

/-! ### Delivery points (R340) -/

/-- The retired counts of the cores in service. -/
def countsOf (cores : List Nat) (run : RoundRun) : List Nat := cores.map (fun k => run.counts.getD k 0)
def leadCount (l : List Nat) : Nat := l.foldl max 0

/-- No core is more than 1,024 retired instructions ahead of the slowest: it stalls before. -/
def closeTogether (l : List Nat) : Bool := l.all (fun n => decide (leadCount l ≤ n + 1024))

/-- The round's accesses, on what is delivered at its first points: the interrupts and faults that came for it. -/
def Pkg.runRound (s : Pkg) (tile : Nat) (run : RoundRun) (lead : Nat) : RoundSt :=
  let c := s.cluster tile
  let early : List RoundItem := List.replicate c.due .fault ++ List.replicate c.irqs (.irq (c.point + 256))
  let late : List RoundItem := (run.irqs.filter (fun n => decide (n < lead))).map (fun n => .irq (n + 256))
  let x := run.accs.foldl (s.coreAccess tile) { log := early }
  { x with log := x.log ++ late }

/-- A round that closes (R337–R340): its outputs are held for the vote, an interrupt of the clock in which the boundary point is chosen is delivered in
the next round, and so is the access fault of an output that failed after its release. -/
def ClusterSt.close (c : ClusterSt) (x : RoundSt) (run : RoundRun) (lead : Nat) : ClusterSt :=
  { c with closed := true, held := x.held, log := x.log, point := lead + 256, irqs := (run.irqs.filter (fun n => decide (lead ≤ n))).length,
           due := c.faults, faults := 0, badInput := run.early == some 0 }

end Sys2Proof.Machine
end

