-- ==== Sys2Proof/Machine/Buses.lean ====
section
/-! DEFINITION. Chapter 6: the sentinel's CAN, LIN and FlexRay controllers (R181–R184, R209, R210, R215–R217). -/
namespace Sys2Proof.Machine

/-! ### Messages between controllers and trestle -/

/-- What a bus message carries beside its payload, as `aux` spells it. -/
def toMsg (m : BusMsg) (stamp : Nat) : Msg :=
  { src := m.bus, fmt := m.fmt, id := m.id, payload := m.payload, rtr := m.aux.testBit 0, fd := m.aux.testBit 1
    sdt := m.aux / 8 % 256, af := m.aux / 2048 % 2 ^ 32, stamp := stamp }
def Msg.toBus (m : Msg) (bus : Nat) : BusMsg :=
  { bus := bus, id := m.id, fmt := m.fmt, payload := m.payload, aux := bit m.rtr + 2 * bit m.fd + 8 * m.sdt + 2048 * m.af }

/-- The sentinel's stamp (R48, R183): its count at an instant, in steps of 5 ns. -/
def Pkg.busStamp (s : Pkg) (at_ : Nat) : Nat := (((ns at_ : Int) + (s.clockSt 15).off).toNat / 65536) / 5 * 5

/-- A good message goes to the active trestle over the tether in use and, where that ends at another tile, on over the spans (R31, R32, R178); with no
such path, or no trestle in service, it is lost. From the
flush of a structure activation the sentinel holds up to 1,024 messages (R395). -/
def Pkg.toTrestle (s : Pkg) (m : Msg) : Pkg :=
  if s.pausing ∧ s.boot.actFlushed then
    if s.bus.held.length < 1024 then s.onBus (fun b => { b with held := b.held ++ [m] }) else s.bump 0 0x2100060
  else if !s.pathUp 15 s.steward ∨ !s.inService s.steward then s
  else
    let x := s.trestle s.steward
    s.setTrestle s.steward { x with inq := SMap.set [] x.inq m.src (SMap.get [] x.inq m.src ++ [m]) }

/-! ### CAN (R184, R215) -/

/-- ERROR_ACTIVE or ERROR_PASSIVE by the error counters (ISO 11898-1). -/
def Pkg.canGrade (s : Pkg) (c : Nat) : Pkg :=
  if s.get 15 (fCanState c) < 2 then s.put 15 (fCanState c) (bit (128 ≤ s.get 15 (fCanTec c) || 128 ≤ s.get 15 (fCanRec c))) else s

/-- A channel takes part in its bus (R182, R323). -/
def Pkg.canListens (s : Pkg) (c : Nat) : Bool :=
  s.get 15 (fCanMode c) != 0 && s.get 15 (fCanState c) < 2 && (s.get 15 (fTrx c) == 1 || s.get 15 (fTrx c) == 2)

/-- A frame on a CAN channel from another node. A message of this node that was in transmission has lost arbitration (R184). -/
def Pkg.canReceive (s : Pkg) (c : Nat) (m : BusMsg) (start : Nat) : Pkg :=
  let s := s.bump 15 (oCanRx c)
  let s := (s.put 15 (fCanRec c) (if 127 < s.get 15 (fCanRec c) then 127 else s.get 15 (fCanRec c) - 1)).canGrade c
  let s := if s.get 15 (fRing c) = rPrepare ∧ s.on 15 (fRxAborts c) then s.abortSleep c else s
  ((s.canBack c).toTrestle (toMsg m (s.busStamp start))).canKick c

/-- CAN_TX_DONE (R184): the frame in transmission completes. With none of the buffer in transmission it is an NM message that has been
acknowledged (R318). -/
def canTxDone (ch at_ : Nat) (s : Pkg) : Pkg :=
  (s.reach at_).when (ch < 12 && s.canSends ch) (fun s =>
    let s := (s.put 15 (fCanTec ch) (s.get 15 (fCanTec ch) - 1)).canGrade ch
    match (s.busQueue ch).find? (·.started) with
    | some e =>
      let s := s.setBusQueue ch ((s.busQueue ch).filter (fun x => x.id != e.id))
      let s := (s.setCreditsOwed ch (s.creditsOwed ch + 1)).bump 15 (oCanTx ch)
      (s.emit (.bus (e.msg.toBus ch))).canKick ch
    | none => s.setNmCh ch { s.nmCh ch with unacked := 0, txOk := true })

/-- CAN_BUS_OFF (R184): the buffer keeps its messages. -/
def canBusOff (ch at_ : Nat) (s : Pkg) : Pkg :=
  (s.reach at_).when (ch < 12 && s.canListens ch) (fun s =>
    (((s.canBack ch).put 15 (fCanState ch) 2).bump 15 (oCanBusoff ch)))

/-- A controller rejoins the bus after bus-off. -/
def Pkg.canRejoin (s : Pkg) (c : Nat) : Pkg :=
  if s.get 15 (fCanState c) = 2 then (((s.put 15 (fCanState c) 0).put 15 (fCanTec c) 0).put 15 (fCanRec c) 0).canKick c else s

/-- CAN_AUTO_RECOVER (R184): 128 runs of 11 recessive bits. -/
def canAutoRecover (ch at_ : Nat) (s : Pkg) : Pkg :=
  (s.reach at_).when (ch < 12 && s.on 15 (fCanAuto ch)) (fun s => s.canRejoin ch)

/-- RECOVER (R184): a write of BUS_CAN_CMD. -/
def recoverEff (ch : Nat) (value : Word) (s : Pkg) : Pkg := if value.getLsbD 0 then s.canRejoin ch else s

/-- A CAN channel is put to sleep (R210, R323): its queued messages are discarded, its error counters frozen. -/
def Pkg.canSleep (s : Pkg) (c : Nat) : Pkg :=
  let l := s.busQueue c
  let s := l.foldl (fun s _ => s.trDisc s.steward tChannelDown) s
  let s := (s.setBusQueue c []).setCreditsOwed c (s.creditsOwed c + l.length)
  (s.put 15 (fCanState c) 3).put 15 (fCanFrozen c) 1

/-- Latest-value buffers of a channel are emptied (R210): a value not yet sent is discarded as CHANNEL_DOWN. -/
def Pkg.dropLatest (s : Pkg) (bus : Nat) : Pkg :=
  (s.bus.latest.filter (fun e => e.1 / 4096 == bus)).foldl (fun s e =>
    let s := s.setLatest bus (e.1 % 4096) none
    match e.2 with
    | some p => if p.started then s else s.trDisc s.steward tChannelDown
    | none => s) s

/-- A LIN channel is put to sleep (R210). -/
def Pkg.linSleep (s : Pkg) (l : Nat) : Pkg := (s.put 15 (fLinState l) 2).dropLatest (16 + l)

/-- FlexRay is put to sleep (R210): its queue and its latest values go. -/
def Pkg.frSleep (s : Pkg) : Pkg :=
  let l := s.busQueue 24
  let s := l.foldl (fun s _ => s.trDisc s.steward tChannelDown) s
  let s := (s.setBusQueue 24 []).setCreditsOwed 24 (s.creditsOwed 24 + l.length)
  ((s.put 15 fFrPoc 5).dropLatest 24).dropLatest 25

/-- It returns to NORMAL or LISTEN (R323). -/
def Pkg.canWake (s : Pkg) (c : Nat) : Pkg :=
  if s.get 15 (fCanState c) = 3 then (((s.put 15 (fCanState c) 0).put 15 (fCanFrozen c) 0).canGrade c).canKick c else s

/-! ### LIN (R216) -/

/-- The Ikider sends the response of a published frame ID: the latest value (R209). -/
def Pkg.linRespond (s : Pkg) (l id : Nat) : Pkg :=
  match (if s.bus.linOff.contains l then none else s.latest (16 + l) (id % 64)) with
  | some e => ((s.setLatest (16 + l) (id % 64) (some { e with started := true })).bump 15 (oLinTx l)).emit (.bus (e.msg.toBus (16 + l)))
  | none => s

/-- A header of this frame ID is on the bus. -/
def Pkg.linHeader (s : Pkg) (l id : Nat) : Pkg :=
  let w := s.linFrame l id
  let s := s.put 15 (fLinLastId l) (id % 64)
  if fieldGet w 31 31 = 1 ∧ fieldGet w 5 5 = 1 then s.linRespond l id else s

/-- LIN_SCHEDULE_SLOT (R216): the next schedule entry of a commander; an entry not VALID sends nothing. -/
def linScheduleSlot (ch at_ : Nat) (s : Pkg) : Pkg :=
  (s.reach at_).when (ch < 6 && s.linUp ch && s.on 15 (fLinCommander ch)) (fun s =>
    let p := SMap.get 0 s.bus.linPos ch
    let w := s.rd 15 (0x46000 + 0x100 * ch + 4 * p)
    let next := if fieldGet w 30 30 = 1 ∧ fieldGet w 31 31 = 1 then 0 else (p + 1) % 64
    let s := s.onBus (fun b => { b with linPos := SMap.set 0 b.linPos ch next })
    if fieldGet w 31 31 = 1 ∧ !s.bus.linOff.contains ch then s.linHeader ch (fieldGet w 5 0) else s)

/-! ### FlexRay (R181, R209, R210, R217) -/

/-- A message goes in a cycle: its own, or any (Table 6-3). -/
def inCycle (m : Msg) (cycle : Nat) : Bool := m.id / 2048 == 0x40 || m.id / 2048 == cycle % 64

/-- A static slot on one channel: the latest value is sent (R209). -/
def Pkg.frStatic (s : Pkg) (bus slot cycle : Nat) : Pkg :=
  match s.latest bus slot with
  | some e =>
    if inCycle e.msg cycle then
      ((s.setLatest bus slot (some { e with started := true })).bump 15 oFrTx).emit (.bus (e.msg.toBus bus))
    else s
  | none => s

/-- A dynamic slot: the oldest queued message of the slot that goes on these channels. -/
def Pkg.frDynamic (s : Pkg) (chA chB : Bool) (slot cycle : Nat) : Pkg :=
  let fits := fun (e : Posted) => e.msg.id % 2048 == slot && inCycle e.msg cycle &&
    ((e.msg.src == 24 && chA) || (e.msg.src == 25 && chB) || (e.msg.src == 26 && chA && chB))
  match (s.busQueue 24).find? fits with
  | some e =>
    let s := (s.setBusQueue 24 ((s.busQueue 24).filter (fun x => x.id != e.id))).setCreditsOwed 24 (s.creditsOwed 24 + 1)
    (s.bump 15 oFrTx).emitAll ((frBuses e.msg.src).map (fun b => .bus (e.msg.toBus b)))
  | none => s

/-- FLEXRAY_SLOT (R181): the controller reaches a slot of a cycle. -/
def flexraySlot (chA chB : Bool) (slot cycle : Nat) (dynamic : Bool) (at_ : Nat) (s : Pkg) : Pkg :=
  (s.reach at_).when (s.on 15 fFrEnable && s.get 15 fFrPoc == 3) (fun s =>
    let a : Bool := chA && s.on 15 fFrChA
    let b : Bool := chB && s.on 15 fFrChB
    let s := s.put 15 fFrCycle (cycle % 64)
    if dynamic then s.frDynamic a b slot cycle
    else
      let s := if a then s.frStatic 24 slot cycle else s
      if b then s.frStatic 25 slot cycle else s)

/-- FLEXRAY_POC_CHANGE (R210): outside NORMAL_ACTIVE no message is taken for the channel. -/
def flexrayPocChange (poc at_ : Nat) (s : Pkg) : Pkg := (s.reach at_).when (s.on 15 fFrEnable && poc ≤ 5) (fun s => s.put 15 fFrPoc poc)

/-! ### Reception, errors, credits, lifetimes -/

/-- BUS_FRAME_RX (R182, R183): a good frame. A frame the channel sends itself is not delivered; on LIN it is a header that asks for this node's
response. `start` is the frame's start, which its stamp names; `at_` its reception. -/
def busFrameRx (m : BusMsg) (own : Bool) (start at_ : Nat) (s : Pkg) : Pkg :=
  let s := s.reach at_
  if m.bus < 12 then s.when (!own && s.canListens m.bus) (fun s => s.canReceive m.bus m start)
  else if 16 ≤ m.bus ∧ m.bus < 22 then
    let l := m.bus - 16
    s.when (s.linUp l) (fun s =>
      if own then s.linHeader l m.id
      else
        let w := s.linFrame l m.id
        let s := s.put 15 (fLinLastId l) (m.id % 64)
        if fieldGet w 31 31 = 1 ∧ fieldGet w 6 6 = 1 then (s.bump 15 (oLinRx l)).toTrestle (toMsg m (s.busStamp start)) else s)
  else if m.bus = 24 ∨ m.bus = 25 then
    s.when (!own && s.on 15 fFrEnable && (s.get 15 fFrPoc == 3 || s.get 15 fFrPoc == 4)) (fun s =>
      (s.bump 15 oFrRx).toTrestle (toMsg m (s.busStamp start)))
  else s

/-- A CAN error (R182): 0 bit, 1 stuff, 2 form, 3 acknowledgement, 4 CRC. The error counters move by ISO 11898-1 (PRESUMED): 8 for a
transmitter, but not for a missing acknowledgement while error passive, 1 for a receiver. Either way the bus is arbitrated anew. -/
def Pkg.canError (s : Pkg) (c kind : Nat) (tx : Bool) : Pkg :=
  let s := s.bump 15 (oCanErr c)
  if tx then
    let passive : Bool := s.get 15 (fCanState c) == 1
    let s := if kind = 3 ∧ passive then s else s.put 15 (fCanTec c) (min 255 (s.get 15 (fCanTec c) + 8))
    let nm : Bool := kind == 3 && !(s.busQueue c).any (·.started) && s.get 15 (fRing c) == rRing
    let s := if nm then
        let n := (s.nmCh c).unacked + 1
        (s.setNmCh c { s.nmCh c with unacked := n, txOk := false }).putIf (decide (4 ≤ n)) 15 (fRing c) rLimp
      else s
    ((s.canGrade c).canBack c).canKick c
  else (((s.put 15 (fCanRec c) (min 255 (s.get 15 (fCanRec c) + 1))).canGrade c).canBack c).canKick c

/-- BUS_FRAME_ERROR (R182): a bad frame never reaches the trestle. On LIN kind 0 is a missing response and 1 a checksum error. -/
def busFrameError (e : BusErr) (at_ : Nat) (s : Pkg) : Pkg :=
  let s := s.reach at_
  if e.bus < 12 then s.when (s.canListens e.bus) (fun s => s.canError e.bus e.kind e.tx)
  else if 16 ≤ e.bus ∧ e.bus < 22 then
    s.when (s.linUp (e.bus - 16)) (fun s => s.bump 15 (if e.kind = 0 then oLinNoResponse (e.bus - 16) else oLinChecksum (e.bus - 16)))
  else if e.bus = 24 ∨ e.bus = 25 then s.when (s.on 15 fFrEnable) (fun s => s.bump 15 oFrSyntax)
  else s

/-- The queue a buffer's credits belong to. -/
def bufQueue (b : BusBuf) : Nat := if 24 ≤ b.bus then 24 else b.bus

/-- BUS_CREDIT_RETURN (R209): a credit freed by a buffer reaches the trestle over the tether. -/
def busCreditReturn (buf : BusBuf) (at_ : Nat) (s : Pkg) : Pkg :=
  (s.reach at_).when (s.pathUp 15 s.steward && s.creditsOwed (bufQueue buf) != 0) (fun s =>
    (s.setCreditsOwed (bufQueue buf) (s.creditsOwed (bufQueue buf) - 1)).setCreditsUsed (bufQueue buf) (s.creditsUsed (bufQueue buf) - 1))

/-- Count an expiry on the trestle and at the channel (R210, R212). -/
def Pkg.countExpired (s : Pkg) (bus : Nat) : Pkg :=
  let s := s.trDisc s.steward tTxExpired
  if bus < 12 then s.bump 15 (oCanExpired bus) else if 24 ≤ bus then s.bump 15 oFrExpired else s

/-- TX_EXPIRED (R210): TX_LIFE_MS since a message was posted, and it has not started. `busHeld`: another node's frame holds the CAN bus, so no message of
this node is in transmission. -/
def txExpired (buf : BusBuf) (idx : Nat) (busHeld : Bool) (s : Pkg) : Pkg :=
  let s := if busHeld && decide (buf.bus < 12) then s.canBack buf.bus else s
  match (s.busQueue (bufQueue buf)).find? (fun e => e.id == idx && !e.started) with
  | some { life := some l, .. } =>
    let s := s.reachFrac l
    let s := s.setBusQueue (bufQueue buf) ((s.busQueue (bufQueue buf)).filter (fun x => x.id != idx))
    (s.setCreditsOwed (bufQueue buf) (s.creditsOwed (bufQueue buf) + 1)).countExpired buf.bus
  | _ =>
    match s.latest buf.bus buf.slot with
    | some { id := i, life := some l, started := false, .. } =>
      if i = idx then ((s.reachFrac l).setLatest buf.bus buf.slot none).countExpired buf.bus else s
    | _ => s

end Sys2Proof.Machine
end

