-- ==== Sys2Proof/Machine/Journal.lean ====
section
/-! DEFINITION. Chapter 13: journal records and the queues that hold them for the storage keeper (R363–R365). -/
namespace Sys2Proof.Machine

def fJnlQueue : Fld := ⟨0x1E00104, 16, 0⟩
def fJnlRefused : Fld := ⟨0x1E00104, 17, 17⟩
def fJnlLost : Fld := ⟨0x1E00104, 18, 18⟩
def oJnlSeq : Nat := 0x1E00108
def fCsNode : Fld := ⟨0x1E0010C, 9, 0⟩
def oJnlRecords : Nat := 0x1E00140
def oJnlRefused : Nat := 0x1E00148
def oJnlLost : Nat := 0x1E00150

/-- A die's queue of records. -/
def Pkg.jnlSt (s : Pkg) (d : Nat) : JnlSt := SMap.get {} s.jnl d
def Pkg.setJnlSt (s : Pkg) (d : Nat) (x : JnlSt) : Pkg := { s with jnl := SMap.set {} s.jnl d x }

/-- The bytes a queue holds. -/
def JnlSt.bytes (q : JnlSt) : Nat := (q.queue.map List.length).foldl (· + ·) 0

/-- A record (Table 13-4): little-endian fields, payload padded with zeros to a multiple of 4, CRC-32C over every earlier byte. -/
def jnlBytes (type time seq die node : Nat) (payload : List Byte) : List Byte :=
  let body := leBytes 2 type ++ leBytes 2 (24 + payload.length) ++ leBytes 8 time ++ leBytes 4 seq ++
    leBytes 2 (die % 16 + node % 1024 * 16) ++ [0, 0] ++ payload ++ List.replicate ((4 - payload.length % 4) % 4) 0
  body ++ leBytes 4 (crc32c body)

/-- TYPE, TIME and DIE of a record. -/
def recType (r : List Byte) : Nat := leAt r 0 2
def recTime (r : List Byte) : Nat := leAt r 4 8
def recDie (r : List Byte) : Nat := leAt r 16 2 % 16

/-- Stamp a record and queue it on its die: 64 KiB in all, of which 8 KiB are reserved for hardware records (R364). Answers whether it fitted. -/
def Pkg.jnlTry (s : Pkg) (d type : Nat) (payload : List Byte) (limit : Nat) : Option Pkg :=
  let q := s.jnlSt d
  let r := jnlBytes type s.nowNs (s.rd d oJnlSeq).toNat d (s.get d fCsNode) payload
  if limit < q.bytes + r.length then none
  else
    let s := (s.setJnlSt d { q with queue := q.queue ++ [r] }).wr d oJnlSeq (s.rd d oJnlSeq + 1)
    some ((s.put d fJnlQueue (q.bytes + r.length)).bump d oJnlRecords)

/-- The first record once room returns is a GAP that carries the count lost, a hardware record (R364). -/
def Pkg.jnlGap (s : Pkg) (d : Nat) : Pkg :=
  let q := s.jnlSt d
  if q.lost = 0 then s
  else match s.jnlTry d 1 (leBytes 4 q.lost) 65536 with
    | some s' => s'.setJnlSt d { s'.jnlSt d with lost := 0 }
    | none => s

/-- A record that hardware produces: one that finds the queue full is lost (R364). -/
def Pkg.jnlHw (s : Pkg) (d type : Nat) (payload : List Byte) : Pkg :=
  let s := s.jnlGap d
  let q := s.jnlSt d
  match (if q.lost = 0 then s.jnlTry d type payload 65536 else none) with
  | some s' => s'
  | none => ((s.setJnlSt d { q with lost := q.lost + 1 }).bump d oJnlLost).raise d fJnlLost

/-- A type that Table 13-5 names. -/
def jnlTypeNamed (t : Nat) : Bool :=
  t ≤ 3 || t == 0x10 || t == 0x11 || t == 0x8012 || t == 0x13 || t == 0x14 || t == 0x8015 || t == 0x16 ||
  (0x100 ≤ t && t ≤ 0x7FFF) || (0x8100 ≤ t && t ≤ 0xFFFF)

/-- A write of CS_JNL_COMMIT by agent 0 (R364): the payload comes from the stage buffer. -/
def jnlCommitEff (r : Req) (tile : Nat) (value : Word) (s : Pkg) : Pkg :=
  let type := fieldGet value 15 0
  let plen := fieldGet value 27 16
  if !jnlTypeNamed type || 4072 < plen then s.cfgErr r tile cOutOfShape (pkgAddr tile 0x1E00100)
  else
    let s := s.jnlGap tile
    match s.jnlTry tile type (s.bytesAt tile 0x1E01000 plen) 57344 with
    | some s' => s'
    | none => (s.bump tile oJnlRefused).raise tile fJnlRefused

/-- The BOOT record of a die that restarts, with SEQ 0 (Table 13-5). -/
def Pkg.jnlBoot (s : Pkg) (d : Nat) : Pkg :=
  let s := (s.wr d oJnlSeq 0).put d fCsNode (s.get 15 ⟨0x20000, 9, 0⟩)
  s.jnlHw d 2 (leBytes 4 (s.deviceId d).toNat ++ leBytes 4 (s.rd 15 0x60000).toNat)

end Sys2Proof.Machine
end

