-- ==== Sys2Proof/Machine/Keeper.lean ====
section
/-! DEFINITION. Chapter 13: the storage keeper and its NAND (R365–R375). A page holds its data as written; what a read corrects of a codeword, or cannot
correct, comes with the command that reads it. -/
namespace Sys2Proof.Machine

/-! ### Registers (Table 13-7) -/

def fStMounted : Fld := ⟨0x1F00000, 0, 0⟩
def fStUnsupported : Fld := ⟨0x1F00000, 1, 1⟩
def fStWorn : Fld := ⟨0x1F00000, 2, 2⟩
def fStReadOnly : Fld := ⟨0x1F00000, 3, 3⟩
def fNorDamaged (slot : Nat) : Fld := ⟨0x1F00000, 4 + slot, 4 + slot⟩
def fProvDamaged : Fld := ⟨0x1F00000, 6, 6⟩
def fHkDone : Fld := ⟨0x1F00000, 7, 7⟩
/-- REFRESH_BITS (R367). -/
def fRefreshBits : Fld := ⟨0x1F00008, 4, 0⟩
def fFlushMs : Fld := ⟨0x1F00008, 15, 8⟩
def fScrubDays : Fld := ⟨0x1F00008, 23, 16⟩
def fNorScrubDays : Fld := ⟨0x1F00008, 31, 24⟩
def fReadLimit : Fld := ⟨0x1F0000C, 19, 0⟩
def fStaticDelta : Fld := ⟨0x1F00010, 15, 0⟩
def fBgBlocks : Fld := ⟨0x1F00010, 23, 16⟩
def fRdExp : Fld := ⟨0x1F00028, 3, 0⟩
def fRdProd : Fld := ⟨0x1F0002C, 11, 0⟩
def fRdCons : Fld := ⟨0x1F0002C, 27, 16⟩
def oStDurable : Nat := 0x1F00030
def fStPending : Fld := ⟨0x1F00038, 15, 0⟩
def fNorDue : Fld := ⟨0x1F00038, 16, 16⟩
def fGoodSpare : Fld := ⟨0x1F0003C, 15, 0⟩
def fStFree : Fld := ⟨0x1F0003C, 31, 16⟩
/-- ST_EVT: 0 WORN, 1 READ_ONLY, 2 ECC_FAIL, 3 NOR_DAMAGED, 4 RD_DONE. -/
def fStEvt (n : Nat) : Fld := ⟨0x1F00040, n, n⟩
def oPagesWritten : Nat := 0x1F00080
def oErases : Nat := 0x1F00088
def oEccBits : Nat := 0x1F00090
def oEccFail : Nat := 0x1F00098
def oGrownBad : Nat := 0x1F000A0
def oRefreshes : Nat := 0x1F000A8
def oStaticMoves : Nat := 0x1F000B0
def oScrubBlocks : Nat := 0x1F000B8
def oWraps : Nat := 0x1F000C0
def oTorn : Nat := 0x1F000C8
def oDropped : Nat := 0x1F000D0
def oRdSkipped : Nat := 0x1F000D8
def oNorScrubs : Nat := 0x1F000E0
def oNorRepairs : Nat := 0x1F000E8

/-- One day in ns. -/
def dayNs : Nat := 86400 * 1000000000

/-- Update of the keeper. -/
def Pkg.onKeeper (s : Pkg) (f : KeeperSt → KeeperSt) : Pkg := { s with keeper := f s.keeper }

/-! ### Blocks (R367–R370) -/

def Pkg.pageSize (s : Pkg) : Nat := if s.on 0 ⟨0x1F00004, 0, 0⟩ then 4096 else 2048
def Pkg.blockPages (s : Pkg) : Nat := if s.on 0 ⟨0x1F00004, 1, 1⟩ then 128 else 64
def Pkg.nandBlocks (s : Pkg) : Nat := s.get 0 ⟨0x1F00004, 16, 2⟩
def Pkg.block (s : Pkg) (b : Nat) : NBlock := SMap.get {} s.keeper.blocks b
def Pkg.setBlock (s : Pkg) (b : Nat) (x : NBlock) : Pkg := s.onKeeper (fun k => { k with blocks := SMap.set {} k.blocks b x })

/-- The blocks of a kind that hold something, in ascending order. -/
def Pkg.blocksOf (s : Pkg) (kind : Nat) : List Nat := (s.keeper.blocks.filter (fun e => e.2.kind == kind)).map (·.1)

/-- Free blocks; bad blocks. -/
def Pkg.freeBlocks (s : Pkg) : Nat := s.nandBlocks - (s.keeper.blocks.filter (fun e => e.2.kind != 0)).length
def Pkg.badBlocks (s : Pkg) : Nat := (s.keeper.blocks.filter (fun e => e.2.kind == 4)).length

/-- GOOD_SPARE, FREE and the wear limits (R368). -/
def Pkg.wear (s : Pkg) : Pkg :=
  let spare := Config.nandSpare s.nandBlocks - s.badBlocks
  let s := (s.put 0 fGoodSpare spare).put 0 fStFree s.freeBlocks
  let s := if spare < 16 ∧ !s.on 0 fStWorn then (s.raise 0 fStWorn).raise 0 (fStEvt 0) else s
  if spare < 8 ∧ !s.on 0 fStReadOnly then (s.raise 0 fStReadOnly).raise 0 (fStEvt 1) else s

/-- The free block with the lowest erase count (R369), or with the highest for a static move. -/
def Pkg.pickFree (s : Pkg) (worn : Bool) : Option Nat :=
  let listed := (s.keeper.blocks.filter (fun e => e.2.kind == 0)).map (fun e => (e.1, e.2.erases))
  let fresh := (List.range s.nandBlocks).find? (fun b => !SMap.has s.keeper.blocks b)
  let best (l : List (Nat × Nat)) : Option Nat := (l.foldl (fun m e => match m with
    | none => some e
    | some x => if (if worn then x.2 < e.2 else e.2 < x.2) then some e else some x) none).map (·.1)
  if worn then (match best listed with | some b => some b | none => fresh)
  else match fresh with | some b => some b | none => best listed

/-- Erase a block: it is free, and counts one more erase. -/
def Pkg.eraseBlock (s : Pkg) (b : Nat) : Pkg :=
  let x := s.block b
  (s.setBlock b { kind := 0, erases := x.erases + 1, reads := 0 }).bump 0 oErases

/-- Open a block for writing: it is erased and verified first (R369, R372). -/
def Pkg.openBlock (s : Pkg) (kind : Nat) : Pkg × Option Nat :=
  match s.pickFree false with
  | none => (s, none)
  | some b =>
    let s := s.eraseBlock b
    (s.setBlock b { s.block b with kind := kind, touched := s.nowNs }, some b)

/-- The sequence number of a block's first page. -/
def NBlock.firstSeq (x : NBlock) : Nat := match x.pages with | p :: _ => p.seq | [] => 0

/-- Journal blocks in the order of their pages. -/
def insertBySeq (x : NBlock) (b : Nat) : List (NBlock × Nat) → List (NBlock × Nat)
  | [] => [(x, b)]
  | y :: l => if x.firstSeq < y.1.firstSeq then (x, b) :: y :: l else y :: insertBySeq x b l
def Pkg.inOrder (s : Pkg) (kind : Nat) : List (NBlock × Nat) :=
  (s.blocksOf kind).foldl (fun l b => insertBySeq (s.block b) b l) []

/-- When fewer than 4 blocks are free the oldest journal block is erased (R369). -/
def Pkg.wrapRing (s : Pkg) : Pkg :=
  if s.freeBlocks < 4 then
    match s.inOrder 1 with
    | (_, b) :: _ => if s.keeper.open_ = some b then s else (s.eraseBlock b).bump 0 oWraps
    | [] => s
  else s

/-! ### Records (R365, R371) -/

/-- A record's CRC-32C is right (R363). -/
def recSound (r : List Byte) : Bool :=
  24 ≤ r.length && leAt r (r.length - 4) 4 == crc32c (r.take (r.length - 4))

/-- Bytes that a record whose header they begin with takes up (Table 13-4). -/
def recSize (bs : List Byte) : Nat := 24 + ceilDiv (leAt bs 2 2 - 24) 4 * 4

/-- The records of a stream of pages with their offsets, from one offset on. A record that is not sound, as one cut by a torn page, stands once for the
stretch up to the next sound one; filler too short to be a record stands for nothing (DEDUCED: see the log). -/
def readRecs : Nat → Bool → Nat → List Byte → List (Nat × List Byte)
  | 0, _, _, _ => []
  | k + 1, lost, o, bs =>
    if bs.length < 24 then []
    else if leAt bs 2 2 < 24 then readRecs k lost (o + 4) (bs.drop 4)
    else
      let n := recSize bs
      if n ≤ bs.length ∧ recSound (bs.take n) then (o, bs.take n) :: readRecs k false (o + n) (bs.drop n)
      else if lost then readRecs k true (o + 4) (bs.drop 4)
      else (o, bs.take n) :: readRecs k true (o + 4) (bs.drop 4)

/-- A page in a stream: where it begins there, where it lies, how long it is. -/
structure PageAt where
  start : Nat
  block : Nat
  page  : Nat
  len   : Nat
deriving DecidableEq, Repr

/-- The pages of blocks as a stream, and its length. -/
def pagesAt (blocks : List (NBlock × Nat)) : List PageAt × Nat :=
  blocks.foldl (fun q e =>
    (List.range e.1.pages.length).foldl (fun q i =>
      let n := ((e.1.pages[i]?).map (fun p => p.data.length)).getD 0
      (q.1 ++ [{ start := q.2, block := e.2, page := i, len := n }], q.2 + n)) q) ([], 0)

/-- The codewords, of 1,024 bytes each (R367), that n bytes of a stream from an offset on lie in. -/
def codesOf (l : List PageAt) (o n : Nat) : List CodeAt :=
  l.flatMap (fun p => ((List.range (ceilDiv p.len 1024)).filter (fun c =>
    decide (p.start + 1024 * c < o + n) && decide (o < min (p.start + 1024 * (c + 1)) (p.start + p.len)))).map (fun c => ⟨p.block, p.page, c⟩))

/-- The records that an area holds, in storage order (R373): 0 the ring, 1 the retained area. A record that the ring only begins, since its page is still to
be programmed, is not there yet. -/
def Pkg.areaRecs (s : Pkg) (area : Nat) : List JnlRec :=
  let blocks := s.inOrder (if area = 0 then 1 else 2)
  let l := (pagesAt blocks).1
  let rec_ (e : Nat × List Byte) : JnlRec := { bytes := e.2, place := codesOf l e.1 e.2.length }
  if area = 0 then
    let bytes := blocks.flatMap (fun e => e.1.pages.flatMap (·.data))
    let all := readRecs (bytes.length / 4) false 0 bytes
    match all.getLast? with
    | some e => (if e.2.length < recSize e.2 then all.dropLast else all).map rec_
    | none => []
  else
    l.flatMap (fun p =>
      let data := (((s.block p.block).pages[p.page]?).map (·.data)).getD []
      (readRecs 1 false p.start data).map rec_)

/-- A codeword that a read could not correct. -/
def Pkg.codeBad (s : Pkg) (c : CodeAt) : Bool := (((s.block c.block).pages[c.page]?).map (fun p => p.bad.contains c.code)).getD false

/-- A record that reads back: it is sound, and lies in codewords that decode (R367, R372). -/
def Pkg.readable (s : Pkg) (r : JnlRec) : Bool := recSound r.bytes && !r.place.any s.codeBad

/-- Write a record to the retained area, where the newest of each (TYPE, DIE) survives (R369). -/
def Pkg.retain (s : Pkg) (r : List Byte) : Pkg :=
  let same (x : List Byte) : Bool := recType x == recType r && recDie x == recDie r
  let full : Bool := match s.keeper.openRet with | some b => decide (s.blockPages ≤ (s.block b).pages.length) | none => true
  let old := (((s.areaRecs 1).filter s.readable).map (·.bytes)).filter (fun x => !same x)
  let stale := s.blocksOf 2
  let r0 := if full then s.openBlock 2 else (s, s.keeper.openRet)
  match r0.2 with
  | none => r0.1
  | some b =>
    let s := r0.1.onKeeper (fun k => { k with openRet := some b })
    let add (s : Pkg) (x : List Byte) : Pkg :=
      let y := s.block b
      let s := s.setBlock b { y with pages := y.pages ++ [{ seq := s.keeper.seq, data := x }], touched := s.nowNs }
      (s.onKeeper (fun k => { k with seq := k.seq + 1 })).bump 0 oPagesWritten
    if full then (stale.foldl (fun s c => s.eraseBlock c) (old.foldl add s) |> fun s => add s r) else add s r

/-- The keeper takes records from the queues in the order of their dies while no page is being programmed and the open page has room (R365, R371). A
device that is not supported, or is read-only, discards them (R366, R368). -/
def Pkg.keeperTake (s : Pkg) : Pkg :=
  if !s.on 0 fStMounted && !s.on 0 fStUnsupported then s
  else
    (List.range 7).foldl (fun s d =>
      let q := s.jnlSt d
      q.queue.foldl (fun s r =>
        if s.on 0 fStUnsupported || s.on 0 fStReadOnly then
          let q := s.jnlSt d
          ((s.setJnlSt d { q with queue := q.queue.drop 1 }).put d fJnlQueue (s.get d fJnlQueue - r.length)).bump 0 oDropped
        else if s.keeper.busy || decide (s.pageSize ≤ s.keeper.buf.length) then s
        else
          let q := s.jnlSt d
          let s := (s.setJnlSt d { q with queue := q.queue.drop 1 }).put d fJnlQueue (s.get d fJnlQueue - r.length)
          s.onKeeper (fun k =>
            { k with buf := k.buf ++ r, first := (match k.first with | some t => some t | none => some s.now)
                     times := k.times ++ [(k.written + k.buf.length + r.length, r)]
                     busy := decide (s.pageSize ≤ k.buf.length + r.length) })) s) s

/-- A flush (R371): the rest of the page is filled with a PAD record and the page is programmed. -/
def Pkg.flushPage (s : Pkg) : Pkg :=
  let s := s.keeperTake
  if s.keeper.buf.isEmpty || s.keeper.busy then s
  else
    let room := s.pageSize - s.keeper.buf.length
    let pad := if room < 24 then List.replicate room 0 else jnlBytes 0 s.nowNs 0 0 (s.get 0 fCsNode) (List.replicate (room - 24) 0)
    s.onKeeper (fun k => { k with buf := k.buf ++ pad, busy := true })

/-- Records whose last byte lies in a programmed page are durable (R371); those with RETAIN also go to the retained area (R369). -/
def Pkg.markDurable (s : Pkg) : Pkg :=
  let done := s.keeper.times.filter (fun e => decide (e.1 ≤ s.keeper.written))
  let s := s.onKeeper (fun k => { k with times := k.times.filter (fun e => !decide (e.1 ≤ k.written)) })
  let s := match done.getLast? with
    | some e => s.setCnt 0 oStDurable (BitVec.ofNat 64 (recTime e.2))
    | none => s
  (done.filter (fun e => 0x8000 ≤ recType e.2)).foldl (fun s e => s.retain e.2) s

/-- The block that takes the next page of the journal: the open one while it has room, else a fresh one. -/
def Pkg.journalBlock (s : Pkg) : Pkg × Option Nat :=
  match s.keeper.open_ with
  | some b => if (s.block b).pages.length < s.blockPages then (s, some b) else s.openBlock 1
  | none => s.openBlock 1

/-- The page being programmed has been programmed. -/
def Pkg.pageDone (s : Pkg) : Pkg :=
  let o := s.journalBlock
  match o.2 with
  | none => o.1
  | some b =>
    let s := o.1
    let x := s.block b
    let data := s.keeper.buf.take s.pageSize
    let s := s.setBlock b { x with pages := x.pages ++ [{ seq := s.keeper.seq, data := data }], touched := s.nowNs }
    let s := s.onKeeper (fun k =>
      { k with open_ := some b, seq := k.seq + 1, buf := k.buf.drop s.pageSize, busy := false, written := k.written + s.pageSize
               first := if (k.buf.drop s.pageSize).isEmpty then none else some s.now })
    ((((s.bump 0 oPagesWritten).markDurable).wrapRing).keeperTake).wear

/-- A block is grown bad (R368): its valid pages are copied elsewhere, and it is never used again. -/
def Pkg.growBad (s : Pkg) (b : Nat) : Pkg :=
  let x := s.block b
  let s := s.setBlock b { kind := 4, erases := x.erases }
  let s := if x.pages.isEmpty ∧ x.kind ≠ 3 then s
    else match s.openBlock x.kind with
      | (s, some c) => s.setBlock c { s.block c with pages := x.pages }
      | (s, none) => s
  let s := s.onKeeper (fun k => { k with open_ := if k.open_ = some b then none else k.open_,
                                         openRet := if k.openRet = some b then none else k.openRet })
  (s.bump 0 oGrownBad).wear

/-- PAGE_PROGRAM (R371): the page being programmed ends with status pass, or FAIL, which makes its block grown bad; the page is then programmed
elsewhere. -/
def pageProgram (ok : Bool) (at_ : Nat) (s : Pkg) : Pkg :=
  (s.reach at_).when (s.tileOn 0 && s.on 0 fStMounted && s.keeper.busy) (fun s =>
    if ok then s.pageDone
    else match s.journalBlock with
      | (s, some b) => s.growBad b
      | (s, none) => s)

/-- FLUSH_TIMER (R371): FLUSH_MS since the first record of the open page. -/
def flushTimer (s : Pkg) : Pkg :=
  match s.keeper.first with
  | none => s
  | some t => s.when (s.tileOn 0 && s.on 0 fStMounted && !s.keeper.busy) (fun s => (s.reachFrac (t + ns (ms (s.get 0 fFlushMs)))).flushPage)

/-- ST_CMD.FLUSH (R371). -/
def flushEff (s : Pkg) : Pkg := if s.on 0 fStMounted then s.flushPage else s

/-- The flush at park entry, before the rails fall (R371): every queued record becomes durable. -/
def Pkg.parkFlush (s : Pkg) : Pkg :=
  if !s.on 0 fStMounted || !s.tileOn 0 then s
  else
    let s := s.keeperTake
    let s := (List.range 512).foldl (fun s _ =>
      let s := if s.keeper.busy then s.pageDone else s
      s.keeperTake) s
    let s := s.flushPage
    if s.keeper.busy then s.pageDone else s

/-- ST_PENDING. -/
def Pkg.countWork (s : Pkg) : Pkg :=
  (s.put 0 fStPending (s.keeper.work.filter (fun w => w != .nor)).length).put 0 fNorDue (bit (s.keeper.work.contains .nor))

/-- NOR_DAMAGED as the last NOR scrub left it (R374). -/
def Pkg.showDamaged (s : Pkg) : Pkg :=
  (s.put 0 (fNorDamaged 0) (bit (s.keeper.damaged.contains 0))).put 0 (fNorDamaged 1) (bit (s.keeper.damaged.contains 1))

/-- NAND_MOUNT (R366, R368, R372). A device met for the first time has its factory bad blocks and its table in the two highest good blocks; a device
outside the limits is not mounted. -/
def nandMount (d : NandFound) (at_ : Nat) (s : Pkg) : Pkg :=
  (s.reach at_).when (s.tileOn 0 && !s.on 0 fStMounted && !s.on 0 fStUnsupported) (fun s =>
    if !d.supported || d.blocks < 1024 || 16384 < d.blocks then (s.raise 0 fStUnsupported).keeperTake
    else
      let geo := bit d.page4k + bit d.pages128 * 2 + d.blocks * 4 + bit d.nvddr2 * 2 ^ 17
      let s := s.wr 0 0x1F00004 (BitVec.ofNat 32 geo)
      let s := if s.keeper.device = d.id + 1 then s
        else
          let bad := (d.badBlocks.filter (fun b => decide (b < d.blocks))).foldl (fun m b => SMap.set {} m b { kind := 4 }) ([] : SMap NBlock)
          let good := (List.range 64).map (fun i => d.blocks - 1 - i) |>.filter (fun b => !SMap.has bad b)
          let all := (good.take 2).foldl (fun m b => SMap.set {} m b { kind := 3 }) bad
          s.onKeeper (fun k => { k with device := d.id + 1, blocks := all, seq := 0, open_ := none, openRet := none })
      let s := s.onKeeper (fun k => { k with blocks := k.blocks.map (fun e => (e.1, if e.2.kind = 0 ∨ e.2.kind = 4 then e.2 else
        { e.2 with reads := s.get 0 fReadLimit / 4 })) })
      let s := if d.torn && s.keeper.open_.isSome then (s.onKeeper (fun k => { k with open_ := none })).bump 0 oTorn else s
      ((s.raise 0 fStMounted).wear).showDamaged.countWork.keeperTake)

/-! ### Codewords (R367) -/

/-- Queue an operation once. -/
def Pkg.queueWork (s : Pkg) (w : Work) : Pkg :=
  if s.keeper.work.contains w then s else (s.onKeeper (fun k => { k with work := k.work ++ [w] })).countWork

/-- Codewords of a block that a read met with bit errors: what was corrected is counted; one that could not be is counted and raises ECC_FAIL, and its block
has failed. Those that the block does not have are no codewords. -/
def Pkg.tookCodes (s : Pkg) (b : Nat) (l : List CodeRead) : Pkg :=
  let x := s.block b
  let l := l.filter (fun e => decide (e.page < x.pages.length) && decide (1024 * e.code < s.pageSize))
  let gone := l.filter (fun e => e.bits.isNone)
  let s := s.add 0 oEccBits ((l.map (fun e => e.bits.getD 0)).foldl (· + ·) 0)
  if gone.isEmpty then s
  else
    let mark (i : Nat) (p : NPage) : NPage := { p with bad := ((gone.filter (fun e => e.page == i)).map (·.code)).foldl (fun c n => if c.contains n then c else n :: c) p.bad }
    let pages := (x.pages.zip (List.range x.pages.length)).map (fun e => mark e.2 e.1)
    ((s.add 0 oEccFail gone.length).raise 0 (fStEvt 2)).setBlock b { x with pages := pages, failed := true }

/-- A read of a block: REFRESH_BITS or more corrected in a codeword, or one that cannot be corrected, queue it for refresh. DESIGN CHOICE: an open block that
fails is closed; one that only reaches REFRESH_BITS is not queued, since the open block is never refreshed (R370). -/
def Pkg.readCodes (s : Pkg) (b : Nat) (l : List CodeRead) : Pkg :=
  let s := s.tookCodes b l
  let s := if (s.block b).failed then
      s.onKeeper (fun k => { k with open_ := if k.open_ = some b then none else k.open_, openRet := if k.openRet = some b then none else k.openRet })
    else s
  let worn : Bool := l.any (fun e => match e.bits with | some n => decide (s.get 0 fRefreshBits ≤ n) | none => false)
  let kind := (s.block b).kind
  if ((s.block b).failed || worn) && (kind == 1 || kind == 2 || kind == 3) && s.keeper.open_ != some b && s.keeper.openRet != some b then s.queueWork (.refresh b) else s

/-! ### Reading out (R373) -/

/-- ST_CMD.RD_GO: the copy of an area begins; discarded while one runs. -/
def rdGoEff (area : Nat) (s : Pkg) : Pkg :=
  if s.keeper.rd.isSome || !s.on 0 fStMounted then s
  else
    let from_ := s.rd64 0 0x1F00018
    let all := s.areaRecs area
    let bad := all.filter (fun r => !s.readable r)
    let l := all.filter (fun r => s.readable r && decide (from_ ≤ recTime r.bytes))
    let kind := if area = 0 then 1 else 2
    let s := s.onKeeper (fun k => { k with rd := some (area, l), blocks := k.blocks.map (fun e =>
      (e.1, if e.2.kind = kind then { e.2 with reads := e.2.reads + e.2.pages.length } else e.2)) })
    let s := s.add 0 oRdSkipped bad.length
    if l.isEmpty then (s.onKeeper (fun k => { k with rd := none })).raise 0 (fStEvt 4) else s

/-- ST_CMD.RD_STOP ends the copy after the current record. -/
def rdStopEff (s : Pkg) : Pkg := s.onKeeper (fun k => { k with rd := k.rd.map (fun e => (e.1, e.2.take 1)) })

/-- The read-out goes on with the records that are left, or is over: RD_DONE. -/
def Pkg.rdNext (s : Pkg) (area : Nat) (l : List JnlRec) : Pkg :=
  let s := s.onKeeper (fun k => { k with rd := if l.isEmpty then none else some (area, l) })
  if l.isEmpty then s.raise 0 (fStEvt 4) else s

/-- RD_COPY_RECORD (R373): the next record goes into its slot of the ring in work memory, unless the ring is full. One that lies in a codeword which cannot
be corrected is skipped and counted (R367). -/
def rdCopyRecord (ecc : List (Option Nat)) (at_ : Nat) (s : State) : State :=
  let p := s.pkg.reach at_
  match p.keeper.rd with
  | some (a, r :: l) =>
    let n := 2 ^ p.get 0 fRdExp
    let prod := p.get 0 fRdProd
    if !p.tileOn 0 || (prod + 1) % n == p.get 0 fRdCons % n then { s with pkg := p }
    else
      let read := r.place.zip ecc
      let p := read.foldl (fun p e => p.readCodes e.1.block [⟨e.1.page, e.1.code, e.2⟩]) p
      if read.any (fun e => e.2.isNone) || !p.readable r then { s with pkg := (p.bump 0 oRdSkipped).rdNext a l }
      else
        { s with pkg := (p.put 0 fRdProd ((prod + 1) % n)).rdNext a l
                 mem := s.mem.write 0 (p.rd64 0 0x1F00020 + 4096 * (prod % n)) r.bytes }
  | _ => { s with pkg := p }

/-! ### Scrubs and moves (R369, R370, R375) -/

/-- Blocks of the retained area or the table that lag STATIC_DELTA behind the most-worn block are queued for a static move (R369). -/
def Pkg.queueMoves (s : Pkg) : Pkg :=
  let top := (s.keeper.blocks.map (fun e => e.2.erases)).foldl max 0
  (s.keeper.blocks.filter (fun e => (e.2.kind == 2 || e.2.kind == 3) && decide (e.2.erases + s.get 0 fStaticDelta ≤ top))).foldl
    (fun s e => s.queueWork (.move e.1)) s

/-- SCRUB_DUE (R370): a block reaches READ_LIMIT, or SCRUB_DAYS since its last scrub or program. The open block is never scrubbed or refreshed. -/
def scrubDue (block at_ : Nat) (s : Pkg) : Pkg :=
  (s.reach at_).when
    (s.on 0 fStMounted && ((s.block block).kind == 1 || (s.block block).kind == 2 || (s.block block).kind == 3) &&
      s.keeper.open_ != some block && s.keeper.openRet != some block)
    (fun s =>
      if s.get 0 fReadLimit ≤ (s.block block).reads then s.queueWork (.refresh block)
      else if (s.block block).touched + s.get 0 fScrubDays * dayNs ≤ s.nowNs then s.queueWork (.scrub block)
      else s)

/-- NOR_SCRUB (R374): NOR_SCRUB_DAYS since the last. -/
def norScrub (at_ : Nat) (s : Pkg) : Pkg :=
  (s.reach at_).when (s.tileOn 0 && decide (s.keeper.norAt + s.get 0 fNorScrubDays * dayNs ≤ at_)) (fun s => s.queueWork .nor)

/-- A block's pages move to another block: a fresh one, or for a static move the most-worn free one; it is erased. -/
def Pkg.relocate (s : Pkg) (b : Nat) (worn : Bool) : Pkg :=
  let x := s.block b
  match s.pickFree worn with
  | none => s
  | some c =>
    let s := s.eraseBlock c
    let s := s.setBlock c { x with erases := (s.block c).erases, reads := 0, touched := s.nowNs }
    let s := s.onKeeper (fun k => { k with openRet := if k.openRet = some b then some c else k.openRet })
    s.eraseBlock b

/-- A block is read and its pages move: one that holds nothing stays, one with a codeword that cannot be corrected is then grown bad (R367), and so is one
on which a program or an erase fails (R368). -/
def Pkg.moveBlock (s : Pkg) (b : Nat) (worn ok : Bool) (ecc : List CodeRead) : Pkg :=
  let kind := (s.block b).kind
  if kind = 0 ∨ kind = 4 then s
  else
    let s := s.tookCodes b ecc
    let n := if worn then oStaticMoves else oRefreshes
    if !ok then s.growBad b
    else if (s.block b).failed then (s.growBad b).bump 0 n
    else ((s.relocate b worn).bump 0 n).wear

/-- A queued operation on a block runs (R370, R375). -/
def Pkg.runWork (s : Pkg) (w : Work) (ok : Bool) (ecc : List CodeRead) : Pkg :=
  match w with
  | .refresh b => s.moveBlock b false ok ecc
  | .move b => s.moveBlock b true ok ecc
  | .scrub b =>
    let x := s.block b
    ((s.setBlock b { x with touched := s.nowNs, reads := x.reads + x.pages.length }).bump 0 oScrubBlocks).readCodes b ecc
  | .nor => s

end Sys2Proof.Machine
end

