-- ==== Sys2Proof/Machine/Ledger.lean ====
section
/-! DEFINITION. Chapter 11: the park log, the ledger and the plan (R325–R333). -/
namespace Sys2Proof.Machine

/-- EL registers (Table 11-7). -/
def oElAllow : Nat := 0x30000
def fElHorizonS : Fld := ⟨0x30004, 23, 0⟩
def fElTick : Fld := ⟨0x3000C, 11, 0⟩
def oElSpent : Nat := 0x30010
def oElHorizonEnd : Nat := 0x30018
def oElTotal : Nat := 0x30020
def fElBase : Fld := ⟨0x30028, 15, 0⟩
def fElDormant : Fld := ⟨0x30028, 31, 16⟩
def fElSwk : Fld := ⟨0x3002C, 15, 0⟩
def fElUnseen : Fld := ⟨0x3002C, 31, 16⟩
def fElRet (k : Nat) : Fld := ⟨0x30030 + 4 * k, 15, 0⟩
def fElHkPeriod : Fld := ⟨0x30048, 15, 0⟩
def fElHkMax : Fld := ⟨0x30048, 31, 16⟩
def oElHkCost : Nat := 0x3004C
def fRetKept : Fld := ⟨0x30070, 0, 0⟩
def fHkKept : Fld := ⟨0x30070, 1, 1⟩
def fSwkKept (c : Nat) : Fld := ⟨0x30070, 2 + c, 2 + c⟩
def fExhausted : Fld := ⟨0x30070, 14, 14⟩
def fHorizonPassed : Fld := ⟨0x30070, 15, 15⟩
def fElTemp : Fld := ⟨0x30074, 7, 0⟩
def oElMeas : Nat := 0x30078
def oElDecl : Nat := 0x3007C
def oElWarn : Nat := 0x30080
def fElEvt (n : Nat) : Fld := ⟨0x30084, n, n⟩
def oElSheds : Nat := 0x30088
def oElTicks : Nat := 0x30090

/-- Update of the wake and power substates. -/
def Pkg.onWake (s : Pkg) (f : WakeSt → WakeSt) : Pkg := { s with wake := f s.wake }
def Pkg.onPower (s : Pkg) (f : PowerSt → PowerSt) : Pkg := { s with power := f s.power }

/-! ### The park log (R330, Table 11-4) -/

def fLogProd : Fld := ⟨0x20700, 7, 0⟩
def fLogCons : Fld := ⟨0x20700, 23, 16⟩
def oLogLost : Nat := 0x20608

/-- Types of Table 11-4. -/
def plWakeTaken : Nat := 1
def plSuppressed : Nat := 2
def plMasked : Nat := 3
def plShed : Nat := 4
def plParkEntry : Nat := 5
def plFailsafe : Nat := 6
def plBusDom : Nat := 7
def plTxdTimeout : Nat := 8
def plFalseWake : Nat := 9
def plRetentionLost : Nat := 10
def plDormantExit : Nat := 11

/-- What types 4 and 5 carry beside the common fields. -/
structure PlanLine where
  item   : Nat := 0
  meas   : Nat := 0
  decl   : Nat := 0
  tS     : Nat := 0
  remain : Int := 0

/-- Write an entry; a full log drops its oldest. -/
def Pkg.logPark (s : Pkg) (type source : Nat) (x : PlanLine := {}) : Pkg :=
  let p := s.get 15 fLogProd
  let o := 0x28000 + 32 * p
  let s := if (p + 1) % 256 = s.get 15 fLogCons then (s.put 15 fLogCons ((s.get 15 fLogCons + 1) % 256)).bump 15 oLogLost else s
  let s := s.wr64 15 o (s.countNs 15)
  let s := s.wr 15 (o + 8) (BitVec.ofNat 32 (type + source % 32 * 2 ^ 8 + x.item % 256 * 2 ^ 16 + s.get 15 fElTemp * 2 ^ 24))
  let s := s.wr 15 (o + 12) (BitVec.ofNat 32 (min ((s.cnt 15 oElSpent).toNat / 1000) (2 ^ 32 - 1)))
  let s := ((s.wr 15 (o + 16) (BitVec.ofNat 32 x.meas)).wr 15 (o + 20) (BitVec.ofNat 32 x.decl)).wr 15 (o + 24) (BitVec.ofNat 32 x.tS)
  (s.wr 15 (o + 28) (toWord x.remain)).put 15 fLogProd ((p + 1) % 256)

/-! ### The ledger (R325, R326) -/

/-- µA over 2⁻¹⁶ ns that make 1 nAh: 3.6 × 10⁹ µA·ns. -/
def nAhUnit : Nat := 3600000000 * 65536

/-- Charge counted on the two paths, and UNSEEN_UA over the time since it was last added (R325). -/
def Pkg.charge (s : Pkg) (nah : Nat) : Pkg :=
  let q := s.wake.unseenRem + s.get 15 fElUnseen * (s.now - s.wake.unseenAt)
  let s := s.onWake (fun w => { w with unseenAt := s.now, unseenRem := q % nAhUnit })
  (s.add 15 oElSpent (nah + q / nAhUnit)).add 15 oElTotal (nah + q / nAhUnit)

/-- The allowance that remains, in µAh (R328). -/
def Pkg.remain (s : Pkg) : Int := ((s.rd 15 oElAllow).toNat : Int) - ((s.cnt 15 oElSpent).toNat / 1000 : Nat)

/-- EXHAUSTED is raised when the allowance remaining reaches 0; LOW in a run mode when it falls below WARN_UAH (R335). -/
def Pkg.ledgerEvents (s : Pkg) (before : Int) (awake : Bool) : Pkg :=
  let warn : Int := (s.rd 15 oElWarn).toNat
  let s := if 0 < before ∧ s.remain ≤ 0 then s.raise 15 (fElEvt 2) else s
  if awake ∧ warn ≤ before ∧ s.remain < warn then s.raise 15 (fElEvt 0) else s

/-- A write of EL_CMD.NEW_PERIOD (R326). -/
def Pkg.newPeriodEff (s : Pkg) : Pkg :=
  (s.setCnt 15 oElSpent 0).setCnt 15 oElHorizonEnd (BitVec.ofNat 64 (s.countNs 15 + s.get 15 fElHorizonS * 1000000000))

/-- A write of EL_CMD. -/
def elCmdEff (value : Word) (s : Pkg) : Pkg := if value.getLsbD 0 then s.newPeriodEff else s

/-! ### The plan (R327, R328) -/

/-- Linear interpolation, rounded down. -/
def interp (x0 x1 y0 y1 x : Int) : Int := (y0 * (x1 - x0) + (y1 - y0) * (x - x0)).fdiv (x1 - x0)

/-- ret(T): EL_RET_COST between its six points, flat beyond them (R327). -/
def Pkg.retCost (s : Pkg) (t : Int) : Nat :=
  let c (k : Nat) : Int := s.get 15 (fElRet k)
  let v : Int := if t ≤ -40 then c 0 else if t ≤ 0 then interp (-40) 0 (c 0) (c 1) t else if t ≤ 25 then interp 0 25 (c 1) (c 2) t
    else if t ≤ 55 then interp 25 55 (c 2) (c 3) t else if t ≤ 85 then interp 55 85 (c 3) (c 4) t
    else if t ≤ 105 then interp 85 105 (c 4) (c 5) t else c 5
  v.toNat

/-- The item of a code is kept. -/
def Pkg.itemKept (s : Pkg) (i : Nat) : Bool :=
  if i = 1 then s.on 15 fRetKept else if i = 2 then s.on 15 fHkKept
  else if 0x10 ≤ i ∧ i < 0x1C then s.on 15 (fSwkKept (i - 0x10)) else false

/-- The declared cost of an item (R327). -/
def Pkg.itemCost (s : Pkg) (t : Int) (i : Nat) : Nat :=
  if i = 1 then s.variant.tiles * s.retCost t
  else if i = 2 then (s.rd 15 oElHkCost).toNat / s.get 15 fElHkPeriod
  else if 0x10 ≤ i ∧ i < 0x1C then s.get 15 fElSwk else 0

def Pkg.setKept (s : Pkg) (i v : Nat) : Pkg :=
  if i = 1 then s.put 15 fRetKept v else if i = 2 then s.put 15 fHkKept v
  else if 0x10 ≤ i ∧ i < 0x1C then s.put 15 (fSwkKept (i - 0x10)) v else s

/-- All item codes. -/
def planItems : List Nat := [1, 2] ++ (List.range 12).map (fun c => 0x10 + c)

/-- The declared current of the park (R327). -/
def Pkg.declared (s : Pkg) (t : Int) : Nat :=
  s.get 15 fElBase + s.get 15 fElUnseen + ((planItems.filter s.itemKept).map (s.itemCost t)).foldl (· + ·) 0

/-- EL_SHED_LIST: it ends at its first 0. -/
def Pkg.shedList (s : Pkg) : List Nat := ((s.bytesAt 15 0x30050 32).map (·.toNat)).takeWhile (· != 0)

/-- The loop of plan_tick over the shed list: the projection left, with the items shed and logged. -/
def Pkg.shedLoop (temp : Int) (tS : Nat) (x : PlanLine) : List Nat → Pkg → Nat → Pkg × Nat
  | [], s, proj => (s, proj)
  | i :: l, s, proj =>
    if (proj * tS : Int) ≤ x.remain * 3600 then (s, proj)
    else if s.itemKept i then
      let c := s.itemCost temp i
      let s := ((s.setKept i 0).bump 15 oElSheds).logPark plShed 0 { x with item := i }
      Pkg.shedLoop temp tS x l (s.onWake (fun w => { w with shed := true })) (proj - c)
    else Pkg.shedLoop temp tS x l s proj

/-- plan_tick (R328): the state, and whether the package enters DORMANT. -/
def Pkg.plan (s : Pkg) (entry : Bool) (meas : Nat) (temp : Int) : Pkg × Bool :=
  let s := (s.put 15 fElTemp (temp % 256).toNat).bump 15 oElTicks
  let decl := s.declared temp
  let s := (s.wr 15 oElMeas (BitVec.ofNat 32 meas)).wr 15 oElDecl (BitVec.ofNat 32 decl)
  let s := s.onWake (fun w => { w with tickAt := s.now })
  let end_ := (s.cnt 15 oElHorizonEnd).toNat
  let tS := (end_ - s.countNs 15) / 1000000000
  let x : PlanLine := { meas := meas, decl := decl, tS := tS, remain := s.remain }
  let s := if entry then s.logPark plParkEntry 0 x else s
  let proj := if entry then decl else max meas decl
  let shedAll (s : Pkg) : Pkg :=
    let n := (planItems.filter s.itemKept).length
    let s := (planItems.foldl (fun s i => s.setKept i 0) s).add 15 oElSheds n
    (s.logPark plShed 0 { x with item := 0xFF }).onWake (fun w => { w with shed := true })
  if s.remain ≤ 0 then ((shedAll s).raise 15 fExhausted, true)
  else if end_ ≤ s.countNs 15 then (s.raise 15 fHorizonPassed, false)
  else
    let r := s.shedLoop temp tS x s.shedList proj
    if x.remain * 3600 < (r.2 * tS : Int) then (shedAll r.1, true) else (r.1, false)

/-- Every item that applies starts the park as kept (R328). -/
def Pkg.keepAll (s : Pkg) (warm : Bool) : Pkg :=
  let s := (s.put 15 fRetKept (bit warm)).put 15 fHkKept (bit (s.get 15 fElHkPeriod != 0))
  let s := (List.range 12).foldl (fun s c => s.put 15 (fSwkKept c) (s.get 15 (fSwkEn c))) s
  ((s.put 15 fExhausted 0).put 15 fHorizonPassed 0).onWake (fun w => { w with shed := false })

/-- ALLOWANCE_LOW (R325, R335): the meters add charge while the package is awake. -/
def allowanceLow (nah at_ : Nat) (s : Pkg) : Pkg :=
  (s.reach at_).when (4 ≤ s.modeNow || s.modeNow == mWaking) (fun s =>
    let before := s.remain
    (s.charge nah).ledgerEvents before (decide (5 ≤ s.modeNow)))

/-- EL_COPY_REFRESH (R333): in the run modes a tile's EL block shows the sentinel's. -/
def elCopyRefresh (tile at_ : Nat) (s : Pkg) : Pkg :=
  (s.reach at_).when (s.tileOn tile && decide (5 ≤ s.modeNow) && s.pathUp 15 tile) (fun s =>
    (List.range 0x26).foldl (fun s i =>
      let o := 4 * i
      let pair := [0x10, 0x18, 0x20, 0x88, 0x90].find? (fun p => p == o || p + 4 == o)
      match pair with
      | some p => s.wr tile (0x2000000 + o) (BitVec.ofNat 32 ((s.cnt 15 (0x30000 + p)).toNat / (if p = o then 1 else 2 ^ 32)))
      | none => s.wr tile (0x2000000 + o) (s.rd 15 (0x30000 + o))) s)

end Sys2Proof.Machine
end

