-- ==== Sys2Proof/Machine/Bridge.lean ====
section
/-! DEFINITION. Chapter 7: the PCIe host bridge. Windows, byte lanes, cutting, outbound reads and prefetch (R218–R233). -/
namespace Sys2Proof.Machine

/-- HB registers (Table 7-5). -/
def fHbLink : Fld := ⟨0x1800000, 0, 0⟩
def fHbSpeed : Fld := ⟨0x1800000, 3, 1⟩
def fHbWidth : Fld := ⟨0x1800000, 6, 4⟩
def fHbMps : Fld := ⟨0x1800000, 8, 7⟩
def fHbMrrs : Fld := ⟨0x1800000, 11, 9⟩
def fHbBme : Fld := ⟨0x1800000, 12, 12⟩
def oHbInNoWin : Nat := 0x1800600
def oHbOutNoWin : Nat := 0x1800608
def oHbOutErr : Nat := 0x1800610
def oHbCplTimeout : Nat := 0x1800618
def oHbInPoisoned : Nat := 0x1800620
def oHbPfBytes : Nat := 0x1800628
def oHbPfDiscard : Nat := 0x1800630
def oHbLaneUnaligned : Nat := 0x1800638
def oHbCutPieces : Nat := 0x1800640

/-- Bit n of HB_ERR_CAUSE. -/
def fHbCause (n : Nat) : Fld := ⟨0x1800104, n, n⟩

def Pkg.bridge (s : Pkg) (t : Nat) : BridgeSt := SMap.get {} s.bridges t
def Pkg.setBridge (s : Pkg) (t : Nat) (x : BridgeSt) : Pkg := { s with bridges := SMap.set {} s.bridges t x }

/-- Max_Payload_Size and Max_Read_Request_Size in bytes. -/
def Pkg.mps (s : Pkg) (t : Nat) : Nat := 128 * 2 ^ s.get t fHbMps
def Pkg.mrrs (s : Pkg) (t : Nat) : Nat := 128 * 2 ^ s.get t fHbMrrs

/-- Table 7-1 (R219): the size of a BAR and whether it is prefetchable. BAR4, BAR5 and the expansion ROM BAR are not implemented. -/
def bar (n : Nat) : Option (Nat × Bool) := match n with | 0 => some (2 ^ 30, false) | 2 => some (2 ^ 26, true) | _ => none

/-- The bytes from `off` lie in a BAR. -/
def inBar (b off n : Nat) : Bool := match bar b with | some (size, _) => decide (off + n ≤ size) | none => false

/-! ### Byte lanes (R226, Table 7-2) -/

/-- Where the byte at host address a lies under an address-invariant swap of W-byte elements. -/
def swapAddr (w a : Nat) : Nat := a - a % w + (w - 1 - a % w)

/-- The host addresses of the bytes of an access of n bytes at host address a, in the order of the access. -/
def laneMap (mode a n : Nat) : List Nat :=
  let plain := (List.range n).map (fun i => a + i)
  match mode with
  | 1 => plain.map (swapAddr 2)
  | 2 => plain.map (swapAddr 4)
  | 3 => plain.map (swapAddr 8)
  | 4 =>
    if (n = 2 ∨ n = 4 ∨ n = 8) ∧ a % n = 0 then plain.reverse
    else if 8 < n then plain.map (swapAddr 8) else plain
  | _ => plain

/-- The access passes a DATA_INV window unchanged and is longer than one byte (Table 7-2). -/
def laneUnaligned (mode a n : Nat) : Bool :=
  mode == 4 && 1 < n && n ≤ 8 && !((n == 2 || n == 4 || n == 8) && a % n == 0)

/-- Count an unaligned access. -/
def Pkg.laneCount (s : Pkg) (t mode a n : Nat) : Pkg := if laneUnaligned mode a n then s.bump t oHbLaneUnaligned else s

/-! ### Cutting (R227) -/

/-- Put a number in its place in an ascending list without repeats. -/
def insertAsc (a : Nat) : List Nat → List Nat
  | [] => [a]
  | b :: l => if a < b then a :: b :: l else if a = b then b :: l else b :: insertAsc a l

/-- A list of addresses in ascending order, without repeats. -/
def sortAsc (l : List Nat) : List Nat := l.foldl (fun m a => insertAsc a m) []

/-- The pieces (address, length) of ascending addresses, cut at every multiple of `cut` and wherever addresses are not contiguous. -/
def piecesOf (cut : Nat) (l : List Nat) : List (Nat × Nat) :=
  (l.foldl (fun ps a => match ps with
    | (b, n) :: r => if b + n = a ∧ a % cut ≠ 0 then (b, n + 1) :: r else (a, 1) :: ps
    | [] => [(a, 1)]) []).reverse

/-- The byte a list gives to an address. -/
def byteAt (l : List (Nat × Byte)) (a : Nat) : Byte := ((l.find? (fun e => e.1 == a)).map (·.2)).getD 0

/-! ### Windows (R222–R225) -/

/-- The inbound window a BAR2 offset resolves to: the lowest-numbered valid one that covers it (R222). -/
def Pkg.inWindow (s : Pkg) (t off : Nat) : Option Nat :=
  (List.range 8).find? (fun w =>
    let r := s.rd t (0x1800200 + 16 * w)
    let base := fieldGet r 13 0 * 4096
    r.getLsbD 31 && decide (base ≤ off) && decide (off < base + 2 ^ fieldGet r 18 14))

/-- LANES of an inbound window, and the local address a BAR2 offset maps to. -/
def Pkg.inLanes (s : Pkg) (t w : Nat) : Nat := fieldGet (s.rd t (0x1800200 + 16 * w)) 21 19
def Pkg.inLocal (s : Pkg) (t w off : Nat) : Nat :=
  (s.rd t (0x1800204 + 16 * w)).toNat * 4096 + (off - fieldGet (s.rd t (0x1800200 + 16 * w)) 13 0 * 4096)

/-- An outbound window's host address HOST, control word and lanes (Table 7-6). -/
def Pkg.outHost (s : Pkg) (t w : Nat) : Nat := s.rd64 t (0x1800400 + 16 * w)
def Pkg.outCtl (s : Pkg) (t w : Nat) : Word := s.rd t (0x1800408 + 16 * w)
def Pkg.outLanes (s : Pkg) (t w : Nat) : Nat := fieldGet (s.outCtl t w) 10 8
def Pkg.outPrefetch (s : Pkg) (t w : Nat) : Bool := (s.outCtl t w).getLsbD 6
def Pkg.outNoSnoop (s : Pkg) (t w : Nat) : Bool := (s.outCtl t w).getLsbD 7

/-- An outbound access that the bridge does not issue (R224). -/
def Pkg.outRefused (s : Pkg) (t w off n : Nat) : Bool :=
  !(s.outCtl t w).getLsbD 31 || 2 ^ fieldGet (s.outCtl t w) 5 0 < off + n || !s.on t fHbLink || !s.on t fHbBme

/-- Count a refused outbound access (R224). -/
def Pkg.countNoWin (s : Pkg) (t : Nat) : Pkg := (s.bump t oHbOutNoWin).raise t (fHbCause 1)

/-! ### Prefetched bytes (R233) -/

/-- Discard prefetched bytes that do not satisfy `keep`, counting them. -/
def Pkg.pfKeep (s : Pkg) (t : Nat) (keep : PfBuf → Nat → Bool) : Pkg :=
  let b := s.bridge t
  let kept := b.pf.map (fun p => { p with bytes := p.bytes.filter (fun e => keep p e.1) })
  let lost := (b.pf.map (fun p => (p.bytes.filter (fun e => !keep p e.1)).length)).foldl (· + ·) 0
  (s.setBridge t { b with pf := kept.filter (fun p => !p.bytes.isEmpty) }).add t oHbPfDiscard lost

/-- A write to lines of host memory discards what was prefetched of them, and what is on its way (R233). -/
def Pkg.pfWritten (s : Pkg) (t : Nat) (addrs : List Nat) : Pkg :=
  let lines := sortAsc (addrs.map (· / 64))
  let s := s.pfKeep t (fun _ a => !lines.contains (a / 64))
  let b := s.bridge t
  s.setBridge t { b with reads := b.reads.map (fun r => if r.keep then { r with dropped := lines ++ r.dropped } else r) }

/-! ### Outbound writes and reads (R224, R227, R228) -/

/-- The pieces of an outbound write leave in ascending order (R228): each as an address and its bytes. -/
def Pkg.sendPieces (s : Pkg) (t : Nat) (noSnoop : Bool) (bytes : List (Nat × Byte)) : Pkg :=
  let ps := piecesOf (s.mps t) (sortAsc (bytes.map (·.1)))
  let s := ps.foldl (fun s p => s.emit (.tlpWrite t p.1 noSnoop ((List.range p.2).map (fun i => byteAt bytes (p.1 + i))))) s
  s.add t oHbCutPieces ps.length

/-- An outbound write of the enabled bytes, through a window that takes it (R224–R228). -/
def Pkg.bridgeWrite (s : Pkg) (t w off : Nat) (data : List Byte) (be : List Bool) : Pkg :=
  let a := s.outHost t w + off
  let s := s.laneCount t (s.outLanes t w) a data.length
  let placed := (((laneMap (s.outLanes t w) a data.length).zip data).zip be).filterMap (fun e => if e.2 then some e.1 else none)
  (s.sendPieces t (s.outNoSnoop t w) placed).pfWritten t (placed.map (·.1))

/-- Whether two requesters contend for a freed tag in this order: the lower agent first; DMA channels rotate (R231). -/
def outRank (lastDma : Nat) : OutReq → Nat
  | .core a => a * 16
  | .dma ch => 64 + (ch + 15 - lastDma) % 16

/-- Non-posted requests outstanding (R220). -/
def BridgeSt.live (b : BridgeSt) : Nat := (b.reads.map (fun r => r.live.length)).foldl (· + ·) 0

/-- The read that may issue its next piece: of each requester its oldest, the one of least rank (R231). -/
def BridgeSt.nextRead (b : BridgeSt) : Option Nat :=
  let firsts := (List.range b.reads.length).filter (fun i => match b.reads[i]? with
    | some r => !r.todo.isEmpty && !(b.reads.take i).any (fun q => q.who == r.who && !q.todo.isEmpty)
    | none => false)
  let rank (i : Nat) : Nat := match b.reads[i]? with | some r => outRank b.lastDma r.who | none => 1000
  firsts.foldl (fun m i => match m with | some j => if rank i < rank j then some i else some j | none => some i) none

/-- The first tag from g on that is not in use; at most 256 of the 1,024 are (R218, R220). -/
def tagFrom (used : List Nat) : Nat → Nat → Nat
  | 0, g => g
  | k + 1, g => if used.contains g then tagFrom used k ((g + 1) % 1024) else g

def BridgeSt.freeTag (b : BridgeSt) : Nat := tagFrom (b.reads.flatMap (fun r => r.live.map (·.tag))) 256 (b.nextTag % 1024)

/-- A read piece leaves under a free tag (R227, R231). -/
def Pkg.sendRead (s : Pkg) (t : Nat) (who : OutReq) (noSnoop : Bool) (p : Nat × Nat) : Pkg :=
  let b := s.bridge t
  let tag := b.freeTag
  let b := { b with nextTag := (tag + 1) % 1024, lastDma := (match who with | .dma ch => ch | .core _ => b.lastDma) }
  ((s.setBridge t b).emit (.tlpRead t p.1 p.2 tag noSnoop)).bump t oHbCutPieces

/-- Issue read pieces while tags are free: at most 256 are outstanding (R220). -/
def Pkg.issueReads : Nat → Pkg → Nat → Pkg
  | 0, s, _ => s
  | k + 1, s, t =>
    let b := s.bridge t
    if 256 ≤ b.live then s
    else
      match b.nextRead with
      | none => s
      | some i =>
        match b.reads[i]? with
        | none => s
        | some r =>
          match r.todo with
          | [] => s
          | (a, n) :: rest =>
            let r' := { r with todo := rest, live := r.live ++ [{ tag := b.freeTag, addr := a, len := n, sent := s.now }] }
            let s := s.sendRead t r.who r.noSnoop (a, n)
            Pkg.issueReads k (s.setBridge t { s.bridge t with reads := b.reads.set i r' }) t

/-- Issue whatever may be issued. -/
def Pkg.issueAll (s : Pkg) (t : Nat) : Pkg := s.issueReads 512 t

/-- The addresses a prefetching read fetches (R233): whole 64-byte lines, and 512 bytes ahead when the requester reads on where its last
read ended. -/
def prefetchAddrs (want : List Nat) (ahead : Bool) : List Nat :=
  let lines := sortAsc (want.map (· / 64))
  let lines := match lines.getLast? with
    | some l => if ahead then lines ++ (List.range 8).map (fun i => l + 1 + i) else lines
    | none => lines
  lines.flatMap (fun l => (List.range 64).map (fun i => l * 64 + i))

/-- Give an outbound read's bytes to its requester. -/
def Pkg.deliverRead (s : Pkg) (t : Nat) (who : OutReq) (d : Option (List Byte)) : Pkg := s.emit (.outboundData t who d)

/-- What a read takes (R226, R233): the host address of its first byte and of each byte it asks for, the prefetched bytes that serve it, the
addresses to fetch. -/
structure ReadPlan where
  host   : Nat
  map    : List Nat
  served : List (Nat × Byte)
  fetch  : List Nat

/-- The bytes a plan still needs from the host. -/
def ReadPlan.want (p : ReadPlan) : List Nat := p.map.filter (fun x => !p.served.any (fun e => e.1 == x))

/-- A read through a window that takes it: what prefetched bytes serve and what is fetched. A window without prefetching is served none and fetches
what was asked for (R226, R233). -/
def Pkg.planRead (s : Pkg) (t : Nat) (who : OutReq) (w off n : Nat) : Pkg × ReadPlan :=
  let a := s.outHost t w + off
  let s := s.laneCount t (s.outLanes t w) a n
  let map := laneMap (s.outLanes t w) a n
  let pre := s.outPrefetch t w
  let follows := (s.bridge t).lastRead.any (fun e => e.1 == who && e.2 == a)
  let s := s.pfKeep t (fun p _ => p.who != who || (pre && p.next == a))
  let have_ := ((s.bridge t).pf.filter (fun p => p.who == who)).flatMap (·.bytes)
  let served := have_.filter (fun e => map.contains e.1)
  let want := map.filter (fun x => !served.any (fun e => e.1 == x))
  let b := s.bridge t
  let left := (mapIf (fun p => p.who == who) (fun p =>
      { p with next := a + n, bytes := p.bytes.filter (fun e => !map.contains e.1) }) b.pf).filter (fun p => !p.bytes.isEmpty)
  let b := { b with pf := left, lastRead := (who, a + n) :: b.lastRead.filter (fun e => e.1 != who) }
  let held := (left.filter (fun p => p.who == who)).flatMap (fun p => p.bytes.map (·.1))
  let fetch := if want.isEmpty then []
    else if pre then (prefetchAddrs want follows).filter (fun x => !held.contains x && !served.any (fun e => e.1 == x))
    else sortAsc want
  (s.setBridge t b, { host := a, map := map, served := served, fetch := fetch })

/-- The pieces of a plan's fetch (R227). -/
def Pkg.readPieces (s : Pkg) (t : Nat) (p : ReadPlan) : List (Nat × Nat) := piecesOf (min 4096 (s.mrrs t)) p.fetch

/-- An outbound read through a window that takes it: prefetched bytes serve it, the rest is read from the host (R224–R228, R233). -/
def Pkg.bridgeRead (s : Pkg) (t : Nat) (who : OutReq) (w off n : Nat) : Pkg :=
  let q := s.planRead t who w off n
  let s := q.1
  let p := q.2
  if p.want.isEmpty then s.deliverRead t who (some (p.map.map (byteAt p.served)))
  else
    let r : OutRead := { who := who, host := p.host, map := p.map, keep := s.outPrefetch t w, noSnoop := s.outNoSnoop t w,
                         todo := s.readPieces t p, data := p.served }
    let b := s.bridge t
    (s.setBridge t { b with reads := b.reads ++ [r] }).issueAll t

/-- Bytes that have come and that nobody asked for stay as prefetched ones, but for lines a write has overtaken (R233). -/
def Pkg.keepPrefetch (s : Pkg) (t : Nat) (who : OutReq) (next : Nat) (dropped : List Nat) (extra : List (Nat × Byte)) : Pkg :=
  let s := s.add t oHbPfBytes extra.length
  let kept := extra.filter (fun e => !dropped.contains (e.1 / 64))
  let s := s.add t oHbPfDiscard (extra.length - kept.length)
  let b := s.bridge t
  if kept.isEmpty then s else s.setBridge t { b with pf := b.pf ++ [{ who := who, next := next, bytes := kept, came := s.now }] }

/-- A read that a command of a DMA channel carries out to its end (R226–R228, R233, R239): its pieces leave, and `host` holds by host address what
comes back. A byte the host does not answer fails the whole read, as HB_OUT_ERR or, where `late`, as HB_CPL_TIMEOUT (R224). -/
def Pkg.hostRead (s : Pkg) (t : Nat) (who : OutReq) (w off n : Nat) (host : List (Nat × Byte)) (fails late : Bool) : Pkg × Option (List Byte) :=
  let q := s.planRead t who w off n
  let p := q.2
  let s := (q.1.readPieces t p).foldl (fun s e => s.sendRead t who (s.outNoSnoop t w) e) q.1
  if fails || !p.want.all (fun x => host.any (fun e => e.1 == x)) then
    ((s.bump t (if late then oHbCplTimeout else oHbOutErr)).raise t (fHbCause (if late then 3 else 2)), none)
  else
    let extra := host.filter (fun e => p.fetch.contains e.1 && !p.map.contains e.1)
    (s.keepPrefetch t who (p.host + n) [] extra, some (p.map.map (byteAt (p.served ++ host))))

/-- An outbound access that is not issued or that fails (R224): a core's cluster receives an access fault at its next round boundary (R340), and a load
of `n` bytes returns all ones; a DMA channel marks its descriptor bad. -/
def Pkg.outFault (s : Pkg) (t : Nat) (who : OutReq) (n status : Nat) : Pkg :=
  match who with
  | .core a =>
    let s := if n = 0 then s else s.deliverRead t who (some (List.replicate n 0xFF#8))
    if a = 0 then
      let c := SMap.get {} s.clusters t
      { s with clusters := SMap.set {} s.clusters t { c with faults := c.faults + 1 } }
    else s
  | .dma ch =>
    let s := s.deliverRead t who none
    let c := SMap.get {} s.dma (t * 16 + ch)
    let job := c.job.map (fun j => if j.bad then j else { j with bad := true, status := status, check := none })
    { s with dma := SMap.set {} s.dma (t * 16 + ch) { c with job := job } }

/-- OUTBOUND_ACCESS (R224). -/
def outboundAccess (tile : Nat) (who : OutReq) (write : Bool) (window offset len : Nat) (data : List Byte) (be : List Bool)
    (at_ : Nat) (s : Pkg) : Pkg :=
  let n := if write then data.length else len
  (s.reach at_).when (s.tileOn tile && decide (window < 16) && decide (0 < n)) (fun s =>
    if s.outRefused tile window offset n then (s.countNoWin tile).outFault tile who (if write then 0 else n) 3
    else if write then s.bridgeWrite tile window offset data be
    else s.bridgeRead tile who window offset n)

/-- A read whose bytes have all come goes to its requester; bytes nobody asked for stay as prefetched ones (R228, R233). -/
def Pkg.finishReads (s : Pkg) (t : Nat) : Pkg :=
  let b := s.bridge t
  let ended (r : OutRead) : Bool := r.todo.isEmpty && r.live.isEmpty
  let done := b.reads.filter ended
  let s := s.setBridge t { b with reads := b.reads.filter (fun r => !ended r) }
  done.foldl (fun s r =>
    if r.failed then s
    else
      let s := s.deliverRead t r.who (some (r.map.map (byteAt r.data)))
      s.keepPrefetch t r.who (r.host + r.map.length) r.dropped (r.data.filter (fun e => !r.map.contains e.1))) s

/-- The read that a tag belongs to fails as a whole (R228): `count` names the counter and cause bit. -/
def Pkg.failRead (s : Pkg) (t tag off cause : Nat) : Pkg :=
  let b := s.bridge t
  match b.reads.find? (fun r => r.live.any (fun p => p.tag == tag)) with
  | none => s
  | some r =>
    let hit (x : OutRead) : Bool := x.live.any (fun p => p.tag == tag)
    let s := s.setBridge t { b with reads := mapIf hit (fun x =>
      { x with failed := true, todo := [], data := [], live := x.live.filter (fun p => p.tag != tag) }) b.reads }
    if r.failed then s else ((s.bump t off).raise t (fHbCause cause)).outFault t r.who r.map.length 1

/-- OUTBOUND_COMPLETION (R228, R224): bytes of a piece come, or the piece fails and with it the whole read. -/
def outboundCompletion (tile tag : Nat) (status : CplStatus) (data : List Byte) (at_ : Nat) (s : Pkg) : Pkg :=
  (s.reach at_).when (s.tileOn tile && s.on tile fHbLink && (s.bridge tile).reads.any (fun r => r.live.any (fun p => p.tag == tag))) (fun s =>
    let s := if status = .sc then
        let b := s.bridge tile
        let hit (x : OutRead) : Bool := x.live.any (fun p => p.tag == tag)
        s.setBridge tile { b with reads := mapIf hit (fun x =>
          match x.live.find? (fun p => p.tag == tag) with
          | none => x
          | some p =>
            let take_ := data.take (p.len - p.got)
            let came := (List.range take_.length).map (fun i => (p.addr + p.got + i, take_.getD i 0))
            { x with data := if x.failed then [] else x.data ++ came,
                     live := if p.len ≤ p.got + take_.length then x.live.filter (fun q => q.tag != tag)
                       else mapIf (fun q => q.tag == tag) (fun q => { q with got := q.got + take_.length }) x.live }) b.reads }
      else s.failRead tile tag oHbOutErr 2
    (s.finishReads tile).issueAll tile)

/-- COMPLETION_TIMEOUT (R224): at the completion timeout of a read piece. -/
def completionTimeout (tile tag : Nat) (s : Pkg) : Pkg :=
  match ((s.bridge tile).reads.flatMap (·.live)).find? (fun p => p.tag == tag) with
  | none => s
  | some p =>
    s.when (s.tileOn tile) (fun s =>
      (((s.reachFrac (p.sent + ns (us (s.bridge tile).cplUs))).failRead tile tag oHbCplTimeout 3).finishReads tile).issueAll tile)

/-- PREFETCH_EXPIRE (R233): the oldest prefetched bytes have been unused for 2 µs. -/
def prefetchExpire (tile : Nat) (s : Pkg) : Pkg :=
  match (s.bridge tile).pf with
  | [] => s
  | p :: rest =>
    s.when (s.tileOn tile) (fun s =>
      let s := s.reachFrac (p.came + ns (us 2))
      (s.setBridge tile { s.bridge tile with pf := rest }).add tile oHbPfDiscard p.bytes.length)

/-! ### The link (R218, R220) -/

/-- PCIE_LINK_UP (R220): SPEED 1 to 4, WIDTH 1, 2 or 4. -/
def pcieLinkUp (tile speed width at_ : Nat) (s : Pkg) : Pkg :=
  (s.reach at_).when
    (s.tileOn tile && !s.on tile fHbLink && decide (1 ≤ speed ∧ speed ≤ 4) && (width == 1 || width == 2 || width == 4)) (fun s =>
    ((s.put tile fHbLink 1).put tile fHbSpeed speed).put tile fHbWidth width)

/-- PCIE_LINK_DOWN (R220): outbound accesses are refused from now on; cause LINK_DOWN. -/
def pcieLinkDown (tile at_ : Nat) (s : Pkg) : Pkg :=
  (s.reach at_).when (s.tileOn tile && s.on tile fHbLink) (fun s => (s.put tile fHbLink 0).raise tile (fHbCause 5))

/-- A completion timeout in µs that ranges A and B hold (R224). PRESUMED: the ranges as the PCIe Base Specification sets them (see the log). -/
def cplRange (us_ : Nat) : Bool :=
  decide (50 ≤ us_ ∧ us_ ≤ 100) || decide (1000 ≤ us_ ∧ us_ ≤ 10000) || decide (16000 ≤ us_ ∧ us_ ≤ 55000) || decide (65000 ≤ us_ ∧ us_ ≤ 210000)

/-- PCIE_CONFIG_WRITE (R218, R224): Bus Master Enable, Max_Payload_Size, Max_Read_Request_Size and the completion timeout, which stays where the
endpoint does not support the one written. -/
def pcieConfigWrite (tile : Nat) (bme : Bool) (mps mrrs cplTimeoutUs at_ : Nat) (s : Pkg) : Pkg :=
  (s.reach at_).when (s.tileOn tile && s.on tile fHbLink && decide (mps ≤ 2) && decide (mrrs ≤ 5)) (fun s =>
    let s := ((s.put tile fHbBme (bit bme)).put tile fHbMps mps).put tile fHbMrrs mrrs
    if cplRange cplTimeoutUs then s.setBridge tile { s.bridge tile with cplUs := cplTimeoutUs } else s)

/-! ### Inbound BAR2 (R222) -/

/-- The window and local address each byte of a BAR2 access resolves to, in the order of the access. -/
def Pkg.bar2Map (s : Pkg) (t off n : Nat) : List (Option Nat) :=
  (List.range n).map (fun i => (s.inWindow t (off + i)).map (fun w =>
    s.inLocal t w ((laneMap (s.inLanes t w) off n).getD i 0)))

/-- A BAR2 access counts a lane fault in the window of its first byte, and IN_NO_WIN once if a byte of it has no window (R222, R226). -/
def Pkg.bar2Count (s : Pkg) (t off n : Nat) : Pkg :=
  let s := match s.inWindow t off with | some w => s.laneCount t (s.inLanes t w) off n | none => s
  if (s.bar2Map t off n).any Option.isNone then (s.bump t oHbInNoWin).raise t (fHbCause 0) else s

/-- The completion of a BAR2 read leaves behind the reads of BAR0 that came before it for the same die, and before those that come after (R229): it
waits where the last of them waits, at the home die or at the tile's port. -/
def Pkg.bar2Reply (s : Pkg) (t : Nat) (d : List Byte) : Pkg :=
  let r : Req := { die := t, agent := 1 }
  let mine (h : HeldAcc) : Bool := h.req == r && addrDie h.addr == t && (match h.kind with | .write _ _ => false | _ => true)
  let h : HeldAcc := { req := r, addr := pkgAddr t 0, kind := .bar2 d }
  if (s.reqSt r).held.any mine then s.setReqSt r { s.reqSt r with held := (s.reqSt r).held ++ [h] }
  else if (s.queueAt t).any mine then s.setQueueAt t (s.queueAt t ++ [h])
  else s.emit (.bar2Completion t d)

/-- BAR2_ACCESS (R222, R224, R229): a read returns its bytes, 0xFF where no window covers them. A poisoned write is discarded, whichever BAR it names. -/
def bar2Access (tile : Nat) (write : Bool) (offset len : Nat) (data : List Byte) (be : List Bool) (poisoned : Bool) (at_ : Nat)
    (s : State) : State :=
  let n := if write then data.length else len
  let p := s.pkg.reach at_
  if !(p.tileOn tile && p.on tile fHbLink && decide (0 < n)) then { s with pkg := p }
  else if write && poisoned then { s with pkg := (p.bump tile oHbInPoisoned).raise tile (fHbCause 4) }
  else if !inBar 2 offset n then { s with pkg := p }
  else
    let m := p.bar2Map tile offset n
    let p := p.bar2Count tile offset n
    let reachable (a : Nat) : Bool := p.local tile a == .byte
    if write then
      let mem := ((m.zip data).zip be).foldl (fun mem e => match e.1.1 with
        | some a => if e.2 && reachable a then Mem.set mem tile a e.1.2 else mem
        | none => mem) s.mem
      { s with pkg := p, mem := mem }
    else
      { s with pkg := p.bar2Reply tile (m.map (fun
        | some a => if reachable a then s.mem.get tile a else 0xFF#8
        | none => 0xFF#8)) }

end Sys2Proof.Machine
end

