-- ==== Sys2Proof/Machine/Check.lean ====
section
/-! DEFINITION. Chapter 8: the check-value units (R250, R257–R260). -/
namespace Sys2Proof.Machine

/-- The first word of check unit u, and its registers (Table 8-8). -/
def ckBase (u : Nat) : Nat := 0x1C00000 + 0x40 * u
def fCkPoly : Fld := ⟨0x1C00000, 2, 0⟩
def fCkRefin : Fld := ⟨0x1C00000, 3, 3⟩
def fCkRefout : Fld := ⟨0x1C00000, 4, 4⟩
def fCkAttachCh : Fld := ⟨0x1C00000, 8, 5⟩
def fCkAttachEn : Fld := ⟨0x1C00000, 9, 9⟩
def fCkTrestle : Fld := ⟨0x1C00000, 31, 31⟩
def fCkBusy : Fld := ⟨0x1C00030, 0, 0⟩
def fCkCollide : Fld := ⟨0x1C00030, 1, 1⟩
def oCkCollides : Nat := 0x1C00038

/-- A field of unit u. -/
def Fld.ck (f : Fld) (u : Nat) : Fld := f.at u 0x40

/-- The width of a unit's polynomial, and its parameters as its registers give them (R257). -/
def Pkg.ckPar (s : Pkg) (t u : Nat) : CrcPar :=
  let row := crcPreset (s.get t (fCkPoly.ck u))
  let cut (v : Nat) : Nat := v % 2 ^ row.width
  { width := row.width, poly := row.poly, init := cut (s.rd64 t (ckBase u + 4)), refin := s.on t (fCkRefin.ck u),
    refout := s.on t (fCkRefout.ck u), xorout := cut (s.rd64 t (ckBase u + 0xC)) }

/-- CK_VALUE: the raw running value; bits above the width read 0 (R257). -/
def Pkg.ckValue (s : Pkg) (t u : Nat) : Nat := s.rd64 t (ckBase u + 0x14) % 2 ^ (s.ckPar t u).width
def Pkg.setCkValue (s : Pkg) (t u v : Nat) : Pkg := s.wr64 t (ckBase u + 0x14) (v % 2 ^ (s.ckPar t u).width)

/-- CK_RESULT (R258). -/
def Pkg.ckResult (s : Pkg) (t u : Nat) : Nat := crcResult (s.ckPar t u) (s.ckValue t u)

/-- Feed bytes in ascending order (R258). -/
def Pkg.ckTake (s : Pkg) (t u : Nat) (bs : List Byte) : Pkg := s.setCkValue t u (bs.foldl (crcByte (s.ckPar t u)) (s.ckValue t u))

/-- A write of CK_VALUE, CK_FEED or CK_CMD while BUSY is discarded (R260). -/
def Pkg.ckIdle (s : Pkg) (t u : Nat) (f : Pkg → Pkg) : Pkg :=
  if s.on t (fCkBusy.ck u) then (s.raise t (fCkCollide.ck u)).bump t (oCkCollides + 0x40 * u) else f s

/-- CK_FEED: four bytes, byte 0 first; CK_FEED_B: one byte (R258). -/
def ckFeedEff (tile u : Nat) (value : Word) (s : Pkg) : Pkg := s.ckIdle tile u (fun s => s.ckTake tile u (leBytes 4 value.toNat))
def ckFeedBEff (tile u : Nat) (value : Word) (s : Pkg) : Pkg := s.ckIdle tile u (fun s => s.ckTake tile u (leBytes 1 value.toNat))

/-- CK_CMD.RESTART (R258): the running value becomes INIT. -/
def ckRestartEff (tile u : Nat) (s : Pkg) : Pkg := s.ckIdle tile u (fun s => s.setCkValue tile u (s.ckPar tile u).init)

/-- CK_CMD.PRESET (R257): the row of Table 8-4 that POLY names. On a unit of the trestle it would write the configuration, which is out of
shape (R257). -/
def ckPresetEff (r : Req) (tile u : Nat) (s : Pkg) : Pkg :=
  if s.on tile (fCkTrestle.ck u) then s.cfgErr r tile cOutOfShape (pkgAddr tile (ckBase u + 0x2C))
  else s.ckIdle tile u (fun s =>
    let p := crcPreset (s.get tile (fCkPoly.ck u))
    let s := (s.put tile (fCkRefin.ck u) (bit p.refin)).put tile (fCkRefout.ck u) (bit p.refout)
    (s.wr64 tile (ckBase u + 4) p.init).wr64 tile (ckBase u + 0xC) p.xorout)

/-- A write of CK_CMD: PRESET takes effect before RESTART. -/
def ckCmdEff (r : Req) (tile u : Nat) (value : Word) (s : Pkg) : Pkg :=
  let s := if value.getLsbD 1 then ckPresetEff r tile u s else s
  if value.getLsbD 0 then ckRestartEff tile u s else s

/-- The bits a unit's width leaves of a word of CK_INIT, CK_XOROUT or CK_VALUE: bits above the width read 0 and ignore writes (R257). -/
def Pkg.ckBits (s : Pkg) (t u : Nat) (high : Bool) : Word :=
  BitVec.ofNat 32 ((2 ^ (s.ckPar t u).width - 1) / (if high then 2 ^ 32 else 1))

/-- The offset holds a word of CK_INIT or CK_XOROUT: the unit, and whether it is the high word. -/
def ckWide (off : Nat) : Option (Nat × Bool) :=
  if 0x1C00000 ≤ off ∧ off < 0x1C00200 ∧ 4 ≤ off % 0x40 ∧ off % 0x40 < 0x14 then some ((off - 0x1C00000) / 0x40, off % 0x40 / 4 % 2 == 0) else none

/-- CK_VALUE (R260): a write of VALUE_LO is staged, a write of VALUE_HI loads both words; a byte not enabled keeps its value (R221). -/
def ckValueLoadEff (tile u : Nat) (high : Bool) (value : Word) (be : Nat) (s : Pkg) : Pkg :=
  s.ckIdle tile u (fun s =>
    let k := tile * 8 + u
    let lo := SMap.get (s.rd tile (ckBase u + 0x14)) s.ckLow k
    if high then s.setCkValue tile u (lo.toNat + (byteMerge be (s.rd tile (ckBase u + 0x18)) value).toNat * 2 ^ 32)
    else { s with ckLow := SMap.insertSorted k (byteMerge be lo value) (SMap.erase k s.ckLow) })

/-- Attaching this unit with these settings is in shape (R259): no other unit is attached to the channel, and the channel's kind is not
UNUSED. -/
def Pkg.ckAttachOk (s : Pkg) (t u ch : Nat) : Bool :=
  s.get t ⟨0x1A00000 + 0x100 * ch, 2, 0⟩ != 0 &&
  (List.range 8).all (fun v => v == u || !(s.on t (fCkAttachEn.ck v) && s.get t (fCkAttachCh.ck v) == ch))

/-- The unit attached to a channel (R259). -/
def Pkg.ckOf (s : Pkg) (t ch : Nat) : Option Nat :=
  (List.range 8).find? (fun u => s.on t (fCkAttachEn.ck u) && s.get t (fCkAttachCh.ck u) == ch)

end Sys2Proof.Machine
end

