-- ==== Sys2Proof/Machine/Pods.lean ====
section
/-! DEFINITION. Chapter 8: pods, their owners, reserves and refusals (R251–R256). -/
namespace Sys2Proof.Machine

/-- Registers of pool p, and of the pod (Table 8-7). -/
def podBase (p : Nat) : Nat := 0x1B00000 + 0x20 * p
def fPoolCount : Fld := ⟨0x1B00000, 23, 0⟩
def fPoolExp : Fld := ⟨0x1B00000, 27, 24⟩
def fPoolPresent : Fld := ⟨0x1B00000, 31, 31⟩
def fPoolLow : Fld := ⟨0x1B00010, 23, 0⟩
def oPdEmpty : Nat := 0x1B00018
def oPdErr : Nat := 0x1B00800
def oPdErrCnt : Nat := 0x1B00880

def Fld.pool (f : Fld) (p : Nat) : Fld := f.at p 0x20

/-- EMPTY (R251). -/
def podEmpty : Word := 0xFFFFFFFF#32

/-- The key of the buffer a handle names; the first key of a pool. -/
def podKey (tile handle : Nat) : Nat := tile * 2 ^ 30 + handle
def podFirst (tile pool : Nat) : Nat := podKey tile (pool * 2 ^ 24)

/-- A buffer, if it is out of its pool. -/
def Pkg.pod (s : Pkg) (tile handle : Nat) : Option Pod := SMap.get none s.pods (podKey tile handle)
def Pkg.setPod (s : Pkg) (tile handle : Nat) (x : Option Pod) : Pkg :=
  { s with pods := SMap.set none s.pods (podKey tile handle) x }

/-- The buffers of a pool that are out, as index and state, in ascending order. -/
def Pkg.podsOut (s : Pkg) (tile pool : Nat) : List (Nat × Pod) :=
  (s.pods.filter (fun e => e.1 / 2 ^ 24 == podFirst tile pool / 2 ^ 24)).filterMap (fun e => e.2.map (fun b => (e.1 % 2 ^ 24, b)))

/-- FREE: buffers in the pool (Table 8-7). -/
def Pkg.podFree (s : Pkg) (tile pool : Nat) : Nat := s.get tile (fPoolCount.pool pool) - (s.podsOut tile pool).length

/-- BASE, and the address of a buffer (R251). -/
def Pkg.podAddr (s : Pkg) (tile handle : Nat) : Nat :=
  s.rd64 tile (podBase (handle / 2 ^ 24) + 4) + (handle % 2 ^ 24) * 2 ^ s.get tile (fPoolExp.pool (handle / 2 ^ 24))

/-- The unmet reserve of slot n of a pool (R254). -/
def Pkg.podUnmet (s : Pkg) (tile pool n : Nat) : Nat × Nat :=
  let w := s.rd tile (0x1B00C00 + 0x10 * pool + 4 * n)
  let r := fieldGet w 31 24
  (r, fieldGet w 23 0 - ((s.podsOut tile pool).filter (fun e => e.2.by_ == r)).length)

/-- An ALLOC by this owner succeeds (R254): the free count exceeds the unmet reserves of every other slot owner. -/
def Pkg.podMay (s : Pkg) (tile owner pool : Nat) : Bool :=
  let others := ((List.range 4).map (s.podUnmet tile pool)).filter (fun e => e.1 != owner)
  decide ((others.map (·.2)).foldl (· + ·) 0 < s.podFree tile pool)

/-- The k-th index that is free, given those that are out in ascending order. -/
def kthFree (k : Nat) (out_ : List Nat) : Nat := out_.foldl (fun i a => if a ≤ i then i + 1 else i) k

/-- Set the bit of a pool in PD_EVT_LOW (0) or PD_EVT_EMPTY (1) (R256). -/
def Pkg.podEvent (s : Pkg) (tile which pool : Nat) : Pkg :=
  s.raise tile ⟨0x1B00840 + 8 * which + 4 * (pool / 32), pool % 32, pool % 32⟩

/-- Allocate a buffer (R252, R254, R256): the handle, or EMPTY. Which free buffer comes is a free value. -/
def Pkg.podAlloc (s : Pkg) (tile owner pool : Nat) : Pkg × Word :=
  if s.podMay tile owner pool then
    let i := kthFree (Config.freeWord s.fresh % s.podFree tile pool) ((s.podsOut tile pool).map (·.1))
    let h := pool * 2 ^ 24 + i
    let s := (s.tookFree 1).setPod tile h (some { by_ := owner, owners := [owner] })
    (if s.podFree tile pool ≤ s.get tile (fPoolLow.pool pool) then s.podEvent tile 0 pool else s, BitVec.ofNat 32 h)
  else ((s.bump tile (oPdEmpty + 0x20 * pool)).podEvent tile 1 pool, podEmpty)

/-- Record a refusal (R253). -/
def Pkg.podErr (s : Pkg) (tile owner agent code : Nat) (handle : Word) : Pkg :=
  let s := s.bump tile (oPdErrCnt + 8 * code)
  if s.on tile ⟨oPdErr, 31, 31⟩ then s.raise tile ⟨oPdErr, 30, 30⟩
  else ((((s.put tile ⟨oPdErr, 2, 0⟩ code).put tile ⟨oPdErr, 11, 4⟩ owner).put tile ⟨oPdErr, 15, 12⟩ agent).wr tile (oPdErr + 4)
    handle).raise tile ⟨oPdErr, 31, 31⟩

/-- An agent may act for an owner (R251): the DMA engine for owners 0–15, the cluster for 16, the agents the image binds for 32–255. -/
def Pkg.podBound (s : Pkg) (tile owner agent : Nat) : Bool :=
  if owner < 16 then agent == 4
  else if owner = 16 then agent == 0
  else if owner < 32 then false
  else (s.rd tile (0x1B01800 + 4 * owner)).getLsbD agent && agent < 12

/-- The pool a number names exists. -/
def Pkg.poolThere (s : Pkg) (tile pool : Nat) : Bool := pool < 64 && s.on tile (fPoolPresent.pool pool)

/-- The handle names a buffer (R251, R253 code 6). -/
def Pkg.podNamed (s : Pkg) (tile : Nat) (h : Word) : Bool :=
  fieldGet h 31 30 == 0 && s.poolThere tile (fieldGet h 29 24) &&
  decide (fieldGet h 23 0 < s.get tile (fPoolCount.pool (fieldGet h 29 24)))

/-- ALLOC (R252): the answer to the read. A refused one returns EMPTY as well, and sets the pool's bit in PD_EVT_EMPTY (R253, R256). -/
def Pkg.allocEff (s : Pkg) (tile owner pool agent : Nat) : Pkg × Word :=
  if !s.podBound tile owner agent then ((s.podErr tile owner agent 5 podEmpty).podEvent tile 1 pool, podEmpty)
  else if !s.poolThere tile pool then ((s.podErr tile owner agent 6 podEmpty).podEvent tile 1 pool, podEmpty)
  else s.podAlloc tile owner pool

/-- What SHARE, RELEASE and FREE check before their own rule (R253): the code of the refusal, or the buffer. -/
def Pkg.podCheck (s : Pkg) (tile owner agent : Nat) (h : Word) : Nat × Option Pod :=
  if !s.podBound tile owner agent then (5, none)
  else if !s.podNamed tile h then (6, none)
  else match s.pod tile h.toNat with
    | none => (1, none)
    | some b => if b.owners.contains owner then (0, some b) else (2, none)

/-- SHARE (R252). -/
def shareEff (tile owner other agent : Nat) (h : Word) (s : Pkg) : Pkg :=
  match s.podCheck tile owner agent h with
  | (_, some b) =>
    if b.owners.contains other then s.podErr tile owner agent 7 h
    else if 8 ≤ b.owners.length then s.podErr tile owner agent 4 h
    else s.setPod tile h.toNat (some { b with owners := b.owners ++ [other] })
  | (c, none) => s.podErr tile owner agent c h

/-- Remove an owner; the last release returns the buffer (R252). -/
def Pkg.podDrop (s : Pkg) (tile owner : Nat) (h : Word) (b : Pod) : Pkg :=
  let left := b.owners.filter (· != owner)
  s.setPod tile h.toNat (if left.isEmpty then none else some { b with owners := left })

/-- RELEASE (R252). -/
def releaseEff (tile owner agent : Nat) (h : Word) (s : Pkg) : Pkg :=
  match s.podCheck tile owner agent h with
  | (_, some b) => s.podDrop tile owner h b
  | (c, none) => s.podErr tile owner agent c h

/-- FREE (R252, R253). -/
def freeEff (tile owner agent : Nat) (h : Word) (s : Pkg) : Pkg :=
  match s.podCheck tile owner agent h with
  | (_, some b) => if 2 ≤ b.owners.length then s.podErr tile owner agent 3 h else s.setPod tile h.toNat none
  | (c, none) => s.podErr tile owner agent c h

/-- The handle of the buffer of a pool that contains a local address (R248). -/
def Pkg.podAt (s : Pkg) (tile a : Nat) : Option Nat :=
  (List.range 64).findSome? (fun p =>
    if s.poolThere tile p then
      let base := s.rd64 tile (podBase p + 4)
      let size := 2 ^ s.get tile (fPoolExp.pool p)
      if base ≤ a ∧ (a - base) / size < s.get tile (fPoolCount.pool p) then some (p * 2 ^ 24 + (a - base) / size) else none
    else none)

end Sys2Proof.Machine
end

