-- ==== Sys2Proof/Machine/Dma.lean ====
section
/-! DEFINITION. Chapter 8: the registers of the DMA channels (R239, R240, R246, R247). -/
namespace Sys2Proof.Machine

/-- DM registers of channel c (Table 8-6). -/
def dmBase (c : Nat) : Nat := 0x1A00000 + 0x100 * c
def fDmKind : Fld := ⟨0x1A00000, 2, 0⟩
def fDmQueues : Fld := ⟨0x1A00000, 15, 8⟩
def fDmEnable : Fld := ⟨0x1A00000, 16, 16⟩
def fDmErrHalt : Fld := ⟨0x1A00000, 17, 17⟩
def fDmRingExp : Fld := ⟨0x1A0000C, 3, 0⟩
def fDmHead : Fld := ⟨0x1A00010, 11, 0⟩
def fDmTail : Fld := ⟨0x1A00014, 11, 0⟩
def fDmHalted : Fld := ⟨0x1A00018, 1, 1⟩
def fDmStarved : Fld := ⟨0x1A00018, 2, 2⟩
def fDmRingErr : Fld := ⟨0x1A00018, 3, 3⟩
def oDmDesc : Nat := 0x1A00040
def oDmBytes : Nat := 0x1A00048
def oDmBad : Nat := 0x1A00050
def oDmOverlaps : Nat := 0x1A00058

/-- Bit n of DM_CH_CAUSE: 0 DONE, 1 BAD, 2 HALT, 3 STARVE. -/
def fDmCause (n : Nat) : Fld := ⟨0x1A00020, n, n⟩

/-- A field of channel c. -/
def Fld.ch (f : Fld) (c : Nat) : Fld := f.at c 0x100

def Pkg.dmaCh (s : Pkg) (t c : Nat) : DmaCh := SMap.get {} s.dma (t * 16 + c)
def Pkg.setDmaCh (s : Pkg) (t c : Nat) (x : DmaCh) : Pkg := { s with dma := SMap.set {} s.dma (t * 16 + c) x }

/-- KIND: 0 UNUSED, 1 MEM, 2 TX, 3 RX, 4 ANALYSIS (R239). -/
def Pkg.dmKind (s : Pkg) (t c : Nat) : Nat := s.get t (fDmKind.ch c)

/-- RUNNING: the channel is enabled and not halted (Table 8-6). -/
def Pkg.dmRunning (s : Pkg) (t c : Nat) : Bool := s.dmKind t c != 0 && s.on t (fDmEnable.ch c) && !s.on t (fDmHalted.ch c)

/-- Descriptors of the ring (R240). -/
def Pkg.dmRing (s : Pkg) (t c : Nat) : Nat := 2 ^ s.get t (fDmRingExp.ch c)
def Pkg.dmHead (s : Pkg) (t c : Nat) : Nat := s.get t (fDmHead.ch c) % s.dmRing t c
def Pkg.dmTail (s : Pkg) (t c : Nat) : Nat := s.get t (fDmTail.ch c) % s.dmRing t c

/-- The local address of the descriptor at HEAD (R240). -/
def Pkg.dmDesc (s : Pkg) (t c : Nat) : Nat := s.rd64 t (dmBase c + 4) + 64 * s.dmHead t c

/-- The channel may take the descriptor at HEAD (R240). -/
def Pkg.dmReady (s : Pkg) (t c : Nat) : Bool :=
  s.dmRunning t c && !(s.dmaCh t c).stuck && (s.dmaCh t c).job.isNone && s.dmHead t c != s.dmTail t c

/-- HEAD moves past a descriptor (R240). -/
def Pkg.dmAdvance (s : Pkg) (t c : Nat) : Pkg := s.put t (fDmHead.ch c) ((s.dmHead t c + 1) % s.dmRing t c)

/-- The channel halts: HALTED and cause HALT. -/
def Pkg.dmHalt (s : Pkg) (t c : Nat) : Pkg := (s.put t (fDmHalted.ch c) 1).raise t ((fDmCause 2).ch c)

/-- A write of TAIL (R240): it adds descriptors, and a channel that OWN = 0 had stopped looks again. -/
def tailEff (tile ch : Nat) (value : Word) (s : Pkg) : Pkg :=
  let s := s.put tile (fDmTail.ch ch) (value.toNat % 4096)
  s.setDmaCh tile ch { s.dmaCh tile ch with stuck := false }

/-- DM_CH_CMD.STOP (R247): a descriptor in progress is written back ABORTED and the channel then halts; with none it halts at once. -/
def stopEff (tile ch : Nat) (s : Pkg) : Pkg :=
  if s.dmKind tile ch = 0 then s
  else
    let c := s.dmaCh tile ch
    match c.job with
    | some j =>
      let j := if j.bad then j else { j with bad := true, status := 7, check := none }
      s.setDmaCh tile ch { c with stop := true, job := some j }
    | none => s.dmHalt tile ch

/-- DM_CH_CMD.RESUME (R247). -/
def resumeEff (tile ch : Nat) (s : Pkg) : Pkg :=
  if s.dmKind tile ch = 0 then s else (s.put tile (fDmHalted.ch ch) 0).put tile (fDmRingErr.ch ch) 0

/-- A write of DM_CH_CMD: with both bits, RESUME takes effect before STOP. -/
def dmCmdEff (tile ch : Nat) (value : Word) (s : Pkg) : Pkg :=
  let s := if value.getLsbD 0 then resumeEff tile ch s else s
  if value.getLsbD 1 then stopEff tile ch s else s

end Sys2Proof.Machine
end

