-- ==== Sys2Proof/Machine/Flags.lean ====
section
/-! DEFINITION. The flag computations of the package: the summary bits of the MSI-X vectors as Table 7-7 gives them, and the messages an endpoint
sends (R235). -/
namespace Sys2Proof.Machine

/-- The cause of a vector, as far as registers hold it (Table 7-7). A cause on the sentinel is seen while a path joins it to the tile (R24). Vectors 25 (no cause is defined) and 30 have none here. -/
def Pkg.vecCause (s : Pkg) (t v : Nat) : Bool :=
  match v with
  | 0 => s.rd t 0x1800104 != 0
  | 1 => s.get t ⟨0x200030, 5, 4⟩ != 0
  | 2 => s.on t fMerrValid
  | 3 => s.on t ⟨0x200070, 31, 31⟩ || (t == s.steward && s.on 15 ⟨0x70, 31, 31⟩ && s.pathUp 15 t)
  | 4 => s.get t ⟨0x800020, 27, 0⟩ != 0
  | 5 => !(SMap.get [] s.sw.stamps t).isEmpty
  | 6 => s.on t ⟨0x10000C, 2, 2⟩
  | 7 => 2048 ≤ (4096 + s.get t ⟨0xC00018, 11, 0⟩ - s.get t ⟨0xC00018, 27, 16⟩) % 4096
  | 24 => (List.range 4).any (fun i => s.rd t (0x1B00840 + 4 * i) != 0)
  | 26 => s.get t ⟨0x1D00014, 7, 0⟩ != 0
  | 27 => s.cenReq.told && s.cenReq.tile == t && s.on t ⟨0x1E00018, 2, 2⟩
  | 28 => s.get t ⟨0x1E00104, 18, 17⟩ != 0 || (t == 0 && s.get t ⟨0x1F00040, 4, 0⟩ != 0)
  | 29 => s.get t ⟨0x2100030, 5, 0⟩ != 0
  | 31 => s.get 15 ⟨0x30084, 2, 0⟩ != 0 && s.pathUp 15 t
  | _ =>
    if 8 ≤ v ∧ v < 24 then
      (s.rd t (0x1A00020 + 0x100 * (v - 8)) &&& s.rd t (0x1A00024 + 0x100 * (v - 8)) &&& 0xF#32) != 0
    else false

/-- All causes of a tile as bits. -/
def Pkg.vecCauses (s : Pkg) (t : Nat) : Word :=
  BitVec.ofNat 32 (((List.range 32).filter (s.vecCause t)).foldl (fun a v => a + 2 ^ v) 0)

/-- A vector's mask bit, and its message address and data (R235, PCIe format). -/
def msixOff (v : Nat) : Nat := 0x1801000 + 16 * v
def Pkg.vecMasked (s : Pkg) (t v : Nat) : Bool := (s.rd t (msixOff v + 12)).getLsbD 0
def Pkg.vecMask (s : Pkg) (t : Nat) : Word :=
  BitVec.ofNat 32 (((List.range 32).filter (s.vecMasked t)).foldl (fun a v => a + 2 ^ v) 0)
def Pkg.vecMessage (s : Pkg) (t v : Nat) : OutEv := .msix t v (s.rd64 t (msixOff v)) (s.rd t (msixOff v + 8))

/-- The MSI-X logic of one endpoint (R235): a rising summary sends its message, or sets the pending bit while its vector is masked; a pending
vector that is unmasked sends if its summary is still 1; a pending bit falls with its summary. A cause that is an event lasts until
its message is sent. -/
def Pkg.settleTile (s : Pkg) (t : Nat) : Pkg :=
  let m := SMap.get {} s.msix t
  let on_ := s.vecCauses t ||| m.events
  let mask := s.vecMask t
  let due := (on_ &&& ~~~m.summary) ||| (m.pending &&& on_)
  let send := due &&& ~~~mask
  let left := m.events &&& mask
  let m' : MsixSt := { summary := s.vecCauses t ||| left, pending := due &&& mask, events := left }
  { s with msix := SMap.set {} s.msix t m', out := s.out ++ ((List.range 32).filter (fun v => send.getLsbD v)).map (s.vecMessage t) }

/-- The MSI-X logic of every powered tile. -/
def Pkg.settle (s : Pkg) : Pkg := s.onEach s.powered (fun t s => s.settleTile t)

/-- After a W1C write to a cause register of a vector, the vector sends again if its summary is still 1 (R235). -/
def Pkg.rearm (s : Pkg) (t v : Nat) : Pkg :=
  let m := SMap.get {} s.msix t
  { s with msix := SMap.set {} s.msix t { m with summary := m.summary &&& ~~~ BitVec.ofNat 32 (2 ^ v) } }

end Sys2Proof.Machine
end

