-- ==== Sys2Proof/Machine/Restart.lean ====
section
/-! DEFINITION. What a tile loses with its run power: everything on a cold start; on the way into retention everything but structure, tables and firmware
(Table 10-1). -/
namespace Sys2Proof.Machine

/-- Keep the entries whose keys satisfy a test. -/
def SMap.keep {α : Type} (p : Nat → Bool) (m : SMap α) : SMap α := m.filter (fun e => p e.1)

/-- Frames, copies and queues of a tile are gone. -/
def Pkg.clearTraffic (s : Pkg) (t : Nat) : Pkg :=
  let other (k n : Nat) : Bool := n / k != t
  s.onSw (fun w =>
    { w with frames := w.frames.filter (fun e => e.2.tile != t), acct := SMap.keep (other 256) w.acct
             spanUse := SMap.keep (other 256) w.spanUse, spanHeld := SMap.keep (other 256) w.spanHeld, pool := SMap.keep (· != t) w.pool
             waitIn := w.waitIn.filter (fun x => x.tile != t), recirc := w.recirc.filter (fun x => x.tile != t)
             waiting := w.waiting.filter (fun c => c.tile != t), queues := SMap.keep (other 256) w.queues
             queueSt := SMap.keep (other 256) w.queueSt, draws := SMap.keep (· != t) w.draws, spanTurn := SMap.keep (other 32) w.spanTurn, ports := SMap.keep (other 32) w.ports, stamps := SMap.keep (· != t) w.stamps
             starved := SMap.keep (other 256) w.starved, got := w.got.filter (fun d => d.tile != t)
             sampWas := SMap.keep (· != t) w.sampWas, sampAdv := SMap.keep (· != t) w.sampAdv
             frags := SMap.keep (other 1024) w.frags, mirSeen := SMap.keep (other 16) w.mirSeen })

/-- Its requesters' accesses, its bridge, channels, key caches, trestle and journal queue are gone (R371), and so is its part in a commit or a
census. -/
def Pkg.clearEngines (s : Pkg) (t : Nat) : Pkg :=
  let other (k n : Nat) : Bool := n / k != t
  { s with reqs := SMap.keep (other 16) s.reqs, portQ := SMap.keep (· != t) s.portQ, portTurn := SMap.keep (other 8) s.portTurn, spans := SMap.keep (other 8) s.spans
           tethers := SMap.keep (· != t) s.tethers, clocks := SMap.keep (· != t) s.clocks, ksTile := SMap.keep (· != t) s.ksTile
           macKeys := SMap.keep (· != t) s.macKeys, trKeys := SMap.keep (· != t) s.trKeys, lease := SMap.keep (· != t) s.lease
           trestles := SMap.keep (· != t) s.trestles, bridges := SMap.keep (· != t) s.bridges, dma := SMap.keep (other 16) s.dma
           clusters := SMap.keep (· != t) s.clusters, cens := SMap.keep (· != t) s.cens, jnl := SMap.keep (· != t) s.jnl
           msix := SMap.keep (· != t) s.msix }

/-- Registers, table memories, counters, pods and byte memories of a tile return to their reset values. -/
def Pkg.clearRegs (s : Pkg) (t : Nat) : Pkg :=
  let other (k n : Nat) : Bool := n / k != t
  let off (m : SMap Word) : SMap Word := m.filter (fun e => addrDie e.1 != t)
  let s := s.onSw (fun w =>
    { w with ctFin := SMap.keep (other 65536) w.ctFin, meters := SMap.keep (other 1024) w.meters, recov := SMap.keep (other 256) w.recov })
  { s with regs := off s.regs, shadow := off s.shadow, latch := off s.latch, ctr := s.ctr.filter (fun e => addrDie e.1 != t)
           pods := SMap.keep (other (2 ^ 30)) s.pods, ckLow := SMap.keep (other 8) s.ckLow, wipe := t :: s.wipe }

/-- The live status a retained tile does not keep: links, spans, lock, commit state (Table 10-1). -/
def Pkg.clearLive (s : Pkg) (t : Nat) : Pkg :=
  let s := (List.range 28).foldl (fun s p => s.put t (fLinkUp p) 0) s
  let s := (List.range 6).foldl (fun s p => s.put t (fSpanState.at p 0x40) 0) s
  let s := ((s.put t ⟨0x10000C, 0, 0⟩ 0).put t fKsState 0).put t ⟨0x200030, 2, 2⟩ 0
  (s.put t fHbLink 0).put t fLeaseOk 0

/-- The storage keeper's volatile state is lost with tile 0: records not yet durable, a read-out (R371). What is on the NAND stays, and so does the work
that is due. -/
def Pkg.keeperLost (s : Pkg) : Pkg :=
  { s with keeper := { s.keeper with first := none, buf := [], times := [], written := 0, busy := false, rd := none, second := 0, inSec := 0 } }

/-- A tile loses its run rails; `cold`: nothing is retained. -/
def Pkg.tileDown (s : Pkg) (cold : Bool) (t : Nat) : Pkg :=
  let s := (s.clearTraffic t).clearEngines t
  if cold then (if t = 0 then s.keeperLost else s).clearRegs t else s.clearLive t

/-- The cold bits of a die that were written in PROVISION take effect at its restart (R17). -/
def Pkg.takeCold (s : Pkg) (die : Nat) : Pkg :=
  let mine := s.coldNext.filter (fun e => addrDie e.1 == die)
  let s := mine.foldl (fun s e => s.wr die (addrOff e.1) ((s.rd die (addrOff e.1) &&& ~~~ e.2.1) ||| e.2.2)) s
  { s with coldNext := s.coldNext.filter (fun e => addrDie e.1 != die) }

/-- The time reference loads its count from the sentinel, another tile from the reference once that runs (R44, R48). -/
def Pkg.loadCount (s : Pkg) (t : Nat) : Pkg :=
  s.setClockSt t { off := (s.count (if t != s.ref && s.tileOn s.ref then s.ref else 15) : Int) - s.now }

/-- A tile's run rails are up: it takes its cold bits and its count, its spans train, the reference is locked to itself (R17, R28, R44, R48). -/
def Pkg.tileUp (s : Pkg) (t : Nat) : Pkg :=
  let s := (s.takeCold t).loadCount t
  let s := (List.range 6).foldl (fun s p => if (spanPeer s.variant t p).isSome then s.put t (fSpanState.at p 0x40) 1 else s) s
  let s := s.put t fMsRvSeq (s.get 15 fRvSeq)
  if t = s.ref then (s.put t ⟨0x10000C, 0, 0⟩ 1).put t ⟨0x10000C, 1, 1⟩ 1 else s

/-- The tiles of a list lose their run rails. -/
def Pkg.tilesDown (s : Pkg) (cold : Bool) (l : List Nat) : Pkg :=
  let s := l.foldl (fun s t => (s.tileDown cold t).put 15 fTilesOn (s.get 15 fTilesOn - (if (s.get 15 fTilesOn).testBit t then 2 ^ t else 0))) s
  { s with ks := { s.ks with active := s.ks.active && !l.contains s.ks.tile, tiles := s.ks.tiles.filter (fun t => !l.contains t) } }

end Sys2Proof.Machine
end

