-- ==== Sys2Proof/Machine/Power.lean ====
section
/-! DEFINITION. Supplies and resets: the run rails, the reset row of Table 10-2, what a restart does to grants, vault and line, a rail power-up and
power-down (R295, R401–R406). -/
namespace Sys2Proof.Machine

/-! ### Registers (Tables 10-7, 15-12) -/

def fPwParts : Fld := ⟨0x60008, 6, 0⟩
def fDebugReq : Fld := ⟨0x60010, 1, 0⟩
def fDebugRefused : Fld := ⟨0x60010, 30, 30⟩
def fRailFault : Fld := ⟨0x60014, 0, 0⟩
def fPwEn (g : Nat) : Fld := ⟨0x60200, g, g⟩
def fPwPg (g : Nat) : Fld := ⟨0x60200, 5 + g, 5 + g⟩
def fBatLow : Fld := ⟨0x60200, 10, 10⟩
def fVstbyOn : Fld := ⟨0x60200, 11, 11⟩
def fThermShut (t : Nat) : Fld := ⟨0x60200, 12 + t, 12 + t⟩
def fInh (n : Nat) : Fld := ⟨0x60200, 19 + n, 19 + n⟩
def fBatMv : Fld := ⟨0x60204, 15, 0⟩
def fVstbyMv : Fld := ⟨0x60204, 31, 16⟩
def oBatLowEvents : Nat := 0x60240
def oRailFaults : Nat := 0x60248
def oThermShutdowns : Nat := 0x60250

/-- The parked modes. -/
def parkedMode (m : Nat) : Bool := m ≤ 2

/-- The modes in which the package runs: RUN, RUN-PARTIAL, DEGRADED. -/
def runMode (m : Nat) : Bool := m == 5 || m == 6 || m == 7

/-- TP_LATCH holds a tamper source (Table 9-14). -/
def Pkg.tampered (s : Pkg) : Bool := s.get 15 fTpSources != 0

/-- Every present tile. -/
def Pkg.present (s : Pkg) : List Nat := List.range s.variant.tiles

/-! ### VSTBY (R406) -/

/-- VSTBY is on while a tile is retained. The voltage it is then sampled at is open within the bounds of R406. -/
def Pkg.vstby (s : Pkg) (on_ : Bool) : Pkg :=
  if s.on 15 fVstbyOn = on_ then s
  else if on_ then ((s.raise 15 fVstbyOn).put 15 fVstbyMv (500 + Config.freeWord s.fresh % 101)).tookFree 1
  else (s.put 15 fVstbyOn 0).put 15 fVstbyMv 0

/-- Tiles wake from retention (R295): they are powered, and join at the next commit. With no tile left in retention VSTBY goes off (R406). -/
def Pkg.addTiles (s : Pkg) (mask : Nat) : Pkg :=
  let l := s.present.filter (fun t => mask.testBit t && !s.tileOn t)
  let s := s.put 15 fTilesOn (Nat.lor (s.get 15 fTilesOn) (Nat.land mask (allTiles s.variant)))
  let s := l.foldl (fun s t => s.tileUp t) s
  if !l.isEmpty && s.present.all s.tileOn then s.vstby false else s

/-- What the tiles hold in retention is lost: WARM_VALID falls and every unpowered tile holds nothing (R332). -/
def Pkg.loseRetention (s : Pkg) : Pkg :=
  let s := s.put 15 fWarmValid 0
  (s.present.filter (fun t => !s.tileOn t)).foldl (fun s t => s.tileDown true t) s

/-! ### Grants and restarts (R265, R266, R283, R285, R299, R302, R303) -/

/-- SERVICE ends and the debug level is CLOSED (R299, R303). -/
def Pkg.endGrants (s : Pkg) : Pkg :=
  (s.onMode (fun m => { m with service := none, debugReq := none, portClosed := true })).put 15 fDebugLevel 0

/-- What a reset ends beside them: the vault's lock and the broken lockstep (R302). -/
def Pkg.endInvasive (s : Pkg) : Pkg := (s.put 15 fKyLocked 0).put 15 fLockstepBroken 0

/-- A restart of the package: programmed fuses govern; after an accepted TAMPER_CLEAR the line falls, the root is free and the vault has its root
node again; while a source is latched the root stays locked (R265, R266, R283, R285). The nonce is replaced (R283). -/
def Pkg.restart (s : Pkg) : Pkg :=
  let s := s.onMode (fun m =>
    { m with govLife := (s.onMode (fun m => { m with service := none })).fuseLife, govCap := s.get 15 fDebugCap, lost := [], steward := 0 })
  let s := s.clearWords 15 oKyNonce (oKyNonce + 16)
  let s := { s with ref := 0, tether := 0, routes := [], ctrl := [], ks := {} }
  if s.tampered then (if s.mode.govLife = lBlank then s else s.raise 15 fRootLocked)
  else
    let s := ((s.put 15 fTpLine 0).put 15 fRootLocked 0).onMode (fun m => { m with quarantine := false })
    s.vaultRestart

/-! ### The rails (R403, R404) -/

/-- The rails may rise: BAT is at 5.5 V or above, and no wait runs (R402, R418). -/
def Pkg.mayRise (s : Pkg) : Bool := s.power.bat == 2 && s.power.phase == 0 && decide (s.power.notBefore ≤ s.now)

/-- The rails begin to rise. -/
def Pkg.startRails (s : Pkg) : Pkg :=
  s.onPower (fun p => { p with phase := 1, restart := false, enAt := [], pgAt := [], dnAt := [] })

/-- The rails begin to fall; with none enabled they are off. -/
def Pkg.fallRails (s : Pkg) : Pkg :=
  if s.power.phase = 0 then s
  else s.onPower (fun p => { p with phase := if (List.range 5).any (fun g => s.on 15 (fPwEn g)) then 3 else 0, dnAt := [] })

/-- A pending cold WAKING begins once the rails may rise. -/
def Pkg.tryRestart (s : Pkg) : Pkg := if s.power.restart ∧ s.mayRise then s.startRails else s

/-- The reset row of Table 10-2: the rails go off, SERVICE and debug grants end, and a cold WAKING follows. -/
def Pkg.coldReset (s : Pkg) (reason : Nat) : Pkg :=
  let s := (((s.setMode mWaking reason).bump 15 oResets).settle).endGrants.endInvasive
  let s := (s.put 15 fWarmValid 0).tilesDown true s.present
  let s := (s.vstby false).put 15 fPwParts (allTiles s.variant)
  let s := s.onMode (fun m => { m with nextParts := none, provNext := false })
  let s := s.onWake (fun w => { w with quiet := none, hk := none })
  ((s.onPower (fun p => { p with restart := true })).fallRails).tryRestart

/-! ### Transceivers and buses (R314, R321, R323) -/

/-- The state of a channel in a parked mode (R314): SLEEP with selective wake where the plan keeps it, else with pattern wake, else OFF. -/
def Pkg.trxParked (s : Pkg) (c : Nat) : Nat :=
  let swk : Bool := s.on 15 (fSwkEn c) && s.on 15 (fSwkKept c) && s.modeNow != mDormant
  if swk || s.on 15 (fWupEn c) then 4 else 0

/-- A transceiver leaves the bus: FEC starts at 0 at every entry to SLEEP (R323), its controller is asleep (R210). -/
def Pkg.trxSleep (s : Pkg) (c to_ : Nat) : Pkg :=
  let s := s.onWake (fun w => { w with standby := SMap.erase c w.standby })
  let s := ((s.put 15 (fTrx c) to_).put 15 (fFec c) 0).put 15 (fTxdTo c) 0
  if s.get 15 (fCanState c) = 3 then s else s.canSleep c

/-- A transceiver goes to NORMAL, or to LISTEN on a listen-only channel (Table 11-2). -/
def Pkg.trxUp (s : Pkg) (c : Nat) : Pkg :=
  let s := s.onWake (fun w => { w with standby := SMap.erase c w.standby })
  if s.get 15 (fCanMode c) = 0 then s
  else ((s.put 15 (fTrx c) (if s.on 15 (fCanListen c) then 2 else 1)).put 15 (fBusDom c) 0).canWake c

/-- The NM channels. -/
def Pkg.nmChannels (s : Pkg) : List Nat := (List.range 12).filter (fun c => s.on 15 (fNmEn c))

/-- The bus channels of a package that comes up are on (DESIGN CHOICE: see the log). -/
def Pkg.busesUp (s : Pkg) : Pkg :=
  let s := (List.range 12).foldl (fun s c => if s.get 15 (fTrx c) = 1 ∨ s.get 15 (fTrx c) = 2 then s else s.trxUp c) s
  (List.range 6).foldl (fun s l => s.put 15 (fLinState l) (bit (s.on 15 (fLinEnable l)))) s

/-- The go-to-sleep command of ISO 17987: a master request frame whose first byte is 0, the others 0xFF. -/
def linSleepMsg (l : Nat) : BusMsg := { bus := 16 + l, id := 0x3C, fmt := 0, payload := 0 :: List.replicate 7 0xFF#8 }

/-- The buses as the package parks (R321): non-NM channels sleep, LIN commanders command sleep, FlexRay halts. -/
def Pkg.busesDown (s : Pkg) : Pkg :=
  let s := (List.range 6).foldl (fun s l =>
    if s.linUp l then
      (if s.on 15 (fLinCommander l) then (s.emit (.bus (linSleepMsg l))).bump 15 (oLinTx l) else s).linSleep l
    else s) s
  if s.on 15 fFrEnable then s.frSleep else s

end Sys2Proof.Machine
end

