-- ==== Sys2Proof/Machine/Image.lean ====
section
/-! DEFINITION. The NOR flash, the boot record, image containers and their acceptance checks, and what a section fixes (R54, R305, R378–R385).
Numbers in containers and records are big-endian. -/
namespace Sys2Proof.Machine

/-! ### The NOR device (R378): its bytes are kept complemented under die 15 of the byte memories, so that an erased byte is unlisted -/

def Mem.nor (m : Mem) (a : Nat) : Byte := ~~~ (m.get 15 a)
def Mem.norRead (m : Mem) (a n : Nat) : List Byte := (List.range n).map (fun i => m.nor (a + i))
def Mem.norWrite (m : Mem) (a : Nat) (bs : List Byte) : Mem := m.write 15 a (bs.map (fun b => ~~~ b))

/-- The base of a slot, its size, the provisioning area (Table 14-1). -/
def slotBase (slot : Nat) : Nat := if slot = 0 then 0x100000 else 0x2000000
def slotSize : Nat := 31 * 2 ^ 20
def provBase : Nat := 0x10000
def provSize : Nat := 0xF0000

/-! ### The boot record (R379, Table 14-2) -/

/-- A record as its 64 bytes. -/
def BootRec.bytes (r : BootRec) : List Byte :=
  let body := beBytes 4 0x494B4252 ++ beBytes 4 r.version ++ beBytes 1 r.active ++ beBytes 1 (bit r.trial) ++ beBytes 1 (bit r.next) ++ [0] ++
    (List.range 4).flatMap (fun i => beBytes 4 (r.offs.getD i 0)) ++ beBytes 8 r.trialEnd ++ beBytes 2 r.trialS ++ List.replicate 22 0
  body ++ beBytes 4 (crc32c body)

/-- The record that 64 bytes spell; none: its MAGIC or its CRC is wrong. -/
def readRecord (bs : List Byte) : Option BootRec :=
  if beAt bs 0 4 = 0x494B4252 ∧ beAt bs 60 4 = crc32c (bs.take 60) then
    some { version := beAt bs 4 4, active := beAt bs 8 1 % 2, trial := beAt bs 9 1 == 1, next := beAt bs 10 1 == 1
           offs := (List.range 4).map (fun i => beAt bs (12 + 4 * i) 4), trialEnd := beAt bs 28 8, trialS := beAt bs 36 2 }
  else none

/-- What the boot ROM takes at a start (R379): the record, the copy, whether both copies are lost. -/
def Mem.takeRecord (m : Mem) : BootRec × Nat × Bool :=
  match readRecord (m.norRead 0 64), readRecord (m.norRead 0x1000 64) with
  | some a, some b => if a.version < b.version then (b, 1, false) else (a, 0, false)
  | some a, none => (a, 0, false)
  | none, some b => (b, 1, false)
  | none, none => ({}, 1, true)

/-- Update of the start-up substate. -/
def Pkg.onBoot (s : Pkg) (f : BootSt → BootSt) : Pkg := { s with boot := f s.boot }

/-- The record is rewritten (R379): the other copy takes the next version, then the older copy is erased. -/
def State.writeRecord (s : State) (f : BootRec → BootRec) : State :=
  let r := f s.pkg.boot.record
  let r := { r with version := (s.pkg.boot.record.version + 1) % 2 ^ 32 }
  let c := 1 - s.pkg.boot.copy
  { s with pkg := s.pkg.onBoot (fun b => { b with record := r, copy := c })
           mem := (s.mem.norWrite (c * 0x1000) r.bytes).norWrite (s.pkg.boot.copy * 0x1000) (List.replicate 64 0xFF) }

/-! ### UP registers (Table 14-8) -/

def fUpSlot : Fld := ⟨0x2100000, 0, 0⟩
def fUpTrial : Fld := ⟨0x2100000, 1, 1⟩
def fVerifiedOther : Fld := ⟨0x2100000, 2, 2⟩
def fNextStart : Fld := ⟨0x2100000, 3, 3⟩
def fUpState : Fld := ⟨0x2100000, 5, 4⟩
def fUpResult : Fld := ⟨0x2100000, 11, 8⟩
def fUpRefuse : Fld := ⟨0x2100000, 15, 12⟩
def fDieRev : Fld := ⟨0x2100000, 16, 16⟩
def oUpWrSrc : Nat := 0x2100008
def fUpWrOff : Fld := ⟨0x2100010, 24, 0⟩
def fUpWrLen : Fld := ⟨0x2100014, 24, 0⟩
def fUpTrialS : Fld := ⟨0x2100018, 9, 0⟩
def oUpFwId : Nat := 0x210001C
def fFwStep : Fld := ⟨0x2100020, 6, 0⟩
def oUpTrialEnd : Nat := 0x2100028
/-- UP_EVT: 0 DONE, 1 FELL_BACK, 2 CONFIRMED, 3 BOOT_FALLBACK, 4 RECORD_LOST, 5 FUSE_FAIL. -/
def fUpEvt (n : Nat) : Fld := ⟨0x2100030, n, n⟩
def oUpActivations : Nat := 0x2100040
def oUpFallbacks : Nat := 0x2100048
def oUpBootFallbacks : Nat := 0x2100050
def oUpSkippedEnc : Nat := 0x2100058
def oUpBusHeldLost : Nat := 0x2100060
def oUpRefused : Nat := 0x2100068
def oSiImageId : Nat := 0x200000
def fSiImageStep : Fld := ⟨0x200004, 15, 0⟩
def fSplitBoot : Fld := ⟨0x1D00004, 8, 8⟩

/-! ### Containers (R380–R383) -/

/-- A container: its kind as the place in its slot asks for it, and its bytes. -/
structure Container where
  kind  : Nat
  bytes : List Byte
deriving DecidableEq, Repr

/-- A section as its manifest entry describes it (Table 14-4). -/
structure Section where
  entry : List Byte
  data  : List Byte
deriving DecidableEq, Repr

def Section.type (x : Section) : Nat := beAt x.entry 0 1
def Section.stage (x : Section) : Nat := beAt x.entry 1 1
def Section.target (x : Section) : Nat := beAt x.entry 2 2
def Section.enc (x : Section) : Bool := beAt x.entry 4 1 == 1
def Section.keyRef (x : Section) : Nat := beAt x.entry 5 1
def Section.block (x : Section) : Nat := beAt x.entry 6 2
def Section.off (x : Section) : Nat := beAt x.entry 8 4
def Section.len (x : Section) : Nat := beAt x.entry 12 4
def Section.iv (x : Section) : List Byte := sliceBytes x.entry 16 12
def Section.tag (x : Section) : List Byte := sliceBytes x.entry 28 16
def Section.digest (x : Section) : List Byte := sliceBytes x.entry 44 48

def Container.manifestLen (c : Container) : Nat := beAt c.bytes 8 4
def Container.totalLen (c : Container) : Nat := beAt c.bytes 12 4
def Container.step (c : Container) : Nat := beAt c.bytes 32 1
def Container.sections (c : Container) : List Section :=
  (List.range (beAt c.bytes 38 2)).map (fun i =>
    let e := sliceBytes c.bytes (64 + 96 * i) 96
    { entry := e, data := sliceBytes c.bytes (beAt e 8 4) (beAt e 12 4) })
/-- The bytes the manifest digest and both signatures cover (R383). -/
def Container.head (c : Container) : List Byte := c.bytes.take (64 + c.manifestLen)
def Container.digest (c : Container) : List Byte := sha384Bytes c.head
def Container.sig (c : Container) (o n : Nat) : List Byte := sliceBytes c.bytes (c.totalLen - 5454 + o) n

/-- The container of a kind in a slot, where the record places it. -/
def Mem.container (m : Mem) (r : BootRec) (slot kind : Nat) : Container :=
  let o := r.offs.getD (2 * slot + (kind - 1)) 0
  let base := slotBase slot + o
  let total := min (beNat (m.norRead (base + 12) 4)) (slotSize - o)
  { kind := kind, bytes := m.norRead base (max 64 total) }

/-- Table 14-9: what a BLOCK code reaches on a die (R382): the block's range in Table 1-4 and the table memories of its chapter. -/
def presetBlock (code : Nat) : Option Block :=
  [none, some .id, some .tm, some .si, some .pr, some .sw, some .ts, some .ms, some .tr, some .hb, some .dm, some .pd, some .ck, some .sg,
   some .cs, some .st, some .el, some .up].getD code none

/-- The block whose chapter maps a table memory. -/
def tableOwner (off : Nat) : Block :=
  if off < 0x3600000 then (if 0x3500000 ≤ off then .sw else .pr)
  else if off < 0x3700000 then .ts else if off < 0x38E0000 then .tr else if off < 0x3940000 then .ms else .cs

/-- A preset row is within the reach of its section's block and addressed to a block that answers on the die (R382). -/
def presetOk (code die off : Nat) : Bool :=
  match tileBlock off with
  | none => false
  | some b =>
    let b := if b = .table then tableOwner off else b
    decide (die < 7) && (code == 0 || presetBlock code == some b) && (b != .st || die == 0) && (b != .tr || decide (die < 2))

def presetRows (bs : List Byte) : List (Nat × Nat) := (List.range (bs.length / 8)).map (fun i => (beAt bs (8 * i) 4, beAt bs (8 * i + 4) 4))

/-- The dies of a target mask among those of the ordering code. -/
def targetDies (v : Variant) (mask : Nat) : List Nat := (List.range v.tiles ++ [15]).filter (fun d => mask.testBit d)

/-- A manifest entry has the form R381, R382 and R384 give it. -/
def Section.formOk (v : Variant) (kind totalLen : Nat) (x : Section) : Bool :=
  (if kind = 2 then (1 ≤ x.type && x.type ≤ 13) || (0x20 ≤ x.type && x.type ≤ 0x2F)
   else (0x10 ≤ x.type && x.type ≤ 0x15) || (0x20 ≤ x.type && x.type ≤ 0x2F)) &&
  decide (x.stage ≤ 3) && decide (beAt x.entry 4 1 ≤ 1) && decide (x.keyRef ≤ 3) && beAt x.entry 92 4 == 0 &&
  decide (x.off + x.len + 5454 ≤ totalLen) && (x.type == 13 || x.block == 0) &&
  (!x.enc || (kind == 1 && (x.type == 0x15 || decide (0x20 ≤ x.type)))) &&
  (x.type != 13 || (decide (x.block ≤ 17) && decide (x.len % 8 = 0) &&
    (targetDies v x.target).all (fun d => (presetRows x.data).all (fun r => presetOk x.block d r.1))))

/-! ### Acceptance checks (R385, Table 14-5) -/

/-- Check 1. -/
def Container.formOk (v : Variant) (c : Container) : Bool :=
  let b := c.bytes
  beAt b 0 4 == 0x494B494D && beAt b 4 2 == 1 && beAt b 6 2 == c.kind &&
  decide (1 ≤ beAt b 38 2) && decide (beAt b 38 2 ≤ 255) && c.manifestLen == 96 * beAt b 38 2 &&
  decide (64 + c.manifestLen + 5454 ≤ c.totalLen) && decide (c.totalLen = b.length) &&
  decide (beAt b 20 4 ≤ (if c.kind = 1 then 3 else 1)) && (beAt b 20 4 % 2 == 1 || beAt b 24 8 == 0) &&
  (if c.kind = 2 then [2, 4, 8].contains (beAt b 33 1) else beAt b 33 1 == 0) &&
  decide (beAt b 36 1 ≤ 1) && decide (beAt b 37 1 ≤ 1) && sliceBytes b 40 24 == List.replicate 24 0 &&
  c.sections.all (Section.formOk v c.kind c.totalLen)

/-- Check 2. -/
def Pkg.signerOk (s : Pkg) (c : Container) : Bool :=
  let owner : Bool := s.bytesAt 15 0x70200 48 != List.replicate 48 0
  let ec := sha384Bytes (c.sig 0 97)
  let pq := sha384Bytes (c.sig 97 1952)
  let g := beAt c.bytes 37 1
  if beAt c.bytes 36 1 = 1 then
    c.kind == 2 && owner && ec == s.bytesAt 15 0x70200 48 && pq == s.bytesAt 15 0x70240 48
  else
    (c.kind == 1 || !owner) && !(s.get 15 fVendorRevoked).testBit g &&
    ec == s.bytesAt 15 (0x70100 + 0x80 * g) 48 && pq == s.bytesAt 15 (0x70140 + 0x80 * g) 48

/-- Checks 1 to 8: the result code of the first that fails, 0 when all pass. -/
def Pkg.headCheck (s : Pkg) (c : Container) : Nat :=
  let b := c.bytes
  if !c.formOk s.variant then 1
  else if !s.signerOk c then 2
  else if !(ecdsaVerify (c.sig 0 97) c.head (c.sig 2049 96) && Config.mldsaVerify (c.sig 97 1952) c.head (c.sig 2145 3309)) then 3
  else if beAt b 16 4 ≠ (s.rd 15 0x70020).toNat then 4
  else if beAt b 20 4 % 2 = 1 ∧ beAt b 24 8 ≠ s.rd64 15 0x70018 then 5
  else if c.step < s.get 15 ⟨0x70010, 6, 0⟩ ∨ 64 < c.step then 6
  else if beAt b 34 1 ≠ 2 ∨ 1 < beAt b 35 1 then 7
  else if c.kind = 2 ∧ beAt b 33 1 ≠ s.variant.dies then 8
  else 0

/-- Check 9 on one section. -/
def Section.digestOk (x : Section) : Bool := sha384Bytes x.data == x.digest

/-- The plain bytes of a section; none: check 10 fails. -/
def Pkg.sectionPlain (s : Pkg) (m : Mem) (x : Section) : Option (List Byte) :=
  if !x.enc then some x.data
  else match Config.contentRecord (m.norRead provBase provSize) x.keyRef with
    | none => none
    | some r => match keyUnwrap s.imageKey r with
      | none => none
      | some k => gcmOpen k x.iv [] (x.data ++ x.tag)

/-- Checks 1 to 9, and at VERIFY check 10. -/
def Pkg.checkContainer (s : Pkg) (m : Mem) (c : Container) (decrypt : Bool) : Nat :=
  let h := s.headCheck c
  if h ≠ 0 then h
  else if !c.sections.all Section.digestOk then 9
  else if decrypt ∧ !s.rootLocked ∧ c.sections.any (fun x => (s.sectionPlain m x).isNone) then 10
  else 0

/-! ### What a section fixes (R54, Table 2-1) -/

/-- The words a section of a type may fix on a die: those of its chapter whose reset value the tables give as image. -/
def sectionReach (type die off : Nat) : Bool :=
  if die = 15 then
    match sentinelBlock off with
    | some .nm => type == 2
    | some .tp => type == 2
    | some .bus => type == 8
    | some .pw => type == 11
    | some .el => type == 12
    | _ => false
  else match tileBlock off with
    | some .sw => type == 1 || type == 3
    | some .pr => type == 5
    | some .ts => type == 7
    | some .tr => type == 8
    | some .pd => type == 9
    | some .dm => type == 10
    | some .table => type == 4 && decide (0x3400000 ≤ off) && decide (off < 0x3404800)
    | _ => false

/-- One word of a section takes effect: only what the image fixes changes. -/
def Pkg.fixWord (s : Pkg) (type die off v : Nat) : Pkg :=
  if !sectionReach type die off then s
  else if die ≠ 15 ∧ 0x3000000 ≤ off then s.wr die off (BitVec.ofNat 32 v)
  else
    let m := if type = 12 ∨ (type = 9 ∧ pairLow die off ≠ none) then 0xFFFFFFFF#32 else maskOf (fun f => decide (f.acc = .ro) && decide (f.cls = .cold)) (wordFields die off)
    s.wr die off ((s.rd die off &&& ~~~ m) ||| (BitVec.ofNat 32 v &&& m))

/-- POLICY_SUBSET (R305): a cell keeps what the matrix and the subset both hold; C of a permitted cell stays in every mode below RUN-PARTIAL, and a
mode without C is removed. -/
def policyResult (mode life given : Nat) : Nat :=
  let m := matrixCell mode life
  let c := Nat.land m (if mode < 6 then given ||| 1 else given)
  if c.testBit 0 then c else 0

/-- A map from a list of entries. -/
def mapOf (l : List (Nat × Nat)) : SMap Nat := l.foldl (fun m e => SMap.set 0 m e.1 e.2) []

/-- A map of pairs from a list of entries. -/
def mapPairs (l : List (Nat × Nat × Nat)) : SMap (Nat × Nat) := l.foldl (fun m e => SMap.set (0, 0) m e.1 e.2) []

/-- A section takes effect on a die. -/
def Pkg.fixSection (s : Pkg) (die type : Nat) (bs : List Byte) : Pkg :=
  let ws := Config.sectionWords type die bs
  if type = 11 then
    if die ≠ 15 then s
    else
      let s := (List.range 12).foldl (fun s m => (List.range 5).foldl (fun s l =>
        let w := ((ws.find? (fun e => e.1 == 0x60100 + 4 * m)).map (·.2)).getD 0
        s.put 15 (fPolicy m l) (policyResult m l (natBits w (3 * l + 2) (3 * l)))) s) s
      s.onMode (fun m => { m with policyIn := true })
  else
    let s := ws.foldl (fun s e => s.fixWord type die e.1 e.2) s
    match type with
    | 2 => if die = 15 then s.onBus (fun b => { b with plca := mapPairs ((List.range 4).map (fun k => (k, Config.plcaNode k bs))) }) else s
    | 4 => s.onSw (fun w => { w with shape := { w.shape with onion := Config.onionDepth bs } })
    | 6 =>
      let ps := (List.range 4).map (fun p => mapOf (Config.profileCells p bs))
      s.onSw (fun w => { w with shape := { w.shape with zones := mapOf (Config.zoneList bs), profiles := ps } })
    | 7 =>
      let l := (Config.gclLengths die bs).foldl (fun m e => SMap.set 0 m (die * 32 + e.1 % 32) e.2) s.sw.shape.gclMax
      s.onSw (fun w => { w with shape := { w.shape with gclMax := l } })
    | 8 => s.onBus (fun b => { b with frDepth := Config.flexrayDepth bs })
    | 10 => { s with grants := SMap.set [] s.grants die (Config.windowGrants die bs) }
    | _ => s

/-- The sections of a container that a test selects take effect on their dies. -/
def Pkg.fixSections (s : Pkg) (c : Container) (p : Section → Bool) (dies : List Nat) : Pkg :=
  (c.sections.filter p).foldl (fun s x =>
    ((targetDies s.variant x.target).filter (fun d => dies.contains d)).foldl (fun s d => s.fixSection d x.type x.data) s) s

end Sys2Proof.Machine
end

