-- ==== Sys2Proof/Machine/Wake.lean ====
section
/-! DEFINITION. Chapter 11: waking and parking (R309–R316, R321, R324, R328–R332, R418). -/
namespace Sys2Proof.Machine

/-! ### Registers (Table 11-6) -/

def fPinFunc (p : Nat) : Fld := ⟨0x20080 + 4 * p, 1, 0⟩
def fPinLevel (p : Nat) : Fld := ⟨0x20080 + 4 * p, 3, 3⟩
def fPinStuck (p : Nat) : Fld := ⟨0x20080 + 4 * p, 4, 4⟩
def fWakeEvt (p : Nat) : Fld := ⟨0x200A0, p, p⟩
def fQuietMs : Fld := ⟨0x2000C, 15, 0⟩
def fStormMax : Fld := ⟨0x2000C, 23, 16⟩
def fFalseLast : Fld := ⟨0x20014, 25, 25⟩
def fLastSrc : Fld := ⟨0x20018, 4, 0⟩
def oWakeSupp (k : Nat) : Nat := 0x20400 + 8 * k
def oWakeTaken (k : Nat) : Nat := 0x20500 + 8 * k
def oFalseWakes : Nat := 0x20600

/-! ### Parking (R295, R314, R321, R328) -/

/-- Every transceiver takes the state of R314. -/
def Pkg.trxAllParked (s : Pkg) : Pkg := (List.range 12).foldl (fun s c => s.trxSleep c (s.trxParked c)) s

/-- A WAKE pin that is active as the package parks is stuck from that instant (R311). -/
def Pkg.pinsParked (s : Pkg) : Pkg :=
  (List.range 6).foldl (fun s p =>
    if s.get 15 (fPinFunc p) = 1 ∧ s.on 15 (fPinLevel p) ∧ !s.on 15 (fPinStuck p) then (s.raise 15 (fPinStuck p)).logPark plMasked p else s) s

/-- DORMANT (R293, R328, R329): no listening but the wake-up pattern; ledger and plan stop. -/
def Pkg.enterDormant (s : Pkg) : Pkg :=
  let s := (s.charge 0).setMode mDormant 8
  (s.onWake (fun w => { w with dormantAt := s.now })).trxAllParked

/-- Retention is shed: VSTBY goes off, and with it what the tiles held (R328, R332). -/
def Pkg.shedRetention (s : Pkg) : Pkg := (s.loseRetention).vstby false

/-- The entry tick. The sentinel's temperature at it is a free value (no command carries it). -/
def Pkg.entryTick (s : Pkg) (warm : Bool) : Pkg × Bool :=
  let t : Int := (Config.freeWord s.fresh % 256 : Nat) - 128
  ((s.tookFree 1).keepAll warm).plan true (s.rd 15 oElMeas).toNat t

/-- The freshness and E2E counters of the steward's trestle as the park journals them (R204), where a journal is mounted. -/
def Pkg.saveCounters (s : Pkg) : Pkg :=
  if !s.on 0 fStMounted then s
  else
    let l := s.listed s.steward 0x38B0000 0x38B8000 ++ s.listed s.steward 0x38D0000 0x38D4000
    s.onWake (fun w => { w with saved := some (l.foldl (fun m o => SMap.set 0 m o (s.rd s.steward o)) []) })

/-- What every entry to a parked mode does beside the mode (R299, R303, R311, R314, R321, R371): grants end, records are flushed, buses sleep, the
tiles go into retention or lose their power, the rails fall. -/
def Pkg.parkTiles (s : Pkg) (retain : Bool) : Pkg :=
  let s := s.settle.endGrants
  let s := (s.put 15 fWarmValid 0).tilesDown (!retain) s.present
  let s := (s.vstby retain).onPower (fun p => { p with confirmed := [], restart := false })
  let s := s.onMode (fun m => { m with nextParts := none, provNext := false })
  (s.onWake (fun w => { w with quiet := none, hk := none, parkAt := s.now })).fallRails

/-- The package enters a parked mode with a reason: `warm` where retention applies. -/
def Pkg.enterPark (s : Pkg) (warm : Bool) (reason : Nat) : Pkg :=
  let r := s.entryTick warm
  let s := (r.1.saveCounters).parkFlush
  let retain : Bool := warm && s.on 15 fRetKept
  let s := s.busesDown.setMode (if retain then mParkedWarm else mParkedCold) reason
  let s := (s.parkTiles retain).trxAllParked.pinsParked
  if r.2 then s.enterDormant else s

/-- A package that may park: a run mode or QUARANTINE (Table 10-2). -/
def Pkg.mayPark (s : Pkg) : Bool := runMode s.modeNow || s.modeNow == mQuarantine

/-- The SLEEP_AGREED transition (R295, R298, R321, R399): warm from RUN and RUN-PARTIAL unless a trial runs, whose fallback the record then takes. -/
def State.park (s : State) : State :=
  if !s.pkg.mayPark then s
  else
    let trial : Bool := s.pkg.on 0 fUpTrial
    let warm : Bool := (s.pkg.modeNow == mRun || s.pkg.modeNow == mRunPartial) && !trial
    let s := if trial then s.writeRecord (fun r => { r with active := 1 - r.active, trial := false, next := false }) else s
    { s with pkg := s.pkg.enterPark warm 7 }

/-! ### Waking (R309–R313, R324, R329) -/

/-- The bucket of sentinel time (R312). -/
def Pkg.bucket (s : Pkg) : Nat := s.countNs 15 / 60000000000

/-- The wakes taken from a source in this bucket and the 59 before it. -/
def Pkg.recentWakes (s : Pkg) (src : Nat) : List Nat := (SMap.get [] s.wake.taken src).filter (fun b => decide (s.bucket < b + 60))

/-- The storm limiter passes a source (R312). -/
def Pkg.stormOk (s : Pkg) (src : Nat) : Bool := decide (18 ≤ src) || decide ((s.recentWakes src).length < s.get 15 fStormMax)

/-- A wake is suppressed (R312). -/
def Pkg.suppress (s : Pkg) (src : Nat) : Pkg :=
  let s := if 6 ≤ src ∧ src < 18 then s.trxSleep (src - 6) 4 else s
  let s := s.bump 15 (oWakeSupp src)
  if SMap.get 0 s.wake.logged src = s.bucket + 1 then s
  else (s.onWake (fun w => { w with logged := SMap.set 0 w.logged src (s.bucket + 1) })).logPark plSuppressed src

/-- A wake is counted as taken (R312). -/
def Pkg.countTaken (s : Pkg) (src : Nat) : Pkg :=
  let s := s.onWake (fun w => { w with taken := if src < 18 then SMap.set [] w.taken src (s.recentWakes src ++ [s.bucket]) else w.taken })
  ((s.bump 15 (oWakeTaken src)).logPark plWakeTaken src).put 15 fLastSrc src

/-- What DORMANT cost, with EXHAUSTED where that takes the allowance to 0 (R329, R335). -/
def Pkg.leaveDormant (s : Pkg) : Pkg :=
  if s.modeNow = mDormant then
    let before := s.remain
    let q := (s.get 15 fElDormant + s.get 15 fElUnseen) * (s.now - s.wake.dormantAt) / nAhUnit
    let s := ((s.add 15 oElSpent q).add 15 oElTotal q).onWake (fun w => { w with unseenAt := s.now, unseenRem := 0 })
    (s.ledgerEvents before false).logPark plDormantExit 0
  else s

/-- READY falls and the wake is to be confirmed; its NM channels receive (R324). -/
def Pkg.awaitConfirm (s : Pkg) : Pkg :=
  let s := ((s.put 15 fReady 0).put 15 fConfirmed 0).onWake (fun w => { w with quiet := some s.now, hk := none })
  s.nmChannels.foldl (fun s c => s.trxUp c) s

/-- What a wake from a source starts (R331): a housekeeping run of tile 0 alone, or every tile, with the wake to be confirmed. -/
def Pkg.wakeTiles (s : Pkg) (src : Nat) : Pkg :=
  let s := s.put 15 fPwParts (if src = 18 then 1 else allTiles s.variant)
  if src = 18 then ((s.put 15 fReady 0).put 15 fConfirmed 0).onWake (fun w => { w with hk := some s.now, quiet := none })
  else s.awaitConfirm

/-- A wake is taken from a parked mode whose rails are off (R295, R331): the package enters WAKING. -/
def Pkg.takeWake (s : Pkg) (src reason : Nat) : Pkg :=
  let entry := s.get 15 fLogProd
  let s := (s.countTaken src).leaveDormant
  let s := if s.wake.shed then s.raise 15 (fElEvt 1) else s
  let s := (s.onPower (fun p => { p with wake := none })).onWake (fun w => { w with took := some (src, s.now, entry) })
  ((s.wakeTiles src).setMode mWaking reason).startRails

/-- Of wakes detected together a tamper wake comes first, then the lowest source (R313). -/
def wakeFirst (src other : Nat) : Bool := other != 19 && (src == 19 || decide (src < other))

/-- A wake that comes first takes the place of the one already taken in its clock (R313), which then counts as merged: the park log names the first. -/
def Pkg.supersede (s : Pkg) (old entry src reason : Nat) : Pkg :=
  let s := s.onWake (fun w => { w with taken := if old < 18 then SMap.set [] w.taken old (SMap.get [] w.taken old).dropLast else w.taken })
  let s := s.onWake (fun w => { w with taken := if src < 18 then SMap.set [] w.taken src (s.recentWakes src ++ [s.bucket]) else w.taken
                                       took := some (src, s.now, entry) })
  let s := (s.setCnt 15 (oWakeTaken old) (s.cnt 15 (oWakeTaken old) - 1)).bump 15 (oWakeTaken src)
  let s := (s.put 15 fLastSrc src).put 15 ⟨0x28008 + 32 * entry, 12, 8⟩ src
  (s.wakeTiles src).put 15 fReason reason

/-- A wake in a parked mode (R312, R402, R404): suppressed, or taken, once the rails are off and BAT is at 5.5 V. Of wakes that wait
together one comes first; the others are merged (R313). -/
def Pkg.wakeFrom (s : Pkg) (src reason : Nat) : Pkg :=
  if !s.stormOk src then s.suppress src
  else if s.mayRise then s.takeWake src reason
  else match s.power.wake with
    | none => s.onPower (fun p => { p with wake := some (src, reason, s.now) })
    | some (o, _, _) =>
      (if wakeFirst src o then s.onPower (fun p => { p with wake := some (src, reason, s.now) }) else s).bump 15 oWakesMerged

/-- A wake that waits is taken once it can be (R402, R404). -/
def Pkg.tryWake (s : Pkg) : Pkg :=
  match s.power.wake with
  | some (src, reason, _) => if parkedMode s.modeNow ∧ s.mayRise then s.takeWake src reason else s
  | none => s

/-- A housekeeping run becomes an ordinary wake (R331): the retained tiles are powered and join at the next commit. -/
def Pkg.endHousekeeping (s : Pkg) (src : Nat) : Pkg :=
  let all := allTiles s.variant
  let s := (((s.countTaken src).put 15 fPwParts all).awaitConfirm).addTiles all
  s.onMode (fun m => { m with nextParts := some (all, mRun) })

/-- A wake during WAKING or BOOT is merged (R296); one of the clock in which another was taken may come first (R313). -/
def Pkg.mergeWake (s : Pkg) (src reason : Nat) : Pkg :=
  (match s.wake.took with
    | some (o, t, e) => if s.modeNow = mWaking ∧ t = s.now ∧ wakeFirst src o ∧ s.stormOk src then s.supersede o e src reason else s
    | none => s).bump 15 oWakesMerged

/-- A wake source fires (R309, R296, R331). -/
def Pkg.wakeEvent (s : Pkg) (src reason : Nat) : Pkg :=
  if parkedMode s.modeNow then s.wakeFrom src reason
  else if s.modeNow = mWaking ∨ s.modeNow = mBoot then s.mergeWake src reason
  else if s.wake.hk.isSome then (if s.stormOk src then s.endHousekeeping src else s.suppress src)
  else s

/-! ### WAKE pins (R310, R311) -/

/-- WAKE_PIN (R310). -/
def wakePin (pin at_ : Nat) (s : Pkg) : Pkg :=
  (s.reach at_).when (pin < 6 && !s.on 15 (fPinLevel pin)) (fun s =>
    let s := (s.raise 15 (fPinLevel pin)).onWake (fun w => { w with pinAt := SMap.set 0 w.pinAt pin (s.now + 1) })
    if s.get 15 (fPinFunc pin) ≠ 1 then s
    else if parkedMode s.modeNow then s.wakeEvent pin 1
    else (s.raise 15 (fWakeEvt pin)).wakeEvent pin 1)

/-- WAKE_PIN_STUCK (R311). -/
def wakePinStuck (pin : Nat) (s : Pkg) : Pkg :=
  s.when (pin < 6 && s.on 15 (fPinLevel pin) && s.get 15 (fPinFunc pin) == 1 && !s.on 15 (fPinStuck pin)) (fun s =>
    let s := s.reachFrac (SMap.get 0 s.wake.pinAt pin - 1 + ns (ms 250))
    (s.raise 15 (fPinStuck pin)).logPark plMasked pin)

/-- WAKE_PIN_INACTIVE (R311). -/
def wakePinInactive (pin at_ : Nat) (s : Pkg) : Pkg :=
  (s.reach at_).when (pin < 6) (fun s => (s.put 15 (fPinLevel pin) 0).put 15 (fPinStuck pin) 0)

/-! ### Transceivers (R315, R316, R323) -/

/-- The wake detection of a sleeping channel is selective (R314). -/
def Pkg.swkActive (s : Pkg) (c : Nat) : Bool :=
  s.on 15 (fSwkEn c) && (if parkedMode s.modeNow then s.on 15 (fSwkKept c) && s.modeNow != mDormant else true)

/-- A sleeping transceiver detects a wake (R315, R320): STANDBY; in a run mode an NM channel wakes and rejoins. -/
def Pkg.trxWakes (s : Pkg) (c reason : Nat) : Pkg :=
  let s := (s.put 15 (fTrx c) 3).onWake (fun w => { w with standby := SMap.set 0 w.standby c (s.now + 1) })
  let run : Bool := !(parkedMode s.modeNow) && s.modeNow != mWaking && s.modeNow != mBoot
  if run && s.on 15 (fNmEn c) && s.wake.hk.isNone then (s.trxUp c).joinRing c else s.wakeEvent (6 + c) reason

/-- CAN_WUP (R316). -/
def canWup (ch at_ : Nat) (s : Pkg) : Pkg :=
  (s.reach at_).when (ch < 12 && s.get 15 (fTrx ch) == 4 && s.on 15 (fWupEn ch) && !s.swkActive ch && !s.on 15 (fBusDom ch)) (fun s =>
    s.trxWakes ch 2)

/-- A frame lies in the channel's NM range (R317), and the node that sends it. -/
def Pkg.nmNode (s : Pkg) (c : Nat) (m : CanFrame) : Option Nat :=
  if s.on 15 (fNmExt c) then (if m.ext && m.id / 1024 == s.get 15 (fIdBase c) then some (m.id % 1024) else none)
  else if !m.ext && m.id / 256 == s.get 15 (fIdBase c) % 8 then some (m.id % 256) else none

/-- DEST, OPCODE, SLEEP_IND, SLEEP_ACK and PN of an NM payload (Table 11-3). -/
def nmDest (m : CanFrame) : Nat := beAt m.data 0 2 / 64
def nmOp (m : CanFrame) : Nat := beAt m.data 0 2 / 8 % 8
def nmInd (m : CanFrame) : Bool := (beAt m.data 0 2).testBit 2
def nmAck (m : CanFrame) : Bool := (beAt m.data 0 2).testBit 1
def nmPn (m : CanFrame) : Nat := beAt m.data 3 3
def nmGood (m : CanFrame) : Bool := !m.fd && m.data.length == 8 && decide (1 ≤ nmOp m) && decide (nmOp m ≤ 3)

/-- A frame hits the selective-wake filter (R323). -/
def Pkg.swkHit (s : Pkg) (c : Nat) (m : CanFrame) : Bool :=
  let id := s.rd 15 (nmOff c 4)
  let mask := s.get 15 ⟨nmOff c 8, 28, 0⟩
  (m.ext == (fieldGet id 29 29 == 1)) && Nat.land m.id mask == Nat.land (fieldGet id 28 0) mask &&
  (s.get 15 ⟨nmOff c 0xC, 4, 4⟩ == 0 ||
    (s.get 15 ⟨nmOff c 0xC, 3, 0⟩ == m.data.length &&
      (List.zipWith (fun a b => a &&& b) m.data (s.bytesAt 15 (nmOff c 0x10) 8)).any (fun b => b != 0)))

/-- The wake is confirmed (R324): the NM channels join the ring. -/
def Pkg.confirmNow (s : Pkg) : Pkg :=
  if s.on 15 fConfirmed then s
  else
    let s := ((s.raise 15 fConfirmed).put 15 fFalseLast 0).onWake (fun w => { w with quiet := none })
    s.nmChannels.foldl (fun s c => if s.get 15 (fTrx c) = 1 ∨ s.get 15 (fTrx c) = 2 then s.joinRing c else s) s

/-- SELECTIVE_WAKE (R323, Table 11-1): the decoder decodes a frame. A frame with FDF or XLF is ignored; a decoded classic frame lowers FEC. An NM frame
without SLEEP_IND confirms the wake it caused (R324). -/
def selectiveWake (ch : Nat) (m : CanFrame) (at_ : Nat) (s : Pkg) : Pkg :=
  (s.reach at_).when (ch < 12 && (s.get 15 (fTrx ch) == 3 || s.get 15 (fTrx ch) == 4) && !m.fd && !s.on 15 (fBusDom ch)) (fun s =>
    let s := s.put 15 (fFec ch) (s.get 15 (fFec ch) - 1)
    if s.get 15 (fTrx ch) = 4 ∧ s.swkActive ch ∧ s.swkHit ch m then
      let nm := (s.nmNode ch m).isSome
      let s := s.trxWakes ch (if nm then 4 else 3)
      if nm && nmGood m && !nmInd m && s.wake.quiet.isSome then s.confirmNow else s
    else s)

/-- SWK_ERROR_OVERFLOW (R323): a decoding error; at 32 the channel wakes. -/
def swkErrorOverflow (ch at_ : Nat) (s : Pkg) : Pkg :=
  (s.reach at_).when (ch < 12 && s.get 15 (fTrx ch) == 4 && s.swkActive ch) (fun s =>
    let s := s.put 15 (fFec ch) (min 32 (s.get 15 (fFec ch) + 1))
    if s.get 15 (fFec ch) = 32 then s.trxWakes ch 3 else s)

/-- TRX_FAILSAFE (R315). -/
def trxFailsafe (ch : Nat) (s : Pkg) : Pkg :=
  s.when (ch < 12 && s.get 15 (fTrx ch) == 3) (fun s =>
    let s := s.reachFrac (SMap.get 0 s.wake.standby ch - 1 + ns (ms 300))
    ((s.trxSleep ch 4).bump 15 (oTrxFailsafe ch)).logPark plFailsafe ch)

/-- WATCH_CORE_FAILSAFE (R315): every transceiver that is not OFF sleeps. -/
def watchCoreFailsafe (at_ : Nat) (s : Pkg) : Pkg :=
  (List.range 12).foldl (fun s c => if s.get 15 (fTrx c) = 0 then s else s.trxSleep c 4) (s.reach at_)

/-- TXD_TIMEOUT (R316). -/
def txdTimeout (ch at_ : Nat) (s : Pkg) : Pkg :=
  (s.reach at_).when (ch < 12 && s.get 15 (fTrx ch) == 1 && !s.on 15 (fTxdTo ch)) (fun s =>
    ((s.raise 15 (fTxdTo ch)).canBack ch).logPark plTxdTimeout ch)

/-- TXD_RECESSIVE (R316, R416): the transmitter returns. -/
def txdRecessive (lin : Bool) (ch at_ : Nat) (s : Pkg) : Pkg :=
  let s := s.reach at_
  if lin then s.onBus (fun b => { b with linOff := b.linOff.filter (· != ch) })
  else s.when (ch < 12) (fun s => (s.put 15 (fTxdTo ch) 0).canKick ch)

/-- LIN_TXD_TIMEOUT (R416). -/
def linTxdTimeout (ch at_ : Nat) (s : Pkg) : Pkg :=
  (s.reach at_).when (ch < 6 && s.on 15 (fLinEnable ch) && !s.bus.linOff.contains ch) (fun s =>
    (s.onBus (fun b => { b with linOff := ch :: b.linOff })).bump 15 (oLinNoResponse ch))

/-- BUS_DOM (R316). -/
def busDom (ch at_ : Nat) (s : Pkg) : Pkg :=
  (s.reach at_).when (ch < 12 && (s.get 15 (fTrx ch) == 3 || s.get 15 (fTrx ch) == 4) && !s.on 15 (fBusDom ch)) (fun s =>
    ((s.raise 15 (fBusDom ch)).bump 15 (oBusDom ch)).logPark plBusDom ch)

/-- BUS_DOM_CLEAR (R316). -/
def busDomClear (ch at_ : Nat) (s : Pkg) : Pkg := (s.reach at_).when (ch < 12) (fun s => s.put 15 (fBusDom ch) 0)

/-- TRANSCEIVER_COMMAND (R315). A wake detected in the clock of a SLEEP command takes precedence: STANDBY stays. -/
def transceiverCommand (ch cmd at_ : Nat) (s : Pkg) : Pkg :=
  (s.reach at_).when (ch < 12) (fun s =>
    if cmd = 1 ∨ cmd = 2 then
      (if s.get 15 (fCanMode ch) = 0 then s else (s.trxUp ch).put 15 (fTrx ch) cmd)
    else if cmd = 4 ∧ !(s.get 15 (fTrx ch) == 3 && SMap.get 0 s.wake.standby ch == s.now + 1) then s.trxSleep ch 4 else s)

end Sys2Proof.Machine
end

