-- ==== Sys2Proof/Machine/Sleep.lean ====
section
/-! DEFINITION. Chapter 11: the consent ring's events, confirmation, sleep agreement, the plan while parked, housekeeping (R317–R332). -/
namespace Sys2Proof.Machine

/-- The package agrees to sleep when every NM channel is in BUS_SLEEP and READY is 1 (R321). A housekeeping run ends by itself (R331). -/
def Pkg.sleepAgreed (s : Pkg) : Bool :=
  s.mayPark && s.wake.hk.isNone && s.on 15 fReady && s.nmChannels.all (fun c => s.get 15 (fRing c) == rSleep)

/-- The package parks once sleep is agreed. -/
def State.checkSleep (s : State) : State := if s.pkg.sleepAgreed then s.park else s

/-- A channel enters PREPARE_SLEEP (R319). -/
def Pkg.prepareSleep (s : Pkg) (c : Nat) : Pkg :=
  (s.setNmCh c { s.nmCh c with prepAt := s.now, token := none }).put 15 (fRing c) rPrepare

/-- In LIMP_HOME: no LIMPHOME message of the last 2 × T_ERROR_MS lacked SLEEP_IND while the Ikider consents (R319). -/
def Pkg.limpCheck (s : Pkg) (c : Nat) : Pkg :=
  let quiet : Bool := match (s.nmCh c).noSleep with
    | none => true
    | some t => decide (t + ns (ms (2 * s.get 15 fTError)) ≤ s.now)
  if s.get 15 (fRing c) = rLimp ∧ s.consents c ∧ quiet then s.prepareSleep c else s

/-- The networks an NM message carries are active from now (R322). -/
def Pkg.carryPn (s : Pkg) (pn : Nat) : Pkg :=
  let s := { s with pnSeen := ((List.range 24).filter (fun n => pn.testBit n)).foldl (fun m n => SMap.set 0 m n (s.now + 1)) s.pnSeen }
  s.recheckConsent

/-- What an NM message does to the ring of its channel (R318–R320). -/
def Pkg.ringTakes (s : Pkg) (c : Nat) (m : CanFrame) : Pkg :=
  let r := s.get 15 (fRing c)
  let x := s.nmCh c
  if r = rPrepare then s.abortSleep c
  else if r = rLimp then
    let s := if nmOp m = 3 ∧ !nmInd m then s.setNmCh c { x with noSleep := some s.now } else s
    if x.txOk then (s.setNmCh c { s.nmCh c with txOk := false, unacked := 0 }).put 15 (fRing c) rRing else s.limpCheck c
  else if r = rRing then
    let mine : Bool := nmOp m == 2 && nmDest m == s.get 15 fNode
    if s.consents c ∧ nmAck m then s.prepareSleep c
    else if s.consents c ∧ mine ∧ nmInd m ∧ x.allSleep then (s.sendRing c true).prepareSleep c
    else if mine then s.setNmCh c { x with token := some s.now } else s
  else s

/-- NM_MESSAGE (R317–R320, R322, R324): an NM message on a channel that takes part in its bus. A reserved OPCODE is ignored. -/
def nmMessage (ch : Nat) (m : CanFrame) (at_ : Nat) (s : Pkg) : Pkg :=
  (s.reach at_).when (ch < 12 && s.on 15 (fNmEn ch) && s.canListens ch && (s.nmNode ch m).isSome && nmGood m) (fun s =>
    let s := s.carryPn (nmPn m)
    let s := if s.wake.quiet.isSome ∧ !nmInd m then s.confirmNow else s
    let x := s.nmCh ch
    let heard := match s.nmNode ch m with
      | some n => if n = s.get 15 fNode ∨ x.heard.contains n then x.heard else n :: x.heard
      | none => x.heard
    (s.setNmCh ch { x with heard := heard, allSleep := x.allSleep && nmInd m }).ringTakes ch m)

/-- NM_RING_SEND (R318): T_TYP_MS after the token came. -/
def nmRingSend (ch : Nat) (s : Pkg) : Pkg :=
  match (s.nmCh ch).token with
  | some t => s.when (s.get 15 (fRing ch) == rRing) (fun s => (s.reachFrac (t + ns (ms (s.get 15 fTTyp)))).sendRing ch false)
  | none => s

/-- NM_RING_LOST (R318): T_MAX_MS since its own last NM transmission and no RING addressed to it. -/
def nmRingLost (ch : Nat) (s : Pkg) : Pkg :=
  s.when (s.get 15 (fRing ch) == rRing && (s.nmCh ch).token.isNone) (fun s =>
    let s := s.reachFrac ((s.nmCh ch).lastTx + ns (ms (s.get 15 fTMax)))
    (s.bump 15 (oRingLost ch)).sendAlive ch)

/-- LIMPHOME (R318, R319): every T_ERROR_MS in LIMP_HOME. -/
def limphome (ch : Nat) (s : Pkg) : Pkg :=
  s.when (s.get 15 (fRing ch) == rLimp) (fun s =>
    let s := s.reachFrac ((s.nmCh ch).lastTx + ns (ms (s.get 15 fTError)))
    (s.sendLimp ch).limpCheck ch)

/-- NM_WAIT_EXPIRE (R320, R321): T_WAIT_MS in PREPARE_SLEEP; the channel sleeps, and with the last one the package agrees. -/
def nmWaitExpire (ch : Nat) (s : State) : State :=
  if s.pkg.get 15 (fRing ch) ≠ rPrepare then s
  else
    let p := s.pkg.reachFrac ((s.pkg.nmCh ch).prepAt + ns (ms (s.pkg.get 15 fTWait)))
    let p := (p.put 15 (fRing ch) rSleep).trxSleep ch (if p.on 15 (fSwkEn ch) || p.on 15 (fWupEn ch) then 4 else 0)
    { s with pkg := p }.checkSleep

/-- PN_TIMEOUT (R322): 3 × T_MAX_MS since a message carried the network. -/
def pnTimeout (pn : Nat) (s : Pkg) : Pkg :=
  s.when (SMap.get 0 s.pnSeen pn != 0) (fun s =>
    let s := s.reachFrac (SMap.get 0 s.pnSeen pn - 1 + ns (ms (3 * s.get 15 fTMax)))
    let s := { s with pnSeen := SMap.set 0 s.pnSeen pn 0 }
    s.put 15 fPnActive (s.pnBits (fun _ => true)))

/-- A write of NM_LOCAL (R319–R322, R324): READY, CONFIRM, PN_REQ. -/
def confirmWakeEff (value : Word) (s : State) : State :=
  let p := ((s.pkg.put 15 fReady (fieldGet value 0 0)).put 15 fPnReq (fieldGet value 31 8)).recheckConsent
  let p := if fieldGet value 1 1 = 1 then p.confirmNow else p
  let p := (List.range 12).foldl (fun p c => p.limpCheck c) p
  { s with pkg := p }.checkSleep

/-- FALSE_WAKE (R324): QUIET_MS since a wake that nothing has confirmed. -/
def falseWake (s : State) : State :=
  match s.pkg.wake.quiet with
  | none => s
  | some t =>
    if !s.pkg.mayPark then s
    else
      let p := s.pkg.reachFrac (t + ns (ms (s.pkg.get 15 fQuietMs)))
      let p := ((p.raise 15 fFalseLast).bump 15 oFalseWakes).logPark plFalseWake (p.get 15 fLastSrc)
      { s with pkg := p }.park

/-! ### The plan while parked (R328) -/

/-- Kept selective wake that the plan has shed leaves its channel to pattern wake (R314). -/
def Pkg.trxAfterShed (s : Pkg) : Pkg :=
  (List.range 12).foldl (fun s c => if s.on 15 (fSwkEn c) ∧ !s.on 15 (fSwkKept c) ∧ s.get 15 (fTrx c) = 4 ∧ s.trxParked c = 0 then s.trxSleep c 0 else s) s

/-- PLAN_TICK (R325, R328): a tick while parked. -/
def planTick (meas : Nat) (temp : Int) (spentNah : Nat) (s : Pkg) : Pkg :=
  s.when (s.modeNow == mParkedCold || s.modeNow == mParkedWarm) (fun s =>
    let s := s.reachFrac (s.wake.tickAt + ns (s.get 15 fElTick * 1000000000))
    let before := s.remain
    let r := ((s.charge spentNah).ledgerEvents before false).plan false meas temp
    let s := r.1
    let s := if s.modeNow = mParkedWarm ∧ !s.on 15 fRetKept then (s.shedRetention).setMode mParkedCold 8 else s
    if r.2 then s.enterDormant else s.trxAfterShed)

/-- PLAN_TIMER (R331): the k-th housekeeping instant of the period. -/
def planTimer (k : Nat) (s : Pkg) : Pkg :=
  let end_ := (s.cnt 15 oElHorizonEnd).toNat
  let at_ := end_ - s.get 15 fElHorizonS * 1000000000 + k * s.get 15 fElHkPeriod * 3600000000000
  s.when ((s.modeNow == mParkedCold || s.modeNow == mParkedWarm) && s.on 15 fHkKept && s.get 15 fElHkPeriod != 0 && k != 0 &&
      decide (at_ < end_) && decide (s.countNs 15 ≤ at_)) (fun s => (s.reachCount 15 at_).wakeEvent 18 5)

/-- HK_MAX (R331): HK_MAX_S since the housekeeping wake. -/
def hkMax (s : State) : State :=
  match s.pkg.wake.hk with
  | none => s
  | some t => if !s.pkg.mayPark then s else { s with pkg := s.pkg.reachFrac (t + ns (s.pkg.get 15 fElHkMax * 1000000000)) }.park

/-! ### Retention (R332, R406) -/

/-- RETENTION_CONFIRM (R406): WARM_VALID once every present tile stands at VSTBY. -/
def retentionConfirm (tile at_ : Nat) (s : Pkg) : Pkg :=
  (s.reach at_).when (s.modeNow == mParkedWarm && decide (tile < s.variant.tiles) && s.on 15 fVstbyOn && !s.power.confirmed.contains tile) (fun s =>
    let s := s.onPower (fun p => { p with confirmed := tile :: p.confirmed })
    if s.present.all (fun t => s.power.confirmed.contains t) then s.raise 15 fWarmValid else s)

/-- VSTBY_LOW (R332, R406): below 0.50 V for more than 10 µs. -/
def vstbyLow (mv at_ : Nat) (s : Pkg) : Pkg :=
  (s.reach at_).when (s.on 15 fVstbyOn && decide (mv < 500)) (fun s => ((s.put 15 fVstbyMv mv).loseRetention).logPark plRetentionLost 0)

end Sys2Proof.Machine
end

