-- ==== Sys2Proof/Machine/Steward.lean ====
section
/-! DEFINITION. Chapter 12: rounds, votes, voter tests, the standby, restarts of clusters (R338–R350, R353–R355). What cores compute is outside the
package's commands; what a round's digests and outputs do to the SG block is here. -/
namespace Sys2Proof.Machine

/-! ### Registers (Table 12-3) -/

def fRoundUs : Fld := ⟨0x1D00000, 10, 0⟩
def fInjectPeriod : Fld := ⟨0x1D00000, 25, 16⟩
def fGraceUs : Fld := ⟨0x1D00004, 7, 0⟩
def fRole : Fld := ⟨0x1D00010, 1, 0⟩
def fCluster : Fld := ⟨0x1D00010, 3, 2⟩
def fCoresIn : Fld := ⟨0x1D00010, 6, 4⟩
def fStbyHealth : Fld := ⟨0x1D00010, 10, 8⟩
def fRound16 : Fld := ⟨0x1D00010, 31, 16⟩
/-- SG_EVT: 0 REPLAY, 1 EXCLUDED, 2 ROUND_FAIL, 3 VOTER_FAULT, 4 STBY_MISMATCH, 5 TAKEOVER, 6 DOUBT, 7 RESTART. -/
def fSgEvt (n : Nat) : Fld := ⟨0x1D00014, n, n⟩
def oSgRound : Nat := 0x1D00018
def oRoundStart : Nat := 0x1D00020
def fDoubtCount : Fld := ⟨0x1D00028, 5, 0⟩
def fDoubtOvf : Fld := ⟨0x1D00028, 6, 6⟩
def oLastMismatch : Nat := 0x1D0002C
/-- SG counters in the order of Table 12-3: 0 ROUNDS, 1 REPLAYS, 2 REPLAY_OK, 3 EXCLUSIONS, 4 ROUND_FAILS, 5 INJECT_RUNS, 6 INJECT_FAILS, 7 STBY_ROUNDS,
8 STBY_MISMATCH, 9 TAKEOVERS, 10 RESTARTS, 11 REISSUED, 12 LOCAL_DROPS. -/
def oSg (n : Nat) : Nat := 0x1D00040 + 8 * n
def oEarlyClose (r : Nat) : Nat := 0x1D000C0 + 8 * r
def doubtOff (i : Nat) : Nat := 0x1D00200 + 8 * i

/-- Roles and cluster states by their codes. -/
def roleManager : Nat := 0
def roleActive : Nat := 1
def roleStandby : Nat := 2
def roleRestarting : Nat := 3
def clTmr : Nat := 0
def clDuplex : Nat := 1
def clSplit : Nat := 2
def clUnlocked : Nat := 3
def hAbsent : Nat := 0
def hSyncing : Nat := 1
def hHealthy : Nat := 2
def hUnhealthy : Nat := 3
def hSuspended : Nat := 4

/-- STBY_HEALTH, on tiles 0 and 1 (R349). -/
def Pkg.setHealth (s : Pkg) (h : Nat) : Pkg := ([0, 1].filter s.tileOn).foldl (fun s t => s.put t fStbyHealth h) s
def Pkg.health (s : Pkg) : Nat := s.get 1 fStbyHealth

/-- A tile runs rounds: powered, its cluster in TMR or DUPLEX, not restarting, and not the standby, which re-executes (R338, R347, R348);
the steward runs none while a firmware-only activation replaces it (R394), and tile 0's cluster none once a takeover has isolated it (R352). -/
def Pkg.runsRounds (s : Pkg) (t : Nat) : Bool :=
  s.tileOn t && decide (s.get t fCluster ≤ 1) && s.get t fRole != roleRestarting && s.get t fRole != roleStandby &&
  !(t == s.steward && s.stewardAbsent) && !(t == 0 && s.steward != 0)

/-! ### Debug grants take effect at a round boundary (R302, R303) -/

/-- A cluster leaves lockstep (R302, R347). -/
def Pkg.unlockCluster (s : Pkg) (t : Nat) : Pkg := (s.put t fCluster clUnlocked).setCluster t { s.cluster t with closed := false, held := [] }

/-- An INVASIVE grant (R302): the vault is locked, every key cache is erased, clusters leave lockstep, the mode becomes DEBUG. -/
def Pkg.grantInvasive (s : Pkg) : Pkg :=
  let m := s.modeNow
  let s := s.raise 15 fKyLocked
  let s := s.powered.foldl (fun s t => s.zeroiseTile t) s
  let dies := s.powered.filter (fun t => s.mode.invMask.testBit t || t == s.steward)
  let s := dies.foldl (fun s t => s.unlockCluster t) s
  let s := if (dies.contains s.steward || dies.contains 1) && s.standby.isSome then s.setHealth hSuspended else s
  let s := ((s.raise 15 fLockstepBroken).put 15 fDebugLevel 2).onMode (fun x => { x with portClosed := false, cameFrom := m })
  s.setMode mDebug 14

/-- The request that waits takes effect, as judged again at the boundary. -/
def Pkg.grantDebug (s : Pkg) : Pkg :=
  match s.mode.debugReq with
  | none => s
  | some level =>
    if s.modeNow = mActivating then s
    else
      let ok : Bool := s.levelAllowed s.modeNow s.life level && (level != 2 || s.mode.invTicket.isSome)
      let s := s.onMode (fun m => { m with debugReq := none })
      if !ok then s.raise 15 fDebugRefused
      else if level = 2 then (if s.get 15 fDebugLevel = 2 then s else s.grantInvasive)
      else if s.get 15 fDebugLevel = 2 then s else s.put 15 fDebugLevel level

/-- The cores in service. -/
def Pkg.coresIn (s : Pkg) (t : Nat) : List Nat := (List.range 3).filter (fun k => (s.get t fCoresIn).testBit k)

/-- A round may close now: at a multiple of ROUND_US on the tile's count, early under the lowest code of Table 12-1 whose condition holds, or at once at
an input mismatch, which has no code (0). -/
def Pkg.roundDue (s : Pkg) (tile : Nat) (run : RoundRun) (x : RoundSt) : Bool :=
  match run.early with
  | some c => c == 0 || c == s.closeCode tile x run
  | none => s.countNs tile % us (s.get tile fRoundUs) == 0

/-- ROUND_BOUNDARY (R338): a round closes with what its cores did in it. A round that a core left with more than 512 outputs or 4,096 inputs, or with one
core more than 1,024 instructions ahead of another, does not exist (R338, R340). -/
def roundBoundary (tile : Nat) (run : RoundRun) (at_ : Nat) (s : Pkg) : Pkg :=
  let s := s.reach at_
  let counts := countsOf (s.coresIn tile) run
  let x := s.runRound tile run (leadCount counts)
  let fits : Bool := decide (x.held.length ≤ 512) && decide (x.log.length ≤ 4096) && closeTogether counts
  s.when (fits && s.roundDue tile run x && s.runsRounds tile && !(s.cluster tile).closed) (fun s =>
    let s := s.setCluster tile ((s.cluster tile).close x run (leadCount counts))
    let s := match run.early with | some c => if c = 0 then s else s.bump tile (oEarlyClose c) | none => s
    let s := s.setCnt tile oRoundStart (BitVec.ofNat 64 (s.countNs tile))
    if tile = s.steward then s.grantDebug else s)

/-! ### The vote (R341, R342, R344) -/

/-- DIGEST_GRACE (R341): a core is missing from the round that closed. -/
def digestGrace (tile core : Nat) (s : Pkg) : Pkg :=
  s.when (s.runsRounds tile && (s.cluster tile).closed && decide (core < 3)) (fun s =>
    s.setCluster tile { s.cluster tile with missing := if (s.cluster tile).missing.contains core then (s.cluster tile).missing else core :: (s.cluster tile).missing })

/-- What each core in service presented. -/
def ballots (cores : List Nat) (missing : List Nat) (d : List (Option (Quad × Quad))) : List (Nat × Option (Quad × Quad)) :=
  cores.map (fun k => (k, if missing.contains k then none else d.getD k none))

/-- All present, and the same. -/
def agreed (b : List (Nat × Option (Quad × Quad))) : Bool :=
  match b with
  | [] => false
  | (_, x) :: l => x.isSome && l.all (fun e => e.2 == x)

/-- A value that two cores presented. -/
def majority (b : List (Nat × Option (Quad × Quad))) : Option (Quad × Quad) :=
  (b.find? (fun e => e.2.isSome && decide (2 ≤ (b.filter (fun f => f.2 == e.2)).length))).bind (·.2)

/-- The dissenters: those outside a majority; without one, every core that is missing or that some other present core differs from. -/
def dissenters (b : List (Nat × Option (Quad × Quad))) : List Nat :=
  match majority b with
  | some v => (b.filter (fun e => e.2 != some v)).map (·.1)
  | none => (b.filter (fun e => e.2.isNone || b.any (fun f => f.2.isSome && f.2 != e.2))).map (·.1)

/-- SG_LAST_MISMATCH. -/
def Pkg.recordMismatch (s : Pkg) (t : Nat) (b : List (Nat × Option (Quad × Quad))) (replay input : Bool) : Pkg :=
  let present := b.filterMap (·.2)
  let outputs : Bool := present.any (fun x => present.any (fun y => x.1 != y.1))
  let states : Bool := present.any (fun x => present.any (fun y => x.2 != y.2))
  let kind := if input then 2 else if !outputs && states then 1 else 0
  s.wr t oLastMismatch (BitVec.ofNat 32 (((dissenters b).foldl (fun a k => a + 2 ^ k) 0) + bit (b.any (fun e => e.2.isNone)) * 8 + bit replay * 16 + kind * 32))

/-- A round is voted: its held outputs leave, and the cores are checkpointed (R342, R343). -/
def Pkg.released (s : Pkg) (t : Nat) (digest : Option (Quad × Quad)) : Pkg :=
  let n := s.cnt t oSgRound + 1
  let s := ((s.setCnt t oSgRound n).put t fRound16 (n.toNat % 65536)).bump t (oSg 0)
  let c := s.cluster t
  s.setCluster t { c with closed := false, missing := [], votedAt := s.now, digest := digest.map (·.1), held := [], leaving := c.held }

/-- The round fails (R342), or a voter test does (R344): the outputs are discarded and the failure is reported (R350, R353). -/
def Pkg.roundFails (s : Pkg) (t : Nat) : Pkg :=
  s.setCluster t { s.cluster t with closed := false, missing := [], reports := true, held := [] }

/-- The voter test on digests that agree (R344): the state, and whether it passed. -/
def Pkg.voterTest (s : Pkg) (t : Nat) (ok : Bool) : Pkg × Bool :=
  let c := s.cluster t
  if c.since + 1 < s.get t fInjectPeriod then (s.setCluster t { c with since := c.since + 1 }, true)
  else
    let s := (s.bump t (oSg 5)).setCluster t { c with since := 0, testCore := (c.testCore + 1) % 3, testBit := (c.testBit + 1) % 64 }
    if ok then (s, true) else ((s.bump t (oSg 6)).raise t (fSgEvt 3), false)

/-- VOTE (R342). -/
def vote (tile : Nat) (v : VoteIn) (at_ : Nat) (s : Pkg) : Pkg :=
  (s.reach at_).when (s.runsRounds tile && (s.cluster tile).closed) (fun s =>
    let b := ballots (s.coresIn tile) (s.cluster tile).missing v.first
    let input := v.input || (s.cluster tile).badInput
    if agreed b && !input then
      let r := s.voterTest tile v.testOk
      if r.2 then r.1.released tile (b.head?.bind (·.2)) else r.1.roundFails tile
    else
      let s := s.setCluster tile { s.cluster tile with since := (s.cluster tile).since + 1 }
      let s := ((s.recordMismatch tile b false input).bump tile (oSg 1)).raise tile (fSgEvt 0)
      let b2 := ballots (s.coresIn tile) [] v.replay
      if agreed b2 then (s.bump tile (oSg 2)).released tile (b2.head?.bind (·.2))
      else
        let s := s.recordMismatch tile b2 true false
        match (if s.get tile fCluster = clTmr then majority b2 else none), dissenters b, dissenters b2 with
        | some x, [k], [k2] =>
          if k = k2 then
            let s := ((s.put tile fCoresIn (s.get tile fCoresIn - 2 ^ k)).put tile fCluster clDuplex).bump tile (oSg 3)
            (s.raise tile (fSgEvt 1)).released tile (some x)
          else ((s.bump tile (oSg 4)).raise tile (fSgEvt 2)).roundFails tile
        | _, _, _ => ((s.bump tile (oSg 4)).raise tile (fSgEvt 2)).roundFails tile)

/-! ### The standby (R348–R350) -/

/-- The standby enters SYNCING; three times within 10 s leave it UNHEALTHY until its tile restarts (R349). -/
def Pkg.standbySyncs (s : Pkg) : Pkg :=
  let c := s.cluster 1
  let l := (c.fails.filter (fun t => decide (s.now < t + ns (10 * 1000000000)))) ++ [s.now]
  (s.setCluster 1 { c with fails := l, synced := false }).setHealth (if 3 ≤ l.length then hUnhealthy else hSyncing)

/-- STANDBY_ROUND (R349): the standby's re-executed round ends: each digest of the active is compared once. -/
def standbyRound (digest : Quad) (ownVoteOk : Bool) (at_ : Nat) (s : Pkg) : Pkg :=
  (s.reach at_).when
    (s.standby.isSome && s.get 1 fRole == roleStandby && (s.health == hHealthy || (s.health == hSyncing && (s.cluster 1).synced)) &&
      (s.cluster s.steward).digest.isSome)
    (fun s =>
      let active := (s.cluster s.steward).digest
      let s := s.setCluster s.steward { s.cluster s.steward with digest := none }
      if !ownVoteOk then s.standbySyncs
      else if active = some digest then (s.bump 1 (oSg 7)).setHealth hHealthy
      else
        let s := ([0, 1].filter s.tileOn).foldl (fun s t => s.raise t (fSgEvt 4)) (s.bump 1 (oSg 8))
        s.standbySyncs)

/-- STANDBY_SYNC (R349): the active's checkpoint reaches a standby in SYNCING. -/
def standbySync (at_ : Nat) (s : Pkg) : Pkg :=
  (s.reach at_).when (s.standby.isSome && s.health == hSyncing) (fun s => s.setCluster 1 { s.cluster 1 with synced := true })

/-- A standby may take over: HEALTHY, in its role, on a tile in service (R350). -/
def Pkg.standbyReady (s : Pkg) : Bool := s.inService 1 && s.get 1 fRole == roleStandby && s.health == hHealthy

/-- No voted digest has come within ROUND_US + GRACE_US of the previous one (R350, R353). -/
def Pkg.digestLate (s : Pkg) (t : Nat) : Bool :=
  decide ((s.cluster t).votedAt + ns (us (s.get t fRoundUs + s.get t fGraceUs)) ≤ s.now)

/-! ### Restarts (R353, R354) -/

/-- STEWARD_RESTART (R353, R354): a cluster whose round failed, whose voter is faulty or whose digest does not come restarts itself; the active
steward's does so only without a HEALTHY standby. A second restart within 10 s resets the package, or for a tile manager loses the tile. -/
def stewardRestart (tile at_ : Nat) (s : Pkg) : Pkg :=
  let s := s.reach at_
  let c := s.cluster tile
  s.when (s.runsRounds tile && s.inService tile && !(tile == s.steward && s.standbyReady) &&
      (c.reports || (tile == s.steward && s.digestLate tile))) (fun s =>
    let recent := c.restarts.filter (fun t => decide (s.now < t + ns (10 * 1000000000)))
    if recent ≠ [] then (if tile = s.steward then s.coldReset 15 else (s.loseTile tile).ksDropTile tile)
    else
      let s := s.setCluster tile { c with closed := false, missing := [], reports := false, restarts := recent ++ [s.now], held := [] }
      let s := ((s.put tile fRole roleRestarting).bump tile (oSg 10)).raise tile (fSgEvt 7)
      if tile = s.steward then s.degrade 11 else s)

/-- A cluster begins rounds afresh in a role (R353, R386). -/
def Pkg.beginRounds (s : Pkg) (t role : Nat) : Pkg :=
  let s := s.setCluster t { s.cluster t with closed := false, missing := [], reports := false, votedAt := s.now, digest := none, synced := false,
                                             held := [], log := [], point := 0, irqs := 0, faults := 0, due := 0 }
  (s.put t fRole role).setCnt t oRoundStart (BitVec.ofNat 64 (s.countNs t))

/-- A write of SG_REJOIN.REJOIN (R346): split mode ends; while the cluster is not split it is out of shape. -/
def rejoinEff (r : Req) (tile : Nat) (value : Word) (s : Pkg) : Pkg :=
  if !value.getLsbD 0 then s
  else if s.get tile fCluster ≠ clSplit then s.cfgErr r tile cOutOfShape (pkgAddr tile 0x1D00008)
  else ((s.put tile fCluster clTmr).put tile fCoresIn 7).beginRounds tile (s.get tile fRole)

/-- A write of SG_DOUBT_CLEAR (R352). -/
def doubtClearEff (tile : Nat) (value : Word) (s : Pkg) : Pkg :=
  if !value.getLsbD 0 then s
  else ((s.clearWords tile (doubtOff 0) (doubtOff 32)).put tile fDoubtCount 0).put tile fDoubtOvf 0

end Sys2Proof.Machine
end

