-- ==== Sys2Proof/Machine/Tickets.lean ====
section
/-! DEFINITION. Pligen tickets, fuses, the end of a vault command (R264–R266, R282, R283). Numbers of a ticket are taken most significant byte
first and the words of a key hash as its bytes in ascending order (DESIGN CHOICE: see the log). -/
namespace Sys2Proof.Machine

/-- The ticket in the input buffer, field by field (Table 9-10). -/
structure Ticket where
  bytes  : List Byte
deriving DecidableEq, Repr

def Ticket.typ (t : Ticket) : Nat := beAt t.bytes 6 2
def Ticket.validS (t : Ticket) : Nat := beAt t.bytes 40 4
def Ticket.signer (t : Ticket) : Nat := beAt t.bytes 44 1
def Ticket.gen (t : Ticket) : Nat := beAt t.bytes 45 1
def Ticket.payLen (t : Ticket) : Nat := beAt t.bytes 48 2
def Ticket.payload (t : Ticket) : List Byte := sliceBytes t.bytes 52 t.payLen
def Ticket.ec (t : Ticket) : List Byte := sliceBytes t.bytes (52 + t.payLen) 97
def Ticket.pq (t : Ticket) : List Byte := sliceBytes t.bytes (149 + t.payLen) 1952
def Ticket.body (t : Ticket) : List Byte := sliceBytes t.bytes 0 (2101 + t.payLen)
def Ticket.sigEc (t : Ticket) : List Byte := sliceBytes t.bytes (2101 + t.payLen) 96
def Ticket.sigPq (t : Ticket) : List Byte := sliceBytes t.bytes (2197 + t.payLen) 3309

/-- Step 1 of R283: magic, version, lengths and fixed fields. -/
def Ticket.formOk (t : Ticket) : Bool :=
  beAt t.bytes 0 4 == 0x504C474E && beAt t.bytes 4 2 == 1 && 1 ≤ t.typ && t.typ ≤ 4 && beAt t.bytes 20 4 ≤ 1 &&
  1 ≤ t.validS && t.validS ≤ 604800 && t.signer ≤ 1 && t.payLen ≤ 256 &&
  (match t.typ with | 1 => t.payLen == 4 | 3 => t.payLen == 1 | 4 => t.payLen % 8 == 0 | _ => true)

/-- Step 2 of R283: the public keys against the fuses of the signer. -/
def Pkg.ticketKeysOk (s : Pkg) (t : Ticket) : Bool :=
  let ec := sha384Bytes t.ec
  let pq := sha384Bytes t.pq
  if t.signer = 1 then
    s.bytesAt 15 0x70200 48 != List.replicate 48 0 && ec == s.bytesAt 15 0x70200 48 && pq == s.bytesAt 15 0x70240 48
  else
    t.gen < 2 && !(s.get 15 fVendorRevoked).testBit t.gen &&
    ec == s.bytesAt 15 (0x70100 + 0x80 * t.gen) 48 && pq == s.bytesAt 15 (0x70140 + 0x80 * t.gen) 48

/-- Table 9-11: a type a lifecycle grants to a signer. The rows of a FUSE_PROGRAM in FIELD and SERVICE are limited to SCRAPPED and
VENDOR_REVOKED. -/
def Pkg.ticketPermitted (s : Pkg) (t : Ticket) : Bool :=
  let l := s.life
  let rows := (List.range (t.payLen / 8)).map (fun i => (beAt t.payload (8 * i) 4, beAt t.payload (8 * i + 4) 4))
  if l = lScrapped then false
  else match t.typ with
    | 1 => l == lProvisioned || ((l == lField || l == lService) && t.signer == 1)
    | 2 => (l == lField || l == lService) && t.signer == 1
    | 3 => (l == lBlank && t.signer == 0) || l == lProvisioned || ((l == lField || l == lService) && t.signer == 1 && s.mode.govCap == 2)
    | 4 => s.modeNow == mProvision &&
        ((l == lBlank && t.signer == 0) || l == lProvisioned ||
         ((l == lField || l == lService) && t.signer == 1 && beAt t.bytes 20 4 == 0 &&
          rows.all (fun r => r.1 == 0x70000 && Nat.land r.2 0xFFF3FFFB == 0)))
    | _ => false

/-- The bits of a fuse word that a ticket may blow: none where the offset names no fuse. -/
def fuseBits (off : Nat) : Nat :=
  if off = 0x70000 then 0x000F0007
  else if off % 4 = 0 ∧ ((0x70008 ≤ off ∧ off < 0x70010) ∨ (0x70018 ≤ off ∧ off < 0x70024) ∨ (0x70100 ≤ off ∧ off < 0x70130) ∨
      (0x70140 ≤ off ∧ off < 0x70170) ∨ (0x70180 ≤ off ∧ off < 0x701B0) ∨ (0x701C0 ≤ off ∧ off < 0x701F0) ∨
      (0x70200 ≤ off ∧ off < 0x70230) ∨ (0x70240 ≤ off ∧ off < 0x70270)) then 0xFFFFFFFF
  else 0

/-- Number of 1 bits among the lowest n. -/
def popCount : Nat → Nat → Nat
  | 0, _ => 0
  | n + 1, v => v % 2 + popCount n (v / 2)

/-- Blow bits of a fuse word: a fuse bit only goes from 0 to 1 (R266). ROLLBACK_STEP counts the rollback fuses. -/
def Pkg.blow (s : Pkg) (off v : Nat) : Pkg :=
  let s := s.wr 15 off (s.rd 15 off ||| BitVec.ofNat 32 v)
  s.put 15 ⟨0x70010, 6, 0⟩ (popCount 64 (s.rd64 15 0x70008))

/-- FUSE_PROGRAM (R265, R266): the rows in order, up to one that does not read back; the root when the ticket asks for it. -/
def Pkg.fuseProgram (s : Pkg) (t : Ticket) (fail : Option Nat) : Pkg × Nat :=
  let rows := (List.range (t.payLen / 8)).map (fun i => (beAt t.payload (8 * i) 4, beAt t.payload (8 * i + 4) 4))
  let root : Bool := beAt t.bytes 20 4 == 1
  if rows.any (fun r => Nat.land r.2 (fuseBits r.1) != r.2) ∨ (root ∧ s.on 15 fRootPresent) then (s, kBadTicket)
  else
    let n := (fail.getD rows.length)
    let s := (rows.take n).foldl (fun s r => s.blow r.1 r.2) s
    if n < rows.length then (s.bump 15 oKyFuseFail, kBadTicket)
    else if root then
      ((((s.onVault (fun v => { v with root := Config.randomBytes s.fresh 32 })).tookFree 1).raise 15 fRootPresent), kOk)
    else (s, kOk)

/-- The effect of an accepted ticket (Table 9-11). -/
def Pkg.ticketEffect (s : Pkg) (t : Ticket) (fail : Option Nat) : Pkg × Nat :=
  let lapse := s.countNs 15 + t.validS * 1000000000
  match t.typ with
  | 1 => (if beNat t.payload = (s.rd 15 0x50004).toNat then s.put 15 ⟨0x50004, 10, 0⟩ 0 else s, kOk)
  | 2 => (s.onMode (fun m => { m with service := some lapse }), kOk)
  | 3 => (s.onMode (fun m => { m with invTicket := some lapse, invMask := beNat t.payload }), kOk)
  | _ => s.fuseProgram t fail

/-- A ticket is judged in the order of R283; it consumes the nonce whatever its result. -/
def Pkg.doTicket (s : Pkg) (fail : Option Nat) : Pkg × Nat :=
  let t : Ticket := ⟨s.bytesAt 15 oKyIn 8192⟩
  let nonce := s.bytesAt 15 oKyNonce 16
  let ok : Bool := t.formOk && s.ticketKeysOk t && ecdsaVerify t.ec t.body t.sigEc && Config.mldsaVerify t.pq t.body t.sigPq &&
    sliceBytes t.bytes 8 8 == s.unitId && sliceBytes t.bytes 16 4 == s.hwType &&
    nonce != List.replicate 16 0 && sliceBytes t.bytes 24 16 == nonce
  let s := s.clearWords 15 oKyNonce (oKyNonce + 16)
  if !ok then (s, kBadTicket) else if !s.ticketPermitted t then (s, kRefused) else s.ticketEffect t fail

/-- VAULT_COMMAND_DONE (R271): the running command has its effect and ends with its result. -/
def vaultCommandDone (fuseFail : Option Nat) (at_ : Nat) (s : Pkg) : Pkg :=
  let s := s.reach at_
  match s.vault.run with
  | none => s
  | some r =>
    if r.op = 7 then
      let x := s.doTicket fuseFail
      (x.1.bump 15 (if x.2 = kOk then oKyTicketsOk else oKyTicketsBad)).vaultEnd x.2
    else (s.vaultEffect r).vaultEnd r.result

/-- DERIVE (R270), IMPORT (R272), REVOKE (R273), RELEASE (R277), NONCE, ATTEST (R281), TICKET (R283), written to KY_CMD by the active steward. -/
def deriveEff (slot : Nat) (s : Pkg) : Pkg := vaultStart 1 slot s
def importEff (slot : Nat) (s : Pkg) : Pkg := vaultStart 2 slot s
def revokeEff (slot : Nat) (s : Pkg) : Pkg := vaultStart 3 slot s
def slotReleaseEff (slot : Nat) (s : Pkg) : Pkg := vaultStart 4 slot s
def nonceEff (s : Pkg) : Pkg := vaultStart 5 0 s
def attestEff (s : Pkg) : Pkg := vaultStart 6 0 s
def ticketEff (s : Pkg) : Pkg := vaultStart 7 0 s

end Sys2Proof.Machine
end

