-- ==== Sys2Proof/Machine/Modes.lean ====
section
/-! DEFINITION. Chapter 10: mode requests, resets, debug requests, lapses, tamper events, and what a keystone commit does to the powered tiles
(R284–R289, R294–R306). -/
namespace Sys2Proof.Machine

def fModeErrCode : Fld := ⟨0x60018, 2, 0⟩
def fModeErrTarget : Fld := ⟨0x60018, 6, 3⟩
def fModeErrOvf : Fld := ⟨0x60018, 30, 30⟩
def fModeErrValid : Fld := ⟨0x60018, 31, 31⟩

/-- The codes of PW_MODE_ERR. -/
def xMatrix : Nat := 1
def xPolicy : Nat := 2
def xNotFromMode : Nat := 3
def xBusy : Nat := 4

/-- A mode request is refused (R305, R307): the first unacknowledged refusal is kept; MATRIX and POLICY are also recorded as REFUSED. -/
def Pkg.refuseMode (s : Pkg) (r : Req) (code target : Nat) : Pkg :=
  let s := s.bump 15 oRefused
  let s := if code ≤ 2 then s.merr r eRefused true (pkgAddr 15 0x60004) else s
  if s.on 15 fModeErrValid then s.raise 15 fModeErrOvf
  else ((s.put 15 fModeErrCode code).put 15 fModeErrTarget target).raise 15 fModeErrValid

/-- The tiles that a request powers: every present one in RUN, those of PW_PART.TILES in RUN-PARTIAL (Table 10-1). -/
def Pkg.wantedTiles (s : Pkg) (target : Nat) : Nat := if target = mRun then allTiles s.variant else s.get 15 fPwParts

/-- A write of PW_MODE_REQ by the active steward (R295, R296, R305). -/
def modeRequestEff (r : Req) (value : Word) (s : Pkg) : Pkg :=
  let t := fieldGet value 3 0
  let mask := s.wantedTiles t
  if t ≠ mRun ∧ t ≠ mRunPartial ∧ t ≠ mProvision then s.cfgErr r 15 cOutOfShape (pkgAddr 15 0x60004)
  else if s.mode.nextParts.isSome ∨ s.mode.provNext ∨ s.modeNow = mActivating then s.refuseMode r xBusy t
  else if s.modeNow ≠ mRun ∧ s.modeNow ≠ mRunPartial then s.refuseMode r xNotFromMode t
  else if !matrixAllows t s.life then s.refuseMode r xMatrix t
  else if !s.policyAllows t s.life then s.refuseMode r xPolicy t
  else if t = mProvision then s.onMode (fun m => { m with provNext := true })
  else
    let target := if mask = allTiles s.variant then mRun else mRunPartial
    (s.addTiles mask).onMode (fun m => { m with nextParts := some (mask, target) })

/-- A keystone step that may take tiles out of service (R295): tiles that a commit removed go into retention, fed from VSTBY. -/
def Pkg.withRemoval (s : Pkg) (f : Pkg → Pkg) : Pkg :=
  let s' := f s
  let gone := s.powered.filter (fun t => !s'.tileOn t)
  if gone.isEmpty ∨ parkedMode s'.modeNow ∨ s'.modeNow = mWaking then s'
  else
    let s' := (gone.foldl (fun s t => s.tileDown false t) s').vstby true
    (s'.onKs (fun k => { k with tiles := k.tiles.filter (fun t => !gone.contains t) })).checkDone

/-- A write of PW_CMD (R295). -/
def resetEff (value : Word) (s : Pkg) : Pkg :=
  if value.getLsbD 0 && !parkedMode s.modeNow && s.power.phase != 0 then s.coldReset 15 else s

/-- A write of PW_DEBUG (R303): a request for a level. -/
def debugRequestEff (r : Req) (value : Word) (s : Pkg) : Pkg :=
  let level := fieldGet value 1 0
  if level = 3 then s.cfgErr r 15 cOutOfShape (pkgAddr 15 0x60010)
  else
    let s := if fieldGet value 30 30 = 1 then s.put 15 fDebugRefused 0 else s
    let s := s.put 15 fDebugReq level
    let now_ := s.get 15 fDebugLevel
    if level = 0 then
      (if now_ = 2 then s.raise 15 fDebugRefused else (s.put 15 fDebugLevel 0).onMode (fun m => { m with debugReq := none }))
    else if level = 2 ∧ s.modeNow = mActivating then s.onMode (fun m => { m with debugReq := some 2 })
    else if s.levelAllowed s.modeNow s.life level && (level != 2 || s.mode.invTicket.isSome) then s.onMode (fun m => { m with debugReq := some level })
    else s.raise 15 fDebugRefused

/-- SERVICE_LAPSE (R299): VALID_S of the SERVICE_ENTRY ticket passes; a package it leaves in PROVISION resets. -/
def serviceLapse (s : Pkg) : Pkg :=
  match s.mode.service with
  | none => s
  | some t =>
    let s := (s.reachCount 15 t).onMode (fun m => { m with service := none, provNext := false })
    if s.modeNow = mProvision then s.coldReset 19 else s

/-- DEBUG_TICKET_LAPSE (R302): the port returns to CLOSED access; the mode stays DEBUG. -/
def debugTicketLapse (s : Pkg) : Pkg :=
  match s.mode.invTicket with
  | none => s
  | some t => (s.reachCount 15 t).onMode (fun m => { m with invTicket := none, portClosed := true })

/-! ### Tamper (R284–R289, R306) -/

/-- Zeroisation on the sentinel (R285, R286): the root is locked, every slot ZEROISED, the buffers are cleared, a running command ends with TAMPERED. -/
def Pkg.zeroiseVault (s : Pkg) : Pkg :=
  let s := ((s.raise 15 fTpLine).raise 15 fRootLocked).raise 15 fKyZeroised
  let s := ((List.range 4096).filter (fun k => s.rd 15 (slotOff k) != 0)).foldl (fun s k => s.put 15 (fSlState k) 3) s
  let s := (s.put 15 fSlotsUsed 4096).onVault (fun v => { v with keys := [], ctx4 := [] })
  let s := (s.clearWords 15 oKyIn (oKyIn + 0x2000)).clearWords 15 oKyAttest (oKyAttest + 0x2000)
  let s := (s.clearWords 15 oKyOut (oKyOut + 0x100)).clearWords 15 oKyNonce (oKyNonce + 16)
  if s.vault.run.isSome then ((s.vaultEnd kTampered).bump 15 oKyTamperAborts).raise 15 fTpKeyOp else s

/-- The package enters QUARANTINE (R295, R306). -/
def Pkg.enterQuarantine (s : Pkg) : Pkg :=
  (s.onMode (fun m => { m with quarantine := true, nextParts := none, provNext := false })).setMode mQuarantine 6

/-- An activation reverts (R396): the restart is repeated on every tile that takes part. -/
def Pkg.startRevert (s : Pkg) : Pkg :=
  s.onBoot (fun b => { b with revert := true, actFrom := s.now, actLeft := if b.act = 1 then [s.steward] else s.serving })

/-- What a tamper event does in each mode (Table 10-5). In the clock of a wake it comes first (R313). -/
def Pkg.tamperMode (s : Pkg) : Pkg :=
  let m := s.modeNow
  if s.life = lScrapped ∨ m = mQuarantine then s
  else if parkedMode m then
    let s := s.raise 15 fTpPark
    let s := if m = mParkedWarm then s.shedRetention else s
    if s.on 15 ⟨0x50020, 0, 0⟩ then s.wakeEvent 19 6 else s
  else if m = mWaking ∨ m = mBoot then
    let together : Bool := match s.wake.took with | some (_, t, _) => t == s.now | none => false
    ((if together && s.on 15 ⟨0x50020, 0, 0⟩ then s.mergeWake 19 6 else s).raise 15 fTpBoot).onMode (fun x => { x with quarantine := true })
  else if m = mActivating then
    (s.onMode (fun x => { x with quarantine := true })).startRevert
  else s.enterQuarantine

/-- TAMPER_EVENT (R284–R288, R306): a source becomes active. In BLANK it only latches. -/
def tamperEvent (source at_ : Nat) (s : Pkg) : Pkg :=
  (s.reach at_).when (source < 8 && s.power.bat != 0 && (4 ≤ source || s.on 15 ⟨0x50010 + 4 * source, 0, 0⟩)) (fun s =>
    let s := if s.tampered then s else s.setCnt 15 0x50008 (BitVec.ofNat 64 (s.countNs 15))
    let s := (s.put 15 ⟨0x50004, source, source⟩ 1).put 15 ⟨0x50000, source + 1, source + 1⟩ 1
    let s := if s.cnt 15 0x50028 = BitVec.allOnes 64 then s else s.bump 15 0x50028
    if s.life = lBlank then s
    else (if s.on 15 fTpLine then s else s.zeroiseVault).tamperMode)

end Sys2Proof.Machine
end

