-- ==== Sys2Proof/Machine/Lift.lean ====
section
/-! DEFINITION. From an effect on the package to a command's meaning on the machine: what every command does at its end. -/
namespace Sys2Proof.Machine

/-- The end of every command: the MSI-X logic of the endpoints (R235), and the byte memories of tiles that have lost what they held. -/
def State.finish (s : State) : State :=
  let p := s.pkg.settle
  { s with pkg := { p with wipe := [] }, mem := p.wipe.foldl Mem.clearTile s.mem }

/-- An effect on the package as an effect on the machine. -/
def State.onPkg (f : Pkg → Pkg) (s : State) : State := { s with pkg := f s.pkg }.finish

/-- An effect that may give cells or credit back: frames of the trestle that wait for credit enter port 21 (R115, R211). -/
def State.onFlow (f : Pkg → Pkg) (s : State) : State :=
  s.onPkg (fun p => let p := f p; p.flushEth p.steward)

/-- A command that the package takes and answers with a next state. -/
abbrev Next (s : State) : Host.Outcome State Fault Refusal := .next s

end Sys2Proof.Machine
end

