-- ==== Sys2Proof/Machine/Census.lean ====
section
/-! DEFINITION. Chapter 13: the census (R356–R362). -/
namespace Sys2Proof.Machine

/-! ### Registers (Tables 13-1, 13-3, 13-6) -/

def fPeriodic : Fld := ⟨0x1E00000, 0, 0⟩
def fIncludeSnt : Fld := ⟨0x1E00000, 1, 1⟩
def fCenHold : Fld := ⟨0x1E00000, 2, 2⟩
def fIntervalUs : Fld := ⟨0x1E00004, 23, 0⟩
def oCenAt : Nat := 0x1E0000C
def fLeadUs : Fld := ⟨0x1E00014, 7, 0⟩
def fCenState : Fld := ⟨0x1E00018, 1, 0⟩
def fCenDone : Fld := ⟨0x1E00018, 2, 2⟩
def fCenLate : Fld := ⟨0x1E00018, 3, 3⟩
def fCenAbsent : Fld := ⟨0x1E00018, 4, 4⟩
def cenSlot (d : Nat) : Nat := if d = 15 then 7 else d
def fCenDie (d : Nat) : Fld := ⟨0x1E0001C, 2 * cenSlot d + 1, 2 * cenSlot d⟩
def oCenLastTs : Nat := 0x1E00020
def oCensuses : Nat := 0x1E00040
def oCenLate : Nat := 0x1E00048
def oCenAbsent : Nat := 0x1E00050
def oCenBusy : Nat := 0x1E00058
def oCenOverwritten : Nat := 0x1E00060

def Pkg.cenDie (s : Pkg) (d : Nat) : CenDie := SMap.get {} s.cens d
def Pkg.setCenDie (s : Pkg) (d : Nat) (x : CenDie) : Pkg := { s with cens := SMap.set {} s.cens d x }
def Pkg.onCen (s : Pkg) (f : CenCoord → CenCoord) : Pkg := { s with cenReq := f s.cenReq }

/-- Units of a die (R356). -/
def cenUnits (d : Nat) : Nat := if d = 15 then 64 else 291

/-- The counters of a die in map order (R356, R360). -/
def Pkg.cenVals (s : Pkg) (d : Nat) : List Quad :=
  (List.range (cenUnits d)).flatMap (fun i =>
    let e := Config.censusMap d i
    (List.range ((natBits e 30 26 + 15) % 16 + 1)).map (fun k => s.cnt d (natBits e 25 0 + 8 * k)))

/-- A die latches its counters for T_s (R357, R359): 0 ON_TIME, 1 LATE. -/
def Pkg.cenLatch (s : Pkg) (d ts : Nat) (late : Bool) : Pkg :=
  let b : CenBank := { ts := ts, latched := s.countNs d, status := bit late, vals := s.cenVals d }
  let x := s.cenDie d
  let s := s.setCenDie d { x with bank := some b, pend := if x.pend = some ts then none else x.pend }
  if d = s.cenReq.tile ∧ s.cenReq.active ∧ s.cenReq.ts = ts then s.put d fCenState 2 else s

/-- A die latches late where its time is not locked (R359). -/
def Pkg.cenUnlocked (s : Pkg) (d : Nat) : Bool := d != 15 && s.get d ⟨0x10000C, 0, 0⟩ == 0

/-- CENSUS_LATCH (R357, R358): T_s on a die, periodic or requested. -/
def censusLatch (die : Nat) (periodic : Bool) (at_ : Nat) (s : Pkg) : Pkg :=
  if periodic then
    let s := s.reach at_
    let t := if die = 15 then s.steward else die
    let ok : Bool := s.dieOn die && s.dieOn t && s.on t fPeriodic && at_ % us (s.get t fIntervalUs) == 0 && s.get t fIntervalUs != 0 &&
      (die != 15 || (s.on t fIncludeSnt && decide (100 ≤ s.get t fIntervalUs)))
    s.when ok (fun s => s.cenLatch die at_ (s.cenUnlocked die))
  else
    match (s.cenDie die).pend with
    | some ts => s.when (s.dieOn die) (fun s => (s.reachCount die ts).cenLatch die ts (s.cenUnlocked die))
    | none => s

/-- A die takes the prepare (R359): it latches on arrival where T_s has passed. -/
def Pkg.cenPrepare (s : Pkg) (d : Nat) : Pkg :=
  if s.cenReq.ts < s.countNs d then s.cenLatch d s.cenReq.ts true
  else s.setCenDie d { s.cenDie d with pend := some s.cenReq.ts }

/-- The coordinator notes a status of a die (R359): 1 LATE, 2 ABSENT. -/
def Pkg.cenNote (s : Pkg) (d status : Nat) : Pkg :=
  let t := s.cenReq.tile
  let s := s.put t (fCenDie d) status
  if status = 1 then (s.raise t fCenLate).bump t oCenLate else if status = 2 then (s.raise t fCenAbsent).bump t oCenAbsent else s

/-- Every die concerned has published or is ABSENT: DONE, IDLE, vector 27 (R360). -/
def Pkg.cenFinish (s : Pkg) : Pkg :=
  if s.cenReq.active ∧ s.cenReq.left.isEmpty then
    let t := s.cenReq.tile
    ((s.put t fCenState 0).raise t fCenDone).onCen (fun c => { c with active := false, unsent := [], told := true })
  else s

/-- A write of CS_CEN_REQ (R358). -/
def censusRequestEff (r : Req) (tile : Nat) (value : Word) (s : Pkg) : Pkg :=
  if !value.getLsbD 0 then s
  else if tile ≠ s.steward then s.merr r eRefused true (pkgAddr tile 0x1E00008)
  else if s.get tile fCenState ≠ 0 then s.bump tile oCenBusy
  else
    let ts := if value.getLsbD 1 then s.rd64 tile oCenAt else s.countNs tile + us (s.get tile fLeadUs)
    let snt : List Nat := if s.on tile fIncludeSnt then [15] else []
    let dies := s.serving ++ snt
    let absent := (List.range s.variant.tiles).filter (fun t => !s.inService t)
    let s := s.onCen (fun _ => { active := true, tile := tile, ts := ts, left := dies, unsent := dies.filter (· != tile) })
    let s := (s.put tile fCenState 1).wr tile 0x1E0001C 0xFFFF#32
    let s := dies.foldl (fun s d => s.put tile (fCenDie d) 0) s
    (absent.foldl (fun s d => s.cenNote d 2) s).cenPrepare tile

/-- CENSUS_PREPARE (R358, R359). -/
def censusPrepare (die at_ : Nat) (s : Pkg) : Pkg :=
  (s.reach at_).when (s.cenReq.active && s.cenReq.unsent.contains die && s.dieOn die && s.pathUp s.cenReq.tile die) (fun s =>
    (s.onCen (fun c => { c with unsent := c.unsent.filter (· != die) })).cenPrepare die)

/-- The words of a bank (Table 13-1). -/
def CenBank.words (b : CenBank) (units : Nat) : List Word :=
  [BitVec.ofNat 32 b.ts, BitVec.ofNat 32 (b.ts / 2 ^ 32), BitVec.ofNat 32 b.latched, BitVec.ofNat 32 (b.latched / 2 ^ 32),
   BitVec.ofNat 32 (b.status + units * 2 ^ 16), 0, 0, 0] ++
  b.vals.flatMap (fun v => [BitVec.ofNat 32 v.toNat, BitVec.ofNat 32 (v.toNat / 2 ^ 32)])

/-- The tile and the offset of the window in which a die's bank shows (Table 13-3). -/
def Pkg.cenWindow (s : Pkg) (d : Nat) : Nat × Nat := if d = 15 then (s.steward, 0x3A20000) else (d, 0x3A00000)

/-- A bank goes into its window (R360). -/
def Pkg.cenShow (s : Pkg) (d : Nat) (b : CenBank) : Pkg :=
  let w := s.cenWindow d
  let l := b.words (cenUnits d)
  let s := (List.range l.length).foldl (fun s i => s.wr w.1 (w.2 + 4 * i) (l.getD i 0)) s
  if d = 15 then s else s.setCnt d oCenLastTs (BitVec.ofNat 64 b.ts)

/-- A tile's window keeps its bank: HOLD is set, and was not set in this very clock, where a publish comes first (R361). -/
def Pkg.cenHolds (s : Pkg) (t : Nat) : Bool := s.on t fCenHold && (s.cenDie t).heldAt != some s.now

/-- CENSUS_PUBLISH (R360, R361): a latched bank is published, or with HOLD waits behind the window's bank. -/
def censusPublish (die at_ : Nat) (s : Pkg) : Pkg :=
  let s := s.reach at_
  let x := s.cenDie die
  match x.bank with
  | none => s
  | some b =>
    let t := (s.cenWindow die).1
    s.when (s.dieOn die && s.tileOn t) (fun s =>
      let s :=
        if s.cenHolds t then
          (if x.waiting.isSome then s.bump t oCenOverwritten else s).setCenDie die { x with bank := none, waiting := some b }
        else (s.setCenDie die { x with bank := none, waiting := none }).cenShow die b
      let s := if die = 15 then s else (s.raise die fCenDone).bump die oCensuses
      if s.cenReq.active ∧ s.cenReq.ts = b.ts ∧ s.cenReq.left.contains die then
        ((s.cenNote die b.status).onCen (fun c => { c with left := c.left.filter (· != die) })).cenFinish
      else s)

/-- CENSUS_ABSENT (R359): 100 µs after T_s a die has not reported. -/
def censusAbsent (die : Nat) (s : Pkg) : Pkg :=
  s.when (s.cenReq.active && s.cenReq.left.contains die) (fun s =>
    let s := s.reachCount s.cenReq.tile (s.cenReq.ts + us 100)
    let x := s.cenDie die
    let s := s.setCenDie die { x with bank := none, pend := if x.pend = some s.cenReq.ts then none else x.pend }
    ((s.cenNote die 2).onCen (fun c => { c with left := c.left.filter (· != die), unsent := c.unsent.filter (· != die) })).cenFinish)

/-- A write that changes CS_CEN_CFG.HOLD (R361): clearing it publishes the newest complete bank. -/
def censusHoldEff (tile : Nat) (hold : Bool) (s : Pkg) : Pkg :=
  let s := s.put tile fCenHold (bit hold)
  if hold then s.setCenDie tile { s.cenDie tile with heldAt := some s.now }
  else
    ([tile] ++ (if tile = s.steward then [15] else [])).foldl (fun s d =>
      match (s.cenDie d).waiting with
      | some b => (s.setCenDie d { s.cenDie d with waiting := none }).cenShow d b
      | none => s) s

end Sys2Proof.Machine
end

