-- ==== Sys2Proof/Machine/Operands.lean ====
section
/-! DEFINITION. The operand of a management access: which register a package address names, who may reach it, and what a read of it shows
(R10–R14, R34–R41, and the register tables of every chapter). -/
namespace Sys2Proof.Machine

/-! ### Addresses (R37–R39) -/

/-- The block at an offset of a die; none: unassigned. -/
def blockAt (die off : Nat) : Option Block := if die = 15 then sentinelBlock off else tileBlock off

/-- The block answers on the die (Table 1-4). -/
def answers (die off : Nat) (b : Block) : Bool :=
  die == 15 ||
  (match b with
   | .tr => decide (die ≤ 1)
   | .st => die == 0
   | .table => decide (die ≤ 1) || !(decide (0x3700000 ≤ off) && decide (off < 0x38E0000))
   | _ => true)

/-- The decode error an access ends in (R39), 0 for none. -/
def Pkg.decodeErr (s : Pkg) (die off : Nat) : Nat :=
  if !s.variant.present die then eAbsentDie
  else match blockAt die off with
    | none => eUnassigned
    | some b => if answers die off b then 0 else eAbsentBlock

/-- The error with which an access ends at its home die (R35, R39, R41), 0 for none: a decode error, or no route. -/
def Pkg.accessErr (s : Pkg) (r : Req) (addr : Nat) : Nat :=
  let d := s.decodeErr (addrDie addr) (addrOff addr)
  if d ≠ 0 then d else if s.pathUp r.die (addrDie addr) && s.dieOn (addrDie addr) then 0 else ePathDown

/-- The requester is the active steward's cluster (R271, R307). -/
def Pkg.isSteward (s : Pkg) (r : Req) : Bool := r.die == s.steward && r.agent == 0

/-- A write that the mode and policy rules refuse (R39, R271, R303, R307, R346, R364, R389). -/
def Pkg.refusedWrite (s : Pkg) (r : Req) (die off : Nat) (value : Word) : Bool :=
  let split : Bool := r.agent == 0 && decide (r.die < 7) && s.get r.die fCluster == clSplit
  if die = 15 then
    if off = 0x10004 then !s.isSteward r || split
    else if off = 0x60004 ∨ off = 0x60008 ∨ off = 0x6000C ∨ off = 0x60010 then !s.isSteward r || split
    else decide (0x60000 ≤ off) && decide (off < 0x70000) && split
  else if off = 0x200020 then split
  else if off = 0x1E00100 then r.agent != 0
  else if off = 0x2100004 then
    die != 0 ||
    (let op := fieldGet value 2 0
     if op = 1 ∨ op = 2 ∨ op = 4 then !(s.isSteward r || (r.die == 0 && r.agent == 1)) else !s.isSteward r)
  else false

/-! ### Registers of ports that do not exist (R72) -/

/-- The local port whose registers an offset belongs to. -/
def portOfOff (off : Nat) : Option Nat :=
  if 0x810000 ≤ off ∧ off < 0x813800 then some ((off - 0x810000) / 0x200)
  else if 0xC10000 ≤ off ∧ off < 0xC11C00 then some ((off - 0xC10000) / 0x100)
  else if 0xC20000 ≤ off ∧ off < 0xC21C00 then some ((off - 0xC20000) / 0x100)
  else none

/-- The word belongs to a port that the tile does not have: it is reserved. -/
def Pkg.absentPort (s : Pkg) (die off : Nat) : Bool :=
  die != 15 && (match portOfOff off with | some n => !s.hasPort die n | none => false)

/-! ### What a read shows -/

/-- The tile whose word a read of a tile's block shows: the UP block of every tile shows tile 0's (R389). -/
def shownDie (die off : Nat) : Nat := if die ≠ 15 ∧ tileBlock off = some .up then 0 else die

/-- The fields of the SW port block that follow the switch's state (Tables 4-8 and 4-9). -/
def Pkg.liveSw (s : Pkg) (t off : Nat) (w : Word) : Word :=
  let n := (off - 0x810000) / 0x200
  let o := (off - 0x810000) % 0x200
  if o = 0xC then (if 24 ≤ n then fieldSet w 0 0 (bit (s.linkUp t n)) else w)
  else if 0x40 ≤ o ∧ o < 0xC0 ∧ o % 16 = 12 then
    let a := s.acct t n ((o - 0x40) / 16)
    fieldSet (fieldSet w 14 0 a.occ) 30 16 a.head
  else if 0xC0 ≤ o ∧ o < 0x140 ∧ o % 16 = 8 then
    let q := (o - 0xC0) / 16
    fieldSet (fieldSet w 14 0 (s.depthChip t n q)) 15 15 (bit (s.qst t n q).spilled)
  else if 0xC0 ≤ o ∧ o < 0x140 ∧ o % 16 = 12 then fieldSet w 23 0 (s.depthOvf t n ((o - 0xC0) / 16))
  else w

/-- The live word at an offset of a tile: the word in effect with the fields that follow the tile's state. -/
def Pkg.liveTile (s : Pkg) (t off : Nat) (w : Word) : Word :=
  match tileBlock off with
  | some .id =>
    if off = 0 then s.deviceId t
    else if 0x100 ≤ off ∧ off < 0x280 ∧ off % 0x40 = 0 then fieldSet w 6 6 (bit (s.carriesRelay t ((off - 0x100) / 0x40))) else w
  | some .tm =>
    if off = 0x10000C ∧ t = s.ref then fieldSet (fieldSet (fieldSet w 0 0 1) 1 1 1) 11 8 15
    else if off = 0x100010 ∧ t = s.ref then 0
    else if off = oPhasePend then (if t = s.ref then toWord (s.phaseNow t / 65536) else 0)
    else w
  | some .si => if off = 0x200034 then BitVec.ofNat 32 (s.stagedCount t) else w
  | some .pr => if off = 0x400008 then fieldSet w 6 5 (s.profile t) else w
  | some .sw =>
    if off = 0x80000C then BitVec.ofNat 32 (s.freeShared t)
    else if off = 0x800014 then BitVec.ofNat 32 (s.pool t).ovf
    else if 0x810000 ≤ off ∧ off < 0x813800 then s.liveSw t off w
    else w
  | some .ts =>
    if 0xC20000 ≤ off ∧ off < 0xC21C00 ∧ off % 0x20 = 0x10 then
      toWord (s.creditNow t ((off - 0xC20000) / 0x100) (off % 0x100 / 0x20) / creditUnit)
    else w
  | some .tr =>
    if off = 0x1400000 then fieldSet (fieldSet w 0 0 (bit (s.trActive t))) 1 1 (bit (s.standby == some t))
    else if off = 0x1400020 then fieldSet (fieldSet w 10 0 (s.trestle t).ethUsed) 16 16 (bit (s.creditStopped t 21))
    else if off = 0x1400024 then BitVec.ofNat 32 (s.trestle t).engine.length
    else w
  | some .hb => if off = 0x1800100 then (SMap.get {} s.msix t).summary ||| s.vecCauses t else w
  | some .dm => if off % 0x100 = 0x18 then fieldSet w 0 0 (bit (s.dmRunning t ((off - 0x1A00000) / 0x100))) else w
  | some .pd => if off < 0x1B00800 ∧ off % 0x20 = 0xC then BitVec.ofNat 32 (s.podFree t ((off - 0x1B00000) / 0x20)) else w
  | some .ck =>
    if off < 0x1C00200 ∧ off % 0x40 = 0x14 then BitVec.ofNat 32 (s.ckValue t ((off - 0x1C00000) / 0x40))
    else if off < 0x1C00200 ∧ off % 0x40 = 0x18 then BitVec.ofNat 32 (s.ckValue t ((off - 0x1C00000) / 0x40) / 2 ^ 32)
    else match ckWide off with
      | some (u, h) => w &&& s.ckBits t u h
      | none => w
  | some .table =>
    if 0x3100000 ≤ off ∧ off < 0x3200000 then s.rdShadow t (off - 0x100000)
    else if 0x3A30000 ≤ off ∧ off < 0x3A30800 then BitVec.ofNat 32 (Config.censusMap t ((off - 0x3A30000) / 4))
    else if 0x3A31000 ≤ off ∧ off < 0x3A31100 then (if t = s.steward then BitVec.ofNat 32 (Config.censusMap 15 ((off - 0x3A31000) / 4)) else 0)
    else w
  | _ => w

/-- The live word at an offset of the sentinel. -/
def Pkg.liveSentinel (s : Pkg) (off : Nat) (w : Word) : Word :=
  if 0x18000 ≤ off ∧ off < 0x20000 ∧ off % 8 = 0 then
    let k := (off - 0x18000) / 8
    if s.on 15 fKyZeroised then fieldSet (s.slotShown k) 17 16 3 else s.slotShown k
  else if 0x41000 ≤ off ∧ off < 0x41300 ∧ off % 0x80 = 4 then
    fieldSet w 1 0 (if s.on 15 (fLinEnable ((off - 0x41000) / 0x80)) then s.get 15 (fLinState ((off - 0x41000) / 0x80)) else 0)
  else if off = 0 then s.deviceId 15
  else if off = 0x70000 then
    fieldSet (fieldSet w 10 8 (if s.fuseLife = lField ∧ s.mode.service.isSome then lService else s.fuseLife)) 12 12 (bit s.rootLocked)
  else w

/-- The fields of a word that a read shows: those the tables name and that are not write-only (R12, R14). -/
def readMask (fs : List Field) : Word := maskOf (fun f => decide (f.acc ≠ .wo)) fs

/-- A plain word as a read shows it: reserved bits and words read 0. -/
def Pkg.wordShown (s : Pkg) (die off : Nat) : Word :=
  if s.absentPort die off then 0
  else if die ≠ 15 ∧ 0x2000000 ≤ off ∧ off < 0x2100000 then s.rd die off
  else if die ≠ 15 ∧ off = 0x1801800 then (SMap.get {} s.msix die).pending
  else
    let fs := wordFields die off
    if fs.isEmpty then 0
    else
      let w := s.rd die off
      (if die = 15 then s.liveSentinel off w else s.liveTile die off w) &&& readMask fs

/-- A 64-bit pair as its two reads show it (R11). -/
def Pkg.pairShown (s : Pkg) (die lo : Nat) : Quad :=
  if s.absentPort die lo then 0
  else if die = 15 ∧ lo = 0x20 then BitVec.ofNat 64 s.idTime
  else if (die = 15 ∧ (lo = 0x70008 ∨ lo = 0x70018)) ∨ (die ≠ 15 ∧ 0x2000000 ≤ lo ∧ lo < 0x2100000) ∨ (die ≠ 15 ∧ 0x1B00000 ≤ lo ∧ lo < 0x1B00800 ∧ lo % 0x20 = 4) then
    BitVec.ofNat 64 (s.rd64 die lo)
  else if die ≠ 15 ∧ 0x1C00000 ≤ lo ∧ lo < 0x1C00200 ∧ lo % 0x40 = 0x1C then BitVec.ofNat 64 (s.ckResult die ((lo - 0x1C00000) / 0x40))
  else s.cnt die lo

/-- TM_NOW_LO and the words its read latches (Table 1-8). -/
def oTmNow : Nat := 0x100000

/-- A read of the low word of a pair, or of TM_NOW_LO, latches the words that go with it (R11). -/
def Pkg.readLow (s : Pkg) (die off : Nat) : Pkg × Word :=
  if die ≠ 15 ∧ off = oTmNow then
    let c := s.count die
    ((s.wr die 0x100004 (BitVec.ofNat 32 (c / 65536 / 2 ^ 32))).wr die 0x100008 (BitVec.ofNat 32 (c % 65536)), BitVec.ofNat 32 (c / 65536))
  else
    let d := shownDie die off
    let v := s.pairShown d off
    ({ s with latch := SMap.set 0 s.latch (pkgAddr die (off + 4)) (BitVec.ofNat 32 (v.toNat / 2 ^ 32)) }, BitVec.ofNat 32 v.toNat)

/-- The offset is a word whose read latches others: TM_NOW_LO of a tile, or the low word of a pair. -/
def isLowWord (die off : Nat) : Bool := (die != 15 && off == oTmNow) || pairLow die off == some off

/-- The pod command a read or write at an offset names (Table 8-7): kind 1 ALLOC, 2 RELEASE, 3 FREE, 4 SHARE, with the owner and the pool or the
other owner. -/
def podCommand (off : Nat) : Option (Nat × Nat × Nat) :=
  if off % 4 ≠ 0 then none
  else if 0x1B10000 ≤ off ∧ off < 0x1B20000 then
    some (1, (off - 0x1B10000) / 0x100, (off - 0x1B10000) % 0x100 / 4)
  else if 0x1B20000 ≤ off ∧ off < 0x1B20400 then some (2, (off - 0x1B20000) / 4, 0)
  else if 0x1B20400 ≤ off ∧ off < 0x1B20800 then some (3, (off - 0x1B20400) / 4, 0)
  else if 0x1B40000 ≤ off ∧ off < 0x1B80000 then some (4, (off - 0x1B40000) / 0x400, (off - 0x1B40000) % 0x400 / 4)
  else none

/-- A read reaches its target: what it does there, and its data. -/
def Pkg.readAt (s : Pkg) (r : Req) (die off : Nat) : Pkg × Word :=
  let off := off - off % 4
  match (if die = 15 then none else podCommand off) with
  | some (1, owner, pool) => s.allocEff die owner pool (s.portAgent r die)
  | some _ => (s, 0)
  | none =>
    if die ≠ 15 ∧ off = oTxtsInfo then s.popStamp die
    else if isLowWord die off then s.readLow die off
    else match pairLow die off with
      | some _ => (s, SMap.get 0 s.latch (pkgAddr die off))
      | none => (s, s.wordShown (shownDie die off) off)

end Sys2Proof.Machine
end

