-- ==== Sys2Proof/Machine/Update.lean ====
section
/-! DEFINITION. Chapter 14: the commands of UP_CMD, the start of an activation and of a fallback (R389–R399). -/
namespace Sys2Proof.Machine

/-! ### Refusals, starts and ends of commands (R389, R400) -/

/-- UP_STATUS.REFUSE codes. -/
def uBusy : Nat := 1
def uNotVerified : Nat := 2
def uTrial : Nat := 3
def uMode : Nat := 4
def uCommitPending : Nat := 5
def uShapeChange : Nat := 6

/-- RESULT codes beside those of Table 14-5. -/
def uNorErr : Nat := 11
def uTooLarge : Nat := 12

/-- A command is refused. -/
def Pkg.upRefuse (s : Pkg) (code : Nat) : Pkg := (s.put 0 fUpRefuse code).bump 0 oUpRefused

/-- A command runs: its code, its argument, offset and length. -/
def Pkg.upStart (s : Pkg) (state op arg off len : Nat) : Pkg :=
  (s.put 0 fUpState state).onBoot (fun b => { b with cmd := some (op, arg, off, len) })

/-- A command ends with a result. -/
def Pkg.upEnd (s : Pkg) (result : Nat) : Pkg :=
  (((s.put 0 fUpResult result).put 0 fUpState 0).raise 0 (fUpEvt 0)).onBoot (fun b => { b with cmd := none })

/-- The slot not in effect. -/
def Pkg.otherSlot (s : Pkg) : Nat := 1 - s.get 0 fUpSlot

/-- Both containers of a slot. -/
def State.firmware (s : State) (slot : Nat) : Container := s.mem.container s.pkg.boot.record slot 1
def State.structure_ (s : State) (slot : Nat) : Container := s.mem.container s.pkg.boot.record slot 2

/-- An effect on the package alone. -/
def State.map (s : State) (f : Pkg → Pkg) : State := { s with pkg := f s.pkg }

/-! ### WRITE, VERIFY, PROV_WRITE (R390–R392) -/

/-- WRITE begins: the other slot is no longer verified, and a start that was to take it is taken back. A range beyond the slot ends it with TOO_LARGE
before anything is erased (DESIGN CHOICE: see the log). -/
def State.upWrite (s : State) : State :=
  let off := s.pkg.get 0 fUpWrOff
  let len := s.pkg.get 0 fUpWrLen
  if s.pkg.on 0 fUpTrial then s.map (fun p => p.upRefuse uTrial)
  else if slotSize < off + len then s.map (fun p => p.upEnd uTooLarge)
  else
    let s := s.map (fun p => (p.put 0 fVerifiedOther 0).onBoot (fun b => { b with staged := false }))
    let s := if s.pkg.on 0 fNextStart then
        (s.writeRecord (fun r => { r with active := s.pkg.get 0 fUpSlot, trial := false, next := false })).map (fun p => p.put 0 fNextStart 0)
      else s
    s.map (fun p => p.upStart 1 1 (p.rd64 0 oUpWrSrc) off len)

/-- VERIFY begins. -/
def Pkg.upVerify (s : Pkg) (stage : Bool) : Pkg := s.upStart 2 2 (bit stage) 0 0

/-- PROV_WRITE begins in PROVISION or SERVICE. -/
def Pkg.upProvWrite (s : Pkg) : Pkg :=
  let off := s.get 0 fUpWrOff
  let len := s.get 0 fUpWrLen
  if s.modeNow ≠ mProvision ∧ s.life ≠ lService then s.upRefuse uMode
  else if provSize < off + len then s.upEnd uTooLarge
  else s.upStart 1 6 (s.rd64 0 oUpWrSrc) off len

/-! ### The start of a LIVE activation (R393–R395) -/

/-- The sections of the types that a LIVE activation cannot change (R393). -/
def Container.frozen (c : Container) : List (Nat × Nat × List Byte) :=
  (c.sections.filter (fun x => x.type == 2 || x.type == 4 || x.type == 9 || x.type == 10)).map (fun x => (x.type, x.target, x.data))

/-- The activation of a slot is firmware-only (R393). -/
def State.firmwareOnly (s : State) (slot : Nat) : Bool := (s.structure_ slot).digest == s.pkg.vault.manifests.drop 48

/-- Every ingress port asserts XOFF where it holds it (R395), or releases it. -/
def Pkg.updXoffAll (s : Pkg) : Pkg :=
  s.serving.foldl (fun s t =>
    ((List.range 28).filter (fun n => s.hasPort t n)).foldl (fun s n => (List.range 8).foldl (fun s c => s.updXoff t n c) s) s) s

/-- The pause begins (R393–R395): mode ACTIVATING; a firmware-only activation leaves the standby in SYNCING, a structure activation holds every
ingress port. -/
def State.startActivation (s : State) (slot : Nat) (fallback : Bool) : State :=
  let fw := s.firmwareOnly slot
  s.map (fun p =>
    let p := p.onMode (fun m => { m with cameFrom := p.modeNow })
    let p := (p.setMode mActivating 13).put 0 fUpState 3
    let p := p.onBoot (fun b =>
      { b with act := if fw then 1 else 2, actSlot := slot, actAt := p.now, actFlushed := false, actLeft := if fw then [p.steward] else p.serving
               revert := false, fallback := fallback })
    if fw then
      (let p := p.setCluster p.steward { p.cluster p.steward with closed := false, missing := [], held := [] }
       if p.standby.isSome && p.get 1 fRole == roleStandby then (p.setCluster 1 { p.cluster 1 with synced := false }).setHealth hSyncing else p)
    else p.updXoffAll)

/-- The record of a RESTART or NEXT_START activation (R393). -/
def State.recordNext (s : State) : State :=
  s.writeRecord (fun r => { r with active := s.pkg.otherSlot, trial := true, next := true, trialS := s.pkg.get 0 fUpTrialS })

/-- ACTIVATE with HOW 0 LIVE, 1 RESTART, 2 NEXT_START: the conditions in the order of R393. -/
def State.upActivate (s : State) (how : Nat) : State :=
  let p := s.pkg
  let slot := p.otherSlot
  if !p.on 0 fVerifiedOther then s.map (fun p => p.upRefuse uNotVerified)
  else if !runMode p.modeNow || !p.policyAllows mActivating p.life then s.map (fun p => p.upRefuse uMode)
  else if p.on 0 fUpTrial then s.map (fun p => p.upRefuse uTrial)
  else if p.ksState p.steward ≠ 0 then s.map (fun p => p.upRefuse uCommitPending)
  else if how = 0 then
    if !s.firmwareOnly slot &&
        (!p.boot.staged || (s.structure_ slot).frozen != (s.structure_ (p.get 0 fUpSlot)).frozen) then s.map (fun p => p.upRefuse uShapeChange)
    else s.startActivation slot false
  else if how = 1 then s.recordNext.map (fun p => p.coldReset 15)
  else s.recordNext.map (fun p => p.raise 0 fNextStart)

/-! ### Trials (R397–R399) -/

/-- The trial is over. -/
def Pkg.endTrial (s : Pkg) : Pkg := (s.put 0 fUpTrial 0).setCnt 0 oUpTrialEnd 0

/-- The rollback fuses after n more are blown: the lowest that stand at 0 (R266). -/
def blowLowest : Nat → Nat → Nat → Nat
  | 0, _, v => v
  | k + 1, n, v => if n = 0 then v else if v.testBit (63 - k) then blowLowest k n v else blowLowest k (n - 1) (v + 2 ^ (63 - k))

/-- The rollback fuses, 64 of them (FU_ROLLBACK), advance to a step, never back (R397). Where the step is higher than the one they spell, how many read back is a free value;
when not all do, FUSE_FAIL is set and the advance is retried at every later BOOT. -/
def Pkg.advanceRollback (s : Pkg) (step : Nat) : Pkg :=
  let goal := min step 64
  let now_ := s.get 15 ⟨0x70010, 6, 0⟩
  if goal ≤ now_ then s.onBoot (fun b => { b with fuseGoal := 0 })
  else
    let n := Config.freeWord s.fresh % (goal - now_ + 1)
    let v := blowLowest 64 n (s.rd64 15 0x70008)
    let s := ((s.tookFree 1).wr64 15 0x70008 v).put 15 ⟨0x70010, 6, 0⟩ (now_ + n)
    if n = goal - now_ then s.onBoot (fun b => { b with fuseGoal := 0 })
    else ((s.raise 0 (fUpEvt 5)).bump 15 oKyFuseFail).onBoot (fun b => { b with fuseGoal := goal })

/-- A trial has reached its end (R397: in the same clock as a CONFIRM it is the fallback). -/
def Pkg.trialOver (s : Pkg) : Bool := decide ((s.cnt 0 oUpTrialEnd).toNat ≤ s.countNs 0)

/-- CONFIRM (R397): refused once the fallback is due, also where that waits for a commit (R398). -/
def State.upConfirm (s : State) : State :=
  if !s.pkg.on 0 fUpTrial || s.pkg.trialOver || s.pkg.boot.waitFall then s.map (fun p => p.upRefuse uTrial)
  else
    let slot := s.pkg.get 0 fUpSlot
    let goal := min (s.firmware slot).step (s.structure_ slot).step
    let s := s.writeRecord (fun r => { r with trial := false })
    s.map (fun p => (p.endTrial.advanceRollback goal).raise 0 (fUpEvt 2))

/-- FELL_BACK is set and counted. -/
def Pkg.fellBack (s : Pkg) : Pkg := (s.raise 0 (fUpEvt 1)).bump 0 oUpFallbacks

/-- The record names the previous slot (R397, R398). -/
def State.recordBack (s : State) : State :=
  s.writeRecord (fun r => { r with active := s.pkg.otherSlot, trial := false, next := false })

/-- A LIVE fallback is possible (R398). -/
def Pkg.liveFallback (s : Pkg) : Bool :=
  s.boot.liveTrial && (runMode s.modeNow || s.modeNow == mQuarantine || s.modeNow == mProvision) && s.policyAllows mActivating s.life

/-- A trial falls back (R397, R398): it waits for a commit that is pending; in DEBUG the record is rewritten and no reset is forced; else it runs
LIVE where it may, and in the RESTART form where it may not. -/
def State.startFallback (s : State) : State :=
  if s.pkg.modeNow ≠ mDebug ∧ s.pkg.ksState s.pkg.steward ≠ 0 then s.map (fun p => p.onBoot (fun b => { b with waitFall := true }))
  else
    let s := s.map (fun p => p.endTrial.fellBack.onBoot (fun b => { b with waitFall := false }))
    if s.pkg.modeNow = mDebug then s.recordBack
    else if s.pkg.liveFallback then s.startActivation s.pkg.otherSlot true
    else s.recordBack.map (fun p => p.coldReset 15)

/-- A fallback that waited for a commit starts once the coordinator is IDLE (R398). -/
def State.fallIfWaiting (s : State) : State :=
  if s.pkg.boot.waitFall && s.pkg.ksState s.pkg.steward == 0 then s.startFallback else s

/-- ABANDON (R397). -/
def State.upAbandon (s : State) : State :=
  if s.pkg.on 0 fUpTrial then s.startFallback else s.map (fun p => p.upRefuse uTrial)

/-- TRIAL_END (R397): a trial that neither CONFIRM nor ABANDON has ended. -/
def State.trialEnds (s : State) : State :=
  if s.pkg.on 0 fUpTrial && !s.pkg.boot.waitFall && s.pkg.modeNow != mActivating then
    (s.map (fun p => p.reachCount 0 (p.cnt 0 oUpTrialEnd).toNat)).startFallback
  else s

/-! ### UP_CMD (Table 14-8) -/

/-- A write of UP_CMD that is in shape, by a requester that R389 accepts. A command is refused with BUSY while one runs or an activation does. -/
def State.upCmd (s : State) (value : Word) : State :=
  let op := fieldGet value 2 0
  if s.pkg.get 0 fUpState ≠ 0 then s.map (fun p => p.upRefuse uBusy)
  else if op = 1 then s.upWrite
  else if op = 2 then s.map (fun p => p.upVerify (value.getLsbD 5))
  else if op = 3 then s.upActivate (fieldGet value 4 3)
  else if op = 4 then s.upConfirm
  else if op = 5 then s.upAbandon
  else s.map (fun p => p.upProvWrite)

end Sys2Proof.Machine
end

