-- ==== Sys2Proof/Machine/Shape.lean ====
section
/-! DEFINITION. The shape of a register write (R56): the values the tables allow a field, beyond plain ranges, and the rule-bank words by their place in
an entry (R89–R91, R105). -/
namespace Sys2Proof.Machine

/-! ### What a write is checked against (R56, R64) -/

/-- A word as it will stand once the shadow and the staged writes are in effect, for its keystone bits, and once its die has restarted, for its cold
bits (R17, R56). -/
def Pkg.nextWord (s : Pkg) (die off : Nat) : Word :=
  let m := keystoneMask die off
  let c := SMap.get (0, 0) s.coldNext (pkgAddr die off)
  (((s.rd die off &&& ~~~ m) ||| (s.rdShadow die off &&& m)) &&& ~~~ c.1) ||| c.2

/-- The state with a tile's staged writes in the shadow. -/
def Pkg.stagedIn (s : Pkg) (die : Nat) : Pkg := if die = 15 then s else (s.ksT die).staged.foldl (fun s w => s.toShadow w) s

def Pkg.getNext (s : Pkg) (die : Nat) (f : Fld) : Nat := fieldGet (s.nextWord die f.off) f.hi f.lo
def Pkg.onNext (s : Pkg) (die : Nat) (f : Fld) : Bool := s.getNext die f != 0

/-- A global port that may be a target (R106, R129, Table 4-4): on a tile of the package, present, not port 23. -/
def Pkg.portThere (s : Pkg) (g : Nat) : Bool := decide (g / 32 < s.variant.tiles) && s.hasPort (g / 32) (g % 32) && g % 32 != 23

/-! ### The rule bank (R89–R91, R105) -/

/-- The table, the word and the place in its entry of an offset in the rule bank; none: no table carves it. -/
def Pkg.rulePlace (s : Pkg) (t off : Nat) : Option (Nat × Nat) :=
  let o := off - 0x3000000
  ((List.range 8).find? (fun i => s.tblKind t i != 0 && s.tblStride t i != 0 && decide (s.tblBase t i ≤ o) &&
    decide (o < s.tblBase t i + (s.tblEntries t i + 1) * s.tblStride t i * 4))).map (fun i => (i, (o - s.tblBase t i) / 4 % s.tblStride t i))

/-- The bits of a rule-bank word that its place in the entry uses; the others are reserved. -/
def Pkg.ruleBits (s : Pkg) (t off : Nat) : Word :=
  match s.rulePlace t off with
  | none => 0
  | some (i, w) =>
    let a := s.tblKeyWords t i * (if s.tblKind t i = 2 then 2 else 1)
    if w < a then 0xFFFFFFFF#32
    else if w = a then 0x0FFF3FFF#32
    else if w = a + 1 ∨ w = a + 2 then 0xFFFFFFFF#32
    else if w = a + 3 then 0x7FFFFFFF#32
    else if w = a + 4 then (if s.tblKind t i = 3 then 0x800001FF#32 else 0x80000000#32)
    else 0

/-- A rule-bank word is in shape (R91, R105). -/
def Pkg.ruleShape (s : Pkg) (t off : Nat) (v : Word) : Bool :=
  match s.rulePlace t off with
  | none => false
  | some (i, w) =>
    let a := s.tblKeyWords t i * (if s.tblKind t i = 2 then 2 else 1)
    if w = a then
      decide (fieldGet v 13 12 ≤ 1) && (fieldGet v 0 0 == 0 || fieldGet v 13 12 == 1 || s.portThere (fieldGet v 27 16))
    else if w = a + 1 then decide (fieldGet v 1 0 ≤ 2) && decide (fieldGet v 3 2 ≤ 2)
    else if w = a + 2 then decide (fieldGet v 3 0 ≤ 6)
    else if w = a + 3 then decide (fieldGet v 30 29 ≤ 2)
    else if w = a + 4 then (s.tblKind t i != 3 || decide (fieldGet v 8 0 ≤ 32 * s.tblKeyWords t i))
    else true

/-- The keystone bits of a word as a write or a commit treats them. -/
def Pkg.rkBits (s : Pkg) (die off : Nat) : Word :=
  if die ≠ 15 ∧ 0x3000000 ≤ off ∧ off < 0x3100000 then s.ruleBits die off else keystoneMask die off

/-! ### Switch and scheduler (Tables 4-3, 4-4, 4-8, 5-5, 5-8, 5-9) -/

/-- The rate of a port that a shaper's RATE may reach, in kbit/s. -/
def Pkg.rateCap (s : Pkg) (t n : Nat) : Nat := s.portRate t n

/-- A word of the SW port block. -/
def Pkg.swShape (s : Pkg) (t off : Nat) (w : Word) : Bool :=
  let n := (off - 0x810000) / 0x200
  let o := (off - 0x810000) % 0x200
  if o = 4 then decide (n < 16) || (fieldGet w 11 4 == 0 && fieldGet w 19 12 == 0)
  else if 0x40 ≤ o ∧ o < 0xC0 then
    n != 22 && n != 23 &&
    (if o % 16 = 0 then decide (fieldGet w 30 16 ≤ s.get t fShared)
     else if o % 16 = 4 then decide (fieldGet w 30 16 ≤ fieldGet w 14 0)
     else if o % 16 = 8 then
       decide (fieldGet w 14 0 ≤ s.get t ⟨off, 30, 16⟩) && (!([16, 20, 21].contains n) || decide (72 ≤ fieldGet w 14 0))
     else true)
  else if 0xC0 ≤ o ∧ o < 0x140 then
    (if o % 16 = 0 then fieldGet w 15 15 == 0 || (s.on t fOvfPresent && !s.windowFresh t ((o - 0xC0) / 16))
     else if o % 16 = 4 then decide (fieldGet w 23 0 ≤ s.get t fOvfCells)
     else true)
  else true

/-- The members of a DRR group all agree in PREEMPT, and no WINDOW-FRESH queue is preemptable (R154, R155). -/
def Pkg.preemptShape (s : Pkg) (t n mask : Nat) : Bool :=
  (List.range 8).all (fun q =>
    (!(mask.testBit q) || !s.windowFresh t q) &&
    (!s.on t (fDrr n q) || (List.range 8).all (fun r =>
      !s.on t (fDrr n r) || s.get t (fGroup n r) != s.get t (fGroup n q) || mask.testBit r == mask.testBit q)))

/-- A word of the TS block. -/
def Pkg.tsShape (s : Pkg) (t off : Nat) (w : Word) : Bool :=
  if 0xC00040 ≤ off ∧ off < 0xC000B0 then fieldGet w 7 0 == 0 || s.hasPort t ((off - 0xC00040) / 4)
  else if 0xC10000 ≤ off ∧ off < 0xC11C00 then
    let n := (off - 0xC10000) / 0x100
    if (off - 0xC10000) % 0x100 = 0 then
      (decide (n < 16) || (fieldGet w 1 0 == 0 && fieldGet w 23 8 == 0)) && s.preemptShape t n (fieldGet w 23 16)
    else if (off - 0xC10000) % 0x100 = 4 then decide (1 ≤ fieldGet w 10 0) && decide (fieldGet w 10 0 ≤ max 1 (SMap.get 0 s.sw.shape.gclMax (t * 32 + n)))
    else true
  else if 0xC20000 ≤ off ∧ off < 0xC21C00 then
    let n := (off - 0xC20000) / 0x100
    let q := off % 0x100 / 0x20
    if off % 0x20 = 4 then (if s.on t (fDrr n q) then decide (64 ≤ fieldGet w 15 0) else fieldGet w 15 0 == 0)
    else if off % 0x20 = 8 then decide (fieldGet w 24 0 ≤ s.rateCap t n)
    else true
  else true

/-- The members a word of a group entry names are ports that may be targets (R129). -/
def Pkg.groupShape (s : Pkg) (k : Nat) (w : Word) : Bool :=
  k == 7 || (List.range 32).all (fun l => !w.getLsbD l || s.portThere (k * 32 + l))

/-! ### The trestle (Tables 6-3 to 6-10) -/

/-- Source codes and destination codes (Table 6-3). -/
def srcCode (c : Nat) : Bool := c ≤ 11 || (16 ≤ c && c ≤ 21) || c == 24 || c == 25 || c == 28
def keySrcCode (c : Nat) : Bool := srcCode c || c == 31
def dstCode (c : Nat) : Bool := srcCode c || c == 26

/-- The bits of an identifier that a format uses (Table 6-3). -/
def fmtIdBits (fmt : Nat) : Nat :=
  match fmt with | 0 => 11 | 1 => 29 | 2 => 19 | 3 => 6 | _ => 18

/-- A FlexRay identifier: cycle 0–63, or 0x40. -/
def fmtIdOk (fmt id : Nat) : Bool := decide (id < 2 ^ fmtIdBits fmt) && (fmt != 4 || decide (id / 2048 ≤ 64))

/-- No destination bit of a move lies beyond an output of n bytes (R194). -/
def moveFits (n : Nat) (w0 w1 : Word) : Bool :=
  (signalBits (fieldGet w0 29 16) (fieldGet w0 31 31 == 1) (fieldGet w1 6 0)).all (fun p => decide (p < 8 * n))

/-- The moves of a route entry stay within its output (R194). DEDUCED: where OUT_LEN is 0 the output is as long as the input, at most 2,048 bytes. -/
def Pkg.routeFits (s : Pkg) (t k : Nat) : Bool :=
  let word := fun i => s.nextWord t (0x3700000 + 0x40 * k + 4 * i)
  let n := if fieldGet (word 7) 11 0 = 0 then 2048 else fieldGet (word 7) 11 0
  fieldGet (word 9) 31 31 == 0 || (List.range (fieldGet (word 6) 20 16)).all (fun j =>
    let o := 0x3800000 + 8 * (fieldGet (word 6) 15 0 + j)
    moveFits n (s.nextWord t o) (s.nextWord t (o + 4)))

/-- A move belongs to a route entry. -/
def Pkg.movesOf (s : Pkg) (t k j : Nat) : Bool :=
  let w := s.nextWord t (0x3700000 + 0x40 * k + 0x18)
  decide (fieldGet w 15 0 ≤ j) && decide (j < fieldGet w 15 0 + fieldGet w 20 16)

/-- A word of the trestle's table memory. -/
def Pkg.trShape (s : Pkg) (t off : Nat) (w : Word) : Bool :=
  let next := s.wrShadow t off w
  let entries := s.get t ⟨0x140001C, 14, 0⟩
  let moves := s.get t ⟨0x140001C, 31, 15⟩
  if off < 0x3800000 then
    let k := (off - 0x3700000) / 0x40
    let o := off % 0x40
    decide (k < entries) &&
    (if o = 0 then fmtIdOk (fieldGet w 31 29) (fieldGet w 28 0)
     else if o = 4 then keySrcCode (fieldGet w 4 0)
     else if o = 0x10 then dstCode (fieldGet w 4 0) && fmtIdOk (fieldGet w 7 5) (s.getNext t ⟨off + 4, 28, 0⟩)
     else if o = 0x14 then fmtIdOk (s.getNext t ⟨off - 4, 7, 5⟩) (fieldGet w 28 0)
     else if o = 0x18 ∨ o = 0x1C ∨ o = 0x24 then next.routeFits t k
     else true)
  else if off < 0x3880000 then
    let j := (off - 0x3800000) / 8
    decide (j < moves) && (List.range entries).all (fun k => !s.movesOf t k j || next.routeFits t k)
  else if off < 0x3884000 then
    let o := off % 16
    if o = 0 then decide (fieldGet w 28 0 ≤ s.getNext t ⟨off + 4, 28, 0⟩)
    else if o = 4 then decide (s.getNext t ⟨off - 4, 28, 0⟩ ≤ fieldGet w 28 0)
    else if o = 8 then srcCode (fieldGet w 4 0)
    else true
  else if 0x3890000 ≤ off ∧ off < 0x3892000 ∧ off % 0x20 = 0x10 then
    fieldGet w 15 4 % 4 == 0 && (fieldGet w 2 2 == 1 || decide (fieldGet w 15 4 ≤ 2044))
  else if 0x38C0000 ≤ off ∧ off < 0x38C4000 ∧ off % 16 = 0 then [1, 2, 4, 5, 6, 7, 11, 22].contains (fieldGet w 4 0)
  else true

/-! ### Host bridge, DMA, check units, storage, update (Tables 7-2, 7-6, 8-6, 8-8, 13-7, 14-8) -/

/-- A window register of the host bridge. -/
def Pkg.hbShape (s : Pkg) (t off : Nat) (w : Word) : Bool :=
  if 0x1800200 ≤ off ∧ off < 0x1800280 then
    if off % 16 = 0 then fieldGet w 13 0 % 2 ^ (fieldGet w 18 14 - 12) == 0
    else if off % 16 = 4 then
      (SMap.get [] s.grants t).any (fun g => decide (g.1 ≤ w.toNat * 4096) &&
        decide (w.toNat * 4096 + 2 ^ s.get t ⟨off - 4, 18, 14⟩ ≤ g.2 + 1))
    else true
  else true

/-- A word of a DMA channel's block: RING and RING_EXP stand while ENABLE is 1 (R247). -/
def Pkg.dmShape (s : Pkg) (t off : Nat) : Bool :=
  let c := (off - 0x1A00000) / 0x100
  let o := off % 0x100
  !(decide (c < 16) && (o == 4 || o == 8 || o == 0xC)) || !s.on t (fDmEnable.ch c)

/-- A word of a check unit: the trestle's units have no configuration to write (R257), and an attachment obeys R259. -/
def Pkg.ckShape (s : Pkg) (t off : Nat) (w : Word) : Bool :=
  let u := (off - 0x1C00000) / 0x40
  let o := off % 0x40
  if 8 ≤ u ∨ 0x14 ≤ o then true
  else !s.on t (fCkTrestle.ck u) && (o != 0 || fieldGet w 9 9 == 0 || s.ckAttachOk t u (fieldGet w 8 5))

/-- A word of a work-memory address in two words, 4 KiB aligned. -/
def workWord (off : Nat) (w : Word) : Bool := if off % 8 = 0 then fieldGet w 11 0 == 0 && decide (w.toNat < 0x1000000) else w.toNat == 1

/-- A tile word beyond plain ranges. -/
def Pkg.tileShape (s : Pkg) (t off : Nat) (w : Word) : Bool :=
  if 0x3000000 ≤ off ∧ off < 0x3100000 then s.ruleShape t off w
  else if 0x3500000 ≤ off ∧ off < 0x3520000 then s.groupShape (off % 0x20 / 4) w
  else if 0x3700000 ≤ off ∧ off < 0x38E0000 then s.trShape t off w
  else match tileBlock off with
    | some .sw =>
      if 0x800400 ≤ off ∧ off < 0x800500 ∧ off % 16 = 0 then s.portThere (fieldGet w 7 0)
      else if 0x810000 ≤ off ∧ off < 0x813800 then s.swShape t off w else true
    | some .tm =>
      if 0x100200 ≤ off ∧ off < 0x100300 ∧ off % 16 = 0 then fieldGet w 0 0 == 0 || !s.onNext t (fTxMsEnable ((off - 0x100200) / 16)) else true
    | some .ms =>
      if 0x1000400 ≤ off ∧ off < 0x1000800 ∧ off % 0x40 = 0 then fieldGet w 0 0 == 0 || !s.onNext t (fOneStep ((off - 0x1000400) / 0x40)) else true
    | some .ts => s.tsShape t off w
    | some .tr => off != 0x1400008 || w &&& 0xECC0F000#32 == 0
    | some .hb => s.hbShape t off w
    | some .dm => s.dmShape t off
    | some .ck => s.ckShape t off w
    | some .st => (off != 0x1F00020 && off != 0x1F00024) || workWord off w
    | some .up =>
      if off = 0x2100008 ∨ off = 0x210000C then workWord off w
      else if off = 0x2100010 then fieldGet w 11 0 == 0
      else if off = 0x2100014 then fieldGet w 11 0 == 0 && fieldGet w 24 0 != 0 && decide (fieldGet w 24 0 ≤ slotSize)
      else true
    | _ => true

/-! ### The sentinel (Tables 10-7, 11-6, 11-7) -/

/-- EL_SHED_LIST with a word in place: only item codes, none twice (R327). -/
def Pkg.shedShape (s : Pkg) (off : Nat) (w : Word) : Bool :=
  let l := (((s.wr 15 off w).bytesAt 15 0x30050 32).map (·.toNat)).filter (· != 0)
  l.all (fun c => planItems.contains c) && l.Nodup

/-- A sentinel word beyond plain ranges. -/
def Pkg.sentinelShape (s : Pkg) (off : Nat) (w : Word) : Bool :=
  if off = 0x20000 then
    decide (fieldGet w 9 0 ≤ 255) || (List.range 12).all (fun c => !s.onNext 15 (fNmEn c) || s.onNext 15 (fNmExt c))
  else if off = 0x20004 then decide (fieldGet w 10 0 < fieldGet w 26 16)
  else if 0x20100 ≤ off ∧ off < 0x20400 ∧ off % 0x40 = 0 then
    fieldGet w 0 0 == 0 || fieldGet w 1 1 == 1 || decide (s.getNext 15 fNode ≤ 255)
  else if 0x30050 ≤ off ∧ off < 0x30070 then s.shedShape off w
  else if off = 0x60008 then w.getLsbD 0 && decide (fieldGet w 6 0 < 2 ^ s.variant.tiles)
  else true

/-- A write is in shape: `w` is the word as it would stand in its writable bits, `touched` the bits whose bytes the write enables. -/
def Pkg.inShape (s : Pkg) (die off : Nat) (w touched : Word) : Bool :=
  (wordFields die off).all (fun f =>
    f.acc == .ro || f.acc == .w1c || (touched &&& fieldMask f.hi f.lo) == 0 ||
    (match f.rng with | some (lo, hi) => decide (lo ≤ fieldGet w f.hi f.lo) && decide (fieldGet w f.hi f.lo ≤ hi) | none => true)) &&
  (if die = 15 then s.sentinelShape off w else s.tileShape die off w)

end Sys2Proof.Machine
end

