-- ==== Sys2Proof/Machine/Access.lean ====
section
/-! DEFINITION. Management accesses: what a write does at its target, holding and fences at the home die, ports behind a stalled write (R34–R41, R51–R57,
R64, R103). DESIGN CHOICE: a write that leaves its home die is applied at its target at once; its acknowledgement comes later (see the log). -/
namespace Sys2Proof.Machine

/-! ### A plain write (R14, R16, R56, R57, R64, R221) -/

/-- The bits whose bytes a write enables (R221). -/
def beMask (be : Nat) : Word := byteMerge be 0 0xFFFFFFFF#32

/-- Writes of cold fields take effect (R17, R57). -/
def Pkg.coldOpen (s : Pkg) : Bool := s.modeNow == mBoot || s.modeNow == mProvision

/-- The buffers that software writes and cannot read back (Table 9-13). -/
def inputBuffer (die off : Nat) : Bool := die == 15 && decide (0x12000 ≤ off) && decide (off < 0x14000)

/-- The bits of a word that a write sets: RW fields, and write-only data. -/
def writableBits (die off : Nat) : Word := maskOf (fun f => f.acc == .rw || (f.acc == .wo && inputBuffer die off)) (wordFields die off)
def coldBits (die off : Nat) : Word := maskOf (fun f => f.acc == .rw && f.cls == .cold) (wordFields die off)
def w1cBits (die off : Nat) : Word := maskOf (fun f => f.acc == .w1c) (wordFields die off)
def w1sBits (die off : Nat) : Word := maskOf (fun f => f.acc == .w1s) (wordFields die off)

/-- A write to the keystone bits of a word: staged, or into the shadow (R14, R64). -/
def Pkg.writeShadow (s : Pkg) (die off : Nat) (value : Word) (be : Nat) : Pkg :=
  let w : Staged := { addr := pkgAddr die off, value := value &&& s.rkBits die off, be := be }
  if die ≠ 15 ∧ s.staging die then s.setKsT die { s.ksT die with staged := (s.ksT die).staged ++ [w] } else s.toShadow w

/-- The MSI-X vector whose cause a W1C word is (Table 7-7), and the tiles that raise it. -/
def Pkg.causeOf (s : Pkg) (die off : Nat) : Option (List Nat × Nat) :=
  if die = 15 then (if off = 0x70 then some ([s.steward], 3) else if off = 0x30084 then some (s.powered, 31) else none)
  else if off = 0x1800104 then some ([die], 0)
  else if off = 0x200030 then some ([die], 1)
  else if off = 0x10 then some ([die], 2)
  else if off = 0x200070 then some ([die], 3)
  else if off = 0x800020 then some ([die], 4)
  else if off = 0x10000C then some ([die], 6)
  else if 0x1B00840 ≤ off ∧ off < 0x1B00850 then some ([die], 24)
  else if off = 0x1D00014 then some ([die], 26)
  else if off = 0x1E00018 then some ([die], 27)
  else if off = 0x1E00104 ∨ off = 0x1F00040 then some ([die], 28)
  else if off = 0x2100030 then some ([die], 29)
  else if 0x1A00000 ≤ off ∧ off < 0x1A01000 ∧ off % 0x100 = 0x20 then some ([die], 8 + (off - 0x1A00000) / 0x100)
  else none

/-- A write reaches the W1C bits `m` of a word with `c` in them: those that carry 1 fall, but for a bit that hardware has set at this very instant; the
vector the word is a cause of sends again if it is still 1 (R14, R16, R235). -/
def Pkg.writeClear (s : Pkg) (die off : Nat) (m c : Word) : Pkg :=
  if m = 0 then s
  else
    let s := if c = 0 then s else s.wr die off (s.rd die off &&& ~~~ (c &&& ~~~ s.setNow die off))
    match s.causeOf die off with
    | some (l, v) => l.foldl (fun s t => s.rearm t v) s
    | none => s

/-- Cold bits written in PROVISION wait for the restart of their die (R17). DEDUCED: BOOT is itself that restart, so there they take effect at once, as
R217 has the FlexRay parameters (see the log). -/
def Pkg.writeCold (s : Pkg) (die off : Nat) (m value : Word) : Pkg :=
  let e := SMap.get (0, 0) s.coldNext (pkgAddr die off)
  if m = 0 then s else { s with coldNext := SMap.set (0, 0) s.coldNext (pkgAddr die off) (e.1 ||| m, (e.2 &&& ~~~ m) ||| (value &&& m)) }

/-- A write of a word of a register table or a table memory (R14, R16, R17, R56, R57). The shape bounds what the write may set: outside their window the
cold bits stand as they are. -/
def Pkg.writeWord (s : Pkg) (r : Req) (die off : Nat) (value : Word) (be : Nat) : Pkg :=
  let t := beMask be
  let rk := s.rkBits die off &&& t
  let rw := writableBits die off &&& t
  let p := s.stagedIn die
  let cold := coldBits die off &&& rw
  let shut := if s.coldOpen then 0 else cold
  let free := (rk ||| rw) &&& ~~~ shut
  let want := (p.nextWord die off &&& ~~~ free) ||| (value &&& free)
  if !p.inShape die off want (t &&& ~~~ shut) then s.cfgErr r die cOutOfShape (pkgAddr die off)
  else
    let old := s.rd die off
    let s := if (old ^^^ value) &&& shut = 0 then s else s.cfgErr r die cColdWindow (pkgAddr die off)
    let late := if s.modeNow = mProvision then cold else 0
    let lw := rw &&& ~~~ shut &&& ~~~ late
    let s := if lw = 0 then s else s.wr die off ((old &&& ~~~ lw) ||| (value &&& lw))
    let s := s.writeCold die off late value
    let set := w1sBits die off &&& t &&& value
    let s := if set = 0 then s else s.wr die off (s.rd die off ||| set)
    let s := s.writeClear die off (w1cBits die off &&& t) (w1cBits die off &&& t &&& value)
    if rk = 0 then s else s.writeShadow die off value be

/-! ### Writes that are commands -/

/-- NODE reaches the journal of every powered tile while BOOT runs (R21, R363). -/
def Pkg.copyNode (s : Pkg) : Pkg :=
  if s.modeNow = mBoot then s.onEach s.powered (fun t s => s.put t fCsNode (s.get 15 fNode)) else s

/-- A write on the sentinel that acts on the package alone. -/
def Pkg.writeSentinel (s : Pkg) (r : Req) (off : Nat) (value : Word) (be : Nat) : Pkg :=
  let v := value &&& beMask be
  if off = 0x10004 then
    let slot := fieldGet v 15 4
    match fieldGet v 3 0 with
    | 1 => deriveEff slot s
    | 2 => importEff slot s
    | 3 => revokeEff slot s
    | 4 => slotReleaseEff slot s
    | 5 => nonceEff s
    | 6 => attestEff s
    | 7 => ticketEff s
    | _ => s.cfgErr r 15 cOutOfShape (pkgAddr 15 off)
  else if off = 0x20000 then (s.writeWord r 15 off value be).copyNode
  else if 0x20020 ≤ off ∧ off < 0x20080 then (s.writeWord r 15 off value be).recheckConsent
  else if off = 0x30008 then elCmdEff v s
  else if 0x40000 ≤ off ∧ off < 0x40C00 ∧ off % 0x100 = 0x14 then recoverEff ((off - 0x40000) / 0x100) v s
  else if off = 0x60004 then modeRequestEff r v s
  else if off = 0x6000C then resetEff v s
  else if off = 0x60010 ∧ be.testBit 0 then debugRequestEff r v s
  else s.writeWord r 15 off value be

/-- A software write of the word that holds TS_SAMP_CONS (R173): in the clock of a hardware advance it is lost. -/
def sampConsEff (r : Req) (t : Nat) (value : Word) (be : Nat) (s : Pkg) : Pkg :=
  if SMap.get 0 s.sw.sampAdv t = s.now + 1 then s
  else
    let old := s.get t fSampCons
    (s.writeWord r t 0xC00018 value be).onSw (fun x => { x with sampWas := SMap.set (0, 0) x.sampWas t (s.now + 1, old) })

/-- A write on a tile that acts on the package alone. -/
def Pkg.writeTile (s : Pkg) (r : Req) (t off : Nat) (value : Word) (be : Nat) : Pkg :=
  let v := value &&& beMask be
  let agent := s.portAgent r t
  match podCommand off with
  | some (2, owner, _) => releaseEff t owner agent v s
  | some (3, owner, _) => freeEff t owner agent v s
  | some (4, owner, other) => shareEff t owner other agent v s
  | some _ => s
  | none =>
  if off = 0x200020 then ksRequestEff r t v s
  else if off = 0x400060 then
    (match fieldGet v 1 0 with
     | 1 => ctInsertEff r t s
     | 2 => ctDeleteEff t s
     | 3 => ctLookupEff t s
     | _ => s)
  else if off = 0xC00240 then genResetEff t v s
  else if off = 0xC00018 then sampConsEff r t value be s
  else if off = 0x100100 then rateAdjEff r t (byteMerge be (s.rd t off) value) s
  else if off = 0x100104 then phaseAdjEff r t v s
  else if off = 0x10010C then s.settlePhase.writeWord r t off value be
  else if 0x1A00000 ≤ off ∧ off < 0x1A01000 ∧ off % 0x100 = 0x14 then
    tailEff t ((off - 0x1A00000) / 0x100) (byteMerge be (s.rd t off) value) s
  else if 0x1A00000 ≤ off ∧ off < 0x1A01000 ∧ off % 0x100 = 0x1C then dmCmdEff t ((off - 0x1A00000) / 0x100) v s
  else if 0x1A00000 ≤ off ∧ off < 0x1A01000 ∧ off % 0x100 = 0 then
    let c := (off - 0x1A00000) / 0x100
    let before := s.on t (fDmEnable.ch c)
    let s := s.writeWord r t off value be
    if before && !s.on t (fDmEnable.ch c) then stopEff t c s else s
  else if 0x1C00000 ≤ off ∧ off < 0x1C00200 ∧ off % 0x40 = 0x14 then ckValueLoadEff t ((off - 0x1C00000) / 0x40) false value be s
  else if 0x1C00000 ≤ off ∧ off < 0x1C00200 ∧ off % 0x40 = 0x18 then ckValueLoadEff t ((off - 0x1C00000) / 0x40) true value be s
  else if let some (u, h) := ckWide off then
    let m := s.ckBits t u h
    s.writeWord r t off ((value &&& m) ||| (s.rd t off &&& ~~~ m)) be
  else if 0x1C00000 ≤ off ∧ off < 0x1C00200 ∧ off % 0x40 = 0x24 then ckFeedEff t ((off - 0x1C00000) / 0x40) v s
  else if 0x1C00000 ≤ off ∧ off < 0x1C00200 ∧ off % 0x40 = 0x28 then ckFeedBEff t ((off - 0x1C00000) / 0x40) v s
  else if 0x1C00000 ≤ off ∧ off < 0x1C00200 ∧ off % 0x40 = 0x2C then ckCmdEff r t ((off - 0x1C00000) / 0x40) v s
  else if ((0x3900000 ≤ off ∧ off < 0x3920000) ∨ (0x3920000 ≤ off ∧ off < 0x3920800)) ∧ off % 32 = 0 then
    saValidEff t off (byteMerge be (s.rd t off) value) s
  else if off = 0x1D00008 then rejoinEff r t v s
  else if off = 0x1D0000C then doubtClearEff t v s
  else if off = 0x1E00000 then
    let hold := s.on t fCenHold
    let s := s.writeWord r t off value be
    if s.on t fCenHold = hold then s else censusHoldEff t (!hold) s
  else if off = 0x1E00008 then censusRequestEff r t v s
  else if off = 0x1E00100 then jnlCommitEff r t v s
  else if off = 0x1F00014 then
    let s := if v.getLsbD 0 then flushEff s else s
    let s := if v.getLsbD 1 then rdGoEff (fieldGet v 2 2) s else s
    if v.getLsbD 3 then rdStopEff s else s
  else if mirroredWord off then (s.writeWord r t off value be).mirrorWord t off
  else if tileBlock off = some .up ∧ t ≠ 0 then s
  else s.writeWord r t off value be

/-- A write reaches its target and takes effect. A word of a port that the tile does not have ignores it (R175). -/
def State.applyWrite (s : State) (r : Req) (die off : Nat) (value : Word) (be : Nat) : State :=
  let off := off - off % 4
  if s.pkg.absentPort die off then s
  else if die = 15 then
    (if off = 0x20010 then confirmWakeEff (byteMerge be (s.pkg.rd 15 off &&& 0xFFFFFF01#32) value) s
     else s.map (fun p => p.writeSentinel r off value be))
  else if off = 0x2100004 then
    let v := value &&& beMask be
    if fieldGet v 2 0 = 0 ∨ fieldGet v 2 0 = 7 ∨ fieldGet v 4 3 = 3 then s.map (fun p => p.cfgErr r die cOutOfShape (pkgAddr die off))
    else s.upCmd v
  else s.map (fun p => p.writeTile r die off value be)

/-! ### The target's management port (R41, R64) -/

/-- The write goes to keystone bits. -/
def Pkg.isKeystone (s : Pkg) (die off be : Nat) : Bool := (s.rkBits die (off - off % 4) &&& beMask be) != 0

/-- A keystone write finds 256 writes staged and stalls the port (R64). -/
def Pkg.stallsPort (s : Pkg) (die off be : Nat) : Bool :=
  die != 15 && s.staging die && decide (256 ≤ s.stagedCount die) && s.isKeystone die off be

/-- The class of an agent at a management port, A to F as 0 to 5 (Table 1-3). -/
def agentClass (die agent : Nat) : Nat :=
  if die = 15 then (if agent = 0 then 0 else 1)
  else if agent = 0 then 0 else if agent = 1 ∨ agent = 12 then 1 else if agent ≤ 3 then 2 else if agent = 4 then 3 else if agent = 5 then 4 else 5

/-- The agent of its class that the port of a die served last, plus one; 0: none yet. -/
def Pkg.lastServed (s : Pkg) (die cls : Nat) : Nat := SMap.get 0 s.portTurn (die * 8 + cls)

/-- A port has served a requester: its class goes on after that agent (R36). -/
def Pkg.tookTurn (s : Pkg) (die : Nat) (r : Req) : Pkg :=
  let a := s.portAgent r die
  { s with portTurn := SMap.set 0 s.portTurn (die * 8 + agentClass die a) (a + 1) }

/-- How soon the port of a die serves an agent: the higher class first, and within it the agents in rotation after the one served last (R36). -/
def Pkg.turnOf (s : Pkg) (die : Nat) (r : Req) : Nat :=
  let a := s.portAgent r die
  let cls := agentClass die a
  cls * 16 + (a + 16 - s.lastServed die cls) % 16

/-- Of the accesses that wait at a port the one that wins it comes first (R36); those of one agent keep the order in which they came. -/
def Pkg.arbitrate (s : Pkg) (die : Nat) (l : List HeldAcc) : List HeldAcc :=
  match l.map (fun h => s.turnOf die h.req) with
  | [] => l
  | k :: ks =>
    let best := ks.foldl min k
    let i := l.findIdx (fun h => s.turnOf die h.req == best)
    (l[i]?).toList ++ l.eraseIdx i

/-- An access waits at its target's port. -/
def Pkg.waitAtPort (s : Pkg) (h : HeldAcc) : Pkg := s.setQueueAt (addrDie h.addr) (s.queueAt (addrDie h.addr) ++ [h])

/-- What trace must not carry (R301): the KY block of the sentinel with its buffers and KY_CTX, and the SA entries of MACsec. -/
def traceSecret (die off : Nat) : Bool :=
  if die = 15 then sentinelBlock off == some .ky else decide (0x3900000 ≤ off ∧ off < 0x3920800)

/-- A management transaction enters the trace while the debug level is TRACE or INVASIVE (R300, R301). -/
def Pkg.trace (s : Pkg) (r : Req) (write : Bool) (addr : Nat) (data : Word) : Pkg :=
  let level := s.get 15 fDebugLevel
  if level = 0 ∨ (level = 2 ∧ s.mode.portClosed) then s
  else s.emit (.trace r write addr (if traceSecret (addrDie addr) (addrOff addr) then 0 else data))

/-- The answer to a read. -/
def Pkg.replyRead (s : Pkg) (r : Req) (addr : Nat) (w : Word) : Pkg := (s.emit (.reply r addr w)).trace r false addr w

/-- A read whose data does not come back waits for its timeout (R41). -/
def Pkg.loseRead (s : Pkg) (r : Req) (addr : Nat) : Pkg :=
  let q := s.reqSt r
  s.setReqSt r { q with nextId := q.nextId + 1, lost := q.lost ++ [{ id := q.nextId, addr := addr, sent := s.now }] }

/-- A read is served at its target; a side effect it has there stands even where its data is lost (R41). -/
def Pkg.serveRead (s : Pkg) (r : Req) (addr : Nat) (fate : ReadFate) : Pkg :=
  let s := s.tookTurn (addrDie addr) r
  match fate with
  | .silent => s.loseRead r addr
  | .dataLost => (s.readAt r (addrDie addr) (addrOff addr)).1.loseRead r addr
  | .returns =>
    let x := s.readAt r (addrDie addr) (addrOff addr)
    x.1.replyRead r addr x.2

/-- The transactions that wait at a port are served, the one that holds the port first and then as they win it (R36), up to one that stalls (R64); a write
served leaves its port now. -/
def State.drainPort (die : Nat) : Nat → State → State
  | 0, s => s
  | n + 1, s =>
    match s.pkg.queueAt die with
    | [] => s
    | h :: l =>
      let rest := fun (p : Pkg) => p.setQueueAt die ((p.tookTurn die h.req).arbitrate die l)
      match h.kind with
      | .bar2 d => ((s.map rest).map (fun p => p.emit (.bar2Completion die d))).drainPort die n
      | .read f => ((s.map rest).map (fun p => p.serveRead h.req h.addr f)).drainPort die n
      | .write v be =>
        if s.pkg.stallsPort die (addrOff h.addr) be then s
        else
          let s := s.map (fun p =>
            let q := p.reqSt h.req
            ((rest p).tookTurn die h.req).setReqSt h.req
              { q with unacked := mapIf (fun w => w.id == h.id) (fun w => { w with atPort := false, sent := p.now }) q.unacked })
          (s.applyWrite h.req die (addrOff h.addr) v be).drainPort die n

/-- Serve what waits at every tile's port. -/
def State.drainPorts (s : State) : State :=
  (List.range 7).foldl (fun s d => s.drainPort d (s.pkg.queueAt d).length) s

/-! ### The home die (R36, R51–R53) -/

def oSgFence : Nat := 0x1D00100
def oSgFenceWait : Nat := 0x1D00104

/-- A die's requester that the fabric serves: the die is powered, the agent is one of its own (Table 1-3), and an endpoint's link is up (R220). Tile 0's
cluster is isolated once a takeover has taken its role (R352). -/
def Pkg.served (s : Pkg) (r : Req) : Bool :=
  s.dieOn r.die && (if r.die = 15 then r.agent == 0 else decide (r.agent < 6) && (r.agent != 1 || s.on r.die ⟨0x1800000, 0, 0⟩)) &&
  !(r.die == 0 && r.agent == 0 && s.steward != 0)

/-- A tile's cluster runs firmware: it neither restarts (R353, R354) nor is replaced by a firmware-only activation (R394). -/
def Pkg.clusterRuns (s : Pkg) (t : Nat) : Bool := s.get t fRole != roleRestarting && !(t == s.steward && s.stewardAbsent)

/-- A requester that may issue accesses: it is served, and a cluster runs. -/
def Pkg.mayIssue (s : Pkg) (r : Req) : Bool := s.served r && (r.agent != 0 || r.die == 15 || s.clusterRuns r.die)

/-- The fences with nothing left to wait for complete (R52). -/
def ReqSt.closeFences (q : ReqSt) : ReqSt :=
  let over_ := q.fences.filter (fun f => f.covers.isEmpty)
  { q with fences := q.fences.filter (fun f => !f.covers.isEmpty), done := (q.done + over_.length) % 65536
           timedOut := q.timedOut || over_.any (·.bad) }

/-- A write counts as acknowledged. -/
def ReqSt.acked (q : ReqSt) (id : Nat) (timedOut : Bool) : ReqSt :=
  let fs : List Fence := q.fences.map (fun f =>
    if f.covers.contains id then { f with covers := f.covers.filter (· != id), bad := f.bad || timedOut } else f)
  ({ q with unacked := q.unacked.filter (fun w => w.id != id), fences := fs } : ReqSt).closeFences

/-- SG_FENCE opens a fence over every write not yet acknowledged (R51). -/
def Pkg.openFence (s : Pkg) (r : Req) : Pkg :=
  let q := s.reqSt r
  let q : ReqSt := { q with fences := q.fences ++ [{ covers := q.unacked.map (·.id), opened := s.now }] }
  s.setReqSt r q.closeFences

/-- SG_FENCE_WAIT (R52). -/
def Pkg.fenceWaitWord (s : Pkg) (r : Req) : Word := BitVec.ofNat 32 ((s.reqSt r).done + bit (s.reqSt r).timedOut * 2 ^ 31)

/-- The access names a fence register. -/
def isFence (die off : Nat) : Bool := die != 15 && (off == oSgFence || off == oSgFenceWait)

/-- A write leaves its home die, or ends there (R35, R39, R41, R51, R53). `once`: issued through the once-only alias (R336). -/
def State.issueWrite (s : State) (r : Req) (addr : Nat) (value : Word) (be : Nat) (once : Bool) : State :=
  let die := addrDie addr
  let off := addrOff addr - addrOff addr % 4
  let e := s.pkg.accessErr r addr
  if e ≠ 0 then s.map (fun p => p.merr r e true addr)
  else if isFence die off then
    (if r.die ≠ die then s.map (fun p => p.merr r eFenceRemote true addr)
     else if off = oSgFence then s.map (fun p => p.openFence r) else s)
  else if s.pkg.refusedWrite r die off (value &&& beMask be) then s.map (fun p => p.merr r eRefused true addr)
  else
    let id := (s.pkg.reqSt r).nextId
    let waits := !(s.pkg.queueAt die).isEmpty || s.pkg.stallsPort die off be
    let s := s.map (fun p =>
      let q := p.reqSt r
      p.setReqSt r { q with nextId := id + 1
                            unacked := q.unacked ++ [{ id := id, addr := addr, value := value, be := be, once := once, sent := p.now, atPort := waits }] })
    if waits then s.map (fun p => p.waitAtPort { req := r, addr := addr, kind := .write value be, id := id })
    else (s.map (fun p => p.tookTurn die r)).applyWrite r die (addrOff addr) value be

/-- A read leaves its home die, or ends there. -/
def State.issueRead (s : State) (r : Req) (addr : Nat) (fate : ReadFate) : State :=
  let die := addrDie addr
  let off := addrOff addr - addrOff addr % 4
  let e := s.pkg.accessErr r addr
  s.map (fun p =>
    if e ≠ 0 then (p.merr r e false addr).replyRead r addr 0xFFFFFFFF#32
    else if isFence die off then
      (if r.die ≠ die then (p.merr r eFenceRemote false addr).replyRead r addr 0xFFFFFFFF#32
       else p.replyRead r addr (if off = oSgFenceWait then p.fenceWaitWord r else 0))
    else if !(p.queueAt die).isEmpty then p.waitAtPort { req := r, addr := addr, kind := .read fate }
    else p.serveRead r addr fate)

/-- An access is issued, and traced: bit 30 of a cluster's address selects the once-only alias (R336). -/
def State.issue (s : State) (r : Req) (addr : Nat) (k : AccKind) : State :=
  match k with
  | .read f => s.issueRead r (addr % 2 ^ 30) f
  | .write v be => (s.map (fun p => p.trace r true (addr % 2 ^ 30) (v &&& beMask be))).issueWrite r (addr % 2 ^ 30) v be (r.agent == 0 && addr.testBit 30)
  | .bar2 d => s.map (fun p => if (p.queueAt r.die).isEmpty then p.emit (.bar2Completion r.die d) else p.waitAtPort { req := r, addr := addr, kind := k })

/-- An access waits at its home die: behind a fence, behind an access that waits, or as the 65th write (R51). -/
def Pkg.waitsHome (s : Pkg) (r : Req) (k : AccKind) : Bool :=
  let q := s.reqSt r
  !q.fences.isEmpty || (match k with | .write _ _ => decide (64 ≤ q.unacked.length) | _ => false)

/-- The accesses held at a home die leave in order. -/
def State.drainHome (r : Req) : Nat → State → State
  | 0, s => s
  | n + 1, s =>
    match (s.pkg.reqSt r).held with
    | [] => s
    | h :: l =>
      if s.pkg.waitsHome r h.kind then s
      else ((s.map (fun p => p.setReqSt r { p.reqSt r with held := l })).issue r h.addr h.kind).drainHome r n

/-- Let what a requester's home die holds go on. -/
def State.releaseHome (s : State) (r : Req) : State := s.drainHome r (s.pkg.reqSt r).held.length

/-- An access that its requester has made: its home die holds it, or it leaves. -/
def State.send (s : State) (r : Req) (addr : Nat) (k : AccKind) : State :=
  if !(s.pkg.reqSt r).held.isEmpty || s.pkg.waitsHome r k then
    s.map (fun p => p.setReqSt r { p.reqSt r with held := (p.reqSt r).held ++ [{ req := r, addr := addr, kind := k }] })
  else s.issue r addr k

/-- A management access. -/
def State.access (s : State) (r : Req) (addr : Nat) (k : AccKind) : State := if s.pkg.mayIssue r then s.send r addr k else s

/-- A read of a low word; an access that covers both words of a pair reads the low word first (R221). -/
def State.readPair (s : State) (r : Req) (addr : Nat) (fate : ReadFate) (pair : Bool) : State :=
  let s := s.access r addr (.read fate)
  if pair then s.access r (addr + 4) (.read fate) else s

/-! ### Completions (R41, R51, R52) -/

/-- WRITE_ACK (R51): the acknowledgement of a write that its target has applied. -/
def writeAck (r : Req) (id at_ : Nat) (s : State) : State :=
  let s := s.map (fun p => p.reach at_)
  match (s.pkg.reqSt r).unacked.find? (fun w => w.id == id) with
  | some w => if w.atPort then s else (s.map (fun p => p.setReqSt r ((p.reqSt r).acked id false))).releaseHome r
  | none => s

/-- A read ends without its data (R41): the requester gets 0xFFFF_FFFF. -/
def Pkg.readTimeout (s : Pkg) (r : Req) (w : LostRead) : Pkg :=
  let s := (s.reachFrac (w.sent + ns (us 100))).merr r eTargetTimeout false w.addr
  (s.setReqSt r { s.reqSt r with lost := (s.reqSt r).lost.filter (fun x => x.id != w.id) }).replyRead r w.addr 0xFFFFFFFF#32

/-- TARGET_TIMEOUT (R41): no acknowledgement 100 µs after the write left, or no data 100 µs after the read left; the time at a stalled port does not
count. -/
def targetTimeout (r : Req) (id : Nat) (s : State) : State :=
  match (s.pkg.reqSt r).lost.find? (fun w => w.id == id) with
  | some w => s.map (fun p => p.readTimeout r w)
  | none =>
  match (s.pkg.reqSt r).unacked.find? (fun w => w.id == id) with
  | some w =>
    if w.atPort then s
    else
      (s.map (fun p =>
        let p := (p.reachFrac (w.sent + ns (us 100))).merr r eTargetTimeout true w.addr
        p.setReqSt r ((p.reqSt r).acked id true))).releaseHome r
  | none => s

/-- FENCE_TIMEOUT (R52): the oldest open fence has stood 100 µs; it completes anyway. -/
def fenceTimeout (r : Req) (s : State) : State :=
  match (s.pkg.reqSt r).fences with
  | f :: l =>
    (s.map (fun p =>
      let p := (p.reachFrac (f.opened + ns (us 100))).merr r eFenceTimeout true (pkgAddr r.die oSgFence)
      let q := p.reqSt r
      p.setReqSt r { q with fences := l, done := (q.done + 1) % 65536, timedOut := true })).releaseHome r
  | [] => s

/-- The words that bytes of the management space make up, each with its byte enables, in the order of the bytes. -/
def mgmtWords : List (Nat × Byte) → List (Nat × Nat × Word)
  | [] => []
  | (a, b) :: l =>
    let w := a - a % 4
    let be := 2 ^ (a % 4)
    let v : Word := BitVec.ofNat 32 (b.toNat * 256 ^ (a % 4))
    match mgmtWords l with
    | (w', be', v') :: m => if w' = w then (w, be + be', v ||| v') :: m else (w, be, v) :: (w', be', v') :: m
    | [] => [(w, be, v)]

/-! ### Commands that are accesses -/

/-- A write or a read of an offset of a die, at the instant of the command. -/
def State.regWrite (s : State) (a : Acc) (die off : Nat) (value : Word) : State :=
  if die < 16 ∧ off < 2 ^ 26 then (s.map (fun p => p.reach a.at_)).access a.req (pkgAddr die off) (.write value 15) else s
def State.regRead (s : State) (a : Acc) (die off : Nat) : State :=
  if die < 16 ∧ off < 2 ^ 26 then (s.map (fun p => p.reach a.at_)).access a.req (pkgAddr die off) (.read .returns) else s

/-- A write that only exists for an instance in range. -/
def State.regWriteIf (s : State) (b : Bool) (a : Acc) (die off : Nat) (value : Word) : State := if b then s.regWrite a die off value else s

end Sys2Proof.Machine
end

