-- ==== Sys2Proof/Machine/Finish.lean ====
section
/-! DEFINITION. What follows a command's own effect: credit given back, ports that stall no longer, a fallback that waited for a commit. -/
namespace Sys2Proof.Machine

/-- After an effect that may give cells or credit back (R115, R211). -/
def State.finishFlow (s : State) : State := (s.map (fun p => p.flushEth p.steward)).finish

/-- After a step of a keystone commit: accesses that waited for staging go on (R64), and a fallback that waited for the commit starts (R398). -/
def State.finishKeystone (s : State) : State := s.drainPorts.fallIfWaiting.finishFlow

/-- A step of a keystone commit, which may take tiles out of service (R295). -/
def State.onKeystone (f : Pkg → Pkg) (s : State) : State := (s.map (fun p => p.withRemoval f)).finishKeystone

/-- A write of KY_CMD (Table 9-13). -/
def State.vaultWrite (s : State) (a : Acc) (op slot : Nat) : State := s.regWriteIf (decide (slot < 4096)) a 15 0x10004 (BitVec.ofNat 32 (op + 16 * slot))

end Sys2Proof.Machine
end

