-- ==== Sys2Proof/Machine/ExecFabric.lean ====
section
/-! DEFINITION. Chapter 1: management accesses, fences, spans, tethers, package time: the meaning of each command. -/
namespace Sys2Proof.Machine

/-- REGISTER_WRITE (R14): A management write reaches a register that has no row of its own and is applied according to its access type and field class. -/
def execRegisterWrite (a : Acc) (addr : Nat) (value : Word) (be : Nat) (s : State) : Host.Outcome State Fault Refusal :=
  .next ((s.map (fun p => p.reach a.at_)).access a.req addr (.write value be)).finish

/-- TARGET_TIMEOUT (R41): A management transaction whose completion has not returned within 100 µs ends with TARGET_TIMEOUT. -/
def execTargetTimeout (r : Req) (id : Nat) (s : State) : Host.Outcome State Fault Refusal :=
  .next (Sys2Proof.Machine.targetTimeout r id s).finish

/-- WRITE_ACK (R51): An internal write acknowledgement returns to the home die, releasing stalled writes and completing fences that covered it. -/
def execWriteAck (r : Req) (id : Nat) (at_ : Nat) (s : State) : Host.Outcome State Fault Refusal :=
  .next (Sys2Proof.Machine.writeAck r id at_ s).finish

/-- SG_FENCE (R51): A write to SG_FENCE opens a fence that holds the requester's later accesses until every earlier write is acknowledged. -/
def execSgFence (a : Acc) (die : Nat) (value : Word) (s : State) : Host.Outcome State Fault Refusal :=
  .next (s.regWrite a die oSgFence value).finish

/-- SG_FENCE_WAIT (R52): A read of SG_FENCE_WAIT completes once every fence of the requester is complete and returns the fence count and timeout flag. -/
def execSgFenceWait (a : Acc) (die : Nat) (s : State) : Host.Outcome State Fault Refusal :=
  .next (s.regRead a die oSgFenceWait).finish

/-- FENCE_TIMEOUT (R52): A fence not complete after 100 µs completes anyway and records FENCE_TIMEOUT. -/
def execFenceTimeout (r : Req) (s : State) : Host.Outcome State Fault Refusal :=
  .next (Sys2Proof.Machine.fenceTimeout r s).finish

/-- FLIT_CRC_FAIL (R28): A span flit that fails its CRC is replayed from the replay buffer and counted in ID_SPAN_RETRY. -/
def execFlitCrcFail (tile : Nat) (span : Nat) (at_ : Nat) (s : State) : Host.Outcome State Fault Refusal :=
  .next (s.onPkg (Sys2Proof.Machine.flitCrcFail tile span at_))

/-- SPAN_DOWN (R28): After 8 consecutive failed replays a span goes DOWN, cells in flight are discarded, and traffic moves to surviving spans or a relay. -/
def execSpanDown (tile : Nat) (span : Nat) (lost : List (Nat × Nat × Nat)) (at_ : Nat) (s : State) : Host.Outcome State Fault Refusal :=
  .next (s.onFlow (Sys2Proof.Machine.spanDown tile span lost at_))

/-- SPAN_RETRAIN (R28): A DOWN span retrains every 1 ms. -/
def execSpanRetrain (tile : Nat) (span : Nat) (s : State) : Host.Outcome State Fault Refusal :=
  .next (s.onPkg (Sys2Proof.Machine.spanRetrain tile span))

/-- SPAN_UP (R28): A span completes training and reaches UP, and takes traffic again at the next keystone commit. -/
def execSpanUp (tile : Nat) (span : Nat) (at_ : Nat) (s : State) : Host.Outcome State Fault Refusal :=
  .next (s.onPkg (Sys2Proof.Machine.spanUp tile span at_))

/-- TETHER_HEARTBEAT (R32): Each tether sends a heartbeat every 10 µs in each direction. -/
def execTetherHeartbeat (tether : Nat) (toTile : Bool) (arrived : Bool) (at_ : Nat) (s : State) : Host.Outcome State Fault Refusal :=
  .next (s.onFlow (Sys2Proof.Machine.tetherHeartbeat tether toTile arrived at_))

/-- TETHER_DOWN (R32): Three missing heartbeats in a row put a tether DOWN, moving its traffic to the other tether or making the sentinel unreachable. -/
def execTetherDown (tether : Nat) (at_ : Nat) (s : State) : Host.Outcome State Fault Refusal :=
  .next (s.onFlow (Sys2Proof.Machine.tetherDown tether at_))

/-- TETHER_RETRAIN (R32): A DOWN tether retrains every 1 ms. -/
def execTetherRetrain (tether : Nat) (s : State) : Host.Outcome State Fault Refusal :=
  .next (s.onPkg (Sys2Proof.Machine.tetherRetrain tether))

/-- TETHER_UP (R32): A tether is UP again once three heartbeats in a row have arrived in each direction. -/
def execTetherUp (tether : Nat) (at_ : Nat) (s : State) : Host.Outcome State Fault Refusal :=
  .next (s.onFlow (Sys2Proof.Machine.tetherUp tether at_))

/-- TIME_BEAT (R44): A tile takes the reference increment and phase from a time beat and adjusts its package time. -/
def execTimeBeat (tile : Nat) (offset : Int) (at_ : Nat) (s : State) : Host.Outcome State Fault Refusal :=
  .next (s.onPkg (Sys2Proof.Machine.timeBeat tile offset at_))

/-- TETHER_TIME_ALIGN (R48): In RUN the sentinel aligns its package-time count to the time reference from the tether's time alignment traffic, to within ±20 ns. -/
def execTetherTimeAlign (err : Int) (at_ : Nat) (s : State) : Host.Outcome State Fault Refusal :=
  .next (s.onPkg (Sys2Proof.Machine.tetherTimeAlign err at_))

/-- LOW_WORD_READ (R11): A read of the low word of a 64-bit counter pair, or of TM_NOW_LO, latches the high word and fraction for the reads that follow. -/
def execLowWordRead (a : Acc) (read : LowRead) (s : State) : Host.Outcome State Fault Refusal :=
  .next (State.finish (if isLowWord (addrDie read.addr) (addrOff read.addr - addrOff read.addr % 4) then
      (s.map (fun p => p.reach a.at_)).readPair a.req read.addr read.fate read.pair else s))

end Sys2Proof.Machine
end

