-- ==== Sys2Proof/Machine/DmaRun.lean ====
section
/-! DEFINITION. Chapter 8: what a DMA channel does with a descriptor. Reading and writing the local address space, scatter-gather lists, overlap,
check values, write-back, frames in and out (R237–R250). -/
namespace Sys2Proof.Machine

/-- STATUS (Table 8-2). -/
def dSrcErr : Nat := 1
def dDstErr : Nat := 2
def dNoWin : Nat := 3
def dBadFormat : Nat := 4
def dPodErr : Nat := 5
def dEcc : Nat := 6
def dFrameCont : Nat := 8

/-- A transfer as it runs: the machine, the channel, what the host holds by host address, the error its accesses meet, the bytes passed in the
order of copying, the bytes written, its first error (0: none), whether segments overlapped and ran descending, the list entries met, the
bytes written (or, on a TX channel, read) with their addresses; whether a host read found none of the 256 reads free (R220, R239). -/
structure Xfer where
  st      : State
  ch      : Nat := 0
  host    : List (Nat × Byte) := []
  waits   : Bool := false
  err     : Option DmaErr := none
  pos     : Nat := 0
  done    : Nat := 0
  status  : Nat := 0
  overlap : Bool := false
  down    : Bool := false
  entries : Nat := 0
  bytes   : List (Nat × Byte) := []

def Xfer.fail (x : Xfer) (status : Nat) : Xfer := if x.status = 0 then { x with status := status } else x
def Xfer.onPkg (x : Xfer) (f : Pkg → Pkg) : Xfer := { x with st := x.st.map f }

/-! ### Reads and writes of local addresses (R237, R238) -/

/-- The DMA engine does not touch this offset (R238): a pod command, a word with a read side effect, an RP register. -/
def dmaRefused (die off : Nat) : Bool :=
  die != 15 && (decide (0x1B10000 ≤ off ∧ off < 0x1B80000) || (wordFields die (off - off % 4)).any (fun f => f.acc == .rp))

/-- A word of the management space, read without side effect (R238): the words of a pair come as they stand. -/
def Pkg.quietWord (s : Pkg) (die off : Nat) : Word :=
  if die ≠ 15 ∧ off = 0x100000 then (s.readLow die off).2
  else if die ≠ 15 ∧ (off = 0x100004 ∨ off = 0x100008) then (s.readLow die 0x100000).1.rd die off
  else match pairLow die off with
    | some lo =>
      let v := (s.pairShown (shownDie die lo) lo).toNat
      BitVec.ofNat 32 (if off = lo then v else v / 2 ^ 32)
    | none => s.wordShown (shownDie die off) off

/-- One byte of the management space as the engine of a tile reads it (R39, R41, R53, R238). -/
def Xfer.readMgmt (x : Xfer) (tile a : Nat) : Xfer × Byte :=
  let r : Req := { die := tile, agent := 4 }
  let die := addrDie a
  let off := addrOff a - addrOff a % 4
  let p := x.st.pkg
  let e := if p.accessErr r a ≠ 0 then p.accessErr r a else if isFence die off ∧ die ≠ tile then eFenceRemote else 0
  if dmaRefused die off then (x.fail dBadFormat, 0)
  else if e ≠ 0 then ((x.onPkg (fun p => p.merr r e false a)).fail dSrcErr, 0)
  else
    let w := if isFence die off then (if off = oSgFenceWait then p.fenceWaitWord r else 0) else p.quietWord die off
    (x, BitVec.ofNat 8 (w.toNat / 256 ^ (a % 4)))

/-- One byte of the local address space outside the outbound windows. -/
def Xfer.readByte (x : Xfer) (tile a : Nat) : Xfer × Byte :=
  match x.st.pkg.local tile a with
  | .byte => (x, x.st.mem.get tile a)
  | .mgmt => x.readMgmt tile a
  | _ => (x.fail dBadFormat, 0)

/-- The error the accesses meet at this byte, where it can meet it (R246): `src` and `dst` are local addresses. -/
def Xfer.errHere (x : Xfer) (tile : Nat) (src dst : Option Nat) : Nat :=
  let at_ (a : Option Nat) (f : Local → Bool) : Bool := match a with | some a => f (x.st.pkg.local tile a) | none => false
  match x.err with
  | some (.src n) => if n = x.pos ∧ at_ src (fun l => l == .mgmt) then dSrcErr else 0
  | some (.dst n) => if n = x.pos ∧ at_ dst (fun l => l == .mgmt) then dDstErr else 0
  | some (.ecc n) => if n = x.pos ∧ (at_ src (fun l => l == .byte) || at_ dst (fun l => l == .byte)) then dEcc else 0
  | _ => 0

/-- The kind of a local address: 1 management, 2 memory, 3 nowhere, 4 + w outbound window w. -/
def Pkg.localKind (s : Pkg) (tile a : Nat) : Nat :=
  match s.local tile a with | .mgmt => 1 | .byte => 2 | .nowhere => 3 | .window w _ => 4 + w

/-- Addresses in the order of copying, neighbours of one kind together. -/
def Pkg.groups {α : Type} (s : Pkg) (tile : Nat) : List (Nat × α) → List (Nat × List (Nat × α))
  | [] => []
  | e :: l =>
    let k := s.localKind tile e.1
    match s.groups tile l with
    | (k', g) :: m => if k' = k then (k, e :: g) :: m else (k, [e]) :: (k', g) :: m
    | [] => [(k, [e])]

/-- Where a read of n bytes meets an error of the host: it fails, or it times out (R224). -/
def Xfer.hostErr (x : Xfer) (n : Nat) : Bool × Bool :=
  match x.err with
  | some (.src k) => (decide (x.pos ≤ k) && decide (k < x.pos + n), false)
  | some (.late k) => (decide (x.pos ≤ k) && decide (k < x.pos + n), true)
  | _ => (false, false)

/-- Read a run of addresses of one outbound window, as one access of the channel (R224, R226–R228, R239). -/
def Xfer.gatherHost (tile w : Nat) (g : List (Nat × Nat)) (x : Xfer) : Xfer × List (Nat × Byte) :=
  let lo := (g.map (·.1)).foldl min ((g.map (·.1)).headD 0)
  let e := x.hostErr g.length
  if x.st.pkg.outRefused tile w (lo % 0x1000000000) g.length then ((x.onPkg (fun p => p.countNoWin tile)).fail dNoWin, [])
  else if 256 ≤ (x.st.pkg.bridge tile).live then ({ x with waits := true }.fail dSrcErr, [])
  else
    let q := x.st.pkg.hostRead tile (.dma x.ch) w (lo % 0x1000000000) g.length x.host e.1 e.2
    let x := x.onPkg (fun _ => q.1)
    match q.2 with
    | none => (x.fail dSrcErr, [])
    | some bs =>
      match (List.range g.length).find? (fun i => ({ x with pos := x.pos + i } : Xfer).errHere tile none ((g[i]?).map (·.2)) != 0) with
      | some i => (x.fail (({ x with pos := x.pos + i } : Xfer).errHere tile none ((g[i]?).map (·.2))), (g.take i).map (fun e => (e.2, bs.getD (e.1 - lo) 0)))
      | none => ({ x with pos := x.pos + g.length }, g.map (fun e => (e.2, bs.getD (e.1 - lo) 0)))

/-- The source bytes of a run outside the outbound windows in the order of copying, each with its destination, up to the first that fails. -/
def Xfer.gatherHere (tile : Nat) : List (Nat × Nat) → Xfer → Xfer × List (Nat × Byte)
  | [], x => (x, [])
  | (a, d) :: l, x =>
    let e := x.errHere tile (some a) (some d)
    if e ≠ 0 then (x.fail e, [])
    else
      let r := x.readByte tile a
      if r.1.status ≠ 0 then (r.1, [])
      else
        let q := Xfer.gatherHere tile l { r.1 with pos := r.1.pos + 1 }
        (q.1, (d, r.2) :: q.2)

/-- The source bytes of a run in the order of copying, each with its destination, up to the first that fails. -/
def Xfer.gather (tile : Nat) (l : List (Nat × Nat)) (x : Xfer) : Xfer × List (Nat × Byte) :=
  (x.st.pkg.groups tile l).foldl (fun (y : Xfer × List (Nat × Byte)) g =>
    if y.1.status ≠ 0 then y
    else
      let q := if 4 ≤ g.1 then Xfer.gatherHost tile (g.1 - 4) g.2 y.1 else Xfer.gatherHere tile g.2 y.1
      (q.1, y.2 ++ q.2)) (x, [])

/-- The bytes at some addresses, up to the first that cannot be read: they are no data of the transfer. -/
def Xfer.readMany (tile : Nat) (l : List Nat) (x : Xfer) : Xfer × List Byte :=
  let q := Xfer.gather tile (l.map (fun a => (a, a))) { x with err := none }
  ({ q.1 with err := x.err, pos := x.pos }, q.2.map (·.2))

/-- How many bytes are enabled. -/
def beCount (be : Nat) : Nat := ((List.range 4).filter be.testBit).length

/-- Write words of the management space as the engine of a tile, up to the first that is turned away (R39, R41, R238, R246). -/
def Xfer.putWords (tile : Nat) : List (Nat × Nat × Word) → Xfer → Xfer
  | [], x => x
  | (a, be, v) :: l, x =>
    let r : Req := { die := tile, agent := 4 }
    let p := x.st.pkg
    let bad : Bool := p.accessErr r a != 0 || (isFence (addrDie a) (addrOff a) && addrDie a != tile) ||
      p.refusedWrite r (addrDie a) (addrOff a) (v &&& beMask be)
    if dmaRefused (addrDie a) (addrOff a) then x.fail dBadFormat
    else
      let x := { x with st := x.st.access r a (.write v be) }
      if bad then x.fail dDstErr else Xfer.putWords tile l { x with done := x.done + beCount be }

/-- A run of addresses in ascending order. -/
def upward (g : List (Nat × Byte)) : List (Nat × Byte) :=
  match g, g.getLast? with
  | a :: _, some b => if a.1 ≤ b.1 then g else g.reverse
  | _, _ => g

/-- Write one group; through a window it is one access, refused as a whole, whose bytes leave in ascending order (R224, R228). -/
def Xfer.putGroup (tile : Nat) (x : Xfer) (g : Nat × List (Nat × Byte)) : Xfer :=
  if x.status ≠ 0 then x
  else if g.1 = 1 then Xfer.putWords tile (mgmtWords g.2) x
  else if g.1 = 2 then
    { x with st := { x.st with mem := g.2.foldl (fun m e => m.set tile e.1 e.2) x.st.mem }, done := x.done + g.2.length }
  else if g.1 = 3 then x.fail dBadFormat
  else
    let up := upward g.2
    let o := ((up.map (·.1)).headD 0) % 0x1000000000
    if x.st.pkg.outRefused tile (g.1 - 4) o up.length then (x.onPkg (fun p => p.countNoWin tile)).fail dNoWin
    else { x.onPkg (fun p => p.bridgeWrite tile (g.1 - 4) o (up.map (·.2)) (up.map (fun _ => true))) with done := x.done + up.length }

/-- Write bytes in the order of copying, up to the first that cannot be written; an error of the writes comes before one that ended the reads. -/
def Xfer.scatter (tile : Nat) (l : List (Nat × Byte)) (x : Xfer) : Xfer :=
  let before := x.status
  let x : Xfer := (x.st.pkg.groups tile l).foldl (fun (y : Xfer) g => Xfer.putGroup tile y g) { x with status := 0, bytes := x.bytes ++ l }
  if x.status = 0 then { x with status := before } else x

/-! ### Scatter-gather lists and segments (R242, R244, R245) -/

/-- One side of a transfer: where it goes on and how many bytes are left there, the next list entry (none: no list, or LAST has been met). -/
structure Side where
  addr : Nat
  left : Nat
  next : Option Nat := none

/-- One side as words of the descriptor give it. -/
def Side.start (sg : Bool) (addr len : Nat) : Side := if sg then { addr := 0, left := 0, next := some addr } else { addr := addr, left := len }

/-- The error that the list entry at an address meets (R246). -/
def Xfer.entryErr (x : Xfer) (tile a : Nat) : Xfer :=
  if x.err = some (.entry x.entries) then (if x.st.pkg.local tile a = .byte then x.fail dEcc else x.fail dSrcErr) else x

/-- Read list entries until bytes are left. At most 1,024 entries are met in a transfer, links among them. -/
def Xfer.refill (tile : Nat) : Nat → Side → Xfer → Xfer × Side
  | 0, r, x => (x.fail dBadFormat, r)
  | k + 1, r, x =>
    if 0 < r.left ∨ x.status ≠ 0 then (x, r)
    else match r.next with
      | none => (x.fail dBadFormat, r)
      | some a =>
        if 1024 ≤ x.entries then (x.fail dBadFormat, r)
        else
          let q := Xfer.readMany tile ((List.range 16).map (fun i => a + i)) (x.entryErr tile a)
          let x := { q.1 with entries := q.1.entries + 1 }
          if x.status ≠ 0 then (x, r)
          else
            let there := leAt q.2 0 8
            let len := leAt q.2 8 4 % 2 ^ 24
            let flags := leAt q.2 12 4
            if flags.testBit 30 then Xfer.refill tile k { r with next := some there } x
            else Xfer.refill tile k { addr := there, left := len, next := if flags.testBit 31 then none else some (a + 16) } x

/-- The blocks of a segment of n bytes: runs (offset, length) bounded by the multiples of 64 of the source address (R245). -/
def blocksOf (src n : Nat) : List (Nat × Nat) :=
  (List.range (ceilDiv (src % 64 + n) 64)).map (fun i =>
    let lo := max (src % 64) (64 * i)
    (lo - src % 64, min (src % 64 + n) (64 * (i + 1)) - lo))

/-- The bytes of a run (offset, length) of a segment in the order of copying, as (source, destination). -/
def runPairs (src dst : Nat) (down : Bool) (b : Nat × Nat) : List (Nat × Nat) :=
  let l := (List.range b.2).map (fun i => (src + b.1 + i, dst + b.1 + i))
  if down then l.reverse else l

/-- Copy a run: it is read before it is written; of a block that is not read whole nothing is written (R245). -/
def Xfer.copyRun (tile : Nat) (whole : Bool) (l : List (Nat × Nat)) (x : Xfer) : Xfer :=
  let q := Xfer.gather tile l x
  if whole && q.1.status ≠ 0 then q.1 else q.1.scatter tile q.2

/-- Copy a segment (R244, R245). `force`: FORCE_DIR with its direction. -/
def Xfer.segment (tile src dst n : Nat) (force : Option Bool) (x : Xfer) : Xfer :=
  let meet : Bool := decide (src < dst + n) && decide (dst < src + n)
  let down := force.getD (meet && decide (src < dst))
  let x := { x with overlap := x.overlap || meet, down := x.down || down }
  let runs := match force with
    | some d => if d then (blocksOf src n).reverse else blocksOf src n
    | none => [(0, n)]
  runs.foldl (fun x b => if x.status ≠ 0 then x else x.copyRun tile force.isSome (runPairs src dst down b)) x

/-- Copy until the length is done (R242). -/
def Xfer.copyAll (tile : Nat) (force : Option Bool) : Nat → Nat → Side → Side → Xfer → Xfer
  | 0, _, _, _, x => x
  | k + 1, n, src, dst, x =>
    if n = 0 ∨ x.status ≠ 0 then x
    else
      let q := Xfer.refill tile 1026 src x
      let r := Xfer.refill tile 1026 dst q.1
      if r.1.status ≠ 0 then r.1
      else
        let m := min n (min q.2.left r.2.left)
        Xfer.copyAll tile force k (n - m) { q.2 with addr := q.2.addr + m, left := q.2.left - m }
          { r.2 with addr := r.2.addr + m, left := r.2.left - m } (r.1.segment tile q.2.addr r.2.addr m force)

/-- Read a transmit frame (R248): the bytes of the source in order. -/
def Xfer.readAll (tile : Nat) : Nat → Nat → Side → Xfer → Xfer
  | 0, _, _, x => x
  | k + 1, n, src, x =>
    if n = 0 ∨ x.status ≠ 0 then x
    else
      let q := Xfer.refill tile 1026 src x
      if q.1.status ≠ 0 then q.1
      else
        let m := min n q.2.left
        let g := Xfer.gather tile ((List.range m).map (fun i => (q.2.addr + i, q.2.addr + i))) q.1
        Xfer.readAll tile k (n - m) { q.2 with addr := q.2.addr + m, left := q.2.left - m } { g.1 with bytes := g.1.bytes ++ g.2 }

/-- Write the bytes of a received frame to its buffer (R249). -/
def Xfer.writeAll (tile : Nat) : Nat → List Byte → Side → Xfer → Xfer
  | 0, _, _, x => x
  | k + 1, l, dst, x =>
    if l.isEmpty ∨ x.status ≠ 0 then x
    else
      let q := Xfer.refill tile 1026 dst x
      if q.1.status ≠ 0 then q.1
      else
        let m := min l.length q.2.left
        let run := (List.range m).map (fun i => (q.2.addr + i, l.getD i 0))
        let e := (List.range m).find? (fun i => ({ q.1 with pos := q.1.pos + i } : Xfer).errHere tile none (some (q.2.addr + i)) != 0)
        let x := match e with
          | some i =>
            let x := q.1.scatter tile (run.take i)
            x.fail (({ q.1 with pos := q.1.pos + i } : Xfer).errHere tile none (some (q.2.addr + i)))
          | none => q.1.scatter tile run
        Xfer.writeAll tile k (l.drop m) { q.2 with addr := q.2.addr + m, left := q.2.left - m } { x with pos := x.pos + m }

/-! ### The check value (R250) -/

/-- Put a byte in its place by address, after those of the same address. -/
def insertByAddr (e : Nat × Byte) : List (Nat × Byte) → List (Nat × Byte)
  | [] => [e]
  | b :: l => if e.1 < b.1 then e :: b :: l else b :: insertByAddr e l

/-- The bytes a check unit covers: in ascending destination order; of a transmit frame in the order of the frame. -/
def checkBytes (tx : Bool) (l : List (Nat × Byte)) : List Byte :=
  ((if tx || l.map (·.1) == sortAsc (l.map (·.1)) then l else l.foldl (fun m e => insertByAddr e m) []).map (·.2))

/-- The unit takes the descriptor's bytes, from INIT or, with CHK_CONT, from the value it holds; it is BUSY until the write-back (R250, R260). -/
def Pkg.checkJob (s : Pkg) (tile ch : Nat) (w4 : Word) (bs : List Byte) (j : DmaJob) : Pkg × DmaJob :=
  match (if w4.getLsbD 29 then s.ckOf tile ch else none) with
  | none => (s, j)
  | some u =>
    let before := s.ckValue tile u
    let s := s.raise tile (fCkBusy.ck u)
    let j := { j with unit_ := some (u, before) }
    if j.bad then (s, j)
    else
      let s := if w4.getLsbD 30 then s else s.setCkValue tile u (s.ckPar tile u).init
      let s := s.ckTake tile u bs
      (s, { j with check := some (s.ckResult tile u) })

/-! ### DESCRIPTOR (R240, R241, R246, R248) -/

/-- What fetching the descriptor at HEAD finds: the ring is not where one may lie, or it cannot be read; OWN = 0; or words 0 to 7. -/
inductive Fetched where
  | ringErr
  | notOwned
  | words (l : List Byte)

/-- The ring lies in work memory or in an outbound window without prefetching (R240). -/
def Pkg.ringPlace (s : Pkg) (tile a : Nat) : Bool :=
  match s.local tile a with
  | .window w o => !s.outPrefetch tile w && !s.outRefused tile w o 64
  | .byte => decide (a < 0x200000000)
  | _ => false

/-- Fetch the descriptor at HEAD. -/
def Xfer.fetch (tile ch : Nat) (x : Xfer) : Xfer × Fetched :=
  let a := x.st.pkg.dmDesc tile ch
  if !x.st.pkg.ringPlace tile a then (x, .ringErr)
  else
    let q := Xfer.readMany tile ((List.range 32).map (fun i => a + i)) x
    if q.1.status ≠ 0 then ({ q.1 with status := 0 }, .ringErr)
    else if (leAt q.2 16 4).testBit 31 then (q.1, .words q.2) else (q.1, .notOwned)

/-- The channel cannot fetch its descriptor: it halts with RING_ERR. -/
def Pkg.ringFail (s : Pkg) (tile ch : Nat) : Pkg := (s.dmHalt tile ch).raise tile (fDmRingErr.ch ch)

/-- A transmit frame enters port 16 (R248); the buffer that holds SRC is released after it has been read. -/
def Pkg.sendFrame (s : Pkg) (tile ch src : Nat) (w5 : Word) (bs : List Byte) : Pkg × Nat :=
  let s := s.receiveInside tile 16 { bytes := bs, tc := some (fieldGet w5 2 0), tsReq := w5.getLsbD 3 }
  if !w5.getLsbD 4 then (s, 0)
  else
    let h : Word := match s.podAt tile src with | some h => BitVec.ofNat 32 h | none => podEmpty
    let refused : Bool := (s.podCheck tile ch 4 h).1 != 0
    (releaseEff tile ch 4 h s, if refused then dPodErr else 0)

/-- The data of a descriptor of a MEM or TX channel. -/
def Xfer.moveData (tile : Nat) (tx : Bool) (d : List Byte) (x : Xfer) : Xfer :=
  let w4 : Word := BitVec.ofNat 32 (leAt d 16 4)
  let len := fieldGet w4 23 0
  let src := Side.start (w4.getLsbD 24) (leAt d 0 8) len
  let dst := Side.start (w4.getLsbD 25) (leAt d 8 8) len
  let force := if w4.getLsbD 26 then some (w4.getLsbD 27) else none
  if len = 0 ∨ (tx ∧ (len < 60 ∨ 9212 < len)) then x.fail dBadFormat
  else if tx then Xfer.readAll tile 4096 len src x
  else Xfer.copyAll tile force 4096 len src dst x

/-- What follows the data of a descriptor of a MEM or TX channel: the frame enters its port, the check value, what will be written back. -/
def Xfer.process (tile ch : Nat) (d : List Byte) (x : Xfer) : State :=
  let tx : Bool := x.st.pkg.dmKind tile ch == 2
  let w4 : Word := BitVec.ofNat 32 (leAt d 16 4)
  let w5 : Word := BitVec.ofNat 32 (leAt d 20 4)
  let len := fieldGet w4 23 0
  let a := x.st.pkg.dmDesc tile ch
  let bad : Bool := x.status != 0
  let sent := if tx && !bad then x.st.pkg.sendFrame tile ch (leAt d 0 8) w5 (x.bytes.map (·.2)) else (x.st.pkg, x.status)
  let j : DmaJob := { addr := a, word4 := w4, done := if tx then (if bad then 0 else len) else x.done, status := sent.2, bad := bad,
                      overlap := x.overlap, down := x.down }
  let c := sent.1.checkJob tile ch w4 (checkBytes tx x.bytes) j
  { x.st with pkg := c.1.setDmaCh tile ch { c.1.dmaCh tile ch with job := some c.2 } }

/-- The channel may take a descriptor now: port 16 in its own tile is in service and holds no XOFF for a TX channel (R115, R248). -/
def Pkg.mayTake (s : Pkg) (tile ch : Nat) : Bool :=
  s.tileOn tile && decide (ch < 16) && s.dmReady tile ch &&
  (s.dmKind tile ch == 1 || (s.dmKind tile ch == 2 && s.inService tile && !s.creditStopped tile 16))

/-- What the fetch of a descriptor of a MEM or TX channel leads to; `s0`: the machine before, where the channel waits for a host read. -/
def Fetched.run (tile ch : Nat) (tx : Bool) (s0 : State) (x : Xfer) : Fetched → State
  | .ringErr => x.st.map (fun p => p.ringFail tile ch)
  | .notOwned => x.st.map (fun p => p.setDmaCh tile ch { p.dmaCh tile ch with stuck := true })
  | .words d =>
    let y := Xfer.moveData tile tx d x
    if y.waits then s0 else Xfer.process tile ch d y

/-- DESCRIPTOR (R241): the channel processes the descriptor at HEAD. While a host read of it finds none of the 256 reads free, it waits (R220, R239). -/
def descriptor (tile ch : Nat) (hostData : List (Nat × Byte)) (err : Option DmaErr) (at_ : Nat) (s : State) : State :=
  let s := s.map (fun p => p.reach at_)
  if !s.pkg.mayTake tile ch then s
  else
    let f := Xfer.fetch tile ch { st := s, ch := ch, host := hostData, err := err }
    if f.1.waits then s else f.2.run tile ch (s.pkg.dmKind tile ch == 2) s f.1

/-! ### DESCRIPTOR_DONE (R243, R246, R247) -/

/-- Words 8 to 15 as they are written back (Table 8-2). -/
def DmaJob.words (j : DmaJob) : List Byte :=
  let valid : Bool := !j.bad && j.check.isSome
  let w8 := j.done % 2 ^ 24 + (j.status % 16) * 2 ^ 24 + bit j.overlap * 2 ^ 28 + bit j.down * 2 ^ 29 + bit valid * 2 ^ 30 + bit j.bad * 2 ^ 31
  leBytes 4 w8 ++ leBytes 4 j.word9.toNat ++ leBytes 8 (if valid then j.check.getD 0 else 0) ++ leBytes 8 j.stamp ++
    leBytes 4 j.handle.toNat ++ leBytes 4 0

/-- Write bytes of a descriptor back. -/
def State.writeBack (s : State) (tile a : Nat) (bs : List Byte) : State :=
  match s.pkg.local tile a with
  | .window w o => s.map (fun p => p.bridgeWrite tile w o bs (bs.map (fun _ => true)))
  | _ => { s with mem := s.mem.write tile a bs }

/-- Every access of the descriptor has ended: no write of the tile's engine is unacknowledged or held, no read of the channel outstanding (R243). -/
def Pkg.dataDone (s : Pkg) (tile ch : Nat) : Bool :=
  let q := s.reqSt { die := tile, agent := 4 }
  q.unacked.isEmpty && q.held.isEmpty && !(s.bridge tile).reads.any (fun r => r.who == .dma ch)

/-- The attached unit is free again; a bad descriptor leaves it the value it had before (R246, R260). -/
def Pkg.freeUnit (s : Pkg) (tile : Nat) (j : DmaJob) : Pkg :=
  match j.unit_ with
  | some (u, v) =>
    let s := if j.bad then s.setCkValue tile u v else s
    s.put tile (fCkBusy.ck u) 0
  | none => s

/-- Counters and causes of a descriptor written back (Table 8-6), and the halt of R246 and R247. -/
def Pkg.jobDone (s : Pkg) (tile ch : Nat) (j : DmaJob) : Pkg :=
  let c := s.dmaCh tile ch
  let s := s.setDmaCh tile ch { c with job := none, stop := false }
  let b (o : Nat) : Nat := o + 0x100 * ch
  let s := (((s.bump tile (b oDmDesc)).add tile (b oDmBytes) j.done).add tile (b oDmBad) (bit j.bad)).add tile (b oDmOverlaps) (bit j.overlap)
  let s := s.dmAdvance tile ch
  let s := if j.word4.getLsbD 28 then s.raise tile ((fDmCause 0).ch ch) else s
  let s := if j.bad then s.raise tile ((fDmCause 1).ch ch) else s
  if c.stop || (j.bad && s.on tile (fDmErrHalt.ch ch)) then s.dmHalt tile ch else s

/-- DESCRIPTOR_DONE (R243): words 8 to 15 and then word 4 are written back. -/
def descriptorDone (tile ch : Nat) (wbFails : Bool) (at_ : Nat) (s : State) : State :=
  let s := s.map (fun p => p.reach at_)
  match (s.pkg.dmaCh tile ch).job with
  | none => s
  | some j =>
    if !(s.pkg.tileOn tile && decide (ch < 16) && s.pkg.dataDone tile ch) then s
    else
      let s := s.map (fun p => p.freeUnit tile j)
      if wbFails || !s.pkg.ringPlace tile j.addr then
        s.map (fun p => (p.setDmaCh tile ch { p.dmaCh tile ch with job := none, stop := false }).ringFail tile ch)
      else
        let s := s.writeBack tile (j.addr + 32) j.words
        let s := s.writeBack tile (j.addr + 16) (leBytes 4 (j.word4 &&& 0x7FFFFFFF#32).toNat)
        s.map (fun p => p.jobDone tile ch j)

/-! ### RX_FRAME_DMA (R249) -/

/-- The queues a receive channel serves: those of QUEUES on port 16; every queue of port 22 for an ANALYSIS channel. -/
def Pkg.rxPort (s : Pkg) (tile ch : Nat) : Nat := if s.dmKind tile ch = 4 then 22 else 16
def Pkg.rxServes (s : Pkg) (tile ch q : Nat) : Bool := s.dmKind tile ch == 4 || (s.get tile (fDmQueues.ch ch)).testBit q

/-- The frame a channel takes next: the one it has begun, else the first that came. -/
def Pkg.rxFrame (s : Pkg) (tile ch : Nat) : Option Delivered :=
  let c := s.dmaCh tile ch
  s.sw.got.find? (fun d => d.tile == tile && d.port == s.rxPort tile ch && s.rxServes tile ch d.q && (c.rxAt == 0 || d.q == c.rxQ))

/-- STARVED is set or cleared, with what it means for the channel's queues (R121, R249): a stall of port 16 ends when it clears. -/
def Pkg.setStarved (s : Pkg) (tile ch : Nat) (b : Bool) : Pkg :=
  let p := s.rxPort tile ch
  let s := if b && !s.on tile (fDmStarved.ch ch) then s.raise tile ((fDmCause 3).ch ch) else s
  let s := s.put tile (fDmStarved.ch ch) (bit b)
  (List.range 8).foldl (fun s q =>
    if s.rxServes tile ch q then
      let s := s.onSw (fun w => { w with starved := SMap.set false w.starved (qKey tile p q) b })
      (if !b && p == 16 then s.setBit8 tile (fStalled 16) q false else s).wdUpdate tile p q
    else s) s

/-- The frame at the head is taken whole: its cells are given back and its queue goes on. -/
def Pkg.rxTaken (s : Pkg) (tile ch : Nat) (d : Delivered) : Pkg :=
  let s := s.onSw (fun w => { w with got := dropFirst (fun x => x.tile == d.tile && x.port == d.port && x.q == d.q) w.got })
  let s := match d.hold with | some f => s.dropRef f | none => s
  (s.setDmaCh tile ch { s.dmaCh tile ch with rxAt := 0, rxQ := 0 }).wdUpdate tile d.port d.q

/-- Word 9 of a received frame (Table 8-2). -/
def rxWord9 (d : Delivered) (first last : Bool) : Word :=
  let q := match d.kind with | .mirror k => k | _ => d.q
  BitVec.ofNat 32 (d.bytes.length % 2 ^ 14 + (q % 8) * 2 ^ 14 + bit first * 2 ^ 17 + bit last * 2 ^ 18)

/-- A piece of a frame is written to the buffer of one descriptor; a descriptor that ends bad takes none of it. `s0`: the machine
before, where the channel waits for a host read. -/
def Xfer.takePiece (tile ch : Nat) (w : List Byte) (d : Delivered) (dst : Side) (size : Nat) (handle : Word) (s0 : State) (x : Xfer) : State :=
  let w4 : Word := BitVec.ofNat 32 (leAt w 16 4)
  let a := x.st.pkg.dmDesc tile ch
  let at_ := (x.st.pkg.dmaCh tile ch).rxAt
  let piece := (d.bytes.drop at_).take size
  let last : Bool := decide (d.bytes.length ≤ at_ + piece.length)
  let x := if size = 0 then x.fail dBadFormat else Xfer.writeAll tile 4096 piece dst x
  let bad : Bool := x.status != 0
  let j : DmaJob := { addr := a, word4 := w4, done := x.done, status := if bad then x.status else if last then 0 else dFrameCont, bad := bad,
                      word9 := rxWord9 d (at_ == 0) last, stamp := d.info.rxAt / 65536, handle := handle }
  let c := x.st.pkg.checkJob tile ch w4 (checkBytes false x.bytes) j
  let p := c.1.setDmaCh tile ch { c.1.dmaCh tile ch with job := some c.2, rxAt := if bad then at_ else at_ + piece.length, rxQ := d.q }
  if x.waits then s0 else { x.st with pkg := if last && !bad then p.rxTaken tile ch d else p }

/-- A descriptor is at hand: its buffer is allocated from POOL where it asks so; EMPTY makes the channel starve (R249). -/
def Xfer.rxInto (tile ch : Nat) (w : List Byte) (d : Delivered) (s0 : State) (x : Xfer) : State :=
  let w4 : Word := BitVec.ofNat 32 (leAt w 16 4)
  let w5 : Word := BitVec.ofNat 32 (leAt w 20 4)
  if w5.getLsbD 11 then
    let pool := fieldGet w5 10 5
    let al := x.st.pkg.allocEff tile ch pool 4
    let s : State := { x.st with pkg := al.1 }
    if al.2 = podEmpty then s.map (fun p => p.setStarved tile ch true)
    else
      let size := 2 ^ al.1.get tile (fPoolExp.pool pool)
      Xfer.takePiece tile ch w d (Side.start false (al.1.podAddr tile al.2.toNat) size) size al.2 s0
        { x with st := s.map (fun p => p.setStarved tile ch false) }
  else
    let len := fieldGet w4 23 0
    Xfer.takePiece tile ch w d (Side.start (w4.getLsbD 25) (leAt w 8 8) len) len 0 s0 { x with st := x.st.map (fun p => p.setStarved tile ch false) }

/-- What the fetch of a descriptor for a received frame leads to. -/
def Fetched.rxRun (tile ch : Nat) (d : Delivered) (s0 : State) (x : Xfer) : Fetched → State
  | .ringErr => x.st.map (fun p => (p.ringFail tile ch).setStarved tile ch true)
  | .notOwned => x.st.map (fun p => (p.setDmaCh tile ch { p.dmaCh tile ch with stuck := true }).setStarved tile ch true)
  | .words w => Xfer.rxInto tile ch w d s0 x

/-- RX_FRAME_DMA (R249): an RX or ANALYSIS channel writes the frame at the head of its queue, or what is left of it, into the descriptor at HEAD;
with none it is STARVED; while a host read finds none of the 256 reads free, it waits (R239). A starved channel whose frame has been flushed since (R121) is no longer so once it has a descriptor. -/
def rxFrameDma (tile ch : Nat) (hostData : List (Nat × Byte)) (err : Option DmaErr) (at_ : Nat) (s : State) : State :=
  let s := s.map (fun p => p.reach at_)
  let kind := s.pkg.dmKind tile ch
  if !(s.pkg.tileOn tile && decide (ch < 16) && (kind == 3 || kind == 4) && (s.pkg.dmaCh tile ch).job.isNone) then s
  else match s.pkg.rxFrame tile ch with
    | none => if s.pkg.dmReady tile ch && s.pkg.on tile (fDmStarved.ch ch) then s.map (fun p => p.setStarved tile ch false) else s
    | some d =>
      if !s.pkg.dmReady tile ch then s.map (fun p => p.setStarved tile ch true)
      else
        let f := Xfer.fetch tile ch { st := s, ch := ch, host := hostData, err := err }
        if f.1.waits then s else f.2.rxRun tile ch d s f.1

end Sys2Proof.Machine
end

