-- ==== Sys2Proof/Machine/ExecHost.lean ====
section
/-! DEFINITION. Chapters 7 and 8: the host bridge, DMA channels, pods, check units: the meaning of each command. -/
namespace Sys2Proof.Machine

/-- BAR2_ACCESS (R222): An inbound BAR2 access is translated through the inbound windows or refused as IN_NO_WIN. -/
def execBar2Access (tile : Nat) (write : Bool) (offset : Nat) (len : Nat) (data : List Byte) (be : List Bool) (poisoned : Bool) (at_ : Nat) (s : State) : Host.Outcome State Fault Refusal :=
  .next (Sys2Proof.Machine.bar2Access tile write offset len data be poisoned at_ s).finish

/-- OUTBOUND_ACCESS (R224): An outbound access is translated, lane-reordered and cut, or refused as OUT_NO_WIN. -/
def execOutboundAccess (tile : Nat) (who : OutReq) (write : Bool) (window : Nat) (offset : Nat) (len : Nat) (data : List Byte) (be : List Bool) (at_ : Nat) (s : State) : Host.Outcome State Fault Refusal :=
  .next (s.onPkg (Sys2Proof.Machine.outboundAccess tile who write window offset len data be at_))

/-- OUTBOUND_COMPLETION (R228): Completions of an outbound read return and are delivered to the requester in address order, or the read fails. -/
def execOutboundCompletion (tile : Nat) (tag : Nat) (status : CplStatus) (data : List Byte) (at_ : Nat) (s : State) : Host.Outcome State Fault Refusal :=
  .next (s.onPkg (Sys2Proof.Machine.outboundCompletion tile tag status data at_))

/-- COMPLETION_TIMEOUT (R224): An outbound read times out under the completion timeout and increments HB_CPL_TIMEOUT. -/
def execCompletionTimeout (tile : Nat) (tag : Nat) (s : State) : Host.Outcome State Fault Refusal :=
  .next (s.onPkg (Sys2Proof.Machine.completionTimeout tile tag))

/-- PREFETCH_EXPIRE (R233): Prefetched bytes unused for 2 µs are discarded. -/
def execPrefetchExpire (tile : Nat) (s : State) : Host.Outcome State Fault Refusal :=
  .next (s.onPkg (Sys2Proof.Machine.prefetchExpire tile))

/-- MSIX_UNMASK (R235): Unmasking an MSI-X vector sends its message if its summary is still 1. -/
def execMsixUnmask (a : Acc) (tile : Nat) (vec : Nat) (s : State) : Host.Outcome State Fault Refusal :=
  .next (s.regWriteIf (decide (vec < 32)) a tile (msixOff vec + 12) 0).finish

/-- PCIE_LINK_UP (R220): After PERST_N is released, an endpoint's PCIe link comes up, HB_LINK.LINK_UP is set and outbound accesses are issued again. -/
def execPcieLinkUp (tile : Nat) (speed : Nat) (width : Nat) (at_ : Nat) (s : State) : Host.Outcome State Fault Refusal :=
  .next (s.onPkg (Sys2Proof.Machine.pcieLinkUp tile speed width at_))

/-- PCIE_LINK_DOWN (R220): An endpoint's PCIe link goes down and outbound accesses are refused. -/
def execPcieLinkDown (tile : Nat) (at_ : Nat) (s : State) : Host.Outcome State Fault Refusal :=
  .next (s.onPkg (Sys2Proof.Machine.pcieLinkDown tile at_))

/-- PCIE_CONFIG_WRITE (R224): A host configuration write sets Bus Master Enable, Max_Payload_Size, Max_Read_Request_Size or the completion timeout of the endpoint. -/
def execPcieConfigWrite (tile : Nat) (bme : Bool) (mps : Nat) (mrrs : Nat) (cplTimeoutUs : Nat) (at_ : Nat) (s : State) : Host.Outcome State Fault Refusal :=
  .next (s.onPkg (Sys2Proof.Machine.pcieConfigWrite tile bme mps mrrs cplTimeoutUs at_))

/-- DMA_TAIL_WRITE (R240): A write to DM_CH_TAIL adds descriptors and lets an enabled channel resume processing. -/
def execDmaTailWrite (a : Acc) (tile : Nat) (ch : Nat) (value : Word) (s : State) : Host.Outcome State Fault Refusal :=
  .next (s.regWriteIf (decide (ch < 16)) a tile (dmBase ch + 0x14) value).finish

/-- DESCRIPTOR (R241): A channel processes the descriptor at HEAD, copying data with overlap handling and check value. -/
def execDescriptor (tile : Nat) (ch : Nat) (hostData : List (Nat × Byte)) (err : Option DmaErr) (at_ : Nat) (s : State) : Host.Outcome State Fault Refusal :=
  .next (Sys2Proof.Machine.descriptor tile ch hostData err at_ s).finishFlow

/-- DESCRIPTOR_DONE (R243): The channel writes back words 8–15 and then OWN = 0 once its data writes are acknowledged. -/
def execDescriptorDone (tile : Nat) (ch : Nat) (wbFails : Bool) (at_ : Nat) (s : State) : Host.Outcome State Fault Refusal :=
  .next (Sys2Proof.Machine.descriptorDone tile ch wbFails at_ s).finish

/-- STOP (R247): DM_CH_CMD.STOP aborts the current descriptor and halts the channel. -/
def execStop (a : Acc) (tile : Nat) (ch : Nat) (s : State) : Host.Outcome State Fault Refusal :=
  .next (s.regWriteIf (decide (ch < 16)) a tile (dmBase ch + 0x1C) 2).finish

/-- RESUME (R247): DM_CH_CMD.RESUME clears HALTED and RING_ERR. -/
def execResume (a : Acc) (tile : Nat) (ch : Nat) (s : State) : Host.Outcome State Fault Refusal :=
  .next (s.regWriteIf (decide (ch < 16)) a tile (dmBase ch + 0x1C) 1).finish

/-- RX_FRAME_DMA (R249): An RX or ANALYSIS channel writes a frame from its queue into one or more descriptors, or sets STARVED. -/
def execRxFrameDma (tile : Nat) (ch : Nat) (reads : DmaReads) (at_ : Nat) (s : State) : Host.Outcome State Fault Refusal :=
  .next (Sys2Proof.Machine.rxFrameDma tile ch reads.hostData reads.err at_ s).finishFlow

/-- ALLOC (R252): A pod ALLOC read returns a free buffer of the pool or EMPTY. -/
def execAlloc (a : Acc) (tile : Nat) (owner : Nat) (pool : Nat) (s : State) : Host.Outcome State Fault Refusal :=
  .next (State.finish (if owner < 256 ∧ pool < 64 then s.regRead a tile (0x1B10000 + 0x100 * owner + 4 * pool) else s))

/-- SHARE (R252): A pod SHARE adds an owner to a buffer or is refused. -/
def execShare (a : Acc) (tile : Nat) (owner : Nat) (other : Nat) (handle : Word) (s : State) : Host.Outcome State Fault Refusal :=
  .next (s.regWriteIf (decide (owner < 256 ∧ other < 256)) a tile (0x1B40000 + 0x400 * owner + 4 * other) handle).finish

/-- RELEASE (R252): A pod RELEASE removes an owner and the last release returns the buffer. -/
def execRelease (a : Acc) (tile : Nat) (owner : Nat) (handle : Word) (s : State) : Host.Outcome State Fault Refusal :=
  .next (s.regWriteIf (decide (owner < 256)) a tile (0x1B20000 + 4 * owner) handle).finish

/-- FREE (R252): A pod FREE returns a buffer held by its only owner or is refused. -/
def execFree (a : Acc) (tile : Nat) (owner : Nat) (handle : Word) (s : State) : Host.Outcome State Fault Refusal :=
  .next (s.regWriteIf (decide (owner < 256)) a tile (0x1B20400 + 4 * owner) handle).finish

/-- CK_FEED (R258): A write to CK_FEED feeds 4 bytes to the check unit. -/
def execCkFeed (a : Acc) (tile : Nat) (unit_ : Nat) (value : Word) (s : State) : Host.Outcome State Fault Refusal :=
  .next (s.regWriteIf (decide (unit_ < 8)) a tile (ckBase unit_ + 0x24) value).finish

/-- CK_FEED_B (R258): A write to CK_FEED_B feeds one byte to the check unit. -/
def execCkFeedB (a : Acc) (tile : Nat) (unit_ : Nat) (value : Word) (s : State) : Host.Outcome State Fault Refusal :=
  .next (s.regWriteIf (decide (unit_ < 8)) a tile (ckBase unit_ + 0x28) value).finish

/-- CK_RESTART (R258): CK_CMD.RESTART sets the running value to INIT. -/
def execCkRestart (a : Acc) (tile : Nat) (unit_ : Nat) (s : State) : Host.Outcome State Fault Refusal :=
  .next (s.regWriteIf (decide (unit_ < 8)) a tile (ckBase unit_ + 0x2C) 1).finish

/-- CK_PRESET (R257): CK_CMD.PRESET loads one row of the check presets. -/
def execCkPreset (a : Acc) (tile : Nat) (unit_ : Nat) (s : State) : Host.Outcome State Fault Refusal :=
  .next (s.regWriteIf (decide (unit_ < 8)) a tile (ckBase unit_ + 0x2C) 2).finish

/-- CK_VALUE_LOAD (R260): A write to CK_VALUE stages the low word or loads both words of the running value. -/
def execCkValueLoad (a : Acc) (tile : Nat) (unit_ : Nat) (high : Bool) (value : Word) (s : State) : Host.Outcome State Fault Refusal :=
  .next (s.regWriteIf (decide (unit_ < 8)) a tile (ckBase unit_ + (if high then 0x18 else 0x14)) value).finish

end Sys2Proof.Machine
end

