-- ==== Sys2Proof/Machine/ExecKeystone.lean ====
section
/-! DEFINITION. Chapter 2: keystone writes and commits: the meaning of each command. -/
namespace Sys2Proof.Machine

/-- KEYSTONE_WRITE (R64): A keystone write is written to the shadow or, while a commit is pending or banks are syncing, staged, or stalls when the stage is full. -/
def execKeystoneWrite (a : Acc) (addr : Nat) (value : Word) (be : Nat) (s : State) : Host.Outcome State Fault Refusal :=
  .next (State.finish (if s.pkg.isKeystone (addrDie addr) (addrOff addr) be then (s.map (fun p => p.reach a.at_)).access a.req addr (.write value be) else s))

/-- KS_REQUEST (R60): A write of SI_KS_REQUEST.GO on the coordinator fixes T_c and sends PREPARE, or is discarded as KS_BUSY or NOT_COORDINATOR. -/
def execKsRequest (a : Acc) (tile : Nat) (value : Word) (s : State) : Host.Outcome State Fault Refusal :=
  .next (s.regWrite a tile 0x200020 value).finish

/-- PREPARE (R61): A tile receives PREPARE, enters PENDING and starts staging keystone writes. -/
def execPrepare (tile : Nat) (at_ : Nat) (s : State) : Host.Outcome State Fault Refusal :=
  .next (s.onPkg (Sys2Proof.Machine.prepare tile at_))

/-- DRAIN_START (R61): At T_c − D a tile stops parser admission and enters DRAINING. -/
def execDrainStart (tile : Nat) (s : State) : Host.Outcome State Fault Refusal :=
  .next (s.onPkg (Sys2Proof.Machine.drainStart tile))

/-- DRAIN_COMPLETE (R62): A tile's pipeline and trestle input stage are empty and it sends DRAINED. -/
def execDrainComplete (tile : Nat) (at_ : Nat) (s : State) : Host.Outcome State Fault Refusal :=
  .next (s.onPkg (Sys2Proof.Machine.drainComplete tile at_))

/-- DRAINED (R61): The coordinator receives DRAINED and, once all tiles have drained with none not ready, decides to confirm. -/
def execDrained (tile : Nat) (at_ : Nat) (s : State) : Host.Outcome State Fault Refusal :=
  .next (s.onKeystone (Sys2Proof.Machine.drained tile at_))

/-- KS_DEADLINE (R67): At T_c − 250 ns the coordinator lacking DRAINED from any tile or holding NOT_READY decides to abort with a reason. -/
def execKsDeadline (s : State) : Host.Outcome State Fault Refusal :=
  .next (s.onKeystone (Sys2Proof.Machine.ksDeadline))

/-- DECISION_ACK (R69): The standby's acknowledgement of the decision reaches the coordinator, which then sends the decision to every other tile. -/
def execDecisionAck (tile : Nat) (at_ : Nat) (s : State) : Host.Outcome State Fault Refusal :=
  .next (s.onKeystone (Sys2Proof.Machine.decisionAck tile at_))

/-- DECISION_REPEAT (R61): The coordinator repeats its decision every 1 µs to each tile that has not acknowledged it. -/
def execDecisionRepeat (s : State) : Host.Outcome State Fault Refusal :=
  .next (s.onPkg (Sys2Proof.Machine.decisionRepeat))

/-- CONFIRM (R61): A tile receives the CONFIRM decision, or acts on it at once when it is HELD. -/
def execConfirm (tile : Nat) (at_ : Nat) (s : State) : Host.Outcome State Fault Refusal :=
  .next (s.onKeystone (Sys2Proof.Machine.confirm tile at_))

/-- ABORT (R67): A tile receives the abort decision and resumes in the old epoch, setting ABORTED and REASON. -/
def execAbort (tile : Nat) (at_ : Nat) (s : State) : Host.Outcome State Fault Refusal :=
  .next (s.onKeystone (Sys2Proof.Machine.abort tile at_))

/-- KS_COMMIT (R58): At T_c a tile with CONFIRM makes its shadows effective and resumes admission, with ABORT resumes in the old epoch, or with no decision enters HELD. -/
def execKsCommit (tile : Nat) (s : State) : Host.Outcome State Fault Refusal :=
  .next (s.onKeystone (Sys2Proof.Machine.ksCommit tile))

/-- COMMIT_ACK (R70): The coordinator receives a tile's commit acknowledgement and sets DONE when all are in. -/
def execCommitAck (tile : Nat) (at_ : Nat) (s : State) : Host.Outcome State Fault Refusal :=
  .next (s.onKeystone (Sys2Proof.Machine.commitAck tile at_))

/-- BANK_COPY_DONE (R58): The background bank copy ends, BANK_SYNC clears and the staged writes are written into the shadow. -/
def execBankCopyDone (tile : Nat) (at_ : Nat) (s : State) : Host.Outcome State Fault Refusal :=
  .next (s.onKeystone (Sys2Proof.Machine.bankCopyDone tile at_))

/-- TILE_LOST (R68): A tile that has acknowledged no decision after 1 ms is declared lost and the package enters DEGRADED. -/
def execTileLost (tile : Nat) (at_ : Nat) (s : State) : Host.Outcome State Fault Refusal :=
  .next (s.onKeystone (Sys2Proof.Machine.tileLost tile at_))

end Sys2Proof.Machine
end

