-- ==== Sys2Proof/Machine/ExecPower.lean ====
section
/-! DEFINITION. Chapters 10 and 11: modes, wakes, network management, the ledger: the meaning of each command. -/
namespace Sys2Proof.Machine

/-- MODE_REQUEST (R295): A write of PW_MODE_REQ requests RUN, RUN-PARTIAL or PROVISION, or is refused. -/
def execModeRequest (a : Acc) (value : Word) (s : State) : Host.Outcome State Fault Refusal :=
  .next (s.regWrite a 15 0x60004 value).finish

/-- RESET (R295): PW_CMD.RESET switches the rails off and starts a cold WAKING. -/
def execReset (a : Acc) (value : Word) (s : State) : Host.Outcome State Fault Refusal :=
  .next (s.regWrite a 15 0x6000C value).finish

/-- DEBUG_REQUEST (R303): A write of PW_DEBUG.REQ requests a debug level, which is refused or granted at the next round boundary. -/
def execDebugRequest (a : Acc) (port : Bool) (value : Word) (s : State) : Host.Outcome State Fault Refusal :=
  .next (State.finish (if port then s.map (fun p => debugRequestEff a.req value (p.reach a.at_)) else s.regWrite a 15 0x60010 value))

/-- SERVICE_LAPSE (R299): VALID_S of a SERVICE_ENTRY ticket passes and SERVICE ends. -/
def execServiceLapse (s : State) : Host.Outcome State Fault Refusal :=
  .next (s.onPkg (Sys2Proof.Machine.serviceLapse))

/-- DEBUG_TICKET_LAPSE (R302): VALID_S of an INVASIVE_DEBUG ticket passes and the debug port returns to CLOSED access. -/
def execDebugTicketLapse (s : State) : Host.Outcome State Fault Refusal :=
  .next (s.onPkg (Sys2Proof.Machine.debugTicketLapse))

/-- WAKE_PIN (R310): A WAKE pin becomes debounced-active and wakes the package if parked. -/
def execWakePin (pin : Nat) (at_ : Nat) (s : State) : Host.Outcome State Fault Refusal :=
  .next (s.onPkg (Sys2Proof.Machine.wakePin pin at_))

/-- WAKE_PIN_STUCK (R311): A WAKE pin debounced-active for 250 ms is marked stuck. -/
def execWakePinStuck (pin : Nat) (s : State) : Host.Outcome State Fault Refusal :=
  .next (s.onPkg (Sys2Proof.Machine.wakePinStuck pin))

/-- WAKE_PIN_INACTIVE (R311): A WAKE pin becomes debounced-inactive, which clears STUCK and rearms the pin. -/
def execWakePinInactive (pin : Nat) (at_ : Nat) (s : State) : Host.Outcome State Fault Refusal :=
  .next (s.onPkg (Sys2Proof.Machine.wakePinInactive pin at_))

/-- CAN_WUP (R316): A CAN transceiver in SLEEP detects a wake-up pattern and enters STANDBY. -/
def execCanWup (ch : Nat) (at_ : Nat) (s : State) : Host.Outcome State Fault Refusal :=
  .next (s.onPkg (Sys2Proof.Machine.canWup ch at_))

/-- SELECTIVE_WAKE (R323): The selective-wake decoder hits on a matching frame. -/
def execSelectiveWake (ch : Nat) (m : CanFrame) (at_ : Nat) (s : State) : Host.Outcome State Fault Refusal :=
  .next (s.onPkg (Sys2Proof.Machine.selectiveWake ch m at_))

/-- SWK_ERROR_OVERFLOW (R323): The decoder error count reaches 32 and the channel wakes. -/
def execSwkErrorOverflow (ch : Nat) (at_ : Nat) (s : State) : Host.Outcome State Fault Refusal :=
  .next (s.onPkg (Sys2Proof.Machine.swkErrorOverflow ch at_))

/-- TRX_FAILSAFE (R315): A transceiver in STANDBY with no command for 300 ms returns to SLEEP. -/
def execTrxFailsafe (ch : Nat) (s : State) : Host.Outcome State Fault Refusal :=
  .next (s.onPkg (Sys2Proof.Machine.trxFailsafe ch))

/-- WATCH_CORE_FAILSAFE (R315): The watch core fails to refresh the supervisor for 300 ms and every transceiver enters SLEEP. -/
def execWatchCoreFailsafe (at_ : Nat) (s : State) : Host.Outcome State Fault Refusal :=
  .next (s.onPkg (Sys2Proof.Machine.watchCoreFailsafe at_))

/-- TXD_TIMEOUT (R316): A TXD held dominant beyond t_TXDTO releases the transmitter. -/
def execTxdTimeout (ch : Nat) (at_ : Nat) (s : State) : Host.Outcome State Fault Refusal :=
  .next (s.onPkg (Sys2Proof.Machine.txdTimeout ch at_))

/-- TXD_RECESSIVE (R316): TXD goes recessive after a dominant time-out, and the CAN or LIN transmitter returns. -/
def execTxdRecessive (lin : Bool) (ch : Nat) (at_ : Nat) (s : State) : Host.Outcome State Fault Refusal :=
  .next (s.onPkg (Sys2Proof.Machine.txdRecessive lin ch at_))

/-- LIN_TXD_TIMEOUT (R416): A LIN TXD held dominant for more than 12 ms releases the transmitter and increments BUS_LIN_NO_RESPONSE. -/
def execLinTxdTimeout (ch : Nat) (at_ : Nat) (s : State) : Host.Outcome State Fault Refusal :=
  .next (s.onPkg (Sys2Proof.Machine.linTxdTimeout ch at_))

/-- BUS_DOM (R316): A bus held dominant beyond t_BUSDOM in STANDBY or SLEEP sets BUS_DOM. -/
def execBusDom (ch : Nat) (at_ : Nat) (s : State) : Host.Outcome State Fault Refusal :=
  .next (s.onPkg (Sys2Proof.Machine.busDom ch at_))

/-- BUS_DOM_CLEAR (R316): A CAN bus held dominant has been recessive for t_Filter, so BUS_DOM clears and wake detection rearms. -/
def execBusDomClear (ch : Nat) (at_ : Nat) (s : State) : Host.Outcome State Fault Refusal :=
  .next (s.onPkg (Sys2Proof.Machine.busDomClear ch at_))

/-- TRANSCEIVER_COMMAND (R315): The watch core commands a CAN transceiver in STANDBY, or in another state, to NORMAL, LISTEN or SLEEP. -/
def execTransceiverCommand (ch : Nat) (cmd : Nat) (at_ : Nat) (s : State) : Host.Outcome State Fault Refusal :=
  .next (s.onPkg (Sys2Proof.Machine.transceiverCommand ch cmd at_))

/-- NM_MESSAGE (R318): An NM message is received on a channel and updates the ring, consent and partial networks. -/
def execNmMessage (ch : Nat) (m : CanFrame) (at_ : Nat) (s : State) : Host.Outcome State Fault Refusal :=
  .next (s.onPkg (Sys2Proof.Machine.nmMessage ch m at_))

/-- NM_RING_SEND (R318): T_TYP_MS after receiving the token, the Ikider sends its RING to its successor. -/
def execNmRingSend (ch : Nat) (s : State) : Host.Outcome State Fault Refusal :=
  .next (s.onPkg (Sys2Proof.Machine.nmRingSend ch))

/-- NM_RING_LOST (R318): No RING within T_MAX_MS means the ring is lost and ALIVE is sent. -/
def execNmRingLost (ch : Nat) (s : State) : Host.Outcome State Fault Refusal :=
  .next (s.onPkg (Sys2Proof.Machine.nmRingLost ch))

/-- LIMPHOME (R318): In LIMP_HOME the channel sends LIMPHOME every T_ERROR_MS. -/
def execLimphome (ch : Nat) (s : State) : Host.Outcome State Fault Refusal :=
  .next (s.onPkg (Sys2Proof.Machine.limphome ch))

/-- NM_WAIT_EXPIRE (R320): T_WAIT_MS expires in PREPARE_SLEEP and the channel enters BUS_SLEEP. -/
def execNmWaitExpire (ch : Nat) (s : State) : Host.Outcome State Fault Refusal :=
  .next (Sys2Proof.Machine.nmWaitExpire ch s).finish

/-- PN_TIMEOUT (R322): A partial network not carried for 3 × T_MAX_MS becomes inactive. -/
def execPnTimeout (pn : Nat) (s : State) : Host.Outcome State Fault Refusal :=
  .next (s.onPkg (Sys2Proof.Machine.pnTimeout pn))

/-- CONFIRM_WAKE (R324): A write of NM_LOCAL.CONFIRM confirms the wake and NM channels join the ring. -/
def execConfirmWake (a : Acc) (value : Word) (s : State) : Host.Outcome State Fault Refusal :=
  .next (s.regWrite a 15 0x20010 value).finish

/-- FALSE_WAKE (R324): A wake not confirmed within QUIET_MS is false and the package parks again. -/
def execFalseWake (s : State) : Host.Outcome State Fault Refusal :=
  .next (Sys2Proof.Machine.falseWake s).finish

/-- NEW_PERIOD (R326): EL_CMD.NEW_PERIOD starts an allowance period. -/
def execNewPeriod (a : Acc) (value : Word) (s : State) : Host.Outcome State Fault Refusal :=
  .next (s.regWrite a 15 0x30008 value).finish

/-- PLAN_TICK (R328): The plan ticks every EL_TICK_S while parked and sheds items the allowance cannot carry. -/
def execPlanTick (meas : Nat) (temp : Int) (spentNah : Nat) (s : State) : Host.Outcome State Fault Refusal :=
  .next (s.onPkg (Sys2Proof.Machine.planTick meas temp spentNah))

/-- PLAN_TIMER (R331): The housekeeping plan timer fires and wakes tile 0 alone for housekeeping. -/
def execPlanTimer (k : Nat) (s : State) : Host.Outcome State Fault Refusal :=
  .next (s.onPkg (Sys2Proof.Machine.planTimer k))

/-- HK_MAX (R331): HK_MAX_S after a housekeeping wake the package parks again. -/
def execHkMax (s : State) : Host.Outcome State Fault Refusal :=
  .next (Sys2Proof.Machine.hkMax s).finish

/-- RETENTION_CONFIRM (R406): A tile confirms its retention switch moved to VSTBY, and WARM_VALID sets once all have. -/
def execRetentionConfirm (tile : Nat) (at_ : Nat) (s : State) : Host.Outcome State Fault Refusal :=
  .next (s.onPkg (Sys2Proof.Machine.retentionConfirm tile at_))

/-- VSTBY_LOW (R332): VSTBY below its minimum for over 10 µs clears WARM_VALID and logs RETENTION_LOST. -/
def execVstbyLow (mv : Nat) (at_ : Nat) (s : State) : Host.Outcome State Fault Refusal :=
  .next (s.onPkg (Sys2Proof.Machine.vstbyLow mv at_))

/-- EL_COPY_REFRESH (R333): Each tile's EL copy is refreshed from the sentinel every 1 ms in run modes. -/
def execElCopyRefresh (tile : Nat) (at_ : Nat) (s : State) : Host.Outcome State Fault Refusal :=
  .next (s.onPkg (Sys2Proof.Machine.elCopyRefresh tile at_))

/-- ALLOWANCE_LOW (R335): In a run mode, the allowance remaining falls below WARN_UAH or reaches 0, which sets EL_EVT LOW or EXHAUSTED and raises vector 31. -/
def execAllowanceLow (spentNah : Nat) (at_ : Nat) (s : State) : Host.Outcome State Fault Refusal :=
  .next (s.onPkg (Sys2Proof.Machine.allowanceLow spentNah at_))

end Sys2Proof.Machine
end

