-- ==== Sys2Proof/Machine/Activate.lean ====
section
/-! DEFINITION. Chapter 14: how update commands end, and what an activation does to the package (R390–R399). -/
namespace Sys2Proof.Machine

/-! ### The staging areas (R392) -/

/-- The lower staging area holds staged sections, the upper one those in effect. -/
def stageBase (upper : Bool) : Nat := if upper then 0x100C00000 else 0x100800000
def stageSize : Nat := 0x400000

/-- The structure sections of a container for one tile, one behind the other in manifest order (DEDUCED: see the log). -/
def Container.stageBytes (c : Container) (v : Variant) (t : Nat) : List Byte :=
  (c.sections.filter (fun x => (targetDies v x.target).contains t)).flatMap (·.data)

/-- The sections of a container are copied into a staging area of every powered tile. -/
def State.stage (s : State) (c : Container) (upper : Bool) : State :=
  { s with mem := s.pkg.powered.foldl (fun m t => m.write t (stageBase upper) ((c.stageBytes s.pkg.variant t).take stageSize)) s.mem }

/-- A tile's sections exceed the area. -/
def State.stageTooLarge (s : State) (c : Container) : Bool :=
  s.pkg.powered.any (fun t => stageSize < (c.stageBytes s.pkg.variant t).length)

/-! ### UP_COMMAND_DONE (R390–R392) -/

/-- The bytes a WRITE takes from work memory; what lies beyond work memory is open. -/
def State.sourceBytes (s : State) (src len : Nat) : List Byte :=
  (List.range len).map (fun i => if src + i < 0x101000000 then s.mem.get 0 (src + i) else Config.freeByte (s.pkg.fresh + i))

/-- The range is programmed; where the read-back fails, what it then holds is open. -/
def State.program (s : State) (base src len : Nat) (ok : Bool) : State :=
  let bs := if ok then s.sourceBytes src len else (List.range len).map (fun i => Config.freeByte (s.pkg.fresh + i))
  { s with pkg := s.pkg.tookFree len, mem := s.mem.norWrite base bs }

/-- The provisioning area's CRC-32C is right (R374). -/
def Mem.provOk (m : Mem) : Bool :=
  let area := m.norRead provBase provSize
  beAt area (provSize - 4) 4 == crc32c (area.take (provSize - 4))

/-- The result of VERIFY: the first check that fails, of the FIRMWARE container first. -/
def State.verifyResult (s : State) : Nat :=
  let slot := s.pkg.otherSlot
  let fw := s.pkg.checkContainer s.mem (s.firmware slot) true
  if fw ≠ 0 then fw else s.pkg.checkContainer s.mem (s.structure_ slot) true

/-- VERIFY ends (R392). -/
def State.verifyDone (s : State) (stage : Bool) : State :=
  let r := s.verifyResult
  if r ≠ 0 then s.map (fun p => (p.put 0 fVerifiedOther 0).upEnd r)
  else
    let c := s.structure_ s.pkg.otherSlot
    let s := s.map (fun p => p.raise 0 fVerifiedOther)
    if !stage then s.map (fun p => p.upEnd 0)
    else if s.stageTooLarge c then s.map (fun p => (p.onBoot (fun b => { b with staged := false })).upEnd uTooLarge)
    else (s.stage c false).map (fun p => (p.onBoot (fun b => { b with staged := true })).upEnd 0)

/-- UP_COMMAND_DONE (R390–R392): the running command ends. -/
def upCommandDone (readBackOk : Bool) (at_ : Nat) (s : State) : State :=
  let s := s.map (fun p => p.reach at_)
  match s.pkg.boot.cmd with
  | none => s
  | some (1, src, off, len) =>
    (s.program (slotBase s.pkg.otherSlot + off) src len readBackOk).map (fun p => p.upEnd (if readBackOk then 0 else uNorErr))
  | some (6, src, off, len) =>
    let s := s.program (provBase + off) src len readBackOk
    s.map (fun p => (p.put 0 fProvDamaged (bit (!s.mem.provOk))).upEnd (if readBackOk then 0 else uNorErr))
  | some (_, stage, _, _) => s.verifyDone (stage != 0)

/-! ### The flush (R395) -/

/-- Copies are discarded as LINK_DOWN. -/
def Pkg.dropDown (s : Pkg) (t port n : Nat) : Pkg := (List.range n).foldl (fun s _ => s.discard t 18 port) s

/-- Every frame that a tile still holds is discarded as LINK_DOWN (R135, R395), those that never got an egress port without one. -/
def Pkg.flushTile (s : Pkg) (t : Nat) : Pkg :=
  let w := s.sw
  let early := (w.waitIn.filter (fun x => x.tile == t)).length + (w.recirc.filter (fun x => x.tile == t)).length
  let s := s.add t (oDisc 18) early
  let s := (List.range 28).foldl (fun s p =>
    let queued := ((List.range 8).map (fun q => (s.queue t p q).length)).foldl (· + ·) 0
    let sending := ((s.port t p).tx.toList.length) + ((s.port t p).susp.toList.length)
    let late := (w.waiting.filter (fun c => c.tile == t && c.port == p)).length + (w.got.filter (fun d => d.tile == t && d.port == p)).length
    s.dropDown t p (queued + sending + late)) s
  let kept : SMap PortSt := w.ports.filterMap (fun e =>
    let x : PortSt := { mbps := e.2.mbps }
    if e.1 / 32 ≠ t then some e else if x = {} then none else some (e.1, x))
  let s := (s.clearTraffic t).onSw (fun x => { x with ports := kept, stamps := w.stamps })
  { s with dma := s.dma.filterMap (fun e =>
      let c : DmaCh := { e.2 with rxAt := 0, rxQ := 0 }
      if e.1 / 16 ≠ t then some e else if c = {} then none else some (e.1, c)) }

/-- ACTIVATION_FLUSH (R395): at T_a + 1 ms. -/
def activationFlush (s : Pkg) : Pkg :=
  s.when (s.pausing && !s.boot.actFlushed) (fun s =>
    let s := s.reachFrac (s.boot.actAt + ns (ms 1))
    let s := s.serving.foldl (fun s t => s.flushTile t) s
    s.onBoot (fun b => { b with actFlushed := true, actFrom := s.now }))

/-! ### The restart in a new shape (R395) -/

/-- The word that says which lanes form a port (LANE_MAP). -/
def laneOff (n : Nat) : Nat := 0x810000 + 0x200 * n

/-- The blocks PR, SW, TS, MS and TR and their table memories return to their reset values, but for freshness and E2E counters, link and XOFF states,
key status and secure channel entries. -/
def Pkg.clearStructure (s : Pkg) (t : Nat) : Pkg :=
  let other (k n : Nat) : Bool := n / k != t
  let live := (List.range 28).map (fun n => (n, s.get t (fLinkUp n), s.get t (fXoffTx n)))
  let keys := s.rd t 0x1000800
  let s := (s.put t fBankSync 0).setKsT t { s.ksT t with staged := [] }
  let s := ((s.clearWords t 0x400000 0x1800000).clearWords t 0x3000000 0x38B0000)
  let s := ((s.clearWords t 0x38B8000 0x38D0000).clearWords t 0x38D4000 0x3900000).wr t 0x1000800 keys
  let s := live.foldl (fun s e => (s.put t (fLinkUp e.1) e.2.1).put t (fXoffTx e.1) e.2.2) s
  let s := s.onSw (fun w =>
    { w with ctFin := SMap.keep (other 65536) w.ctFin, meters := SMap.keep (other 1024) w.meters, recov := SMap.keep (other 256) w.recov })
  { s with shadow := s.shadow.filter (fun e => addrDie e.1 != t), trestles := SMap.keep (· != t) s.trestles }

/-- A port whose LANE_MAP entry has changed: its link retrains, its association entries are cleared. -/
def Pkg.retrain (s : Pkg) (t n : Nat) : Pkg :=
  let s := (s.put t (fLinkUp n) 0).clearWords t (rxSaOff n 0 0) (rxSaOff (n + 1) 0 0)
  (s.clearWords t (txSaOff n 0) (txSaOff (n + 1) 0)).clearWords t (rxScOff n 0) (rxScOff (n + 1) 0)

/-- The section types whose effect an activation can change on a tile; those it keeps are the same in both images (R393). -/
def Section.reshapes (x : Section) : Bool := x.type != 2 && x.type != 9 && x.type != 10 && x.type != 12

/-- The PRESETS rows of a container that a test selects, as writes of agent 0 of their die (R382). -/
def State.applyPresets (s : State) (c : Container) (p : Section → Bool) (t : Nat) : State :=
  (c.sections.filter (fun x => x.type == 13 && p x && (targetDies s.pkg.variant x.target).contains t)).foldl (fun s x =>
    (presetRows x.data).foldl (fun s r => s.applyWrite { die := t, agent := 0 } t r.1 (BitVec.ofNat 32 r.2) 15) s) s

/-- A tile has restarted in the shape of a container. -/
def State.restartTile (c : Container) (t : Nat) (s : State) : State :=
  let lanes := (List.range 16).map (fun n => s.pkg.rd t (laneOff n))
  let s := s.map (fun p =>
    let p := (p.clearStructure t).fixSections c Section.reshapes [t]
    ((List.range 16).filter (fun n => p.rd t (laneOff n) != lanes.getD n 0)).foldl (fun p n => p.retrain t n) p)
  s.applyPresets c (fun _ => true) t

/-! ### Commits that start-up and activation make (R386, R394, R395) -/

/-- A keystone commit on every tile of a list, the steward's its coordinator: it runs to its end here. -/
def Pkg.commitAll (s : Pkg) (l : List Nat) : Pkg :=
  let c := s.steward
  let e := (s.get c fEpoch + 1) % 2 ^ 32
  let tc := s.countNs c
  let s := s.onKs (fun _ => { active := true, tile := c, tc := tc, epoch := e, tiles := l, answered := l, drained := l, dec := some .confirm,
                              stdbyAck := true, acked := l })
  let s := l.foldl (fun s t => (s.setKsT t { s.ksT t with tc := tc, epoch := e, dec := some .confirm, drained := true }).doCommit t) s
  (s.raise c fKsDone).onKs (fun _ => {})

/-! ### Images that come into effect -/

/-- What shows the images in effect: UP_FW_ID, FW_STEP, the firmware's half of the vault's manifest digests (R383). -/
def Pkg.showFirmware (s : Pkg) (c : Container) : Pkg :=
  let s := (s.wr 0 oUpFwId (BitVec.ofNat 32 (beAt c.digest 0 4))).put 0 fFwStep c.step
  s.onVault (fun v => { v with manifests := c.digest ++ v.manifests.drop 48 })

/-- SI_IMAGE_ID and the image's step on every tile of a list, the structure's half of the manifest digests. -/
def Pkg.showStructure (s : Pkg) (c : Container) (l : List Nat) : Pkg :=
  let s := l.foldl (fun s t => (s.wr t oSiImageId (BitVec.ofNat 32 (beAt c.digest 0 4))).put t fSiImageStep c.step) s
  s.onVault (fun v => { v with manifests := v.manifests.take 48 ++ c.digest })

/-! ### The end of an activation (R393–R398) -/

/-- The record of a completed activation (R397): a trial of the new slot, or, after a fallback, the previous slot for good. -/
def State.recordActivated (s : State) (slot : Nat) (fallback : Bool) : State :=
  if fallback then s.writeRecord (fun r => { r with active := slot, trial := false, next := false })
  else
    let trialS := s.pkg.get 0 fUpTrialS
    let until_ := s.pkg.countNs 0 + trialS * 1000000000
    let s := s.writeRecord (fun r => { r with active := slot, trial := true, next := false, trialEnd := until_, trialS := trialS })
    s.map (fun p => ((p.raise 0 fUpTrial).setCnt 0 oUpTrialEnd (BitVec.ofNat 64 until_)).onBoot (fun b => { b with liveTrial := true }))

/-- The new slot is in effect. -/
def State.takeSlot (s : State) (slot : Nat) : State :=
  let fw := s.firmware slot
  let st := s.structure_ slot
  let s := (s.stage st true).map (fun p =>
    let p := ((p.put 0 fUpSlot slot).put 0 fVerifiedOther 0).bump 0 oUpActivations
    ((p.showFirmware fw).showStructure st p.serving).onBoot (fun b => { b with staged := false }))
  s.recordActivated slot s.pkg.boot.fallback

/-- The mode after a pause: the one it came from, or QUARANTINE where the tamper line has reverted it (R396). Tiles lost meanwhile make it DEGRADED. -/
def Pkg.endPause (s : Pkg) : Pkg :=
  let s := if s.mode.quarantine ∧ s.mode.cameFrom ≠ mQuarantine then s.enterQuarantine else s.setMode s.mode.cameFrom 20
  if s.present.any s.isLost then s.degrade 10 else s

/-- Every tile has reported (R394–R396): the registers of a structure activation take the shape that is in effect from now, a commit follows, admission
resumes, bus messages that were held go to the trestle. -/
def State.endActivation (s : State) : State :=
  let b := s.pkg.boot
  let slot := if b.revert then s.pkg.get 0 fUpSlot else b.actSlot
  let c := s.structure_ slot
  let s := if b.act = 2 then
      (let s := s.pkg.serving.foldl (fun s t => s.restartTile c t) s
       s.map (fun p => p.fixSections c (fun x => x.type == 8 || x.type == 11) [15]))
    else s
  let s := if b.revert then s.map Pkg.fellBack else s.takeSlot slot
  let held := s.pkg.bus.held
  s.map (fun p =>
    let p := (p.onBoot (fun x => { x with act := 0, actLeft := [], revert := false, fallback := false, actFlushed := false })).onBus (fun x => { x with held := [] })
    let p := ((p.commitAll p.serving).endPause.put 0 fUpState 0).raise 0 (fUpEvt 0)
    let p := if b.act = 1 then p.beginRounds p.steward roleActive else p.updXoffAll
    held.foldl (fun p m => p.toTrestle m) p)

/-- ACTIVATION_RESTART_DONE (R394–R396): a tile reports the end of its restart, or its failure. In a firmware-only activation the steward's tile does. A
failure makes the activation revert; one that is already reverting goes on without the tile. -/
def activationRestartDone (tile : Nat) (ok : Bool) (at_ : Nat) (s : State) : State :=
  let s := s.map (fun p => p.reach at_)
  let b := s.pkg.boot
  if !(s.pkg.modeNow == mActivating && b.actLeft.contains tile && (b.act == 1 || (b.act == 2 && b.actFlushed))) then s
  else if !ok && !b.revert then s.map Pkg.startRevert
  else
    let s := s.map (fun p => p.onBoot (fun b => { b with actLeft := b.actLeft.filter (fun t => t != tile) }))
    if s.pkg.boot.actLeft.isEmpty then s.endActivation else s

/-- A start-up or a pause that fails: the rails go off and the package parks cold (R295, R386, R387). -/
def Pkg.failStart (s : Pkg) (reason : Nat) : Pkg :=
  let r := s.entryTick false
  let s := (r.1.setMode mParkedCold reason).parkTiles false
  let s := (s.onBoot (fun b => { b with act := 0, actLeft := [], cmd := none })).trxAllParked.pinsParked
  if r.2 then s.enterDormant else s

/-- ACTIVATION_TIMEOUT (R396): 11 ms of the restart phase with a tile that has not reported: the activation reverts. When the revert's own restart
runs out of time, what has not reported is lost, as in BOOT (R387). -/
def activationTimeout (s : State) : State :=
  let b := s.pkg.boot
  if !(s.pkg.modeNow == mActivating && b.act == 2 && b.actFlushed && !b.actLeft.isEmpty) then s
  else
    let s := s.map (fun p => p.reachFrac (b.actFrom + ns (ms 11)))
    if !b.revert then s.map Pkg.startRevert
    else if b.actLeft.contains 0 then s.map (fun p => p.failStart 17)
    else
      (s.map (fun p => (b.actLeft.foldl (fun p t => (p.loseTile t).ksDropTile t) p).onBoot (fun b => { b with actLeft := [] }))).endActivation

/-- TRIAL_END (R397). -/
def trialEnd (s : State) : State := s.trialEnds

/-! ### The steward's reload (R353, R354, R399) -/

/-- A steward that restarts during a trial takes the previous slot's firmware; where the structure differs a fallback activation follows (R399). -/
def State.reloadInTrial (s : State) : State :=
  let prev := s.pkg.otherSlot
  if s.firmwareOnly prev then
    let s := s.recordBack
    s.map (fun p => (((p.put 0 fUpSlot prev).put 0 fVerifiedOther 0).showFirmware (s.firmware prev)).endTrial.fellBack)
  else (s.map (fun p => p.showFirmware (s.firmware prev))).startFallback

/-- STEWARD_RELOAD_DONE (R353, R354): a restarted cluster begins rounds afresh. -/
def stewardReloadDone (tile at_ : Nat) (s : State) : State :=
  let s := s.map (fun p => p.reach at_)
  if !(s.pkg.inService tile && s.pkg.get tile fRole == roleRestarting) then s
  else
    let s := s.map (fun p => p.beginRounds tile (if tile = p.steward then roleActive else roleManager))
    if tile = s.pkg.steward ∧ s.pkg.on 0 fUpTrial then s.reloadInTrial else s

/-! ### The keeper's queue (R374, R375) -/

/-- The container that repairs a section of a slot's container: the other slot's, with the same manifest digest. -/
def State.repairFrom (s : State) (slot kind i : Nat) : Option (List Byte) :=
  let a := s.mem.container s.pkg.boot.record slot kind
  let b := s.mem.container s.pkg.boot.record (1 - slot) kind
  match b.sections[i]? with
  | some x => if a.digest = b.digest ∧ x.digestOk then some x.data else none
  | none => none

/-- One container is scrubbed: each section that fails is rewritten from the other slot where that can be; answers whether the container is sound. -/
def State.scrubContainer (s : State) (slot kind : Nat) (ok : Bool) : State × Bool :=
  let c := s.mem.container s.pkg.boot.record slot kind
  if !c.formOk s.pkg.variant then (s, true)
  else
    let base := slotBase slot + s.pkg.boot.record.offs.getD (2 * slot + (kind - 1)) 0
    (List.range c.sections.length).foldl (fun q i =>
      match c.sections[i]? with
      | none => q
      | some x =>
        if x.digestOk then q
        else match (if ok then s.repairFrom slot kind i else none) with
          | some bs => ({ q.1 with pkg := q.1.pkg.bump 0 oNorRepairs, mem := q.1.mem.norWrite (base + x.off) bs }, q.2)
          | none => (q.1, false)) (s, true)

/-- A slot is scrubbed (R374): a section that cannot be repaired damages it, which is journalled as a STORAGE record with event code 3 (DESIGN CHOICE: the
spec gives no codes). -/
def State.scrubSlot (s : State) (slot : Nat) (ok : Bool) : State :=
  let a := s.scrubContainer slot 1 ok
  let b := a.1.scrubContainer slot 2 ok
  let good := a.2 && b.2
  b.1.map (fun p =>
    let was := p.keeper.damaged.contains slot
    let p := (p.onKeeper (fun k => { k with damaged := if good then k.damaged.filter (· != slot) else slot :: k.damaged.filter (· != slot) })).showDamaged
    if good ∨ was then p else ((p.jnlHw 0 3 (leBytes 4 3 ++ leBytes 4 slot ++ leBytes 4 1)).raise 0 (fStEvt 3)).keeperTake)

/-- The NOR scrub (R374). -/
def State.norScrubRun (s : State) (ok : Bool) : State :=
  let s := (s.scrubSlot 0 ok).scrubSlot 1 ok
  s.map (fun p =>
    let p := if s.mem.provOk then p else p.raise 0 fProvDamaged
    (p.onKeeper (fun k => { k with norAt := p.nowNs })).bump 0 oNorScrubs)

/-- The keeper may run queued work now (R375): in a run mode, in QUARANTINE, PROVISION or DEBUG, behind journal writes; outside a housekeeping run at
most BG_BLOCKS blocks per second. -/
def Pkg.mayWork (s : Pkg) : Bool :=
  let k := s.keeper
  let inSec := if k.second = s.nowNs / 1000000000 then k.inSec else 0
  s.tileOn 0 && s.on 0 fStMounted && !k.busy && (runMode s.modeNow || s.modeNow == mQuarantine || s.modeNow == mProvision || s.modeNow == mDebug) &&
  (s.wake.hk.isSome || decide (inSec < s.get 0 fBgBlocks))

/-- A housekeeping run also does what falls due before the next one, HK_PERIOD_H ahead (R375). -/
def Pkg.queueAhead (s : Pkg) : Pkg :=
  if s.wake.hk.isNone then s
  else
    let to_ := s.nowNs + s.get 15 fElHkPeriod * 3600000000000
    let due := s.keeper.blocks.filter (fun e =>
      (e.2.kind == 1 || e.2.kind == 2 || e.2.kind == 3) && s.keeper.open_ != some e.1 && s.keeper.openRet != some e.1 &&
      decide (e.2.touched + s.get 0 fScrubDays * dayNs ≤ to_))
    let s := due.foldl (fun s e => s.queueWork (.scrub e.1)) s
    if s.keeper.norAt + s.get 0 fNorScrubDays * dayNs ≤ to_ then s.queueWork .nor else s

/-- The operation at the head of the queue runs. -/
def State.workOnce (s : State) (w : Work) (l : List Work) (ok : Bool) (ecc : List CodeRead) : State :=
  let sec := s.pkg.nowNs / 1000000000
  let s := s.map (fun p => (p.onKeeper (fun k =>
    { k with work := l, second := sec, inSec := (if k.second = sec then k.inSec else 0) + 1 })).countWork)
  match w with
  | .nor => s.norScrubRun ok
  | w => s.map (fun p => (p.runWork w ok ecc).queueMoves)

/-- KEEPER_WORK (R375): the keeper runs its next queued operation; in a housekeeping run that has none left it flushes and sets HK_DONE, and the
package parks (R331). A NOR scrub waits while an update command or an activation runs (R374). -/
def keeperWork (ok : Bool) (ecc : List CodeRead) (at_ : Nat) (s : State) : State :=
  let s := s.map (fun p => p.reach at_)
  if !s.pkg.mayWork then s
  else
    let s := s.map Pkg.queueAhead
    let s := match s.pkg.keeper.work with
      | w :: l => if w = .nor ∧ s.pkg.get 0 fUpState ≠ 0 then s else s.workOnce w l ok ecc
      | [] => s
    if s.pkg.wake.hk.isSome && s.pkg.keeper.work.isEmpty then (s.map (fun p => (p.flushPage).raise 0 fHkDone)).park else s

end Sys2Proof.Machine
end

