-- ==== Sys2Proof/Machine/Takeover.lean ====
section
/-! DEFINITION. Chapter 12: the standby takes the steward's roles (R350–R352). -/
namespace Sys2Proof.Machine

/-! ### Release (R343) -/

/-- One voted output leaves as agent 0 of its tile, also when an output before it has sent the cluster away: a register write through the fabric, bytes of memory, or an outbound write; one that the bridge
refuses is an access fault (R340). -/
def State.releaseOne (tile : Nat) (s : State) (e : OutEntry) : State :=
  let on_ := ((List.range e.data.length).filter (fun i => e.be.getD i false)).map (fun i => (e.addr + i, e.data.getD i 0))
  if (s.pkg.entryMgmt tile e).isSome then
    (mgmtWords on_).foldl (fun s w => if s.pkg.served { die := tile, agent := 0 } then s.send { die := tile, agent := 0 } w.1 (.write w.2.2 w.2.1) else s) s
  else match s.pkg.local tile e.addr with
    | .window w o =>
      s.map (fun p =>
        if p.outRefused tile w o e.data.length then (p.countNoWin tile).outFault tile (.core 0) 0 3
        else p.bridgeWrite tile w o e.data e.be)
    | .byte => { s with mem := on_.foldl (fun m b => m.set tile b.1 b.2) s.mem }
    | _ => s

/-- The outputs of a round that has been voted leave in program order (R343). -/
def State.releaseRound (s : State) (tile : Nat) : State :=
  let l := (s.pkg.cluster tile).leaving
  l.foldl (State.releaseOne tile) (s.map (fun p => if l.isEmpty then p else p.setCluster tile { p.cluster tile with leaving := [] }))

/-- An output of tile 0's cluster that has left its core, as its home die holds it (R51, R343). -/
def heldOut (h : HeldAcc) : Option HeldOut :=
  match h.kind with | .write v be => some { addr := h.addr, value := v, be := be } | _ => none

/-- The management writes of the last voted round without a mirrored acknowledgement: those issued, then those their home die still holds. -/
def Pkg.unmirrored (s : Pkg) : List HeldOut :=
  let q := s.reqSt { die := 0, agent := 0 }
  q.unacked.map (fun w => { addr := w.addr + (if w.once then 2 ^ 30 else 0), value := w.value, be := w.be }) ++ q.held.filterMap heldOut

/-- A once-only output goes to the doubt list of tile 1 (R352). -/
def Pkg.doubt (s : Pkg) (o : HeldOut) : Pkg :=
  let n := s.get 1 fDoubtCount
  if 32 ≤ n then s.put 1 fDoubtOvf 1
  else
    let s := (s.wr 1 (doubtOff n) (BitVec.ofNat 32 (o.addr % 2 ^ 30 + 2 ^ 31))).wr 1 (doubtOff n + 4) o.value
    let s := s.put 1 fDoubtCount (n + 1)
    if n = 0 then s.raise 1 (fSgEvt 6) else s

/-- An output of the last voted round (R352): doubted where it is once-only, else issued again by tile 1. -/
def State.reissue (s : State) (o : HeldOut) : State :=
  if o.addr.testBit 30 then s.map (fun p => p.doubt o)
  else (s.access { die := 1, agent := 0 } o.addr (.write o.value o.be)).map (fun p => p.bump 1 (oSg 11))

/-- An output of the round that the takeover closes (R352). -/
def State.replayOut (s : State) (o : HeldOut) : State :=
  if o.loc then s.map (fun p => p.bump 1 (oSg 12)) else s.access { die := 1, agent := 0 } o.addr (.write o.value o.be)

/-- Tile 0's cluster is isolated (R352): what its home die still held never leaves it, and nobody waits for its acknowledgements. -/
def Pkg.isolate (s : Pkg) : Pkg :=
  let q := s.reqSt { die := 0, agent := 0 }
  let s := s.setReqSt { die := 0, agent := 0 } { q with unacked := [], fences := [], held := [] }
  (s.put 0 fRole roleManager).setCluster 0 { s.cluster 0 with closed := false, missing := [], reports := false, held := [] }

/-- The standby goes on with a commit that tile 0 coordinated (R69): it repeats the decision it holds, or aborts with TILE_LOST. -/
def Pkg.ksTakeover (s : Pkg) : Pkg :=
  if !(s.ks.active && s.ks.tile == 0) then s
  else
    let d : Decision := ((s.ksT 1).held).getD (.abort 3)
    let s := s.onKs (fun k => { k with tile := 1, dec := some d, stdbyAck := true, acked := [1], lastSent := s.now })
    (s.takeDecision 1 d).checkAborted

/-- The roles pass to tile 1 (R31, R69, R178, R204, R271, R352): a requested census ends, since its coordinator is gone (R360). -/
def Pkg.takeRoles (s : Pkg) : Pkg :=
  let moved : Bool := s.steward == 1
  let s := (s.onMode (fun m => { m with steward := 1 })).ksTakeover
  let s := { s with tether := 1, cenReq := {} }
  let s := ((s.beginRounds 1 roleActive).raise 1 (fSgEvt 5)).bump 1 (oSg 9)
  (if moved then s else s.trestleMoves).setHealth hAbsent

/-- The round that had not been voted is run, closed early with code 6, voted and released by tile 1 (R339, R352). -/
def Pkg.closeMirrored (s : Pkg) : Pkg :=
  let n := s.cnt 0 oSgRound + 1
  (((s.bump 1 (oEarlyClose 6)).setCnt 1 oSgRound n).put 1 fRound16 (n.toNat % 65536)).bump 1 (oSg 0)

/-- The detection a cause names (R350). -/
def Pkg.detects (s : Pkg) (cause : StbyCause) : Bool :=
  s.standbyReady &&
  match cause with
  | .noDigest => s.steward == 0 && s.digestLate 0
  | .reported => s.steward == 0 && (s.cluster 0).reports
  | .tileLost => s.isLost 0

/-- STANDBY_TIMEOUT (R350, R352): a HEALTHY standby detects failure of the active steward and takes over. -/
def standbyTimeout (cause : StbyCause) (replay : List HeldOut) (at_ : Nat) (s : State) : State :=
  let s := s.map (fun p => p.reach at_)
  if !s.pkg.detects cause then s
  else
    let again := s.pkg.unmirrored
    let s := s.map Pkg.isolate
    let s := again.foldl State.reissue s
    let s := replay.foldl State.replayOut s
    s.map (fun p => p.withRemoval (fun p => (p.closeMirrored.takeRoles).degrade 11))

end Sys2Proof.Machine
end

