-- ==== Sys2Proof/Machine/ExecSteward.lean ====
section
/-! DEFINITION. Chapters 12 and 13: rounds and votes, the standby, the census, the journal, storage: the meaning of each command. -/
namespace Sys2Proof.Machine

/-- ROUND_BOUNDARY (R338): A round ends at a multiple of ROUND_US or closes early, and each core runs to its boundary point. -/
def execRoundBoundary (tile : Nat) (run : RoundRun) (at_ : Nat) (s : State) : Host.Outcome State Fault Refusal :=
  .next (s.onPkg (Sys2Proof.Machine.roundBoundary tile run at_))

/-- VOTE (R342): The cores' digests are compared and the round is released, replayed, reduced to duplex or failed. -/
def execVote (tile : Nat) (v : VoteIn) (at_ : Nat) (s : State) : Host.Outcome State Fault Refusal :=
  .next ((s.map (Sys2Proof.Machine.vote tile v at_)).releaseRound tile).finish

/-- DIGEST_GRACE (R341): A core that has not presented its digests GRACE_US after the first is missing. -/
def execDigestGrace (tile : Nat) (core : Nat) (s : State) : Host.Outcome State Fault Refusal :=
  .next (s.onPkg (Sys2Proof.Machine.digestGrace tile core))

/-- STANDBY_ROUND (R349): The standby compares its re-executed round's digest with the active's. -/
def execStandbyRound (digest : Quad) (ownVoteOk : Bool) (at_ : Nat) (s : State) : Host.Outcome State Fault Refusal :=
  .next (s.onPkg (Sys2Proof.Machine.standbyRound digest ownVoteOk at_))

/-- STANDBY_SYNC (R349): The active's checkpoint copy reaches the standby in SYNCING. -/
def execStandbySync (at_ : Nat) (s : State) : Host.Outcome State Fault Refusal :=
  .next (s.onPkg (Sys2Proof.Machine.standbySync at_))

/-- STANDBY_TIMEOUT (R350): No voted digest within ROUND_US + GRACE_US makes a HEALTHY standby detect failure. -/
def execStandbyTimeout (cause : StbyCause) (replay : List HeldOut) (at_ : Nat) (s : State) : Host.Outcome State Fault Refusal :=
  .next (Sys2Proof.Machine.standbyTimeout cause replay at_ s).finishKeystone

/-- STEWARD_RESTART (R353): The active cluster discards held outputs and reloads steward firmware. -/
def execStewardRestart (tile : Nat) (at_ : Nat) (s : State) : Host.Outcome State Fault Refusal :=
  .next (s.onKeystone (Sys2Proof.Machine.stewardRestart tile at_))

/-- STEWARD_RELOAD_DONE (R353): The reload of a restarted steward or tile-manager cluster completes and rounds begin again from a fresh start, which ends RESTARTING. -/
def execStewardReloadDone (tile : Nat) (at_ : Nat) (s : State) : Host.Outcome State Fault Refusal :=
  .next (Sys2Proof.Machine.stewardReloadDone tile at_ s).finish

/-- REJOIN (R346): SG_REJOIN.REJOIN ends split boot and copies core 0's state to the other cores. -/
def execRejoin (a : Acc) (tile : Nat) (value : Word) (s : State) : Host.Outcome State Fault Refusal :=
  .next (s.regWrite a tile 0x1D00008 value).finish

/-- DOUBT_CLEAR (R352): SG_DOUBT_CLEAR empties the doubt list and clears DOUBT_OVF. -/
def execDoubtClear (a : Acc) (tile : Nat) (value : Word) (s : State) : Host.Outcome State Fault Refusal :=
  .next (s.regWrite a tile 0x1D0000C value).finish

/-- CENSUS_LATCH (R357): At T_s every counter unit latches its counters into the other bank. -/
def execCensusLatch (die : Nat) (periodic : Bool) (at_ : Nat) (s : State) : Host.Outcome State Fault Refusal :=
  .next (s.onPkg (Sys2Proof.Machine.censusLatch die periodic at_))

/-- CENSUS_REQUEST (R358): CS_CEN_REQ.GO on the coordinator fixes T_s and sends prepares. -/
def execCensusRequest (a : Acc) (tile : Nat) (value : Word) (s : State) : Host.Outcome State Fault Refusal :=
  .next (s.regWrite a tile 0x1E00008 value).finish

/-- CENSUS_PREPARE (R359): A die receives the census prepare, latching on arrival if T_s has passed. -/
def execCensusPrepare (die : Nat) (at_ : Nat) (s : State) : Host.Outcome State Fault Refusal :=
  .next (s.onPkg (Sys2Proof.Machine.censusPrepare die at_))

/-- CENSUS_PUBLISH (R360): A die publishes its latched bank and the coordinator completes once all have. -/
def execCensusPublish (die : Nat) (at_ : Nat) (s : State) : Host.Outcome State Fault Refusal :=
  .next (s.onPkg (Sys2Proof.Machine.censusPublish die at_))

/-- CENSUS_ABSENT (R359): A die that has not reported within 100 µs of T_s is declared ABSENT. -/
def execCensusAbsent (die : Nat) (s : State) : Host.Outcome State Fault Refusal :=
  .next (s.onPkg (Sys2Proof.Machine.censusAbsent die))

/-- What CENSUS_HOLD writes to CS_CEN_CFG: HOLD, and the keystone bits as they would take effect next (R58), so that HOLD alone changes. -/
def Pkg.holdWord (s : Pkg) (tile : Nat) (hold : Bool) : Word := fieldSet ((s.stagedIn tile).nextWord tile 0x1E00000) 2 2 (bit hold)

/-- CENSUS_HOLD (R361): Setting HOLD keeps the window's bank and clearing it publishes the newest bank. -/
def execCensusHold (a : Acc) (tile : Nat) (hold : Bool) (s : State) : Host.Outcome State Fault Refusal :=
  .next (s.regWrite a tile 0x1E00000 (s.pkg.holdWord tile hold)).finish

/-- JOURNAL_COMMIT (R364): A CS_JNL_COMMIT write stamps and queues a journal record, or is refused. -/
def execJournalCommit (a : Acc) (tile : Nat) (value : Word) (s : State) : Host.Outcome State Fault Refusal :=
  .next (s.regWrite a tile 0x1E00100 value).finish

/-- PAGE_PROGRAM (R371): A NAND page of records is programmed, making its records durable or retiring the block. -/
def execPageProgram (ok : Bool) (at_ : Nat) (s : State) : Host.Outcome State Fault Refusal :=
  .next (s.onPkg (Sys2Proof.Machine.pageProgram ok at_))

/-- FLUSH_TIMER (R371): FLUSH_MS after its first record a page is padded and programmed. -/
def execFlushTimer (s : State) : Host.Outcome State Fault Refusal :=
  .next (s.onPkg (Sys2Proof.Machine.flushTimer))

/-- FLUSH (R371): ST_CMD.FLUSH pads and programs the open page. -/
def execFlush (a : Acc) (s : State) : Host.Outcome State Fault Refusal :=
  .next (s.regWrite a 0 0x1F00014 1).finish

/-- NAND_MOUNT (R372): The storage keeper mounts the NAND, reading the bad block table and finding the ring ends. -/
def execNandMount (d : NandFound) (at_ : Nat) (s : State) : Host.Outcome State Fault Refusal :=
  .next (s.onPkg (Sys2Proof.Machine.nandMount d at_))

/-- RD_GO (R373): ST_CMD.RD_GO starts copying journal records from the named area into the read ring. -/
def execRdGo (a : Acc) (area : Nat) (s : State) : Host.Outcome State Fault Refusal :=
  .next (s.regWrite a 0 0x1F00014 (BitVec.ofNat 32 (2 + 4 * (area % 2)))).finish

/-- RD_STOP (R373): ST_CMD.RD_STOP ends the copy after the current record. -/
def execRdStop (a : Acc) (s : State) : Host.Outcome State Fault Refusal :=
  .next (s.regWrite a 0 0x1F00014 8).finish

/-- RD_COPY_RECORD (R373): The keeper copies one record into the read ring once it has room. -/
def execRdCopyRecord (read : RecordRead) (s : State) : Host.Outcome State Fault Refusal :=
  .next (Sys2Proof.Machine.rdCopyRecord read.ecc read.at_ s).finish

/-- KEEPER_WORK (R375): The keeper runs one queued refresh, static move or scrub operation. -/
def execKeeperWork (run : WorkRun) (at_ : Nat) (s : State) : Host.Outcome State Fault Refusal :=
  .next (Sys2Proof.Machine.keeperWork run.ok run.ecc at_ s).finish

/-- SCRUB_DUE (R370): A block reaching READ_LIMIT or SCRUB_DAYS is queued for refresh or scrub. -/
def execScrubDue (block : Nat) (at_ : Nat) (s : State) : Host.Outcome State Fault Refusal :=
  .next (s.onPkg (Sys2Proof.Machine.scrubDue block at_))

/-- NOR_SCRUB (R374): Every NOR_SCRUB_DAYS the keeper verifies and repairs the image slots and provisioning area. -/
def execNorScrub (at_ : Nat) (s : State) : Host.Outcome State Fault Refusal :=
  .next (s.onPkg (Sys2Proof.Machine.norScrub at_))

end Sys2Proof.Machine
end

