-- ==== Sys2Proof/Machine/ExecSwitch.lean ====
section
/-! DEFINITION. Chapters 3 to 5: frames, queues, the scheduler, streams, time: the meaning of each command. -/
namespace Sys2Proof.Machine

/-- FRAME_RECEIVE (R72): A frame arriving at a MAC, host, CPU or trestle port passes MAC checks, MACsec, parsing, classification, the firewall and resolution to a descriptor. -/
def execFrameReceive (tile : Nat) (port : Nat) (f : RxFrame) (at_ : Nat) (s : State) : Host.Outcome State Fault Refusal :=
  .next (s.onFlow (Sys2Proof.Machine.frameReceive tile port f at_))

/-- RECIRCULATION_PASS (R95): A recirculated frame enters port 23 for its second pass once the recirculation reserve can hold it. -/
def execRecirculationPass (tile : Nat) (at_ : Nat) (s : State) : Host.Outcome State Fault Refusal :=
  .next (s.onFlow (Sys2Proof.Machine.recirculationPass tile at_))

/-- FRAG_EXPIRE (R83): A fragment entry not completed LIFE_US after creation is freed and counted in PR_FRAG_EXPIRED. -/
def execFragExpire (tile : Nat) (idx : Nat) (s : State) : Host.Outcome State Fault Refusal :=
  .next (s.onPkg (Sys2Proof.Machine.fragExpire tile idx))

/-- CT_AGING (R100): The aging engine visits one connection slot per µs and frees an entry whose timeout has passed. -/
def execCtAging (tile : Nat) (n : Nat) (s : State) : Host.Outcome State Fault Refusal :=
  .next (s.onPkg (Sys2Proof.Machine.ctAging tile n))

/-- CT_INSERT (R103): PR_CT_CMD INSERT adds a connection entry, or returns EXISTS or FULL. -/
def execCtInsert (a : Acc) (tile : Nat) (s : State) : Host.Outcome State Fault Refusal :=
  .next (s.regWrite a tile 0x400060 1).finish

/-- CT_DELETE (R103): PR_CT_CMD DELETE removes a connection entry or returns NOT_FOUND. -/
def execCtDelete (a : Acc) (tile : Nat) (s : State) : Host.Outcome State Fault Refusal :=
  .next (s.regWrite a tile 0x400060 2).finish

/-- CT_LOOKUP (R103): PR_CT_CMD LOOKUP copies a connection entry into the data registers or returns NOT_FOUND. -/
def execCtLookup (a : Acc) (tile : Nat) (s : State) : Host.Outcome State Fault Refusal :=
  .next (s.regWrite a tile 0x400060 3).finish

/-- ENQUEUE (R110): A copy joins its egress queue once the queue is below EG_LIMIT, possibly after waiting. -/
def execEnqueue (tile : Nat) (copy : Nat) (at_ : Nat) (s : State) : Host.Outcome State Fault Refusal :=
  .next (s.onFlow (Sys2Proof.Machine.enqueue tile copy at_))

/-- SPAN_CREDIT_GRANT (R125): The egress tile grants span credit for a source tile and class, letting cells cross. -/
def execSpanCreditGrant (tile : Nat) (src : Nat) (tc : Nat) (cells : Nat) (at_ : Nat) (s : State) : Host.Outcome State Fault Refusal :=
  .next (s.onFlow (Sys2Proof.Machine.spanCreditGrant tile src tc cells at_))

/-- TRANSMIT_DECISION (R141): The egress scheduler chooses an eligible queue and starts its head frame with its edits. -/
def execTransmitDecision (tile : Nat) (turn : TxTurn) (at_ : Nat) (s : State) : Host.Outcome State Fault Refusal :=
  .next (s.onFlow (Sys2Proof.Machine.transmitDecision tile turn.port turn.cellOk at_))

/-- TRANSMIT_END (R109): A frame finishes on the wire and its last copy releases its cells, possibly releasing XOFF. -/
def execTransmitEnd (tile : Nat) (port : Nat) (at_ : Nat) (s : State) : Host.Outcome State Fault Refusal :=
  .next (s.onFlow (Sys2Proof.Machine.transmitEnd tile port at_))

/-- PAUSE_REFRESH (R112): A port holding XOFF repeats its PFC or pause every 1,024 quanta. -/
def execPauseRefresh (tile : Nat) (port : Nat) (at_ : Nat) (s : State) : Host.Outcome State Fault Refusal :=
  .next (s.onPkg (Sys2Proof.Machine.pauseRefresh tile port at_))

/-- PFC_RECEIVE (R113): A received PFC frame pauses or releases the named egress queues of the port. -/
def execPfcReceive (tile : Nat) (port : Nat) (enable : Nat) (quanta : List Nat) (at_ : Nat) (s : State) : Host.Outcome State Fault Refusal :=
  .next (s.onPkg (Sys2Proof.Machine.pfcReceive tile port enable quanta at_))

/-- PAUSE_RECEIVE (R113): A received 802.3 pause pauses or releases all eight queues of the port. -/
def execPauseReceive (tile : Nat) (port : Nat) (quanta : Nat) (at_ : Nat) (s : State) : Host.Outcome State Fault Refusal :=
  .next (s.onPkg (Sys2Proof.Machine.pauseReceive tile port quanta at_))

/-- PAUSE_EXPIRE (R113): The quanta of a received pause run out and the queue resumes, ending any stall. -/
def execPauseExpire (tile : Nat) (port : Nat) (queue : Nat) (s : State) : Host.Outcome State Fault Refusal :=
  .next (s.onPkg (Sys2Proof.Machine.pauseExpire tile port queue))

/-- WATCHDOG_STALL (R121): A queue held for STALL_MS is declared stalled and flushed as STALL_FLUSH. -/
def execWatchdogStall (tile : Nat) (port : Nat) (queue : Nat) (s : State) : Host.Outcome State Fault Refusal :=
  .next (s.onFlow (Sys2Proof.Machine.watchdogStall tile port queue))

/-- OVERFLOW_READBACK (R123): A frame is read back from overflow memory into the per-port buffer, or discarded as CELL_ECC. -/
def execOverflowReadback (tile : Nat) (port : Nat) (queue : Nat) (eccOk : Bool) (at_ : Nat) (s : State) : Host.Outcome State Fault Refusal :=
  .next (s.onFlow (Sys2Proof.Machine.overflowReadback tile port queue eccOk at_))

/-- SPILL_WRITE_DONE (R122): A frame of a SPILLED queue has been written whole to overflow memory, and its on-chip charge is released and its span credit returned. -/
def execSpillWriteDone (tile : Nat) (port : Nat) (queue : Nat) (at_ : Nat) (s : State) : Host.Outcome State Fault Refusal :=
  .next (s.onFlow (Sys2Proof.Machine.spillWriteDone tile port queue at_))

/-- MC_HOLD_EXPIRE (R131): A multicast copy that has not joined its queue HOLD_US after resolution is discarded as MC_HOLD. -/
def execMcHoldExpire (tile : Nat) (copy : Nat) (s : State) : Host.Outcome State Fault Refusal :=
  .next (s.onFlow (Sys2Proof.Machine.mcHoldExpire tile copy))

/-- LINK_DOWN (R135): A port's link goes down and every frame in its queues is discarded as LINK_DOWN. -/
def execLinkDown (tile : Nat) (port : Nat) (at_ : Nat) (s : State) : Host.Outcome State Fault Refusal :=
  .next (s.onFlow (Sys2Proof.Machine.linkDown tile port at_))

/-- LINK_UP (R135): A port's link comes up and frames are enqueued to it again. -/
def execLinkUp (tile : Nat) (port : Nat) (mbps : Nat) (at_ : Nat) (s : State) : Host.Outcome State Fault Refusal :=
  .next (s.onPkg (Sys2Proof.Machine.linkUp tile port mbps at_))

/-- GCL_ENTRY_START (R148): A gate control list entry starts and applies its gates and hold operation. -/
def execGclEntryStart (tile : Nat) (port : Nat) (at_ : Nat) (s : State) : Host.Outcome State Fault Refusal :=
  .next (s.onPkg (Sys2Proof.Machine.gclEntryStart tile port at_))

/-- MERGE_VERIFY (R152): An 802.3br verification attempt runs, up to three attempts 10 ms apart. -/
def execMergeVerify (tile : Nat) (port : Nat) (ok : Bool) (at_ : Nat) (s : State) : Host.Outcome State Fault Refusal :=
  .next (s.onPkg (Sys2Proof.Machine.mergeVerify tile port ok at_))

/-- STREAM_GATE_ENTRY (R159): A stream gate list entry starts and opens or closes the gate. -/
def execStreamGateEntry (tile : Nat) (gate : Nat) (at_ : Nat) (s : State) : Host.Outcome State Fault Refusal :=
  .next (s.onPkg (Sys2Proof.Machine.streamGateEntry tile gate at_))

/-- FRER_RESET (R166): A recovery function resets when RESET_MS passes with no copy passed. -/
def execFrerReset (tile : Nat) (fn : Nat) (s : State) : Host.Outcome State Fault Refusal :=
  .next (s.onPkg (Sys2Proof.Machine.frerReset tile fn))

/-- GEN_RESET (R164): Writing TS_GEN_RESET sets a generator's next sequence number to 0. -/
def execGenReset (a : Acc) (tile : Nat) (value : Word) (s : State) : Host.Outcome State Fault Refusal :=
  .next (s.regWrite a tile 0xC00240 value).finish

/-- TXTS_POP (R170): A read of TM_TXTS_INFO pops the timestamp FIFO head and latches its time. -/
def execTxtsPop (a : Acc) (tile : Nat) (s : State) : Host.Outcome State Fault Refusal :=
  .next (s.regRead a tile 0x100110).finish

/-- RATE_ADJ (R172): A write of TM_RATE_ADJ on the time reference sets the increment's fractional frequency. -/
def execRateAdj (a : Acc) (tile : Nat) (value : Word) (s : State) : Host.Outcome State Fault Refusal :=
  .next (s.regWrite a tile 0x100100 value).finish

/-- PHASE_ADJ (R172): A write of TM_PHASE_ADJ adds a correction to TM_PHASE_PEND, absorbed at TM_SLEW. -/
def execPhaseAdj (a : Acc) (tile : Nat) (value : Word) (s : State) : Host.Outcome State Fault Refusal :=
  .next (s.regWrite a tile 0x100104 value).finish

/-- SAMPLE (R173): At each SAMP_INTERVAL the tile writes one sampler record per selected queue. -/
def execSample (tile : Nat) (n : Nat) (s : State) : Host.Outcome State Fault Refusal :=
  .next (s.onPkg (Sys2Proof.Machine.sample tile n))

/-- SHAPER_ELIGIBLE (R145): A token-bucket or credit-based queue's credit rises back to 0, which makes the queue eligible for the next transmit decision. -/
def execShaperEligible (tile : Nat) (port : Nat) (queue : Nat) (s : State) : Host.Outcome State Fault Refusal :=
  .next (s.onPkg (Sys2Proof.Machine.shaperEligible tile port queue))

end Sys2Proof.Machine
end

