-- ==== Sys2Proof/Machine/ExecTrestle.lean ====
section
/-! DEFINITION. Chapter 6: the trestle and the bus controllers: the meaning of each command. -/
namespace Sys2Proof.Machine

/-- BUS_FRAME_RX (R182): A sentinel bus controller receives a frame that passes its bus checks and stamps it for the trestle. -/
def execBusFrameRx (m : BusMsg) (own : Bool) (time : FrameTime) (s : State) : Host.Outcome State Fault Refusal :=
  .next (s.onPkg (Sys2Proof.Machine.busFrameRx m own time.start time.at_))

/-- BUS_FRAME_ERROR (R182): A sentinel bus controller detects a frame that fails its CRC, form, stuffing, checksum or syntax checks and handles it under its standard, moving the error counters and error state. -/
def execBusFrameError (e : BusErr) (at_ : Nat) (s : State) : Host.Outcome State Fault Refusal :=
  .next (s.onPkg (Sys2Proof.Machine.busFrameError e at_))

/-- TRESTLE_INPUT (R185): The trestle takes a bus message or an ACF message through source filter, route lookup, checks, output construction and delivery. -/
def execTrestleInput (tile : Nat) (at_ : Nat) (s : State) : Host.Outcome State Fault Refusal :=
  .next (s.onFlow (Sys2Proof.Machine.trestleInput tile at_))

/-- ACF_FRAME (R198): A frame delivered to port 21 is checked and its ACF messages taken in order. -/
def execAcfFrame (tile : Nat) (at_ : Nat) (s : State) : Host.Outcome State Fault Refusal :=
  .next (s.onFlow (Sys2Proof.Machine.acfFrame tile at_))

/-- AUTH_VERIFY (R200): The authentication engine verifies freshness and code of a message and updates its counter. -/
def execAuthVerify (tile : Nat) (at_ : Nat) (s : State) : Host.Outcome State Fault Refusal :=
  .next (s.onFlow (Sys2Proof.Machine.authVerify tile at_))

/-- AUTH_GENERATE (R201): The authentication engine increments the freshness counter and writes TFV and code. -/
def execAuthGenerate (tile : Nat) (at_ : Nat) (s : State) : Host.Outcome State Fault Refusal :=
  .next (s.onFlow (Sys2Proof.Machine.authGenerate tile at_))

/-- ACF_BATCH_SEND (R197): An ACF frame being filled is sent when WAIT_US has passed since its first message. -/
def execAcfBatchSend (tile : Nat) (stream : Nat) (s : State) : Host.Outcome State Fault Refusal :=
  .next (s.onFlow (Sys2Proof.Machine.acfBatchSend tile stream))

/-- BUS_CREDIT_RETURN (R209): A sentinel buffer returns a credit to the trestle over the tether. -/
def execBusCreditReturn (buf : BusBuf) (at_ : Nat) (s : State) : Host.Outcome State Fault Refusal :=
  .next (s.onPkg (Sys2Proof.Machine.busCreditReturn buf at_))

/-- TX_EXPIRED (R210): A posted message not started within TX_LIFE_MS is removed as TX_EXPIRED. -/
def execTxExpired (buf : BusBuf) (msg : TxMsg) (s : State) : Host.Outcome State Fault Refusal :=
  .next (s.onPkg (Sys2Proof.Machine.txExpired buf msg.idx msg.busHeld))

/-- CAN_TX_DONE (R184): A CAN transmit buffer's frame completes on the bus and BUS_CAN_TX increments. -/
def execCanTxDone (ch : Nat) (at_ : Nat) (s : State) : Host.Outcome State Fault Refusal :=
  .next (s.onPkg (Sys2Proof.Machine.canTxDone ch at_))

/-- CAN_BUS_OFF (R184): A CAN controller enters bus-off and keeps its queued messages. -/
def execCanBusOff (ch : Nat) (at_ : Nat) (s : State) : Host.Outcome State Fault Refusal :=
  .next (s.onPkg (Sys2Proof.Machine.canBusOff ch at_))

/-- CAN_AUTO_RECOVER (R184): After 128 runs of 11 recessive bits a bus-off controller with AUTO_RECOVER rejoins the bus. -/
def execCanAutoRecover (ch : Nat) (at_ : Nat) (s : State) : Host.Outcome State Fault Refusal :=
  .next (s.onPkg (Sys2Proof.Machine.canAutoRecover ch at_))

/-- RECOVER (R184): A write of BUS_CAN_CMD.RECOVER makes a bus-off controller rejoin the bus. -/
def execRecover (a : Acc) (ch : Nat) (value : Word) (s : State) : Host.Outcome State Fault Refusal :=
  .next (s.regWriteIf (decide (ch < 12)) a 15 (0x40014 + 0x100 * ch) value).finish

/-- LIN_SCHEDULE_SLOT (R216): A LIN commander's schedule entry slot begins and the frame header is sent. -/
def execLinScheduleSlot (ch : Nat) (at_ : Nat) (s : State) : Host.Outcome State Fault Refusal :=
  .next (s.onPkg (Sys2Proof.Machine.linScheduleSlot ch at_))

/-- FLEXRAY_SLOT (R181): The FlexRay controller reaches its static slot or dynamic minislot in the cycle and sends the buffered message. -/
def execFlexraySlot (chA : Bool) (chB : Bool) (slot : Nat) (cycle : Nat) (dynamic : Bool) (at_ : Nat) (s : State) : Host.Outcome State Fault Refusal :=
  .next (s.onPkg (Sys2Proof.Machine.flexraySlot chA chB slot cycle dynamic at_))

/-- FLEXRAY_POC_CHANGE (R210): The FlexRay protocol operation control changes state, for instance entering or leaving NORMAL_ACTIVE or halting. -/
def execFlexrayPocChange (poc : Nat) (at_ : Nat) (s : State) : Host.Outcome State Fault Refusal :=
  .next (s.onPkg (Sys2Proof.Machine.flexrayPocChange poc at_))

end Sys2Proof.Machine
end

