-- ==== Sys2Proof/Machine/Boot.lean ====
section
/-! DEFINITION. Chapter 14: the load stages of the cold path (R386–R388, R397, R399). -/
namespace Sys2Proof.Machine

/-! ### The slot (R386) -/

/-- A slot may boot: its FIRMWARE container passes checks 1 to 9 and no scrub found it damaged. -/
def State.slotBoots (s : State) (slot : Nat) : Bool :=
  s.pkg.checkContainer s.mem (s.firmware slot) false == 0 && !s.pkg.keeper.damaged.contains slot

/-- A slot is given up for the other one, where that one may boot and has not been given up itself; else BOOT fails. -/
def State.otherOrFail (s : State) : State :=
  let other := 1 - s.pkg.boot.slot
  if s.pkg.boot.tried || !s.slotBoots other then s.map (fun p => p.failStart 17)
  else
    let s := s.writeRecord (fun r => { r with active := other, trial := false, next := false })
    s.map (fun p => ((p.onBoot (fun b => { b with slot := other, tried := true, stage := 0, trialBoot := false })).raise 0 (fUpEvt 3)).bump 0 oUpBootFallbacks)

/-- Tile 0's boot ROM takes the boot record and chooses the slot. -/
def State.chooseSlot (s : State) : State :=
  let x := s.mem.takeRecord
  let r := x.1
  let s := s.map (fun p => p.onBoot (fun b => { b with record := r, copy := x.2.1, slot := r.active, trialBoot := r.trial && r.next }))
  let s := if x.2.2 then s.map (fun p => p.raise 0 (fUpEvt 4)) else s
  let s := if r.trial && !r.next then
      (s.writeRecord (fun r => { r with active := 1 - r.active, trial := false })).map (fun p =>
        (p.onBoot (fun b => { b with slot := 1 - r.active })).fellBack)
    else s
  if s.slotBoots s.pkg.boot.slot then s else s.otherOrFail

/-- The tiles come up on the cold path: every present tile, with nothing retained (R295). Each die's journal starts with its BOOT record. -/
def Pkg.coldStart (s : Pkg) : Pkg :=
  let s := s.present.foldl (fun s t => s.tileDown true t) ((s.put 15 fWarmValid 0).vstby false)
  let s := (s.restart.takeCold 15).put 15 fTilesOn (allTiles s.variant)
  let s := if s.tampered then s.onMode (fun m => { m with quarantine := true }) else s
  let s := (s.present.foldl (fun s t => s.tileUp t) s).setMode mBoot (s.get 15 fReason)
  let s := { s with boot := { fuseGoal := s.boot.fuseGoal } }
  s.present.foldl (fun s t => s.jnlBoot t) s

/-- BOOT begins. -/
def State.startBoot (s : State) : State := (s.map Pkg.coldStart).chooseSlot

/-! ### The stages (Table 14-6) -/

/-- The structure sections of stage 1. PLAN_DEFAULTS is taken when the ledger has lost what it held (R326). -/
def Pkg.stageOneType (s : Pkg) (x : Section) : Bool :=
  x.type == 2 || x.type == 6 || x.type == 8 || x.type == 11 || (x.type == 12 && s.wake.defaults)
def trPresets (x : Section) : Bool := x.block == 8

/-- The steward reads every die's ID_DEVICE (R9, R388): where MAJOR or MINOR differ it sets DIE_REV and journals the values. DESIGN CHOICE: in a record of
the first type of Amhel's own firmware, the tiles in order and the sentinel last, as soon as its rounds run (see the log). -/
def Pkg.readRevisions (s : Pkg) : Pkg :=
  let dies := s.present ++ [15]
  if dies.all (fun d => s.revision d == s.revision 15) then s
  else
    let s := (s.put 0 fDieRev 1).jnlGap 0
    match s.jnlTry 0 0x100 (dies.flatMap (fun d => leBytes 4 (s.deviceId d).toNat)) 57344 with
    | some s' => s'
    | none => (s.bump 0 oJnlRefused).raise 0 fJnlRefused

/-- Stage 0 ends: the steward's rounds begin, split first where the header says so (R346), and it compares the dies (R388). -/
def State.stageZero (s : State) : State :=
  let split : Bool := (beAt (s.firmware s.pkg.boot.slot).bytes 20 4).testBit 1
  s.map (fun p =>
    let p := (p.readRevisions.beginRounds 0 roleActive).onBoot (fun b => { b with stage := 1 })
    if split then ((p.raise 0 fSplitBoot).put 0 fCluster clSplit).put 0 fCoresIn 3 else p)

/-- The ledger takes PLAN_DEFAULTS and starts a period (R326). -/
def Pkg.ledgerStart (s : Pkg) : Pkg :=
  if s.wake.defaults then (s.onWake (fun w => { w with defaults := false })).newPeriodEff else s

/-- The freshness and E2E counters that the last park journalled come back, every generate counter advanced by TR_FV_SKIP (R204), once the tables that name
them are in effect. -/
def Pkg.restoreCounters (s : Pkg) : Pkg :=
  match s.wake.saved with
  | none => s
  | some l => (l.foldl (fun s e => s.wrLive s.steward e.1 e.2) s).skipCounters s.steward

/-- Stage 1 ends: pins, trestle, firewall, policy and plan as the image fixes them; a commit among tiles 0 and 1; the buses run. -/
def State.stageOne (s : State) : State :=
  let slot := s.pkg.boot.slot
  let fw := s.firmware slot
  let c := s.structure_ slot
  let two := [0, 1].filter s.pkg.inService
  let s := s.map (fun p =>
    let p := ((p.put 0 fUpSlot slot).showFirmware fw).showStructure c p.serving
    (p.fixSections c p.stageOneType (two ++ [15])).ledgerStart)
  let s := two.foldl (fun s t => s.applyPresets c trPresets t) s
  s.map (fun p => ((p.busesUp.commitAll two).restoreCounters).onBoot (fun b => { b with stage := 2 }))

/-- Stage 2 ends: every present tile has applied its sections; the standby synchronises, the tile managers run. -/
def State.stageTwo (s : State) : State :=
  let c := s.structure_ s.pkg.boot.slot
  let early (x : Section) : Bool := s.pkg.stageOneType x
  let late := s.pkg.serving.filter (fun t => 1 < t)
  let s := s.map (fun p =>
    let p := p.fixSections c (fun x => !early x && x.type != 12) [0, 1]
    p.fixSections c (fun x => x.type != 12) late)
  let s := s.pkg.serving.foldl (fun s t => s.applyPresets c (fun x => !(decide (t < 2) && trPresets x)) t) s
  s.map (fun p =>
    let p := late.foldl (fun p t => p.beginRounds t roleManager) p
    let p := if p.inService 1 then (p.beginRounds 1 roleStandby).setHealth hSyncing else p
    p.onBoot (fun b => { b with stage := 3 }))

/-- The encrypted sections of both containers, which stages 2 and 3 load. -/
def State.encrypted (s : State) : List Section :=
  ((s.firmware s.pkg.boot.slot).sections ++ (s.structure_ s.pkg.boot.slot).sections).filter Section.enc

/-- The mode BOOT ends in (Table 10-2, R287). -/
def Pkg.bootMode (s : Pkg) : Nat :=
  if s.tampered ∨ s.mode.quarantine ∨ s.life = lScrapped then mQuarantine
  else if s.life = lBlank then mProvision
  else if s.get 15 fPwParts = allTiles s.variant then mRun else mRunPartial

/-- Tiles that PW_PART does not name go into retention as BOOT ends (R295, R331). -/
def Pkg.retainOthers (s : Pkg) : Pkg :=
  let gone := s.powered.filter (fun t => !(s.get 15 fPwParts).testBit t)
  if s.modeNow ≠ mRunPartial ∨ gone.isEmpty then s
  else
    let s := gone.foldl (fun s t => (s.tileDown false t).put 15 fTilesOn (s.get 15 fTilesOn - 2 ^ t)) s
    s.vstby true

/-- A trial that begins at this start (R386): NEXT_START falls, TRIAL_END counts from the end of BOOT. -/
def State.trialAtStart (s : State) : State :=
  if !s.pkg.boot.trialBoot then s
  else
    let until_ := s.pkg.countNs 0 + s.pkg.boot.record.trialS * 1000000000
    let s := s.writeRecord (fun r => { r with next := false, trialEnd := until_ })
    s.map (fun p => ((p.raise 0 fUpTrial).setCnt 0 oUpTrialEnd (BitVec.ofNat 64 until_)).onBoot (fun b => { b with liveTrial := false }))

/-- Stage 3 ends: the final commit brings every tile into service and BOOT ends; tiles lost in BOOT leave the package DEGRADED (R387). While the root is
locked, encrypted sections are skipped and counted (R385). -/
def State.stageThree (s : State) : State :=
  let skipped := if s.pkg.rootLocked then s.encrypted.length else 0
  let s := s.stage (s.structure_ s.pkg.boot.slot) true
  let s := s.map (fun p =>
    let p := (p.add 0 oUpSkippedEnc skipped).commitAll p.serving
    let lost := p.present.any p.isLost
    let p := (p.setMode p.bootMode 16).retainOthers
    if lost then p.degrade 10 else p)
  s.trialAtStart.map (fun p => if p.boot.fuseGoal = 0 then p else p.advanceRollback p.boot.fuseGoal)

/-- What a stage loads passes the checks it makes (R385, R386): stage 1 judges the STRUCTURE container, stages 2 and 3 decrypt. -/
def State.stagePasses (s : State) : Bool :=
  let b := s.pkg.boot
  if b.stage = 1 then s.pkg.checkContainer s.mem (s.structure_ b.slot) false == 0
  else if b.stage = 3 ∧ !s.pkg.rootLocked then s.encrypted.all (fun x => (s.pkg.sectionPlain s.mem x).isSome)
  else true

/-- BOOT_STAGE_DONE (R386): the load stage that runs ends; `ok` unless what it loaded could not be read or failed its checks, which leads to the other
slot. Dies of unequal revisions fail BOOT, and no other slot is tried (R388). BOOT does not end while the cluster is split (R346). -/
def bootStageDone (ok : Bool) (at_ : Nat) (s : State) : State :=
  let s := s.map (fun p => p.reach at_)
  if s.pkg.modeNow ≠ mBoot then s
  else if s.pkg.on 0 fDieRev then s.map (fun p => p.failStart 17)
  else if !(ok && s.stagePasses) then s.otherOrFail
  else match s.pkg.boot.stage with
    | 0 => s.stageZero
    | 1 => s.stageOne
    | 2 => s.stageTwo
    | _ => if s.pkg.get 0 fCluster = clSplit then s else s.stageThree

/-- SECTION_TIMEOUT (R387): a tile has not reported its sections applied: it is lost; tile 0 fails BOOT. -/
def sectionTimeout (tile at_ : Nat) (s : State) : State :=
  let s := s.map (fun p => p.reach at_)
  if !(s.pkg.modeNow == mBoot && s.pkg.boot.stage == 2 && s.pkg.inService tile) then s
  else if tile = 0 then s.map (fun p => p.failStart 17)
  else s.map (fun p => (p.loseTile tile).ksDropTile tile)

end Sys2Proof.Machine
end

