-- ==== Sys2Proof/Machine/Rails.lean ====
section
/-! DEFINITION. Chapter 15: supplies, sequencing, resets and temperature (R402–R406, R418). -/
namespace Sys2Proof.Machine

/-- ID_THERM (Table 15-11). -/
def fThermTemp : Fld := ⟨0x40, 7, 0⟩
def fThermWarn : Fld := ⟨0x40, 8, 8⟩
def fThermAlarm : Fld := ⟨0x40, 9, 9⟩
def fThermWarnC : Fld := ⟨0x44, 7, 0⟩
def fThermEvt (n : Nat) : Fld := ⟨0x48, n, n⟩
def oThermAlarms : Nat := 0x50

/-! ### Pins -/

/-- An enable output, and INH0 and INH1 with the first group (R403, R404, R407). -/
def Pkg.drive (s : Pkg) (g : Nat) (high : Bool) : Pkg :=
  let s := (s.put 15 (fPwEn g) (bit high)).emit (.pin "PMIC_EN" g high)
  if g = 0 then
    ((s.put 15 (fInh 0) (bit high)).put 15 (fInh 1) (bit high)).emitAll [.pin "INH" 0 high, .pin "INH" 1 high]
  else s

/-! ### Power-up (R295, R403) -/

/-- BAT_POWER_UP (R48, R295): BAT first reaches 5.5 V, and with the very first of these package time starts at 0; the sentinel's power-on reset, then WAKING with REASON POWER_ON. After a loss of BAT the latch says so
(R289); the vault is empty but for slot 0 (R267). -/
def batPowerUp (at_ : Nat) (s : Pkg) : Pkg :=
  (if s.power.bat = 0 ∧ !s.power.lostBat then { s with now := 0 } else s.reach at_).when (s.power.bat == 0) (fun s =>
    let s := s.onPower (fun p => { p with bat := 2 })
    let s := (s.put 15 fBatMv 5500).restart.vaultFresh
    let s := if s.power.lostBat then s.raise 15 ⟨0x50004, 11, 11⟩ else s
    let s := (s.onPower (fun p => { p with lostBat := false })).put 15 fPwParts (allTiles s.variant)
    (s.setMode mWaking 0).startRails)

/-- PMIC_ENABLE (R403): the enable of a group rises: the first at once, each further one 100 µs after the power-good of the group before it. -/
def pmicEnable (group : Nat) (s : Pkg) : Pkg :=
  s.when (s.power.phase == 1 && decide (group < 5) && !s.on 15 (fPwEn group) && (group == 0 || s.on 15 (fPwPg (group - 1)))) (fun s =>
    let s := if group = 0 then s else s.reachFrac (SMap.get 0 s.power.pgAt (group - 1) - 1 + ns (us 100))
    (s.drive group true).onPower (fun p => { p with enAt := SMap.set 0 p.enAt group (s.now + 1) }))

/-- The warm path is open (R295, R332): retention is intact, no tamper source is latched, no activation waits for this start. -/
def Pkg.warmPath (s : Pkg) : Bool := s.on 15 fWarmValid && !s.tampered && !(s.boot.record.trial && s.boot.record.next)

/-- The warm path (R295): the tiles that PW_PART names leave retention, the others keep it; the steward resumes, its standby synchronises. -/
def Pkg.warmStart (s : Pkg) : Pkg :=
  let mask := Nat.land (s.get 15 fPwParts) (allTiles s.variant)
  let s := s.put 15 fTilesOn mask
  let s := s.powered.foldl (fun s t => s.tileUp t) s
  let s := if mask = allTiles s.variant then s.vstby false else s
  let s := s.setMode (if mask = allTiles s.variant then mRun else mRunPartial) (s.get 15 fReason)
  let s := s.powered.foldl (fun s t => s.jnlBoot t) s
  let s := (s.powered.filter (fun t => 1 < t)).foldl (fun s t => s.beginRounds t roleManager) s
  let s := if s.inService 1 then (s.beginRounds 1 roleStandby).setHealth hSyncing else s
  let s := (s.beginRounds 0 roleActive).put 0 fHkDone 0
  if s.wake.hk.isSome then s else s.busesUp

/-- PMIC_PG_RISE (R403): power-good of a group rises; with the last one the warm or the cold path begins. -/
def pmicPgRise (group at_ : Nat) (s : State) : State :=
  let s := s.map (fun p => p.reach at_)
  let p := s.pkg
  if !(p.power.phase == 1 && decide (group < 5) && p.on 15 (fPwEn group) && !p.on 15 (fPwPg group)) then s
  else
    let s := s.map (fun p => (p.put 15 (fPwPg group) 1).onPower (fun x => { x with pgAt := SMap.set 0 x.pgAt group (p.now + 1) }))
    if group < 4 then s
    else
      let s := s.map (fun p => p.onPower (fun x => { x with phase := 2 }))
      if s.pkg.warmPath then s.map Pkg.warmStart else s.startBoot

/-- RAIL_TIMEOUT (R403, Table 10-2): no power-good 10 ms after the enable: the rails go off, the package parks cold. -/
def railTimeout (group : Nat) (s : Pkg) : Pkg :=
  s.when (s.power.phase == 1 && decide (group < 5) && s.on 15 (fPwEn group) && !s.on 15 (fPwPg group)) (fun s =>
    let s := s.reachFrac (SMap.get 0 s.power.enAt group - 1 + ns (ms 10))
    ((s.raise 15 fRailFault).bump 15 oRailFaults).failStart 18)

/-! ### Power-down and faults (R402, R404, R405) -/

/-- PMIC_DISABLE (R404): the enable of a group falls, in descending order; with the first group the rails are off, and what waits for that begins. -/
def pmicDisable (group at_ : Nat) (s : Pkg) : Pkg :=
  (s.reach at_).when (s.power.phase == 3 && decide (group < 5) && s.on 15 (fPwEn group) &&
      (List.range 5).all (fun g => g ≤ group || !s.on 15 (fPwEn g))) (fun s =>
    let s := ((s.drive group false).put 15 (fPwPg group) 0).onPower (fun p => { p with dnAt := SMap.set 0 p.dnAt group (s.now + 1) })
    if (List.range 5).any (fun g => s.on 15 (fPwEn g)) then s
    else ((s.onPower (fun p => { p with phase := 0 })).tryRestart).tryWake)

/-- RAIL_FAULT (R405): power-good of an enabled group has been low for 10 µs outside power-down. -/
def railFault (group at_ : Nat) (s : Pkg) : Pkg :=
  (s.reach at_).when ((s.power.phase == 1 || s.power.phase == 2) && decide (group < 5) && s.on 15 (fPwEn group) && s.on 15 (fPwPg group)) (fun s =>
    ((s.put 15 (fPwPg group) 0).raise 15 fRailFault).coldReset 18)

/-- BAT as sampled (R402, R420). -/
def Pkg.batAt (s : Pkg) (mv : Nat) : Pkg :=
  ((s.put 15 fBatMv (min mv 65535)).put 15 fBatLow (bit (decide (mv < 5500)))).onPower (fun p => { p with bat := if mv < 5500 then 1 else 2 })

/-- BAT_LOW (R402): below 4.5 V for 10 µs: with the run rails enabled they go off and the cold WAKING that follows waits for 5.5 V. -/
def batLow (mv at_ : Nat) (s : Pkg) : Pkg :=
  (s.reach at_).when (s.power.bat != 0 && decide (mv < 4500) && decide (3800 ≤ mv)) (fun s =>
    let s := s.batAt mv
    if (List.range 5).any (fun g => s.on 15 (fPwEn g)) ∧ s.power.phase ≠ 3 then (s.bump 15 oBatLowEvents).coldReset 18 else s)

/-- BAT_BELOW_OPERATING (R402): below 5.5 V, not below 4.5 V. -/
def batBelowOperating (mv at_ : Nat) (s : Pkg) : Pkg :=
  (s.reach at_).when (s.power.bat != 0 && decide (4500 ≤ mv) && decide (mv < 5500)) (fun s => s.batAt mv)

/-- BAT_RECOVER (R402): BAT is at 5.5 V or above again; a WAKING or a wake that waited for it begins. -/
def batRecover (mv at_ : Nat) (s : Pkg) : Pkg :=
  (s.reach at_).when (s.power.bat == 1 && decide (5500 ≤ mv)) (fun s => ((s.batAt mv).tryRestart).tryWake)

/-- What a loss of BAT leaves of the package (R289, R402): fuses with the root secret, what is on the NAND, the rollback step still to be blown. -/
def Pkg.afterBatLoss (s : Pkg) : Pkg :=
  { variant := s.variant, now := s.now, out := s.out, fresh := s.fresh
    regs := s.regs.filter (fun e => decide (pkgAddr 15 0x70000 ≤ e.1) && decide (e.1 < pkgAddr 15 0x80000))
    vault := { root := s.vault.root }
    keeper := { s.keeperLost.keeper with work := [] }
    power := { lostBat := true }
    boot := { fuseGoal := s.boot.fuseGoal } }

/-- BAT_LOST (R289, R402): below 3.8 V for 10 µs: the sentinel resets; the enables fall; the byte memories of the tiles are lost, the NOR is not. -/
def batLost (at_ : Nat) (s : State) : State :=
  let p := s.pkg.reach at_
  if p.power.bat = 0 then { s with pkg := p }
  else
    let p := ((List.range 5).filter (fun g => p.on 15 (fPwEn g))).foldl (fun p g => p.drive g false) p
    { s with pkg := p.afterBatLoss, mem := (List.range 15).foldl Mem.clearTile s.mem }

/-! ### Temperature (R418, R419) -/

/-- THERMAL_SAMPLE (R418): a tile samples its junction temperature, in whole °C. -/
def thermalSample (tile : Nat) (temp : Int) (at_ : Nat) (s : Pkg) : Pkg :=
  (s.reach at_).when (s.tileOn tile && decide (-128 ≤ temp) && decide (temp ≤ 127)) (fun s =>
    let warn : Bool := decide ((s.get tile fThermWarnC : Int) ≤ temp)
    let alarm : Bool := decide (125 ≤ temp)
    let s := if warn && !s.on tile fThermWarn then s.raise tile (fThermEvt 0) else s
    let s := if alarm && !s.on tile fThermAlarm then (s.raise tile (fThermEvt 1)).bump tile oThermAlarms else s
    ((s.put tile fThermTemp (temp % 256).toNat).put tile fThermWarn (bit warn)).put tile fThermAlarm (bit alarm))

/-- No tile is left that can hold the steward. -/
def Pkg.noSteward (s : Pkg) : Bool := !s.inService 0 && !s.inService 1

/-- THERMAL_SHUTDOWN (R418): a tile at or above 135 °C for 1 ms holds itself in reset and is lost; without a steward left the package resets, and its
cold WAKING begins 10 s later. -/
def thermalShutdown (tile at_ : Nat) (s : Pkg) : Pkg :=
  (s.reach at_).when (s.tileOn tile) (fun s =>
    let s := ((s.raise 15 (fThermShut tile)).bump 15 oThermShutdowns).loseTile tile
    let s := (s.ksDropTile tile).tileDown true tile
    if s.noSteward then
      (s.onPower (fun p => { p with notBefore := s.now + ns (10 * 1000000000) })).coldReset 18
    else s)

/-- THERMAL_RESTART (R418): 10 s after the package switched itself off. -/
def thermalRestart (s : Pkg) : Pkg :=
  s.when (s.power.notBefore != 0) (fun s =>
    let s := s.reachFrac s.power.notBefore
    ((s.onPower (fun p => { p with notBefore := 0 })).tryRestart).tryWake)

end Sys2Proof.Machine
end

