-- ==== Sys2Proof/Machine/ExecUpdate.lean ====
section
/-! DEFINITION. Chapters 14 and 15: update, start-up, supplies, temperature: the meaning of each command. -/
namespace Sys2Proof.Machine

/-- WRITE (R390): UP_CMD WRITE programs data into the slot not in effect. -/
def execWrite (a : Acc) (s : State) : Host.Outcome State Fault Refusal :=
  .next (s.regWrite a 0 0x2100004 1).finish

/-- VERIFY (R392): UP_CMD VERIFY checks both containers of the other slot and may stage its structure. -/
def execVerify (a : Acc) (stage : Bool) (s : State) : Host.Outcome State Fault Refusal :=
  .next (s.regWrite a 0 0x2100004 (BitVec.ofNat 32 (2 + 32 * bit stage))).finish

/-- ACTIVATE_LIVE (R393): ACTIVATE with HOW LIVE runs a firmware-only or structure activation through ACTIVATING. -/
def execActivateLive (a : Acc) (s : State) : Host.Outcome State Fault Refusal :=
  .next (s.regWrite a 0 0x2100004 3).finish

/-- ACTIVATE_RESTART (R393): ACTIVATE with HOW RESTART rewrites the boot record for a trial and resets. -/
def execActivateRestart (a : Acc) (s : State) : Host.Outcome State Fault Refusal :=
  .next (s.regWrite a 0 0x2100004 11).finish

/-- ACTIVATE_NEXT_START (R393): ACTIVATE with HOW NEXT_START rewrites the boot record to boot the new slot on trial at the next start. -/
def execActivateNextStart (a : Acc) (s : State) : Host.Outcome State Fault Refusal :=
  .next (s.regWrite a 0 0x2100004 19).finish

/-- CONFIRM_TRIAL (R397): UP_CMD CONFIRM ends the trial and advances the rollback fuses. -/
def execConfirmTrial (a : Acc) (s : State) : Host.Outcome State Fault Refusal :=
  .next (s.regWrite a 0 0x2100004 4).finish

/-- ABANDON (R397): UP_CMD ABANDON falls back to the previous slot at once. -/
def execAbandon (a : Acc) (s : State) : Host.Outcome State Fault Refusal :=
  .next (s.regWrite a 0 0x2100004 5).finish

/-- PROV_WRITE (R391): UP_CMD PROV_WRITE programs the provisioning area and rechecks it. -/
def execProvWrite (a : Acc) (s : State) : Host.Outcome State Fault Refusal :=
  .next (s.regWrite a 0 0x2100004 6).finish

/-- UP_COMMAND_DONE (R390): A WRITE, VERIFY or PROV_WRITE command ends and sets UP_EVT.DONE. -/
def execUpCommandDone (readBackOk : Bool) (at_ : Nat) (s : State) : Host.Outcome State Fault Refusal :=
  .next (Sys2Proof.Machine.upCommandDone readBackOk at_ s).finish

/-- ACTIVATION_FLUSH (R395): At T_a + 1 ms frames still queued are discarded and the restart phase begins. -/
def execActivationFlush (s : State) : Host.Outcome State Fault Refusal :=
  .next (s.onPkg (Sys2Proof.Machine.activationFlush))

/-- ACTIVATION_RESTART_DONE (R395): Every tile reports its restart done and the activation commits. -/
def execActivationRestartDone (tile : Nat) (ok : Bool) (at_ : Nat) (s : State) : Host.Outcome State Fault Refusal :=
  .next (Sys2Proof.Machine.activationRestartDone tile ok at_ s).finishFlow

/-- ACTIVATION_TIMEOUT (R396): A tile not ending its restart within 11 ms makes the activation revert. -/
def execActivationTimeout (s : State) : Host.Outcome State Fault Refusal :=
  .next (Sys2Proof.Machine.activationTimeout s).finishFlow

/-- TRIAL_END (R397): TRIAL_END passes unconfirmed and the package falls back to the previous slot. -/
def execTrialEnd (s : State) : Host.Outcome State Fault Refusal :=
  .next (Sys2Proof.Machine.trialEnd s).finish

/-- BOOT_STAGE_DONE (R386): A load stage completes and the next stage or the final commit follows. -/
def execBootStageDone (ok : Bool) (at_ : Nat) (s : State) : Host.Outcome State Fault Refusal :=
  .next (Sys2Proof.Machine.bootStageDone ok at_ s).finishFlow

/-- SECTION_TIMEOUT (R387): A tile not reporting its sections applied within 20 ms is left out and declared lost. -/
def execSectionTimeout (tile : Nat) (at_ : Nat) (s : State) : Host.Outcome State Fault Refusal :=
  .next (Sys2Proof.Machine.sectionTimeout tile at_ s).finish

/-- BAT_POWER_UP (R295): BAT first reaches 5.5 V and the package takes the cold path into WAKING. -/
def execBatPowerUp (at_ : Nat) (s : State) : Host.Outcome State Fault Refusal :=
  .next (s.onPkg (Sys2Proof.Machine.batPowerUp at_))

/-- PMIC_PG_RISE (R403): A group's power-good rises, leading to the next enable or, on PG4, the warm or cold decision. -/
def execPmicPgRise (group : Nat) (at_ : Nat) (s : State) : Host.Outcome State Fault Refusal :=
  .next (Sys2Proof.Machine.pmicPgRise group at_ s).finishFlow

/-- PMIC_ENABLE (R403): 100 µs after the previous group's power-good the next enable rises. -/
def execPmicEnable (group : Nat) (s : State) : Host.Outcome State Fault Refusal :=
  .next (s.onPkg (Sys2Proof.Machine.pmicEnable group))

/-- RAIL_TIMEOUT (R403): A group's power-good missing 10 ms after its enable ends power-up as a rail fault. -/
def execRailTimeout (group : Nat) (s : State) : Host.Outcome State Fault Refusal :=
  .next (s.onPkg (Sys2Proof.Machine.railTimeout group))

/-- PMIC_DISABLE (R404): During power-down an enable falls when the group above has lost power-good or after 200 µs. -/
def execPmicDisable (group : Nat) (at_ : Nat) (s : State) : Host.Outcome State Fault Refusal :=
  .next (s.onPkg (Sys2Proof.Machine.pmicDisable group at_))

/-- RAIL_FAULT (R405): A power-good falling for 10 µs while enabled resets the tiles and switches the rails off. -/
def execRailFault (group : Nat) (at_ : Nat) (s : State) : Host.Outcome State Fault Refusal :=
  .next (s.onPkg (Sys2Proof.Machine.railFault group at_))

/-- BAT_LOW (R402): BAT below 4.5 V for 10 µs with run rails on switches the rails off. -/
def execBatLow (mv : Nat) (at_ : Nat) (s : State) : Host.Outcome State Fault Refusal :=
  .next (s.onPkg (Sys2Proof.Machine.batLow mv at_))

/-- BAT_BELOW_OPERATING (R402): BAT falls below 5.5 V but stays above 4.5 V, which sets PW_RAIL.BAT_LOW and delays any wake until BAT recovers. -/
def execBatBelowOperating (mv : Nat) (at_ : Nat) (s : State) : Host.Outcome State Fault Refusal :=
  .next (s.onPkg (Sys2Proof.Machine.batBelowOperating mv at_))

/-- BAT_RECOVER (R402): BAT returns to 5.5 V and a waiting wake or cold WAKING starts. -/
def execBatRecover (mv : Nat) (at_ : Nat) (s : State) : Host.Outcome State Fault Refusal :=
  .next (s.onPkg (Sys2Proof.Machine.batRecover mv at_))

/-- BAT_LOST (R289): BAT below 3.8 V for 10 µs resets the sentinel and the next power-up is a first one. -/
def execBatLost (at_ : Nat) (s : State) : Host.Outcome State Fault Refusal :=
  .next (Sys2Proof.Machine.batLost at_ s).finish

/-- THERMAL_SAMPLE (R418): A tile samples its junction temperature and sets WARN or ALARM. -/
def execThermalSample (tile : Nat) (temp : Int) (at_ : Nat) (s : State) : Host.Outcome State Fault Refusal :=
  .next (s.onPkg (Sys2Proof.Machine.thermalSample tile temp at_))

/-- THERMAL_SHUTDOWN (R418): A tile at or above 135 °C for 1 ms holds itself in reset and is declared lost. -/
def execThermalShutdown (tile : Nat) (at_ : Nat) (s : State) : Host.Outcome State Fault Refusal :=
  .next (s.onKeystone (Sys2Proof.Machine.thermalShutdown tile at_))

/-- THERMAL_RESTART (R418): 10 s after a thermal power-off with no steward left, the sentinel starts a cold WAKING. -/
def execThermalRestart (s : State) : Host.Outcome State Fault Refusal :=
  .next (s.onPkg (Sys2Proof.Machine.thermalRestart))

end Sys2Proof.Machine
end

