-- ==== Sys2Proof/Machine/ExecVault.lean ====
section
/-! DEFINITION. Chapter 9: the vault, revocation, key caches, tamper: the meaning of each command. -/
namespace Sys2Proof.Machine

/-- DERIVE (R270): The vault DERIVE command creates a child slot by SP 800-108 derivation. -/
def execDerive (a : Acc) (slot : Nat) (s : State) : Host.Outcome State Fault Refusal :=
  .next (s.vaultWrite a 1 slot).finish

/-- IMPORT (R272): The vault IMPORT command imports a key by ECDH or key wrap. -/
def execImport (a : Acc) (slot : Nat) (s : State) : Host.Outcome State Fault Refusal :=
  .next (s.vaultWrite a 2 slot).finish

/-- REVOKE (R273): The vault REVOKE command makes a subtree pending and fixes its commit point T_r. -/
def execRevoke (a : Acc) (slot : Nat) (s : State) : Host.Outcome State Fault Refusal :=
  .next (s.vaultWrite a 3 slot).finish

/-- SLOT_RELEASE (R277): The vault RELEASE command returns a REVOKED slot to EMPTY and increments its GEN. -/
def execSlotRelease (a : Acc) (slot : Nat) (s : State) : Host.Outcome State Fault Refusal :=
  .next (s.vaultWrite a 4 slot).finish

/-- NONCE (R283): The vault NONCE command replaces the current ticket nonce. -/
def execNonce (a : Acc) (s : State) : Host.Outcome State Fault Refusal :=
  .next (s.vaultWrite a 5 0).finish

/-- ATTEST (R281): The vault ATTEST command writes a signed attestation statement. -/
def execAttest (a : Acc) (s : State) : Host.Outcome State Fault Refusal :=
  .next (s.vaultWrite a 6 0).finish

/-- TICKET (R283): The vault TICKET command checks a Pligen ticket and applies its effect. -/
def execTicket (a : Acc) (s : State) : Host.Outcome State Fault Refusal :=
  .next (s.vaultWrite a 7 0).finish

/-- VAULT_COMMAND_DONE (R271): A running vault command ends, clearing BUSY and setting DONE and RESULT. -/
def execVaultCommandDone (fuseFail : Option Nat) (at_ : Nat) (s : State) : Host.Outcome State Fault Refusal :=
  .next (s.onPkg (Sys2Proof.Machine.vaultCommandDone fuseFail at_))

/-- KEY_TIMER (R274): A slot's expiry timer reaches T_r − lead and starts its revocation. -/
def execKeyTimer (timer : Nat) (s : State) : Host.Outcome State Fault Refusal :=
  .next (s.onPkg (Sys2Proof.Machine.keyTimer timer))

/-- REVOCATION_COMMIT (R275): At T_r the revoked subtree becomes unusable and the sweep starts. -/
def execRevocationCommit (seq : Nat) (s : State) : Host.Outcome State Fault Refusal :=
  .next (s.onPkg (Sys2Proof.Machine.revocationCommit seq))

/-- REVOCATION_SWEEP_DONE (R275): The sweep ends and, once every tile has acknowledged, KY_RV_STATUS.DONE is set. -/
def execRevocationSweepDone (seq : Nat) (at_ : Nat) (s : State) : Host.Outcome State Fault Refusal :=
  .next (s.onPkg (Sys2Proof.Machine.revocationSweepDone seq at_))

/-- REVOCATION_MESSAGE (R276): A tile receives a numbered revocation message, applies it and acknowledges. -/
def execRevocationMessage (tile : Nat) (seq : Nat) (at_ : Nat) (s : State) : Host.Outcome State Fault Refusal :=
  .next (s.onPkg (Sys2Proof.Machine.revocationMessage tile seq at_))

/-- REVOCATION_BEAT (R276): A tile receives the vault's beat with the latest revocation number every 2 µs. -/
def execRevocationBeat (tile : Nat) (seq : Nat) (at_ : Nat) (s : State) : Host.Outcome State Fault Refusal :=
  .next (s.onPkg (Sys2Proof.Machine.revocationBeat tile seq at_))

/-- LEASE_EXPIRE (R276): A key cache with no beat for 8 µs refuses every use. -/
def execLeaseExpire (tile : Nat) (s : State) : Host.Outcome State Fault Refusal :=
  .next (s.onPkg (Sys2Proof.Machine.leaseExpire tile))

/-- KEY_TRANSFER (R278): A key transfer from the vault fills a tile key cache entry. -/
def execKeyTransfer (tile : Nat) (slot : Nat) (trestle : Bool) (at_ : Nat) (s : State) : Host.Outcome State Fault Refusal :=
  .next (s.onPkg (Sys2Proof.Machine.keyTransfer tile slot trestle at_))

/-- SA_VALID_WRITE (R280): Writing VALID = 1 in a secure association entry starts its key fetch or sets KEY_FAULT. -/
def execSaValidWrite (a : Acc) (tile : Nat) (offset : Nat) (value : Word) (s : State) : Host.Outcome State Fault Refusal :=
  .next (s.regWriteIf (decide (0x3900000 ≤ offset ∧ offset < 0x3920800 ∧ offset % 32 = 0)) a tile offset value).finish

/-- TAMPER_EVENT (R284): A tamper source becomes active, latches in TP_LATCH and asserts the tamper line. -/
def execTamperEvent (source : Nat) (at_ : Nat) (s : State) : Host.Outcome State Fault Refusal :=
  .next (s.onPkg (Sys2Proof.Machine.tamperEvent source at_))

/-- TAMPER_LEVEL (R33): A tile that sees the tamper level zeroises its key caches, forces QUARANTINE and drives the level on its span sidebands. -/
def execTamperLevel (tile : Nat) (at_ : Nat) (s : State) : Host.Outcome State Fault Refusal :=
  .next (s.onPkg (Sys2Proof.Machine.tamperLevel tile at_))

end Sys2Proof.Machine
end

