-- ==== Sys2Proof/Machine/Dispatch.lean ====
section
/-! DEFINITION. Which meaning each command has: one arm per row of the opcode table. -/
namespace Sys2Proof.Machine

def exec (i : Instr) (s : State) : Host.Outcome State Fault Refusal :=
  match i with
  | .registerWrite a addr value be => Sys2Proof.Machine.execRegisterWrite a addr value be s
  | .keystoneWrite a addr value be => Sys2Proof.Machine.execKeystoneWrite a addr value be s
  | .targetTimeout r id => Sys2Proof.Machine.execTargetTimeout r id s
  | .writeAck r id at_ => Sys2Proof.Machine.execWriteAck r id at_ s
  | .sgFence a die value => Sys2Proof.Machine.execSgFence a die value s
  | .sgFenceWait a die => Sys2Proof.Machine.execSgFenceWait a die s
  | .fenceTimeout r => Sys2Proof.Machine.execFenceTimeout r s
  | .flitCrcFail tile span at_ => Sys2Proof.Machine.execFlitCrcFail tile span at_ s
  | .spanDown tile span lost at_ => Sys2Proof.Machine.execSpanDown tile span lost at_ s
  | .spanRetrain tile span => Sys2Proof.Machine.execSpanRetrain tile span s
  | .spanUp tile span at_ => Sys2Proof.Machine.execSpanUp tile span at_ s
  | .tetherHeartbeat tether toTile arrived at_ => Sys2Proof.Machine.execTetherHeartbeat tether toTile arrived at_ s
  | .tetherDown tether at_ => Sys2Proof.Machine.execTetherDown tether at_ s
  | .tetherRetrain tether => Sys2Proof.Machine.execTetherRetrain tether s
  | .tetherUp tether at_ => Sys2Proof.Machine.execTetherUp tether at_ s
  | .tamperLevel tile at_ => Sys2Proof.Machine.execTamperLevel tile at_ s
  | .timeBeat tile offset at_ => Sys2Proof.Machine.execTimeBeat tile offset at_ s
  | .ksRequest a tile value => Sys2Proof.Machine.execKsRequest a tile value s
  | .prepare tile at_ => Sys2Proof.Machine.execPrepare tile at_ s
  | .drainStart tile => Sys2Proof.Machine.execDrainStart tile s
  | .drainComplete tile at_ => Sys2Proof.Machine.execDrainComplete tile at_ s
  | .drained tile at_ => Sys2Proof.Machine.execDrained tile at_ s
  | .ksDeadline => Sys2Proof.Machine.execKsDeadline s
  | .decisionAck tile at_ => Sys2Proof.Machine.execDecisionAck tile at_ s
  | .decisionRepeat => Sys2Proof.Machine.execDecisionRepeat s
  | .confirm tile at_ => Sys2Proof.Machine.execConfirm tile at_ s
  | .abort tile at_ => Sys2Proof.Machine.execAbort tile at_ s
  | .ksCommit tile => Sys2Proof.Machine.execKsCommit tile s
  | .commitAck tile at_ => Sys2Proof.Machine.execCommitAck tile at_ s
  | .bankCopyDone tile at_ => Sys2Proof.Machine.execBankCopyDone tile at_ s
  | .tileLost tile at_ => Sys2Proof.Machine.execTileLost tile at_ s
  | .frameReceive tile port f at_ => Sys2Proof.Machine.execFrameReceive tile port f at_ s
  | .recirculationPass tile at_ => Sys2Proof.Machine.execRecirculationPass tile at_ s
  | .fragExpire tile idx => Sys2Proof.Machine.execFragExpire tile idx s
  | .ctAging tile n => Sys2Proof.Machine.execCtAging tile n s
  | .ctInsert a tile => Sys2Proof.Machine.execCtInsert a tile s
  | .ctDelete a tile => Sys2Proof.Machine.execCtDelete a tile s
  | .ctLookup a tile => Sys2Proof.Machine.execCtLookup a tile s
  | .enqueue tile copy at_ => Sys2Proof.Machine.execEnqueue tile copy at_ s
  | .spanCreditGrant tile src tc cells at_ => Sys2Proof.Machine.execSpanCreditGrant tile src tc cells at_ s
  | .transmitDecision tile turn at_ => Sys2Proof.Machine.execTransmitDecision tile turn at_ s
  | .transmitEnd tile port at_ => Sys2Proof.Machine.execTransmitEnd tile port at_ s
  | .pauseRefresh tile port at_ => Sys2Proof.Machine.execPauseRefresh tile port at_ s
  | .pfcReceive tile port enable quanta at_ => Sys2Proof.Machine.execPfcReceive tile port enable quanta at_ s
  | .pauseReceive tile port quanta at_ => Sys2Proof.Machine.execPauseReceive tile port quanta at_ s
  | .pauseExpire tile port queue => Sys2Proof.Machine.execPauseExpire tile port queue s
  | .watchdogStall tile port queue => Sys2Proof.Machine.execWatchdogStall tile port queue s
  | .overflowReadback tile port queue eccOk at_ => Sys2Proof.Machine.execOverflowReadback tile port queue eccOk at_ s
  | .mcHoldExpire tile copy => Sys2Proof.Machine.execMcHoldExpire tile copy s
  | .linkDown tile port at_ => Sys2Proof.Machine.execLinkDown tile port at_ s
  | .linkUp tile port mbps at_ => Sys2Proof.Machine.execLinkUp tile port mbps at_ s
  | .gclEntryStart tile port at_ => Sys2Proof.Machine.execGclEntryStart tile port at_ s
  | .mergeVerify tile port ok at_ => Sys2Proof.Machine.execMergeVerify tile port ok at_ s
  | .streamGateEntry tile gate at_ => Sys2Proof.Machine.execStreamGateEntry tile gate at_ s
  | .frerReset tile fn => Sys2Proof.Machine.execFrerReset tile fn s
  | .genReset a tile value => Sys2Proof.Machine.execGenReset a tile value s
  | .txtsPop a tile => Sys2Proof.Machine.execTxtsPop a tile s
  | .rateAdj a tile value => Sys2Proof.Machine.execRateAdj a tile value s
  | .phaseAdj a tile value => Sys2Proof.Machine.execPhaseAdj a tile value s
  | .sample tile n => Sys2Proof.Machine.execSample tile n s
  | .busFrameRx m own time => Sys2Proof.Machine.execBusFrameRx m own time s
  | .trestleInput tile at_ => Sys2Proof.Machine.execTrestleInput tile at_ s
  | .acfFrame tile at_ => Sys2Proof.Machine.execAcfFrame tile at_ s
  | .authVerify tile at_ => Sys2Proof.Machine.execAuthVerify tile at_ s
  | .authGenerate tile at_ => Sys2Proof.Machine.execAuthGenerate tile at_ s
  | .acfBatchSend tile stream => Sys2Proof.Machine.execAcfBatchSend tile stream s
  | .busCreditReturn buf at_ => Sys2Proof.Machine.execBusCreditReturn buf at_ s
  | .txExpired buf msg => Sys2Proof.Machine.execTxExpired buf msg s
  | .canTxDone ch at_ => Sys2Proof.Machine.execCanTxDone ch at_ s
  | .canBusOff ch at_ => Sys2Proof.Machine.execCanBusOff ch at_ s
  | .canAutoRecover ch at_ => Sys2Proof.Machine.execCanAutoRecover ch at_ s
  | .recover a ch value => Sys2Proof.Machine.execRecover a ch value s
  | .linScheduleSlot ch at_ => Sys2Proof.Machine.execLinScheduleSlot ch at_ s
  | .bar2Access tile write offset len data be poisoned at_ => Sys2Proof.Machine.execBar2Access tile write offset len data be poisoned at_ s
  | .outboundAccess tile who write window offset len data be at_ => Sys2Proof.Machine.execOutboundAccess tile who write window offset len data be at_ s
  | .outboundCompletion tile tag status data at_ => Sys2Proof.Machine.execOutboundCompletion tile tag status data at_ s
  | .completionTimeout tile tag => Sys2Proof.Machine.execCompletionTimeout tile tag s
  | .prefetchExpire tile => Sys2Proof.Machine.execPrefetchExpire tile s
  | .msixUnmask a tile vec => Sys2Proof.Machine.execMsixUnmask a tile vec s
  | .pcieLinkDown tile at_ => Sys2Proof.Machine.execPcieLinkDown tile at_ s
  | .dmaTailWrite a tile ch value => Sys2Proof.Machine.execDmaTailWrite a tile ch value s
  | .descriptor tile ch hostData err at_ => Sys2Proof.Machine.execDescriptor tile ch hostData err at_ s
  | .descriptorDone tile ch wbFails at_ => Sys2Proof.Machine.execDescriptorDone tile ch wbFails at_ s
  | .stop a tile ch => Sys2Proof.Machine.execStop a tile ch s
  | .resume a tile ch => Sys2Proof.Machine.execResume a tile ch s
  | .rxFrameDma tile ch reads at_ => Sys2Proof.Machine.execRxFrameDma tile ch reads at_ s
  | .alloc a tile owner pool => Sys2Proof.Machine.execAlloc a tile owner pool s
  | .share a tile owner other handle => Sys2Proof.Machine.execShare a tile owner other handle s
  | .release a tile owner handle => Sys2Proof.Machine.execRelease a tile owner handle s
  | .free a tile owner handle => Sys2Proof.Machine.execFree a tile owner handle s
  | .ckFeed a tile unit_ value => Sys2Proof.Machine.execCkFeed a tile unit_ value s
  | .ckFeedB a tile unit_ value => Sys2Proof.Machine.execCkFeedB a tile unit_ value s
  | .ckRestart a tile unit_ => Sys2Proof.Machine.execCkRestart a tile unit_ s
  | .ckPreset a tile unit_ => Sys2Proof.Machine.execCkPreset a tile unit_ s
  | .ckValueLoad a tile unit_ high value => Sys2Proof.Machine.execCkValueLoad a tile unit_ high value s
  | .derive a slot => Sys2Proof.Machine.execDerive a slot s
  | .import_ a slot => Sys2Proof.Machine.execImport a slot s
  | .revoke a slot => Sys2Proof.Machine.execRevoke a slot s
  | .slotRelease a slot => Sys2Proof.Machine.execSlotRelease a slot s
  | .nonce a => Sys2Proof.Machine.execNonce a s
  | .attest a => Sys2Proof.Machine.execAttest a s
  | .ticket a => Sys2Proof.Machine.execTicket a s
  | .vaultCommandDone fuseFail at_ => Sys2Proof.Machine.execVaultCommandDone fuseFail at_ s
  | .keyTimer timer => Sys2Proof.Machine.execKeyTimer timer s
  | .revocationCommit seq => Sys2Proof.Machine.execRevocationCommit seq s
  | .revocationSweepDone seq at_ => Sys2Proof.Machine.execRevocationSweepDone seq at_ s
  | .revocationMessage tile seq at_ => Sys2Proof.Machine.execRevocationMessage tile seq at_ s
  | .revocationBeat tile seq at_ => Sys2Proof.Machine.execRevocationBeat tile seq at_ s
  | .leaseExpire tile => Sys2Proof.Machine.execLeaseExpire tile s
  | .keyTransfer tile slot trestle at_ => Sys2Proof.Machine.execKeyTransfer tile slot trestle at_ s
  | .saValidWrite a tile offset value => Sys2Proof.Machine.execSaValidWrite a tile offset value s
  | .tamperEvent source at_ => Sys2Proof.Machine.execTamperEvent source at_ s
  | .modeRequest a value => Sys2Proof.Machine.execModeRequest a value s
  | .reset a value => Sys2Proof.Machine.execReset a value s
  | .debugRequest a port value => Sys2Proof.Machine.execDebugRequest a port value s
  | .serviceLapse => Sys2Proof.Machine.execServiceLapse s
  | .debugTicketLapse => Sys2Proof.Machine.execDebugTicketLapse s
  | .batPowerUp at_ => Sys2Proof.Machine.execBatPowerUp at_ s
  | .wakePin pin at_ => Sys2Proof.Machine.execWakePin pin at_ s
  | .wakePinStuck pin => Sys2Proof.Machine.execWakePinStuck pin s
  | .canWup ch at_ => Sys2Proof.Machine.execCanWup ch at_ s
  | .selectiveWake ch m at_ => Sys2Proof.Machine.execSelectiveWake ch m at_ s
  | .swkErrorOverflow ch at_ => Sys2Proof.Machine.execSwkErrorOverflow ch at_ s
  | .trxFailsafe ch => Sys2Proof.Machine.execTrxFailsafe ch s
  | .watchCoreFailsafe at_ => Sys2Proof.Machine.execWatchCoreFailsafe at_ s
  | .txdTimeout ch at_ => Sys2Proof.Machine.execTxdTimeout ch at_ s
  | .busDom ch at_ => Sys2Proof.Machine.execBusDom ch at_ s
  | .nmMessage ch m at_ => Sys2Proof.Machine.execNmMessage ch m at_ s
  | .nmRingSend ch => Sys2Proof.Machine.execNmRingSend ch s
  | .nmRingLost ch => Sys2Proof.Machine.execNmRingLost ch s
  | .limphome ch => Sys2Proof.Machine.execLimphome ch s
  | .nmWaitExpire ch => Sys2Proof.Machine.execNmWaitExpire ch s
  | .pnTimeout pn => Sys2Proof.Machine.execPnTimeout pn s
  | .confirmWake a value => Sys2Proof.Machine.execConfirmWake a value s
  | .falseWake => Sys2Proof.Machine.execFalseWake s
  | .newPeriod a value => Sys2Proof.Machine.execNewPeriod a value s
  | .planTick meas temp spentNah => Sys2Proof.Machine.execPlanTick meas temp spentNah s
  | .planTimer k => Sys2Proof.Machine.execPlanTimer k s
  | .hkMax => Sys2Proof.Machine.execHkMax s
  | .retentionConfirm tile at_ => Sys2Proof.Machine.execRetentionConfirm tile at_ s
  | .vstbyLow mv at_ => Sys2Proof.Machine.execVstbyLow mv at_ s
  | .elCopyRefresh tile at_ => Sys2Proof.Machine.execElCopyRefresh tile at_ s
  | .roundBoundary tile run at_ => Sys2Proof.Machine.execRoundBoundary tile run at_ s
  | .vote tile v at_ => Sys2Proof.Machine.execVote tile v at_ s
  | .digestGrace tile core => Sys2Proof.Machine.execDigestGrace tile core s
  | .standbyRound digest ownVoteOk at_ => Sys2Proof.Machine.execStandbyRound digest ownVoteOk at_ s
  | .standbySync at_ => Sys2Proof.Machine.execStandbySync at_ s
  | .standbyTimeout cause replay at_ => Sys2Proof.Machine.execStandbyTimeout cause replay at_ s
  | .stewardRestart tile at_ => Sys2Proof.Machine.execStewardRestart tile at_ s
  | .rejoin a tile value => Sys2Proof.Machine.execRejoin a tile value s
  | .doubtClear a tile value => Sys2Proof.Machine.execDoubtClear a tile value s
  | .censusLatch die periodic at_ => Sys2Proof.Machine.execCensusLatch die periodic at_ s
  | .censusRequest a tile value => Sys2Proof.Machine.execCensusRequest a tile value s
  | .censusPrepare die at_ => Sys2Proof.Machine.execCensusPrepare die at_ s
  | .censusPublish die at_ => Sys2Proof.Machine.execCensusPublish die at_ s
  | .censusAbsent die => Sys2Proof.Machine.execCensusAbsent die s
  | .censusHold a tile hold => Sys2Proof.Machine.execCensusHold a tile hold s
  | .journalCommit a tile value => Sys2Proof.Machine.execJournalCommit a tile value s
  | .pageProgram ok at_ => Sys2Proof.Machine.execPageProgram ok at_ s
  | .flushTimer => Sys2Proof.Machine.execFlushTimer s
  | .flush a => Sys2Proof.Machine.execFlush a s
  | .nandMount d at_ => Sys2Proof.Machine.execNandMount d at_ s
  | .rdGo a area => Sys2Proof.Machine.execRdGo a area s
  | .rdStop a => Sys2Proof.Machine.execRdStop a s
  | .rdCopyRecord read => Sys2Proof.Machine.execRdCopyRecord read s
  | .keeperWork run at_ => Sys2Proof.Machine.execKeeperWork run at_ s
  | .scrubDue block at_ => Sys2Proof.Machine.execScrubDue block at_ s
  | .norScrub at_ => Sys2Proof.Machine.execNorScrub at_ s
  | .write a => Sys2Proof.Machine.execWrite a s
  | .verify a stage => Sys2Proof.Machine.execVerify a stage s
  | .activateLive a => Sys2Proof.Machine.execActivateLive a s
  | .activateRestart a => Sys2Proof.Machine.execActivateRestart a s
  | .activateNextStart a => Sys2Proof.Machine.execActivateNextStart a s
  | .confirmTrial a => Sys2Proof.Machine.execConfirmTrial a s
  | .abandon a => Sys2Proof.Machine.execAbandon a s
  | .provWrite a => Sys2Proof.Machine.execProvWrite a s
  | .upCommandDone readBackOk at_ => Sys2Proof.Machine.execUpCommandDone readBackOk at_ s
  | .activationFlush => Sys2Proof.Machine.execActivationFlush s
  | .activationRestartDone tile ok at_ => Sys2Proof.Machine.execActivationRestartDone tile ok at_ s
  | .activationTimeout => Sys2Proof.Machine.execActivationTimeout s
  | .trialEnd => Sys2Proof.Machine.execTrialEnd s
  | .bootStageDone ok at_ => Sys2Proof.Machine.execBootStageDone ok at_ s
  | .sectionTimeout tile at_ => Sys2Proof.Machine.execSectionTimeout tile at_ s
  | .pmicPgRise group at_ => Sys2Proof.Machine.execPmicPgRise group at_ s
  | .pmicEnable group => Sys2Proof.Machine.execPmicEnable group s
  | .railTimeout group => Sys2Proof.Machine.execRailTimeout group s
  | .pmicDisable group at_ => Sys2Proof.Machine.execPmicDisable group at_ s
  | .railFault group at_ => Sys2Proof.Machine.execRailFault group at_ s
  | .batLow mv at_ => Sys2Proof.Machine.execBatLow mv at_ s
  | .batRecover mv at_ => Sys2Proof.Machine.execBatRecover mv at_ s
  | .batLost at_ => Sys2Proof.Machine.execBatLost at_ s
  | .thermalSample tile temp at_ => Sys2Proof.Machine.execThermalSample tile temp at_ s
  | .thermalShutdown tile at_ => Sys2Proof.Machine.execThermalShutdown tile at_ s
  | .thermalRestart => Sys2Proof.Machine.execThermalRestart s
  | .lowWordRead a read => Sys2Proof.Machine.execLowWordRead a read s
  | .tetherTimeAlign err at_ => Sys2Proof.Machine.execTetherTimeAlign err at_ s
  | .spillWriteDone tile port queue at_ => Sys2Proof.Machine.execSpillWriteDone tile port queue at_ s
  | .shaperEligible tile port queue => Sys2Proof.Machine.execShaperEligible tile port queue s
  | .busFrameError e at_ => Sys2Proof.Machine.execBusFrameError e at_ s
  | .flexraySlot chA chB slot cycle dynamic at_ => Sys2Proof.Machine.execFlexraySlot chA chB slot cycle dynamic at_ s
  | .flexrayPocChange poc at_ => Sys2Proof.Machine.execFlexrayPocChange poc at_ s
  | .pcieLinkUp tile speed width at_ => Sys2Proof.Machine.execPcieLinkUp tile speed width at_ s
  | .pcieConfigWrite tile bme mps mrrs cplTimeoutUs at_ => Sys2Proof.Machine.execPcieConfigWrite tile bme mps mrrs cplTimeoutUs at_ s
  | .wakePinInactive pin at_ => Sys2Proof.Machine.execWakePinInactive pin at_ s
  | .transceiverCommand ch cmd at_ => Sys2Proof.Machine.execTransceiverCommand ch cmd at_ s
  | .busDomClear ch at_ => Sys2Proof.Machine.execBusDomClear ch at_ s
  | .txdRecessive lin ch at_ => Sys2Proof.Machine.execTxdRecessive lin ch at_ s
  | .linTxdTimeout ch at_ => Sys2Proof.Machine.execLinTxdTimeout ch at_ s
  | .allowanceLow spentNah at_ => Sys2Proof.Machine.execAllowanceLow spentNah at_ s
  | .stewardReloadDone tile at_ => Sys2Proof.Machine.execStewardReloadDone tile at_ s
  | .batBelowOperating mv at_ => Sys2Proof.Machine.execBatBelowOperating mv at_ s

end Sys2Proof.Machine
end

