-- ==== Sys2Proof/Safety.lean ====
section
/-! DEFINITION. What counts as a safe step, and the words statements about commands are written in: what a command leaves unchanged, and when a
management access meets nothing in its way. -/
namespace Sys2Proof.Machine

/-- The step completes: neither a fault nor a refusal. -/
def Completes (s : State) : Prop := ∃ t, step s = .next t

/-- A command runs and its next state satisfies P. -/
def Runs (i : Instr) (s : State) (P : State → Prop) : Prop := ∃ t, exec i s = .next t ∧ P t

/-! ### Frames -/

/-- Every register and table word reads as before, but those at these package addresses. -/
def WordsKept (p q : Pkg) (l : List Nat) : Prop := ∀ d o, pkgAddr d o ∉ l → q.rd d o = p.rd d o

/-- Every 64-bit counter and pair reads as before, but those whose low words lie at these package addresses. -/
def CountsKept (p q : Pkg) (l : List Nat) : Prop := ∀ d o, pkgAddr d o ∉ l → q.cnt d o = p.cnt d o

/-- Every byte of the memories reads as before. -/
def BytesKept (s t : State) : Prop := ∀ tile a, t.mem.get tile a = s.mem.get tile a

/-- The package without its words, counters and clock, without the record of the bits set at this instant, without the MSI-X logic and without what has left it: the hidden state of its blocks. -/
def Pkg.hidden (s : Pkg) : Pkg := { s with now := 0, regs := [], sets := [], ctr := [], out := [], msix := [], wipe := [] }

/-- Between steps no byte memory waits to be lost. -/
abbrev State.settled (s : State) : Prop := s.pkg.wipe = []

/-- The frame of a command that stores no byte: the words and counters at these package addresses may change, no other word, counter or byte does, and
the commands that wait stay as they are. -/
def Frame (s t : State) (words counts : List Nat) : Prop :=
  WordsKept s.pkg t.pkg words ∧ CountsKept s.pkg t.pkg counts ∧ (s.settled → BytesKept s t) ∧ t.pending = s.pending

/-- No frame of the active trestle waits for credit of the switch (R211). -/
abbrev State.noEthWaits (s : State) : Prop := (s.pkg.trestle s.pkg.steward).ready = []

/-- Nothing waits for a keystone commit to end: no access at a port, no fallback, no frame of the trestle for credit (R64, R211, R398). -/
abbrev State.calm (s : State) : Prop := s.noEthWaits ∧ (∀ d, d < 7 → s.pkg.queueAt d = []) ∧ s.pkg.boot.waitFall = false

/-- The charges, with their tiles, that may go back when the last reference to a frame goes: its own (R109) and, where it frees recirculation cells, those
of the frames that wait on the recirculation lists and move now (R119). -/
def Pkg.charges (s : Pkg) (id : Nat) : List (Nat × Charge) :=
  (id :: (if (s.frame id).charge.kind = .recirc then s.sw.recirc.map (·.frame) else [])).flatMap (fun i =>
    ((s.frame i).charge :: (s.frame i).before).map (fun c => ((s.frame i).tile, c)))

/-- The words that may change and the counters that may count as they do: XOFF of the accounts' ports and the pause frames that the ports send (R112). -/
def Pkg.xoffWords (s : Pkg) (id : Nat) : List Nat := (s.charges id).map (fun c => pkgAddr c.1 (fXoffTx c.2.port).off)
def Pkg.pauseCounts (s : Pkg) (id : Nat) : List Nat := (s.charges id).map (fun c => pkgAddr c.1 (oPauseTx c.2.port))

/-! ### Management accesses -/

/-- An access of this requester leaves its home die at once: the requester may issue, no earlier access is held, no fence stands open, and fewer than
64 of its writes are unacknowledged (R51). -/
abbrev Pkg.leaves (s : Pkg) (r : Req) : Prop :=
  s.mayIssue r = true ∧ (s.reqSt r).held = [] ∧ (s.reqSt r).fences = [] ∧ (s.reqSt r).unacked.length < 64

/-- A write of all four bytes of a word reaches its target and takes effect there: it leaves at once, the target answers and does not refuse it, and
nothing waits or stalls at the target's port (R39, R41, R64). -/
abbrev Pkg.reaches (s : Pkg) (r : Req) (die off : Nat) (value : Word) : Prop :=
  s.leaves r ∧ die < 16 ∧ off < 2 ^ 26 ∧ off % 4 = 0 ∧ isFence die off = false ∧ s.accessErr r (pkgAddr die off) = 0 ∧
  s.refusedWrite r die off value = false ∧ s.queueAt die = [] ∧ s.stallsPort die off 15 = false ∧ s.absentPort die off = false

/-- A word whose write is no command: no pod command, no word of Tables 1-8 to 14-8 that starts something, no channel, check unit or SA word with an
effect of its own, no word of the trestle that is mirrored to the standby (R204), no NM word whose NODE the journal copies (R21), no word of another tile's UP block (R389). -/
def plainWord (die off : Nat) : Bool :=
  if die = 15 then
    !(([0x10004, 0x20000, 0x20010, 0x30008, 0x60004, 0x6000C, 0x60010] : List Nat).contains off) && !(decide (0x20020 ≤ off) && decide (off < 0x20080)) &&
    !(decide (0x40000 ≤ off) && decide (off < 0x40C00) && off % 0x100 == 0x14)
  else
    (podCommand off).isNone && !(tileBlock off == some .up && die != 0) &&
    !mirroredWord off && !(([0x100100, 0x100104, 0x10010C, 0xC00018, 0x200020, 0x400060, 0xC00240, 0x1D00008, 0x1D0000C, 0x1E00000, 0x1E00008, 0x1E00100, 0x1F00014, 0x2100004] : List Nat).contains off) &&
    !(decide (0x1A00000 ≤ off) && decide (off < 0x1A01000) && (off % 0x100 == 0 || off % 0x100 == 0x14 || off % 0x100 == 0x1C)) &&
    !(decide (0x1C00000 ≤ off) && decide (off < 0x1C00200)) && !(decide (0x3900000 ≤ off) && decide (off < 0x3920800))

/-- A write of all four bytes of a word is in shape (R56): judged without the cold bits while their window is shut (R57). -/
def Pkg.takes (s : Pkg) (die off : Nat) (value : Word) : Bool :=
  let shut := if s.coldOpen then 0 else coldBits die off
  let bits := (s.rkBits die off ||| writableBits die off) &&& ~~~ shut
  (s.stagedIn die).inShape die off (((s.stagedIn die).nextWord die off &&& ~~~ bits) ||| (value &&& bits)) (~~~ shut)

/-- The cold bits of a word that wait for the restart of its die (R17). -/
def Pkg.lateBits (s : Pkg) (die off : Nat) : Word := (SMap.get (0, 0) s.coldNext (pkgAddr die off)).2

/-- The home die of a requester has recorded this management error (R39, R41, Table 1-6): it is counted; the first one is kept with what it says of
the access, a later one sets OVERFLOW alone. Nothing else changes. -/
def MerrRecorded (s t : State) (r : Req) (code : Nat) (write : Bool) (addr : Nat) : Prop :=
  t.pkg.cnt r.die oMerrCount = s.pkg.cnt r.die oMerrCount + 1 ∧
  (s.pkg.on r.die fMerrValid = true →
    t.pkg.rd r.die fMerrValid.off = s.pkg.rd r.die fMerrValid.off ||| 0x40000000#32 ∧ t.pkg.rd r.die fMerrAddr.off = s.pkg.rd r.die fMerrAddr.off) ∧
  (s.pkg.on r.die fMerrValid = false →
    t.pkg.on r.die fMerrValid = true ∧ t.pkg.on r.die fMerrOvf = s.pkg.on r.die fMerrOvf ∧ t.pkg.on r.die fMerrWrite = write ∧
    t.pkg.get r.die fMerrAgent = r.agent % 16 ∧ t.pkg.get r.die fMerrDie = addrDie addr % 16 ∧ t.pkg.get r.die fMerrCode = code % 16 ∧
    t.pkg.get r.die fMerrAddr = addr % 2 ^ 30) ∧
  Frame s t [pkgAddr r.die fMerrValid.off, pkgAddr r.die fMerrAddr.off] [pkgAddr r.die oMerrCount]

/-- The write as its home die remembers it until it is acknowledged (R51), as the trace records it (R300), and the turn of its target's port (R36). -/
def Pkg.remember (s : Pkg) (r : Req) (die off : Nat) (value : Word) : Pkg :=
  ((s.trace r true (pkgAddr die off) value).setReqSt r { s.reqSt r with
    nextId := (s.reqSt r).nextId + 1
    unacked := (s.reqSt r).unacked ++ [{ id := (s.reqSt r).nextId, addr := pkgAddr die off, value := value, be := 15, once := false, sent := s.now,
                                         atPort := false }] }).tookTurn die r

/-! ### The sentinel: the park log, wakes, resets -/

/-- The words of the next entry of the park log and of its producer (R330). -/
def Pkg.logWords (s : Pkg) : List Nat := pkgAddr 15 0x20700 :: (List.range 8).map (fun i => pkgAddr 15 (0x28000 + 32 * s.get 15 fLogProd + 4 * i))

/-- The sentinel's vault, tamper and fuse blocks keep their words and counters, but for the words at these offsets. -/
def SentinelKept (p q : Pkg) (offs : List Nat) : Prop :=
  ∀ o, (o < 0x20000 ∨ (0x50000 ≤ o ∧ o < 0x60000) ∨ (0x70000 ≤ o ∧ o < 0x80000)) → (o ∉ offs → q.rd 15 o = p.rd 15 o) ∧ q.cnt 15 o = p.cnt 15 o

/-- The words and counters of the sentinel and of every tile but one. -/
def OthersKept (p q : Pkg) (tile : Nat) (words counts : List Nat) : Prop :=
  ∀ d o, d < 16 → d ≠ tile → o < 2 ^ 26 → (pkgAddr d o ∉ words → q.rd d o = p.rd d o) ∧ (pkgAddr d o ∉ counts → q.cnt d o = p.cnt d o)

/-- A wake from this source is taken at once from PARKED-WARM or PARKED-COLD, on a package without NM channels whose plan has shed nothing: the storm
limiter passes it, the rails are off and may rise (R312, R402). -/
def Pkg.mayWake (p : Pkg) (src : Nat) : Bool :=
  (p.modeNow == mParkedCold || p.modeNow == mParkedWarm) && p.stormOk src && p.mayRise && !p.wake.shed && p.nmChannels.isEmpty

/-- The package has entered WAKING from this source (R295, R312). -/
def Woken (p q : Pkg) (src reason : Nat) : Prop :=
  q.modeNow = mWaking ∧ q.get 15 fReason = reason ∧ q.get 15 fLastSrc = src ∧ q.power.phase = 1 ∧
  q.cnt 15 (oWakeTaken src) = p.cnt 15 (oWakeTaken src) + 1

/-- What entering WAKING may change: the mode, the tiles to power, READY and CONFIRMED, the last source, the park log; and the counters it counts. -/
def Pkg.wakeWords (s : Pkg) : List Nat := ([0x60000, 0x60008, 0x20010, 0x20014, 0x20018] : List Nat).map (pkgAddr 15) ++ s.logWords
def wakeCounts (src : Nat) : List Nat := [oWakeTaken src, oLogLost, oLastChange, oTransitions].map (pkgAddr 15)

/-- The package has taken the reset row of Table 10-2 with this reason: it is in WAKING, no tile is powered, the debug level is CLOSED. -/
def WasReset (p q : Pkg) (reason : Nat) : Prop :=
  q.modeNow = mWaking ∧ q.get 15 fReason = reason ∧ q.get 15 fDebugLevel = 0 ∧ (∀ t, q.tileOn t = false) ∧ q.cnt 15 oResets = p.cnt 15 oResets + 1 ∧
  SentinelKept p q [0x10000]

end Sys2Proof.Machine
end

