-- ==== Sys2Proof/Certificates/Slice0/Obligations.lean ====
section
/-! DEFINITION. The statements for the provers. -/
open Sys2Proof Sys2Proof.Machine

/-- Whatever command stands at the front of the queue, a step is that command's effect on the machine with the rest of the queue; on an empty queue the
block idles (the queue and its idling are the model's own, log entry 1). -/
def Obligations.StepRunsFront : Prop :=
  (∀ (i : Instr) (rest : List Instr) (s : State), step { s with pending := i :: rest } = exec i { s with pending := rest }) ∧
  (∀ s : State, s.pending = [] → step s = .next s)

/-- Every command answers a next state in every state; in it the commands that wait are the same, and no byte memory waits to be lost. -/
def Obligations.CommandsComplete : Prop :=
  ∀ (i : Instr) (s : State), Runs i s (fun t => t.pending = s.pending ∧ t.settled)

/-- The byte memories (work memory, LPDDR5X and NOR) are held in one canonical form, so that equal memories are equal data; every step from a state in
that form, whatever command it runs, answers a state in that form. -/
def Obligations.StepKeepsMemoryForm : Prop :=
  ∀ s t : State, step s = .next t → s.mem.wf = true → t.mem.wf = true

/-- At reset, for each ordering code, the byte memories are in canonical form, nothing waits and no byte memory waits to be lost. -/
def Obligations.ResetMemoryForm : Prop :=
  ∀ v : Variant, (State.resetOf v).mem.wf = true ∧ (State.resetOf v).settled ∧ (State.resetOf v).pending = []

/-- REGISTER_WRITE of a word that is no command and has no keystone bits. In shape: the word takes the value in its RW bits, gains the ones of its W1S bits
and loses those of its W1C bits that hardware has not set at this very instant. Its cold bits take the value at once in BOOT and with the next restart of
the die in PROVISION; elsewhere they stay, and a value that differs from them records COLD_WINDOW. Out of shape: the word is unchanged and the
configuration error of the die counts one more. Nothing else changes. -/
def Obligations.RegisterWriteEffect : Prop :=
  ∀ (a : Acc) (die off : Nat) (v : Word) (s : State), s.pkg.reaches a.req die off v → plainWord die off = true → s.pkg.rkBits die off = 0 →
    let errWords := [pkgAddr die (cfgErrOff die), pkgAddr die (cfgErrOff die + 4)]
    let live := writableBits die off &&& ~~~ (if s.pkg.modeNow = mBoot then 0 else coldBits die off)
    let late := if s.pkg.modeNow = mProvision then coldBits die off else 0
    let barred := s.pkg.coldOpen = false ∧ (s.pkg.rd die off ^^^ v) &&& coldBits die off ≠ 0
    (((s.pkg.reach a.at_).remember a.req die off v).takes die off v = true → Runs (.registerWrite a (pkgAddr die off) v 15) s (fun t =>
      t.pkg.rd die off = (((s.pkg.rd die off &&& ~~~ live) ||| (v &&& live)) ||| (w1sBits die off &&& v)) &&&
        ~~~ (w1cBits die off &&& v &&& ~~~ (s.pkg.reach a.at_).setNow die off) ∧
      (late ≠ 0 → t.pkg.lateBits die off = (s.pkg.lateBits die off &&& ~~~ late) ||| (v &&& late)) ∧
      (¬ barred → Frame s t [pkgAddr die off] []) ∧
      (barred → t.pkg.cnt die (cfgErrCnt die) = s.pkg.cnt die (cfgErrCnt die) + 1 ∧
        Frame s t (pkgAddr die off :: errWords) [pkgAddr die (cfgErrCnt die)]))) ∧
    (((s.pkg.reach a.at_).remember a.req die off v).takes die off v = false → Runs (.registerWrite a (pkgAddr die off) v 15) s (fun t =>
      t.pkg.cnt die (cfgErrCnt die) = s.pkg.cnt die (cfgErrCnt die) + 1 ∧ Frame s t errWords [pkgAddr die (cfgErrCnt die)]))

/-- KEYSTONE_WRITE of a word of a tile whose software bits are all keystone bits, in shape: while the tile stages nothing, the shadow copy takes the
value in those bits; while it stages, the write joins the staged writes. Either way the copy in effect, and every other word, stays. -/
def Obligations.KeystoneWriteEffect : Prop :=
  ∀ (a : Acc) (tile off : Nat) (v : Word) (s : State), s.pkg.reaches a.req tile off v → tile ≠ 15 → plainWord tile off = true →
    s.pkg.rkBits tile off ≠ 0 → s.pkg.rkBits tile off = keystoneMask tile off → writableBits tile off = 0 → w1sBits tile off = 0 → w1cBits tile off = 0 →
    ((s.pkg.reach a.at_).remember a.req tile off v).takes tile off v = true →
    (s.pkg.staging tile = false → Runs (.keystoneWrite a (pkgAddr tile off) v 15) s (fun t =>
      t.pkg.rdShadow tile off = (s.pkg.rdShadow tile off &&& ~~~ keystoneMask tile off) ||| (v &&& keystoneMask tile off) ∧ Frame s t [] [])) ∧
    (s.pkg.staging tile = true → Runs (.keystoneWrite a (pkgAddr tile off) v 15) s (fun t =>
      (t.pkg.ksT tile).staged = (s.pkg.ksT tile).staged ++ [{ addr := pkgAddr tile off, value := v &&& s.pkg.rkBits tile off, be := 15 }] ∧
      Frame s t [] []))

/-- SG_FENCE, a write of any value by a requester that may issue and holds nothing: on its home die it completes at once where no write of the requester is
unacknowledged, and else opens a fence over all of them. SG_FENCE_WAIT, a read with no fence open, answers the number of completed fences and the timeout flag.
On another die neither acts on a fence: FENCE_REMOTE is recorded, and the read answers all ones. Where the access ends in a decode error, that error
is recorded instead. While a fence is open, or as the 65th write, an access is held at the home die. FENCE_TIMEOUT, for a fence that has stood 100 µs,
completes it, sets the timeout flag and records FENCE_TIMEOUT. -/
def Obligations.FenceEffects : Prop :=
  (∀ (a : Acc) (die : Nat) (v : Word) (s : State), s.pkg.leaves a.req → die < 15 →
    (s.pkg.accessErr a.req (pkgAddr die oSgFence) = 0 → die = a.req.die → ∃ t, exec (.sgFence a die v) s = .next t ∧
      t.pkg.reqSt a.req = (if (s.pkg.reqSt a.req).unacked = [] then { s.pkg.reqSt a.req with done := ((s.pkg.reqSt a.req).done + 1) % 65536 }
        else { s.pkg.reqSt a.req with done := (s.pkg.reqSt a.req).done % 65536
                                      fences := [{ covers := (s.pkg.reqSt a.req).unacked.map (·.id), opened := max s.pkg.now (ns a.at_) }] }) ∧
      Frame s t [] []) ∧
    (s.pkg.accessErr a.req (pkgAddr die oSgFence) = 0 → die ≠ a.req.die → ∃ t, exec (.sgFence a die v) s = .next t ∧
      t.pkg.reqSt a.req = s.pkg.reqSt a.req ∧ MerrRecorded s t a.req eFenceRemote true (pkgAddr die oSgFence)) ∧
    (s.pkg.accessErr a.req (pkgAddr die oSgFence) ≠ 0 → ∃ t, exec (.sgFence a die v) s = .next t ∧
      t.pkg.reqSt a.req = s.pkg.reqSt a.req ∧
      MerrRecorded s t a.req (s.pkg.accessErr a.req (pkgAddr die oSgFence)) true (pkgAddr die oSgFence))) ∧
  (∀ (a : Acc) (die : Nat) (s : State), s.pkg.leaves a.req → die < 15 →
    (s.pkg.accessErr a.req (pkgAddr die oSgFenceWait) = 0 → die = a.req.die → ∃ t, exec (.sgFenceWait a die) s = .next t ∧
      (s.pkg.out ++ [.reply a.req (pkgAddr die oSgFenceWait)
        (BitVec.ofNat 32 ((s.pkg.reqSt a.req).done + bit (s.pkg.reqSt a.req).timedOut * 2 ^ 31))]) <+: t.pkg.out ∧
      t.pkg.reqSt a.req = s.pkg.reqSt a.req ∧ Frame s t [] []) ∧
    (s.pkg.accessErr a.req (pkgAddr die oSgFenceWait) = 0 → die ≠ a.req.die → ∃ t, exec (.sgFenceWait a die) s = .next t ∧
      (s.pkg.out ++ [.reply a.req (pkgAddr die oSgFenceWait) 0xFFFFFFFF#32]) <+: t.pkg.out ∧ t.pkg.reqSt a.req = s.pkg.reqSt a.req ∧
      MerrRecorded s t a.req eFenceRemote false (pkgAddr die oSgFenceWait)) ∧
    (s.pkg.accessErr a.req (pkgAddr die oSgFenceWait) ≠ 0 → ∃ t, exec (.sgFenceWait a die) s = .next t ∧
      (s.pkg.out ++ [.reply a.req (pkgAddr die oSgFenceWait) 0xFFFFFFFF#32]) <+: t.pkg.out ∧ t.pkg.reqSt a.req = s.pkg.reqSt a.req ∧
      MerrRecorded s t a.req (s.pkg.accessErr a.req (pkgAddr die oSgFenceWait)) false (pkgAddr die oSgFenceWait))) ∧
  (∀ (r : Req) (f : Fence) (l : List Fence) (s : State), (s.pkg.reqSt r).fences = f :: l →
    ((s.pkg.reqSt r).held = [] ∨ l ≠ []) → ∃ t, exec (.fenceTimeout r) s = .next t ∧
      t.pkg.reqSt r = { s.pkg.reqSt r with fences := l, done := ((s.pkg.reqSt r).done + 1) % 65536, timedOut := true } ∧
      MerrRecorded s t r eFenceTimeout true (pkgAddr r.die oSgFence) ∧ t.pkg.now = max s.pkg.now (f.opened + ns 100000)) ∧
  (∀ (a : Acc) (die : Nat) (v : Word) (s : State), s.pkg.mayIssue a.req = true → die < 15 → (s.pkg.reqSt a.req).fences ≠ [] →
    (∃ t, exec (.sgFence a die v) s = .next t ∧ t.pkg.reqSt a.req = { s.pkg.reqSt a.req with
      held := (s.pkg.reqSt a.req).held ++ [{ req := a.req, addr := pkgAddr die oSgFence, kind := .write v 15 }] } ∧ Frame s t [] []) ∧
    (∃ t, exec (.sgFenceWait a die) s = .next t ∧ t.pkg.reqSt a.req = { s.pkg.reqSt a.req with
      held := (s.pkg.reqSt a.req).held ++ [{ req := a.req, addr := pkgAddr die oSgFenceWait, kind := .read .returns }] } ∧ Frame s t [] [])) ∧
  (∀ (a : Acc) (addr : Nat) (v : Word) (be : Nat) (s : State), s.pkg.mayIssue a.req = true →
    ((s.pkg.reqSt a.req).fences ≠ [] ∨ 64 ≤ (s.pkg.reqSt a.req).unacked.length ∨ (s.pkg.reqSt a.req).held ≠ []) →
    ∃ t, exec (.registerWrite a addr v be) s = .next t ∧
      t.pkg.reqSt a.req = { s.pkg.reqSt a.req with held := (s.pkg.reqSt a.req).held ++ [{ req := a.req, addr := addr, kind := .write v be }] } ∧
      Frame s t [] [])

/-- WRITE_ACK of a write that its target has applied takes it off the unacknowledged writes and out of every fence that covered it; a fence left with
nothing to wait for completes. TARGET_TIMEOUT does the same 100 µs after the write left, records TARGET_TIMEOUT, and a fence that covered the write and so
completes sets the timeout flag. TARGET_TIMEOUT of a read whose data has not come back answers it with all ones and records the error. The time
of a write that still waits at its target's port does not count: neither command ends it. Here nothing is held behind the write, or another fence still
stands. -/
def Obligations.WriteEndEffects : Prop :=
  ∀ (r : Req) (id : Nat) (s : State),
    (∀ (w : OutWrite) (at_ : Nat), (s.pkg.reqSt r).unacked.find? (fun w => w.id == id) = some w → w.atPort = false →
      ((s.pkg.reqSt r).held = [] ∨ ∃ f ∈ (s.pkg.reqSt r).fences, ∃ x ∈ f.covers, x ≠ id) →
      (∃ t, exec (.writeAck r id at_) s = .next t ∧
        t.pkg.reqSt r = (s.pkg.reqSt r).acked id false ∧
        (t.pkg.reqSt r).unacked = (s.pkg.reqSt r).unacked.filter (fun w => w.id != id) ∧
        (∀ f ∈ (t.pkg.reqSt r).fences, id ∉ f.covers ∧ f.covers ≠ []) ∧
        ((s.pkg.reqSt r).fences = [] → (t.pkg.reqSt r).done = (s.pkg.reqSt r).done % 65536) ∧
        (∀ f, (s.pkg.reqSt r).fences = [f] → f.covers = [id] → f.bad = false →
          (t.pkg.reqSt r).fences = [] ∧ (t.pkg.reqSt r).done = ((s.pkg.reqSt r).done + 1) % 65536 ∧
          (t.pkg.reqSt r).timedOut = (s.pkg.reqSt r).timedOut) ∧
        Frame s t [] []) ∧
      ((s.pkg.reqSt r).lost.find? (fun w => w.id == id) = none → ∃ t, exec (.targetTimeout r id) s = .next t ∧
        t.pkg.reqSt r = (s.pkg.reqSt r).acked id true ∧
        (t.pkg.reqSt r).unacked = (s.pkg.reqSt r).unacked.filter (fun w => w.id != id) ∧
        (∀ f ∈ (t.pkg.reqSt r).fences, id ∉ f.covers ∧ f.covers ≠ []) ∧
        (∀ f, (s.pkg.reqSt r).fences = [f] → f.covers = [id] →
          (t.pkg.reqSt r).fences = [] ∧ (t.pkg.reqSt r).done = ((s.pkg.reqSt r).done + 1) % 65536 ∧ (t.pkg.reqSt r).timedOut = true) ∧
        MerrRecorded s t r eTargetTimeout true w.addr ∧ t.pkg.now = max s.pkg.now (w.sent + ns 100000))) ∧
    (∀ (w : LostRead), (s.pkg.reqSt r).lost.find? (fun w => w.id == id) = some w → ∃ t, exec (.targetTimeout r id) s = .next t ∧
      (s.pkg.out ++ [.reply r w.addr 0xFFFFFFFF#32]) <+: t.pkg.out ∧
      t.pkg.reqSt r = { s.pkg.reqSt r with lost := (s.pkg.reqSt r).lost.filter (fun x => x.id != id) } ∧
      MerrRecorded s t r eTargetTimeout false w.addr ∧ t.pkg.now = max s.pkg.now (w.sent + ns 100000)) ∧
    (∀ at_ : Nat, (∀ w, (s.pkg.reqSt r).unacked.find? (fun w => w.id == id) = some w → w.atPort = true) →
      (∃ t, exec (.writeAck r id at_) s = .next t ∧ t.pkg.hidden = s.pkg.hidden ∧ Frame s t [] []) ∧
      ((s.pkg.reqSt r).lost.find? (fun w => w.id == id) = none →
        ∃ t, exec (.targetTimeout r id) s = .next t ∧ t.pkg.hidden = s.pkg.hidden ∧ Frame s t [] []))

/-- A flit that fails its CRC on a span that is UP counts one replay at its port and nothing else. A span that goes DOWN with no cells in flight has both
its ports DOWN, out of service, each counting the transition. A span that is DOWN, or trains, stands 1 at both ends 1 ms later at the earliest. A span that
comes UP stands 2 at both ends, and is in service where it has not been DOWN and the tile has taken no commit yet. -/
def Obligations.SpanEffects : Prop :=
  ∀ (tile span d q at_ : Nat) (s : State), spanPeer s.pkg.variant tile span = some (d, q) → s.pkg.tileOn tile = true →
    (s.pkg.spanState tile span = 2 →
      Runs (.flitCrcFail tile span at_) s (fun t =>
        t.pkg.cnt tile (oSpanRetry + span * 0x40) = s.pkg.cnt tile (oSpanRetry + span * 0x40) + 1 ∧
        t.pkg.hidden = s.pkg.hidden ∧ Frame s t [] [pkgAddr tile (oSpanRetry + span * 0x40)]) ∧
      (s.noEthWaits → Runs (.spanDown tile span [] at_) s (fun t =>
        t.pkg.spanState tile span = 3 ∧ t.pkg.spanState d q = 3 ∧
        (t.pkg.spanSt tile span).inServ = false ∧ (t.pkg.spanSt d q).inServ = false ∧
        t.pkg.cnt tile (oSpanDownCnt + span * 0x40) = s.pkg.cnt tile (oSpanDownCnt + span * 0x40) + 1 ∧
        t.pkg.cnt d (oSpanDownCnt + q * 0x40) = s.pkg.cnt d (oSpanDownCnt + q * 0x40) + 1))) ∧
    ((s.pkg.spanState tile span = 3 ∨ s.pkg.spanState tile span = 1) →
      Runs (.spanRetrain tile span) s (fun t =>
        t.pkg.spanState tile span = 1 ∧ t.pkg.spanState d q = 1 ∧ (s.pkg.spanSt tile span).mark + ns 1000000 ≤ t.pkg.now ∧
        Frame s t [pkgAddr tile (0x100 + span * 0x40), pkgAddr d (0x100 + q * 0x40)] [])) ∧
    (s.pkg.spanState tile span ≠ 2 →
      Runs (.spanUp tile span at_) s (fun t =>
        t.pkg.spanState tile span = 2 ∧ t.pkg.spanState d q = 2 ∧
        (t.pkg.spanSt tile span).inServ = (s.pkg.get tile fEpoch == 0 && !(s.pkg.spanSt tile span).fell) ∧
        (t.pkg.spanSt d q).inServ = (s.pkg.get d fEpoch == 0 && !(s.pkg.spanSt d q).fell) ∧
        Frame s t [pkgAddr tile (0x100 + span * 0x40), pkgAddr d (0x100 + q * 0x40)] []))

/-- A heartbeat slot of a tether clears or advances the run of missing heartbeats of its direction. With three missing in a row a tether that is UP goes
DOWN; if it carried the traffic and the other tether is UP, the other one carries it; with no tether UP in RUN the package is DEGRADED with REASON 21.
A DOWN tether retrains 1 ms later at the earliest. With three heartbeats in a row each way it is UP, and carries the traffic if no other tether is UP. -/
def Obligations.TetherEffects : Prop :=
  ∀ (x at_ : Nat) (s : State), s.pkg.tetherThere x = true →
    (∀ arrived : Bool, s.noEthWaits →
      Runs (.tetherHeartbeat x true arrived at_) s (fun t =>
        (t.pkg.tetherSt x).missTo = (if arrived then 0 else (s.pkg.tetherSt x).missTo + 1) ∧ (t.pkg.tetherSt x).missFrom = (s.pkg.tetherSt x).missFrom ∧
        Frame s t [] []) ∧
      Runs (.tetherHeartbeat x false arrived at_) s (fun t =>
        (t.pkg.tetherSt x).missFrom = (if arrived then 0 else (s.pkg.tetherSt x).missFrom + 1) ∧ (t.pkg.tetherSt x).missTo = (s.pkg.tetherSt x).missTo ∧
        Frame s t [] [])) ∧
    (s.pkg.tetherUp x = true → (3 ≤ (s.pkg.tetherSt x).missTo ∨ 3 ≤ (s.pkg.tetherSt x).missFrom) → s.noEthWaits →
      Runs (.tetherDown x at_) s (fun t =>
        t.pkg.tetherUp x = false ∧
        (s.pkg.tether = x → s.pkg.tetherThere (1 - x) = true → s.pkg.tetherUp (1 - x) = true → t.pkg.tether = 1 - x ∧ Frame s t [] []) ∧
        (s.pkg.tetherUp (1 - x) = false → s.pkg.modeNow = mRun → t.pkg.modeNow = mDegraded ∧ t.pkg.get 15 fReason = 21))) ∧
    (s.pkg.tetherUp x = false →
      Runs (.tetherRetrain x) s (fun t =>
        t.pkg.tetherUp x = false ∧ (s.pkg.tetherSt x).mark + ns 1000000 ≤ t.pkg.now ∧ (t.pkg.tetherSt x).mark = t.pkg.now ∧ Frame s t [] []) ∧
      (3 ≤ (s.pkg.tetherSt x).goodTo → 3 ≤ (s.pkg.tetherSt x).goodFrom → s.noEthWaits →
        Runs (.tetherUp x at_) s (fun t =>
          t.pkg.tetherUp x = true ∧ (s.pkg.tetherUp (1 - x) = false → t.pkg.tether = x) ∧ Frame s t [] [])))

/-- A time beat of a tile in service writes the measured offset to TM_OFFSET and the beat's span to PATH and, where the offset is at most 2 ns either
way, sets LOCKED; the second in a row above 2 ns sets SKEW_FAULT, clears LOCKED and counts, and the tile goes on counting as it did (that each further one
does so again is the model's reading, log entry 25). A tether alignment in RUN that leaves an error of at most 20 ns leaves the sentinel's count that far
from the reference's where the count was behind it; one that was ahead stands, and the difference is to be absorbed. A read of the low word of a counter
pair answers the low word and latches the high word; one that covers both words answers the latched high word next; one of TM_NOW latches the rest of the
count. -/
def Obligations.TimeEffects : Prop :=
  (∀ (tile at_ : Nat) (offset : Int) (s : State), s.pkg.inService tile = true → tile ≠ s.pkg.ref → s.pkg.pairUp tile s.pkg.ref = true →
    Runs (.timeBeat tile offset at_) s (fun t =>
      t.pkg.rd tile 0x100010 = toWord offset ∧ t.pkg.get tile fTimePath = s.pkg.beatPort tile % 16 ∧
      (offset.natAbs ≤ 131072 → t.pkg.on tile fLocked = true ∧ (t.pkg.clockSt tile).overs = 0) ∧
      (131072 < offset.natAbs → (t.pkg.clockSt tile).overs = (s.pkg.clockSt tile).overs + 1) ∧
      (131072 < offset.natAbs → (s.pkg.clockSt tile).overs = 0 →
        t.pkg.on tile fSkewFault = s.pkg.on tile fSkewFault ∧ t.pkg.on tile fLocked = s.pkg.on tile fLocked ∧
        t.pkg.cnt tile oSkewFaults = s.pkg.cnt tile oSkewFaults) ∧
      (131072 < offset.natAbs → 1 ≤ (s.pkg.clockSt tile).overs →
        t.pkg.on tile fSkewFault = true ∧ t.pkg.on tile fLocked = false ∧ t.pkg.cnt tile oSkewFaults = s.pkg.cnt tile oSkewFaults + 1 ∧
        (t.pkg.clockSt tile).off = (s.pkg.clockSt tile).off) ∧
      WordsKept s.pkg t.pkg [pkgAddr tile 0x100010, pkgAddr tile 0x10000C] ∧ CountsKept s.pkg t.pkg [pkgAddr tile oSkewFaults])) ∧
  (∀ (err : Int) (at_ : Nat) (s : State), s.pkg.tetherTile.isSome = true → s.pkg.modeNow = mRun → err.natAbs ≤ 20 →
    let goal : Int := (s.pkg.reach at_).count s.pkg.ref + err * 65536
    (((s.pkg.reach at_).count 15 : Int) ≤ goal → Runs (.tetherTimeAlign err at_) s (fun t => (t.pkg.count 15 : Int) = goal ∧ Frame s t [] [])) ∧
    (goal < ((s.pkg.reach at_).count 15 : Int) → Runs (.tetherTimeAlign err at_) s (fun t =>
      t.pkg.count 15 = (s.pkg.reach at_).count 15 ∧ ((t.pkg.clockSt 15).slow : Int) = (s.pkg.reach at_).count 15 - goal ∧ Frame s t [] []))) ∧
  (∀ (a : Acc) (die off : Nat) (s : State), s.pkg.leaves a.req → die < 16 → off < 2 ^ 26 → off % 4 = 0 → isFence die off = false →
    s.pkg.accessErr a.req (pkgAddr die off) = 0 → s.pkg.queueAt die = [] →
    (pairLow die off = some off → off ≠ oTmNow → off ≠ oTxtsInfo → (die = 15 ∨ podCommand off = none) →
      let shown := (s.pkg.reach a.at_).pairShown (shownDie die off) off
      let low := OutEv.reply a.req (pkgAddr die off) (BitVec.ofNat 32 shown.toNat)
      let high := BitVec.ofNat 32 (shown.toNat / 2 ^ 32)
      Runs (.lowWordRead a ⟨pkgAddr die off, .returns, false⟩) s (fun t =>
        (s.pkg.out ++ [low]) <+: t.pkg.out ∧ SMap.get 0 t.pkg.latch (pkgAddr die (off + 4)) = high ∧ Frame s t [] []) ∧
      (s.pkg.accessErr a.req (pkgAddr die (off + 4)) = 0 → pairLow die (off + 4) = some off → off + 4 ≠ oTmNow → off + 4 ≠ oTxtsInfo →
        isFence die (off + 4) = false → (die = 15 ∨ podCommand (off + 4) = none) → off + 4 < 2 ^ 26 →
        Runs (.lowWordRead a ⟨pkgAddr die off, .returns, true⟩) s (fun t =>
          (∃ x, (s.pkg.out ++ [low] ++ x ++ [.reply a.req (pkgAddr die (off + 4)) high]) <+: t.pkg.out) ∧ Frame s t [] [])) ∧
      Runs (.lowWordRead a ⟨pkgAddr die off, .silent, false⟩) s (fun t =>
        (t.pkg.reqSt a.req).lost = (s.pkg.reqSt a.req).lost ++
          [{ id := (s.pkg.reqSt a.req).nextId, addr := pkgAddr die off, sent := max s.pkg.now (ns a.at_) }] ∧ Frame s t [] [])) ∧
    (die ≠ 15 → off = oTmNow →
      let count := (s.pkg.reach a.at_).count die
      Runs (.lowWordRead a ⟨pkgAddr die off, .returns, false⟩) s (fun t =>
        (s.pkg.out ++ [.reply a.req (pkgAddr die off) (BitVec.ofNat 32 (count / 65536))]) <+: t.pkg.out ∧
        t.pkg.rd die 0x100004 = BitVec.ofNat 32 (count / 65536 / 2 ^ 32) ∧ t.pkg.rd die 0x100008 = BitVec.ofNat 32 (count % 65536) ∧
        Frame s t [pkgAddr die 0x100004, pkgAddr die 0x100008] [])))

/-- SI_KS_REQUEST.GO on an IDLE coordinator fixes T_c at KS_LEAD from now, or at SI_KS_AT where AT_VALID names no earlier instant, takes every tile in
service into the commit and puts the coordinator into PENDING; on a coordinator that is not IDLE it starts nothing and is a configuration error. PREPARE
puts a tile into PENDING with the commit's T_c and epoch, and an unlocked tile answers NOT_READY. At the drain's start the tile is DRAINING; an empty tile
then reports its drain once, and SI_DRAIN_MAX keeps the longest. DRAINED of the last tile, with none not ready, makes the decision CONFIRM; one that comes
later than T_c less 250 ns changes nothing. -/
def Obligations.CommitRequestAndDrain : Prop :=
  ∀ (tile at_ : Nat) (s : State), tile < 7 →
    (∀ (a : Acc) (v : Word), s.pkg.reaches a.req tile 0x200020 v → v.getLsbD 0 = true → tile = s.pkg.steward →
      (s.pkg.ksState tile = 0 → Runs (.ksRequest a tile v) s (fun t =>
        t.pkg.ks.active = true ∧ t.pkg.ks.tile = tile ∧ t.pkg.ks.dec = none ∧ t.pkg.ks.tiles = s.pkg.serving ∧
        t.pkg.ks.epoch = ((s.pkg.rd tile 0x200010).toNat + 1) % 2 ^ 32 ∧
        t.pkg.ks.tc = max (if v.getLsbD 1 then s.pkg.rd64 tile oKsAt else 0) ((s.pkg.reach a.at_).countNs tile + 1000 * s.pkg.get tile fKsLead) ∧
        t.pkg.ksState tile = 1 ∧ (t.pkg.ksT tile).tc = t.pkg.ks.tc ∧ Frame s t [pkgAddr tile 0x200030] [])) ∧
      (s.pkg.ksState tile ≠ 0 → Runs (.ksRequest a tile v) s (fun t =>
        t.pkg.ks = s.pkg.ks ∧ t.pkg.cnt tile (cfgErrCnt tile) = s.pkg.cnt tile (cfgErrCnt tile) + 1 ∧
        Frame s t [pkgAddr tile (cfgErrOff tile), pkgAddr tile (cfgErrOff tile + 4)] [pkgAddr tile (cfgErrCnt tile)]))) ∧
    (s.pkg.ks.active = true → tile ∈ s.pkg.ks.tiles → tile ∉ s.pkg.ks.answered → s.pkg.inService tile = true → s.pkg.pairUp s.pkg.ks.tile tile = true →
      Runs (.prepare tile at_) s (fun t =>
        t.pkg.ksState tile = 1 ∧ (t.pkg.ksT tile).tc = s.pkg.ks.tc ∧ (t.pkg.ksT tile).epoch = s.pkg.ks.epoch ∧ (t.pkg.ksT tile).dec = none ∧
        tile ∈ t.pkg.ks.answered ∧ (s.pkg.on tile fLocked = false → tile ∈ t.pkg.ks.notReady) ∧ Frame s t [pkgAddr tile 0x200030] [])) ∧
    (s.pkg.inService tile = true → s.pkg.ksState tile = 1 →
      Runs (.drainStart tile) s (fun t =>
        t.pkg.ksState tile = 2 ∧ (t.pkg.ksT tile).drainAt = t.pkg.now ∧
        t.pkg.now = (s.pkg.reachCount tile ((s.pkg.ksT tile).tc - 1000 * s.pkg.get s.pkg.ks.tile fKsDrain)).now ∧
        Frame s t [pkgAddr tile 0x200030] [])) ∧
    (s.pkg.inService tile = true → s.pkg.ksState tile = 2 → s.pkg.drainEmpty tile = true → (s.pkg.ksT tile).drained = false →
      Runs (.drainComplete tile at_) s (fun t =>
        (t.pkg.ksT tile).drained = true ∧
        t.pkg.get tile fDrainMax = max (s.pkg.get tile fDrainMax) (min ((max s.pkg.now (ns at_) - (s.pkg.ksT tile).drainAt) / 65536) 65535) ∧
        Frame s t [pkgAddr tile 0x200048] [])) ∧
    (s.pkg.ks.active = true → tile ∈ s.pkg.ks.tiles → s.pkg.ks.dec = none → (s.pkg.ksT tile).drained = true → tile ∉ s.pkg.ks.drained →
      s.pkg.pairUp s.pkg.ks.tile tile = true → s.calm →
      ((s.pkg.reach at_).countNs s.pkg.ks.tile + 250 ≤ s.pkg.ks.tc → Runs (.drained tile at_) s (fun t =>
        t.pkg.ks.drained = tile :: s.pkg.ks.drained ∧
        t.pkg.ks.dec = (if (∀ x ∈ s.pkg.ks.tiles, x = tile ∨ x ∈ s.pkg.ks.drained) ∧ s.pkg.ks.notReady = [] then some .confirm else none) ∧
        Frame s t [] [])) ∧
      (s.pkg.ks.tc < (s.pkg.reach at_).countNs s.pkg.ks.tile + 250 → Runs (.drained tile at_) s (fun t => t.pkg.ks = s.pkg.ks ∧ Frame s t [] [])))

/-- At T_c less 250 ns a coordinator with no decision decides to abort: with TILE_LOST (3) where a tile has not answered PREPARE, else NOT_READY (2), else
DRAIN_TIMEOUT (1). The decision is repeated 1 µs after it was last sent. The standby's acknowledgement counts for itself and for the coordinator, which
then takes the decision as its own. A decision that reaches a tile before T_c is kept for it; one that reaches a HELD tile aborts there at once and
counts SI_KS_LATE. -/
def Obligations.CommitDecision : Prop :=
  ∀ (tile at_ : Nat) (s : State), tile < 7 → s.pkg.ks.active = true → s.calm →
    (s.pkg.ks.dec = none →
      Runs .ksDeadline s (fun t =>
        t.pkg.ks.dec = some (.abort (if ∃ x ∈ s.pkg.ks.tiles, x ∉ s.pkg.ks.answered then 3 else if s.pkg.ks.notReady = [] then 1 else 2)) ∧
        t.pkg.now = (s.pkg.reachCount s.pkg.ks.tile (s.pkg.ks.tc - 250)).now ∧ Frame s t [] [])) ∧
    (s.pkg.ks.dec ≠ none → (∃ x ∈ s.pkg.ks.tiles, x ∉ s.pkg.ks.acked) →
      Runs .decisionRepeat s (fun t =>
        s.pkg.ks.lastSent + ns 1000 ≤ t.pkg.now ∧ t.pkg.ks.lastSent = t.pkg.now ∧ t.pkg.ks.dec = s.pkg.ks.dec ∧ Frame s t [] [])) ∧
    (∀ d : Decision, s.pkg.mayReceive tile = true → s.pkg.ks.dec = some d →
      ((s.pkg.ksT tile).dec = some d → s.pkg.ks.tile ≠ tile → s.pkg.standby = some tile → s.pkg.ks.stdbyAck = false →
        (s.pkg.ksState s.pkg.ks.tile = 1 ∨ s.pkg.ksState s.pkg.ks.tile = 2) →
        Runs (.decisionAck tile at_) s (fun t =>
          t.pkg.ks.stdbyAck = true ∧ tile ∈ t.pkg.ks.acked ∧ s.pkg.ks.tile ∈ t.pkg.ks.acked ∧ (t.pkg.ksT s.pkg.ks.tile).dec = some d ∧ Frame s t [] [])) ∧
      ((s.pkg.ksState tile = 1 ∨ s.pkg.ksState tile = 2) →
        (d = .confirm → Runs (.confirm tile at_) s (fun t => (t.pkg.ksT tile).dec = some .confirm ∧ Frame s t [] [])) ∧
        (d ≠ .confirm → Runs (.abort tile at_) s (fun t => (t.pkg.ksT tile).dec = some d ∧ Frame s t [] []))) ∧
      (∀ r, s.pkg.ksState tile = 3 → d = .abort r → (s.pkg.ksT tile).staged = [] → (∀ w ∈ s.pkg.sw.waitIn, w.tile ≠ tile) →
        Runs (.abort tile at_) s (fun t =>
          t.pkg.ksState tile = 0 ∧ t.pkg.on tile fKsAborted = true ∧ t.pkg.get tile fKsReason = r % 16 ∧
          t.pkg.cnt tile oKsAborts = s.pkg.cnt tile oKsAborts + 1 ∧ t.pkg.cnt tile oKsLate = s.pkg.cnt tile oKsLate + 1 ∧
          Frame s t [pkgAddr tile 0x200030] [pkgAddr tile oLastTc, pkgAddr tile oKsAborts, pkgAddr tile oKsLate])))

/-- At T_c a tile with no decision enters HELD; one with CONFIRM commits: it is IDLE with BANK_SYNC set, its epoch is the one PREPARE carried, and
SI_KS_LAST_TC is its T_c. The end of the bank copy clears BANK_SYNC. The last acknowledgement of a commit sets DONE on the coordinator and ends the sequence. A
tile that has acknowledged no decision in its time (of a coordinator: log entry 94) is lost: it is no longer in service and leaves the commit, RUN
becomes DEGRADED with REASON TILE_LOST, and from tile 0 steward, trestle and time reference move to tile 1; tile 1 goes on for a lost coordinator with the
decision it holds, or aborts with TILE_LOST. A tile that does not fail so is not lost. -/
def Obligations.CommitTakesEffect : Prop :=
  ∀ (tile at_ : Nat) (s : State), tile < 7 → s.calm →
    (s.pkg.inService tile = true → (s.pkg.ksState tile = 1 ∨ s.pkg.ksState tile = 2) →
      ((s.pkg.ksT tile).dec = none → Runs (.ksCommit tile) s (fun t =>
        t.pkg.ksState tile = 3 ∧ t.pkg.now = (s.pkg.reachCount tile (s.pkg.ksT tile).tc).now ∧ Frame s t [pkgAddr tile 0x200030] [])) ∧
      ((s.pkg.ksT tile).dec = some .confirm → tile ≠ s.pkg.ks.tile → (∀ w ∈ s.pkg.sw.waitIn, w.tile ≠ tile) → Runs (.ksCommit tile) s (fun t =>
        t.pkg.ksState tile = 0 ∧ t.pkg.get tile fEpoch = (s.pkg.ksT tile).epoch % 2 ^ 32 ∧ t.pkg.on tile fBankSync = true ∧
        t.pkg.cnt tile oLastTc = BitVec.ofNat 64 (s.pkg.ksT tile).tc))) ∧
    (s.pkg.tileOn tile = true → s.pkg.on tile fBankSync = true → (s.pkg.ksT tile).staged = [] →
      Runs (.bankCopyDone tile at_) s (fun t =>
        t.pkg.on tile fBankSync = false ∧ t.pkg.ksState tile = s.pkg.ksState tile ∧ Frame s t [pkgAddr tile 0x200030] [])) ∧
    (s.pkg.ks.active = true → tile ∈ s.pkg.ks.tiles → s.pkg.ksState tile = 0 → s.pkg.ks.dec = some .confirm → s.pkg.get tile fEpoch = s.pkg.ks.epoch →
      s.pkg.pairUp s.pkg.ks.tile tile = true →
      Runs (.commitAck tile at_) s (fun t =>
        (t.pkg.ks.active = false ↔ ∀ x ∈ s.pkg.ks.tiles, x = tile ∨ x ∈ s.pkg.ks.done) ∧
        (t.pkg.ks.active = false → t.pkg.on s.pkg.ks.tile fKsDone = true) ∧ Frame s t [pkgAddr s.pkg.ks.tile 0x200030] [])) ∧
    (s.pkg.inService tile = true → s.pkg.modeNow = mRun → (s.pkg.reach at_).unanswering tile = true → (s.pkg.trestle 1).ready = [] →
      (tile ≠ s.pkg.ks.tile → (s.pkg.ks.stdbyAck = true ∨ tile ≠ 1) → Runs (.tileLost tile at_) s (fun t =>
        t.pkg.inService tile = false ∧ t.pkg.ks.tiles = s.pkg.ks.tiles.filter (· != tile) ∧ t.pkg.ks.dec = s.pkg.ks.dec ∧
        (tile = 0 → 2 ≤ s.pkg.variant.tiles → s.pkg.steward = 0 → t.pkg.steward = 1) ∧
        (tile = 0 → 2 ≤ s.pkg.variant.tiles → s.pkg.ref = 0 → t.pkg.ref = 1) ∧ t.pkg.modeNow = mDegraded ∧ t.pkg.get 15 fReason = 10 ∧
        (tile ≠ s.pkg.steward → Frame s t [pkgAddr 15 0x60000, pkgAddr s.pkg.ks.tile 0x200030] [pkgAddr 15 oLastChange, pkgAddr 15 oTransitions]))) ∧
      (tile = s.pkg.ks.tile → s.pkg.inService 1 = true → tile ≠ 1 → (s.pkg.ksState 1 = 1 ∨ s.pkg.ksState 1 = 2) → Runs (.tileLost tile at_) s (fun t =>
        t.pkg.inService tile = false ∧ t.pkg.ks.tile = 1 ∧ t.pkg.ks.dec = some ((s.pkg.ksT 1).held.getD (.abort 3)) ∧
        (t.pkg.ksT 1).dec = t.pkg.ks.dec ∧
        (tile = 0 → 2 ≤ s.pkg.variant.tiles → s.pkg.steward = 0 → t.pkg.steward = 1) ∧
        (tile = 0 → 2 ≤ s.pkg.variant.tiles → s.pkg.ref = 0 → t.pkg.ref = 1) ∧ t.pkg.modeNow = mDegraded ∧ t.pkg.get 15 fReason = 10))) ∧
    ((s.pkg.reach at_).unanswering tile = false → Runs (.tileLost tile at_) s (fun t =>
      t.pkg.inService tile = s.pkg.inService tile ∧ t.pkg.ks = s.pkg.ks ∧ Frame s t [] []))

/-- When a die takes its shadow copies, every word of it takes the shadow's value in its keystone bits and keeps its other bits, the shadow then equals
the copy in effect, and no word of another die changes. The premise is the form the shadow map always has: each address once, within the package. -/
def Obligations.ShadowsTakeEffect : Prop :=
  ∀ (p : Pkg) (die off : Nat), die < 16 → off < 2 ^ 26 → (p.shadow.map Prod.fst).Nodup → (∀ e ∈ p.shadow, e.1 < 2 ^ 30) →
    (p.takeShadows die).rd die off = (p.rd die off &&& ~~~ keystoneMask die off) ||| (p.rdShadow die off &&& keystoneMask die off) ∧
    (p.takeShadows die).rdShadow die off = (p.takeShadows die).rd die off ∧
    (∀ d o, d < 16 → o < 2 ^ 26 → d ≠ die → (p.takeShadows die).rd d o = p.rd d o ∧ (p.takeShadows die).rdShadow d o = p.rdShadow d o)

/-- At a port with a MAC whose link is up, for a whole frame: one that is too long, has a bad FCS (on a port that does not cut through) or is too short is
counted by its reason on the tile and the port, and nothing else happens. A good frame that is no MAC control frame, on a port without MACsec, draws
its cells from its account, of the class its outermost tag names, or is discarded as INGRESS_OVERRUN (19); on a tile that admits nothing it then waits ahead
of the parser with its bytes. Writers that come after its port in the rotation of this clock may have given shared cells back before. With the merge
sublayer on, a fragment that starts a frame is kept for reassembly, and one that continues nothing is counted. -/
def Obligations.FrameReceiveEffects : Prop :=
  ∀ (tile port at_ : Nat) (f : RxFrame) (s : State), tile < 7 → port < 28 → s.pkg.inService tile = true → s.pkg.hasPort tile port = true →
    s.pkg.linkUp tile port = true → macPort tile port = true → s.noEthWaits →
    ((port < 16 → f.part = .express) →
      let cells := cellsOf (f.bytes.length + 4)
      let cls := arrivalClass port f
      let p := (s.pkg.reach at_).takeTurn tile port cls cells
      let xoffs := (List.range 28).map (fun x => pkgAddr tile (fXoffTx x).off)
      let pauses := (List.range 28).map (fun x => pkgAddr tile (oPauseTx x))
      (s.pkg.macFault tile port f ≠ 0 → (s.pkg.macFault tile port f = 1 → s.pkg.mayCutIn tile port = false) →
        Runs (.frameReceive tile port f at_) s (fun t =>
          t.pkg.cnt tile (oDisc (s.pkg.macFault tile port f)) = s.pkg.cnt tile (oDisc (s.pkg.macFault tile port f)) + 1 ∧
          t.pkg.cnt tile (oRxDisc port) = s.pkg.cnt tile (oRxDisc port) + 1 ∧ t.pkg.sw = s.pkg.sw ∧
          Frame s t [] [pkgAddr tile (oDisc (s.pkg.macFault tile port f)), pkgAddr tile (oRxDisc port)])) ∧
      (s.pkg.macFault tile port f = 0 → beAt f.bytes 12 2 ≠ 0x8808 → (port < 16 → s.pkg.on tile (fRxMsEnable port) = false) →
        (∀ e ∈ ((s.pkg.reach at_).drawTurn tile).drew, (s.pkg.frame e.2).charge.port < 28) →
        (p.drawable tile port cls cells = none →
          Runs (.frameReceive tile port f at_) s (fun t =>
            t.pkg.cnt tile (oDisc 19) = s.pkg.cnt tile (oDisc 19) + 1 ∧ t.pkg.cnt tile (oRxDisc port) = s.pkg.cnt tile (oRxDisc port) + 1 ∧
            t.pkg.sw = p.sw ∧ (((s.pkg.reach at_).drawTurn tile).drew = [] → t.pkg.sw = s.pkg.sw) ∧
            Frame s t xoffs ([pkgAddr tile (oDisc 19), pkgAddr tile (oRxDisc port)] ++ pauses))) ∧
        (∀ d, p.drawable tile port cls cells = some d → s.pkg.admits tile = false →
          Runs (.frameReceive tile port f at_) s (fun t =>
            (t.pkg.acct tile port cls).occ = (p.acct tile port cls).occ + cells ∧
            (((s.pkg.reach at_).drawTurn tile).drew = [] → (t.pkg.acct tile port cls).occ = (s.pkg.acct tile port cls).occ + cells) ∧
            (∃ w, t.pkg.sw.waitIn = s.pkg.sw.waitIn ++ [w] ∧ w.tile = tile ∧ w.port = port ∧ w.bytes = f.bytes ∧ w.bad = false ∧
              (t.pkg.frame w.frame).cells = cells) ∧
            Frame s t xoffs pauses)))) ∧
    (∀ n, port < 16 → f.part = .start n false → s.pkg.on tile (fMergeEn port) = true → (s.pkg.port tile port).asm = none →
      Runs (.frameReceive tile port f at_) s (fun t =>
        (f.fcsOk = true → (∃ x, (t.pkg.port tile port).asm = some x ∧ x.frame = n ∧ x.next = 0 ∧ x.bytes = f.bytes ∧ x.parts = 1) ∧ Frame s t [] []) ∧
        (f.fcsOk = false → t.pkg.cnt tile (oAssyErr port) = s.pkg.cnt tile (oAssyErr port) + 1 ∧ Frame s t [] [pkgAddr tile (oAssyErr port)]))) ∧
    (∀ n k last, port < 16 → f.part = .more n k last → s.pkg.on tile (fMergeEn port) = true → (s.pkg.port tile port).asm = none →
      Runs (.frameReceive tile port f at_) s (fun t =>
        t.pkg.cnt tile (oFragRx port) = s.pkg.cnt tile (oFragRx port) + 1 ∧ t.pkg.cnt tile (oAssyErr port) = s.pkg.cnt tile (oAssyErr port) + 1 ∧
        t.pkg.sw = s.pkg.sw ∧ Frame s t [] [pkgAddr tile (oFragRx port), pkgAddr tile (oAssyErr port)]))

/-- The first recirculated frame of a tile whose cells stand in the recirculation reserve leaves the list for its second pass; where the parser's verdict
on it is to be trapped, a copy of it waits for port 20. A copy that waits first for its queue joins the queue's end when the queue is neither stalled nor
full; on a port whose link is down a copy of a unicast frame is discarded as LINK_DOWN (18), before a stalled queue as STALL_FLUSH (20). -/
def Obligations.RecirculationAndEnqueue : Prop :=
  (∀ (tile at_ : Nat) (r : Recirc) (l : List Recirc) (s : State), s.pkg.inService tile = true → s.pkg.ksState tile ≠ 3 → s.noEthWaits →
    s.pkg.recircReady tile = r :: l → 1 ≤ (s.pkg.frame r.frame).refs →
    (s.pkg.parse tile r.bytes).frag = none → s.pkg.verdictAct tile (s.pkg.parse tile r.bytes).verdict = 1 →
    Runs (.recirculationPass tile at_) s (fun t =>
      t.pkg.sw.recirc = s.pkg.sw.recirc.filter (fun x => x.frame != r.frame) ∧
      (∃ c, t.pkg.sw.waiting = s.pkg.sw.waiting ++ [c] ∧ c.tile = tile ∧ c.port = 20 ∧ c.kind = .trap ∧ c.frame = r.frame ∧ c.bytes = r.bytes) ∧
      WordsKept s.pkg t.pkg [])) ∧
  (∀ (tile id at_ : Nat) (c : Copy) (s : State), s.pkg.waitingCopy id = some c → c.tile = tile → s.pkg.inService tile = true →
    s.pkg.firstWaiting c = true → s.pkg.crossed c = true → c.bad = false → s.noEthWaits → (s.pkg.frame c.frame).up = none →
    (s.pkg.linkUp tile c.port = false → c.mc = false →
      Runs (.enqueue tile id at_) s (fun t =>
        (∀ x ∈ t.pkg.sw.waiting, x.id ≠ id) ∧ t.pkg.cnt tile (oDisc 18) = s.pkg.cnt tile (oDisc 18) + 1 ∧
        Frame s t (s.pkg.xoffWords c.frame) ([pkgAddr tile (oDisc 18), pkgAddr tile (oTxDisc c.port)] ++ s.pkg.pauseCounts c.frame))) ∧
    (s.pkg.linkUp tile c.port = true → s.pkg.ctrlPortDown tile c.port c.edited.bytes = false →
      (s.pkg.stalledQ tile c.port c.q = true →
        Runs (.enqueue tile id at_) s (fun t =>
          (∀ x ∈ t.pkg.sw.waiting, x.id ≠ id) ∧ t.pkg.cnt tile (oDisc 20) = s.pkg.cnt tile (oDisc 20) + 1 ∧
          Frame s t (s.pkg.xoffWords c.frame) ([pkgAddr tile (oDisc 20), pkgAddr tile (oTxDisc c.port)] ++ s.pkg.pauseCounts c.frame))) ∧
      (s.pkg.stalledQ tile c.port c.q = false → s.pkg.atLimit tile c.port c.q = false → c.rcvy = none →
        Runs (.enqueue tile id at_) s (fun t =>
          (∀ x ∈ t.pkg.sw.waiting, x.id ≠ id) ∧
          (∃ c', t.pkg.queue tile c.port c.q = s.pkg.queue tile c.port c.q ++ [c'] ∧ c'.id = id ∧ c'.frame = c.frame ∧ c'.bytes = c.bytes ∧
            c'.enq = max s.pkg.now (ns at_)) ∧
          Frame s t [] [pkgAddr tile oCutThrough, pkgAddr tile (oCut c.port)]))))

/-- INSERT of a connection that has no entry, into a bucket with room, adds it with LAST_SEEN now and both frame counts 0 and answers CODE 0; of one that
has an entry it answers EXISTS (1), into a full bucket FULL (2), and adds nothing. DELETE frees the entry and answers 0. LOOKUP copies the entry's words
into the data registers. DELETE and LOOKUP of a connection without an entry answer NOT_FOUND (3). -/
def Obligations.ConnectionCommands : Prop :=
  ∀ (a : Acc) (tile : Nat) (s : State), tile < 7 →
    (s.pkg.reaches a.req tile 0x400060 1 → fieldGet (s.pkg.ctData tile 3) 18 16 < 4 →
      (∀ i, s.pkg.ctFind tile (s.pkg.ctDataKey tile) = some i → Runs (.ctInsert a tile) s (fun t =>
        t.pkg.get tile ⟨0x400064, 2, 0⟩ = 1 ∧ t.pkg.on tile ⟨0x400064, 31, 31⟩ = true ∧ Frame s t [pkgAddr tile 0x400064] [])) ∧
      (s.pkg.ctFind tile (s.pkg.ctDataKey tile) = none → s.pkg.ctPlace tile (s.pkg.ctDataKey tile) = none → Runs (.ctInsert a tile) s (fun t =>
        t.pkg.get tile ⟨0x400064, 2, 0⟩ = 2 ∧ t.pkg.on tile ⟨0x400064, 31, 31⟩ = true ∧ Frame s t [pkgAddr tile 0x400064] [])) ∧
      (∀ i, s.pkg.ctFind tile (s.pkg.ctDataKey tile) = none → s.pkg.ctPlace tile (s.pkg.ctDataKey tile) = some i → Runs (.ctInsert a tile) s (fun t =>
        t.pkg.get tile ⟨0x400064, 2, 0⟩ = 0 ∧ t.pkg.on tile ⟨0x400064, 31, 31⟩ = true ∧
        t.pkg.ctValid tile i = true ∧ t.pkg.ctKeyAt tile i = s.pkg.ctDataKey tile ∧
        t.pkg.ctWord tile i 4 = BitVec.ofNat 32 ((s.pkg.reach a.at_).seenNow tile) ∧ t.pkg.ctWord tile i 5 = 0 ∧ t.pkg.ctWord tile i 6 = 0 ∧
        Frame s t ([pkgAddr tile 0x400064, pkgAddr tile 0x400014] ++ (List.range 8).map (fun w => pkgAddr tile (0x3200000 + i * 32 + w * 4)) ++
          (List.range 8).map (fun w => pkgAddr tile (0x3200000 + (i - 1) * 32 + w * 4))) []))) ∧
    (s.pkg.reaches a.req tile 0x400060 2 →
      (∀ i, s.pkg.ctFind tile (s.pkg.ctDataKey tile) = some i → Runs (.ctDelete a tile) s (fun t =>
        t.pkg.get tile ⟨0x400064, 2, 0⟩ = 0 ∧ t.pkg.ctValid tile i = false ∧
        Frame s t ([pkgAddr tile 0x400064, pkgAddr tile 0x400014] ++ (List.range 8).map (fun w => pkgAddr tile (0x3200000 + i * 32 + w * 4)) ++
          (List.range 8).map (fun w => pkgAddr tile (0x3200000 + (i - 1) * 32 + w * 4))) [])) ∧
      (s.pkg.ctFind tile (s.pkg.ctDataKey tile) = none → Runs (.ctDelete a tile) s (fun t =>
        t.pkg.get tile ⟨0x400064, 2, 0⟩ = 3 ∧ Frame s t [pkgAddr tile 0x400064] []))) ∧
    (s.pkg.reaches a.req tile 0x400060 3 →
      (∀ i, s.pkg.ctFind tile (s.pkg.ctDataKey tile) = some i → Runs (.ctLookup a tile) s (fun t =>
        t.pkg.get tile ⟨0x400064, 2, 0⟩ = 0 ∧ (∀ w < 8, t.pkg.ctData tile w = s.pkg.ctWord tile i w) ∧
        ((s.pkg.ctDataKey tile).v6 = true → ∀ w < 8, t.pkg.ctData tile (8 + w) = s.pkg.ctWord tile (i - 1) w) ∧
        Frame s t (pkgAddr tile 0x400064 :: (List.range 16).map (fun w => pkgAddr tile (0x400020 + 4 * w))) [])) ∧
      (s.pkg.ctFind tile (s.pkg.ctDataKey tile) = none → Runs (.ctLookup a tile) s (fun t =>
        t.pkg.get tile ⟨0x400064, 2, 0⟩ = 3 ∧ Frame s t [pkgAddr tile 0x400064] [])))

/-- A visit of the aging engine to a slot that holds a connection, or to the other half of one, frees the connection and counts it, unless it is static, once
package time has passed its LAST_SEEN by more than its state's timeout (modulo the 52 bits LAST_SEEN spans), and else leaves it. A fragment entry is freed LIFE_US after its creation, and counted. -/
def Obligations.AgingAndFragments : Prop :=
  (∀ (tile n i : Nat) (s : State), s.pkg.tileOn tile = true → s.pkg.ctValid tile i = true →
    (i = n % 65536 ∨ (i = n % 65536 + 1 ∧ s.pkg.ctEven tile (n % 65536) = true)) →
    let idle := (n * 1000 + 2 ^ 52 - (s.pkg.ctWord tile i 4).toNat * 2 ^ 20) % 2 ^ 52
    let due := s.pkg.ctTimeout tile (fieldGet (s.pkg.ctWord tile i 3) 7 0) (s.pkg.ctState tile i) * 1000000000
    let static := fieldGet (s.pkg.ctWord tile i 3) 20 20 = 1
    (¬ static → due < idle → Runs (.ctAging tile n) s (fun t =>
      t.pkg.ctValid tile i = false ∧ t.pkg.cnt tile 0x400248 = s.pkg.cnt tile 0x400248 + 1 ∧
      t.pkg.get tile fCtUsed = s.pkg.get tile fCtUsed - (if s.pkg.ctV6 tile i then 2 else 1) ∧
      Frame s t (pkgAddr tile 0x400014 :: (List.range 8).map (fun w => pkgAddr tile (0x3200000 + i * 32 + w * 4)) ++
        (if s.pkg.ctV6 tile i then (List.range 8).map (fun w => pkgAddr tile (0x3200000 + (i - 1) * 32 + w * 4)) else []))
        [pkgAddr tile 0x400248])) ∧
    ((static ∨ idle ≤ due) →
      Runs (.ctAging tile n) s (fun t => t.pkg.now = max s.pkg.now (ns (n * 1000)) ∧ t.pkg.hidden = s.pkg.hidden ∧ Frame s t [] []))) ∧
  (∀ (tile idx : Nat) (e : FragEntry) (s : State), s.pkg.tileOn tile = true → s.pkg.fragEntry tile idx = some e →
    Runs (.fragExpire tile idx) s (fun t =>
      t.pkg.fragEntry tile idx = none ∧ t.pkg.cnt tile (oFrag 2) = s.pkg.cnt tile (oFrag 2) + 1 ∧
      t.pkg.get tile fFragUsed = s.pkg.get tile fFragUsed - 1 ∧ e.born + ns (1000 * s.pkg.get tile fLifeUs) ≤ t.pkg.now ∧
      Frame s t [pkgAddr tile 0x400014] [pkgAddr tile (oFrag 2)]))

/-- Credit for the first frame of a class that still needs it is drawn from the span minimum first and then from the shared pool; a frame it covers has
crossed, one it does not cover goes on needing the rest. With nothing in transmission and one queue eligible, the head of that queue leaves it and is in
transmission, edited as its descriptor says, and its queue counts one frame; one with an uncorrectable cell is discarded as CELL_ECC (22) instead; with no queue
ready nothing starts. The end of a frame at a port with a MAC puts its bytes on the wire, and after them the pause frames that waited, and frees the port. -/
def Obligations.CrossAndTransmit : Prop :=
  (∀ (tile src tc cells at_ id u : Nat) (f : FrameRec) (s : State), s.pkg.inService tile = true → s.pkg.inService src = true →
    s.pkg.pairUp tile src = true → tile ≠ src → s.pkg.needsCredit tile src tc = some (id, f) → f.up = some u → u ≠ id → (s.pkg.frame u).up = none →
    f.tile = tile → (∀ c ∈ s.pkg.charges u, c.2.kind ≠ .span) → (∀ c ∈ s.pkg.sw.waiting, c.frame = id → s.pkg.queueFull tile c.port c.q c.cells = false) → s.noEthWaits →
    min cells (f.cells - f.got) - min (min cells (f.cells - f.got)) (s.pkg.get tile (fSpanMin f.charge.port tc) - s.pkg.spanMinUsed tile f.charge.port tc)
      ≤ s.pkg.freeShared tile →
    Runs (.spanCreditGrant tile src tc cells at_) s (fun t =>
      (t.pkg.frame id).got = f.got + min cells (f.cells - f.got) ∧
      (t.pkg.frame id).up = (if f.got + min cells (f.cells - f.got) = f.cells then none else some u) ∧
      t.pkg.spanMinUsed tile f.charge.port tc = s.pkg.spanMinUsed tile f.charge.port tc +
        min (min cells (f.cells - f.got)) (s.pkg.get tile (fSpanMin f.charge.port tc) - s.pkg.spanMinUsed tile f.charge.port tc) ∧
      Frame s t (s.pkg.xoffWords u) (s.pkg.pauseCounts u))) ∧
  (∀ (tile port at_ : Nat) (s : State), s.pkg.inService tile = true → s.pkg.hasPort tile port = true → s.pkg.linkUp tile port = true → port ≠ 23 →
    s.pkg.ksState tile ≠ 3 → (s.pkg.port tile port).tx = none → (s.pkg.port tile port).susp = none → s.noEthWaits →
    let p := (s.pkg.reach at_).reachFrac (s.pkg.port tile port).busyTill
    (∀ ok : Bool, (∀ q < 8, p.ready tile port q = false) →
      Runs (.transmitDecision tile ⟨port, ok⟩ at_) s (fun t => t.pkg.hidden = (s.pkg.setTrestle s.pkg.steward (s.pkg.trestle s.pkg.steward)).hidden ∧
        Frame s t [] [])) ∧
    (∀ (q : Nat) (c : Copy) (l : List Copy), q < 8 → s.pkg.queue tile port q = c :: l → c.tile = tile → c.port = port → c.loc = .chip →
      (∀ x < 8, p.ready tile port x = decide (x = q)) → p.guardOk c = true → s.pkg.on tile (fDrr port q) = false →
      (Runs (.transmitDecision tile ⟨port, false⟩ at_) s (fun t =>
        t.pkg.queue tile port q = l ∧ (t.pkg.port tile port).tx = none ∧ t.pkg.cnt tile (oDisc 22) = s.pkg.cnt tile (oDisc 22) + 1 ∧
        t.pkg.cnt tile (oTxDisc port) = s.pkg.cnt tile (oTxDisc port) + 1)) ∧
      (s.pkg.oversize c c.edited.bytes.length = false → s.pkg.ctrlPortDown tile port c.edited.bytes = false → c.info.tsReq = false →
        s.pkg.on tile (fMirTxEn port) = false → (port < 16 → s.pkg.on tile (fTxMsEnable port) = false) →
        Runs (.transmitDecision tile ⟨port, true⟩ at_) s (fun t =>
          t.pkg.queue tile port q = l ∧
          (∃ x, (t.pkg.port tile port).tx = some x ∧ x.copy = c ∧ x.bytes = c.edited.bytes ∧ x.start = t.pkg.now) ∧
          t.pkg.cnt tile (oTxFrames port q) = s.pkg.cnt tile (oTxFrames port q) + 1)))) ∧
  (∀ (tile port at_ : Nat) (x : Tx) (s : State), (s.pkg.port tile port).tx = some x → macPort tile port = true → x.copy.kind = .fwd →
    x.copy.bad = false → x.copy.mc = false → (s.pkg.frame x.copy.frame).up = none → s.noEthWaits →
    Runs (.transmitEnd tile port at_) s (fun t =>
      (s.pkg.out ++ [.frame tile port x.express false x.bytes]) <+: t.pkg.out ∧ (t.pkg.port tile port).tx = none ∧
      (t.pkg.port tile port).control = [] ∧ Frame s t (s.pkg.xoffWords x.copy.frame) (pkgAddr tile (oPauseTx port) :: s.pkg.pauseCounts x.copy.frame)))

/-- A port that keeps its peer paused, and holds XOFF in no class with PFC, sends its pause again once 1,024 quanta have passed since it last did; one
that holds XOFF in one class with PFC sends that class's PFC; either waits for a frame in transmission to end. A received PFC frame is counted and pauses, or with quanta 0 releases, the queues it names
that honour PFC; a received pause does so with all eight queues where the port honours pause. A pause that runs out releases its queue. A queue held for
STALL_MS is stalled and empty, its port's event bit is 1 and the stall is counted; a pause that ends by then wins. -/
def Obligations.PauseAndWatchdog : Prop :=
  (∀ (tile port at_ : Nat) (s : State), tile < 7 → port < 28 → s.pkg.tileOn tile = true → macPort tile port = true → s.pkg.hasPort tile port = true →
    s.pkg.linkUp tile port = true →
    ((∀ c < 8, (s.pkg.holdsXoff tile port c && s.pkg.pfcClass tile port c) = false) → s.pkg.pauseHeld tile port = true →
      (s.pkg.reach at_).refreshDue tile port 8 = true → Runs (.pauseRefresh tile port at_) s (fun t =>
        SMap.get 0 (t.pkg.port tile port).pauseSent 8 = t.pkg.now ∧
        ((s.pkg.port tile port).tx = none → (s.pkg.out ++ [.pause tile port (s.pkg.portMac tile port) 0xFFFF]) <+: t.pkg.out ∧
          t.pkg.cnt tile (oPauseTx port) = s.pkg.cnt tile (oPauseTx port) + 1 ∧ Frame s t [] [pkgAddr tile (oPauseTx port)]) ∧
        ((s.pkg.port tile port).tx ≠ none → (t.pkg.port tile port).control =
          (s.pkg.port tile port).control ++ [.pause tile port (s.pkg.portMac tile port) 0xFFFF] ∧ Frame s t [] []))) ∧
    (∀ c, c < 8 → (∀ x < 8, (s.pkg.holdsXoff tile port x && s.pkg.pfcClass tile port x) = decide (x = c)) → s.pkg.pauseHeld tile port = false →
      s.pkg.windowFresh tile c = false → (s.pkg.reach at_).refreshDue tile port c = true →
      let pfc := OutEv.pfc tile port (s.pkg.portMac tile port) (2 ^ c) ((List.range 8).map (fun i => if i = c then 0xFFFF else 0))
      Runs (.pauseRefresh tile port at_) s (fun t =>
        SMap.get 0 (t.pkg.port tile port).pauseSent c = t.pkg.now ∧
        ((s.pkg.port tile port).tx = none → (s.pkg.out ++ [pfc]) <+: t.pkg.out ∧
          t.pkg.cnt tile (oPauseTx port) = s.pkg.cnt tile (oPauseTx port) + 1 ∧ Frame s t [] [pkgAddr tile (oPauseTx port)]) ∧
        ((s.pkg.port tile port).tx ≠ none → (t.pkg.port tile port).control = (s.pkg.port tile port).control ++ [pfc] ∧ Frame s t [] []))) ∧
    (∀ (enable : Nat) (quanta : List Nat), Runs (.pfcReceive tile port enable quanta at_) s (fun t =>
      (∀ q < 8, t.pkg.pausedQ tile port q = (if enable.testBit q && (s.pkg.get tile (fPfcRx port)).testBit q then quanta.getD q 0 != 0
        else s.pkg.pausedQ tile port q)) ∧
      t.pkg.cnt tile (oPauseRx port) = s.pkg.cnt tile (oPauseRx port) + 1 ∧
      Frame s t [pkgAddr tile (fPausedRx port).off] [pkgAddr tile (oPauseRx port)])) ∧
    (∀ quanta : Nat, Runs (.pauseReceive tile port quanta at_) s (fun t =>
      (∀ q < 8, t.pkg.pausedQ tile port q = (if s.pkg.on tile (fPauseRx port) then quanta != 0 else s.pkg.pausedQ tile port q)) ∧
      t.pkg.cnt tile (oPauseRx port) = s.pkg.cnt tile (oPauseRx port) + 1 ∧
      Frame s t [pkgAddr tile (fPausedRx port).off] [pkgAddr tile (oPauseRx port)]))) ∧
  (∀ (tile port queue : Nat) (s : State), tile < 7 → port < 28 → queue < 8 → s.pkg.tileOn tile = true →
    (s.pkg.pausedQ tile port queue = true → Runs (.pauseExpire tile port queue) s (fun t =>
      t.pkg.pausedQ tile port queue = false ∧ t.pkg.stalledQ tile port queue = false ∧ (s.pkg.qst tile port queue).paused ≤ t.pkg.now ∧
      Frame s t [pkgAddr tile (fPausedRx port).off] [])) ∧
    (port ≠ 16 → (s.pkg.qst tile port queue).paused ≤ s.pkg.stallAt tile port queue → s.noEthWaits →
      Runs (.watchdogStall tile port queue) s (fun t => t.pkg.queue tile port queue = s.pkg.queue tile port queue ∧ Frame s t [] [])) ∧
    (s.pkg.on tile fWdEnable = true → (s.pkg.qst tile port queue).wdSince ≠ 0 → s.pkg.stalledQ tile port queue = false → s.noEthWaits →
      (port = 16 ∨ s.pkg.stallAt tile port queue < (s.pkg.qst tile port queue).paused) →
      Runs (.watchdogStall tile port queue) s (fun t =>
        t.pkg.stalledQ tile port queue = true ∧ t.pkg.queue tile port queue = [] ∧ t.pkg.on tile ⟨0x800020, port, port⟩ = true ∧
        t.pkg.cnt tile (oStalls port) = s.pkg.cnt tile (oStalls port) + 1 ∧
        (s.pkg.qst tile port queue).wdSince - 1 + ns (1000000 * s.pkg.get tile fStallMs) ≤ t.pkg.now)))

/-- The next frame of a queue that waits to be spilled, and still may be, lies in overflow memory once written whole, where the overflow part takes it, and is counted on the
tile and the port. The first overflow frame of a queue comes back into the port's buffer where that has room; one with an uncorrectable cell is
discarded as CELL_ECC (22). A multicast copy that has not joined its queue HOLD_US after resolution is gone and counted as MC_HOLD (16). A shaped queue
with negative credit is eligible, with its credit at 0 or above, at the instant named. -/
def Obligations.OverflowHoldAndShapers : Prop :=
  (∀ (tile port queue at_ : Nat) (c : Copy) (s : State), tile < 7 → port < 28 → queue < 8 → s.pkg.tileOn tile = true → s.noEthWaits →
    ((s.pkg.queue tile port queue).find? (fun c => c.loc == .toSpill) = some c → s.pkg.ovfRoom tile port queue c.cells = true →
      s.pkg.maySpill tile port queue = true → (s.pkg.frame c.frame).up = none →
      Runs (.spillWriteDone tile port queue at_) s (fun t =>
        t.pkg.queue tile port queue = replaceFirst (fun d => d.id == c.id) (fun d => { d with loc := .ovf }) (s.pkg.queue tile port queue) ∧
        t.pkg.cnt tile oSpillFrames = s.pkg.cnt tile oSpillFrames + 1 ∧ t.pkg.cnt tile (oSpilled port) = s.pkg.cnt tile (oSpilled port) + 1 ∧
        Frame s t (s.pkg.xoffWords c.frame) ([pkgAddr tile oSpillFrames, pkgAddr tile (oSpilled port)] ++ s.pkg.pauseCounts c.frame))) ∧
    ((s.pkg.queue tile port queue).find? (fun c => c.loc == .ovf) = some c →
      ((List.range 8).map (fun q => cellsIn (s.pkg.queue tile port q) (fun l => l == .back))).sum = 0 →
      Runs (.overflowReadback tile port queue true at_) s (fun t =>
        t.pkg.queue tile port queue = replaceFirst (fun d => d.id == c.id) (fun d => { d with loc := .back }) (s.pkg.queue tile port queue) ∧
        (t.pkg.pool tile).ovf = (s.pkg.pool tile).ovf - c.cells ∧ Frame s t [] []) ∧
      Runs (.overflowReadback tile port queue false at_) s (fun t =>
        t.pkg.queue tile port queue = (s.pkg.queue tile port queue).filter (fun d => d.id != c.id) ∧
        t.pkg.cnt tile (oDisc 22) = s.pkg.cnt tile (oDisc 22) + 1 ∧ t.pkg.cnt tile (oTxDisc port) = s.pkg.cnt tile (oTxDisc port) + 1 ∧
        (t.pkg.pool tile).ovf = (s.pkg.pool tile).ovf - c.cells ∧ Frame s t [] [pkgAddr tile (oDisc 22), pkgAddr tile (oTxDisc port)]))) ∧
  (∀ (tile id : Nat) (c : Copy) (s : State), s.pkg.waitingCopy id = some c → c.tile = tile → c.mc = true → s.noEthWaits →
    (s.pkg.frame c.frame).up = none →
    Runs (.mcHoldExpire tile id) s (fun t =>
      (∀ x ∈ t.pkg.sw.waiting, x.id ≠ id) ∧ t.pkg.cnt tile (oDisc 16) = s.pkg.cnt tile (oDisc 16) + 1 ∧
      c.born + ns (1000 * s.pkg.get (c.info.gin / 32) fHoldUs) ≤ t.pkg.now ∧
      Frame s t (s.pkg.xoffWords c.frame) ([pkgAddr tile (oDisc 16), pkgAddr tile (oTxDisc c.port), pkgAddr tile oMcPartial] ++ s.pkg.pauseCounts c.frame))) ∧
  (∀ (tile port queue : Nat) (s : State), s.pkg.inService tile = true → s.pkg.hasPort tile port = true → s.pkg.get tile (fRate port queue) ≠ 0 →
    s.pkg.creditNow tile port queue < 0 → s.pkg.sending tile port queue = false →
    (s.pkg.get tile (fShaper port queue) = 1 ∨ (s.pkg.get tile (fShaper port queue) = 2 ∧ s.pkg.gateBit tile port queue = true ∧
      s.pkg.pausedQ tile port queue = false ∧ s.pkg.heldQ tile port queue = false)) →
    Runs (.shaperEligible tile port queue) s (fun t => t.pkg.shaperOk tile port queue = true ∧ Frame s t [] []))

/-- A port whose link goes down has LINK_UP 0, no frame in transmission, no preempted frame, eight empty queues and no verified merge. A link that comes
up has LINK_UP 1 and, on SGMII, the negotiated rate. A verification answered ends verified, with MM_ACTIVE 1; one not answered counts an attempt, and the
third ends failed; none ends within 10 ms of the one before. The start of a gate control list's entry applies its gates, its number and its hold operation. The start of a stream gate's entry
moves nothing but time. -/
def Obligations.LinksAndGates : Prop :=
  (∀ (tile port at_ : Nat) (s : State), tile < 7 → port < 28 → s.pkg.tileOn tile = true → macPort tile port = true → s.pkg.hasPort tile port = true →
    (s.pkg.on tile (fLinkUp port) = true → s.noEthWaits → Runs (.linkDown tile port at_) s (fun t =>
      t.pkg.on tile (fLinkUp port) = false ∧ (t.pkg.port tile port).tx = none ∧ (t.pkg.port tile port).susp = none ∧
      (∀ q < 8, t.pkg.queue tile port q = []) ∧ t.pkg.get tile (fVerify port) = 0 ∧ t.pkg.on tile (fMmActive port) = false)) ∧
    (∀ mbps : Nat, s.pkg.on tile (fLinkUp port) = false → Runs (.linkUp tile port mbps at_) s (fun t =>
      t.pkg.on tile (fLinkUp port) = true ∧
      (s.pkg.get tile (fPortMode port) = 1 → (t.pkg.port tile port).mbps = if mbps = 100 then 100 else 1000) ∧
      Frame s t [pkgAddr tile (fLinkUp port).off, pkgAddr tile (fVerify port).off] []))) ∧
  (∀ (tile port at_ : Nat) (ok : Bool) (s : State), tile < 7 → port < 16 → s.pkg.inService tile = true → s.pkg.hasPort tile port = true →
    s.pkg.linkUp tile port = true → s.pkg.on tile (fMergeEn port) = true → s.pkg.on tile (fVerifyDis port) = false →
    s.pkg.get tile (fVerify port) = 1 →
    ((s.pkg.port tile port).attempts = 0 ∨ (s.pkg.port tile port).triedAt + ns 10000000 ≤ max s.pkg.now (ns at_)) → Runs (.mergeVerify tile port ok at_) s (fun t =>
      (ok = true → t.pkg.get tile (fVerify port) = 2 ∧ t.pkg.on tile (fMmActive port) = true) ∧
      (ok = false → (t.pkg.port tile port).attempts = (s.pkg.port tile port).attempts + 1 ∧
        t.pkg.get tile (fVerify port) = if (s.pkg.port tile port).attempts < 2 then 1 else 3) ∧
      Frame s t [pkgAddr tile (fVerify port).off] [])) ∧
  (∀ (tile port at_ : Nat) (x : GateSpan) (s : State), tile < 7 → port < 16 → s.pkg.inService tile = true → s.pkg.hasPort tile port = true →
    s.pkg.on tile (fGateEn port) = true → ((s.pkg.reach at_).gateList tile port).now ((s.pkg.reach at_).count tile) = some x →
    (∀ q < 8, s.pkg.windowFresh tile q = false) →
    Runs (.gclEntryStart tile port at_) s (fun t =>
      t.pkg.get tile (fGates port) = x.gates % 256 ∧ t.pkg.get tile (fGclEntry port) = x.idx % 1024 ∧
      t.pkg.on tile (fHold port) = (if x.op = 1 then true else if x.op = 2 then false else s.pkg.on tile (fHold port)) ∧
      Frame s t [pkgAddr tile (fGates port).off] [pkgAddr tile (oFragTx port), pkgAddr tile (oHoldOverrun port), pkgAddr tile (oPauseTx port)])) ∧
  (∀ (tile gate at_ : Nat) (s : State), s.pkg.inService tile = true → gate < 64 → fieldGet (s.pkg.sgHead tile gate 0) 31 31 = 1 →
    Runs (.streamGateEntry tile gate at_) s (fun t => t.pkg.now = max s.pkg.now (ns at_) ∧ t.pkg.hidden = s.pkg.hidden ∧ Frame s t [] []))

/-- A recovery function that has passed no copy for RESET_MS starts fresh and counts its reset. A write of TS_GEN_RESET sets the named generator's next
number to 0. A read of TM_TXTS_INFO pops the head of the FIFO and latches its time. On the time reference a write of TM_RATE_ADJ within its range sets it
and a write of TM_PHASE_ADJ adds to the pending correction; on another tile neither does anything. A sampler with one queue selected writes that queue's
record at its producer index and advances it. -/
def Obligations.TimeControlsAndSampler : Prop :=
  (∀ (tile fn : Nat) (s : State), s.pkg.tileOn tile = true → fn < 256 → fieldGet (s.pkg.recovWord tile fn 0) 31 31 = 1 → (s.pkg.recovSt tile fn).fresh = false →
    Runs (.frerReset tile fn) s (fun t =>
      t.pkg.recovSt tile fn = {} ∧ t.pkg.cnt tile (oRecov fn 6) = s.pkg.cnt tile (oRecov fn 6) + 1 ∧
      (s.pkg.recovSt tile fn).passAt + ns (1000000 * fieldGet (s.pkg.recovWord tile fn 1) 15 0) ≤ t.pkg.now ∧
      Frame s t [] [pkgAddr tile (oRecov fn 6)])) ∧
  (∀ (a : Acc) (tile : Nat) (v : Word) (s : State), tile < 7 →
    (s.pkg.reaches a.req tile 0xC00240 v → Runs (.genReset a tile v) s (fun t =>
      t.pkg.get tile ⟨0x3670000 + 4 * fieldGet v 7 0, 15, 0⟩ = 0 ∧ Frame s t [pkgAddr tile (0x3670000 + 4 * fieldGet v 7 0)] [])) ∧
    (∀ (x : TxStamp) (l : List TxStamp), s.pkg.leaves a.req → s.pkg.accessErr a.req (pkgAddr tile 0x100110) = 0 → s.pkg.queueAt tile = [] →
      SMap.get [] s.pkg.sw.stamps tile = x :: l → Runs (.txtsPop a tile) s (fun t =>
        (s.pkg.out ++ [.reply a.req (pkgAddr tile 0x100110)
          (BitVec.ofNat 32 (x.seqId % 65536 + (x.msgType % 16) * 2 ^ 16 + (x.port % 16) * 2 ^ 20 + (x.domain % 128) * 2 ^ 24 + 2 ^ 31))]) <+: t.pkg.out ∧
        SMap.get [] t.pkg.sw.stamps tile = l ∧ t.pkg.cnt tile oTxtsNs = BitVec.ofNat 64 (x.time / 65536) ∧
        t.pkg.get tile fTxtsFrac = x.time % 65536 ∧ Frame s t [pkgAddr tile fTxtsFrac.off] [pkgAddr tile oTxtsNs])) ∧
    (s.pkg.reaches a.req tile 0x100100 v →
      (tile = s.pkg.ref → (sgn32 v).natAbs ≤ 2147483 → Runs (.rateAdj a tile v) s (fun t =>
        t.pkg.rd tile oRateAdj = v ∧ Frame s t [pkgAddr tile oRateAdj] [])) ∧
      (tile ≠ s.pkg.ref → Runs (.rateAdj a tile v) s (fun t => Frame s t [] []))) ∧
    (s.pkg.reaches a.req tile 0x100104 v →
      (tile = s.pkg.ref → ((s.pkg.reach a.at_).phaseNow tile + sgn32 v * 65536).natAbs ≤ 65536000000000 → Runs (.phaseAdj a tile v) s (fun t =>
        t.pkg.phaseNow tile = (s.pkg.reach a.at_).phaseNow tile + sgn32 v * 65536 ∧
        t.pkg.rd tile oPhasePend = toWord (t.pkg.phaseNow tile / 65536) ∧ Frame s t [pkgAddr tile oPhasePend] [])) ∧
      (tile ≠ s.pkg.ref → Runs (.phaseAdj a tile v) s (fun t => Frame s t [] [])))) ∧
  (∀ (tile n p q : Nat) (s : State), s.pkg.inService tile = true → s.pkg.on tile fSampEn = true → p < 28 → q < 8 →
    (∀ x < 28, ∀ y < 8, (s.pkg.get tile (fSampSel x)).testBit y = decide (x = p ∧ y = q)) →
    (s.pkg.get tile fSampProd + 1) % 4096 ≠ s.pkg.get tile fSampCons →
    Runs (.sample tile n) s (fun t =>
      t.pkg.get tile fSampProd = (s.pkg.get tile fSampProd + 1) % 4096 ∧
      t.pkg.rd tile (0x3680000 + 32 * s.pkg.get tile fSampProd) = BitVec.ofNat 32 (n * s.pkg.get tile fSampInterval) ∧
      fieldGet (t.pkg.rd tile (0x3680008 + 32 * s.pkg.get tile fSampProd)) 4 0 = p ∧ fieldGet (t.pkg.rd tile (0x3680008 + 32 * s.pkg.get tile fSampProd)) 7 5 = q ∧
      Frame s t (pkgAddr tile fSampProd.off :: (List.range 5).map (fun i => pkgAddr tile (0x3680000 + 32 * s.pkg.get tile fSampProd + 4 * i))) []))

/-- A good frame of another node on a channel that listens is counted and waits in the active trestle behind the channel's other messages, with the
sentinel's stamp; an error of a receiver raises REC by 1, of a transmitter TEC by 8. A transmission that completes leaves the buffer, is counted and
frees a credit. A channel that goes bus-off has state 2 and keeps its messages; one that recovers is error active with both counters 0. -/
def Obligations.BusFramesAndErrors : Prop :=
  (∀ (m : BusMsg) (start at_ : Nat) (s : State), s.pkg.pathUp 15 s.pkg.steward = true → s.pkg.inService s.pkg.steward = true → s.pkg.pausing = false →
    (m.bus < 12 → s.pkg.canListens m.bus = true → s.pkg.get 15 (fRing m.bus) ≠ rPrepare → Runs (.busFrameRx m false ⟨start, at_⟩) s (fun t =>
      SMap.get [] (t.pkg.trestle s.pkg.steward).inq m.bus = SMap.get [] (s.pkg.trestle s.pkg.steward).inq m.bus ++ [toMsg m (s.pkg.busStamp start)] ∧
      t.pkg.cnt 15 (oCanRx m.bus) = s.pkg.cnt 15 (oCanRx m.bus) + 1 ∧
      t.pkg.get 15 (fCanRec m.bus) = (if 127 < s.pkg.get 15 (fCanRec m.bus) then 127 else s.pkg.get 15 (fCanRec m.bus) - 1) ∧
      Frame s t [pkgAddr 15 (fCanRec m.bus).off, pkgAddr 15 (fCanState m.bus).off, pkgAddr 15 (fTxqUsed m.bus).off] [pkgAddr 15 (oCanRx m.bus)])) ∧
    (16 ≤ m.bus → m.bus < 22 → s.pkg.linUp (m.bus - 16) = true → fieldGet (s.pkg.linFrame (m.bus - 16) m.id) 31 31 = 1 →
      fieldGet (s.pkg.linFrame (m.bus - 16) m.id) 6 6 = 1 → Runs (.busFrameRx m false ⟨start, at_⟩) s (fun t =>
      SMap.get [] (t.pkg.trestle s.pkg.steward).inq m.bus = SMap.get [] (s.pkg.trestle s.pkg.steward).inq m.bus ++ [toMsg m (s.pkg.busStamp start)] ∧
      t.pkg.get 15 (fLinLastId (m.bus - 16)) = m.id % 64 ∧
      Frame s t [pkgAddr 15 (fLinLastId (m.bus - 16)).off] [pkgAddr 15 (oLinRx (m.bus - 16))])) ∧
    ((m.bus = 24 ∨ m.bus = 25) → s.pkg.on 15 fFrEnable = true → (s.pkg.get 15 fFrPoc = 3 ∨ s.pkg.get 15 fFrPoc = 4) → Runs (.busFrameRx m false ⟨start, at_⟩) s (fun t =>
      SMap.get [] (t.pkg.trestle s.pkg.steward).inq m.bus = SMap.get [] (s.pkg.trestle s.pkg.steward).inq m.bus ++ [toMsg m (s.pkg.busStamp start)] ∧
      t.pkg.cnt 15 oFrRx = s.pkg.cnt 15 oFrRx + 1 ∧ Frame s t [] [pkgAddr 15 oFrRx]))) ∧
  (∀ (e : BusErr) (at_ : Nat) (s : State),
    (e.bus < 12 → s.pkg.canListens e.bus = true →
      (e.tx = false → Runs (.busFrameError e at_) s (fun t =>
        t.pkg.get 15 (fCanRec e.bus) = min 255 (s.pkg.get 15 (fCanRec e.bus) + 1) ∧ t.pkg.cnt 15 (oCanErr e.bus) = s.pkg.cnt 15 (oCanErr e.bus) + 1 ∧
        Frame s t [pkgAddr 15 (fCanRec e.bus).off, pkgAddr 15 (fCanState e.bus).off, pkgAddr 15 (fTxqUsed e.bus).off] [pkgAddr 15 (oCanErr e.bus)])) ∧
      (e.tx = true → e.kind ≠ 3 → Runs (.busFrameError e at_) s (fun t =>
        t.pkg.get 15 (fCanTec e.bus) = min 255 (s.pkg.get 15 (fCanTec e.bus) + 8) ∧ t.pkg.cnt 15 (oCanErr e.bus) = s.pkg.cnt 15 (oCanErr e.bus) + 1 ∧
        Frame s t [pkgAddr 15 (fCanTec e.bus).off, pkgAddr 15 (fCanState e.bus).off, pkgAddr 15 (fTxqUsed e.bus).off] [pkgAddr 15 (oCanErr e.bus)]))) ∧
    (16 ≤ e.bus → e.bus < 22 → s.pkg.linUp (e.bus - 16) = true → Runs (.busFrameError e at_) s (fun t =>
      let o := if e.kind = 0 then oLinNoResponse (e.bus - 16) else oLinChecksum (e.bus - 16)
      t.pkg.cnt 15 o = s.pkg.cnt 15 o + 1 ∧ Frame s t [] [pkgAddr 15 o])) ∧
    ((e.bus = 24 ∨ e.bus = 25) → s.pkg.on 15 fFrEnable = true → Runs (.busFrameError e at_) s (fun t =>
      t.pkg.cnt 15 oFrSyntax = s.pkg.cnt 15 oFrSyntax + 1 ∧ Frame s t [] [pkgAddr 15 oFrSyntax]))) ∧
  (∀ (ch at_ : Nat) (s : State), ch < 12 →
    (∀ e, s.pkg.canSends ch = true → (s.pkg.busQueue ch).find? (·.started) = some e → Runs (.canTxDone ch at_) s (fun t =>
      (∀ x ∈ t.pkg.busQueue ch, x.id ≠ e.id) ∧ (s.pkg.out ++ [.bus (e.msg.toBus ch)]) <+: t.pkg.out ∧
      t.pkg.creditsOwed ch = s.pkg.creditsOwed ch + 1 ∧ t.pkg.get 15 (fCanTec ch) = s.pkg.get 15 (fCanTec ch) - 1 ∧
      t.pkg.cnt 15 (oCanTx ch) = s.pkg.cnt 15 (oCanTx ch) + 1 ∧
      Frame s t [pkgAddr 15 (fCanTec ch).off, pkgAddr 15 (fCanState ch).off, pkgAddr 15 (fTxqUsed ch).off] [pkgAddr 15 (oCanTx ch)])) ∧
    (s.pkg.canListens ch = true → Runs (.canBusOff ch at_) s (fun t =>
      t.pkg.get 15 (fCanState ch) = 2 ∧ (t.pkg.busQueue ch).map (·.msg) = (s.pkg.busQueue ch).map (·.msg) ∧
      t.pkg.cnt 15 (oCanBusoff ch) = s.pkg.cnt 15 (oCanBusoff ch) + 1 ∧
      Frame s t [pkgAddr 15 (fCanState ch).off, pkgAddr 15 (fTxqUsed ch).off] [pkgAddr 15 (oCanBusoff ch)])) ∧
    (s.pkg.get 15 (fCanState ch) = 2 →
      (s.pkg.on 15 (fCanAuto ch) = true → Runs (.canAutoRecover ch at_) s (fun t =>
        t.pkg.get 15 (fCanState ch) = 0 ∧ t.pkg.get 15 (fCanTec ch) = 0 ∧ t.pkg.get 15 (fCanRec ch) = 0 ∧
        Frame s t [pkgAddr 15 (fCanTec ch).off, pkgAddr 15 (fCanRec ch).off, pkgAddr 15 (fCanState ch).off, pkgAddr 15 (fTxqUsed ch).off] [])) ∧
      (∀ (a : Acc) (v : Word), s.pkg.reaches a.req 15 (0x40014 + 0x100 * ch) v → v.getLsbD 0 = true → Runs (.recover a ch v) s (fun t =>
        t.pkg.get 15 (fCanState ch) = 0 ∧ t.pkg.get 15 (fCanTec ch) = 0 ∧ t.pkg.get 15 (fCanRec ch) = 0 ∧
        Frame s t [pkgAddr 15 (fCanTec ch).off, pkgAddr 15 (fCanRec ch).off, pkgAddr 15 (fCanState ch).off, pkgAddr 15 (fTxqUsed ch).off] []))))

/-- The next message is discarded as SRC_DENY (1) where the source filter denies it and as NO_ROUTE (2), with the first miss recorded, where no route
fits it; where the route names a verification profile it waits for the engine with the snapshot of its chain. The next frame at port 21 is consumed
unprocessed on a tile that does not hold the active trestle; on the active one a faulty header is ACF_MALFORMED (19), and the messages of a stream in
use follow in order. An ACF frame whose wait is over leaves the batch with the next sequence number; with no credit at port 21 it stays ready. -/
def Obligations.TrestleInputs : Prop :=
  (∀ (tile at_ : Nat) (m : Msg) (x : TrestleSt) (s : State), s.pkg.trActive tile = true → s.pkg.admits tile = true →
    (s.pkg.trestle tile).engine.length < 512 → (s.pkg.trestle tile).pick = some (m, x) → m.src < 32 → m.stream < 256 → s.noEthWaits →
    (s.pkg.srcPermitted tile m = false → Runs (.trestleInput tile at_) s (fun t =>
      t.pkg.cnt tile (oTrDisc tSrcDeny) = s.pkg.cnt tile (oTrDisc tSrcDeny) + 1 ∧ t.pkg.cnt tile oMsgIn = s.pkg.cnt tile oMsgIn + 1 ∧
      t.pkg.trestle tile = x ∧ Frame s t [] [pkgAddr tile (oTrDisc tSrcDeny), pkgAddr tile oMsgIn])) ∧
    (s.pkg.srcPermitted tile m = true →
      (s.pkg.routeOfMsg tile m = none → Runs (.trestleInput tile at_) s (fun t =>
        t.pkg.cnt tile (oTrDisc tNoRoute) = s.pkg.cnt tile (oTrDisc tNoRoute) + 1 ∧ fieldGet (t.pkg.rd tile oMissSrc) 31 31 = 1 ∧
        t.pkg.trestle tile = x ∧ Frame s t [pkgAddr tile oMissKey, pkgAddr tile oMissSrc] [pkgAddr tile (oTrDisc tNoRoute), pkgAddr tile oMsgIn])) ∧
      (∀ i h l cut, s.pkg.routeOfMsg tile m = some i → m.fmt ≠ 2 → s.pkg.chainFrom tile 16 i = (h :: l, cut) → h.fld 7 17 12 ≠ 0 →
        Runs (.trestleInput tile at_) s (fun t =>
          (t.pkg.trestle tile).engine = x.engine ++ [.verify m (h :: l) cut] ∧ t.pkg.cnt tile oMsgIn = s.pkg.cnt tile oMsgIn + 1 ∧
          Frame s t [] [pkgAddr tile oMsgIn])))) ∧
  (∀ (tile at_ : Nat) (d : Delivered) (s : State), s.pkg.sw.got.find? (fun d => d.tile == tile && d.port == 21) = some d → s.pkg.inService tile = true →
    s.noEthWaits →
    (tile ≠ s.pkg.steward → Runs (.acfFrame tile at_) s (fun t =>
      t.pkg.cnt tile oStandbyRx = s.pkg.cnt tile oStandbyRx + 1 ∧
      t.pkg.sw.got = dropFirst (fun x => x.tile == tile && x.port == 21) s.pkg.sw.got ∧ Frame s t [] [pkgAddr tile oStandbyRx])) ∧
    (tile = s.pkg.steward → s.pkg.admits tile = true → (s.pkg.trestle tile).acf = [] → (s.pkg.trestle tile).inq = [] →
      (s.pkg.trestle tile).engine.length ≤ 384 →
      (avtpHeader d.bytes (12 + 4 * tagCount d.bytes 8 12) = none → Runs (.acfFrame tile at_) s (fun t =>
        t.pkg.cnt tile (oTrDisc tAcfMalformed) = s.pkg.cnt tile (oTrDisc tAcfMalformed) + 1 ∧ (t.pkg.trestle tile).acf = [] ∧
        t.pkg.sw.got = dropFirst (fun x => x.tile == tile && x.port == 21) s.pkg.sw.got ∧ Frame s t [] [pkgAddr tile (oTrDisc tAcfMalformed)])) ∧
      (∀ sid seq b i, avtpHeader d.bytes (12 + 4 * tagCount d.bytes 8 12) = some (sid, seq, b) → s.pkg.rxStream tile sid = some i →
        Runs (.acfFrame tile at_) s (fun t =>
          (t.pkg.trestle tile).acf = (acfItems (s.pkg.get tile fXlType) b.length b).1.map (fun m => { m with stream := i, stamp := d.at_ / 65536 }) ∧
          t.pkg.get tile (fRxSeq i) = (seq + 1) % 256 ∧ t.pkg.sw.got = dropFirst (fun x => x.tile == tile && x.port == 21) s.pkg.sw.got ∧
          Frame s t [pkgAddr tile (strmState i)] [pkgAddr tile oSeqGap, pkgAddr tile (oTrDisc tAcfUnknown), pkgAddr tile (oTrDisc tAcfMalformed)])))) ∧
  (∀ (tile i : Nat) (b : Batch) (s : State), (s.pkg.trestle tile).batches.find? (fun b => b.1 == i) = some (i, b) → s.pkg.trActive tile = true →
    s.pkg.creditStopped tile 21 = true → s.noEthWaits →
    Runs (.acfBatchSend tile i) s (fun t =>
      (∃ f, (t.pkg.trestle tile).ready = [f] ∧ f.count = b.msgs.length) ∧ (t.pkg.trestle tile).batches = SMap.erase i (s.pkg.trestle tile).batches ∧
      t.pkg.get tile (fTxSeq i) = (s.pkg.get tile (fTxSeq i) + 1) % 256 ∧
      b.start + ns (1000 * b.strm.waitUs) ≤ t.pkg.now ∧ Frame s t [pkgAddr tile (strmState i)] []))

/-- A message whose code is not the one its key gives is discarded as AUTH_MAC (6) and moves no freshness counter; one whose freshness value is not within
the window is AUTH_FV (5); one that passes both makes its freshness value the stored one and is counted, here where every output of its chain is secured
in turn, ahead of the jobs of later messages. An output for a LIN channel that is up gets the next freshness value and its code written behind its authentic bytes, and the channel's buffer
for its frame ID then holds it. -/
def Obligations.AuthenticationEngine : Prop :=
  ∀ (tile at_ : Nat) (k : List Byte) (s : State), tile ≤ 1 → s.pkg.trActive tile = true → s.noEthWaits →
    (∀ (m : Msg) (h : RouteSnap) (l : List RouteSnap) (cut : Bool) (js : List EngJob), (s.pkg.trestle tile).engine = .verify m (h :: l) cut :: js →
      apValid h.authV = true → s.pkg.trKey tile (apSlot h.authV) false = .key k → apFits h.authV m.payload.length = true →
      let a := apAuthentic h.authV m.payload.length
      let stored := s.pkg.fv tile (apFv h.authV)
      let cand := fvCandidate stored (apTfv h.authV) (beAt m.payload a (apTfv h.authV))
      (cand < 2 ^ 64 → cand - stored ≤ apWindow h.authV →
        (apCode k h.authV (m.payload.take a) cand ≠ sliceBytes m.payload (a + apTfv h.authV) (apMac h.authV) → Runs (.authVerify tile at_) s (fun t =>
          t.pkg.cnt tile (oTrDisc tAuthMac) = s.pkg.cnt tile (oTrDisc tAuthMac) + 1 ∧ (t.pkg.trestle tile).engine = js ∧
          Frame s t [] [pkgAddr tile (oTrDisc tAuthMac)])) ∧
        (apCode k h.authV (m.payload.take a) cand = sliceBytes m.payload (a + apTfv h.authV) (apMac h.authV) →
          (∀ r ∈ h :: l, r.fld 7 23 18 ≠ 0 ∧ r.fld 8 9 0 = 0 ∧ r.fld 8 19 10 = 0) → Runs (.authVerify tile at_) s (fun t =>
            t.pkg.fv tile (apFv h.authV) = cand ∧ t.pkg.cnt tile oAuthVerified = s.pkg.cnt tile oAuthVerified + 1 ∧
            (∃ gs, (t.pkg.trestle tile).engine = gs ++ js) ∧ Frame s t ([0, 1].flatMap (fun d => [pkgAddr d (fvOff (apFv h.authV)), pkgAddr d (fvOff (apFv h.authV) + 4)]))
              [pkgAddr tile oAuthVerified, pkgAddr tile oMoveShort, pkgAddr tile (oTrDisc tOutFormat), pkgAddr tile (oTrDisc tChainLong)]))) ∧
      (apWindow h.authV < cand - stored → Runs (.authVerify tile at_) s (fun t =>
        t.pkg.cnt tile (oTrDisc tAuthFv) = s.pkg.cnt tile (oTrDisc tAuthFv) + 1 ∧ (t.pkg.trestle tile).engine = js ∧
        Frame s t [] [pkgAddr tile (oTrDisc tAuthFv)]))) ∧
    (∀ (o : Msg) (r : RouteSnap) (js : List EngJob), (s.pkg.trestle tile).engine = .generate o r :: js → apValid r.authG = true →
      s.pkg.trKey tile (apSlot r.authG) true = .key k → apFits r.authG o.payload.length = true → s.pkg.fv tile (apFv r.authG) + 1 < 2 ^ 64 →
      16 ≤ r.dst → r.dst < 22 → s.pkg.pathUp tile 15 = true → s.pkg.linUp (r.dst - 16) = true →
      let a := apAuthentic r.authG o.payload.length
      let fv := s.pkg.fv tile (apFv r.authG) + 1
      Runs (.authGenerate tile at_) s (fun t =>
        t.pkg.fv tile (apFv r.authG) = fv ∧ t.pkg.cnt tile oAuthGenerated = s.pkg.cnt tile oAuthGenerated + 1 ∧ (t.pkg.trestle tile).engine = js ∧
        (∃ e, t.pkg.latest r.dst (o.id % 64) = some e ∧ e.started = false ∧
          e.msg.payload = writeWithin o.payload a (beBytes (apTfv r.authG) fv ++ apCode k r.authG (o.payload.take a) fv)) ∧
        Frame s t ([0, 1].flatMap (fun d => [pkgAddr d (fvOff (apFv r.authG)), pkgAddr d (fvOff (apFv r.authG) + 4)]))
          [pkgAddr tile oAuthGenerated, pkgAddr tile (oTrDisc tTxReplaced), pkgAddr tile oMsgOut]))

/-- A credit a buffer has freed comes back to the trestle. A queued message, or a latest value, that has not started by the end of its life leaves its
buffer and is counted as TX_EXPIRED, on CAN also one that only waits for another node's frame to end. A schedule slot of a LIN commander sends the header of its entry's frame ID and moves to the next entry; where this
node publishes the frame it sends the latest value. A static slot sends the latest value of its cycle on the channel. The POC state follows the protocol. -/
def Obligations.SlotsCreditsAndLifetimes : Prop :=
  (∀ (buf : BusBuf) (at_ : Nat) (s : State), s.pkg.pathUp 15 s.pkg.steward = true → s.pkg.creditsOwed (bufQueue buf) ≠ 0 →
    Runs (.busCreditReturn buf at_) s (fun t =>
      t.pkg.creditsOwed (bufQueue buf) = s.pkg.creditsOwed (bufQueue buf) - 1 ∧ t.pkg.creditsUsed (bufQueue buf) = s.pkg.creditsUsed (bufQueue buf) - 1 ∧
      Frame s t [] [])) ∧
  (∀ (buf : BusBuf) (idx l : Nat) (e : Posted) (s : State), e.life = some l → e.id = idx → buf.bus < 12 →
    (s.pkg.busQueue buf.bus).find? (fun e => e.id == idx) = some e → Runs (.txExpired buf ⟨idx, true⟩) s (fun t =>
      (∀ x ∈ t.pkg.busQueue buf.bus, x.id ≠ idx) ∧ t.pkg.creditsOwed buf.bus = s.pkg.creditsOwed buf.bus + 1 ∧ l ≤ t.pkg.now ∧
      t.pkg.cnt s.pkg.steward (oTrDisc tTxExpired) = s.pkg.cnt s.pkg.steward (oTrDisc tTxExpired) + 1)) ∧
  (∀ (buf : BusBuf) (idx l : Nat) (e : Posted) (s : State), e.life = some l → e.started = false → e.id = idx →
    ((s.pkg.busQueue (bufQueue buf)).find? (fun e => e.id == idx && !e.started) = some e → Runs (.txExpired buf ⟨idx, false⟩) s (fun t =>
      (∀ x ∈ t.pkg.busQueue (bufQueue buf), x.id ≠ idx) ∧ t.pkg.creditsOwed (bufQueue buf) = s.pkg.creditsOwed (bufQueue buf) + 1 ∧ l ≤ t.pkg.now ∧
      t.pkg.cnt s.pkg.steward (oTrDisc tTxExpired) = s.pkg.cnt s.pkg.steward (oTrDisc tTxExpired) + 1)) ∧
    ((s.pkg.busQueue (bufQueue buf)).find? (fun e => e.id == idx && !e.started) = none → s.pkg.latest buf.bus buf.slot = some e →
      Runs (.txExpired buf ⟨idx, false⟩) s (fun t => t.pkg.latest buf.bus buf.slot = none ∧ l ≤ t.pkg.now ∧
        t.pkg.cnt s.pkg.steward (oTrDisc tTxExpired) = s.pkg.cnt s.pkg.steward (oTrDisc tTxExpired) + 1))) ∧
  (∀ (ch at_ : Nat) (w : Word) (s : State), ch < 6 → s.pkg.linUp ch = true → s.pkg.on 15 (fLinCommander ch) = true →
    s.pkg.rd 15 (0x46000 + 0x100 * ch + 4 * SMap.get 0 s.pkg.bus.linPos ch) = w → fieldGet w 31 31 = 1 → ch ∉ s.pkg.bus.linOff →
    Runs (.linScheduleSlot ch at_) s (fun t =>
      t.pkg.get 15 (fLinLastId ch) = fieldGet w 5 0 ∧
      SMap.get 0 t.pkg.bus.linPos ch = (if fieldGet w 30 30 = 1 then 0 else (SMap.get 0 s.pkg.bus.linPos ch + 1) % 64) ∧
      (∀ e, fieldGet (s.pkg.linFrame ch (fieldGet w 5 0)) 31 31 = 1 → fieldGet (s.pkg.linFrame ch (fieldGet w 5 0)) 5 5 = 1 →
        s.pkg.latest (16 + ch) (fieldGet w 5 0) = some e →
        (s.pkg.out ++ [.bus (e.msg.toBus (16 + ch))]) <+: t.pkg.out ∧ t.pkg.cnt 15 (oLinTx ch) = s.pkg.cnt 15 (oLinTx ch) + 1) ∧
      Frame s t [pkgAddr 15 (fLinLastId ch).off] [pkgAddr 15 (oLinTx ch)])) ∧
  (∀ (slot cycle at_ : Nat) (e : Posted) (s : State), s.pkg.on 15 fFrEnable = true → s.pkg.get 15 fFrPoc = 3 → s.pkg.on 15 fFrChA = true →
    s.pkg.latest 24 slot = some e → inCycle e.msg cycle = true → Runs (.flexraySlot true false slot cycle false at_) s (fun t =>
      (s.pkg.out ++ [.bus (e.msg.toBus 24)]) <+: t.pkg.out ∧ t.pkg.cnt 15 oFrTx = s.pkg.cnt 15 oFrTx + 1 ∧ t.pkg.get 15 fFrCycle = cycle % 64 ∧
      Frame s t [pkgAddr 15 fFrCycle.off] [pkgAddr 15 oFrTx])) ∧
  (∀ (poc at_ : Nat) (s : State), s.pkg.on 15 fFrEnable = true → poc ≤ 5 → Runs (.flexrayPocChange poc at_) s (fun t =>
    t.pkg.get 15 fFrPoc = poc ∧ Frame s t [pkgAddr 15 fFrPoc.off] []))

/-- BAR2: a poisoned write is discarded and counted; a write whose bytes fall in one window without lane reordering writes exactly those bytes of the
tile's memory; a read of one byte answers the byte, or 0xFF with IN_NO_WIN where no window covers it, at once where no read through BAR0 waits. Outbound: an
access that is refused is counted as OUT_NO_WIN, gives a core's load all ones and the tile's lockstep cluster an access fault for its next round; a write within one piece leaves as one write of its bytes; a read of a window without prefetching, with nothing
outstanding, leaves as one request under the next tag. A completion with all of the read's bytes delivers them; another status, or the completion
timeout, fails the read: all ones and an access fault. Prefetched bytes expire 2 µs after they came. -/
def Obligations.HostAccessEffects : Prop :=
  (∀ (tile off at_ : Nat) (data : List Byte) (s : State), s.pkg.tileOn tile = true → s.pkg.on tile fHbLink = true → s.settled →
    0 < data.length → off + data.length ≤ 2 ^ 26 →
    (∀ be : List Bool, Runs (.bar2Access tile true off 0 data be true at_) s (fun t =>
      t.pkg.cnt tile oHbInPoisoned = s.pkg.cnt tile oHbInPoisoned + 1 ∧ t.pkg.on tile (fHbCause 4) = true ∧
      Frame s t [pkgAddr tile 0x1800104] [pkgAddr tile oHbInPoisoned])) ∧
    (∀ w : Nat, (∀ i < data.length, s.pkg.inWindow tile (off + i) = some w ∧ s.pkg.local tile (s.pkg.inLocal tile w off + i) = .byte) →
      s.pkg.inLanes tile w = 0 → Runs (.bar2Access tile true off 0 data (data.map (fun _ => true)) false at_) s (fun t =>
      (∀ i < data.length, t.mem.get tile (s.pkg.inLocal tile w off + i) = data.getD i 0) ∧
      (∀ u b, b < 2 ^ 40 → ¬ (u = tile ∧ s.pkg.inLocal tile w off ≤ b ∧ b < s.pkg.inLocal tile w off + data.length) → t.mem.get u b = s.mem.get u b) ∧
      WordsKept s.pkg t.pkg [] ∧ CountsKept s.pkg t.pkg [] ∧ t.pending = s.pending)) ∧
    (∀ w : Nat, s.pkg.inWindow tile off = some w → s.pkg.local tile (s.pkg.inLocal tile w off) = .byte → s.pkg.inLanes tile w = 0 →
      (s.pkg.reqSt { die := tile, agent := 1 }).held = [] → s.pkg.queueAt tile = [] →
      Runs (.bar2Access tile false off 1 [] [] false at_) s (fun t =>
        (s.pkg.out ++ [.bar2Completion tile [s.mem.get tile (s.pkg.inLocal tile w off)]]) <+: t.pkg.out ∧ Frame s t [] [])) ∧
    (s.pkg.inWindow tile off = none → (s.pkg.reqSt { die := tile, agent := 1 }).held = [] → s.pkg.queueAt tile = [] → Runs (.bar2Access tile false off 1 [] [] false at_) s (fun t =>
      (s.pkg.out ++ [.bar2Completion tile [0xFF#8]]) <+: t.pkg.out ∧ t.pkg.cnt tile oHbInNoWin = s.pkg.cnt tile oHbInNoWin + 1 ∧
      t.pkg.on tile (fHbCause 0) = true ∧ Frame s t [pkgAddr tile 0x1800104] [pkgAddr tile oHbInNoWin]))) ∧
  (∀ (tile w off at_ agent : Nat) (data : List Byte) (s : State), s.pkg.tileOn tile = true → w < 16 → 0 < data.length →
    (s.pkg.outRefused tile w off data.length = true → ∀ write : Bool,
      Runs (.outboundAccess tile (.core agent) write w off data.length data (data.map (fun _ => true)) at_) s (fun t =>
        (s.pkg.out ++ (if write then [] else [.outboundData tile (.core agent) (some (List.replicate data.length 0xFF#8))])) <+: t.pkg.out ∧
        (SMap.get {} t.pkg.clusters tile).faults = (SMap.get {} s.pkg.clusters tile).faults + (if agent = 0 then 1 else 0) ∧
        t.pkg.cnt tile oHbOutNoWin = s.pkg.cnt tile oHbOutNoWin + 1 ∧
        t.pkg.on tile (fHbCause 1) = true ∧ Frame s t [pkgAddr tile 0x1800104] [pkgAddr tile oHbOutNoWin])) ∧
    (s.pkg.outRefused tile w off data.length = false → s.pkg.outLanes tile w = 0 →
      (s.pkg.outHost tile w + off) % s.pkg.mps tile + data.length ≤ s.pkg.mps tile →
      Runs (.outboundAccess tile (.core agent) true w off data.length data (data.map (fun _ => true)) at_) s (fun t =>
        (s.pkg.out ++ [.tlpWrite tile (s.pkg.outHost tile w + off) (s.pkg.outNoSnoop tile w) data]) <+: t.pkg.out ∧
        t.pkg.cnt tile oHbCutPieces = s.pkg.cnt tile oHbCutPieces + 1 ∧ Frame s t [] [pkgAddr tile oHbCutPieces, pkgAddr tile oHbPfDiscard])) ∧
    (s.pkg.outRefused tile w off data.length = false → s.pkg.outLanes tile w = 0 → s.pkg.outPrefetch tile w = false →
      (s.pkg.bridge tile).reads = [] → (s.pkg.bridge tile).pf = [] →
      (s.pkg.outHost tile w + off) % min 4096 (s.pkg.mrrs tile) + data.length ≤ min 4096 (s.pkg.mrrs tile) →
      Runs (.outboundAccess tile (.core agent) false w off data.length [] [] at_) s (fun t =>
        (s.pkg.out ++ [.tlpRead tile (s.pkg.outHost tile w + off) data.length ((s.pkg.bridge tile).nextTag % 1024) (s.pkg.outNoSnoop tile w)]) <+:
          t.pkg.out ∧
        t.pkg.cnt tile oHbCutPieces = s.pkg.cnt tile oHbCutPieces + 1 ∧ Frame s t [] [pkgAddr tile oHbCutPieces, pkgAddr tile oHbPfDiscard]))) ∧
  (∀ (tile at_ agent : Nat) (r : OutRead) (p : LivePiece) (s : State), s.pkg.tileOn tile = true → (s.pkg.bridge tile).reads = [r] →
    r.who = .core agent → r.todo = [] → r.live = [p] → p.got = 0 → r.failed = false → r.map ≠ [] →
    (∀ data : List Byte, s.pkg.on tile fHbLink = true → data.length = p.len → r.data = [] → r.map = (List.range p.len).map (fun i => p.addr + i) →
      Runs (.outboundCompletion tile p.tag .sc data at_) s (fun t =>
        (s.pkg.out ++ [.outboundData tile (.core agent) (some data)]) <+: t.pkg.out ∧ (t.pkg.bridge tile).reads = [] ∧
        Frame s t [] [pkgAddr tile oHbPfBytes, pkgAddr tile oHbPfDiscard])) ∧
    (∀ (st : CplStatus) (data : List Byte), s.pkg.on tile fHbLink = true → st ≠ .sc → Runs (.outboundCompletion tile p.tag st data at_) s (fun t =>
      (s.pkg.out ++ [.outboundData tile (.core agent) (some (List.replicate r.map.length 0xFF#8))]) <+: t.pkg.out ∧ (t.pkg.bridge tile).reads = [] ∧
      (SMap.get {} t.pkg.clusters tile).faults = (SMap.get {} s.pkg.clusters tile).faults + (if agent = 0 then 1 else 0) ∧
      t.pkg.cnt tile oHbOutErr = s.pkg.cnt tile oHbOutErr + 1 ∧ t.pkg.on tile (fHbCause 2) = true ∧
      Frame s t [pkgAddr tile 0x1800104] [pkgAddr tile oHbOutErr])) ∧
    Runs (.completionTimeout tile p.tag) s (fun t =>
      (s.pkg.out ++ [.outboundData tile (.core agent) (some (List.replicate r.map.length 0xFF#8))]) <+: t.pkg.out ∧ (t.pkg.bridge tile).reads = [] ∧
      (SMap.get {} t.pkg.clusters tile).faults = (SMap.get {} s.pkg.clusters tile).faults + (if agent = 0 then 1 else 0) ∧
      t.pkg.now = max s.pkg.now (p.sent + ns (1000 * (s.pkg.bridge tile).cplUs)) ∧ t.pkg.cnt tile oHbCplTimeout = s.pkg.cnt tile oHbCplTimeout + 1 ∧
      t.pkg.on tile (fHbCause 3) = true ∧ Frame s t [pkgAddr tile 0x1800104] [pkgAddr tile oHbCplTimeout])) ∧
  (∀ (tile : Nat) (p : PfBuf) (l : List PfBuf) (s : State), s.pkg.tileOn tile = true → (s.pkg.bridge tile).pf = p :: l →
    Runs (.prefetchExpire tile) s (fun t =>
      (t.pkg.bridge tile).pf = l ∧ t.pkg.now = max s.pkg.now (p.came + ns 2000) ∧
      t.pkg.cnt tile oHbPfDiscard = s.pkg.cnt tile oHbPfDiscard + BitVec.ofNat 64 p.bytes.length ∧ Frame s t [] [pkgAddr tile oHbPfDiscard]))

/-- An unmasked vector that is pending sends its message if its summary is still 1. The link comes up with its speed and width, goes down with cause
LINK_DOWN, and a configuration write of the host sets Bus Master Enable, the payload and read request sizes and, where ranges A and B hold it (their
values are the model's, log entry 109), the completion timeout. -/
def Obligations.EndpointControls : Prop :=
  (∀ (a : Acc) (tile vec : Nat) (s : State), tile < 7 → vec < 32 → s.pkg.reaches a.req tile (msixOff vec + 12) 0 →
    Runs (.msixUnmask a tile vec) s (fun t =>
      t.pkg.vecMasked tile vec = false ∧ Frame s t [pkgAddr tile (msixOff vec + 12)] [] ∧
      (s.pkg.tileOn tile = true → (SMap.get {} s.pkg.msix tile).pending.getLsbD vec = true → s.pkg.vecCause tile vec = true →
        s.pkg.vecMessage tile vec ∈ t.pkg.out))) ∧
  (∀ (tile at_ : Nat) (s : State), s.pkg.tileOn tile = true →
    (∀ speed width : Nat, s.pkg.on tile fHbLink = false → 1 ≤ speed → speed ≤ 4 → (width = 1 ∨ width = 2 ∨ width = 4) →
      Runs (.pcieLinkUp tile speed width at_) s (fun t =>
        t.pkg.on tile fHbLink = true ∧ t.pkg.get tile fHbSpeed = speed ∧ t.pkg.get tile fHbWidth = width ∧ Frame s t [pkgAddr tile 0x1800000] [])) ∧
    (s.pkg.on tile fHbLink = true →
      Runs (.pcieLinkDown tile at_) s (fun t =>
        t.pkg.on tile fHbLink = false ∧ t.pkg.on tile (fHbCause 5) = true ∧ Frame s t [pkgAddr tile 0x1800000, pkgAddr tile 0x1800104] []) ∧
      (∀ (bme : Bool) (mps mrrs us : Nat), mps ≤ 2 → mrrs ≤ 5 → Runs (.pcieConfigWrite tile bme mps mrrs us at_) s (fun t =>
        t.pkg.on tile fHbBme = bme ∧ t.pkg.get tile fHbMps = mps ∧ t.pkg.get tile fHbMrrs = mrrs ∧ (t.pkg.bridge tile).cplUs = (if cplRange us then us else (s.pkg.bridge tile).cplUs) ∧
        Frame s t [pkgAddr tile 0x1800000] []))))

/-- TAIL takes the low 12 bits written and the channel looks at HEAD again. STOP halts a channel with no descriptor in progress at once, and marks a
descriptor in progress that is good so far ABORTED (7), the channel halting when it is written back. RESUME clears HALTED and RING_ERR. -/
def Obligations.ChannelCommands : Prop :=
  ∀ (a : Acc) (tile ch : Nat) (s : State), tile < 7 → ch < 16 →
    (∀ v : Word, s.pkg.reaches a.req tile (dmBase ch + 0x14) v → Runs (.dmaTailWrite a tile ch v) s (fun t =>
      t.pkg.get tile (fDmTail.ch ch) = v.toNat % 4096 ∧ (t.pkg.dmaCh tile ch).stuck = false ∧ Frame s t [pkgAddr tile (dmBase ch + 0x14)] [])) ∧
    (s.pkg.reaches a.req tile (dmBase ch + 0x1C) 2 → s.pkg.dmKind tile ch ≠ 0 →
      ((s.pkg.dmaCh tile ch).job = none → Runs (.stop a tile ch) s (fun t =>
        t.pkg.on tile (fDmHalted.ch ch) = true ∧ t.pkg.on tile ((fDmCause 2).ch ch) = true ∧
        Frame s t [pkgAddr tile (dmBase ch + 0x18), pkgAddr tile (dmBase ch + 0x20)] [])) ∧
      (∀ j : DmaJob, (s.pkg.dmaCh tile ch).job = some j → j.bad = false → Runs (.stop a tile ch) s (fun t =>
        (t.pkg.dmaCh tile ch).job = some { j with bad := true, status := 7, check := none } ∧ (t.pkg.dmaCh tile ch).stop = true ∧ Frame s t [] []))) ∧
    (s.pkg.reaches a.req tile (dmBase ch + 0x1C) 1 → s.pkg.dmKind tile ch ≠ 0 → Runs (.resume a tile ch) s (fun t =>
      t.pkg.on tile (fDmHalted.ch ch) = false ∧ t.pkg.on tile (fDmRingErr.ch ch) = false ∧ Frame s t [pkgAddr tile (dmBase ch + 0x18)] []))

/-- A descriptor of a MEM channel in work memory whose OWN bit is 0 stops the channel until the next write of TAIL. One without lists, forced direction or
check value copies LEN bytes between bytes of the tile's memory, overlapping or not, with the bytes as they were before; nothing else changes but the
channel's descriptor in progress. When its accesses have ended, words 8 to 15 and then word 4 with OWN = 0 are written back, HEAD moves on and the counters
count; a write-back that fails halts the channel with RING_ERR. -/
def Obligations.MemoryDescriptor : Prop :=
  (∀ (tile ch at_ : Nat) (s : State), s.pkg.mayTake tile ch = true → s.pkg.dmKind tile ch = 1 → s.settled → s.noEthWaits →
    s.pkg.dmDesc tile ch < 0x200000000 → (∀ i < 64, s.pkg.local tile (s.pkg.dmDesc tile ch + i) = .byte) →
    let d := s.mem.read tile (s.pkg.dmDesc tile ch) 32
    let w4 : Word := BitVec.ofNat 32 (leAt d 16 4)
    let src := leAt d 0 8
    let dst := leAt d 8 8
    let len := fieldGet w4 23 0
    let meet : Bool := decide (src < dst + len) && decide (dst < src + len)
    (w4.getLsbD 31 = false → Runs (.descriptor tile ch [] none at_) s (fun t => (t.pkg.dmaCh tile ch).stuck = true ∧ Frame s t [] [])) ∧
    (w4.getLsbD 31 = true → w4.getLsbD 24 = false → w4.getLsbD 25 = false → w4.getLsbD 26 = false → w4.getLsbD 29 = false → 0 < len →
      (∀ i < len, s.pkg.local tile (src + i) = .byte ∧ s.pkg.local tile (dst + i) = .byte) →
      Runs (.descriptor tile ch [] none at_) s (fun t =>
        (∀ i < len, t.mem.get tile (dst + i) = s.mem.get tile (src + i)) ∧
        (∀ u b, b < 2 ^ 40 → ¬ (u = tile ∧ dst ≤ b ∧ b < dst + len) → t.mem.get u b = s.mem.get u b) ∧
        (t.pkg.dmaCh tile ch).job = some { addr := s.pkg.dmDesc tile ch, word4 := w4, done := len, overlap := meet, down := meet && decide (src < dst) } ∧
        WordsKept s.pkg t.pkg [] ∧ CountsKept s.pkg t.pkg [] ∧ t.pending = s.pending))) ∧
  (∀ (tile ch at_ : Nat) (j : DmaJob) (s : State), s.pkg.tileOn tile = true → ch < 16 → (s.pkg.dmaCh tile ch).job = some j →
    s.pkg.dataDone tile ch = true → j.unit_ = none → s.settled → s.pkg.get tile (fDmRingExp.ch ch) ≤ 12 →
    (j.addr < 0x200000000 → (∀ i < 64, s.pkg.local tile (j.addr + i) = .byte) → Runs (.descriptorDone tile ch false at_) s (fun t =>
      (∀ i < 32, t.mem.get tile (j.addr + 32 + i) = j.words.getD i 0) ∧
      (∀ i < 4, t.mem.get tile (j.addr + 16 + i) = (leBytes 4 (j.word4 &&& 0x7FFFFFFF#32).toNat).getD i 0) ∧
      (∀ u b, b < 2 ^ 40 → ¬ (u = tile ∧ ((j.addr + 16 ≤ b ∧ b < j.addr + 20) ∨ (j.addr + 32 ≤ b ∧ b < j.addr + 64))) → t.mem.get u b = s.mem.get u b) ∧
      t.pkg.get tile (fDmHead.ch ch) = (s.pkg.dmHead tile ch + 1) % s.pkg.dmRing tile ch ∧ (t.pkg.dmaCh tile ch).job = none ∧
      t.pkg.cnt tile (oDmDesc + 0x100 * ch) = s.pkg.cnt tile (oDmDesc + 0x100 * ch) + 1 ∧
      t.pkg.cnt tile (oDmBytes + 0x100 * ch) = s.pkg.cnt tile (oDmBytes + 0x100 * ch) + BitVec.ofNat 64 j.done ∧
      (j.bad = true → t.pkg.cnt tile (oDmBad + 0x100 * ch) = s.pkg.cnt tile (oDmBad + 0x100 * ch) + 1) ∧
      WordsKept s.pkg t.pkg [pkgAddr tile (dmBase ch + 0x10), pkgAddr tile (dmBase ch + 0x18), pkgAddr tile (dmBase ch + 0x20)] ∧
      CountsKept s.pkg t.pkg ([oDmDesc, oDmBytes, oDmBad, oDmOverlaps].map (fun o => pkgAddr tile (o + 0x100 * ch))) ∧ t.pending = s.pending)) ∧
    Runs (.descriptorDone tile ch true at_) s (fun t =>
      (t.pkg.dmaCh tile ch).job = none ∧ t.pkg.on tile (fDmHalted.ch ch) = true ∧ t.pkg.on tile (fDmRingErr.ch ch) = true ∧
      t.pkg.on tile ((fDmCause 2).ch ch) = true ∧ Frame s t [pkgAddr tile (dmBase ch + 0x18), pkgAddr tile (dmBase ch + 0x20)] []))

/-- An RX channel with a frame at the head of its queue and no descriptor it may take is STARVED. With a descriptor in work memory whose buffer is named in
it, lies in the tile's memory and holds the frame, it writes the frame's bytes there and nowhere else, and the frame leaves the queue. -/
def Obligations.ReceiveDescriptor : Prop :=
  ∀ (tile ch at_ : Nat) (d : Delivered) (s : State), s.pkg.tileOn tile = true → ch < 16 → s.pkg.dmKind tile ch = 3 → (s.pkg.dmaCh tile ch).job = none →
    s.pkg.rxFrame tile ch = some d → s.noEthWaits →
    (s.pkg.dmReady tile ch = false → Runs (.rxFrameDma tile ch ⟨[], none⟩ at_) s (fun t =>
      t.pkg.on tile (fDmStarved.ch ch) = true ∧ t.pkg.sw.got = s.pkg.sw.got ∧
      Frame s t [pkgAddr tile (dmBase ch + 0x18), pkgAddr tile (dmBase ch + 0x20)] [])) ∧
    (s.pkg.dmReady tile ch = true → s.settled → d.hold = none → (s.pkg.dmaCh tile ch).rxAt = 0 → s.pkg.dmDesc tile ch < 0x200000000 →
      (∀ i < 64, s.pkg.local tile (s.pkg.dmDesc tile ch + i) = .byte) →
      let w := s.mem.read tile (s.pkg.dmDesc tile ch) 32
      let w4 : Word := BitVec.ofNat 32 (leAt w 16 4)
      let dst := leAt w 8 8
      w4.getLsbD 31 = true → w4.getLsbD 25 = false → w4.getLsbD 29 = false → (BitVec.ofNat 32 (leAt w 20 4) : Word).getLsbD 11 = false →
      0 < d.bytes.length → d.bytes.length ≤ fieldGet w4 23 0 → (∀ i < d.bytes.length, s.pkg.local tile (dst + i) = .byte) →
      Runs (.rxFrameDma tile ch ⟨[], none⟩ at_) s (fun t =>
        (∀ i < d.bytes.length, t.mem.get tile (dst + i) = d.bytes.getD i 0) ∧
        (∀ u b, b < 2 ^ 40 → ¬ (u = tile ∧ dst ≤ b ∧ b < dst + d.bytes.length) → t.mem.get u b = s.mem.get u b) ∧
        t.pkg.sw.got = dropFirst (fun x => x.tile == d.tile && x.port == d.port && x.q == d.q) s.pkg.sw.got ∧
        (∃ j : DmaJob, (t.pkg.dmaCh tile ch).job = some j ∧ j.addr = s.pkg.dmDesc tile ch ∧ j.word4 = w4 ∧ j.bad = false ∧ j.done = d.bytes.length ∧
          j.word9 = rxWord9 d true true ∧ j.stamp = d.info.rxAt / 65536) ∧
        t.pkg.on tile (fDmStarved.ch ch) = false ∧
        WordsKept s.pkg t.pkg [pkgAddr tile (dmBase ch + 0x18), pkgAddr tile (fStalled 16).off] ∧ CountsKept s.pkg t.pkg [] ∧ t.pending = s.pending))

/-- An ALLOC that the reserves allow answers the handle of a buffer that was in the pool and is now owned by the caller alone; one they do not allow answers
EMPTY, counts and sets the pool's EMPTY event, and so does one of an owner that the agent may not act for, recorded as NOT_BOUND (5). SHARE adds the owner, RELEASE removes the caller, the last release and FREE return the buffer. A request
that the checks refuse counts under its code and changes no buffer. -/
def Obligations.PodRequests : Prop :=
  ∀ (a : Acc) (tile owner : Nat) (s : State), tile < 7 → owner < 256 →
    (∀ pool : Nat, pool < 64 → s.pkg.leaves a.req → s.pkg.accessErr a.req (pkgAddr tile (0x1B10000 + 0x100 * owner + 4 * pool)) = 0 →
      s.pkg.queueAt tile = [] → s.pkg.podBound tile owner (s.pkg.portAgent a.req tile) = false → Runs (.alloc a tile owner pool) s (fun t =>
        (s.pkg.out ++ [.reply a.req (pkgAddr tile (0x1B10000 + 0x100 * owner + 4 * pool)) podEmpty]) <+: t.pkg.out ∧ t.pkg.pods = s.pkg.pods ∧
        t.pkg.cnt tile (oPdErrCnt + 40) = s.pkg.cnt tile (oPdErrCnt + 40) + 1 ∧ t.pkg.on tile ⟨oPdErr, 31, 31⟩ = true ∧
        t.pkg.on tile ⟨0x1B00848 + 4 * (pool / 32), pool % 32, pool % 32⟩ = true ∧
        Frame s t [pkgAddr tile oPdErr, pkgAddr tile (oPdErr + 4), pkgAddr tile (0x1B00848 + 4 * (pool / 32))] [pkgAddr tile (oPdErrCnt + 40)])) ∧
    (∀ pool : Nat, pool < 64 → s.pkg.leaves a.req → s.pkg.accessErr a.req (pkgAddr tile (0x1B10000 + 0x100 * owner + 4 * pool)) = 0 →
      s.pkg.queueAt tile = [] → s.pkg.podBound tile owner (s.pkg.portAgent a.req tile) = true → s.pkg.poolThere tile pool = true →
      (s.pkg.podMay tile owner pool = true → SMap.wf (fun _ => none) s.pkg.pods = true →
        (∀ e ∈ s.pkg.podsOut tile pool, e.1 < s.pkg.get tile (fPoolCount.pool pool)) → Runs (.alloc a tile owner pool) s (fun t =>
        (∃ i, i < s.pkg.get tile (fPoolCount.pool pool) ∧ s.pkg.pod tile (pool * 2 ^ 24 + i) = none ∧
          t.pkg.pod tile (pool * 2 ^ 24 + i) = some { by_ := owner, owners := [owner] } ∧
          (s.pkg.out ++ [.reply a.req (pkgAddr tile (0x1B10000 + 0x100 * owner + 4 * pool)) (BitVec.ofNat 32 (pool * 2 ^ 24 + i))]) <+: t.pkg.out ∧
          (∀ u h, podKey u h ≠ podKey tile (pool * 2 ^ 24 + i) → t.pkg.pod u h = s.pkg.pod u h)) ∧
        Frame s t [pkgAddr tile (0x1B00840 + 4 * (pool / 32))] [])) ∧
      (s.pkg.podMay tile owner pool = false → Runs (.alloc a tile owner pool) s (fun t =>
        (s.pkg.out ++ [.reply a.req (pkgAddr tile (0x1B10000 + 0x100 * owner + 4 * pool)) podEmpty]) <+: t.pkg.out ∧ t.pkg.pods = s.pkg.pods ∧
        t.pkg.cnt tile (oPdEmpty + 0x20 * pool) = s.pkg.cnt tile (oPdEmpty + 0x20 * pool) + 1 ∧
        Frame s t [pkgAddr tile (0x1B00848 + 4 * (pool / 32))] [pkgAddr tile (oPdEmpty + 0x20 * pool)]))) ∧
    (∀ h : Word,
      (∀ b : Pod, s.pkg.podCheck tile owner (s.pkg.portAgent a.req tile) h = (0, some b) →
        (∀ other : Nat, other < 256 → s.pkg.reaches a.req tile (0x1B40000 + 0x400 * owner + 4 * other) h → b.owners.contains other = false →
          b.owners.length < 8 → Runs (.share a tile owner other h) s (fun t =>
            t.pkg.pod tile h.toNat = some { b with owners := b.owners ++ [other] } ∧ Frame s t [] [])) ∧
        (s.pkg.reaches a.req tile (0x1B20000 + 4 * owner) h → Runs (.release a tile owner h) s (fun t =>
          t.pkg.pod tile h.toNat = (if (b.owners.filter (· != owner)).isEmpty then none else some { b with owners := b.owners.filter (· != owner) }) ∧
          Frame s t [] [])) ∧
        (s.pkg.reaches a.req tile (0x1B20400 + 4 * owner) h → b.owners = [owner] → Runs (.free a tile owner h) s (fun t =>
          t.pkg.pod tile h.toNat = none ∧ Frame s t [] []))) ∧
      (∀ c : Nat, s.pkg.podCheck tile owner (s.pkg.portAgent a.req tile) h = (c, none) → s.pkg.reaches a.req tile (0x1B20000 + 4 * owner) h →
        Runs (.release a tile owner h) s (fun t =>
          t.pkg.pods = s.pkg.pods ∧ t.pkg.cnt tile (oPdErrCnt + 8 * c) = s.pkg.cnt tile (oPdErrCnt + 8 * c) + 1 ∧ t.pkg.on tile ⟨oPdErr, 31, 31⟩ = true ∧
          Frame s t [pkgAddr tile oPdErr, pkgAddr tile (oPdErr + 4)] [pkgAddr tile (oPdErrCnt + 8 * c)])))

/-- On a check unit that is not BUSY, a write of CK_FEED feeds four bytes, byte 0 first, a write of CK_FEED_B one byte, CK_CMD.RESTART sets the running
value to INIT, CK_CMD.PRESET makes the parameters the row of Table 8-4 that POLY names (outside a unit of the trestle), a write of VALUE_HI loads the
staged low word and the high word, a write of VALUE_LO stages the low word and changes no word. Nothing else changes but the unit's words and what the
home die remembers. -/
def Obligations.CheckUnitWrites : Prop :=
  ∀ (a : Acc) (tile u : Nat) (v : Word) (s : State), u < 8 → tile ≠ 15 → s.pkg.on tile (fCkBusy.ck u) = false →
    (s.pkg.reaches a.req tile (ckBase u + 0x24) v → Runs (.ckFeed a tile u v) s (fun t =>
      t.pkg.ckValue tile u = (leBytes 4 v.toNat).foldl (crcByte (s.pkg.ckPar tile u)) (s.pkg.ckValue tile u) % 2 ^ (s.pkg.ckPar tile u).width ∧
      t.pkg.hidden = ((s.pkg.reach a.at_).remember a.req tile (ckBase u + 0x24) v).hidden ∧
      Frame s t [pkgAddr tile (ckBase u + 0x14), pkgAddr tile (ckBase u + 0x18)] [])) ∧
    (s.pkg.reaches a.req tile (ckBase u + 0x28) v → Runs (.ckFeedB a tile u v) s (fun t =>
      t.pkg.ckValue tile u = crcByte (s.pkg.ckPar tile u) (s.pkg.ckValue tile u) (BitVec.ofNat 8 v.toNat) % 2 ^ (s.pkg.ckPar tile u).width ∧
      t.pkg.hidden = ((s.pkg.reach a.at_).remember a.req tile (ckBase u + 0x28) v).hidden ∧
      Frame s t [pkgAddr tile (ckBase u + 0x14), pkgAddr tile (ckBase u + 0x18)] [])) ∧
    (s.pkg.reaches a.req tile (ckBase u + 0x2C) 1 → Runs (.ckRestart a tile u) s (fun t =>
      t.pkg.ckValue tile u = (s.pkg.ckPar tile u).init ∧
      t.pkg.hidden = ((s.pkg.reach a.at_).remember a.req tile (ckBase u + 0x2C) 1).hidden ∧
      Frame s t [pkgAddr tile (ckBase u + 0x14), pkgAddr tile (ckBase u + 0x18)] [])) ∧
    (s.pkg.reaches a.req tile (ckBase u + 0x2C) 2 → s.pkg.on tile (fCkTrestle.ck u) = false → Runs (.ckPreset a tile u) s (fun t =>
      t.pkg.ckPar tile u = crcPreset (s.pkg.get tile (fCkPoly.ck u)) ∧
      t.pkg.hidden = ((s.pkg.reach a.at_).remember a.req tile (ckBase u + 0x2C) 2).hidden ∧
      Frame s t [pkgAddr tile (ckBase u), pkgAddr tile (ckBase u + 4), pkgAddr tile (ckBase u + 8), pkgAddr tile (ckBase u + 12),
        pkgAddr tile (ckBase u + 16)] [])) ∧
    (s.pkg.reaches a.req tile (ckBase u + 0x18) v → Runs (.ckValueLoad a tile u true v) s (fun t =>
      t.pkg.ckValue tile u = ((SMap.get (s.pkg.rd tile (ckBase u + 0x14)) s.pkg.ckLow (tile * 8 + u)).toNat + v.toNat * 2 ^ 32) %
        2 ^ (s.pkg.ckPar tile u).width ∧
      t.pkg.hidden = ((s.pkg.reach a.at_).remember a.req tile (ckBase u + 0x18) v).hidden ∧
      Frame s t [pkgAddr tile (ckBase u + 0x14), pkgAddr tile (ckBase u + 0x18)] [])) ∧
    (s.pkg.reaches a.req tile (ckBase u + 0x14) v → Runs (.ckValueLoad a tile u false v) s (fun t =>
      (∀ w, SMap.get w t.pkg.ckLow (tile * 8 + u) = v) ∧ Frame s t [] []))

/-- A write of KY_CMD by the active steward. While a command runs it is counted as refused and nothing else happens. Else BUSY is set, the output buffer is
cleared, and the command runs with the result it is judged to have; NONCE and TICKET are never refused at their start. A REVOKE that is accepted also
gets the next number, T_r = now + KY_RV_LEAD_US, and is pending; one that is refused is no revocation. -/
def Obligations.VaultCommandStart : Prop :=
  ∀ (a : Acc) (slot op : Nat) (i : Instr) (s : State), slot < 4096 → (i, op) ∈ [(Instr.derive a slot, 1), (.import_ a slot, 2), (.revoke a slot, 3),
      (.slotRelease a slot, 4)] ++ (if slot = 0 then [(Instr.nonce a, 5), (.attest a, 6), (.ticket a, 7)] else []) →
    s.pkg.reaches a.req 15 0x10004 (BitVec.ofNat 32 (op + 16 * slot)) →
    (s.pkg.on 15 fKyBusy = true → Runs i s (fun t =>
      t.pkg.cnt 15 oKyRefused = s.pkg.cnt 15 oKyRefused + 1 ∧ t.pkg.vault = s.pkg.vault ∧ Frame s t [] [pkgAddr 15 oKyRefused])) ∧
    (s.pkg.on 15 fKyBusy = false → Runs i s (fun t =>
      t.pkg.on 15 fKyBusy = true ∧ t.pkg.bytesAt 15 oKyOut 0x100 = List.replicate 0x100 0 ∧
      (∃ r, t.pkg.vault.run = some r ∧ r.op = op ∧ r.slot = slot ∧ r.result = s.pkg.judgeCommand op slot ∧ (5 ≤ op → op ≠ 6 → r.result = kOk)) ∧
      (op = 3 → s.pkg.judgeCommand 3 slot = kOk →
        t.pkg.vault.revs = s.pkg.vault.revs ++
          [⟨(s.pkg.get 15 fRvSeq + 1) % 65536, slot, (s.pkg.reach a.at_).countNs 15 + 1000 * s.pkg.get 15 fRvLead, false, []⟩] ∧
        t.pkg.get 15 fRvSeq = (s.pkg.get 15 fRvSeq + 1) % 65536 ∧ t.pkg.get 15 fRvPending = (s.pkg.get 15 fRvPending + 1) % 16 ∧
        t.pkg.cnt 15 oKyRevokes = s.pkg.cnt 15 oKyRevokes + 1 ∧
        t.pkg.cnt 15 oRvTr = BitVec.ofNat 64 ((s.pkg.reach a.at_).countNs 15 + 1000 * s.pkg.get 15 fRvLead)) ∧
      ((op = 3 → s.pkg.judgeCommand 3 slot ≠ kOk) → t.pkg.vault.revs = s.pkg.vault.revs) ∧
      Frame s t ([pkgAddr 15 0x10000] ++ (List.range 0x100).map (fun i => pkgAddr 15 (oKyOut + i)) ++
          (if op = 3 ∧ s.pkg.judgeCommand 3 slot = kOk then [pkgAddr 15 0x10058] else []))
        (if op = 3 ∧ s.pkg.judgeCommand 3 slot = kOk then [pkgAddr 15 oRvTr, pkgAddr 15 oKyRevokes] else [])))

/-- With the tamper line down and the vault not locked: DERIVE from an empty or zeroised parent is BAD_SLOT, from a pending or revoked one REVOKED, and
with a parent that is usable but whose policy has no DERIVE bit POLICY, where the label is listed and the kind known. REVOKE of slot 0 or of an empty
slot is BAD_SLOT, of a slot in a pending or revoked subtree REVOKED, and a ninth pending revocation BUSY. RELEASE takes a REVOKED slot whose revocation
has ended, and no other. With the tamper line up every one of them is TAMPERED. The order of DERIVE's checks is the model's choice (log entry on
DERIVE and IMPORT). -/
def Obligations.VaultChecks : Prop :=
  ∀ (s : Pkg) (slot : Nat),
    (s.on 15 fTpLine = true → ∀ op ∈ [1, 2, 3, 4, 6], s.judgeCommand op slot = kTampered) ∧
    (s.on 15 fTpLine = false → s.on 15 fKyLocked = false →
      ((labelOf (argLabel (s.rd 15 oKyArg0))).isSome = true → argKind (s.rd 15 oKyArg0) ≤ 3 →
        ((s.get 15 (fSlState slot) = 0 ∨ s.get 15 (fSlState slot) = 3) → s.judgeCommand 1 slot = kBadSlot) ∧
        (s.get 15 (fSlState slot) = 1 → s.slotPending slot = true → s.judgeCommand 1 slot = kRevoked) ∧
        (s.get 15 (fSlState slot) = 1 → s.slotPending slot = false → (s.get 15 (fSlPolicy slot)).testBit 0 = false → s.judgeCommand 1 slot = kPolicy)) ∧
      ((slot = 0 ∨ s.get 15 (fSlState slot) = 0) → s.judgeCommand 3 slot = kBadSlot) ∧
      (slot ≠ 0 → s.get 15 (fSlState slot) = 1 →
        (s.slotPending slot = true → s.judgeCommand 3 slot = kRevoked) ∧
        (s.slotPending slot = false → 8 ≤ s.get 15 fRvPending → s.judgeCommand 3 slot = kBusy) ∧
        (s.slotPending slot = false → s.get 15 fRvPending < 8 → s.judgeCommand 3 slot = kOk)) ∧
      (s.get 15 (fSlState slot) ≠ 2 → s.judgeCommand 4 slot = kBadSlot) ∧
      (s.get 15 (fSlState slot) = 2 → s.vault.revs = [] → s.judgeCommand 4 slot = kOk))

/-- At its end a command clears BUSY and sets DONE and RESULT. A DERIVE, or an IMPORT to a slot, that is OK and has no expiry fills the lowest empty slot
with the key and reports it; a RELEASE returns its slot to EMPTY with GEN raised; an ATTEST writes a statement that starts with its magic; a TICKET
consumes the nonce whatever its result, and one whose form is bad is BAD_TICKET. A command that was refused changes nothing else. -/
def Obligations.VaultCommandEnd : Prop :=
  ∀ (at_ : Nat) (r : VaultRun) (s : State), s.pkg.vault.run = some r →
    (r.op ≠ 7 → ∀ f : Option Nat, Runs (.vaultCommandDone f at_) s (fun t =>
      t.pkg.on 15 fKyBusy = false ∧ t.pkg.on 15 fKyDone = true ∧ t.pkg.get 15 fKyResult = r.result % 16 ∧ t.pkg.vault.run = none)) ∧
    (r.op ≠ 5 → r.op ≠ 7 → r.result ≠ kOk → Runs (.vaultCommandDone none at_) s (fun t => Frame s t [pkgAddr 15 0x10000] [])) ∧
    (∀ k, r.result = kOk → r.expiry = 0 → s.pkg.emptySlot = some k → r.slot < 4096 → s.pkg.get 15 (fSlDepth r.slot) < 8 → 
      (r.op = 1 ∨ (r.op = 2 ∧ ¬ (argKind r.arg0 = 2 ∧ argPolicy r.arg0 = 0 ∧ r.slot = 0 ∧ s.pkg.modeNow = mProvision))) →
      Runs (.vaultCommandDone none at_) s (fun t =>
        t.pkg.get 15 (fSlState k) = 1 ∧ t.pkg.get 15 (fSlParent k) = r.slot ∧ t.pkg.get 15 (fSlDepth k) = s.pkg.get 15 (fSlDepth r.slot) + 1 ∧
        t.pkg.get 15 (fSlKind k) = argKind r.arg0 ∧ t.pkg.get 15 (fSlPolicy k) = argPolicy r.arg0 ∧ t.pkg.slotKey k = r.key ∧
        t.pkg.get 15 (fSlLabel k) = (if r.op = 1 then argLabel r.arg0 else 0) ∧ t.pkg.get 15 (fSlGen k) = s.pkg.get 15 (fSlGen k) ∧
        t.pkg.get 15 fNewSlot = k ∧ t.pkg.cnt 15 (if r.op = 1 then oKyDerives else oKyImports) = s.pkg.cnt 15 (if r.op = 1 then oKyDerives else oKyImports) + 1 ∧
        Frame s t [pkgAddr 15 (slotOff k), pkgAddr 15 (slotOff k + 4), pkgAddr 15 0x10000, pkgAddr 15 0x10018]
          [pkgAddr 15 (if r.op = 1 then oKyDerives else oKyImports)])) ∧
    (r.op = 3 → Runs (.vaultCommandDone none at_) s (fun t => t.pkg.vault.revs = s.pkg.vault.revs ∧ Frame s t [pkgAddr 15 0x10000] [])) ∧
    (r.op = 4 → r.result = kOk → Runs (.vaultCommandDone none at_) s (fun t =>
      t.pkg.get 15 (fSlState r.slot) = 0 ∧ t.pkg.get 15 (fSlGen r.slot) = (s.pkg.get 15 (fSlGen r.slot) + 1) % 256 ∧ t.pkg.slotKey r.slot = [] ∧
      Frame s t [pkgAddr 15 (slotOff r.slot), pkgAddr 15 (slotOff r.slot + 4), pkgAddr 15 0x10000] [])) ∧
    (r.op = 5 → Runs (.vaultCommandDone none at_) s (fun t =>
      t.pkg.vault.keys = s.pkg.vault.keys ∧ t.pkg.fresh = s.pkg.fresh + 1 ∧ CountsKept s.pkg t.pkg [] ∧
      ((Config.randomBytes s.pkg.fresh 16).length = 16 → t.pkg.bytesAt 15 oKyNonce 16 = Config.randomBytes s.pkg.fresh 16 ∧
        Frame s t ([pkgAddr 15 0x10000] ++ (List.range 4).map (fun i => pkgAddr 15 (oKyNonce + 4 * i))) []))) ∧
    (r.op = 6 → r.result = kOk → Runs (.vaultCommandDone none at_) s (fun t =>
      t.pkg.bytesAt 15 oKyAttest 4 = [0x49#8, 0x4B#8, 0x41#8, 0x54#8] ∧ t.pkg.vault.keys = s.pkg.vault.keys ∧
      Frame s t ([pkgAddr 15 0x10000] ++ (List.range (ceilDiv (s.pkg.reach at_).statement.length 4)).map (fun i => pkgAddr 15 (oKyAttest + 4 * i))) [])) ∧
    (r.op = 7 → (∀ f : Option Nat, Runs (.vaultCommandDone f at_) s (fun t =>
        t.pkg.bytesAt 15 oKyNonce 16 = List.replicate 16 0 ∧ t.pkg.on 15 fKyBusy = false ∧ t.pkg.on 15 fKyDone = true ∧ t.pkg.vault.run = none ∧
        t.pkg.get 15 fKyResult ∈ [kOk, kRefused, kBadTicket] ∧
        (t.pkg.get 15 fKyResult = kOk → t.pkg.cnt 15 oKyTicketsOk = s.pkg.cnt 15 oKyTicketsOk + 1))) ∧
      ((Ticket.mk (s.pkg.bytesAt 15 oKyIn 8192)).formOk = false → Runs (.vaultCommandDone none at_) s (fun t =>
        t.pkg.get 15 fKyResult = kBadTicket ∧ t.pkg.cnt 15 oKyTicketsBad = s.pkg.cnt 15 oKyTicketsBad + 1 ∧
        Frame s t ([pkgAddr 15 0x10000] ++ (List.range 16).map (fun i => pkgAddr 15 (oKyNonce + i))) [pkgAddr 15 oKyTicketsBad])))

/-- KEY_TIMER starts the revocation of the timer's slot. At T_r every slot of the subtree is unusable, on the vault and, here with one tile that has the
message and no secure association, in that tile's caches. The sweep marks the subtree REVOKED once every serving tile has acknowledged. A tile that
receives the message shows its number. -/
def Obligations.RevocationEffects : Prop :=
  (∀ (timer : Nat) (s : State), timer < 64 → s.pkg.on 15 (fTimerValid timer) = true → s.pkg.slotPending (s.pkg.get 15 (fTimerSlot timer)) = false →
    s.pkg.get 15 fRvPending < 8 → s.pkg.on 15 fTpLine = false → Runs (.keyTimer timer) s (fun t =>
      t.pkg.vault.revs = s.pkg.vault.revs ++ [⟨(s.pkg.get 15 fRvSeq + 1) % 65536, s.pkg.get 15 (fTimerSlot timer), s.pkg.rd64 15 (timerOff timer), false, []⟩] ∧
      t.pkg.get 15 fRvPending = s.pkg.get 15 fRvPending + 1 ∧ t.pkg.get 15 fRvSeq = (s.pkg.get 15 fRvSeq + 1) % 65536 ∧
      Frame s t [pkgAddr 15 0x10058] [pkgAddr 15 oRvTr])) ∧
  (∀ (seq : Nat) (r : Revocation) (s : State), s.pkg.vault.revs.find? (fun r => r.seq == seq) = some r →
    (∀ tile, r.committed = false → r.got = [tile] → s.pkg.tileOn tile = true → s.pkg.validSas tile = [] → Runs (.revocationCommit seq) s (fun t =>
      (∀ k, (s.pkg.line k).contains r.slot = true → t.pkg.slotRevoked k = true ∧ t.pkg.slotActive k = false) ∧
      (∀ c ∈ t.pkg.macCache tile ++ t.pkg.trCache tile, c.line.contains r.slot = false) ∧
      t.pkg.get 15 fRvPending = s.pkg.get 15 fRvPending - 1 ∧ Frame s t [pkgAddr 15 0x10058] [pkgAddr tile oKeyInvalidated])) ∧
    (∀ at_ : Nat, r.committed = true → (∀ t ∈ s.pkg.serving, t ∈ r.got) → Runs (.revocationSweepDone seq at_) s (fun t =>
      (∀ k ∈ s.pkg.subtree r.slot, s.pkg.get 15 (fSlState k) = 1 → t.pkg.get 15 (fSlState k) = 2 ∧ t.pkg.on 15 (fSlHasTimer k) = false) ∧
      (∀ x ∈ t.pkg.vault.revs, x.seq ≠ seq) ∧ (s.pkg.get 15 fRvSeq = seq → t.pkg.on 15 fRvDone = true) ∧
      t.pkg.cnt 15 oKySwept = s.pkg.cnt 15 oKySwept + BitVec.ofNat 64 ((s.pkg.subtree r.slot).filter (fun k => s.pkg.get 15 (fSlState k) == 1)).length ∧
      Frame s t ((s.pkg.subtree r.slot).map (fun k => pkgAddr 15 (slotOff k)) ++
        (List.range 64).flatMap (fun m => [pkgAddr 15 (timerOff m), pkgAddr 15 (timerOff m + 4), pkgAddr 15 (timerOff m + 8)]) ++ [pkgAddr 15 0x10058])
        [pkgAddr 15 oKySwept])) ∧
    (∀ tile at_ : Nat, seq < 65536 → s.pkg.tileOn tile = true → s.pkg.pathUp 15 tile = true → tile ∉ r.got → r.committed = false →
      Runs (.revocationMessage tile seq at_) s (fun t =>
        t.pkg.get tile fMsRvSeq = seq ∧ (∀ x ∈ t.pkg.vault.revs, x.seq = seq → tile ∈ x.got) ∧
        Frame s t [pkgAddr tile fMsRvSeq.off, pkgAddr tile fLeaseOk.off] [])))

/-- A beat that names the revocation the tile has applied renews its lease; 8 µs after the last one it lapses. A key transfer fills an entry of the cache
that needs it and makes the association that waits for it ready, or KEY_FAULT where the slot does not fit it. With a path to the vault a write of VALID to
an association whose slot fits waits for its key, and one that names a slot that does not fit sets KEY_FAULT. -/
def Obligations.LeasesAndKeys : Prop :=
  (∀ (tile seq at_ : Nat) (s : State), s.pkg.tileOn tile = true → s.pkg.pathUp 15 tile = true → Runs (.revocationBeat tile seq at_) s (fun t =>
    t.pkg.leaseSt tile = { beatAt := max (max s.pkg.now (ns at_)) 1, beatSeq := seq } ∧ t.pkg.on tile fLeaseOk = (seq == s.pkg.get tile fMsRvSeq) ∧
    Frame s t [pkgAddr tile fLeaseOk.off] [])) ∧
  (∀ (tile : Nat) (s : State), s.pkg.tileOn tile = true → s.pkg.on tile fLeaseOk = true → Runs (.leaseExpire tile) s (fun t =>
    t.pkg.on tile fLeaseOk = false ∧ t.pkg.now = max s.pkg.now ((s.pkg.leaseSt tile).beatAt + ns 8000) ∧ Frame s t [pkgAddr tile fLeaseOk.off] [])) ∧
  (∀ (tile slot at_ : Nat) (s : State), s.pkg.mayTransfer tile slot = true →
    (tile ≤ 1 → s.pkg.trWants tile slot = true → (s.pkg.trCache tile).length < 64 → s.pkg.on tile fTrZeroised = false →
      Runs (.keyTransfer tile slot true at_) s (fun t =>
        s.pkg.cacheEntry slot ∈ t.pkg.trCache tile ∧ t.pkg.macCache tile = s.pkg.macCache tile ∧
        t.pkg.cnt tile oKeyFetches = s.pkg.cnt tile oKeyFetches + 1 ∧ Frame s t [] [pkgAddr tile oKeyFetches])) ∧
    (∀ o, (s.pkg.validSas tile).filter (fun o => s.pkg.get tile (fSaSlot o) == slot && s.pkg.get tile (fSaFault o) == 0 && s.pkg.get tile (fSaRevoked o) == 0) = [o] →
      (s.pkg.macCache tile).length < 1024 → s.pkg.on tile fMsZeroised = false → Runs (.keyTransfer tile slot false at_) s (fun t =>
        s.pkg.cacheEntry slot ∈ t.pkg.macCache tile ∧ t.pkg.on tile (if s.pkg.slotFitsSa tile o then fSaReady o else fSaFault o) = true ∧
        t.pkg.cnt tile oKeyFetches = s.pkg.cnt tile oKeyFetches + 1 ∧ Frame s t [pkgAddr tile (o + 28)] [pkgAddr tile oKeyFetches]))) ∧
  (∀ (a : Acc) (tile off : Nat) (v : Word) (s : State), tile < 7 → 0x3900000 ≤ off → off < 0x3920800 → off % 32 = 0 → s.pkg.reaches a.req tile off v →
    let k := fieldGet v 11 0
    let fits : Bool := s.pkg.get 15 (fSlState k) == 1 && s.pkg.get 15 (fSlKind k) == (if s.pkg.saSuite tile off % 2 = 0 then 1 else 2) &&
      (s.pkg.get 15 (fSlPolicy k)).testBit (if off < 0x3920000 then 5 else 6)
    (fieldGet v 31 31 = 0 → Runs (.saValidWrite a tile off v) s (fun t =>
      t.pkg.rd tile off = v &&& 0x80000FFF#32 ∧ t.pkg.rd tile (off + 28) = 0 ∧ Frame s t [pkgAddr tile off, pkgAddr tile (off + 28)] [])) ∧
    (fieldGet v 31 31 = 1 → s.pkg.pathUp 15 tile = true → s.pkg.slotRevoked k = false → s.pkg.on tile fMsZeroised = false → Runs (.saValidWrite a tile off v) s (fun t =>
      t.pkg.rd tile off = v &&& 0x80000FFF#32 ∧ t.pkg.on tile (fSaFault off) = !fits ∧ t.pkg.on tile (fSaReady off) = false ∧
      t.pkg.on tile (fSaRevoked off) = false ∧ Frame s t [pkgAddr tile off, pkgAddr tile (off + 28)] [])) ∧
    (fieldGet v 31 31 = 1 → s.pkg.pathUp 15 tile = true → s.pkg.slotRevoked k = true → Runs (.saValidWrite a tile off v) s (fun t =>
      t.pkg.on tile (fSaRevoked off) = true ∧ t.pkg.on tile (fSaReady off) = false ∧ Frame s t [pkgAddr tile off, pkgAddr tile (off + 28)] [])))

/-- A tamper source that is enabled latches, and counts unless the counter is full. In BLANK nothing else happens. In a run mode it raises the line, locks
the root, makes every slot ZEROISED with no key left, and the package enters QUARANTINE with REASON 6; here with no vault command running. A tile that
sees the level empties both its key caches and forces the QUARANTINE profile; here with no association and no frame under protection. -/
def Obligations.TamperEffects : Prop :=
  (∀ (source at_ : Nat) (s : State), source < 8 → s.pkg.power.bat ≠ 0 → (4 ≤ source ∨ s.pkg.on 15 ⟨0x50010 + 4 * source, 0, 0⟩ = true) →
    s.pkg.cnt 15 0x50028 ≠ BitVec.allOnes 64 →
    (s.pkg.life = lBlank → Runs (.tamperEvent source at_) s (fun t =>
      t.pkg.on 15 ⟨0x50004, source, source⟩ = true ∧ t.pkg.on 15 ⟨0x50000, source + 1, source + 1⟩ = true ∧
      t.pkg.cnt 15 0x50028 = s.pkg.cnt 15 0x50028 + 1 ∧
      Frame s t [pkgAddr 15 0x50000, pkgAddr 15 0x50004] [pkgAddr 15 0x50008, pkgAddr 15 0x50028])) ∧
    (s.pkg.life ≠ lBlank → s.pkg.life ≠ lScrapped → runMode s.pkg.modeNow = true → s.pkg.on 15 fTpLine = false → s.pkg.vault.run = none →
      Runs (.tamperEvent source at_) s (fun t =>
        t.pkg.on 15 ⟨0x50004, source, source⟩ = true ∧ t.pkg.on 15 fTpLine = true ∧ t.pkg.on 15 fRootLocked = true ∧ t.pkg.vault.keys = [] ∧
        (∀ k < 4096, s.pkg.rd 15 (slotOff k) ≠ 0 → t.pkg.get 15 (fSlState k) = 3) ∧ t.pkg.modeNow = mQuarantine ∧ t.pkg.get 15 fReason = 6 ∧
        Frame s t (([0x50000, 0x50004, 0x70000, 0x10000, 0x60000] ++ (List.range 4096).map slotOff ++ (List.range 0x2000).map (oKyIn + ·) ++
            (List.range 0x2000).map (oKyAttest + ·) ++ (List.range 0x100).map (oKyOut + ·) ++ (List.range 16).map (oKyNonce + ·)).map (pkgAddr 15))
          (([0x50008, 0x50028, oLastChange, oTransitions] : List Nat).map (pkgAddr 15))))) ∧
  (∀ (tile at_ : Nat) (s : State), s.pkg.tileOn tile = true → s.pkg.on 15 fTpLine = true → s.pkg.validSas tile = [] →
    (∀ p < 16, (s.pkg.port tile p).tx = none) → Runs (.tamperLevel tile at_) s (fun t =>
      t.pkg.macCache tile = [] ∧ t.pkg.trCache tile = [] ∧ t.pkg.on tile fMsZeroised = true ∧ t.pkg.on tile ⟨0x400008, 4, 4⟩ = true ∧
      Frame s t [pkgAddr tile fMsZeroised.off, pkgAddr tile fTrZeroised.off, pkgAddr tile 0x400008] []))

/-- In RUN or RUN-PARTIAL a permitted request waits for the next commit of the coordinator; from another mode it is refused and recorded (NOT_FROM_MODE).
PW_CMD.RESET resets the package with REASON 15. A request for TRACE that mode and lifecycle allow is granted at the next round boundary, one they do not
allow is refused; CLOSED ends TRACE at once. SERVICE ends when its ticket lapses, and a package in PROVISION then resets with REASON 19. An INVASIVE
ticket that lapses closes the port. -/
def Obligations.ModeCommands : Prop :=
  (∀ (a : Acc) (v : Word) (s : State), s.pkg.reaches a.req 15 0x60004 v → s.pkg.mode.nextParts = none → s.pkg.mode.provNext = false →
    let m := fieldGet v 3 0
    ((s.pkg.modeNow = mRun ∨ s.pkg.modeNow = mRunPartial) → matrixAllows m s.pkg.life = true → s.pkg.policyAllows m s.pkg.life = true →
      (m = mProvision → Runs (.modeRequest a v) s (fun t => t.pkg.mode.provNext = true ∧ t.pkg.modeNow = s.pkg.modeNow ∧ Frame s t [] [])) ∧
      ((m = mRun ∨ m = mRunPartial) → (∀ u ∈ s.pkg.present, (s.pkg.wantedTiles m).testBit u = true → s.pkg.tileOn u = true) →
        Runs (.modeRequest a v) s (fun t =>
          t.pkg.mode.nextParts = some (s.pkg.wantedTiles m, if s.pkg.wantedTiles m = allTiles s.pkg.variant then mRun else mRunPartial) ∧
          t.pkg.modeNow = s.pkg.modeNow ∧ Frame s t [pkgAddr 15 0x60000] []))) ∧
    (s.pkg.modeNow ≠ mRun → s.pkg.modeNow ≠ mRunPartial → s.pkg.modeNow ≠ mActivating → (m = mRun ∨ m = mRunPartial ∨ m = mProvision) →
      s.pkg.on 15 fModeErrValid = false → Runs (.modeRequest a v) s (fun t =>
        t.pkg.get 15 fModeErrCode = xNotFromMode ∧ t.pkg.get 15 fModeErrTarget = m ∧ t.pkg.on 15 fModeErrValid = true ∧
        t.pkg.cnt 15 oRefused = s.pkg.cnt 15 oRefused + 1 ∧ t.pkg.mode.nextParts = none ∧ Frame s t [pkgAddr 15 0x60018] [pkgAddr 15 oRefused]))) ∧
  (∀ (a : Acc) (v : Word) (s : State), s.pkg.reaches a.req 15 0x6000C v → v.getLsbD 0 = true → parkedMode s.pkg.modeNow = false →
    s.pkg.power.phase ≠ 0 → Runs (.reset a v) s (fun t => WasReset s.pkg t.pkg 15 ∧ t.pending = s.pending)) ∧
  (∀ (a : Acc) (port : Bool) (v : Word) (s : State), (port = true ∨ s.pkg.reaches a.req 15 0x60010 v) →
    (fieldGet v 1 0 = 1 → s.pkg.levelAllowed s.pkg.modeNow s.pkg.life 1 = true → Runs (.debugRequest a port v) s (fun t =>
      t.pkg.mode.debugReq = some 1 ∧ t.pkg.get 15 fDebugReq = 1 ∧ t.pkg.get 15 fDebugLevel = s.pkg.get 15 fDebugLevel ∧
      Frame s t [pkgAddr 15 0x60010] [])) ∧
    (fieldGet v 1 0 = 1 → s.pkg.levelAllowed s.pkg.modeNow s.pkg.life 1 = false → Runs (.debugRequest a port v) s (fun t =>
      t.pkg.on 15 fDebugRefused = true ∧ t.pkg.mode.debugReq = s.pkg.mode.debugReq ∧ Frame s t [pkgAddr 15 0x60010] [])) ∧
    (fieldGet v 1 0 = 0 → s.pkg.get 15 fDebugLevel ≠ 2 → Runs (.debugRequest a port v) s (fun t =>
      t.pkg.get 15 fDebugLevel = 0 ∧ t.pkg.mode.debugReq = none ∧ Frame s t [pkgAddr 15 0x60010, pkgAddr 15 0x60000] []))) ∧
  (∀ (n : Nat) (s : State), s.pkg.mode.service = some n →
    (s.pkg.modeNow ≠ mProvision → Runs .serviceLapse s (fun t =>
      t.pkg.mode.service = none ∧ t.pkg.mode.provNext = false ∧ t.pkg.modeNow = s.pkg.modeNow ∧ Frame s t [] [])) ∧
    (s.pkg.modeNow = mProvision → Runs .serviceLapse s (fun t => t.pkg.mode.service = none ∧ WasReset s.pkg t.pkg 19))) ∧
  (∀ (n : Nat) (s : State), s.pkg.mode.invTicket = some n → Runs .debugTicketLapse s (fun t =>
    t.pkg.mode.invTicket = none ∧ t.pkg.mode.portClosed = true ∧ t.pkg.modeNow = s.pkg.modeNow ∧ Frame s t [] []))

/-- A WAKE pin that becomes active is shown; in a run mode it sets its event, parked it wakes the package. One active for 250 ms is stuck and logged; one
that becomes inactive is neither. A CAN channel that sleeps with pattern wake enters STANDBY at a wake-up pattern and wakes a parked package. A frame the
selective-wake filter hits does so too, one it does not hit lowers the decoder's error count; at 32 errors the channel wakes. -/
def Obligations.WakeSources : Prop :=
  (∀ (pin at_ : Nat) (s : State), pin < 6 →
    (s.pkg.on 15 (fPinLevel pin) = false →
      (parkedMode s.pkg.modeNow = false → s.pkg.modeNow ≠ mWaking → s.pkg.modeNow ≠ mBoot → s.pkg.wake.hk = none → Runs (.wakePin pin at_) s (fun t =>
        t.pkg.on 15 (fPinLevel pin) = true ∧ (s.pkg.get 15 (fPinFunc pin) = 1 → t.pkg.on 15 (fWakeEvt pin) = true) ∧
        Frame s t [pkgAddr 15 (0x20080 + 4 * pin), pkgAddr 15 0x200A0] [])) ∧
      (s.pkg.get 15 (fPinFunc pin) = 1 → (s.pkg.reach at_).mayWake pin = true → Runs (.wakePin pin at_) s (fun t =>
        t.pkg.on 15 (fPinLevel pin) = true ∧ Woken s.pkg t.pkg pin 1 ∧
        Frame s t (pkgAddr 15 (0x20080 + 4 * pin) :: s.pkg.wakeWords) (wakeCounts pin)))) ∧
    Runs (.wakePinInactive pin at_) s (fun t =>
      t.pkg.on 15 (fPinLevel pin) = false ∧ t.pkg.on 15 (fPinStuck pin) = false ∧ Frame s t [pkgAddr 15 (0x20080 + 4 * pin)] []) ∧
    (s.pkg.on 15 (fPinLevel pin) = true → s.pkg.get 15 (fPinFunc pin) = 1 → s.pkg.on 15 (fPinStuck pin) = false → Runs (.wakePinStuck pin) s (fun t =>
      t.pkg.on 15 (fPinStuck pin) = true ∧ Frame s t (pkgAddr 15 (0x20080 + 4 * pin) :: s.pkg.logWords) [pkgAddr 15 oLogLost]))) ∧
  (∀ (ch at_ : Nat) (s : State), ch < 12 → s.pkg.get 15 (fTrx ch) = 4 →
    (s.pkg.on 15 (fWupEn ch) = true → s.pkg.swkActive ch = false → s.pkg.on 15 (fBusDom ch) = false → (s.pkg.reach at_).mayWake (6 + ch) = true →
      Runs (.canWup ch at_) s (fun t =>
        t.pkg.get 15 (fTrx ch) = 3 ∧ Woken s.pkg t.pkg (6 + ch) 2 ∧
        Frame s t (pkgAddr 15 (nmOff ch 0x18) :: s.pkg.wakeWords) (wakeCounts (6 + ch)))) ∧
    (s.pkg.swkActive ch = true → s.pkg.on 15 (fBusDom ch) = false → ∀ m : CanFrame, m.fd = false →
      (s.pkg.swkHit ch m = false → Runs (.selectiveWake ch m at_) s (fun t =>
        t.pkg.get 15 (fFec ch) = s.pkg.get 15 (fFec ch) - 1 ∧ t.pkg.get 15 (fTrx ch) = 4 ∧ Frame s t [pkgAddr 15 (nmOff ch 0x18)] [])) ∧
      (s.pkg.swkHit ch m = true → s.pkg.nmNode ch m = none → (s.pkg.reach at_).mayWake (6 + ch) = true → Runs (.selectiveWake ch m at_) s (fun t =>
        t.pkg.get 15 (fTrx ch) = 3 ∧ Woken s.pkg t.pkg (6 + ch) 3 ∧
        Frame s t (pkgAddr 15 (nmOff ch 0x18) :: s.pkg.wakeWords) (wakeCounts (6 + ch))))) ∧
    (s.pkg.swkActive ch = true → s.pkg.get 15 (fFec ch) = 31 → (s.pkg.reach at_).mayWake (6 + ch) = true → Runs (.swkErrorOverflow ch at_) s (fun t =>
      t.pkg.get 15 (fFec ch) = 32 ∧ t.pkg.get 15 (fTrx ch) = 3 ∧ Woken s.pkg t.pkg (6 + ch) 3 ∧
      Frame s t (pkgAddr 15 (nmOff ch 0x18) :: s.pkg.wakeWords) (wakeCounts (6 + ch)))))

/-- A transceiver in STANDBY for 300 ms goes to SLEEP, is counted and logged; when the watch core fails, every one that is not OFF sleeps. A TXD held dominant
takes the transmitter off the bus until it goes recessive, on CAN and on LIN. A bus held dominant in STANDBY or SLEEP is recorded, counted and logged until
it clears. A command of the watch core takes a channel that is enabled to NORMAL or LISTEN, or to SLEEP, unless it detects a wake in the same clock. -/
def Obligations.TransceiverEffects : Prop :=
  (∀ (ch at_ : Nat) (s : State), ch < 12 →
    (s.pkg.get 15 (fTrx ch) = 3 → s.pkg.get 15 (fCanState ch) = 3 → Runs (.trxFailsafe ch) s (fun t =>
      t.pkg.get 15 (fTrx ch) = 4 ∧ t.pkg.cnt 15 (oTrxFailsafe ch) = s.pkg.cnt 15 (oTrxFailsafe ch) + 1 ∧
      t.pkg.now = max s.pkg.now (SMap.get 0 s.pkg.wake.standby ch - 1 + ns 300000000) ∧
      Frame s t (pkgAddr 15 (nmOff ch 0x18) :: s.pkg.logWords) [pkgAddr 15 (oTrxFailsafe ch), pkgAddr 15 oLogLost])) ∧
    (s.pkg.get 15 (fTrx ch) = 1 → s.pkg.on 15 (fTxdTo ch) = false → Runs (.txdTimeout ch at_) s (fun t =>
      t.pkg.on 15 (fTxdTo ch) = true ∧ t.pkg.canSends ch = false ∧ (∀ e ∈ t.pkg.busQueue ch, e.started = false) ∧
      Frame s t ([pkgAddr 15 (nmOff ch 0x18), pkgAddr 15 (canOff ch 0x1C)] ++ s.pkg.logWords) [pkgAddr 15 oLogLost])) ∧
    Runs (.txdRecessive false ch at_) s (fun t =>
      t.pkg.on 15 (fTxdTo ch) = false ∧ Frame s t [pkgAddr 15 (nmOff ch 0x18), pkgAddr 15 (canOff ch 0x1C)] []) ∧
    ((s.pkg.get 15 (fTrx ch) = 3 ∨ s.pkg.get 15 (fTrx ch) = 4) → s.pkg.on 15 (fBusDom ch) = false → Runs (.busDom ch at_) s (fun t =>
      t.pkg.on 15 (fBusDom ch) = true ∧ t.pkg.cnt 15 (oBusDom ch) = s.pkg.cnt 15 (oBusDom ch) + 1 ∧
      Frame s t (pkgAddr 15 (nmOff ch 0x18) :: s.pkg.logWords) [pkgAddr 15 (oBusDom ch), pkgAddr 15 oLogLost])) ∧
    Runs (.busDomClear ch at_) s (fun t => t.pkg.on 15 (fBusDom ch) = false ∧ Frame s t [pkgAddr 15 (nmOff ch 0x18)] []) ∧
    (∀ cmd : Nat, (cmd = 1 ∨ cmd = 2) → s.pkg.get 15 (fCanMode ch) ≠ 0 → Runs (.transceiverCommand ch cmd at_) s (fun t =>
      t.pkg.get 15 (fTrx ch) = cmd ∧ t.pkg.on 15 (fBusDom ch) = false ∧
      Frame s t [pkgAddr 15 (nmOff ch 0x18), pkgAddr 15 (canOff ch 0x18), pkgAddr 15 (canOff ch 0x1C)] [])) ∧
    (s.pkg.get 15 (fTrx ch) = 3 → SMap.get 0 s.pkg.wake.standby ch = (s.pkg.reach at_).now + 1 → Runs (.transceiverCommand ch 4 at_) s (fun t =>
      t.pkg.get 15 (fTrx ch) = 3 ∧ Frame s t [] [])) ∧
    (s.pkg.get 15 (fTrx ch) ≠ 3 ∨ SMap.get 0 s.pkg.wake.standby ch ≠ (s.pkg.reach at_).now + 1 → Runs (.transceiverCommand ch 4 at_) s (fun t =>
      t.pkg.get 15 (fTrx ch) = 4 ∧ t.pkg.get 15 (fFec ch) = 0 ∧
      Frame s t [pkgAddr 15 (nmOff ch 0x18), pkgAddr 15 (canOff ch 0x18), pkgAddr 15 (canOff ch 0x1C)]
        [pkgAddr s.pkg.steward (oTrDisc tChannelDown)]))) ∧
  (∀ (at_ : Nat) (s : State), Runs (.watchCoreFailsafe at_) s (fun t =>
    (∀ c < 12, t.pkg.get 15 (fTrx c) = if s.pkg.get 15 (fTrx c) = 0 then 0 else 4) ∧
    Frame s t ((List.range 12).flatMap (fun c => [pkgAddr 15 (nmOff c 0x18), pkgAddr 15 (canOff c 0x18), pkgAddr 15 (canOff c 0x1C)]))
      [pkgAddr s.pkg.steward (oTrDisc tChannelDown)])) ∧
  (∀ (ch at_ : Nat) (s : State), ch < 6 → s.pkg.on 15 (fLinEnable ch) = true →
    (ch ∉ s.pkg.bus.linOff → Runs (.linTxdTimeout ch at_) s (fun t =>
      ch ∈ t.pkg.bus.linOff ∧ t.pkg.cnt 15 (oLinNoResponse ch) = s.pkg.cnt 15 (oLinNoResponse ch) + 1 ∧
      Frame s t [] [pkgAddr 15 (oLinNoResponse ch)])) ∧
    Runs (.txdRecessive true ch at_) s (fun t => ch ∉ t.pkg.bus.linOff ∧ Frame s t [] []))

/-- A good NM message on a channel in its ring, here while no channel prepares to sleep and no wake waits for confirmation, makes its networks active and
its sender heard; SLEEP_ACK prepares a consenting channel's sleep; a RING addressed to this node gives it the token. T_TYP_MS later it sends RING to its
successor; without a RING for T_MAX_MS it counts the loss and sends ALIVE; in LIMP_HOME it sends LIMPHOME. A network not carried for 3 T_MAX_MS is
inactive unless it is requested. A channel whose wait in PREPARE_SLEEP ends is in BUS_SLEEP with its transceiver asleep or off; here without READY, so the
package does not park. -/
def Obligations.ConsentRing : Prop :=
  (∀ (ch at_ n : Nat) (m : CanFrame) (s : State), ch < 12 → s.pkg.on 15 (fNmEn ch) = true → s.pkg.canListens ch = true → s.pkg.nmNode ch m = some n →
    nmGood m = true → (∀ c < 12, s.pkg.get 15 (fRing c) ≠ rPrepare) → s.pkg.wake.quiet = none → s.pkg.get 15 (fRing ch) = rRing →
    Runs (.nmMessage ch m at_) s (fun t =>
      (∀ k < 24, (nmPn m).testBit k = true → t.pkg.pnActive k = true) ∧ (n ≠ s.pkg.get 15 fNode → n ∈ (t.pkg.nmCh ch).heard) ∧
      (nmPn m = 0 → s.pkg.consents ch = true → nmAck m = true → t.pkg.get 15 (fRing ch) = rPrepare) ∧
      (nmPn m = 0 → s.pkg.consents ch = false → nmOp m = 2 → nmDest m = s.pkg.get 15 fNode →
        t.pkg.get 15 (fRing ch) = rRing ∧ (t.pkg.nmCh ch).token = some (max s.pkg.now (ns at_))) ∧
      Frame s t [pkgAddr 15 0x20014, pkgAddr 15 (nmOff ch 0x18)] [pkgAddr 15 (oCanTx ch)])) ∧
  (∀ (ch : Nat) (s : State), ch < 12 → s.pkg.canSends ch = true →
    let sent (dest op : Nat) (t : State) : Prop := ∃ b : BusMsg, (s.pkg.out ++ [.bus b]) <+: t.pkg.out ∧ b.bus = ch ∧
      b.id = s.pkg.nmId ch (s.pkg.get 15 fNode) ∧ b.payload = nmPayload dest op (s.pkg.consents ch) false (s.pkg.nmCh ch).seq
        (s.pkg.pnBits (fun n => (s.pkg.get 15 (fPnMap n)).testBit ch))
    (∀ u, (s.pkg.nmCh ch).token = some u → s.pkg.get 15 (fRing ch) = rRing → Runs (.nmRingSend ch) s (fun t =>
      sent (s.pkg.successor ch) 2 t ∧ (t.pkg.nmCh ch).token = none ∧ t.pkg.now = max s.pkg.now (u + ns (1000000 * s.pkg.get 15 fTTyp)) ∧
      Frame s t [] [pkgAddr 15 (oCanTx ch)])) ∧
    ((s.pkg.nmCh ch).token = none → s.pkg.get 15 (fRing ch) = rRing → Runs (.nmRingLost ch) s (fun t =>
      sent (s.pkg.get 15 fNode) 1 t ∧ t.pkg.cnt 15 (oRingLost ch) = s.pkg.cnt 15 (oRingLost ch) + 1 ∧
      Frame s t [] [pkgAddr 15 (oCanTx ch), pkgAddr 15 (oRingLost ch)])) ∧
    (s.pkg.get 15 (fRing ch) = rLimp → s.pkg.consents ch = false → Runs (.limphome ch) s (fun t =>
      sent (s.pkg.get 15 fNode) 3 t ∧ Frame s t [] [pkgAddr 15 (oCanTx ch)]))) ∧
  (∀ (pn : Nat) (s : State), pn < 24 → SMap.get 0 s.pkg.pnSeen pn ≠ 0 → Runs (.pnTimeout pn) s (fun t =>
    t.pkg.pnActive pn = (s.pkg.get 15 fPnReq).testBit pn ∧ (t.pkg.get 15 fPnActive).testBit pn = (s.pkg.get 15 fPnReq).testBit pn ∧
    Frame s t [pkgAddr 15 0x20014] [])) ∧
  (∀ (ch : Nat) (s : State), ch < 12 → s.pkg.get 15 (fRing ch) = rPrepare → s.pkg.on 15 fReady = false → Runs (.nmWaitExpire ch) s (fun t =>
    t.pkg.get 15 (fRing ch) = rSleep ∧ t.pkg.get 15 (fTrx ch) = (if s.pkg.on 15 (fSwkEn ch) || s.pkg.on 15 (fWupEn ch) then 4 else 0) ∧
    t.pkg.modeNow = s.pkg.modeNow ∧
    Frame s t [pkgAddr 15 (nmOff ch 0x18), pkgAddr 15 (canOff ch 0x18), pkgAddr 15 (canOff ch 0x1C)] [pkgAddr s.pkg.steward (oTrDisc tChannelDown)]))

/-- A write of NM_LOCAL.CONFIRM without READY, here with no NM channel, confirms the wake. NEW_PERIOD starts the ledger's period. A tick of the plan whose
projection the allowance carries sheds nothing and shows what was measured and declared; one with no allowance left enters DORMANT. A housekeeping
instant of a kept plan wakes tile 0 alone. The meters charge the ledger, and a fall below WARN_UAH raises LOW. A tile's copy shows the sentinel's words. -/
def Obligations.LedgerEffects : Prop :=
  (∀ (a : Acc) (v : Word) (s : State), s.pkg.reaches a.req 15 0x20010 v → v.getLsbD 0 = false → v.getLsbD 1 = true → s.pkg.nmChannels = [] →
    (∀ c < 12, s.pkg.get 15 (fRing c) ≠ rPrepare ∧ s.pkg.get 15 (fRing c) ≠ rLimp) → Runs (.confirmWake a v) s (fun t =>
      t.pkg.on 15 fConfirmed = true ∧ t.pkg.on 15 fReady = false ∧ t.pkg.get 15 fPnReq = fieldGet v 31 8 ∧
      (s.pkg.on 15 fConfirmed = false → t.pkg.wake.quiet = none) ∧ t.pkg.modeNow = s.pkg.modeNow ∧
      Frame s t [pkgAddr 15 0x20010, pkgAddr 15 0x20014] [])) ∧
  (∀ (a : Acc) (v : Word) (s : State), s.pkg.reaches a.req 15 0x30008 v → v.getLsbD 0 = true → Runs (.newPeriod a v) s (fun t =>
    t.pkg.cnt 15 oElSpent = 0 ∧
    t.pkg.cnt 15 oElHorizonEnd = BitVec.ofNat 64 ((s.pkg.reach a.at_).countNs 15 + s.pkg.get 15 fElHorizonS * 1000000000) ∧
    Frame s t [] [pkgAddr 15 oElSpent, pkgAddr 15 oElHorizonEnd])) ∧
  (∀ (meas nah : Nat) (temp : Int) (s : State), (s.pkg.modeNow = mParkedCold ∨ (s.pkg.modeNow = mParkedWarm ∧ s.pkg.on 15 fRetKept = true)) →
    let p := (s.pkg.reachFrac (s.pkg.wake.tickAt + ns (s.pkg.get 15 fElTick * 1000000000))).charge nah
    let end_ := (p.cnt 15 oElHorizonEnd).toNat
    let tS := (end_ - p.countNs 15) / 1000000000
    (0 < p.remain → p.countNs 15 < end_ → ((max meas (p.declared temp) * tS : Nat) : Int) ≤ p.remain * 3600 →
      (∀ c < 12, s.pkg.on 15 (fSwkEn c) = true → s.pkg.on 15 (fSwkKept c) = true) → Runs (.planTick meas temp nah) s (fun t =>
        t.pkg.rd 15 oElMeas = BitVec.ofNat 32 meas ∧ t.pkg.rd 15 oElDecl = BitVec.ofNat 32 (p.declared temp) ∧
        t.pkg.get 15 fElTemp = (temp % 256).toNat ∧ t.pkg.cnt 15 oElTicks = s.pkg.cnt 15 oElTicks + 1 ∧
        t.pkg.cnt 15 oElSpent = p.cnt 15 oElSpent ∧ t.pkg.modeNow = s.pkg.modeNow ∧
        Frame s t [pkgAddr 15 0x30074, pkgAddr 15 oElMeas, pkgAddr 15 oElDecl] [pkgAddr 15 oElTicks, pkgAddr 15 oElSpent, pkgAddr 15 oElTotal])) ∧
    (p.remain ≤ 0 → s.pkg.modeNow = mParkedCold → Runs (.planTick meas temp nah) s (fun t =>
      t.pkg.modeNow = mDormant ∧ t.pkg.on 15 fExhausted = true ∧ t.pkg.on 15 fRetKept = false ∧ t.pkg.on 15 fHkKept = false ∧
      SentinelKept s.pkg t.pkg []))) ∧
  (∀ (k : Nat) (s : State),
    let end_ := (s.pkg.cnt 15 oElHorizonEnd).toNat
    let at_ := end_ - s.pkg.get 15 fElHorizonS * 1000000000 + k * s.pkg.get 15 fElHkPeriod * 3600000000000
    s.pkg.on 15 fHkKept = true → s.pkg.get 15 fElHkPeriod ≠ 0 → k ≠ 0 → at_ < end_ → s.pkg.countNs 15 ≤ at_ →
    (s.pkg.reachCount 15 at_).mayWake 18 = true → Runs (.planTimer k) s (fun t =>
      Woken s.pkg t.pkg 18 5 ∧ t.pkg.get 15 fPwParts = 1 ∧ t.pkg.wake.hk.isSome = true ∧ Frame s t s.pkg.wakeWords (wakeCounts 18))) ∧
  (∀ (nah at_ : Nat) (s : State), 5 ≤ s.pkg.modeNow → s.pkg.get 15 fElUnseen = 0 → s.pkg.wake.unseenRem = 0 → Runs (.allowanceLow nah at_) s (fun t =>
    t.pkg.cnt 15 oElSpent = s.pkg.cnt 15 oElSpent + BitVec.ofNat 64 nah ∧ t.pkg.cnt 15 oElTotal = s.pkg.cnt 15 oElTotal + BitVec.ofNat 64 nah ∧
    (((s.pkg.rd 15 oElWarn).toNat : Int) ≤ s.pkg.remain → t.pkg.remain < ((s.pkg.rd 15 oElWarn).toNat : Int) → t.pkg.on 15 (fElEvt 0) = true) ∧
    Frame s t [pkgAddr 15 0x30084] [pkgAddr 15 oElSpent, pkgAddr 15 oElTotal])) ∧
  (∀ (tile at_ : Nat) (s : State), s.pkg.tileOn tile = true → 5 ≤ s.pkg.modeNow → s.pkg.pathUp 15 tile = true → Runs (.elCopyRefresh tile at_) s (fun t =>
    (∀ i < 0x26, 4 * i ∉ [0x10, 0x14, 0x18, 0x1C, 0x20, 0x24, 0x88, 0x8C, 0x90, 0x94] →
      t.pkg.rd tile (0x2000000 + 4 * i) = s.pkg.rd 15 (0x30000 + 4 * i)) ∧
    Frame s t ((List.range 0x26).map (fun i => pkgAddr tile (0x2000000 + 4 * i))) []))

/-- A tile confirms its retention; the last one makes WARM_VALID 1. VSTBY below its minimum makes it 0, is logged, and what the unpowered tiles held is
lost: their words read their reset values. A wake that nothing confirms, the end of a housekeeping run, and the last NM channel in BUS_SLEEP with READY
park the package: it is in a parked mode with no tile powered and the debug level CLOSED. -/
def Obligations.RetentionAndParking : Prop :=
  (∀ (tile at_ : Nat) (s : State), s.pkg.modeNow = mParkedWarm → tile < s.pkg.variant.tiles → s.pkg.on 15 fVstbyOn = true →
    tile ∉ s.pkg.power.confirmed → Runs (.retentionConfirm tile at_) s (fun t =>
      t.pkg.power.confirmed = tile :: s.pkg.power.confirmed ∧
      ((∀ u ∈ s.pkg.present, u = tile ∨ u ∈ s.pkg.power.confirmed) → t.pkg.on 15 fWarmValid = true) ∧
      Frame s t [pkgAddr 15 0x60000] [])) ∧
  (∀ (mv at_ : Nat) (s : State), s.pkg.on 15 fVstbyOn = true → mv < 500 → Runs (.vstbyLow mv at_) s (fun t =>
    t.pkg.on 15 fWarmValid = false ∧ t.pkg.get 15 fVstbyMv = mv ∧
    (∀ u ∈ s.pkg.present, s.pkg.tileOn u = false → ∀ o, o < 2 ^ 26 → t.pkg.rd u o = wordReset s.pkg.variant u o) ∧
    (∀ d o, d < 16 → o < 2 ^ 26 → (d = 15 ∨ s.pkg.tileOn d = true) → pkgAddr d o ∉ [pkgAddr 15 0x60000, pkgAddr 15 0x60204] ++ s.pkg.logWords →
      t.pkg.rd d o = s.pkg.rd d o) ∧ t.pending = s.pending)) ∧
  (∀ s : State, s.pkg.mayPark = true →
    let parked (t : State) : Prop := parkedMode t.pkg.modeNow = true ∧ (∀ u, t.pkg.tileOn u = false) ∧ t.pkg.get 15 fDebugLevel = 0 ∧
      t.pkg.wake.quiet = none ∧ t.pkg.wake.hk = none ∧ SentinelKept s.pkg t.pkg [] ∧ t.pending = s.pending
    (∀ u, s.pkg.wake.quiet = some u → Runs .falseWake s (fun t => parked t ∧ t.pkg.cnt 15 oFalseWakes = s.pkg.cnt 15 oFalseWakes + 1)) ∧
    (∀ u, s.pkg.wake.hk = some u → Runs .hkMax s parked) ∧
    (∀ ch, ch < 12 → s.pkg.get 15 (fRing ch) = rPrepare → s.pkg.on 15 fReady = true → s.pkg.wake.hk = none →
      (∀ c ∈ s.pkg.nmChannels, c ≠ ch → s.pkg.get 15 (fRing c) = rSleep) → Runs (.nmWaitExpire ch) s parked))

/-- BAT first at 5.5 V: the sentinel resets and the package enters WAKING with REASON POWER_ON, the vault empty but for slot 0 unless its root is locked. Below
4.5 V with a run rail enabled the package resets with REASON 18; with none, and between 4.5 V and 5.5 V, BAT_LOW shows it. At 5.5 V again BAT_LOW falls and
a WAKING that waited begins. BAT lost: the enables fall, everything is lost but the fuses and the root. -/
def Obligations.BatteryEffects : Prop :=
  (∀ (at_ : Nat) (s : State), s.pkg.power.bat = 0 → Runs (.batPowerUp at_) s (fun t =>
    t.pkg.modeNow = mWaking ∧ t.pkg.get 15 fReason = 0 ∧ t.pkg.get 15 fBatMv = 5500 ∧ t.pkg.power.bat = 2 ∧ t.pkg.power.phase = 1 ∧
    (t.pkg.rootLocked = true → t.pkg.get 15 fSlotsUsed = 0) ∧ (t.pkg.rootLocked = false → t.pkg.get 15 fSlotsUsed = 1 ∧ t.pkg.get 15 (fSlState 0) = 1) ∧
    Frame s t (([0x60000, 0x60008, 0x60204, 0x70000, 0x50000, 0x50004, 0x10000, 0x10058] ++ (List.range 0x400).map (0x16000 + ·) ++
      (List.range 0x8000).map (0x18000 + ·) ++ (List.range 16).map (oKyNonce + ·)).map (pkgAddr 15)) (([oLastChange, oTransitions] : List Nat).map (pkgAddr 15)))) ∧
  (∀ (mv at_ : Nat) (s : State), s.pkg.power.bat ≠ 0 →
    (3800 ≤ mv → mv < 4500 →
      ((∃ g < 5, s.pkg.on 15 (fPwEn g) = true) → s.pkg.power.phase ≠ 3 → Runs (.batLow mv at_) s (fun t =>
        WasReset s.pkg t.pkg 18 ∧ t.pkg.on 15 fBatLow = true ∧ t.pkg.get 15 fBatMv = mv ∧ t.pkg.cnt 15 oBatLowEvents = s.pkg.cnt 15 oBatLowEvents + 1)) ∧
      ((∀ g < 5, s.pkg.on 15 (fPwEn g) = false) → Runs (.batLow mv at_) s (fun t =>
        t.pkg.on 15 fBatLow = true ∧ t.pkg.get 15 fBatMv = mv ∧ t.pkg.power.bat = 1 ∧ Frame s t [pkgAddr 15 0x60200, pkgAddr 15 0x60204] []))) ∧
    (4500 ≤ mv → mv < 5500 → Runs (.batBelowOperating mv at_) s (fun t =>
      t.pkg.on 15 fBatLow = true ∧ t.pkg.get 15 fBatMv = mv ∧ t.pkg.power.bat = 1 ∧ Frame s t [pkgAddr 15 0x60200, pkgAddr 15 0x60204] []))) ∧
  (∀ (mv at_ : Nat) (s : State), s.pkg.power.bat = 1 → 5500 ≤ mv → mv < 65536 → s.pkg.power.wake = none → Runs (.batRecover mv at_) s (fun t =>
    t.pkg.on 15 fBatLow = false ∧ t.pkg.get 15 fBatMv = mv ∧ t.pkg.power.bat = 2 ∧
    (s.pkg.power.restart = true → s.pkg.power.phase = 0 → s.pkg.power.notBefore ≤ s.pkg.now → t.pkg.power.phase = 1 ∧ t.pkg.power.restart = false) ∧
    Frame s t [pkgAddr 15 0x60200, pkgAddr 15 0x60204] [])) ∧
  (∀ (at_ : Nat) (s : State), s.pkg.power.bat ≠ 0 → Runs (.batLost at_) s (fun t =>
    t.pkg.power.bat = 0 ∧ t.pkg.power.lostBat = true ∧ t.pkg.vault.root = s.pkg.vault.root ∧ t.pkg.vault.keys = [] ∧
    (∀ o, 0x70000 ≤ o → o < 0x80000 → t.pkg.rd 15 o = s.pkg.rd 15 o) ∧
    (∀ d o, d < 16 → o < 2 ^ 26 → (d ≠ 15 ∨ o < 0x70000 ∨ 0x80000 ≤ o) → t.pkg.rd d o = wordReset s.pkg.variant d o) ∧
    (∀ d o, t.pkg.cnt d o = 0) ∧ (∀ u b, u < 15 → b < 2 ^ 40 → t.mem.get u b = 0) ∧
    (∀ g < 5, s.pkg.on 15 (fPwEn g) = true → OutEv.pin "PMIC_EN" g false ∈ t.pkg.out) ∧ t.pending = s.pending))

/-- The enable of a group rises after the power-good of the one before, its power-good is shown, and the last one starts the warm path or the cold one. No
power-good 10 ms after the enable parks the package with RAIL_FAULT; a power-good that falls resets it with REASON 18. The enables fall in descending order,
and with the last the rails are off. A sample of the junction temperature shows it with WARN and ALARM; a tile that shuts down is lost and the package
DEGRADED while a steward is left; a wait of 10 s after a shutdown ends. -/
def Obligations.RailsAndTemperature : Prop :=
  (∀ (group at_ : Nat) (s : State), group < 5 →
    (s.pkg.power.phase = 1 →
      (s.pkg.on 15 (fPwEn group) = false → (group = 0 ∨ s.pkg.on 15 (fPwPg (group - 1)) = true) → Runs (.pmicEnable group) s (fun t =>
        t.pkg.on 15 (fPwEn group) = true ∧ OutEv.pin "PMIC_EN" group true ∈ t.pkg.out ∧ Frame s t [pkgAddr 15 0x60200] [])) ∧
      (s.pkg.on 15 (fPwEn group) = true → s.pkg.on 15 (fPwPg group) = false → s.noEthWaits →
        (group < 4 → Runs (.pmicPgRise group at_) s (fun t => t.pkg.on 15 (fPwPg group) = true ∧ Frame s t [pkgAddr 15 0x60200] [])) ∧
        (group = 4 → s.pkg.warmPath = true → Runs (.pmicPgRise group at_) s (fun t =>
          t.pkg.modeNow = (if Nat.land (s.pkg.get 15 fPwParts) (allTiles s.pkg.variant) = allTiles s.pkg.variant then mRun else mRunPartial) ∧
          t.pkg.get 15 fTilesOn = Nat.land (s.pkg.get 15 fPwParts) (allTiles s.pkg.variant) ∧ t.pkg.power.phase = 2 ∧ SentinelKept s.pkg t.pkg [])) ∧
        (group = 4 → s.pkg.warmPath = false → Runs (.pmicPgRise group at_) s (fun t => t.pkg.modeNow = mBoot ∨ parkedMode t.pkg.modeNow = true)) ∧
        Runs (.railTimeout group) s (fun t =>
          t.pkg.on 15 fRailFault = true ∧ t.pkg.cnt 15 oRailFaults = s.pkg.cnt 15 oRailFaults + 1 ∧ parkedMode t.pkg.modeNow = true ∧
          (∀ u, t.pkg.tileOn u = false) ∧ SentinelKept s.pkg t.pkg []))) ∧
    ((s.pkg.power.phase = 1 ∨ s.pkg.power.phase = 2) → s.pkg.on 15 (fPwEn group) = true → s.pkg.on 15 (fPwPg group) = true →
      Runs (.railFault group at_) s (fun t => WasReset s.pkg t.pkg 18 ∧ t.pkg.on 15 fRailFault = true ∧ t.pkg.on 15 (fPwPg group) = false)) ∧
    (s.pkg.power.phase = 3 → s.pkg.on 15 (fPwEn group) = true → (∀ g < 5, group < g → s.pkg.on 15 (fPwEn g) = false) → s.pkg.power.restart = false →
      s.pkg.power.wake = none → Runs (.pmicDisable group at_) s (fun t =>
        t.pkg.on 15 (fPwEn group) = false ∧ t.pkg.on 15 (fPwPg group) = false ∧ OutEv.pin "PMIC_EN" group false ∈ t.pkg.out ∧
        ((∀ g < group, s.pkg.on 15 (fPwEn g) = false) → t.pkg.power.phase = 0) ∧ Frame s t [pkgAddr 15 0x60200] []))) ∧
  (∀ (tile at_ : Nat) (temp : Int) (s : State), s.pkg.tileOn tile = true → -128 ≤ temp → temp ≤ 127 → Runs (.thermalSample tile temp at_) s (fun t =>
    t.pkg.get tile fThermTemp = (temp % 256).toNat ∧ t.pkg.on tile fThermWarn = decide ((s.pkg.get tile fThermWarnC : Int) ≤ temp) ∧
    t.pkg.on tile fThermAlarm = decide (125 ≤ temp) ∧
    (125 ≤ temp → s.pkg.on tile fThermAlarm = false → t.pkg.cnt tile oThermAlarms = s.pkg.cnt tile oThermAlarms + 1) ∧
    Frame s t [pkgAddr tile 0x40, pkgAddr tile 0x48] [pkgAddr tile oThermAlarms])) ∧
  (∀ (tile at_ : Nat) (s : State), 2 ≤ tile → s.pkg.inService tile = true → s.pkg.inService 0 = true → s.pkg.modeNow = mRun → s.pkg.ks.active = false →
    s.calm → Runs (.thermalShutdown tile at_) s (fun t =>
      t.pkg.on 15 (fThermShut tile) = true ∧ t.pkg.isLost tile = true ∧ t.pkg.modeNow = mDegraded ∧ t.pkg.get 15 fReason = 10 ∧
      t.pkg.cnt 15 oThermShutdowns = s.pkg.cnt 15 oThermShutdowns + 1 ∧
      OthersKept s.pkg t.pkg tile [pkgAddr 15 0x60200, pkgAddr 15 0x60000]
        [pkgAddr 15 oThermShutdowns, pkgAddr 15 oLastChange, pkgAddr 15 oTransitions])) ∧
  (∀ s : State, s.pkg.power.notBefore ≠ 0 → s.pkg.power.wake = none → Runs .thermalRestart s (fun t =>
    t.pkg.power.notBefore = 0 ∧ t.pkg.now = max s.pkg.now s.pkg.power.notBefore ∧
    (s.pkg.power.restart = true → s.pkg.power.phase = 0 → s.pkg.power.bat = 2 → t.pkg.power.phase = 1) ∧ Frame s t [] []))

/-- A round closes at a multiple of ROUND_US, at an input mismatch, or early, counted under the lowest code of Table 12-1 that holds; it holds the outputs its cores' accesses
made, keeps their inputs, and takes the access faults that came meanwhile to the next round; SG_ROUND_START takes the count; on the active steward a waiting
TRACE request that is still allowed takes effect there. A core that is late is missing. Equal digests of the cores in service release the round: what it
held leaves, here nothing, or one output to memory. With an input that failed, or digests that
differ, the round is replayed: digests that then agree release it; in TMR a majority whose only dissenter is the same core both times excludes that core
and goes on as DUPLEX; anything else fails the round, which is reported. A due voter test that fails also fails the round. -/
def Obligations.RoundsAndVotes : Prop :=
  (∀ (tile at_ : Nat) (run : RoundRun) (s : State), s.pkg.runsRounds tile = true → (s.pkg.cluster tile).closed = false →
    let counts := countsOf (s.pkg.coresIn tile) run
    let x := s.pkg.runRound tile run (leadCount counts)
    let counted := ((run.early.toList.filter (· ≠ 0)).map (fun c => pkgAddr tile (oEarlyClose c))) ++ [pkgAddr tile oRoundStart]
    let held : State → Prop := fun t =>
      (t.pkg.cluster tile).closed = true ∧ (t.pkg.cluster tile).held = x.held ∧ (t.pkg.cluster tile).log = x.log ∧
      (t.pkg.cluster tile).point = leadCount counts + 256 ∧ (t.pkg.cluster tile).due = (s.pkg.cluster tile).faults ∧ (t.pkg.cluster tile).faults = 0 ∧
      (t.pkg.cluster tile).badInput = (run.early == some 0)
    x.held.length ≤ 512 → x.log.length ≤ 4096 → closeTogether counts = true →
    (if run.early = none then (s.pkg.reach at_).countNs tile % (1000 * s.pkg.get tile fRoundUs) = 0
     else run.early = some 0 ∨ run.early = some (s.pkg.closeCode tile x run)) →
    ((tile ≠ s.pkg.steward ∨ s.pkg.mode.debugReq = none) → Runs (.roundBoundary tile run at_) s (fun t =>
      held t ∧ (∀ c, run.early = some c → c ≠ 0 → t.pkg.cnt tile (oEarlyClose c) = s.pkg.cnt tile (oEarlyClose c) + 1) ∧
      t.pkg.cnt tile oRoundStart = BitVec.ofNat 64 ((s.pkg.reach at_).countNs tile) ∧ Frame s t [] counted)) ∧
    (tile = s.pkg.steward → s.pkg.mode.debugReq = some 1 → s.pkg.modeNow ≠ mActivating → s.pkg.levelAllowed s.pkg.modeNow s.pkg.life 1 = true →
      s.pkg.get 15 fDebugLevel ≠ 2 → Runs (.roundBoundary tile run at_) s (fun t =>
        held t ∧ t.pkg.get 15 fDebugLevel = 1 ∧ t.pkg.mode.debugReq = none ∧ Frame s t [pkgAddr 15 0x60000] counted))) ∧
  (∀ (tile core : Nat) (s : State), s.pkg.runsRounds tile = true → (s.pkg.cluster tile).closed = true → core < 3 →
    Runs (.digestGrace tile core) s (fun t => core ∈ (t.pkg.cluster tile).missing ∧ (t.pkg.cluster tile).closed = true ∧ Frame s t [] [])) ∧
  (∀ (tile at_ : Nat) (v : VoteIn) (e : OutEntry) (s : State), s.pkg.runsRounds tile = true → (s.pkg.cluster tile).closed = true → s.settled →
    agreed (ballots (s.pkg.coresIn tile) (s.pkg.cluster tile).missing v.first) = true → v.input = false → (s.pkg.cluster tile).badInput = false →
    (s.pkg.cluster tile).since + 1 < s.pkg.get tile fInjectPeriod → (s.pkg.cluster tile).held = [e] → e.be.length = e.data.length →
    s.pkg.coreKind tile e.addr = .data → (∀ i < e.data.length, s.pkg.local tile (e.addr + i) = .byte) → e.data ≠ [] →
    Runs (.vote tile v at_) s (fun t =>
      (∀ i < e.data.length, t.mem.get tile (e.addr + i) = if e.be.getD i false then e.data.getD i 0 else s.mem.get tile (e.addr + i)) ∧
      (∀ u b, b < 2 ^ 40 → ¬ (u = tile ∧ e.addr ≤ b ∧ b < e.addr + e.data.length) → t.mem.get u b = s.mem.get u b) ∧
      (t.pkg.cluster tile).held = [] ∧ (t.pkg.cluster tile).leaving = [] ∧ t.pkg.cnt tile oSgRound = s.pkg.cnt tile oSgRound + 1 ∧
      WordsKept s.pkg t.pkg [pkgAddr tile 0x1D00010] ∧ CountsKept s.pkg t.pkg [pkgAddr tile oSgRound, pkgAddr tile (oSg 0)] ∧ t.pending = s.pending)) ∧
  (∀ (tile at_ : Nat) (v : VoteIn) (s : State), s.pkg.runsRounds tile = true → (s.pkg.cluster tile).closed = true →
    (s.pkg.cluster tile).held = [] → (s.pkg.cluster tile).leaving = [] →
    let b := ballots (s.pkg.coresIn tile) (s.pkg.cluster tile).missing v.first
    let b2 := ballots (s.pkg.coresIn tile) [] v.replay
    let input := v.input || (s.pkg.cluster tile).badInput
    let due := decide (s.pkg.get tile fInjectPeriod ≤ (s.pkg.cluster tile).since + 1)
    let released : State → Prop := fun t =>
      t.pkg.cnt tile oSgRound = s.pkg.cnt tile oSgRound + 1 ∧ t.pkg.get tile fRound16 = (s.pkg.cnt tile oSgRound + 1).toNat % 65536 ∧
      t.pkg.cnt tile (oSg 0) = s.pkg.cnt tile (oSg 0) + 1 ∧ (t.pkg.cluster tile).closed = false ∧
      (t.pkg.cluster tile).reports = (s.pkg.cluster tile).reports
    let failed : State → Prop := fun t => (t.pkg.cluster tile).reports = true ∧ (t.pkg.cluster tile).closed = false
    (agreed b = true → input = false →
      (due = false → Runs (.vote tile v at_) s (fun t =>
        released t ∧ (t.pkg.cluster tile).since = (s.pkg.cluster tile).since + 1 ∧
        Frame s t [pkgAddr tile 0x1D00010] [pkgAddr tile oSgRound, pkgAddr tile (oSg 0)])) ∧
      (due = true → v.testOk = true → Runs (.vote tile v at_) s (fun t =>
        released t ∧ (t.pkg.cluster tile).since = 0 ∧ t.pkg.cnt tile (oSg 5) = s.pkg.cnt tile (oSg 5) + 1 ∧
        Frame s t [pkgAddr tile 0x1D00010] [pkgAddr tile oSgRound, pkgAddr tile (oSg 0), pkgAddr tile (oSg 5)])) ∧
      (due = true → v.testOk = false → Runs (.vote tile v at_) s (fun t =>
        failed t ∧ t.pkg.on tile (fSgEvt 3) = true ∧ t.pkg.cnt tile (oSg 5) = s.pkg.cnt tile (oSg 5) + 1 ∧
        t.pkg.cnt tile (oSg 6) = s.pkg.cnt tile (oSg 6) + 1 ∧ Frame s t [pkgAddr tile 0x1D00014] [pkgAddr tile (oSg 5), pkgAddr tile (oSg 6)]))) ∧
    ((agreed b = false ∨ input = true) →
      (agreed b2 = true → Runs (.vote tile v at_) s (fun t =>
        released t ∧ t.pkg.on tile (fSgEvt 0) = true ∧ t.pkg.cnt tile (oSg 1) = s.pkg.cnt tile (oSg 1) + 1 ∧
        t.pkg.cnt tile (oSg 2) = s.pkg.cnt tile (oSg 2) + 1 ∧
        Frame s t [pkgAddr tile 0x1D00010, pkgAddr tile 0x1D00014, pkgAddr tile oLastMismatch]
          [pkgAddr tile oSgRound, pkgAddr tile (oSg 0), pkgAddr tile (oSg 1), pkgAddr tile (oSg 2)])) ∧
      (∀ (x : Quad × Quad) (k : Nat), agreed b2 = false → s.pkg.get tile fCluster = clTmr → majority b2 = some x → dissenters b = [k] →
        dissenters b2 = [k] → Runs (.vote tile v at_) s (fun t =>
          released t ∧ t.pkg.get tile fCoresIn = s.pkg.get tile fCoresIn - 2 ^ k ∧ t.pkg.get tile fCluster = clDuplex ∧
          t.pkg.on tile (fSgEvt 0) = true ∧ t.pkg.on tile (fSgEvt 1) = true ∧ t.pkg.cnt tile (oSg 3) = s.pkg.cnt tile (oSg 3) + 1 ∧
          Frame s t [pkgAddr tile 0x1D00010, pkgAddr tile 0x1D00014, pkgAddr tile oLastMismatch]
            [pkgAddr tile oSgRound, pkgAddr tile (oSg 0), pkgAddr tile (oSg 1), pkgAddr tile (oSg 3)])) ∧
      (agreed b2 = false →
        (s.pkg.get tile fCluster ≠ clTmr ∨ majority b2 = none ∨ (dissenters b).length ≠ 1 ∨ dissenters b ≠ dissenters b2) →
        Runs (.vote tile v at_) s (fun t =>
          failed t ∧ t.pkg.on tile (fSgEvt 0) = true ∧ t.pkg.on tile (fSgEvt 2) = true ∧ t.pkg.cnt tile (oSg 1) = s.pkg.cnt tile (oSg 1) + 1 ∧
          t.pkg.cnt tile (oSg 4) = s.pkg.cnt tile (oSg 4) + 1 ∧
          Frame s t [pkgAddr tile 0x1D00014, pkgAddr tile oLastMismatch] [pkgAddr tile (oSg 1), pkgAddr tile (oSg 4)]))))

/-- A standby round with the active's digest makes the standby HEALTHY; one with another digest is counted, flagged, and sends it to SYNCING, and the third
failure within 10 s leaves it UNHEALTHY. A checkpoint reaches a standby in SYNCING. A takeover that the standby detects, here with no output to repeat,
no commit running and no frame for the T1S ports, moves the steward to tile 1. A cluster that reports a failure restarts, the steward's with DEGRADED (11); a second restart of the
steward within 10 s resets the package. A reload that is done gives the role back. REJOIN ends split mode, DOUBT_CLEAR empties the doubt list. -/
def Obligations.StandbyAndRestarts : Prop :=
  (∀ (d : Quad) (ok : Bool) (at_ : Nat) (s : State), s.pkg.standby.isSome = true → s.pkg.get 1 fRole = roleStandby →
    (s.pkg.health = hHealthy ∨ (s.pkg.health = hSyncing ∧ (s.pkg.cluster 1).synced = true)) →
    let recent := ((s.pkg.cluster 1).fails.filter (fun u => decide ((s.pkg.reach at_).now < u + ns (10 * 1000000000)))).length
    let sync := if 3 ≤ recent + 1 then hUnhealthy else hSyncing
    let head := [pkgAddr 0 0x1D00010, pkgAddr 1 0x1D00010]
    ((s.pkg.cluster s.pkg.steward).digest = some d → ok = true → Runs (.standbyRound d ok at_) s (fun t =>
      t.pkg.health = hHealthy ∧ t.pkg.cnt 1 (oSg 7) = s.pkg.cnt 1 (oSg 7) + 1 ∧ (t.pkg.cluster s.pkg.steward).digest = none ∧ Frame s t head [pkgAddr 1 (oSg 7)])) ∧
    (∀ x, (s.pkg.cluster s.pkg.steward).digest = some x → x ≠ d → ok = true → Runs (.standbyRound d ok at_) s (fun t =>
      t.pkg.health = sync ∧ (t.pkg.cluster 1).synced = false ∧ t.pkg.on 1 (fSgEvt 4) = true ∧ t.pkg.cnt 1 (oSg 8) = s.pkg.cnt 1 (oSg 8) + 1 ∧
      Frame s t (head ++ [pkgAddr 0 0x1D00014, pkgAddr 1 0x1D00014]) [pkgAddr 1 (oSg 8)])) ∧
    ((s.pkg.cluster s.pkg.steward).digest.isSome = true → ok = false → Runs (.standbyRound d ok at_) s (fun t =>
      t.pkg.health = sync ∧ (t.pkg.cluster 1).synced = false ∧ Frame s t head []))) ∧
  (∀ (at_ : Nat) (s : State), s.pkg.standby.isSome = true → s.pkg.health = hSyncing → Runs (.standbySync at_) s (fun t =>
    (t.pkg.cluster 1).synced = true ∧ t.pkg.health = hSyncing ∧ Frame s t [] [])) ∧
  (∀ (cause : StbyCause) (at_ : Nat) (s : State), s.calm → (s.pkg.trestle 1).ready = [] → (s.pkg.reach at_).detects cause = true →
    (∀ p ∈ [24, 25, 26, 27], (s.pkg.port 0 p).tx = none ∧ (s.pkg.port 0 p).susp = none ∧ ∀ q < 8, s.pkg.queue 0 p q = []) →
    s.pkg.unmirrored = [] → s.pkg.ks.active = false → Runs (.standbyTimeout cause [] at_) s (fun t =>
      t.pkg.steward = 1 ∧ t.pkg.get 1 fRole = roleActive ∧ t.pkg.get 0 fRole = roleManager ∧ t.pkg.on 1 (fSgEvt 5) = true ∧ t.pkg.health = hAbsent ∧
      t.pkg.cnt 1 (oSg 9) = s.pkg.cnt 1 (oSg 9) + 1 ∧ t.pkg.cnt 1 (oEarlyClose 6) = s.pkg.cnt 1 (oEarlyClose 6) + 1 ∧
      t.pkg.cnt 1 oSgRound = s.pkg.cnt 0 oSgRound + 1 ∧
      (s.pkg.modeNow = mRun ∨ s.pkg.modeNow = mRunPartial → t.pkg.modeNow = mDegraded ∧ t.pkg.get 15 fReason = 11) ∧
      Frame s t ([pkgAddr 15 0x60000, pkgAddr 0 0x1D00010, pkgAddr 1 0x1D00010, pkgAddr 1 0x1D00014] ++
          (s.pkg.generateCounters 1).flatMap (fun i => [pkgAddr 1 (fvOff i), pkgAddr 1 (fvOff i + 4)]))
        [pkgAddr 15 oLastChange, pkgAddr 15 oTransitions, pkgAddr 1 (oSg 0), pkgAddr 1 (oSg 9), pkgAddr 1 (oEarlyClose 6), pkgAddr 1 oSgRound,
         pkgAddr 1 oRoundStart])) ∧
  (∀ (tile at_ : Nat) (s : State), s.calm → s.pkg.runsRounds tile = true → s.pkg.inService tile = true →
    (tile ≠ s.pkg.steward ∨ s.pkg.standbyReady = false) → (s.pkg.cluster tile).reports = true →
    let recent := (s.pkg.cluster tile).restarts.filter (fun u => decide ((s.pkg.reach at_).now < u + ns (10 * 1000000000)))
    (recent = [] → Runs (.stewardRestart tile at_) s (fun t =>
      t.pkg.get tile fRole = roleRestarting ∧ t.pkg.on tile (fSgEvt 7) = true ∧ t.pkg.cnt tile (oSg 10) = s.pkg.cnt tile (oSg 10) + 1 ∧
      (t.pkg.cluster tile).reports = false ∧
      (tile = s.pkg.steward → s.pkg.modeNow = mRun → t.pkg.modeNow = mDegraded ∧ t.pkg.get 15 fReason = 11) ∧
      Frame s t ([pkgAddr tile 0x1D00010, pkgAddr tile 0x1D00014] ++ (if tile = s.pkg.steward then [pkgAddr 15 0x60000] else []))
        ([pkgAddr tile (oSg 10)] ++ (if tile = s.pkg.steward then [pkgAddr 15 oLastChange, pkgAddr 15 oTransitions] else [])))) ∧
    (recent ≠ [] → tile = s.pkg.steward → s.pkg.power.phase ≠ 0 → Runs (.stewardRestart tile at_) s (fun t => WasReset s.pkg t.pkg 15))) ∧
  (∀ (tile at_ : Nat) (s : State), s.pkg.inService tile = true → s.pkg.get tile fRole = roleRestarting →
    (tile ≠ s.pkg.steward ∨ s.pkg.on 0 fUpTrial = false) → Runs (.stewardReloadDone tile at_) s (fun t =>
      t.pkg.get tile fRole = (if tile = s.pkg.steward then roleActive else roleManager) ∧ (t.pkg.cluster tile).closed = false ∧
      t.pkg.cnt tile oRoundStart = BitVec.ofNat 64 ((s.pkg.reach at_).countNs tile) ∧
      Frame s t [pkgAddr tile 0x1D00010] [pkgAddr tile oRoundStart])) ∧
  (∀ (a : Acc) (tile : Nat) (v : Word) (s : State), tile < 7 → s.pkg.reaches a.req tile 0x1D00008 v → v.getLsbD 0 = true → s.pkg.get tile fCluster = clSplit →
    Runs (.rejoin a tile v) s (fun t =>
      t.pkg.get tile fCluster = clTmr ∧ t.pkg.get tile fCoresIn = 7 ∧ t.pkg.get tile fRole = s.pkg.get tile fRole ∧
      Frame s t [pkgAddr tile 0x1D00010] [pkgAddr tile oRoundStart])) ∧
  (∀ (a : Acc) (tile : Nat) (v : Word) (s : State), tile < 7 → s.pkg.reaches a.req tile 0x1D0000C v → v.getLsbD 0 = true →
    Runs (.doubtClear a tile v) s (fun t =>
      t.pkg.get tile fDoubtCount = 0 ∧ t.pkg.get tile fDoubtOvf = 0 ∧ (∀ i < 32, t.pkg.rd tile (doubtOff i) = 0 ∧ t.pkg.rd tile (doubtOff i + 4) = 0) ∧
      Frame s t (pkgAddr tile 0x1D00028 :: (List.range 0x100).map (fun i => pkgAddr tile (doubtOff 0 + i))) []))

/-- At a periodic T_s a tile latches all its counters; a die that holds a prepare does so at the T_s it names. A request on an idle coordinator fixes T_s
and takes in every tile in service, here with every present tile in service and T_s not yet past; a busy one counts. A prepare that arrives after T_s
latches as LATE. A latched bank is published in its window, also in the clock in which HOLD is set, or waits behind it under HOLD. A die that has not reported is ABSENT. -/
def Obligations.CensusEffects : Prop :=
  (∀ (die at_ : Nat) (s : State), die < 7 → s.pkg.tileOn die = true → s.pkg.on die fPeriodic = true → s.pkg.get die fIntervalUs ≠ 0 →
    at_ % us (s.pkg.get die fIntervalUs) = 0 → Runs (.censusLatch die true at_) s (fun t =>
      (t.pkg.cenDie die).bank = some { ts := at_, latched := (s.pkg.reach at_).countNs die, status := bit (s.pkg.cenUnlocked die), vals := s.pkg.cenVals die } ∧
      Frame s t [pkgAddr die 0x1E00018] [])) ∧
  (∀ (die at_ ts : Nat) (s : State), s.pkg.dieOn die = true → (s.pkg.cenDie die).pend = some ts → Runs (.censusLatch die false at_) s (fun t =>
    (t.pkg.cenDie die).bank = some { ts := ts, latched := (s.pkg.reachCount die ts).countNs die, status := bit (s.pkg.cenUnlocked die), vals := s.pkg.cenVals die } ∧
    (t.pkg.cenDie die).pend = none ∧ Frame s t [pkgAddr die 0x1E00018] [])) ∧
  (∀ (a : Acc) (tile : Nat) (v : Word) (s : State), tile < 7 → s.pkg.reaches a.req tile 0x1E00008 v → v.getLsbD 0 = true → tile = s.pkg.steward →
    let now := (s.pkg.reach a.at_).countNs tile
    let ts := if v.getLsbD 1 then s.pkg.rd64 tile oCenAt else now + us (s.pkg.get tile fLeadUs)
    let dies := s.pkg.serving ++ (if s.pkg.on tile fIncludeSnt then [15] else [])
    (s.pkg.get tile fCenState = 0 → (∀ u ∈ s.pkg.present, s.pkg.inService u = true) → now ≤ ts → Runs (.censusRequest a tile v) s (fun t =>
      t.pkg.cenReq = ⟨true, tile, ts, dies, dies.filter (· != tile), false⟩ ∧ t.pkg.get tile fCenState = 1 ∧ (t.pkg.cenDie tile).pend = some ts ∧
      Frame s t [pkgAddr tile 0x1E00018, pkgAddr tile 0x1E0001C] [])) ∧
    (s.pkg.get tile fCenState ≠ 0 → Runs (.censusRequest a tile v) s (fun t =>
      t.pkg.cnt tile oCenBusy = s.pkg.cnt tile oCenBusy + 1 ∧ t.pkg.cenReq = s.pkg.cenReq ∧ Frame s t [] [pkgAddr tile oCenBusy]))) ∧
  (∀ (die at_ : Nat) (s : State), s.pkg.cenReq.active = true → die ∈ s.pkg.cenReq.unsent → s.pkg.dieOn die = true →
    s.pkg.pathUp s.pkg.cenReq.tile die = true → Runs (.censusPrepare die at_) s (fun t =>
      die ∉ t.pkg.cenReq.unsent ∧
      ((s.pkg.reach at_).countNs die ≤ s.pkg.cenReq.ts → (t.pkg.cenDie die).pend = some s.pkg.cenReq.ts) ∧
      (s.pkg.cenReq.ts < (s.pkg.reach at_).countNs die → (t.pkg.cenDie die).bank =
        some { ts := s.pkg.cenReq.ts, latched := (s.pkg.reach at_).countNs die, status := 1, vals := s.pkg.cenVals die }) ∧
      Frame s t [pkgAddr die 0x1E00018] [])) ∧
  (∀ (die at_ : Nat) (b : CenBank) (s : State), die < 7 → s.pkg.tileOn die = true → (s.pkg.cenDie die).bank = some b → b.vals.length ≤ 4656 →
    let w := b.words 291
    let c := s.pkg.cenReq.tile
    let show_ := [pkgAddr die 0x1E00018, pkgAddr c 0x1E00018, pkgAddr c 0x1E0001C]
    (s.pkg.on die fCenHold = false ∨ (s.pkg.cenDie die).heldAt = some (s.pkg.reach at_).now → Runs (.censusPublish die at_) s (fun t =>
      (t.pkg.cenDie die).bank = none ∧ (∀ i < w.length, t.pkg.rd die (0x3A00000 + 4 * i) = w.getD i 0) ∧ t.pkg.on die fCenDone = true ∧
      t.pkg.cnt die oCenLastTs = BitVec.ofNat 64 b.ts ∧ t.pkg.cnt die oCensuses = s.pkg.cnt die oCensuses + 1 ∧
      (s.pkg.cenReq.active = true → s.pkg.cenReq.ts = b.ts → s.pkg.cenReq.left = [die] → t.pkg.cenReq.active = false ∧ t.pkg.get c fCenState = 0) ∧
      Frame s t (show_ ++ (List.range w.length).map (fun i => pkgAddr die (0x3A00000 + 4 * i)))
        [pkgAddr die oCenLastTs, pkgAddr die oCensuses, pkgAddr c oCenLate, pkgAddr c oCenAbsent])) ∧
    (s.pkg.on die fCenHold = true → (s.pkg.cenDie die).heldAt ≠ some (s.pkg.reach at_).now → Runs (.censusPublish die at_) s (fun t =>
      (t.pkg.cenDie die).bank = none ∧ (t.pkg.cenDie die).waiting = some b ∧
      t.pkg.cnt die oCenOverwritten = s.pkg.cnt die oCenOverwritten + (if (s.pkg.cenDie die).waiting.isSome then 1 else 0) ∧
      Frame s t show_ [pkgAddr die oCenOverwritten, pkgAddr die oCensuses, pkgAddr c oCenLate, pkgAddr c oCenAbsent]))) ∧
  (∀ (die : Nat) (s : State), (die < 7 ∨ die = 15) → s.pkg.cenReq.active = true → die ∈ s.pkg.cenReq.left → Runs (.censusAbsent die) s (fun t =>
    die ∉ t.pkg.cenReq.left ∧ die ∉ t.pkg.cenReq.unsent ∧ (t.pkg.cenDie die).bank = none ∧ t.pkg.get s.pkg.cenReq.tile (fCenDie die) = 2 ∧ t.pkg.on s.pkg.cenReq.tile fCenAbsent = true ∧
    t.pkg.cnt s.pkg.cenReq.tile oCenAbsent = s.pkg.cnt s.pkg.cenReq.tile oCenAbsent + 1 ∧ (s.pkg.cenReq.left = [die] → t.pkg.cenReq.active = false) ∧
    Frame s t [pkgAddr s.pkg.cenReq.tile 0x1E00018, pkgAddr s.pkg.cenReq.tile 0x1E0001C] [pkgAddr s.pkg.cenReq.tile oCenAbsent])) ∧
  (∀ (a : Acc) (tile : Nat) (s : State), tile < 7 →
    (s.pkg.reaches a.req tile 0x1E00000 (s.pkg.holdWord tile true) → s.pkg.on tile fCenHold = false →
      ((s.pkg.reach a.at_).remember a.req tile 0x1E00000 (s.pkg.holdWord tile true)).takes tile 0x1E00000 (s.pkg.holdWord tile true) = true →
      Runs (.censusHold a tile true) s (fun t => t.pkg.on tile fCenHold = true ∧ (t.pkg.cenDie tile).heldAt = some (s.pkg.reach a.at_).now ∧ Frame s t [pkgAddr tile 0x1E00000] [])) ∧
    (∀ b, s.pkg.reaches a.req tile 0x1E00000 (s.pkg.holdWord tile false) → s.pkg.on tile fCenHold = true →
      ((s.pkg.reach a.at_).remember a.req tile 0x1E00000 (s.pkg.holdWord tile false)).takes tile 0x1E00000 (s.pkg.holdWord tile false) = true →
      (s.pkg.cenDie tile).waiting = some b → b.vals.length ≤ 4656 → (tile = s.pkg.steward → (s.pkg.cenDie 15).waiting = none) →
      Runs (.censusHold a tile false) s (fun t =>
        t.pkg.on tile fCenHold = false ∧ (t.pkg.cenDie tile).waiting = none ∧
        (∀ i < (b.words 291).length, t.pkg.rd tile (0x3A00000 + 4 * i) = (b.words 291).getD i 0) ∧
        Frame s t (pkgAddr tile 0x1E00000 :: (List.range (b.words 291).length).map (fun i => pkgAddr tile (0x3A00000 + 4 * i)))
          [pkgAddr tile oCenLastTs])))

/-- A commit of a named type that fits is stamped with the time, the next SEQ and its die, and joins the queue; one that does not fit is refused and
counted. With nothing queued, FLUSH and the flush timer fill the open page and program it; a page that is programmed joins the open block and makes the
records that end in it durable; a FAIL makes the block bad, the open one with its pages moving or the fresh one that a full one needs. A mount shows the geometry and knows the bad blocks, and a device
outside the limits is UNSUPPORTED. -/
def Obligations.JournalEffects : Prop :=
  (∀ (a : Acc) (tile : Nat) (v : Word) (s : State), tile < 7 → s.pkg.reaches a.req tile 0x1E00100 v → (s.pkg.jnlSt tile).lost = 0 →
    jnlTypeNamed (fieldGet v 15 0) = true → fieldGet v 27 16 ≤ 4072 →
    let r := jnlBytes (fieldGet v 15 0) (s.pkg.reach a.at_).nowNs (s.pkg.rd tile oJnlSeq).toNat tile (s.pkg.get tile fCsNode)
      (s.pkg.bytesAt tile 0x1E01000 (fieldGet v 27 16))
    ((s.pkg.jnlSt tile).bytes + r.length ≤ 57344 → Runs (.journalCommit a tile v) s (fun t =>
      (t.pkg.jnlSt tile).queue = (s.pkg.jnlSt tile).queue ++ [r] ∧ t.pkg.rd tile oJnlSeq = s.pkg.rd tile oJnlSeq + 1 ∧
      t.pkg.get tile fJnlQueue = (s.pkg.jnlSt tile).bytes + r.length ∧ t.pkg.cnt tile oJnlRecords = s.pkg.cnt tile oJnlRecords + 1 ∧
      Frame s t [pkgAddr tile 0x1E00104, pkgAddr tile oJnlSeq] [pkgAddr tile oJnlRecords])) ∧
    (57344 < (s.pkg.jnlSt tile).bytes + r.length → Runs (.journalCommit a tile v) s (fun t =>
      t.pkg.jnlSt tile = s.pkg.jnlSt tile ∧ t.pkg.on tile fJnlRefused = true ∧ t.pkg.cnt tile oJnlRefused = s.pkg.cnt tile oJnlRefused + 1 ∧
      Frame s t [pkgAddr tile 0x1E00104] [pkgAddr tile oJnlRefused]))) ∧
  (∀ s : State, (∀ d < 7, (s.pkg.jnlSt d).queue = []) →
    (s.pkg.on 0 fStMounted = true → s.pkg.keeper.busy = false → s.pkg.keeper.buf ≠ [] → s.pkg.keeper.buf.length < s.pkg.pageSize →
      (s.pkg.pageSize - s.pkg.keeper.buf.length) % 4 = 0 →
      (∀ a : Acc, s.pkg.reaches a.req 0 0x1F00014 1 → Runs (.flush a) s (fun t =>
        t.pkg.keeper.busy = true ∧ s.pkg.keeper.buf <+: t.pkg.keeper.buf ∧ t.pkg.keeper.buf.length = s.pkg.pageSize ∧
        t.pkg.keeper.times = s.pkg.keeper.times ∧ Frame s t [] [])) ∧
      (∀ u, s.pkg.keeper.first = some u → s.pkg.tileOn 0 = true → Runs .flushTimer s (fun t =>
        t.pkg.keeper.busy = true ∧ s.pkg.keeper.buf <+: t.pkg.keeper.buf ∧ t.pkg.keeper.buf.length = s.pkg.pageSize ∧
        t.pkg.now = max s.pkg.now (u + ns (ms (s.pkg.get 0 fFlushMs))) ∧ Frame s t [] []))) ∧
    (∀ b at_ : Nat, s.pkg.tileOn 0 = true → s.pkg.on 0 fStMounted = true → s.pkg.keeper.busy = true → s.pkg.keeper.open_ = some b →
      ((s.pkg.block b).pages.length < s.pkg.blockPages → 4 ≤ s.pkg.freeBlocks → (∀ e ∈ s.pkg.keeper.times, recType e.2 < 0x8000) →
        Runs (.pageProgram true at_) s (fun t =>
          (t.pkg.block b).pages = (s.pkg.block b).pages ++ [⟨s.pkg.keeper.seq, s.pkg.keeper.buf.take s.pkg.pageSize, []⟩] ∧
          t.pkg.keeper.busy = false ∧ t.pkg.keeper.buf = s.pkg.keeper.buf.drop s.pkg.pageSize ∧ t.pkg.keeper.seq = s.pkg.keeper.seq + 1 ∧
          t.pkg.keeper.written = s.pkg.keeper.written + s.pkg.pageSize ∧ t.pkg.cnt 0 oPagesWritten = s.pkg.cnt 0 oPagesWritten + 1 ∧
          (∀ e, (s.pkg.keeper.times.filter (fun e => decide (e.1 ≤ s.pkg.keeper.written + s.pkg.pageSize))).getLast? = some e →
            t.pkg.cnt 0 oStDurable = BitVec.ofNat 64 (recTime e.2)) ∧
          Frame s t ([0x1F00000, 0x1F0003C, 0x1F00040].map (pkgAddr 0)) [pkgAddr 0 oPagesWritten, pkgAddr 0 oStDurable])) ∧
      ((s.pkg.block b).pages.length < s.pkg.blockPages → Runs (.pageProgram false at_) s (fun t =>
        (t.pkg.block b).kind = 4 ∧ t.pkg.keeper.open_ = none ∧ t.pkg.keeper.busy = true ∧ t.pkg.keeper.buf = s.pkg.keeper.buf ∧
        t.pkg.cnt 0 oGrownBad = s.pkg.cnt 0 oGrownBad + 1 ∧
        ((s.pkg.block b).pages ≠ [] → ((s.pkg.setBlock b { kind := 4, erases := (s.pkg.block b).erases }).pickFree false).isSome = true →
          ∃ c, c ≠ b ∧ (t.pkg.block c).pages = (s.pkg.block b).pages ∧ (t.pkg.block c).kind = (s.pkg.block b).kind) ∧
        Frame s t ([0x1F00000, 0x1F0003C, 0x1F00040].map (pkgAddr 0)) [pkgAddr 0 oGrownBad, pkgAddr 0 oErases])) ∧
      (∀ c, s.pkg.blockPages ≤ (s.pkg.block b).pages.length → s.pkg.pickFree false = some c → c ≠ b → Runs (.pageProgram false at_) s (fun t =>
        (t.pkg.block c).kind = 4 ∧ t.pkg.block b = s.pkg.block b ∧ t.pkg.keeper.open_ = some b ∧ t.pkg.keeper.busy = true ∧
        t.pkg.keeper.buf = s.pkg.keeper.buf ∧ t.pkg.cnt 0 oGrownBad = s.pkg.cnt 0 oGrownBad + 1 ∧
        Frame s t ([0x1F00000, 0x1F0003C, 0x1F00040].map (pkgAddr 0)) [pkgAddr 0 oGrownBad, pkgAddr 0 oErases]))) ∧
    (∀ (d : NandFound) (at_ : Nat), s.pkg.tileOn 0 = true → s.pkg.on 0 fStMounted = false → s.pkg.on 0 fStUnsupported = false →
      ((d.supported = false ∨ d.blocks < 1024 ∨ 16384 < d.blocks) → Runs (.nandMount d at_) s (fun t =>
        t.pkg.on 0 fStUnsupported = true ∧ t.pkg.on 0 fStMounted = false ∧ t.pkg.keeper = s.pkg.keeper ∧ Frame s t [pkgAddr 0 0x1F00000] [])) ∧
      (d.supported = true → 1024 ≤ d.blocks → d.blocks ≤ 16384 → Runs (.nandMount d at_) s (fun t =>
        t.pkg.on 0 fStMounted = true ∧
        t.pkg.rd 0 0x1F00004 = BitVec.ofNat 32 (bit d.page4k + bit d.pages128 * 2 + d.blocks * 4 + bit d.nvddr2 * 2 ^ 17) ∧
        t.pkg.keeper.device = d.id + 1 ∧
        (s.pkg.keeper.device ≠ d.id + 1 → ∀ b ∈ d.badBlocks, b < d.blocks → (t.pkg.block b).kind = 4) ∧
        Frame s t ([0x1F00000, 0x1F00004, 0x1F00038, 0x1F0003C, 0x1F00040].map (pkgAddr 0)) [pkgAddr 0 oTorn]))))

/-- RD_GO lists the records of an area that read back, from ST_RD_FROM on, or ends at once where there are none; RD_STOP leaves the current record. A copied
record lies in its slot of the ring, whose producer advances, and the last one sets RD_DONE; one in a codeword that cannot be corrected is skipped, its
block fails and is queued for refresh. Blocks that reach READ_LIMIT or SCRUB_DAYS, and the NOR when it is due, are queued. The keeper runs what is queued: a
scrub, which counts what it corrects and queues a refresh at REFRESH_BITS, a refresh or a static move to another block, the refresh of a block that has
failed, which retires it, the NOR scrub; here outside a housekeeping run. -/
def Obligations.StorageKeeper : Prop :=
  (∀ (a : Acc) (area : Nat) (s : State), s.pkg.reaches a.req 0 0x1F00014 (BitVec.ofNat 32 (2 + 4 * (area % 2))) →
    let all := s.pkg.areaRecs (area % 2)
    let l := all.filter (fun r => s.pkg.readable r && decide (s.pkg.rd64 0 0x1F00018 ≤ recTime r.bytes))
    (s.pkg.on 0 fStMounted = true → s.pkg.keeper.rd = none → Runs (.rdGo a area) s (fun t =>
      t.pkg.keeper.rd = (if l = [] then none else some (area % 2, l)) ∧ (l = [] → t.pkg.on 0 (fStEvt 4) = true) ∧
      t.pkg.cnt 0 oRdSkipped = s.pkg.cnt 0 oRdSkipped + BitVec.ofNat 64 (all.filter (fun r => !s.pkg.readable r)).length ∧
      Frame s t (if l = [] then [pkgAddr 0 0x1F00040] else []) [pkgAddr 0 oRdSkipped])) ∧
    (s.pkg.keeper.rd.isSome = true → Runs (.rdGo a area) s (fun t => t.pkg.keeper = s.pkg.keeper ∧ Frame s t [] []))) ∧
  (∀ (a : Acc) (s : State), s.pkg.reaches a.req 0 0x1F00014 8 → Runs (.rdStop a) s (fun t =>
    t.pkg.keeper.rd = s.pkg.keeper.rd.map (fun e => (e.1, e.2.take 1)) ∧ Frame s t [] [])) ∧
  (∀ (area at_ : Nat) (ecc : List (Option Nat)) (r : JnlRec) (l : List JnlRec) (s : State), s.settled → s.pkg.tileOn 0 = true →
    s.pkg.keeper.rd = some (area, r :: l) → s.pkg.get 0 fRdExp ≤ 12 →
    let n := 2 ^ s.pkg.get 0 fRdExp
    let prod := s.pkg.get 0 fRdProd
    let base := s.pkg.rd64 0 0x1F00020 + 4096 * (prod % n)
    let next (t : State) : Prop := t.pkg.keeper.rd = (if l = [] then none else some (area, l)) ∧ (l = [] → t.pkg.on 0 (fStEvt 4) = true) ∧
      t.pending = s.pending
    (prod + 1) % n ≠ s.pkg.get 0 fRdCons % n →
    (base + r.bytes.length ≤ 2 ^ 40 → ecc = [] → s.pkg.readable r = true → Runs (.rdCopyRecord ⟨ecc, at_⟩) s (fun t =>
      (∀ i < r.bytes.length, t.mem.get 0 (base + i) = r.bytes.getD i 0) ∧
      (∀ u b, b < 2 ^ 40 → ¬ (u = 0 ∧ base ≤ b ∧ b < base + r.bytes.length) → t.mem.get u b = s.mem.get u b) ∧
      t.pkg.get 0 fRdProd = (prod + 1) % n ∧ next t ∧
      WordsKept s.pkg t.pkg ([0x1F0002C, 0x1F00040].map (pkgAddr 0)) ∧ CountsKept s.pkg t.pkg [])) ∧
    (∀ c : CodeAt, r.place = [c] → ecc = [none] → c.page < (s.pkg.block c.block).pages.length → 1024 * c.code < s.pkg.pageSize →
      Runs (.rdCopyRecord ⟨ecc, at_⟩) s (fun t =>
        t.pkg.codeBad c = true ∧ (t.pkg.block c.block).failed = true ∧ t.pkg.on 0 (fStEvt 2) = true ∧
        ((s.pkg.block c.block).kind = 1 ∨ (s.pkg.block c.block).kind = 2 → Work.refresh c.block ∈ t.pkg.keeper.work) ∧
        t.pkg.cnt 0 oEccFail = s.pkg.cnt 0 oEccFail + 1 ∧ t.pkg.cnt 0 oRdSkipped = s.pkg.cnt 0 oRdSkipped + 1 ∧ next t ∧
        Frame s t ([0x1F00038, 0x1F00040].map (pkgAddr 0)) [pkgAddr 0 oEccFail, pkgAddr 0 oRdSkipped]))) ∧
  (∀ (block at_ : Nat) (s : State), s.pkg.on 0 fStMounted = true → ((s.pkg.block block).kind = 1 ∨ (s.pkg.block block).kind = 2 ∨ (s.pkg.block block).kind = 3) →
    s.pkg.keeper.open_ ≠ some block → s.pkg.keeper.openRet ≠ some block →
    (s.pkg.get 0 fReadLimit ≤ (s.pkg.block block).reads → Runs (.scrubDue block at_) s (fun t =>
      Work.refresh block ∈ t.pkg.keeper.work ∧ Frame s t [pkgAddr 0 0x1F00038] [])) ∧
    ((s.pkg.block block).reads < s.pkg.get 0 fReadLimit → (s.pkg.block block).touched + s.pkg.get 0 fScrubDays * dayNs ≤ (s.pkg.reach at_).nowNs →
      Runs (.scrubDue block at_) s (fun t => Work.scrub block ∈ t.pkg.keeper.work ∧ Frame s t [pkgAddr 0 0x1F00038] []))) ∧
  (∀ (at_ : Nat) (s : State), s.pkg.tileOn 0 = true → s.pkg.keeper.norAt + s.pkg.get 0 fNorScrubDays * dayNs ≤ at_ → Work.nor ∉ s.pkg.keeper.work →
    Runs (.norScrub at_) s (fun t => Work.nor ∈ t.pkg.keeper.work ∧ t.pkg.on 0 fNorDue = true ∧ Frame s t [pkgAddr 0 0x1F00038] [])) ∧
  (∀ (w : Work) (l : List Work) (ok : Bool) (ecc : List CodeRead) (at_ : Nat) (s : State), (s.pkg.reach at_).mayWork = true → s.pkg.wake.hk = none →
    s.pkg.keeper.work = w :: l →
    (∀ b, w = .scrub b → (∀ e ∈ ecc, e.bits.isSome = true ∧ e.page < (s.pkg.block b).pages.length ∧ 1024 * e.code < s.pkg.pageSize) →
      Runs (.keeperWork ⟨ok, ecc⟩ at_) s (fun t =>
        (t.pkg.block b).touched = (s.pkg.reach at_).nowNs ∧ t.pkg.cnt 0 oScrubBlocks = s.pkg.cnt 0 oScrubBlocks + 1 ∧ l <+: t.pkg.keeper.work ∧
        t.pkg.cnt 0 oEccBits = s.pkg.cnt 0 oEccBits + BitVec.ofNat 64 ((ecc.map (fun e => e.bits.getD 0)).foldl (· + ·) 0) ∧
        ((∃ e ∈ ecc, ∃ n, e.bits = some n ∧ s.pkg.get 0 fRefreshBits ≤ n) → (s.pkg.block b).kind = 1 ∨ (s.pkg.block b).kind = 2 →
          s.pkg.keeper.open_ ≠ some b → s.pkg.keeper.openRet ≠ some b → Work.refresh b ∈ t.pkg.keeper.work) ∧
        Frame s t [pkgAddr 0 0x1F00038] [pkgAddr 0 oScrubBlocks, pkgAddr 0 oEccBits])) ∧
    (∀ b c worn, (w = .refresh b ∧ worn = false ∨ w = .move b ∧ worn = true) → ok = true → ecc = [] → (s.pkg.block b).failed = false →
      ((s.pkg.block b).kind = 1 ∨ (s.pkg.block b).kind = 2 ∨ (s.pkg.block b).kind = 3) → s.pkg.pickFree worn = some c → c ≠ b →
      Runs (.keeperWork ⟨ok, ecc⟩ at_) s (fun t =>
        (t.pkg.block c).pages = (s.pkg.block b).pages ∧ (t.pkg.block c).kind = (s.pkg.block b).kind ∧ (t.pkg.block b).kind = 0 ∧
        (t.pkg.block b).pages = [] ∧ (t.pkg.block b).erases = (s.pkg.block b).erases + 1 ∧
        t.pkg.cnt 0 (if worn then oStaticMoves else oRefreshes) = s.pkg.cnt 0 (if worn then oStaticMoves else oRefreshes) + 1 ∧
        t.pkg.cnt 0 oErases = s.pkg.cnt 0 oErases + 2 ∧
        Frame s t ([0x1F00000, 0x1F00038, 0x1F0003C, 0x1F00040].map (pkgAddr 0))
          [pkgAddr 0 oErases, pkgAddr 0 (if worn then oStaticMoves else oRefreshes)])) ∧
    (∀ b, w = .refresh b → ok = true → ecc = [] → (s.pkg.block b).failed = true → ((s.pkg.block b).kind = 1 ∨ (s.pkg.block b).kind = 2) →
      Runs (.keeperWork ⟨ok, ecc⟩ at_) s (fun t =>
        (t.pkg.block b).kind = 4 ∧ t.pkg.cnt 0 oGrownBad = s.pkg.cnt 0 oGrownBad + 1 ∧ t.pkg.cnt 0 oRefreshes = s.pkg.cnt 0 oRefreshes + 1 ∧
        Frame s t ([0x1F00000, 0x1F00038, 0x1F0003C, 0x1F00040].map (pkgAddr 0)) [pkgAddr 0 oErases, pkgAddr 0 oGrownBad, pkgAddr 0 oRefreshes])) ∧
    (w = .nor → s.pkg.get 0 fUpState = 0 → s.settled → (∀ d < 7, (s.pkg.jnlSt d).queue = []) → Runs (.keeperWork ⟨ok, ecc⟩ at_) s (fun t =>
      t.pkg.keeper.norAt = (s.pkg.reach at_).nowNs ∧ t.pkg.cnt 0 oNorScrubs = s.pkg.cnt 0 oNorScrubs + 1 ∧ t.pkg.keeper.work = l ∧
      (∀ u b, u < 15 → b < 2 ^ 40 → t.mem.get u b = s.mem.get u b) ∧ OthersKept s.pkg t.pkg 0 [] [] ∧ t.pending = s.pending)))

/-- Each command of UP_CMD, on a steward that takes writes. While UP_STATE is not IDLE every one is refused as BUSY. WRITE is refused during a trial, ends with
TOO_LARGE beyond the slot (before anything is erased: the model's choice), and else takes VERIFIED_OTHER away, takes back a start that was to take the slot,
and runs. VERIFY runs, with staging where asked. ACTIVATE is refused, in this order, without VERIFIED_OTHER, outside a run mode or against the policy, during
a trial, while a commit runs, and LIVE where the shape differs or is not staged; LIVE begins the pause; RESTART resets the package with the record naming
the other slot; NEXT_START only writes the record. CONFIRM ends the trial for good and never lowers the rollback step; without a trial, or at its end, it is
refused. ABANDON is refused without a trial, waits for a commit outside DEBUG, in DEBUG only rewrites the record, and else falls back, LIVE where it may and by
a reset where it may not. PROV_WRITE runs in PROVISION or SERVICE, within the provisioning area. -/
def Obligations.UpdateCommands : Prop :=
  ∀ (a : Acc) (s : State),
    let takes (v : Word) : Prop := s.pkg.reaches a.req 0 0x2100004 v
    let idle : Prop := s.pkg.get 0 fUpState = 0
    let refused (code : Nat) (t : State) : Prop :=
      t.pkg.get 0 fUpRefuse = code ∧ t.pkg.cnt 0 oUpRefused = s.pkg.cnt 0 oUpRefused + 1 ∧ Frame s t [pkgAddr 0 0x2100000] [pkgAddr 0 oUpRefused]
    let tilesKept (t : State) : Prop := s.settled → ∀ u b, u < 15 → b < 2 ^ 40 → t.mem.get u b = s.mem.get u b
    let upWords (words counts : List Nat) (t : State) : Prop :=
      WordsKept s.pkg t.pkg (words.map (pkgAddr 0)) ∧ CountsKept s.pkg t.pkg (counts.map (pkgAddr 0)) ∧ t.pending = s.pending
    let runs (state op arg off len : Nat) (t : State) : Prop := t.pkg.get 0 fUpState = state ∧ t.pkg.boot.cmd = some (op, arg, off, len)
    let tooLarge (t : State) : Prop :=
      t.pkg.get 0 fUpResult = uTooLarge ∧ t.pkg.get 0 fUpState = 0 ∧ t.pkg.on 0 (fUpEvt 0) = true ∧
      Frame s t [pkgAddr 0 0x2100000, pkgAddr 0 0x2100030] []
    let off := s.pkg.get 0 fUpWrOff
    let len := s.pkg.get 0 fUpWrLen
    let src := s.pkg.rd64 0 oUpWrSrc
    let other := s.pkg.otherSlot
    let pauses (t : State) : Prop :=
      t.pkg.modeNow = mActivating ∧ t.pkg.get 15 fReason = 13 ∧ t.pkg.get 0 fUpState = 3 ∧ t.pkg.mode.cameFrom = s.pkg.modeNow ∧
      t.pkg.boot.act = (if s.firmwareOnly other then 1 else 2) ∧ t.pkg.boot.actSlot = other ∧
      t.pkg.boot.actLeft = (if s.firmwareOnly other then [s.pkg.steward] else s.pkg.serving) ∧ t.pkg.boot.revert = false
    let pauseWords := [pkgAddr 15 0x60000, pkgAddr 0 0x2100000, pkgAddr 0 0x1D00010, pkgAddr 1 0x1D00010] ++
      (List.range 7).flatMap (fun u => (List.range 28).map (fun p => pkgAddr u (fXoffTx p).off))
    let pauseCounts := [pkgAddr 15 oLastChange, pkgAddr 15 oTransitions] ++ (List.range 7).flatMap (fun u => (List.range 28).map (fun p => pkgAddr u (oPauseTx p)))
    let mayActivate : Prop := s.pkg.on 0 fVerifiedOther = true ∧ runMode s.pkg.modeNow = true ∧ s.pkg.policyAllows mActivating s.pkg.life = true ∧
      s.pkg.on 0 fUpTrial = false ∧ s.pkg.ksState s.pkg.steward = 0
    let sameShape : Prop := s.firmwareOnly other = true ∨
      (s.pkg.boot.staged = true ∧ (s.structure_ other).frozen = (s.structure_ (s.pkg.get 0 fUpSlot)).frozen)
    let activateRefused (t : State) : Prop :=
      (s.pkg.on 0 fVerifiedOther = false → refused uNotVerified t) ∧
      (s.pkg.on 0 fVerifiedOther = true → (runMode s.pkg.modeNow = false ∨ s.pkg.policyAllows mActivating s.pkg.life = false) → refused uMode t) ∧
      (s.pkg.on 0 fVerifiedOther = true → runMode s.pkg.modeNow = true → s.pkg.policyAllows mActivating s.pkg.life = true →
        (s.pkg.on 0 fUpTrial = true → refused uTrial t) ∧
        (s.pkg.on 0 fUpTrial = false → s.pkg.ksState s.pkg.steward ≠ 0 → refused uCommitPending t))
    (s.pkg.get 0 fUpState ≠ 0 →
      (takes 1 → Runs (.write a) s (refused uBusy)) ∧ (takes 2 → Runs (.verify a false) s (refused uBusy)) ∧
      (takes 34 → Runs (.verify a true) s (refused uBusy)) ∧ (takes 3 → Runs (.activateLive a) s (refused uBusy)) ∧
      (takes 11 → Runs (.activateRestart a) s (refused uBusy)) ∧ (takes 19 → Runs (.activateNextStart a) s (refused uBusy)) ∧
      (takes 4 → Runs (.confirmTrial a) s (refused uBusy)) ∧ (takes 5 → Runs (.abandon a) s (refused uBusy)) ∧
      (takes 6 → Runs (.provWrite a) s (refused uBusy))) ∧
    (idle → takes 1 →
      (s.pkg.on 0 fUpTrial = true → Runs (.write a) s (refused uTrial)) ∧
      (s.pkg.on 0 fUpTrial = false → slotSize < off + len → Runs (.write a) s tooLarge) ∧
      (s.pkg.on 0 fUpTrial = false → off + len ≤ slotSize → Runs (.write a) s (fun t =>
        runs 1 1 src off len t ∧ t.pkg.on 0 fVerifiedOther = false ∧ t.pkg.on 0 fNextStart = false ∧ t.pkg.boot.staged = false ∧
        (s.pkg.on 0 fNextStart = true → t.pkg.boot.record.active = s.pkg.get 0 fUpSlot ∧ t.pkg.boot.record.next = false) ∧
        (s.pkg.on 0 fNextStart = false → t.pkg.boot.record = s.pkg.boot.record ∧ (s.settled → BytesKept s t)) ∧
        upWords [0x2100000] [] t ∧ tilesKept t))) ∧
    (idle → takes 2 → Runs (.verify a false) s (fun t => runs 2 2 0 0 0 t ∧ Frame s t [pkgAddr 0 0x2100000] [])) ∧
    (idle → takes 34 → Runs (.verify a true) s (fun t => runs 2 2 1 0 0 t ∧ Frame s t [pkgAddr 0 0x2100000] [])) ∧
    (idle → takes 3 →
      (¬ mayActivate → Runs (.activateLive a) s activateRefused) ∧
      (mayActivate → ¬ sameShape → Runs (.activateLive a) s (refused uShapeChange)) ∧
      (mayActivate → sameShape → Runs (.activateLive a) s (fun t => pauses t ∧ t.pkg.boot.fallback = false ∧ Frame s t pauseWords pauseCounts))) ∧
    (idle → takes 11 →
      (¬ mayActivate → Runs (.activateRestart a) s activateRefused) ∧
      (mayActivate → Runs (.activateRestart a) s (fun t =>
        WasReset s.pkg t.pkg 15 ∧ t.pkg.boot.record.active = other ∧ t.pkg.boot.record.next = true ∧ t.pkg.boot.record.trial = true))) ∧
    (idle → takes 19 →
      (¬ mayActivate → Runs (.activateNextStart a) s activateRefused) ∧
      (mayActivate → Runs (.activateNextStart a) s (fun t =>
        t.pkg.on 0 fNextStart = true ∧ t.pkg.boot.record.active = other ∧ t.pkg.boot.record.next = true ∧ t.pkg.boot.record.trial = true ∧
        t.pkg.modeNow = s.pkg.modeNow ∧ upWords [0x2100000] [] t ∧ tilesKept t))) ∧
    (idle → takes 4 →
      ((s.pkg.on 0 fUpTrial = false ∨ (s.pkg.reach a.at_).trialOver = true ∨ s.pkg.boot.waitFall = true) → Runs (.confirmTrial a) s (refused uTrial)) ∧
      (s.pkg.on 0 fUpTrial = true → (s.pkg.reach a.at_).trialOver = false → s.pkg.boot.waitFall = false →
        let step : Fld := ⟨0x70010, 6, 0⟩
        let goal := min (s.firmware (s.pkg.get 0 fUpSlot)).step (s.structure_ (s.pkg.get 0 fUpSlot)).step
        Runs (.confirmTrial a) s (fun t =>
          t.pkg.on 0 fUpTrial = false ∧ t.pkg.on 0 (fUpEvt 2) = true ∧ t.pkg.boot.record.trial = false ∧ t.pkg.cnt 0 oUpTrialEnd = 0 ∧
          s.pkg.get 15 step ≤ t.pkg.get 15 step ∧ t.pkg.get 15 step ≤ max goal (s.pkg.get 15 step) ∧
          WordsKept s.pkg t.pkg [pkgAddr 0 0x2100000, pkgAddr 0 0x2100030, pkgAddr 15 0x70008, pkgAddr 15 0x7000C, pkgAddr 15 0x70010] ∧
          CountsKept s.pkg t.pkg [pkgAddr 0 oUpTrialEnd, pkgAddr 15 oKyFuseFail] ∧ t.pending = s.pending ∧ tilesKept t))) ∧
    (idle → takes 5 →
      let back (t : State) : Prop := t.pkg.on 0 fUpTrial = false ∧ t.pkg.cnt 0 oUpFallbacks = s.pkg.cnt 0 oUpFallbacks + 1
      (s.pkg.on 0 fUpTrial = false → Runs (.abandon a) s (refused uTrial)) ∧
      (s.pkg.on 0 fUpTrial = true →
        (s.pkg.modeNow ≠ mDebug → s.pkg.ksState s.pkg.steward ≠ 0 → Runs (.abandon a) s (fun t =>
          t.pkg.boot.waitFall = true ∧ t.pkg.on 0 fUpTrial = true ∧ Frame s t [] [])) ∧
        (s.pkg.modeNow = mDebug → Runs (.abandon a) s (fun t =>
          back t ∧ t.pkg.on 0 (fUpEvt 1) = true ∧ t.pkg.boot.record.active = other ∧ t.pkg.boot.record.trial = false ∧ t.pkg.modeNow = mDebug ∧
          upWords [0x2100000, 0x2100030] [oUpTrialEnd, oUpFallbacks] t ∧ tilesKept t)) ∧
        (s.pkg.modeNow ≠ mDebug → s.pkg.ksState s.pkg.steward = 0 → s.pkg.liveFallback = true → Runs (.abandon a) s (fun t =>
          back t ∧ t.pkg.on 0 (fUpEvt 1) = true ∧ pauses t ∧ t.pkg.boot.fallback = true ∧
          Frame s t (pkgAddr 0 0x2100030 :: pauseWords) ([pkgAddr 0 oUpTrialEnd, pkgAddr 0 oUpFallbacks] ++ pauseCounts))) ∧
        (s.pkg.modeNow ≠ mDebug → s.pkg.ksState s.pkg.steward = 0 → s.pkg.liveFallback = false → Runs (.abandon a) s (fun t =>
          WasReset s.pkg t.pkg 15 ∧ t.pkg.boot.record.active = other ∧ t.pkg.boot.record.trial = false)))) ∧
    (idle → takes 6 →
      (s.pkg.modeNow ≠ mProvision → s.pkg.life ≠ lService → Runs (.provWrite a) s (refused uMode)) ∧
      ((s.pkg.modeNow = mProvision ∨ s.pkg.life = lService) →
        (provSize < off + len → Runs (.provWrite a) s tooLarge) ∧
        (off + len ≤ provSize → Runs (.provWrite a) s (fun t => runs 1 6 src off len t ∧ Frame s t [pkgAddr 0 0x2100000] []))))

/-- A WRITE or PROV_WRITE that reads back right leaves in the NOR what work memory held; one that does not ends with NOR_ERR. VERIFY ends with the first check
that fails and takes VERIFIED_OTHER from the result. The flush leaves no frame queued. A tile that reports its restart is waited for no longer; one that
fails, or does not report in time, makes the activation revert. The last report of a firmware-only activation ends the pause with the new slot in effect
and a trial. A trial that ends where no LIVE fallback is possible resets the package with the record naming the previous slot. -/
def Obligations.ActivationEffects : Prop :=
  (∀ (ok : Bool) (at_ op src off len : Nat) (s : State), s.pkg.boot.cmd = some (op, src, off, len) → (op = 1 ∨ op = 6) → s.settled →
    off + len ≤ (if op = 1 then slotSize else provSize) → src + len ≤ 0x101000000 →
    let base := (if op = 1 then slotBase s.pkg.otherSlot else provBase) + off
    Runs (.upCommandDone ok at_) s (fun t =>
      t.pkg.get 0 fUpState = 0 ∧ t.pkg.get 0 fUpResult = (if ok then 0 else uNorErr) ∧ t.pkg.on 0 (fUpEvt 0) = true ∧ t.pkg.boot.cmd = none ∧
      (ok = true → ∀ i < len, t.mem.nor (base + i) = s.mem.get 0 (src + i)) ∧
      (∀ u b, u < 16 → b < 2 ^ 40 → ¬ (u = 15 ∧ base ≤ b ∧ b < base + len) → t.mem.get u b = s.mem.get u b) ∧
      WordsKept s.pkg t.pkg ([pkgAddr 0 0x2100000, pkgAddr 0 0x2100030] ++ (if op = 6 then [pkgAddr 0 0x1F00000] else [])) ∧
      CountsKept s.pkg t.pkg [] ∧ t.pending = s.pending)) ∧
  (∀ (ok : Bool) (at_ stage x y : Nat) (s : State), s.pkg.boot.cmd = some (2, stage, x, y) → Runs (.upCommandDone ok at_) s (fun t =>
    t.pkg.get 0 fUpState = 0 ∧ t.pkg.on 0 (fUpEvt 0) = true ∧ t.pkg.boot.cmd = none ∧ t.pkg.on 0 fVerifiedOther = decide (s.verifyResult = 0) ∧
    (s.verifyResult ≠ 0 → t.pkg.get 0 fUpResult = s.verifyResult) ∧ (s.verifyResult = 0 → stage = 0 → t.pkg.get 0 fUpResult = 0) ∧
    (s.verifyResult = 0 → stage ≠ 0 →
      (s.stageTooLarge (s.structure_ s.pkg.otherSlot) = true → t.pkg.get 0 fUpResult = uTooLarge ∧ t.pkg.boot.staged = false) ∧
      (s.stageTooLarge (s.structure_ s.pkg.otherSlot) = false → t.pkg.get 0 fUpResult = 0 ∧ t.pkg.boot.staged = true)) ∧
    (s.settled → ∀ u b, u < 16 → b < 2 ^ 40 → ¬ (u < 7 ∧ 0x100800000 ≤ b ∧ b < 0x100C00000) → t.mem.get u b = s.mem.get u b) ∧
    WordsKept s.pkg t.pkg [pkgAddr 0 0x2100000, pkgAddr 0 0x2100030] ∧ CountsKept s.pkg t.pkg [] ∧ t.pending = s.pending)) ∧
  (∀ s : State, s.pkg.modeNow = mActivating → s.pkg.boot.act = 2 → s.pkg.boot.actFlushed = false → Runs .activationFlush s (fun t =>
    t.pkg.boot.actFlushed = true ∧ t.pkg.boot.actFrom = t.pkg.now ∧ t.pkg.now = max s.pkg.now (s.pkg.boot.actAt + ns (ms 1)) ∧
    (∀ u ∈ s.pkg.serving, ∀ p < 28, ∀ q < 8, t.pkg.queue u p q = []) ∧ t.pkg.modeNow = mActivating ∧
    Frame s t [] ((List.range 7).flatMap (fun u => pkgAddr u (oDisc 18) :: (List.range 28).map (fun p => pkgAddr u (oTxDisc p)))))) ∧
  (∀ (tile at_ : Nat) (ok : Bool) (s : State), s.noEthWaits → s.pkg.modeNow = mActivating → tile ∈ s.pkg.boot.actLeft →
    (s.pkg.boot.act = 1 ∨ (s.pkg.boot.act = 2 ∧ s.pkg.boot.actFlushed = true)) →
    ((∃ u ∈ s.pkg.boot.actLeft, u ≠ tile) → ok = true → Runs (.activationRestartDone tile ok at_) s (fun t =>
      t.pkg.boot.actLeft = s.pkg.boot.actLeft.filter (fun u => u != tile) ∧ t.pkg.modeNow = mActivating ∧ Frame s t [] [])) ∧
    (ok = false → s.pkg.boot.revert = false → Runs (.activationRestartDone tile ok at_) s (fun t =>
      t.pkg.boot.revert = true ∧ t.pkg.boot.actLeft = (if s.pkg.boot.act = 1 then [s.pkg.steward] else s.pkg.serving) ∧ t.pkg.modeNow = mActivating ∧
      Frame s t [] [])) ∧
    (s.pkg.boot.actLeft = [tile] → ok = true → s.pkg.boot.act = 1 → s.pkg.boot.revert = false → s.pkg.boot.fallback = false → s.pkg.bus.held = [] →
      s.pkg.mode.quarantine = false → s.pkg.mode.cameFrom < 16 → (∀ u ∈ s.pkg.present, s.pkg.isLost u = false) →
      Runs (.activationRestartDone tile ok at_) s (fun t =>
        t.pkg.modeNow = s.pkg.mode.cameFrom ∧ t.pkg.get 0 fUpState = 0 ∧ t.pkg.on 0 (fUpEvt 0) = true ∧ t.pkg.boot.act = 0 ∧
        t.pkg.get 0 fUpSlot = s.pkg.boot.actSlot % 2 ∧ t.pkg.on 0 fUpTrial = true ∧ t.pkg.boot.liveTrial = true ∧
        t.pkg.cnt 0 oUpActivations = s.pkg.cnt 0 oUpActivations + 1 ∧ SentinelKept s.pkg t.pkg []))) ∧
  (∀ s : State, s.noEthWaits → s.pkg.modeNow = mActivating → s.pkg.boot.act = 2 → s.pkg.boot.actFlushed = true → s.pkg.boot.actLeft ≠ [] →
    s.pkg.boot.revert = false → Runs .activationTimeout s (fun t =>
      t.pkg.boot.revert = true ∧ t.pkg.boot.actLeft = s.pkg.serving ∧ t.pkg.now = max s.pkg.now (s.pkg.boot.actFrom + ns (ms 11)) ∧ Frame s t [] [])) ∧
  (∀ s : State, s.pkg.on 0 fUpTrial = true → s.pkg.boot.waitFall = false → s.pkg.modeNow ≠ mActivating → s.pkg.modeNow ≠ mDebug →
    s.pkg.ksState s.pkg.steward = 0 → s.pkg.boot.liveTrial = false → s.pkg.power.phase ≠ 0 → Runs .trialEnd s (fun t =>
      WasReset s.pkg t.pkg 15 ∧ t.pkg.boot.record.active = s.pkg.otherSlot ∧ t.pkg.boot.record.trial = false))

/-- A stage of the cold path that ends well leads to the next: stage 0 starts the steward's rounds, split where the header says so, and compares the dies;
dies that differ show DIE_REV, and the next stage that ends fails BOOT; stage 1 ends with a commit among tiles 0 and 1; stage 2 starts the standby and the
tile managers, on a package with no trial running, as in every BOOT; stage 3 does not end while the cluster is split, and else ends BOOT in the mode that tamper,
lifecycle and PW_PART give, DEGRADED where a tile was lost, and starts the trial of a slot booted for one. A stage that fails leads to the other slot while
that may boot, and else parks the package cold. A tile that has not reported its sections in stage 2 is lost; without tile 0 BOOT fails. -/
def Obligations.BootStages : Prop :=
  (∀ (ok : Bool) (at_ : Nat) (s : State), s.noEthWaits → s.pkg.modeNow = mBoot →
    let passes := ok && (s.map (fun p => p.reach at_)).stagePasses
    let two := [0, 1].filter s.pkg.inService
    let same : Prop := ∀ d ∈ s.pkg.present, s.pkg.revision d = s.pkg.revision 15
    let parked (t : State) : Prop := parkedMode t.pkg.modeNow = true ∧ (∀ u, t.pkg.tileOn u = false) ∧ SentinelKept s.pkg t.pkg [] ∧ t.pending = s.pending
    let failed (t : State) : Prop :=
      (s.pkg.boot.tried = false → s.slotBoots (1 - s.pkg.boot.slot) = true →
        t.pkg.boot.slot = 1 - s.pkg.boot.slot ∧ t.pkg.boot.tried = true ∧ t.pkg.boot.stage = 0 ∧ t.pkg.on 0 (fUpEvt 3) = true ∧
        t.pkg.boot.record.active = 1 - s.pkg.boot.slot ∧ t.pkg.cnt 0 oUpBootFallbacks = s.pkg.cnt 0 oUpBootFallbacks + 1 ∧
        WordsKept s.pkg t.pkg [pkgAddr 0 0x2100030] ∧ CountsKept s.pkg t.pkg [pkgAddr 0 oUpBootFallbacks] ∧ t.pending = s.pending) ∧
      ((s.pkg.boot.tried = true ∨ s.slotBoots (1 - s.pkg.boot.slot) = false) → parked t)
    (s.pkg.on 0 fDieRev = true → Runs (.bootStageDone ok at_) s parked) ∧
    (s.pkg.on 0 fDieRev = false →
      (passes = false → Runs (.bootStageDone ok at_) s failed) ∧
      (passes = true → s.pkg.boot.stage = 0 →
        let split := (beAt (s.firmware s.pkg.boot.slot).bytes 20 4).testBit 1
        Runs (.bootStageDone ok at_) s (fun t =>
          t.pkg.boot.stage = 1 ∧ t.pkg.get 0 fRole = roleActive ∧ t.pkg.cnt 0 oRoundStart = BitVec.ofNat 64 ((s.pkg.reach at_).countNs 0) ∧
          (split = true → t.pkg.on 0 fSplitBoot = true ∧ t.pkg.get 0 fCluster = clSplit ∧ t.pkg.get 0 fCoresIn = 3) ∧
          (¬ same → t.pkg.on 0 fDieRev = true) ∧
          (same → Frame s t ([pkgAddr 0 0x1D00010] ++ (if split then [pkgAddr 0 0x1D00004] else [])) [pkgAddr 0 oRoundStart]))) ∧
      (s.pkg.boot.stage = 1 → Runs (.bootStageDone ok at_) s (fun t => (passes = false → failed t) ∧
        (passes = true → t.pkg.boot.stage = 2 ∧ (∀ u ∈ two, t.pkg.get u fKsState = 0 ∧ t.pkg.on u fBankSync = true) ∧
          t.pkg.on s.pkg.steward fKsDone = true))) ∧
      (passes = true → s.pkg.boot.stage = 2 → s.pkg.on 0 fUpTrial = false → Runs (.bootStageDone ok at_) s (fun t =>
        t.pkg.boot.stage = 3 ∧ (∀ u ∈ s.pkg.serving, 1 < u → t.pkg.get u fRole = roleManager) ∧
        (s.pkg.inService 1 = true → t.pkg.get 1 fRole = roleStandby ∧ t.pkg.health = hSyncing))) ∧
      (passes = true → 3 ≤ s.pkg.boot.stage →
        let lost := s.pkg.present.any s.pkg.isLost && (s.pkg.bootMode == mRun || s.pkg.bootMode == mRunPartial)
        (s.pkg.get 0 fCluster = clSplit → Runs (.bootStageDone ok at_) s (fun t => t.pkg.modeNow = mBoot ∧ Frame s t [] [])) ∧
        (s.pkg.get 0 fCluster ≠ clSplit → Runs (.bootStageDone ok at_) s (fun t =>
          t.pkg.modeNow = (if lost then mDegraded else s.pkg.bootMode) ∧ t.pkg.get 15 fReason = (if lost then 10 else 16) ∧
          (s.pkg.boot.trialBoot = true → t.pkg.on 0 fUpTrial = true ∧ t.pkg.boot.record.next = false) ∧
          t.pkg.cnt 0 oUpSkippedEnc = s.pkg.cnt 0 oUpSkippedEnc + (if s.pkg.rootLocked then BitVec.ofNat 64 s.encrypted.length else 0) ∧
          (s.pkg.boot.fuseGoal = 0 → SentinelKept s.pkg t.pkg []) ∧ t.pending = s.pending))))) ∧
  (∀ (tile at_ : Nat) (s : State), s.pkg.modeNow = mBoot → s.pkg.boot.stage = 2 → s.pkg.inService tile = true →
    (tile ≠ 0 → Runs (.sectionTimeout tile at_) s (fun t =>
      t.pkg.isLost tile = true ∧ t.pkg.modeNow = mBoot ∧ t.pending = s.pending ∧ (s.pkg.ks.active = false → Frame s t [] []))) ∧
    (tile = 0 → Runs (.sectionTimeout tile at_) s (fun t =>
      parkedMode t.pkg.modeNow = true ∧ (∀ u, t.pkg.tileOn u = false) ∧ SentinelKept s.pkg t.pkg [] ∧ t.pending = s.pending)))

/-- A write or a read of SG_FENCE or of SG_FENCE_WAIT on a tile that is not the requester's home die, where it leaves its home die at once and meets no other
error: no fence of anyone opens or changes, a read answers 0xFFFF_FFFF, and the home die counts an error, recorded as FENCE_REMOTE unless an earlier
one is kept. A read of SG_FENCE has no row of the table; the access itself is stated. -/
def Obligations.FenceRemote : Prop :=
  ∀ (a : Acc) (die off : Nat) (v : Word) (s : State), die < 15 → die ≠ a.req.die → (off = oSgFence ∨ off = oSgFenceWait) → s.pkg.leaves a.req →
    s.pkg.accessErr a.req (pkgAddr die off) = 0 →
    let home := a.req.die
    let recorded : Bool → State → Prop := fun write t =>
      t.pkg.reqs = s.pkg.reqs ∧ t.pkg.cnt home oMerrCount = s.pkg.cnt home oMerrCount + 1 ∧
      (s.pkg.on home fMerrValid = false →
        t.pkg.get home fMerrCode = eFenceRemote ∧ t.pkg.on home fMerrWrite = write ∧ t.pkg.on home fMerrValid = true) ∧
      (s.pkg.on home fMerrValid = true → t.pkg.get home fMerrCode = s.pkg.get home fMerrCode ∧ t.pkg.on home fMerrOvf = true) ∧
      Frame s t [pkgAddr home 0x10, pkgAddr home 0x14] [pkgAddr home oMerrCount]
    let answered : State → Prop := fun t => (s.pkg.out ++ [.reply a.req (pkgAddr die off) 0xFFFFFFFF#32]) <+: t.pkg.out
    Runs (.registerWrite a (pkgAddr die off) v 15) s (recorded true) ∧
    recorded false (s.access a.req (pkgAddr die off) .read) ∧ answered (s.access a.req (pkgAddr die off) .read) ∧
    (off = oSgFence → Runs (.sgFence a die v) s (recorded true)) ∧
    (off = oSgFenceWait → Runs (.sgFenceWait a die) s (fun t => recorded false t ∧ answered t))

/-- Outside BOOT and PROVISION a write of a word that is no command leaves its cold fields as they are. Where the rest of the word is in shape, its live
fields take the write, its keystone fields take it in the shadow copy or as a staged write, and the write is recorded as COLD_WINDOW exactly where
it would have changed a cold bit. Where it is not in shape the whole write is discarded and recorded as OUT_OF_SHAPE alone. -/
def Obligations.ColdWindow : Prop :=
  ∀ (a : Acc) (die off : Nat) (v : Word) (s : State), s.pkg.reaches a.req die off v → plainWord die off = true → s.pkg.modeNow ≠ mBoot →
    s.pkg.modeNow ≠ mProvision → s.pkg.rkBits die off = keystoneMask die off →
    let old := s.pkg.rd die off
    let live := writableBits die off &&& ~~~ coldBits die off
    let keys := keystoneMask die off
    let err := cfgErrOff die
    let changes := (old ^^^ v) &&& coldBits die off ≠ 0
    let recorded : Nat → State → Prop := fun code t =>
      t.pkg.cnt die (cfgErrCnt die) = s.pkg.cnt die (cfgErrCnt die) + 1 ∧
      (s.pkg.on die ⟨err, 31, 31⟩ = false → t.pkg.get die ⟨err, 3, 0⟩ = code ∧ t.pkg.on die ⟨err, 31, 31⟩ = true)
    (((s.pkg.reach a.at_).remember a.req die off v).takes die off v = true → Runs (.registerWrite a (pkgAddr die off) v 15) s (fun t =>
      t.pkg.rd die off = (((old &&& ~~~ live) ||| (v &&& live)) ||| (w1sBits die off &&& v)) &&&
        ~~~ (w1cBits die off &&& v &&& ~~~ (s.pkg.reach a.at_).setNow die off) ∧
      ((die = 15 ∨ s.pkg.staging die = false) → t.pkg.rdShadow die off &&& keys = v &&& keys) ∧
      (die ≠ 15 → s.pkg.staging die = true → keys ≠ 0 →
        (t.pkg.ksT die).staged = (s.pkg.ksT die).staged ++ [{ addr := pkgAddr die off, value := v &&& keys, be := 15 }]) ∧
      (changes → recorded cColdWindow t ∧ Frame s t [pkgAddr die off, pkgAddr die err, pkgAddr die (err + 4)] [pkgAddr die (cfgErrCnt die)]) ∧
      (¬ changes → Frame s t [pkgAddr die off] []))) ∧
    (((s.pkg.reach a.at_).remember a.req die off v).takes die off v = false → Runs (.registerWrite a (pkgAddr die off) v 15) s (fun t =>
      recorded cOutOfShape t ∧ t.pkg.shadow = s.pkg.shadow ∧ t.pkg.ksT die = s.pkg.ksT die ∧
      Frame s t [pkgAddr die err, pkgAddr die (err + 4)] [pkgAddr die (cfgErrCnt die)]))

/-- At reset, for each ordering code, every word of every die reads its table's reset value, every counter is 0, BAT is not yet there, the mode is WAKING (the
spec gives WAKING as PW_MODE's reset value), nothing is powered, nothing waits, no frame, access or message is held, and tile 0 is the steward's tile and
the time reference. -/
def Obligations.ResetState : Prop :=
  ∀ v : Variant, let s := (State.resetOf v).pkg
    (∀ d o, s.rd d o = wordReset v d o) ∧ (∀ d o, s.cnt d o = 0) ∧ s.modeNow = mWaking ∧ s.power.bat = 0 ∧ s.power.phase = 0 ∧ s.steward = 0 ∧ s.ref = 0 ∧
    s.shadow = [] ∧ s.out = [] ∧ s.reqs = [] ∧ s.sw.frames = [] ∧ s.ks.active = false
end

