-- ==== Sys2Proof/Laws/Fields.lean ====
section
/-! SUPPORT. Laws of bit fields: a field reads what was last written to it, and a write of one field leaves the fields beside it alone. -/
namespace Sys2Proof.Machine

theorem fieldMask_bit (hi lo i : Nat) : (fieldMask hi lo).getLsbD i = (decide (i < 32) && decide (lo ≤ i) && decide (i < hi + 1 - lo + lo)) := by
  simp only [fieldMask, BitVec.getLsbD_ofNat, Nat.testBit_mul_two_pow, Nat.testBit_two_pow_sub_one, Bool.and_assoc]
  congr 1
  by_cases h : lo ≤ i
  · simp [h]; omega
  · simp [h]

/-- The bits of a field's value. -/
theorem fieldGet_testBit (w : Word) (hi lo i : Nat) :
    (fieldGet w hi lo).testBit i = (w.getLsbD (lo + i) && decide (i < hi + 1 - lo)) := by
  unfold fieldGet
  rw [Nat.testBit_div_two_pow, BitVec.testBit_toNat, BitVec.getLsbD_and, fieldMask_bit, Nat.add_comm i lo]
  by_cases h : lo + i < 32
  · have : (lo + i < hi + 1 - lo + lo) = (i < hi + 1 - lo) := by simp; omega
    simp [h, this]
  · simp [BitVec.getLsbD_of_ge _ _ (Nat.le_of_not_lt h)]

/-- A field reads what was written to it, cut to its width. -/
theorem fieldGet_fieldSet_same (w : Word) {hi lo : Nat} (v : Nat) (h : hi < 32) :
    fieldGet (fieldSet w hi lo v) hi lo = v % 2 ^ (hi + 1 - lo) := by
  apply Nat.eq_of_testBit_eq
  intro i
  rw [fieldGet_testBit, fieldSet, BitVec.getLsbD_or, BitVec.getLsbD_and, BitVec.getLsbD_and, BitVec.getLsbD_not, fieldMask_bit,
    BitVec.getLsbD_ofNat, Nat.testBit_mul_two_pow, Nat.testBit_mod_two_pow]
  by_cases hi' : i < hi + 1 - lo
  · have : lo + i < 32 := by omega
    have h2 : lo + i < hi + 1 - lo + lo := by omega
    simp [hi', this, h2]
  · simp [hi']

/-- A write of one field leaves the fields beside it alone. -/
theorem fieldGet_fieldSet_ne (w : Word) {hi lo hi' lo' : Nat} (v : Nat) (h : hi < lo' ∨ hi' < lo) :
    fieldGet (fieldSet w hi lo v) hi' lo' = fieldGet w hi' lo' := by
  apply Nat.eq_of_testBit_eq
  intro i
  rw [fieldGet_testBit, fieldGet_testBit, fieldSet, BitVec.getLsbD_or, BitVec.getLsbD_and, BitVec.getLsbD_and, BitVec.getLsbD_not,
    fieldMask_bit]
  by_cases h1 : i < hi' + 1 - lo'
  · by_cases h3 : lo' + i < 32
    · have h2 : ¬ (lo ≤ lo' + i ∧ lo' + i < hi + 1 - lo + lo) := by omega
      by_cases h4 : lo ≤ lo' + i
      · have : ¬ lo' + i < hi + 1 - lo + lo := fun h5 => h2 ⟨h4, h5⟩
        simp [h3, this]
      · simp [h3, h4]
    · simp [h3, BitVec.getLsbD_of_ge _ _ (Nat.le_of_not_lt h3)]
  · simp [h1]

/-- A field's value fits its width. -/
theorem fieldGet_lt (w : Word) (hi lo : Nat) : fieldGet w hi lo < 2 ^ (hi + 1 - lo) := by
  apply Nat.lt_pow_two_of_testBit
  intro i hi'
  rw [fieldGet_testBit]
  simp; intro _; omega

/-- A field as arithmetic on the word. -/
theorem fieldGet_eq (w : Word) (hi lo : Nat) : fieldGet w hi lo = w.toNat / 2 ^ lo % 2 ^ (hi + 1 - lo) := by
  apply Nat.eq_of_testBit_eq
  intro i
  rw [fieldGet_testBit, Nat.testBit_mod_two_pow, Nat.testBit_div_two_pow, BitVec.testBit_toNat, Nat.add_comm i lo, Bool.and_comm]

/-- A bit outside a field keeps its value. -/
theorem fieldSet_getLsbD_ne (w : Word) (hi lo v i : Nat) (h : i < lo ∨ hi < i) : (fieldSet w hi lo v).getLsbD i = w.getLsbD i := by
  rw [fieldSet, BitVec.getLsbD_or, BitVec.getLsbD_and, BitVec.getLsbD_and, BitVec.getLsbD_not, fieldMask_bit]
  by_cases h1 : i < 32
  · by_cases h2 : lo ≤ i
    · have : ¬ i < hi + 1 - lo + lo := by omega
      simp [h1, this]
    · simp [h1, h2]
  · simp [h1, BitVec.getLsbD_of_ge _ _ (Nat.le_of_not_lt h1)]

@[simp] theorem bit_true : bit true = 1 := rfl
@[simp] theorem bit_false : bit false = 0 := rfl
theorem bit_lt (b : Bool) : bit b < 2 := by cases b <;> decide

end Sys2Proof.Machine
end

