-- ==== Sys2Proof/Laws/Sparse.lean ====
section
/-! SUPPORT. Laws of sparse maps: a read after a write of the same key gives the value written, a write leaves every other key alone, every
operation keeps the canonical form. -/
namespace Sys2Proof.Machine

variable {α : Type}

theorem SMap.get_erase_same (d : α) (m : SMap α) (k : Nat) : SMap.get d (SMap.erase k m) k = d := by
  induction m with
  | nil => rfl
  | cons e m ih => obtain ⟨k', v⟩ := e; by_cases h : k' = k <;> simp [SMap.erase, SMap.get, h, ih]

theorem SMap.get_erase_ne (d : α) (m : SMap α) {k j : Nat} (h : j ≠ k) : SMap.get d (SMap.erase k m) j = SMap.get d m j := by
  induction m with
  | nil => rfl
  | cons e m ih =>
    obtain ⟨k', v⟩ := e
    by_cases h' : k' = k
    · subst h'; simp [SMap.erase, SMap.get, Ne.symm h, ih]
    · simp [SMap.erase, SMap.get, h', ih]

theorem SMap.get_insertSorted_ne (d : α) (m : SMap α) {k j : Nat} (v : α) (h : j ≠ k) :
    SMap.get d (SMap.insertSorted k v m) j = SMap.get d m j := by
  induction m with
  | nil => simp [SMap.insertSorted, SMap.get, Ne.symm h]
  | cons e m ih =>
    obtain ⟨k', v'⟩ := e
    by_cases h' : k < k' <;> simp [SMap.insertSorted, SMap.get, h', Ne.symm h, ih]

theorem SMap.get_insertSorted_same (d : α) (m : SMap α) (k : Nat) (v : α) :
    SMap.get d (SMap.insertSorted k v (SMap.erase k m)) k = v := by
  induction m with
  | nil => simp [SMap.erase, SMap.insertSorted, SMap.get]
  | cons e m ih =>
    obtain ⟨k', v'⟩ := e
    by_cases h : k' = k
    · simpa [SMap.erase, h] using ih
    · by_cases h' : k < k' <;> simp [SMap.erase, SMap.insertSorted, SMap.get, h, h', ih]

/-- A read of the key written gives the value written. -/
@[simp] theorem SMap.get_set_same [DecidableEq α] (d : α) (m : SMap α) (k : Nat) (v : α) : SMap.get d (SMap.set d m k v) k = v := by
  by_cases h : v = d
  · simp [SMap.set, h, SMap.get_erase_same]
  · simp [SMap.set, h, SMap.get_insertSorted_same]

/-- A write leaves every other key alone, whatever its unlisted value. -/
theorem SMap.get_set_ne [DecidableEq α] (d e : α) (m : SMap α) {k j : Nat} (v : α) (h : j ≠ k) :
    SMap.get e (SMap.set d m k v) j = SMap.get e m j := by
  by_cases h' : v = d
  · simp [SMap.set, h', SMap.get_erase_ne _ _ h]
  · simp [SMap.set, h', SMap.get_insertSorted_ne _ _ _ h, SMap.get_erase_ne _ _ h]

theorem SMap.get_set [DecidableEq α] (d : α) (m : SMap α) (k j : Nat) (v : α) :
    SMap.get d (SMap.set d m k v) j = if j = k then v else SMap.get d m j := by
  by_cases h : j = k
  · subst h; simp
  · simp [h, SMap.get_set_ne _ _ _ _ h]

/-! ### The canonical form -/

/-- The canonical form as a fact about sorted lists. -/
theorem SMap.wf_cons [DecidableEq α] (d : Nat → α) (k : Nat) (v : α) (m : SMap α) :
    SMap.wf d ((k, v) :: m) = (v != d k && m.all (fun e => decide (k < e.1)) && SMap.wf d m) := by
  induction m generalizing k v with
  | nil => simp [SMap.wf]
  | cons e m ih =>
    obtain ⟨k', v'⟩ := e
    simp only [SMap.wf, List.all_cons]
    rw [ih k' v']
    by_cases h : k < k'
    · have : (m.all (fun e => decide (k' < e.1)) = true) → (m.all (fun e => decide (k < e.1)) = true) := by
        simp only [List.all_eq_true, decide_eq_true_eq]; intro h2 x hx; exact Nat.lt_trans h (h2 x hx)
      cases h1 : m.all (fun e => decide (k' < e.1)) with
      | false => simp [h]
      | true => simp [h, this h1]
    · simp [h]

theorem SMap.all_erase (p : Nat × α → Bool) (m : SMap α) (k : Nat) (h : m.all p = true) : (SMap.erase k m).all p = true := by
  induction m with
  | nil => rfl
  | cons e m ih =>
    obtain ⟨k', v⟩ := e
    simp only [List.all_cons, Bool.and_eq_true] at h
    by_cases h' : k' = k <;> simp [SMap.erase, h', ih h.2, h.1]

theorem SMap.wf_erase [DecidableEq α] (d : Nat → α) (m : SMap α) (k : Nat) (h : SMap.wf d m = true) : SMap.wf d (SMap.erase k m) = true := by
  induction m with
  | nil => rfl
  | cons e m ih =>
    obtain ⟨k', v⟩ := e
    rw [SMap.wf_cons] at h
    simp only [Bool.and_eq_true] at h
    by_cases h' : k' = k
    · simpa [SMap.erase, h'] using ih h.2
    · simp only [SMap.erase, h', if_false]
      rw [SMap.wf_cons]
      simp [h.1.1, SMap.all_erase _ m k h.1.2, ih h.2]

theorem SMap.erase_none (m : SMap α) (k : Nat) : ∀ e ∈ SMap.erase k m, e.1 ≠ k := by
  induction m with
  | nil => simp [SMap.erase]
  | cons e m ih =>
    obtain ⟨k', v⟩ := e
    by_cases h : k' = k
    · simpa [SMap.erase, h] using ih
    · simp only [SMap.erase, h, if_false]
      intro e he
      rcases List.mem_cons.1 he with rfl | he
      · exact h
      · exact ih e he

theorem SMap.all_insertSorted (p : Nat × α → Bool) (m : SMap α) (k : Nat) (v : α) (h : m.all p = true) (hk : p (k, v) = true) :
    (SMap.insertSorted k v m).all p = true := by
  induction m with
  | nil => simp [SMap.insertSorted, hk]
  | cons e m ih =>
    obtain ⟨k', v'⟩ := e
    simp only [List.all_cons, Bool.and_eq_true] at h
    by_cases h' : k < k' <;> simp [SMap.insertSorted, h', hk, ih h.2, h.1]
    simpa using h.2

theorem SMap.wf_insertSorted [DecidableEq α] (d : Nat → α) (m : SMap α) (k : Nat) (v : α) (h : SMap.wf d m = true)
    (hk : ∀ e ∈ m, e.1 ≠ k) (hv : v ≠ d k) : SMap.wf d (SMap.insertSorted k v m) = true := by
  induction m with
  | nil => simp [SMap.insertSorted, SMap.wf, hv]
  | cons e m ih =>
    obtain ⟨k', v'⟩ := e
    have h0 := h
    rw [SMap.wf_cons] at h
    simp only [Bool.and_eq_true] at h
    by_cases h' : k < k'
    · simp only [SMap.insertSorted, h', if_true]
      rw [SMap.wf_cons]
      simp only [h0, Bool.and_true, Bool.and_eq_true, bne_iff_ne, ne_eq, hv, not_false_eq_true, true_and, List.all_cons, decide_eq_true_eq]
      refine ⟨h', ?_⟩
      have h2 := h.1.2
      simp only [List.all_eq_true, decide_eq_true_eq] at h2 ⊢
      exact fun x hx => Nat.lt_trans h' (h2 x hx)
    · have hne : k' ≠ k := hk (k', v') (by simp)
      have hlt : k' < k := by omega
      simp only [SMap.insertSorted, h', if_false]
      rw [SMap.wf_cons]
      simp only [Bool.and_eq_true]
      refine ⟨⟨h.1.1, SMap.all_insertSorted _ m k v h.1.2 (by simpa using hlt)⟩, ih h.2 (fun e he => hk e (List.mem_cons_of_mem _ he))⟩

/-- A write keeps the canonical form. -/
theorem SMap.wf_set [DecidableEq α] (d : Nat → α) (m : SMap α) (k : Nat) (v : α) (h : SMap.wf d m = true) :
    SMap.wf d (SMap.set (d k) m k v) = true := by
  by_cases h' : v = d k
  · simpa [SMap.set, h'] using SMap.wf_erase d m k h
  · simpa [SMap.set, h'] using SMap.wf_insertSorted d _ k v (SMap.wf_erase d m k h) (SMap.erase_none m k) h'

/-- Leaving entries out keeps the canonical form. -/
theorem SMap.wf_filter [DecidableEq α] (d : Nat → α) (m : SMap α) (p : Nat × α → Bool) (h : SMap.wf d m = true) :
    SMap.wf d (m.filter p) = true := by
  induction m with
  | nil => rfl
  | cons e m ih =>
    obtain ⟨k, v⟩ := e
    rw [SMap.wf_cons] at h
    simp only [Bool.and_eq_true] at h
    by_cases h' : p (k, v) = true
    · simp only [List.filter_cons, h', if_true]
      rw [SMap.wf_cons]
      simp only [Bool.and_eq_true]
      refine ⟨⟨h.1.1, ?_⟩, ih h.2⟩
      have h2 := h.1.2
      simp only [List.all_eq_true, decide_eq_true_eq, List.mem_filter] at h2 ⊢
      exact fun x hx => h2 x hx.1
    · simpa [List.filter_cons, h'] using ih h.2

end Sys2Proof.Machine
end

