-- ==== Sys2Proof/Laws/State.lean ====
section
/-! SUPPORT. What each named update of the package leaves alone: one lemma per field per update, and one per read. -/
namespace Sys2Proof.Machine

/-! `Pkg.wr` changes only `regs`. -/
@[simp] theorem Pkg.wr_variant (s : Pkg) (d o : Nat) (w : Word) : (s.wr d o w).variant = s.variant := (rfl)
@[simp] theorem Pkg.wr_now (s : Pkg) (d o : Nat) (w : Word) : (s.wr d o w).now = s.now := (rfl)
@[simp] theorem Pkg.wr_shadow (s : Pkg) (d o : Nat) (w : Word) : (s.wr d o w).shadow = s.shadow := (rfl)
@[simp] theorem Pkg.wr_ctr (s : Pkg) (d o : Nat) (w : Word) : (s.wr d o w).ctr = s.ctr := (rfl)
@[simp] theorem Pkg.wr_latch (s : Pkg) (d o : Nat) (w : Word) : (s.wr d o w).latch = s.latch := (rfl)
@[simp] theorem Pkg.wr_sets (s : Pkg) (d o : Nat) (w : Word) : (s.wr d o w).sets = s.sets := (rfl)
@[simp] theorem Pkg.wr_coldNext (s : Pkg) (d o : Nat) (w : Word) : (s.wr d o w).coldNext = s.coldNext := (rfl)
@[simp] theorem Pkg.wr_revs (s : Pkg) (d o : Nat) (w : Word) : (s.wr d o w).revs = s.revs := (rfl)
@[simp] theorem Pkg.wr_out (s : Pkg) (d o : Nat) (w : Word) : (s.wr d o w).out = s.out := (rfl)
@[simp] theorem Pkg.wr_fresh (s : Pkg) (d o : Nat) (w : Word) : (s.wr d o w).fresh = s.fresh := (rfl)
@[simp] theorem Pkg.wr_msix (s : Pkg) (d o : Nat) (w : Word) : (s.wr d o w).msix = s.msix := (rfl)
@[simp] theorem Pkg.wr_reqs (s : Pkg) (d o : Nat) (w : Word) : (s.wr d o w).reqs = s.reqs := (rfl)
@[simp] theorem Pkg.wr_portQ (s : Pkg) (d o : Nat) (w : Word) : (s.wr d o w).portQ = s.portQ := (rfl)
@[simp] theorem Pkg.wr_portTurn (s : Pkg) (d o : Nat) (w : Word) : (s.wr d o w).portTurn = s.portTurn := (rfl)
@[simp] theorem Pkg.wr_spans (s : Pkg) (d o : Nat) (w : Word) : (s.wr d o w).spans = s.spans := (rfl)
@[simp] theorem Pkg.wr_routes (s : Pkg) (d o : Nat) (w : Word) : (s.wr d o w).routes = s.routes := (rfl)
@[simp] theorem Pkg.wr_ctrl (s : Pkg) (d o : Nat) (w : Word) : (s.wr d o w).ctrl = s.ctrl := (rfl)
@[simp] theorem Pkg.wr_tethers (s : Pkg) (d o : Nat) (w : Word) : (s.wr d o w).tethers = s.tethers := (rfl)
@[simp] theorem Pkg.wr_tether (s : Pkg) (d o : Nat) (w : Word) : (s.wr d o w).tether = s.tether := (rfl)
@[simp] theorem Pkg.wr_clocks (s : Pkg) (d o : Nat) (w : Word) : (s.wr d o w).clocks = s.clocks := (rfl)
@[simp] theorem Pkg.wr_ref (s : Pkg) (d o : Nat) (w : Word) : (s.wr d o w).ref = s.ref := (rfl)
@[simp] theorem Pkg.wr_ksTile (s : Pkg) (d o : Nat) (w : Word) : (s.wr d o w).ksTile = s.ksTile := (rfl)
@[simp] theorem Pkg.wr_ks (s : Pkg) (d o : Nat) (w : Word) : (s.wr d o w).ks = s.ks := (rfl)
@[simp] theorem Pkg.wr_mode (s : Pkg) (d o : Nat) (w : Word) : (s.wr d o w).mode = s.mode := (rfl)
@[simp] theorem Pkg.wr_sw (s : Pkg) (d o : Nat) (w : Word) : (s.wr d o w).sw = s.sw := (rfl)
@[simp] theorem Pkg.wr_macKeys (s : Pkg) (d o : Nat) (w : Word) : (s.wr d o w).macKeys = s.macKeys := (rfl)
@[simp] theorem Pkg.wr_trKeys (s : Pkg) (d o : Nat) (w : Word) : (s.wr d o w).trKeys = s.trKeys := (rfl)
@[simp] theorem Pkg.wr_vault (s : Pkg) (d o : Nat) (w : Word) : (s.wr d o w).vault = s.vault := (rfl)
@[simp] theorem Pkg.wr_lease (s : Pkg) (d o : Nat) (w : Word) : (s.wr d o w).lease = s.lease := (rfl)
@[simp] theorem Pkg.wr_trestles (s : Pkg) (d o : Nat) (w : Word) : (s.wr d o w).trestles = s.trestles := (rfl)
@[simp] theorem Pkg.wr_bus (s : Pkg) (d o : Nat) (w : Word) : (s.wr d o w).bus = s.bus := (rfl)
@[simp] theorem Pkg.wr_nm (s : Pkg) (d o : Nat) (w : Word) : (s.wr d o w).nm = s.nm := (rfl)
@[simp] theorem Pkg.wr_pnSeen (s : Pkg) (d o : Nat) (w : Word) : (s.wr d o w).pnSeen = s.pnSeen := (rfl)
@[simp] theorem Pkg.wr_bridges (s : Pkg) (d o : Nat) (w : Word) : (s.wr d o w).bridges = s.bridges := (rfl)
@[simp] theorem Pkg.wr_dma (s : Pkg) (d o : Nat) (w : Word) : (s.wr d o w).dma = s.dma := (rfl)
@[simp] theorem Pkg.wr_pods (s : Pkg) (d o : Nat) (w : Word) : (s.wr d o w).pods = s.pods := (rfl)
@[simp] theorem Pkg.wr_ckLow (s : Pkg) (d o : Nat) (w : Word) : (s.wr d o w).ckLow = s.ckLow := (rfl)
@[simp] theorem Pkg.wr_grants (s : Pkg) (d o : Nat) (w : Word) : (s.wr d o w).grants = s.grants := (rfl)
@[simp] theorem Pkg.wr_power (s : Pkg) (d o : Nat) (w : Word) : (s.wr d o w).power = s.power := (rfl)
@[simp] theorem Pkg.wr_wake (s : Pkg) (d o : Nat) (w : Word) : (s.wr d o w).wake = s.wake := (rfl)
@[simp] theorem Pkg.wr_clusters (s : Pkg) (d o : Nat) (w : Word) : (s.wr d o w).clusters = s.clusters := (rfl)
@[simp] theorem Pkg.wr_cens (s : Pkg) (d o : Nat) (w : Word) : (s.wr d o w).cens = s.cens := (rfl)
@[simp] theorem Pkg.wr_cenReq (s : Pkg) (d o : Nat) (w : Word) : (s.wr d o w).cenReq = s.cenReq := (rfl)
@[simp] theorem Pkg.wr_jnl (s : Pkg) (d o : Nat) (w : Word) : (s.wr d o w).jnl = s.jnl := (rfl)
@[simp] theorem Pkg.wr_keeper (s : Pkg) (d o : Nat) (w : Word) : (s.wr d o w).keeper = s.keeper := (rfl)
@[simp] theorem Pkg.wr_boot (s : Pkg) (d o : Nat) (w : Word) : (s.wr d o w).boot = s.boot := (rfl)
@[simp] theorem Pkg.wr_wipe (s : Pkg) (d o : Nat) (w : Word) : (s.wr d o w).wipe = s.wipe := (rfl)
@[simp] theorem Pkg.wr_cnt (s : Pkg) (d o : Nat) (w : Word) (d2 o2 : Nat) : (s.wr d o w).cnt d2 o2 = s.cnt d2 o2 := (rfl)

/-! `Pkg.put` changes only `regs`. -/
@[simp] theorem Pkg.put_variant (s : Pkg) (d : Nat) (f : Fld) (v : Nat) : (s.put d f v).variant = s.variant := (rfl)
@[simp] theorem Pkg.put_now (s : Pkg) (d : Nat) (f : Fld) (v : Nat) : (s.put d f v).now = s.now := (rfl)
@[simp] theorem Pkg.put_shadow (s : Pkg) (d : Nat) (f : Fld) (v : Nat) : (s.put d f v).shadow = s.shadow := (rfl)
@[simp] theorem Pkg.put_ctr (s : Pkg) (d : Nat) (f : Fld) (v : Nat) : (s.put d f v).ctr = s.ctr := (rfl)
@[simp] theorem Pkg.put_latch (s : Pkg) (d : Nat) (f : Fld) (v : Nat) : (s.put d f v).latch = s.latch := (rfl)
@[simp] theorem Pkg.put_sets (s : Pkg) (d : Nat) (f : Fld) (v : Nat) : (s.put d f v).sets = s.sets := (rfl)
@[simp] theorem Pkg.put_coldNext (s : Pkg) (d : Nat) (f : Fld) (v : Nat) : (s.put d f v).coldNext = s.coldNext := (rfl)
@[simp] theorem Pkg.put_revs (s : Pkg) (d : Nat) (f : Fld) (v : Nat) : (s.put d f v).revs = s.revs := (rfl)
@[simp] theorem Pkg.put_out (s : Pkg) (d : Nat) (f : Fld) (v : Nat) : (s.put d f v).out = s.out := (rfl)
@[simp] theorem Pkg.put_fresh (s : Pkg) (d : Nat) (f : Fld) (v : Nat) : (s.put d f v).fresh = s.fresh := (rfl)
@[simp] theorem Pkg.put_msix (s : Pkg) (d : Nat) (f : Fld) (v : Nat) : (s.put d f v).msix = s.msix := (rfl)
@[simp] theorem Pkg.put_reqs (s : Pkg) (d : Nat) (f : Fld) (v : Nat) : (s.put d f v).reqs = s.reqs := (rfl)
@[simp] theorem Pkg.put_portQ (s : Pkg) (d : Nat) (f : Fld) (v : Nat) : (s.put d f v).portQ = s.portQ := (rfl)
@[simp] theorem Pkg.put_portTurn (s : Pkg) (d : Nat) (f : Fld) (v : Nat) : (s.put d f v).portTurn = s.portTurn := (rfl)
@[simp] theorem Pkg.put_spans (s : Pkg) (d : Nat) (f : Fld) (v : Nat) : (s.put d f v).spans = s.spans := (rfl)
@[simp] theorem Pkg.put_routes (s : Pkg) (d : Nat) (f : Fld) (v : Nat) : (s.put d f v).routes = s.routes := (rfl)
@[simp] theorem Pkg.put_ctrl (s : Pkg) (d : Nat) (f : Fld) (v : Nat) : (s.put d f v).ctrl = s.ctrl := (rfl)
@[simp] theorem Pkg.put_tethers (s : Pkg) (d : Nat) (f : Fld) (v : Nat) : (s.put d f v).tethers = s.tethers := (rfl)
@[simp] theorem Pkg.put_tether (s : Pkg) (d : Nat) (f : Fld) (v : Nat) : (s.put d f v).tether = s.tether := (rfl)
@[simp] theorem Pkg.put_clocks (s : Pkg) (d : Nat) (f : Fld) (v : Nat) : (s.put d f v).clocks = s.clocks := (rfl)
@[simp] theorem Pkg.put_ref (s : Pkg) (d : Nat) (f : Fld) (v : Nat) : (s.put d f v).ref = s.ref := (rfl)
@[simp] theorem Pkg.put_ksTile (s : Pkg) (d : Nat) (f : Fld) (v : Nat) : (s.put d f v).ksTile = s.ksTile := (rfl)
@[simp] theorem Pkg.put_ks (s : Pkg) (d : Nat) (f : Fld) (v : Nat) : (s.put d f v).ks = s.ks := (rfl)
@[simp] theorem Pkg.put_mode (s : Pkg) (d : Nat) (f : Fld) (v : Nat) : (s.put d f v).mode = s.mode := (rfl)
@[simp] theorem Pkg.put_sw (s : Pkg) (d : Nat) (f : Fld) (v : Nat) : (s.put d f v).sw = s.sw := (rfl)
@[simp] theorem Pkg.put_macKeys (s : Pkg) (d : Nat) (f : Fld) (v : Nat) : (s.put d f v).macKeys = s.macKeys := (rfl)
@[simp] theorem Pkg.put_trKeys (s : Pkg) (d : Nat) (f : Fld) (v : Nat) : (s.put d f v).trKeys = s.trKeys := (rfl)
@[simp] theorem Pkg.put_vault (s : Pkg) (d : Nat) (f : Fld) (v : Nat) : (s.put d f v).vault = s.vault := (rfl)
@[simp] theorem Pkg.put_lease (s : Pkg) (d : Nat) (f : Fld) (v : Nat) : (s.put d f v).lease = s.lease := (rfl)
@[simp] theorem Pkg.put_trestles (s : Pkg) (d : Nat) (f : Fld) (v : Nat) : (s.put d f v).trestles = s.trestles := (rfl)
@[simp] theorem Pkg.put_bus (s : Pkg) (d : Nat) (f : Fld) (v : Nat) : (s.put d f v).bus = s.bus := (rfl)
@[simp] theorem Pkg.put_nm (s : Pkg) (d : Nat) (f : Fld) (v : Nat) : (s.put d f v).nm = s.nm := (rfl)
@[simp] theorem Pkg.put_pnSeen (s : Pkg) (d : Nat) (f : Fld) (v : Nat) : (s.put d f v).pnSeen = s.pnSeen := (rfl)
@[simp] theorem Pkg.put_bridges (s : Pkg) (d : Nat) (f : Fld) (v : Nat) : (s.put d f v).bridges = s.bridges := (rfl)
@[simp] theorem Pkg.put_dma (s : Pkg) (d : Nat) (f : Fld) (v : Nat) : (s.put d f v).dma = s.dma := (rfl)
@[simp] theorem Pkg.put_pods (s : Pkg) (d : Nat) (f : Fld) (v : Nat) : (s.put d f v).pods = s.pods := (rfl)
@[simp] theorem Pkg.put_ckLow (s : Pkg) (d : Nat) (f : Fld) (v : Nat) : (s.put d f v).ckLow = s.ckLow := (rfl)
@[simp] theorem Pkg.put_grants (s : Pkg) (d : Nat) (f : Fld) (v : Nat) : (s.put d f v).grants = s.grants := (rfl)
@[simp] theorem Pkg.put_power (s : Pkg) (d : Nat) (f : Fld) (v : Nat) : (s.put d f v).power = s.power := (rfl)
@[simp] theorem Pkg.put_wake (s : Pkg) (d : Nat) (f : Fld) (v : Nat) : (s.put d f v).wake = s.wake := (rfl)
@[simp] theorem Pkg.put_clusters (s : Pkg) (d : Nat) (f : Fld) (v : Nat) : (s.put d f v).clusters = s.clusters := (rfl)
@[simp] theorem Pkg.put_cens (s : Pkg) (d : Nat) (f : Fld) (v : Nat) : (s.put d f v).cens = s.cens := (rfl)
@[simp] theorem Pkg.put_cenReq (s : Pkg) (d : Nat) (f : Fld) (v : Nat) : (s.put d f v).cenReq = s.cenReq := (rfl)
@[simp] theorem Pkg.put_jnl (s : Pkg) (d : Nat) (f : Fld) (v : Nat) : (s.put d f v).jnl = s.jnl := (rfl)
@[simp] theorem Pkg.put_keeper (s : Pkg) (d : Nat) (f : Fld) (v : Nat) : (s.put d f v).keeper = s.keeper := (rfl)
@[simp] theorem Pkg.put_boot (s : Pkg) (d : Nat) (f : Fld) (v : Nat) : (s.put d f v).boot = s.boot := (rfl)
@[simp] theorem Pkg.put_wipe (s : Pkg) (d : Nat) (f : Fld) (v : Nat) : (s.put d f v).wipe = s.wipe := (rfl)
@[simp] theorem Pkg.put_cnt (s : Pkg) (d : Nat) (f : Fld) (v : Nat) (d2 o2 : Nat) : (s.put d f v).cnt d2 o2 = s.cnt d2 o2 := (rfl)

/-! `Pkg.raise` changes only `regs`, `sets`. -/
@[simp] theorem Pkg.raise_variant (s : Pkg) (d : Nat) (f : Fld) : (s.raise d f).variant = s.variant := (rfl)
@[simp] theorem Pkg.raise_now (s : Pkg) (d : Nat) (f : Fld) : (s.raise d f).now = s.now := (rfl)
@[simp] theorem Pkg.raise_shadow (s : Pkg) (d : Nat) (f : Fld) : (s.raise d f).shadow = s.shadow := (rfl)
@[simp] theorem Pkg.raise_ctr (s : Pkg) (d : Nat) (f : Fld) : (s.raise d f).ctr = s.ctr := (rfl)
@[simp] theorem Pkg.raise_latch (s : Pkg) (d : Nat) (f : Fld) : (s.raise d f).latch = s.latch := (rfl)
@[simp] theorem Pkg.raise_coldNext (s : Pkg) (d : Nat) (f : Fld) : (s.raise d f).coldNext = s.coldNext := (rfl)
@[simp] theorem Pkg.raise_revs (s : Pkg) (d : Nat) (f : Fld) : (s.raise d f).revs = s.revs := (rfl)
@[simp] theorem Pkg.raise_out (s : Pkg) (d : Nat) (f : Fld) : (s.raise d f).out = s.out := (rfl)
@[simp] theorem Pkg.raise_fresh (s : Pkg) (d : Nat) (f : Fld) : (s.raise d f).fresh = s.fresh := (rfl)
@[simp] theorem Pkg.raise_msix (s : Pkg) (d : Nat) (f : Fld) : (s.raise d f).msix = s.msix := (rfl)
@[simp] theorem Pkg.raise_reqs (s : Pkg) (d : Nat) (f : Fld) : (s.raise d f).reqs = s.reqs := (rfl)
@[simp] theorem Pkg.raise_portQ (s : Pkg) (d : Nat) (f : Fld) : (s.raise d f).portQ = s.portQ := (rfl)
@[simp] theorem Pkg.raise_portTurn (s : Pkg) (d : Nat) (f : Fld) : (s.raise d f).portTurn = s.portTurn := (rfl)
@[simp] theorem Pkg.raise_spans (s : Pkg) (d : Nat) (f : Fld) : (s.raise d f).spans = s.spans := (rfl)
@[simp] theorem Pkg.raise_routes (s : Pkg) (d : Nat) (f : Fld) : (s.raise d f).routes = s.routes := (rfl)
@[simp] theorem Pkg.raise_ctrl (s : Pkg) (d : Nat) (f : Fld) : (s.raise d f).ctrl = s.ctrl := (rfl)
@[simp] theorem Pkg.raise_tethers (s : Pkg) (d : Nat) (f : Fld) : (s.raise d f).tethers = s.tethers := (rfl)
@[simp] theorem Pkg.raise_tether (s : Pkg) (d : Nat) (f : Fld) : (s.raise d f).tether = s.tether := (rfl)
@[simp] theorem Pkg.raise_clocks (s : Pkg) (d : Nat) (f : Fld) : (s.raise d f).clocks = s.clocks := (rfl)
@[simp] theorem Pkg.raise_ref (s : Pkg) (d : Nat) (f : Fld) : (s.raise d f).ref = s.ref := (rfl)
@[simp] theorem Pkg.raise_ksTile (s : Pkg) (d : Nat) (f : Fld) : (s.raise d f).ksTile = s.ksTile := (rfl)
@[simp] theorem Pkg.raise_ks (s : Pkg) (d : Nat) (f : Fld) : (s.raise d f).ks = s.ks := (rfl)
@[simp] theorem Pkg.raise_mode (s : Pkg) (d : Nat) (f : Fld) : (s.raise d f).mode = s.mode := (rfl)
@[simp] theorem Pkg.raise_sw (s : Pkg) (d : Nat) (f : Fld) : (s.raise d f).sw = s.sw := (rfl)
@[simp] theorem Pkg.raise_macKeys (s : Pkg) (d : Nat) (f : Fld) : (s.raise d f).macKeys = s.macKeys := (rfl)
@[simp] theorem Pkg.raise_trKeys (s : Pkg) (d : Nat) (f : Fld) : (s.raise d f).trKeys = s.trKeys := (rfl)
@[simp] theorem Pkg.raise_vault (s : Pkg) (d : Nat) (f : Fld) : (s.raise d f).vault = s.vault := (rfl)
@[simp] theorem Pkg.raise_lease (s : Pkg) (d : Nat) (f : Fld) : (s.raise d f).lease = s.lease := (rfl)
@[simp] theorem Pkg.raise_trestles (s : Pkg) (d : Nat) (f : Fld) : (s.raise d f).trestles = s.trestles := (rfl)
@[simp] theorem Pkg.raise_bus (s : Pkg) (d : Nat) (f : Fld) : (s.raise d f).bus = s.bus := (rfl)
@[simp] theorem Pkg.raise_nm (s : Pkg) (d : Nat) (f : Fld) : (s.raise d f).nm = s.nm := (rfl)
@[simp] theorem Pkg.raise_pnSeen (s : Pkg) (d : Nat) (f : Fld) : (s.raise d f).pnSeen = s.pnSeen := (rfl)
@[simp] theorem Pkg.raise_bridges (s : Pkg) (d : Nat) (f : Fld) : (s.raise d f).bridges = s.bridges := (rfl)
@[simp] theorem Pkg.raise_dma (s : Pkg) (d : Nat) (f : Fld) : (s.raise d f).dma = s.dma := (rfl)
@[simp] theorem Pkg.raise_pods (s : Pkg) (d : Nat) (f : Fld) : (s.raise d f).pods = s.pods := (rfl)
@[simp] theorem Pkg.raise_ckLow (s : Pkg) (d : Nat) (f : Fld) : (s.raise d f).ckLow = s.ckLow := (rfl)
@[simp] theorem Pkg.raise_grants (s : Pkg) (d : Nat) (f : Fld) : (s.raise d f).grants = s.grants := (rfl)
@[simp] theorem Pkg.raise_power (s : Pkg) (d : Nat) (f : Fld) : (s.raise d f).power = s.power := (rfl)
@[simp] theorem Pkg.raise_wake (s : Pkg) (d : Nat) (f : Fld) : (s.raise d f).wake = s.wake := (rfl)
@[simp] theorem Pkg.raise_clusters (s : Pkg) (d : Nat) (f : Fld) : (s.raise d f).clusters = s.clusters := (rfl)
@[simp] theorem Pkg.raise_cens (s : Pkg) (d : Nat) (f : Fld) : (s.raise d f).cens = s.cens := (rfl)
@[simp] theorem Pkg.raise_cenReq (s : Pkg) (d : Nat) (f : Fld) : (s.raise d f).cenReq = s.cenReq := (rfl)
@[simp] theorem Pkg.raise_jnl (s : Pkg) (d : Nat) (f : Fld) : (s.raise d f).jnl = s.jnl := (rfl)
@[simp] theorem Pkg.raise_keeper (s : Pkg) (d : Nat) (f : Fld) : (s.raise d f).keeper = s.keeper := (rfl)
@[simp] theorem Pkg.raise_boot (s : Pkg) (d : Nat) (f : Fld) : (s.raise d f).boot = s.boot := (rfl)
@[simp] theorem Pkg.raise_wipe (s : Pkg) (d : Nat) (f : Fld) : (s.raise d f).wipe = s.wipe := (rfl)
@[simp] theorem Pkg.raise_cnt (s : Pkg) (d : Nat) (f : Fld) (d2 o2 : Nat) : (s.raise d f).cnt d2 o2 = s.cnt d2 o2 := (rfl)

/-! `Pkg.marked` changes only `sets`. -/
@[simp] theorem Pkg.marked_variant (s : Pkg) (d o : Nat) (m : Word) : (s.marked d o m).variant = s.variant := (rfl)
@[simp] theorem Pkg.marked_now (s : Pkg) (d o : Nat) (m : Word) : (s.marked d o m).now = s.now := (rfl)
@[simp] theorem Pkg.marked_regs (s : Pkg) (d o : Nat) (m : Word) : (s.marked d o m).regs = s.regs := (rfl)
@[simp] theorem Pkg.marked_shadow (s : Pkg) (d o : Nat) (m : Word) : (s.marked d o m).shadow = s.shadow := (rfl)
@[simp] theorem Pkg.marked_ctr (s : Pkg) (d o : Nat) (m : Word) : (s.marked d o m).ctr = s.ctr := (rfl)
@[simp] theorem Pkg.marked_latch (s : Pkg) (d o : Nat) (m : Word) : (s.marked d o m).latch = s.latch := (rfl)
@[simp] theorem Pkg.marked_coldNext (s : Pkg) (d o : Nat) (m : Word) : (s.marked d o m).coldNext = s.coldNext := (rfl)
@[simp] theorem Pkg.marked_revs (s : Pkg) (d o : Nat) (m : Word) : (s.marked d o m).revs = s.revs := (rfl)
@[simp] theorem Pkg.marked_out (s : Pkg) (d o : Nat) (m : Word) : (s.marked d o m).out = s.out := (rfl)
@[simp] theorem Pkg.marked_fresh (s : Pkg) (d o : Nat) (m : Word) : (s.marked d o m).fresh = s.fresh := (rfl)
@[simp] theorem Pkg.marked_msix (s : Pkg) (d o : Nat) (m : Word) : (s.marked d o m).msix = s.msix := (rfl)
@[simp] theorem Pkg.marked_reqs (s : Pkg) (d o : Nat) (m : Word) : (s.marked d o m).reqs = s.reqs := (rfl)
@[simp] theorem Pkg.marked_portQ (s : Pkg) (d o : Nat) (m : Word) : (s.marked d o m).portQ = s.portQ := (rfl)
@[simp] theorem Pkg.marked_portTurn (s : Pkg) (d o : Nat) (m : Word) : (s.marked d o m).portTurn = s.portTurn := (rfl)
@[simp] theorem Pkg.marked_spans (s : Pkg) (d o : Nat) (m : Word) : (s.marked d o m).spans = s.spans := (rfl)
@[simp] theorem Pkg.marked_routes (s : Pkg) (d o : Nat) (m : Word) : (s.marked d o m).routes = s.routes := (rfl)
@[simp] theorem Pkg.marked_ctrl (s : Pkg) (d o : Nat) (m : Word) : (s.marked d o m).ctrl = s.ctrl := (rfl)
@[simp] theorem Pkg.marked_tethers (s : Pkg) (d o : Nat) (m : Word) : (s.marked d o m).tethers = s.tethers := (rfl)
@[simp] theorem Pkg.marked_tether (s : Pkg) (d o : Nat) (m : Word) : (s.marked d o m).tether = s.tether := (rfl)
@[simp] theorem Pkg.marked_clocks (s : Pkg) (d o : Nat) (m : Word) : (s.marked d o m).clocks = s.clocks := (rfl)
@[simp] theorem Pkg.marked_ref (s : Pkg) (d o : Nat) (m : Word) : (s.marked d o m).ref = s.ref := (rfl)
@[simp] theorem Pkg.marked_ksTile (s : Pkg) (d o : Nat) (m : Word) : (s.marked d o m).ksTile = s.ksTile := (rfl)
@[simp] theorem Pkg.marked_ks (s : Pkg) (d o : Nat) (m : Word) : (s.marked d o m).ks = s.ks := (rfl)
@[simp] theorem Pkg.marked_mode (s : Pkg) (d o : Nat) (m : Word) : (s.marked d o m).mode = s.mode := (rfl)
@[simp] theorem Pkg.marked_sw (s : Pkg) (d o : Nat) (m : Word) : (s.marked d o m).sw = s.sw := (rfl)
@[simp] theorem Pkg.marked_macKeys (s : Pkg) (d o : Nat) (m : Word) : (s.marked d o m).macKeys = s.macKeys := (rfl)
@[simp] theorem Pkg.marked_trKeys (s : Pkg) (d o : Nat) (m : Word) : (s.marked d o m).trKeys = s.trKeys := (rfl)
@[simp] theorem Pkg.marked_vault (s : Pkg) (d o : Nat) (m : Word) : (s.marked d o m).vault = s.vault := (rfl)
@[simp] theorem Pkg.marked_lease (s : Pkg) (d o : Nat) (m : Word) : (s.marked d o m).lease = s.lease := (rfl)
@[simp] theorem Pkg.marked_trestles (s : Pkg) (d o : Nat) (m : Word) : (s.marked d o m).trestles = s.trestles := (rfl)
@[simp] theorem Pkg.marked_bus (s : Pkg) (d o : Nat) (m : Word) : (s.marked d o m).bus = s.bus := (rfl)
@[simp] theorem Pkg.marked_nm (s : Pkg) (d o : Nat) (m : Word) : (s.marked d o m).nm = s.nm := (rfl)
@[simp] theorem Pkg.marked_pnSeen (s : Pkg) (d o : Nat) (m : Word) : (s.marked d o m).pnSeen = s.pnSeen := (rfl)
@[simp] theorem Pkg.marked_bridges (s : Pkg) (d o : Nat) (m : Word) : (s.marked d o m).bridges = s.bridges := (rfl)
@[simp] theorem Pkg.marked_dma (s : Pkg) (d o : Nat) (m : Word) : (s.marked d o m).dma = s.dma := (rfl)
@[simp] theorem Pkg.marked_pods (s : Pkg) (d o : Nat) (m : Word) : (s.marked d o m).pods = s.pods := (rfl)
@[simp] theorem Pkg.marked_ckLow (s : Pkg) (d o : Nat) (m : Word) : (s.marked d o m).ckLow = s.ckLow := (rfl)
@[simp] theorem Pkg.marked_grants (s : Pkg) (d o : Nat) (m : Word) : (s.marked d o m).grants = s.grants := (rfl)
@[simp] theorem Pkg.marked_power (s : Pkg) (d o : Nat) (m : Word) : (s.marked d o m).power = s.power := (rfl)
@[simp] theorem Pkg.marked_wake (s : Pkg) (d o : Nat) (m : Word) : (s.marked d o m).wake = s.wake := (rfl)
@[simp] theorem Pkg.marked_clusters (s : Pkg) (d o : Nat) (m : Word) : (s.marked d o m).clusters = s.clusters := (rfl)
@[simp] theorem Pkg.marked_cens (s : Pkg) (d o : Nat) (m : Word) : (s.marked d o m).cens = s.cens := (rfl)
@[simp] theorem Pkg.marked_cenReq (s : Pkg) (d o : Nat) (m : Word) : (s.marked d o m).cenReq = s.cenReq := (rfl)
@[simp] theorem Pkg.marked_jnl (s : Pkg) (d o : Nat) (m : Word) : (s.marked d o m).jnl = s.jnl := (rfl)
@[simp] theorem Pkg.marked_keeper (s : Pkg) (d o : Nat) (m : Word) : (s.marked d o m).keeper = s.keeper := (rfl)
@[simp] theorem Pkg.marked_boot (s : Pkg) (d o : Nat) (m : Word) : (s.marked d o m).boot = s.boot := (rfl)
@[simp] theorem Pkg.marked_wipe (s : Pkg) (d o : Nat) (m : Word) : (s.marked d o m).wipe = s.wipe := (rfl)
@[simp] theorem Pkg.marked_rd (s : Pkg) (d o : Nat) (m : Word) (d2 o2 : Nat) : (s.marked d o m).rd d2 o2 = s.rd d2 o2 := (rfl)
@[simp] theorem Pkg.marked_get (s : Pkg) (d o : Nat) (m : Word) (d2 : Nat) (f2 : Fld) : (s.marked d o m).get d2 f2 = s.get d2 f2 := (rfl)
@[simp] theorem Pkg.marked_on (s : Pkg) (d o : Nat) (m : Word) (d2 : Nat) (f2 : Fld) : (s.marked d o m).on d2 f2 = s.on d2 f2 := (rfl)
@[simp] theorem Pkg.marked_cnt (s : Pkg) (d o : Nat) (m : Word) (d2 o2 : Nat) : (s.marked d o m).cnt d2 o2 = s.cnt d2 o2 := (rfl)

/-! `Pkg.wrShadow` changes only `shadow`. -/
@[simp] theorem Pkg.wrShadow_variant (s : Pkg) (d o : Nat) (w : Word) : (s.wrShadow d o w).variant = s.variant := (rfl)
@[simp] theorem Pkg.wrShadow_now (s : Pkg) (d o : Nat) (w : Word) : (s.wrShadow d o w).now = s.now := (rfl)
@[simp] theorem Pkg.wrShadow_regs (s : Pkg) (d o : Nat) (w : Word) : (s.wrShadow d o w).regs = s.regs := (rfl)
@[simp] theorem Pkg.wrShadow_ctr (s : Pkg) (d o : Nat) (w : Word) : (s.wrShadow d o w).ctr = s.ctr := (rfl)
@[simp] theorem Pkg.wrShadow_latch (s : Pkg) (d o : Nat) (w : Word) : (s.wrShadow d o w).latch = s.latch := (rfl)
@[simp] theorem Pkg.wrShadow_sets (s : Pkg) (d o : Nat) (w : Word) : (s.wrShadow d o w).sets = s.sets := (rfl)
@[simp] theorem Pkg.wrShadow_coldNext (s : Pkg) (d o : Nat) (w : Word) : (s.wrShadow d o w).coldNext = s.coldNext := (rfl)
@[simp] theorem Pkg.wrShadow_revs (s : Pkg) (d o : Nat) (w : Word) : (s.wrShadow d o w).revs = s.revs := (rfl)
@[simp] theorem Pkg.wrShadow_out (s : Pkg) (d o : Nat) (w : Word) : (s.wrShadow d o w).out = s.out := (rfl)
@[simp] theorem Pkg.wrShadow_fresh (s : Pkg) (d o : Nat) (w : Word) : (s.wrShadow d o w).fresh = s.fresh := (rfl)
@[simp] theorem Pkg.wrShadow_msix (s : Pkg) (d o : Nat) (w : Word) : (s.wrShadow d o w).msix = s.msix := (rfl)
@[simp] theorem Pkg.wrShadow_reqs (s : Pkg) (d o : Nat) (w : Word) : (s.wrShadow d o w).reqs = s.reqs := (rfl)
@[simp] theorem Pkg.wrShadow_portQ (s : Pkg) (d o : Nat) (w : Word) : (s.wrShadow d o w).portQ = s.portQ := (rfl)
@[simp] theorem Pkg.wrShadow_portTurn (s : Pkg) (d o : Nat) (w : Word) : (s.wrShadow d o w).portTurn = s.portTurn := (rfl)
@[simp] theorem Pkg.wrShadow_spans (s : Pkg) (d o : Nat) (w : Word) : (s.wrShadow d o w).spans = s.spans := (rfl)
@[simp] theorem Pkg.wrShadow_routes (s : Pkg) (d o : Nat) (w : Word) : (s.wrShadow d o w).routes = s.routes := (rfl)
@[simp] theorem Pkg.wrShadow_ctrl (s : Pkg) (d o : Nat) (w : Word) : (s.wrShadow d o w).ctrl = s.ctrl := (rfl)
@[simp] theorem Pkg.wrShadow_tethers (s : Pkg) (d o : Nat) (w : Word) : (s.wrShadow d o w).tethers = s.tethers := (rfl)
@[simp] theorem Pkg.wrShadow_tether (s : Pkg) (d o : Nat) (w : Word) : (s.wrShadow d o w).tether = s.tether := (rfl)
@[simp] theorem Pkg.wrShadow_clocks (s : Pkg) (d o : Nat) (w : Word) : (s.wrShadow d o w).clocks = s.clocks := (rfl)
@[simp] theorem Pkg.wrShadow_ref (s : Pkg) (d o : Nat) (w : Word) : (s.wrShadow d o w).ref = s.ref := (rfl)
@[simp] theorem Pkg.wrShadow_ksTile (s : Pkg) (d o : Nat) (w : Word) : (s.wrShadow d o w).ksTile = s.ksTile := (rfl)
@[simp] theorem Pkg.wrShadow_ks (s : Pkg) (d o : Nat) (w : Word) : (s.wrShadow d o w).ks = s.ks := (rfl)
@[simp] theorem Pkg.wrShadow_mode (s : Pkg) (d o : Nat) (w : Word) : (s.wrShadow d o w).mode = s.mode := (rfl)
@[simp] theorem Pkg.wrShadow_sw (s : Pkg) (d o : Nat) (w : Word) : (s.wrShadow d o w).sw = s.sw := (rfl)
@[simp] theorem Pkg.wrShadow_macKeys (s : Pkg) (d o : Nat) (w : Word) : (s.wrShadow d o w).macKeys = s.macKeys := (rfl)
@[simp] theorem Pkg.wrShadow_trKeys (s : Pkg) (d o : Nat) (w : Word) : (s.wrShadow d o w).trKeys = s.trKeys := (rfl)
@[simp] theorem Pkg.wrShadow_vault (s : Pkg) (d o : Nat) (w : Word) : (s.wrShadow d o w).vault = s.vault := (rfl)
@[simp] theorem Pkg.wrShadow_lease (s : Pkg) (d o : Nat) (w : Word) : (s.wrShadow d o w).lease = s.lease := (rfl)
@[simp] theorem Pkg.wrShadow_trestles (s : Pkg) (d o : Nat) (w : Word) : (s.wrShadow d o w).trestles = s.trestles := (rfl)
@[simp] theorem Pkg.wrShadow_bus (s : Pkg) (d o : Nat) (w : Word) : (s.wrShadow d o w).bus = s.bus := (rfl)
@[simp] theorem Pkg.wrShadow_nm (s : Pkg) (d o : Nat) (w : Word) : (s.wrShadow d o w).nm = s.nm := (rfl)
@[simp] theorem Pkg.wrShadow_pnSeen (s : Pkg) (d o : Nat) (w : Word) : (s.wrShadow d o w).pnSeen = s.pnSeen := (rfl)
@[simp] theorem Pkg.wrShadow_bridges (s : Pkg) (d o : Nat) (w : Word) : (s.wrShadow d o w).bridges = s.bridges := (rfl)
@[simp] theorem Pkg.wrShadow_dma (s : Pkg) (d o : Nat) (w : Word) : (s.wrShadow d o w).dma = s.dma := (rfl)
@[simp] theorem Pkg.wrShadow_pods (s : Pkg) (d o : Nat) (w : Word) : (s.wrShadow d o w).pods = s.pods := (rfl)
@[simp] theorem Pkg.wrShadow_ckLow (s : Pkg) (d o : Nat) (w : Word) : (s.wrShadow d o w).ckLow = s.ckLow := (rfl)
@[simp] theorem Pkg.wrShadow_grants (s : Pkg) (d o : Nat) (w : Word) : (s.wrShadow d o w).grants = s.grants := (rfl)
@[simp] theorem Pkg.wrShadow_power (s : Pkg) (d o : Nat) (w : Word) : (s.wrShadow d o w).power = s.power := (rfl)
@[simp] theorem Pkg.wrShadow_wake (s : Pkg) (d o : Nat) (w : Word) : (s.wrShadow d o w).wake = s.wake := (rfl)
@[simp] theorem Pkg.wrShadow_clusters (s : Pkg) (d o : Nat) (w : Word) : (s.wrShadow d o w).clusters = s.clusters := (rfl)
@[simp] theorem Pkg.wrShadow_cens (s : Pkg) (d o : Nat) (w : Word) : (s.wrShadow d o w).cens = s.cens := (rfl)
@[simp] theorem Pkg.wrShadow_cenReq (s : Pkg) (d o : Nat) (w : Word) : (s.wrShadow d o w).cenReq = s.cenReq := (rfl)
@[simp] theorem Pkg.wrShadow_jnl (s : Pkg) (d o : Nat) (w : Word) : (s.wrShadow d o w).jnl = s.jnl := (rfl)
@[simp] theorem Pkg.wrShadow_keeper (s : Pkg) (d o : Nat) (w : Word) : (s.wrShadow d o w).keeper = s.keeper := (rfl)
@[simp] theorem Pkg.wrShadow_boot (s : Pkg) (d o : Nat) (w : Word) : (s.wrShadow d o w).boot = s.boot := (rfl)
@[simp] theorem Pkg.wrShadow_wipe (s : Pkg) (d o : Nat) (w : Word) : (s.wrShadow d o w).wipe = s.wipe := (rfl)
@[simp] theorem Pkg.wrShadow_rd (s : Pkg) (d o : Nat) (w : Word) (d2 o2 : Nat) : (s.wrShadow d o w).rd d2 o2 = s.rd d2 o2 := (rfl)
@[simp] theorem Pkg.wrShadow_get (s : Pkg) (d o : Nat) (w : Word) (d2 : Nat) (f2 : Fld) : (s.wrShadow d o w).get d2 f2 = s.get d2 f2 := (rfl)
@[simp] theorem Pkg.wrShadow_on (s : Pkg) (d o : Nat) (w : Word) (d2 : Nat) (f2 : Fld) : (s.wrShadow d o w).on d2 f2 = s.on d2 f2 := (rfl)
@[simp] theorem Pkg.wrShadow_cnt (s : Pkg) (d o : Nat) (w : Word) (d2 o2 : Nat) : (s.wrShadow d o w).cnt d2 o2 = s.cnt d2 o2 := (rfl)

/-! `Pkg.setCnt` changes only `ctr`. -/
@[simp] theorem Pkg.setCnt_variant (s : Pkg) (d o : Nat) (v : Quad) : (s.setCnt d o v).variant = s.variant := (rfl)
@[simp] theorem Pkg.setCnt_now (s : Pkg) (d o : Nat) (v : Quad) : (s.setCnt d o v).now = s.now := (rfl)
@[simp] theorem Pkg.setCnt_regs (s : Pkg) (d o : Nat) (v : Quad) : (s.setCnt d o v).regs = s.regs := (rfl)
@[simp] theorem Pkg.setCnt_shadow (s : Pkg) (d o : Nat) (v : Quad) : (s.setCnt d o v).shadow = s.shadow := (rfl)
@[simp] theorem Pkg.setCnt_latch (s : Pkg) (d o : Nat) (v : Quad) : (s.setCnt d o v).latch = s.latch := (rfl)
@[simp] theorem Pkg.setCnt_sets (s : Pkg) (d o : Nat) (v : Quad) : (s.setCnt d o v).sets = s.sets := (rfl)
@[simp] theorem Pkg.setCnt_coldNext (s : Pkg) (d o : Nat) (v : Quad) : (s.setCnt d o v).coldNext = s.coldNext := (rfl)
@[simp] theorem Pkg.setCnt_revs (s : Pkg) (d o : Nat) (v : Quad) : (s.setCnt d o v).revs = s.revs := (rfl)
@[simp] theorem Pkg.setCnt_out (s : Pkg) (d o : Nat) (v : Quad) : (s.setCnt d o v).out = s.out := (rfl)
@[simp] theorem Pkg.setCnt_fresh (s : Pkg) (d o : Nat) (v : Quad) : (s.setCnt d o v).fresh = s.fresh := (rfl)
@[simp] theorem Pkg.setCnt_msix (s : Pkg) (d o : Nat) (v : Quad) : (s.setCnt d o v).msix = s.msix := (rfl)
@[simp] theorem Pkg.setCnt_reqs (s : Pkg) (d o : Nat) (v : Quad) : (s.setCnt d o v).reqs = s.reqs := (rfl)
@[simp] theorem Pkg.setCnt_portQ (s : Pkg) (d o : Nat) (v : Quad) : (s.setCnt d o v).portQ = s.portQ := (rfl)
@[simp] theorem Pkg.setCnt_portTurn (s : Pkg) (d o : Nat) (v : Quad) : (s.setCnt d o v).portTurn = s.portTurn := (rfl)
@[simp] theorem Pkg.setCnt_spans (s : Pkg) (d o : Nat) (v : Quad) : (s.setCnt d o v).spans = s.spans := (rfl)
@[simp] theorem Pkg.setCnt_routes (s : Pkg) (d o : Nat) (v : Quad) : (s.setCnt d o v).routes = s.routes := (rfl)
@[simp] theorem Pkg.setCnt_ctrl (s : Pkg) (d o : Nat) (v : Quad) : (s.setCnt d o v).ctrl = s.ctrl := (rfl)
@[simp] theorem Pkg.setCnt_tethers (s : Pkg) (d o : Nat) (v : Quad) : (s.setCnt d o v).tethers = s.tethers := (rfl)
@[simp] theorem Pkg.setCnt_tether (s : Pkg) (d o : Nat) (v : Quad) : (s.setCnt d o v).tether = s.tether := (rfl)
@[simp] theorem Pkg.setCnt_clocks (s : Pkg) (d o : Nat) (v : Quad) : (s.setCnt d o v).clocks = s.clocks := (rfl)
@[simp] theorem Pkg.setCnt_ref (s : Pkg) (d o : Nat) (v : Quad) : (s.setCnt d o v).ref = s.ref := (rfl)
@[simp] theorem Pkg.setCnt_ksTile (s : Pkg) (d o : Nat) (v : Quad) : (s.setCnt d o v).ksTile = s.ksTile := (rfl)
@[simp] theorem Pkg.setCnt_ks (s : Pkg) (d o : Nat) (v : Quad) : (s.setCnt d o v).ks = s.ks := (rfl)
@[simp] theorem Pkg.setCnt_mode (s : Pkg) (d o : Nat) (v : Quad) : (s.setCnt d o v).mode = s.mode := (rfl)
@[simp] theorem Pkg.setCnt_sw (s : Pkg) (d o : Nat) (v : Quad) : (s.setCnt d o v).sw = s.sw := (rfl)
@[simp] theorem Pkg.setCnt_macKeys (s : Pkg) (d o : Nat) (v : Quad) : (s.setCnt d o v).macKeys = s.macKeys := (rfl)
@[simp] theorem Pkg.setCnt_trKeys (s : Pkg) (d o : Nat) (v : Quad) : (s.setCnt d o v).trKeys = s.trKeys := (rfl)
@[simp] theorem Pkg.setCnt_vault (s : Pkg) (d o : Nat) (v : Quad) : (s.setCnt d o v).vault = s.vault := (rfl)
@[simp] theorem Pkg.setCnt_lease (s : Pkg) (d o : Nat) (v : Quad) : (s.setCnt d o v).lease = s.lease := (rfl)
@[simp] theorem Pkg.setCnt_trestles (s : Pkg) (d o : Nat) (v : Quad) : (s.setCnt d o v).trestles = s.trestles := (rfl)
@[simp] theorem Pkg.setCnt_bus (s : Pkg) (d o : Nat) (v : Quad) : (s.setCnt d o v).bus = s.bus := (rfl)
@[simp] theorem Pkg.setCnt_nm (s : Pkg) (d o : Nat) (v : Quad) : (s.setCnt d o v).nm = s.nm := (rfl)
@[simp] theorem Pkg.setCnt_pnSeen (s : Pkg) (d o : Nat) (v : Quad) : (s.setCnt d o v).pnSeen = s.pnSeen := (rfl)
@[simp] theorem Pkg.setCnt_bridges (s : Pkg) (d o : Nat) (v : Quad) : (s.setCnt d o v).bridges = s.bridges := (rfl)
@[simp] theorem Pkg.setCnt_dma (s : Pkg) (d o : Nat) (v : Quad) : (s.setCnt d o v).dma = s.dma := (rfl)
@[simp] theorem Pkg.setCnt_pods (s : Pkg) (d o : Nat) (v : Quad) : (s.setCnt d o v).pods = s.pods := (rfl)
@[simp] theorem Pkg.setCnt_ckLow (s : Pkg) (d o : Nat) (v : Quad) : (s.setCnt d o v).ckLow = s.ckLow := (rfl)
@[simp] theorem Pkg.setCnt_grants (s : Pkg) (d o : Nat) (v : Quad) : (s.setCnt d o v).grants = s.grants := (rfl)
@[simp] theorem Pkg.setCnt_power (s : Pkg) (d o : Nat) (v : Quad) : (s.setCnt d o v).power = s.power := (rfl)
@[simp] theorem Pkg.setCnt_wake (s : Pkg) (d o : Nat) (v : Quad) : (s.setCnt d o v).wake = s.wake := (rfl)
@[simp] theorem Pkg.setCnt_clusters (s : Pkg) (d o : Nat) (v : Quad) : (s.setCnt d o v).clusters = s.clusters := (rfl)
@[simp] theorem Pkg.setCnt_cens (s : Pkg) (d o : Nat) (v : Quad) : (s.setCnt d o v).cens = s.cens := (rfl)
@[simp] theorem Pkg.setCnt_cenReq (s : Pkg) (d o : Nat) (v : Quad) : (s.setCnt d o v).cenReq = s.cenReq := (rfl)
@[simp] theorem Pkg.setCnt_jnl (s : Pkg) (d o : Nat) (v : Quad) : (s.setCnt d o v).jnl = s.jnl := (rfl)
@[simp] theorem Pkg.setCnt_keeper (s : Pkg) (d o : Nat) (v : Quad) : (s.setCnt d o v).keeper = s.keeper := (rfl)
@[simp] theorem Pkg.setCnt_boot (s : Pkg) (d o : Nat) (v : Quad) : (s.setCnt d o v).boot = s.boot := (rfl)
@[simp] theorem Pkg.setCnt_wipe (s : Pkg) (d o : Nat) (v : Quad) : (s.setCnt d o v).wipe = s.wipe := (rfl)
@[simp] theorem Pkg.setCnt_rd (s : Pkg) (d o : Nat) (v : Quad) (d2 o2 : Nat) : (s.setCnt d o v).rd d2 o2 = s.rd d2 o2 := (rfl)
@[simp] theorem Pkg.setCnt_get (s : Pkg) (d o : Nat) (v : Quad) (d2 : Nat) (f2 : Fld) : (s.setCnt d o v).get d2 f2 = s.get d2 f2 := (rfl)
@[simp] theorem Pkg.setCnt_on (s : Pkg) (d o : Nat) (v : Quad) (d2 : Nat) (f2 : Fld) : (s.setCnt d o v).on d2 f2 = s.on d2 f2 := (rfl)

/-! `Pkg.add` changes only `ctr`. -/
@[simp] theorem Pkg.add_variant (s : Pkg) (d o n : Nat) : (s.add d o n).variant = s.variant := (rfl)
@[simp] theorem Pkg.add_now (s : Pkg) (d o n : Nat) : (s.add d o n).now = s.now := (rfl)
@[simp] theorem Pkg.add_regs (s : Pkg) (d o n : Nat) : (s.add d o n).regs = s.regs := (rfl)
@[simp] theorem Pkg.add_shadow (s : Pkg) (d o n : Nat) : (s.add d o n).shadow = s.shadow := (rfl)
@[simp] theorem Pkg.add_latch (s : Pkg) (d o n : Nat) : (s.add d o n).latch = s.latch := (rfl)
@[simp] theorem Pkg.add_sets (s : Pkg) (d o n : Nat) : (s.add d o n).sets = s.sets := (rfl)
@[simp] theorem Pkg.add_coldNext (s : Pkg) (d o n : Nat) : (s.add d o n).coldNext = s.coldNext := (rfl)
@[simp] theorem Pkg.add_revs (s : Pkg) (d o n : Nat) : (s.add d o n).revs = s.revs := (rfl)
@[simp] theorem Pkg.add_out (s : Pkg) (d o n : Nat) : (s.add d o n).out = s.out := (rfl)
@[simp] theorem Pkg.add_fresh (s : Pkg) (d o n : Nat) : (s.add d o n).fresh = s.fresh := (rfl)
@[simp] theorem Pkg.add_msix (s : Pkg) (d o n : Nat) : (s.add d o n).msix = s.msix := (rfl)
@[simp] theorem Pkg.add_reqs (s : Pkg) (d o n : Nat) : (s.add d o n).reqs = s.reqs := (rfl)
@[simp] theorem Pkg.add_portQ (s : Pkg) (d o n : Nat) : (s.add d o n).portQ = s.portQ := (rfl)
@[simp] theorem Pkg.add_portTurn (s : Pkg) (d o n : Nat) : (s.add d o n).portTurn = s.portTurn := (rfl)
@[simp] theorem Pkg.add_spans (s : Pkg) (d o n : Nat) : (s.add d o n).spans = s.spans := (rfl)
@[simp] theorem Pkg.add_routes (s : Pkg) (d o n : Nat) : (s.add d o n).routes = s.routes := (rfl)
@[simp] theorem Pkg.add_ctrl (s : Pkg) (d o n : Nat) : (s.add d o n).ctrl = s.ctrl := (rfl)
@[simp] theorem Pkg.add_tethers (s : Pkg) (d o n : Nat) : (s.add d o n).tethers = s.tethers := (rfl)
@[simp] theorem Pkg.add_tether (s : Pkg) (d o n : Nat) : (s.add d o n).tether = s.tether := (rfl)
@[simp] theorem Pkg.add_clocks (s : Pkg) (d o n : Nat) : (s.add d o n).clocks = s.clocks := (rfl)
@[simp] theorem Pkg.add_ref (s : Pkg) (d o n : Nat) : (s.add d o n).ref = s.ref := (rfl)
@[simp] theorem Pkg.add_ksTile (s : Pkg) (d o n : Nat) : (s.add d o n).ksTile = s.ksTile := (rfl)
@[simp] theorem Pkg.add_ks (s : Pkg) (d o n : Nat) : (s.add d o n).ks = s.ks := (rfl)
@[simp] theorem Pkg.add_mode (s : Pkg) (d o n : Nat) : (s.add d o n).mode = s.mode := (rfl)
@[simp] theorem Pkg.add_sw (s : Pkg) (d o n : Nat) : (s.add d o n).sw = s.sw := (rfl)
@[simp] theorem Pkg.add_macKeys (s : Pkg) (d o n : Nat) : (s.add d o n).macKeys = s.macKeys := (rfl)
@[simp] theorem Pkg.add_trKeys (s : Pkg) (d o n : Nat) : (s.add d o n).trKeys = s.trKeys := (rfl)
@[simp] theorem Pkg.add_vault (s : Pkg) (d o n : Nat) : (s.add d o n).vault = s.vault := (rfl)
@[simp] theorem Pkg.add_lease (s : Pkg) (d o n : Nat) : (s.add d o n).lease = s.lease := (rfl)
@[simp] theorem Pkg.add_trestles (s : Pkg) (d o n : Nat) : (s.add d o n).trestles = s.trestles := (rfl)
@[simp] theorem Pkg.add_bus (s : Pkg) (d o n : Nat) : (s.add d o n).bus = s.bus := (rfl)
@[simp] theorem Pkg.add_nm (s : Pkg) (d o n : Nat) : (s.add d o n).nm = s.nm := (rfl)
@[simp] theorem Pkg.add_pnSeen (s : Pkg) (d o n : Nat) : (s.add d o n).pnSeen = s.pnSeen := (rfl)
@[simp] theorem Pkg.add_bridges (s : Pkg) (d o n : Nat) : (s.add d o n).bridges = s.bridges := (rfl)
@[simp] theorem Pkg.add_dma (s : Pkg) (d o n : Nat) : (s.add d o n).dma = s.dma := (rfl)
@[simp] theorem Pkg.add_pods (s : Pkg) (d o n : Nat) : (s.add d o n).pods = s.pods := (rfl)
@[simp] theorem Pkg.add_ckLow (s : Pkg) (d o n : Nat) : (s.add d o n).ckLow = s.ckLow := (rfl)
@[simp] theorem Pkg.add_grants (s : Pkg) (d o n : Nat) : (s.add d o n).grants = s.grants := (rfl)
@[simp] theorem Pkg.add_power (s : Pkg) (d o n : Nat) : (s.add d o n).power = s.power := (rfl)
@[simp] theorem Pkg.add_wake (s : Pkg) (d o n : Nat) : (s.add d o n).wake = s.wake := (rfl)
@[simp] theorem Pkg.add_clusters (s : Pkg) (d o n : Nat) : (s.add d o n).clusters = s.clusters := (rfl)
@[simp] theorem Pkg.add_cens (s : Pkg) (d o n : Nat) : (s.add d o n).cens = s.cens := (rfl)
@[simp] theorem Pkg.add_cenReq (s : Pkg) (d o n : Nat) : (s.add d o n).cenReq = s.cenReq := (rfl)
@[simp] theorem Pkg.add_jnl (s : Pkg) (d o n : Nat) : (s.add d o n).jnl = s.jnl := (rfl)
@[simp] theorem Pkg.add_keeper (s : Pkg) (d o n : Nat) : (s.add d o n).keeper = s.keeper := (rfl)
@[simp] theorem Pkg.add_boot (s : Pkg) (d o n : Nat) : (s.add d o n).boot = s.boot := (rfl)
@[simp] theorem Pkg.add_wipe (s : Pkg) (d o n : Nat) : (s.add d o n).wipe = s.wipe := (rfl)
@[simp] theorem Pkg.add_rd (s : Pkg) (d o n : Nat) (d2 o2 : Nat) : (s.add d o n).rd d2 o2 = s.rd d2 o2 := (rfl)
@[simp] theorem Pkg.add_get (s : Pkg) (d o n : Nat) (d2 : Nat) (f2 : Fld) : (s.add d o n).get d2 f2 = s.get d2 f2 := (rfl)
@[simp] theorem Pkg.add_on (s : Pkg) (d o n : Nat) (d2 : Nat) (f2 : Fld) : (s.add d o n).on d2 f2 = s.on d2 f2 := (rfl)

/-! `Pkg.bump` changes only `ctr`. -/
@[simp] theorem Pkg.bump_variant (s : Pkg) (d o : Nat) : (s.bump d o).variant = s.variant := (rfl)
@[simp] theorem Pkg.bump_now (s : Pkg) (d o : Nat) : (s.bump d o).now = s.now := (rfl)
@[simp] theorem Pkg.bump_regs (s : Pkg) (d o : Nat) : (s.bump d o).regs = s.regs := (rfl)
@[simp] theorem Pkg.bump_shadow (s : Pkg) (d o : Nat) : (s.bump d o).shadow = s.shadow := (rfl)
@[simp] theorem Pkg.bump_latch (s : Pkg) (d o : Nat) : (s.bump d o).latch = s.latch := (rfl)
@[simp] theorem Pkg.bump_sets (s : Pkg) (d o : Nat) : (s.bump d o).sets = s.sets := (rfl)
@[simp] theorem Pkg.bump_coldNext (s : Pkg) (d o : Nat) : (s.bump d o).coldNext = s.coldNext := (rfl)
@[simp] theorem Pkg.bump_revs (s : Pkg) (d o : Nat) : (s.bump d o).revs = s.revs := (rfl)
@[simp] theorem Pkg.bump_out (s : Pkg) (d o : Nat) : (s.bump d o).out = s.out := (rfl)
@[simp] theorem Pkg.bump_fresh (s : Pkg) (d o : Nat) : (s.bump d o).fresh = s.fresh := (rfl)
@[simp] theorem Pkg.bump_msix (s : Pkg) (d o : Nat) : (s.bump d o).msix = s.msix := (rfl)
@[simp] theorem Pkg.bump_reqs (s : Pkg) (d o : Nat) : (s.bump d o).reqs = s.reqs := (rfl)
@[simp] theorem Pkg.bump_portQ (s : Pkg) (d o : Nat) : (s.bump d o).portQ = s.portQ := (rfl)
@[simp] theorem Pkg.bump_portTurn (s : Pkg) (d o : Nat) : (s.bump d o).portTurn = s.portTurn := (rfl)
@[simp] theorem Pkg.bump_spans (s : Pkg) (d o : Nat) : (s.bump d o).spans = s.spans := (rfl)
@[simp] theorem Pkg.bump_routes (s : Pkg) (d o : Nat) : (s.bump d o).routes = s.routes := (rfl)
@[simp] theorem Pkg.bump_ctrl (s : Pkg) (d o : Nat) : (s.bump d o).ctrl = s.ctrl := (rfl)
@[simp] theorem Pkg.bump_tethers (s : Pkg) (d o : Nat) : (s.bump d o).tethers = s.tethers := (rfl)
@[simp] theorem Pkg.bump_tether (s : Pkg) (d o : Nat) : (s.bump d o).tether = s.tether := (rfl)
@[simp] theorem Pkg.bump_clocks (s : Pkg) (d o : Nat) : (s.bump d o).clocks = s.clocks := (rfl)
@[simp] theorem Pkg.bump_ref (s : Pkg) (d o : Nat) : (s.bump d o).ref = s.ref := (rfl)
@[simp] theorem Pkg.bump_ksTile (s : Pkg) (d o : Nat) : (s.bump d o).ksTile = s.ksTile := (rfl)
@[simp] theorem Pkg.bump_ks (s : Pkg) (d o : Nat) : (s.bump d o).ks = s.ks := (rfl)
@[simp] theorem Pkg.bump_mode (s : Pkg) (d o : Nat) : (s.bump d o).mode = s.mode := (rfl)
@[simp] theorem Pkg.bump_sw (s : Pkg) (d o : Nat) : (s.bump d o).sw = s.sw := (rfl)
@[simp] theorem Pkg.bump_macKeys (s : Pkg) (d o : Nat) : (s.bump d o).macKeys = s.macKeys := (rfl)
@[simp] theorem Pkg.bump_trKeys (s : Pkg) (d o : Nat) : (s.bump d o).trKeys = s.trKeys := (rfl)
@[simp] theorem Pkg.bump_vault (s : Pkg) (d o : Nat) : (s.bump d o).vault = s.vault := (rfl)
@[simp] theorem Pkg.bump_lease (s : Pkg) (d o : Nat) : (s.bump d o).lease = s.lease := (rfl)
@[simp] theorem Pkg.bump_trestles (s : Pkg) (d o : Nat) : (s.bump d o).trestles = s.trestles := (rfl)
@[simp] theorem Pkg.bump_bus (s : Pkg) (d o : Nat) : (s.bump d o).bus = s.bus := (rfl)
@[simp] theorem Pkg.bump_nm (s : Pkg) (d o : Nat) : (s.bump d o).nm = s.nm := (rfl)
@[simp] theorem Pkg.bump_pnSeen (s : Pkg) (d o : Nat) : (s.bump d o).pnSeen = s.pnSeen := (rfl)
@[simp] theorem Pkg.bump_bridges (s : Pkg) (d o : Nat) : (s.bump d o).bridges = s.bridges := (rfl)
@[simp] theorem Pkg.bump_dma (s : Pkg) (d o : Nat) : (s.bump d o).dma = s.dma := (rfl)
@[simp] theorem Pkg.bump_pods (s : Pkg) (d o : Nat) : (s.bump d o).pods = s.pods := (rfl)
@[simp] theorem Pkg.bump_ckLow (s : Pkg) (d o : Nat) : (s.bump d o).ckLow = s.ckLow := (rfl)
@[simp] theorem Pkg.bump_grants (s : Pkg) (d o : Nat) : (s.bump d o).grants = s.grants := (rfl)
@[simp] theorem Pkg.bump_power (s : Pkg) (d o : Nat) : (s.bump d o).power = s.power := (rfl)
@[simp] theorem Pkg.bump_wake (s : Pkg) (d o : Nat) : (s.bump d o).wake = s.wake := (rfl)
@[simp] theorem Pkg.bump_clusters (s : Pkg) (d o : Nat) : (s.bump d o).clusters = s.clusters := (rfl)
@[simp] theorem Pkg.bump_cens (s : Pkg) (d o : Nat) : (s.bump d o).cens = s.cens := (rfl)
@[simp] theorem Pkg.bump_cenReq (s : Pkg) (d o : Nat) : (s.bump d o).cenReq = s.cenReq := (rfl)
@[simp] theorem Pkg.bump_jnl (s : Pkg) (d o : Nat) : (s.bump d o).jnl = s.jnl := (rfl)
@[simp] theorem Pkg.bump_keeper (s : Pkg) (d o : Nat) : (s.bump d o).keeper = s.keeper := (rfl)
@[simp] theorem Pkg.bump_boot (s : Pkg) (d o : Nat) : (s.bump d o).boot = s.boot := (rfl)
@[simp] theorem Pkg.bump_wipe (s : Pkg) (d o : Nat) : (s.bump d o).wipe = s.wipe := (rfl)
@[simp] theorem Pkg.bump_rd (s : Pkg) (d o : Nat) (d2 o2 : Nat) : (s.bump d o).rd d2 o2 = s.rd d2 o2 := (rfl)
@[simp] theorem Pkg.bump_get (s : Pkg) (d o : Nat) (d2 : Nat) (f2 : Fld) : (s.bump d o).get d2 f2 = s.get d2 f2 := (rfl)
@[simp] theorem Pkg.bump_on (s : Pkg) (d o : Nat) (d2 : Nat) (f2 : Fld) : (s.bump d o).on d2 f2 = s.on d2 f2 := (rfl)

/-! `Pkg.emit` changes only `out`. -/
@[simp] theorem Pkg.emit_variant (s : Pkg) (e : OutEv) : (s.emit e).variant = s.variant := (rfl)
@[simp] theorem Pkg.emit_now (s : Pkg) (e : OutEv) : (s.emit e).now = s.now := (rfl)
@[simp] theorem Pkg.emit_regs (s : Pkg) (e : OutEv) : (s.emit e).regs = s.regs := (rfl)
@[simp] theorem Pkg.emit_shadow (s : Pkg) (e : OutEv) : (s.emit e).shadow = s.shadow := (rfl)
@[simp] theorem Pkg.emit_ctr (s : Pkg) (e : OutEv) : (s.emit e).ctr = s.ctr := (rfl)
@[simp] theorem Pkg.emit_latch (s : Pkg) (e : OutEv) : (s.emit e).latch = s.latch := (rfl)
@[simp] theorem Pkg.emit_sets (s : Pkg) (e : OutEv) : (s.emit e).sets = s.sets := (rfl)
@[simp] theorem Pkg.emit_coldNext (s : Pkg) (e : OutEv) : (s.emit e).coldNext = s.coldNext := (rfl)
@[simp] theorem Pkg.emit_revs (s : Pkg) (e : OutEv) : (s.emit e).revs = s.revs := (rfl)
@[simp] theorem Pkg.emit_fresh (s : Pkg) (e : OutEv) : (s.emit e).fresh = s.fresh := (rfl)
@[simp] theorem Pkg.emit_msix (s : Pkg) (e : OutEv) : (s.emit e).msix = s.msix := (rfl)
@[simp] theorem Pkg.emit_reqs (s : Pkg) (e : OutEv) : (s.emit e).reqs = s.reqs := (rfl)
@[simp] theorem Pkg.emit_portQ (s : Pkg) (e : OutEv) : (s.emit e).portQ = s.portQ := (rfl)
@[simp] theorem Pkg.emit_portTurn (s : Pkg) (e : OutEv) : (s.emit e).portTurn = s.portTurn := (rfl)
@[simp] theorem Pkg.emit_spans (s : Pkg) (e : OutEv) : (s.emit e).spans = s.spans := (rfl)
@[simp] theorem Pkg.emit_routes (s : Pkg) (e : OutEv) : (s.emit e).routes = s.routes := (rfl)
@[simp] theorem Pkg.emit_ctrl (s : Pkg) (e : OutEv) : (s.emit e).ctrl = s.ctrl := (rfl)
@[simp] theorem Pkg.emit_tethers (s : Pkg) (e : OutEv) : (s.emit e).tethers = s.tethers := (rfl)
@[simp] theorem Pkg.emit_tether (s : Pkg) (e : OutEv) : (s.emit e).tether = s.tether := (rfl)
@[simp] theorem Pkg.emit_clocks (s : Pkg) (e : OutEv) : (s.emit e).clocks = s.clocks := (rfl)
@[simp] theorem Pkg.emit_ref (s : Pkg) (e : OutEv) : (s.emit e).ref = s.ref := (rfl)
@[simp] theorem Pkg.emit_ksTile (s : Pkg) (e : OutEv) : (s.emit e).ksTile = s.ksTile := (rfl)
@[simp] theorem Pkg.emit_ks (s : Pkg) (e : OutEv) : (s.emit e).ks = s.ks := (rfl)
@[simp] theorem Pkg.emit_mode (s : Pkg) (e : OutEv) : (s.emit e).mode = s.mode := (rfl)
@[simp] theorem Pkg.emit_sw (s : Pkg) (e : OutEv) : (s.emit e).sw = s.sw := (rfl)
@[simp] theorem Pkg.emit_macKeys (s : Pkg) (e : OutEv) : (s.emit e).macKeys = s.macKeys := (rfl)
@[simp] theorem Pkg.emit_trKeys (s : Pkg) (e : OutEv) : (s.emit e).trKeys = s.trKeys := (rfl)
@[simp] theorem Pkg.emit_vault (s : Pkg) (e : OutEv) : (s.emit e).vault = s.vault := (rfl)
@[simp] theorem Pkg.emit_lease (s : Pkg) (e : OutEv) : (s.emit e).lease = s.lease := (rfl)
@[simp] theorem Pkg.emit_trestles (s : Pkg) (e : OutEv) : (s.emit e).trestles = s.trestles := (rfl)
@[simp] theorem Pkg.emit_bus (s : Pkg) (e : OutEv) : (s.emit e).bus = s.bus := (rfl)
@[simp] theorem Pkg.emit_nm (s : Pkg) (e : OutEv) : (s.emit e).nm = s.nm := (rfl)
@[simp] theorem Pkg.emit_pnSeen (s : Pkg) (e : OutEv) : (s.emit e).pnSeen = s.pnSeen := (rfl)
@[simp] theorem Pkg.emit_bridges (s : Pkg) (e : OutEv) : (s.emit e).bridges = s.bridges := (rfl)
@[simp] theorem Pkg.emit_dma (s : Pkg) (e : OutEv) : (s.emit e).dma = s.dma := (rfl)
@[simp] theorem Pkg.emit_pods (s : Pkg) (e : OutEv) : (s.emit e).pods = s.pods := (rfl)
@[simp] theorem Pkg.emit_ckLow (s : Pkg) (e : OutEv) : (s.emit e).ckLow = s.ckLow := (rfl)
@[simp] theorem Pkg.emit_grants (s : Pkg) (e : OutEv) : (s.emit e).grants = s.grants := (rfl)
@[simp] theorem Pkg.emit_power (s : Pkg) (e : OutEv) : (s.emit e).power = s.power := (rfl)
@[simp] theorem Pkg.emit_wake (s : Pkg) (e : OutEv) : (s.emit e).wake = s.wake := (rfl)
@[simp] theorem Pkg.emit_clusters (s : Pkg) (e : OutEv) : (s.emit e).clusters = s.clusters := (rfl)
@[simp] theorem Pkg.emit_cens (s : Pkg) (e : OutEv) : (s.emit e).cens = s.cens := (rfl)
@[simp] theorem Pkg.emit_cenReq (s : Pkg) (e : OutEv) : (s.emit e).cenReq = s.cenReq := (rfl)
@[simp] theorem Pkg.emit_jnl (s : Pkg) (e : OutEv) : (s.emit e).jnl = s.jnl := (rfl)
@[simp] theorem Pkg.emit_keeper (s : Pkg) (e : OutEv) : (s.emit e).keeper = s.keeper := (rfl)
@[simp] theorem Pkg.emit_boot (s : Pkg) (e : OutEv) : (s.emit e).boot = s.boot := (rfl)
@[simp] theorem Pkg.emit_wipe (s : Pkg) (e : OutEv) : (s.emit e).wipe = s.wipe := (rfl)
@[simp] theorem Pkg.emit_rd (s : Pkg) (e : OutEv) (d2 o2 : Nat) : (s.emit e).rd d2 o2 = s.rd d2 o2 := (rfl)
@[simp] theorem Pkg.emit_get (s : Pkg) (e : OutEv) (d2 : Nat) (f2 : Fld) : (s.emit e).get d2 f2 = s.get d2 f2 := (rfl)
@[simp] theorem Pkg.emit_on (s : Pkg) (e : OutEv) (d2 : Nat) (f2 : Fld) : (s.emit e).on d2 f2 = s.on d2 f2 := (rfl)
@[simp] theorem Pkg.emit_cnt (s : Pkg) (e : OutEv) (d2 o2 : Nat) : (s.emit e).cnt d2 o2 = s.cnt d2 o2 := (rfl)

/-! `Pkg.emitAll` changes only `out`. -/
@[simp] theorem Pkg.emitAll_variant (s : Pkg) (es : List OutEv) : (s.emitAll es).variant = s.variant := (rfl)
@[simp] theorem Pkg.emitAll_now (s : Pkg) (es : List OutEv) : (s.emitAll es).now = s.now := (rfl)
@[simp] theorem Pkg.emitAll_regs (s : Pkg) (es : List OutEv) : (s.emitAll es).regs = s.regs := (rfl)
@[simp] theorem Pkg.emitAll_shadow (s : Pkg) (es : List OutEv) : (s.emitAll es).shadow = s.shadow := (rfl)
@[simp] theorem Pkg.emitAll_ctr (s : Pkg) (es : List OutEv) : (s.emitAll es).ctr = s.ctr := (rfl)
@[simp] theorem Pkg.emitAll_latch (s : Pkg) (es : List OutEv) : (s.emitAll es).latch = s.latch := (rfl)
@[simp] theorem Pkg.emitAll_sets (s : Pkg) (es : List OutEv) : (s.emitAll es).sets = s.sets := (rfl)
@[simp] theorem Pkg.emitAll_coldNext (s : Pkg) (es : List OutEv) : (s.emitAll es).coldNext = s.coldNext := (rfl)
@[simp] theorem Pkg.emitAll_revs (s : Pkg) (es : List OutEv) : (s.emitAll es).revs = s.revs := (rfl)
@[simp] theorem Pkg.emitAll_fresh (s : Pkg) (es : List OutEv) : (s.emitAll es).fresh = s.fresh := (rfl)
@[simp] theorem Pkg.emitAll_msix (s : Pkg) (es : List OutEv) : (s.emitAll es).msix = s.msix := (rfl)
@[simp] theorem Pkg.emitAll_reqs (s : Pkg) (es : List OutEv) : (s.emitAll es).reqs = s.reqs := (rfl)
@[simp] theorem Pkg.emitAll_portQ (s : Pkg) (es : List OutEv) : (s.emitAll es).portQ = s.portQ := (rfl)
@[simp] theorem Pkg.emitAll_portTurn (s : Pkg) (es : List OutEv) : (s.emitAll es).portTurn = s.portTurn := (rfl)
@[simp] theorem Pkg.emitAll_spans (s : Pkg) (es : List OutEv) : (s.emitAll es).spans = s.spans := (rfl)
@[simp] theorem Pkg.emitAll_routes (s : Pkg) (es : List OutEv) : (s.emitAll es).routes = s.routes := (rfl)
@[simp] theorem Pkg.emitAll_ctrl (s : Pkg) (es : List OutEv) : (s.emitAll es).ctrl = s.ctrl := (rfl)
@[simp] theorem Pkg.emitAll_tethers (s : Pkg) (es : List OutEv) : (s.emitAll es).tethers = s.tethers := (rfl)
@[simp] theorem Pkg.emitAll_tether (s : Pkg) (es : List OutEv) : (s.emitAll es).tether = s.tether := (rfl)
@[simp] theorem Pkg.emitAll_clocks (s : Pkg) (es : List OutEv) : (s.emitAll es).clocks = s.clocks := (rfl)
@[simp] theorem Pkg.emitAll_ref (s : Pkg) (es : List OutEv) : (s.emitAll es).ref = s.ref := (rfl)
@[simp] theorem Pkg.emitAll_ksTile (s : Pkg) (es : List OutEv) : (s.emitAll es).ksTile = s.ksTile := (rfl)
@[simp] theorem Pkg.emitAll_ks (s : Pkg) (es : List OutEv) : (s.emitAll es).ks = s.ks := (rfl)
@[simp] theorem Pkg.emitAll_mode (s : Pkg) (es : List OutEv) : (s.emitAll es).mode = s.mode := (rfl)
@[simp] theorem Pkg.emitAll_sw (s : Pkg) (es : List OutEv) : (s.emitAll es).sw = s.sw := (rfl)
@[simp] theorem Pkg.emitAll_macKeys (s : Pkg) (es : List OutEv) : (s.emitAll es).macKeys = s.macKeys := (rfl)
@[simp] theorem Pkg.emitAll_trKeys (s : Pkg) (es : List OutEv) : (s.emitAll es).trKeys = s.trKeys := (rfl)
@[simp] theorem Pkg.emitAll_vault (s : Pkg) (es : List OutEv) : (s.emitAll es).vault = s.vault := (rfl)
@[simp] theorem Pkg.emitAll_lease (s : Pkg) (es : List OutEv) : (s.emitAll es).lease = s.lease := (rfl)
@[simp] theorem Pkg.emitAll_trestles (s : Pkg) (es : List OutEv) : (s.emitAll es).trestles = s.trestles := (rfl)
@[simp] theorem Pkg.emitAll_bus (s : Pkg) (es : List OutEv) : (s.emitAll es).bus = s.bus := (rfl)
@[simp] theorem Pkg.emitAll_nm (s : Pkg) (es : List OutEv) : (s.emitAll es).nm = s.nm := (rfl)
@[simp] theorem Pkg.emitAll_pnSeen (s : Pkg) (es : List OutEv) : (s.emitAll es).pnSeen = s.pnSeen := (rfl)
@[simp] theorem Pkg.emitAll_bridges (s : Pkg) (es : List OutEv) : (s.emitAll es).bridges = s.bridges := (rfl)
@[simp] theorem Pkg.emitAll_dma (s : Pkg) (es : List OutEv) : (s.emitAll es).dma = s.dma := (rfl)
@[simp] theorem Pkg.emitAll_pods (s : Pkg) (es : List OutEv) : (s.emitAll es).pods = s.pods := (rfl)
@[simp] theorem Pkg.emitAll_ckLow (s : Pkg) (es : List OutEv) : (s.emitAll es).ckLow = s.ckLow := (rfl)
@[simp] theorem Pkg.emitAll_grants (s : Pkg) (es : List OutEv) : (s.emitAll es).grants = s.grants := (rfl)
@[simp] theorem Pkg.emitAll_power (s : Pkg) (es : List OutEv) : (s.emitAll es).power = s.power := (rfl)
@[simp] theorem Pkg.emitAll_wake (s : Pkg) (es : List OutEv) : (s.emitAll es).wake = s.wake := (rfl)
@[simp] theorem Pkg.emitAll_clusters (s : Pkg) (es : List OutEv) : (s.emitAll es).clusters = s.clusters := (rfl)
@[simp] theorem Pkg.emitAll_cens (s : Pkg) (es : List OutEv) : (s.emitAll es).cens = s.cens := (rfl)
@[simp] theorem Pkg.emitAll_cenReq (s : Pkg) (es : List OutEv) : (s.emitAll es).cenReq = s.cenReq := (rfl)
@[simp] theorem Pkg.emitAll_jnl (s : Pkg) (es : List OutEv) : (s.emitAll es).jnl = s.jnl := (rfl)
@[simp] theorem Pkg.emitAll_keeper (s : Pkg) (es : List OutEv) : (s.emitAll es).keeper = s.keeper := (rfl)
@[simp] theorem Pkg.emitAll_boot (s : Pkg) (es : List OutEv) : (s.emitAll es).boot = s.boot := (rfl)
@[simp] theorem Pkg.emitAll_wipe (s : Pkg) (es : List OutEv) : (s.emitAll es).wipe = s.wipe := (rfl)
@[simp] theorem Pkg.emitAll_rd (s : Pkg) (es : List OutEv) (d2 o2 : Nat) : (s.emitAll es).rd d2 o2 = s.rd d2 o2 := (rfl)
@[simp] theorem Pkg.emitAll_get (s : Pkg) (es : List OutEv) (d2 : Nat) (f2 : Fld) : (s.emitAll es).get d2 f2 = s.get d2 f2 := (rfl)
@[simp] theorem Pkg.emitAll_on (s : Pkg) (es : List OutEv) (d2 : Nat) (f2 : Fld) : (s.emitAll es).on d2 f2 = s.on d2 f2 := (rfl)
@[simp] theorem Pkg.emitAll_cnt (s : Pkg) (es : List OutEv) (d2 o2 : Nat) : (s.emitAll es).cnt d2 o2 = s.cnt d2 o2 := (rfl)

/-! `Pkg.tookFree` changes only `fresh`. -/
@[simp] theorem Pkg.tookFree_variant (s : Pkg) (n : Nat) : (s.tookFree n).variant = s.variant := (rfl)
@[simp] theorem Pkg.tookFree_now (s : Pkg) (n : Nat) : (s.tookFree n).now = s.now := (rfl)
@[simp] theorem Pkg.tookFree_regs (s : Pkg) (n : Nat) : (s.tookFree n).regs = s.regs := (rfl)
@[simp] theorem Pkg.tookFree_shadow (s : Pkg) (n : Nat) : (s.tookFree n).shadow = s.shadow := (rfl)
@[simp] theorem Pkg.tookFree_ctr (s : Pkg) (n : Nat) : (s.tookFree n).ctr = s.ctr := (rfl)
@[simp] theorem Pkg.tookFree_latch (s : Pkg) (n : Nat) : (s.tookFree n).latch = s.latch := (rfl)
@[simp] theorem Pkg.tookFree_sets (s : Pkg) (n : Nat) : (s.tookFree n).sets = s.sets := (rfl)
@[simp] theorem Pkg.tookFree_coldNext (s : Pkg) (n : Nat) : (s.tookFree n).coldNext = s.coldNext := (rfl)
@[simp] theorem Pkg.tookFree_revs (s : Pkg) (n : Nat) : (s.tookFree n).revs = s.revs := (rfl)
@[simp] theorem Pkg.tookFree_out (s : Pkg) (n : Nat) : (s.tookFree n).out = s.out := (rfl)
@[simp] theorem Pkg.tookFree_msix (s : Pkg) (n : Nat) : (s.tookFree n).msix = s.msix := (rfl)
@[simp] theorem Pkg.tookFree_reqs (s : Pkg) (n : Nat) : (s.tookFree n).reqs = s.reqs := (rfl)
@[simp] theorem Pkg.tookFree_portQ (s : Pkg) (n : Nat) : (s.tookFree n).portQ = s.portQ := (rfl)
@[simp] theorem Pkg.tookFree_portTurn (s : Pkg) (n : Nat) : (s.tookFree n).portTurn = s.portTurn := (rfl)
@[simp] theorem Pkg.tookFree_spans (s : Pkg) (n : Nat) : (s.tookFree n).spans = s.spans := (rfl)
@[simp] theorem Pkg.tookFree_routes (s : Pkg) (n : Nat) : (s.tookFree n).routes = s.routes := (rfl)
@[simp] theorem Pkg.tookFree_ctrl (s : Pkg) (n : Nat) : (s.tookFree n).ctrl = s.ctrl := (rfl)
@[simp] theorem Pkg.tookFree_tethers (s : Pkg) (n : Nat) : (s.tookFree n).tethers = s.tethers := (rfl)
@[simp] theorem Pkg.tookFree_tether (s : Pkg) (n : Nat) : (s.tookFree n).tether = s.tether := (rfl)
@[simp] theorem Pkg.tookFree_clocks (s : Pkg) (n : Nat) : (s.tookFree n).clocks = s.clocks := (rfl)
@[simp] theorem Pkg.tookFree_ref (s : Pkg) (n : Nat) : (s.tookFree n).ref = s.ref := (rfl)
@[simp] theorem Pkg.tookFree_ksTile (s : Pkg) (n : Nat) : (s.tookFree n).ksTile = s.ksTile := (rfl)
@[simp] theorem Pkg.tookFree_ks (s : Pkg) (n : Nat) : (s.tookFree n).ks = s.ks := (rfl)
@[simp] theorem Pkg.tookFree_mode (s : Pkg) (n : Nat) : (s.tookFree n).mode = s.mode := (rfl)
@[simp] theorem Pkg.tookFree_sw (s : Pkg) (n : Nat) : (s.tookFree n).sw = s.sw := (rfl)
@[simp] theorem Pkg.tookFree_macKeys (s : Pkg) (n : Nat) : (s.tookFree n).macKeys = s.macKeys := (rfl)
@[simp] theorem Pkg.tookFree_trKeys (s : Pkg) (n : Nat) : (s.tookFree n).trKeys = s.trKeys := (rfl)
@[simp] theorem Pkg.tookFree_vault (s : Pkg) (n : Nat) : (s.tookFree n).vault = s.vault := (rfl)
@[simp] theorem Pkg.tookFree_lease (s : Pkg) (n : Nat) : (s.tookFree n).lease = s.lease := (rfl)
@[simp] theorem Pkg.tookFree_trestles (s : Pkg) (n : Nat) : (s.tookFree n).trestles = s.trestles := (rfl)
@[simp] theorem Pkg.tookFree_bus (s : Pkg) (n : Nat) : (s.tookFree n).bus = s.bus := (rfl)
@[simp] theorem Pkg.tookFree_nm (s : Pkg) (n : Nat) : (s.tookFree n).nm = s.nm := (rfl)
@[simp] theorem Pkg.tookFree_pnSeen (s : Pkg) (n : Nat) : (s.tookFree n).pnSeen = s.pnSeen := (rfl)
@[simp] theorem Pkg.tookFree_bridges (s : Pkg) (n : Nat) : (s.tookFree n).bridges = s.bridges := (rfl)
@[simp] theorem Pkg.tookFree_dma (s : Pkg) (n : Nat) : (s.tookFree n).dma = s.dma := (rfl)
@[simp] theorem Pkg.tookFree_pods (s : Pkg) (n : Nat) : (s.tookFree n).pods = s.pods := (rfl)
@[simp] theorem Pkg.tookFree_ckLow (s : Pkg) (n : Nat) : (s.tookFree n).ckLow = s.ckLow := (rfl)
@[simp] theorem Pkg.tookFree_grants (s : Pkg) (n : Nat) : (s.tookFree n).grants = s.grants := (rfl)
@[simp] theorem Pkg.tookFree_power (s : Pkg) (n : Nat) : (s.tookFree n).power = s.power := (rfl)
@[simp] theorem Pkg.tookFree_wake (s : Pkg) (n : Nat) : (s.tookFree n).wake = s.wake := (rfl)
@[simp] theorem Pkg.tookFree_clusters (s : Pkg) (n : Nat) : (s.tookFree n).clusters = s.clusters := (rfl)
@[simp] theorem Pkg.tookFree_cens (s : Pkg) (n : Nat) : (s.tookFree n).cens = s.cens := (rfl)
@[simp] theorem Pkg.tookFree_cenReq (s : Pkg) (n : Nat) : (s.tookFree n).cenReq = s.cenReq := (rfl)
@[simp] theorem Pkg.tookFree_jnl (s : Pkg) (n : Nat) : (s.tookFree n).jnl = s.jnl := (rfl)
@[simp] theorem Pkg.tookFree_keeper (s : Pkg) (n : Nat) : (s.tookFree n).keeper = s.keeper := (rfl)
@[simp] theorem Pkg.tookFree_boot (s : Pkg) (n : Nat) : (s.tookFree n).boot = s.boot := (rfl)
@[simp] theorem Pkg.tookFree_wipe (s : Pkg) (n : Nat) : (s.tookFree n).wipe = s.wipe := (rfl)
@[simp] theorem Pkg.tookFree_rd (s : Pkg) (n : Nat) (d2 o2 : Nat) : (s.tookFree n).rd d2 o2 = s.rd d2 o2 := (rfl)
@[simp] theorem Pkg.tookFree_get (s : Pkg) (n : Nat) (d2 : Nat) (f2 : Fld) : (s.tookFree n).get d2 f2 = s.get d2 f2 := (rfl)
@[simp] theorem Pkg.tookFree_on (s : Pkg) (n : Nat) (d2 : Nat) (f2 : Fld) : (s.tookFree n).on d2 f2 = s.on d2 f2 := (rfl)
@[simp] theorem Pkg.tookFree_cnt (s : Pkg) (n : Nat) (d2 o2 : Nat) : (s.tookFree n).cnt d2 o2 = s.cnt d2 o2 := (rfl)

/-! `Pkg.reach` changes only `now`. -/
@[simp] theorem Pkg.reach_variant (s : Pkg) (n : Nat) : (s.reach n).variant = s.variant := (rfl)
@[simp] theorem Pkg.reach_regs (s : Pkg) (n : Nat) : (s.reach n).regs = s.regs := (rfl)
@[simp] theorem Pkg.reach_shadow (s : Pkg) (n : Nat) : (s.reach n).shadow = s.shadow := (rfl)
@[simp] theorem Pkg.reach_ctr (s : Pkg) (n : Nat) : (s.reach n).ctr = s.ctr := (rfl)
@[simp] theorem Pkg.reach_latch (s : Pkg) (n : Nat) : (s.reach n).latch = s.latch := (rfl)
@[simp] theorem Pkg.reach_sets (s : Pkg) (n : Nat) : (s.reach n).sets = s.sets := (rfl)
@[simp] theorem Pkg.reach_coldNext (s : Pkg) (n : Nat) : (s.reach n).coldNext = s.coldNext := (rfl)
@[simp] theorem Pkg.reach_revs (s : Pkg) (n : Nat) : (s.reach n).revs = s.revs := (rfl)
@[simp] theorem Pkg.reach_out (s : Pkg) (n : Nat) : (s.reach n).out = s.out := (rfl)
@[simp] theorem Pkg.reach_fresh (s : Pkg) (n : Nat) : (s.reach n).fresh = s.fresh := (rfl)
@[simp] theorem Pkg.reach_msix (s : Pkg) (n : Nat) : (s.reach n).msix = s.msix := (rfl)
@[simp] theorem Pkg.reach_reqs (s : Pkg) (n : Nat) : (s.reach n).reqs = s.reqs := (rfl)
@[simp] theorem Pkg.reach_portQ (s : Pkg) (n : Nat) : (s.reach n).portQ = s.portQ := (rfl)
@[simp] theorem Pkg.reach_portTurn (s : Pkg) (n : Nat) : (s.reach n).portTurn = s.portTurn := (rfl)
@[simp] theorem Pkg.reach_spans (s : Pkg) (n : Nat) : (s.reach n).spans = s.spans := (rfl)
@[simp] theorem Pkg.reach_routes (s : Pkg) (n : Nat) : (s.reach n).routes = s.routes := (rfl)
@[simp] theorem Pkg.reach_ctrl (s : Pkg) (n : Nat) : (s.reach n).ctrl = s.ctrl := (rfl)
@[simp] theorem Pkg.reach_tethers (s : Pkg) (n : Nat) : (s.reach n).tethers = s.tethers := (rfl)
@[simp] theorem Pkg.reach_tether (s : Pkg) (n : Nat) : (s.reach n).tether = s.tether := (rfl)
@[simp] theorem Pkg.reach_clocks (s : Pkg) (n : Nat) : (s.reach n).clocks = s.clocks := (rfl)
@[simp] theorem Pkg.reach_ref (s : Pkg) (n : Nat) : (s.reach n).ref = s.ref := (rfl)
@[simp] theorem Pkg.reach_ksTile (s : Pkg) (n : Nat) : (s.reach n).ksTile = s.ksTile := (rfl)
@[simp] theorem Pkg.reach_ks (s : Pkg) (n : Nat) : (s.reach n).ks = s.ks := (rfl)
@[simp] theorem Pkg.reach_mode (s : Pkg) (n : Nat) : (s.reach n).mode = s.mode := (rfl)
@[simp] theorem Pkg.reach_sw (s : Pkg) (n : Nat) : (s.reach n).sw = s.sw := (rfl)
@[simp] theorem Pkg.reach_macKeys (s : Pkg) (n : Nat) : (s.reach n).macKeys = s.macKeys := (rfl)
@[simp] theorem Pkg.reach_trKeys (s : Pkg) (n : Nat) : (s.reach n).trKeys = s.trKeys := (rfl)
@[simp] theorem Pkg.reach_vault (s : Pkg) (n : Nat) : (s.reach n).vault = s.vault := (rfl)
@[simp] theorem Pkg.reach_lease (s : Pkg) (n : Nat) : (s.reach n).lease = s.lease := (rfl)
@[simp] theorem Pkg.reach_trestles (s : Pkg) (n : Nat) : (s.reach n).trestles = s.trestles := (rfl)
@[simp] theorem Pkg.reach_bus (s : Pkg) (n : Nat) : (s.reach n).bus = s.bus := (rfl)
@[simp] theorem Pkg.reach_nm (s : Pkg) (n : Nat) : (s.reach n).nm = s.nm := (rfl)
@[simp] theorem Pkg.reach_pnSeen (s : Pkg) (n : Nat) : (s.reach n).pnSeen = s.pnSeen := (rfl)
@[simp] theorem Pkg.reach_bridges (s : Pkg) (n : Nat) : (s.reach n).bridges = s.bridges := (rfl)
@[simp] theorem Pkg.reach_dma (s : Pkg) (n : Nat) : (s.reach n).dma = s.dma := (rfl)
@[simp] theorem Pkg.reach_pods (s : Pkg) (n : Nat) : (s.reach n).pods = s.pods := (rfl)
@[simp] theorem Pkg.reach_ckLow (s : Pkg) (n : Nat) : (s.reach n).ckLow = s.ckLow := (rfl)
@[simp] theorem Pkg.reach_grants (s : Pkg) (n : Nat) : (s.reach n).grants = s.grants := (rfl)
@[simp] theorem Pkg.reach_power (s : Pkg) (n : Nat) : (s.reach n).power = s.power := (rfl)
@[simp] theorem Pkg.reach_wake (s : Pkg) (n : Nat) : (s.reach n).wake = s.wake := (rfl)
@[simp] theorem Pkg.reach_clusters (s : Pkg) (n : Nat) : (s.reach n).clusters = s.clusters := (rfl)
@[simp] theorem Pkg.reach_cens (s : Pkg) (n : Nat) : (s.reach n).cens = s.cens := (rfl)
@[simp] theorem Pkg.reach_cenReq (s : Pkg) (n : Nat) : (s.reach n).cenReq = s.cenReq := (rfl)
@[simp] theorem Pkg.reach_jnl (s : Pkg) (n : Nat) : (s.reach n).jnl = s.jnl := (rfl)
@[simp] theorem Pkg.reach_keeper (s : Pkg) (n : Nat) : (s.reach n).keeper = s.keeper := (rfl)
@[simp] theorem Pkg.reach_boot (s : Pkg) (n : Nat) : (s.reach n).boot = s.boot := (rfl)
@[simp] theorem Pkg.reach_wipe (s : Pkg) (n : Nat) : (s.reach n).wipe = s.wipe := (rfl)
@[simp] theorem Pkg.reach_rd (s : Pkg) (n : Nat) (d2 o2 : Nat) : (s.reach n).rd d2 o2 = s.rd d2 o2 := (rfl)
@[simp] theorem Pkg.reach_get (s : Pkg) (n : Nat) (d2 : Nat) (f2 : Fld) : (s.reach n).get d2 f2 = s.get d2 f2 := (rfl)
@[simp] theorem Pkg.reach_on (s : Pkg) (n : Nat) (d2 : Nat) (f2 : Fld) : (s.reach n).on d2 f2 = s.on d2 f2 := (rfl)
@[simp] theorem Pkg.reach_cnt (s : Pkg) (n : Nat) (d2 o2 : Nat) : (s.reach n).cnt d2 o2 = s.cnt d2 o2 := (rfl)

/-! `Pkg.reachFrac` changes only `now`. -/
@[simp] theorem Pkg.reachFrac_variant (s : Pkg) (n : Nat) : (s.reachFrac n).variant = s.variant := (rfl)
@[simp] theorem Pkg.reachFrac_regs (s : Pkg) (n : Nat) : (s.reachFrac n).regs = s.regs := (rfl)
@[simp] theorem Pkg.reachFrac_shadow (s : Pkg) (n : Nat) : (s.reachFrac n).shadow = s.shadow := (rfl)
@[simp] theorem Pkg.reachFrac_ctr (s : Pkg) (n : Nat) : (s.reachFrac n).ctr = s.ctr := (rfl)
@[simp] theorem Pkg.reachFrac_latch (s : Pkg) (n : Nat) : (s.reachFrac n).latch = s.latch := (rfl)
@[simp] theorem Pkg.reachFrac_sets (s : Pkg) (n : Nat) : (s.reachFrac n).sets = s.sets := (rfl)
@[simp] theorem Pkg.reachFrac_coldNext (s : Pkg) (n : Nat) : (s.reachFrac n).coldNext = s.coldNext := (rfl)
@[simp] theorem Pkg.reachFrac_revs (s : Pkg) (n : Nat) : (s.reachFrac n).revs = s.revs := (rfl)
@[simp] theorem Pkg.reachFrac_out (s : Pkg) (n : Nat) : (s.reachFrac n).out = s.out := (rfl)
@[simp] theorem Pkg.reachFrac_fresh (s : Pkg) (n : Nat) : (s.reachFrac n).fresh = s.fresh := (rfl)
@[simp] theorem Pkg.reachFrac_msix (s : Pkg) (n : Nat) : (s.reachFrac n).msix = s.msix := (rfl)
@[simp] theorem Pkg.reachFrac_reqs (s : Pkg) (n : Nat) : (s.reachFrac n).reqs = s.reqs := (rfl)
@[simp] theorem Pkg.reachFrac_portQ (s : Pkg) (n : Nat) : (s.reachFrac n).portQ = s.portQ := (rfl)
@[simp] theorem Pkg.reachFrac_portTurn (s : Pkg) (n : Nat) : (s.reachFrac n).portTurn = s.portTurn := (rfl)
@[simp] theorem Pkg.reachFrac_spans (s : Pkg) (n : Nat) : (s.reachFrac n).spans = s.spans := (rfl)
@[simp] theorem Pkg.reachFrac_routes (s : Pkg) (n : Nat) : (s.reachFrac n).routes = s.routes := (rfl)
@[simp] theorem Pkg.reachFrac_ctrl (s : Pkg) (n : Nat) : (s.reachFrac n).ctrl = s.ctrl := (rfl)
@[simp] theorem Pkg.reachFrac_tethers (s : Pkg) (n : Nat) : (s.reachFrac n).tethers = s.tethers := (rfl)
@[simp] theorem Pkg.reachFrac_tether (s : Pkg) (n : Nat) : (s.reachFrac n).tether = s.tether := (rfl)
@[simp] theorem Pkg.reachFrac_clocks (s : Pkg) (n : Nat) : (s.reachFrac n).clocks = s.clocks := (rfl)
@[simp] theorem Pkg.reachFrac_ref (s : Pkg) (n : Nat) : (s.reachFrac n).ref = s.ref := (rfl)
@[simp] theorem Pkg.reachFrac_ksTile (s : Pkg) (n : Nat) : (s.reachFrac n).ksTile = s.ksTile := (rfl)
@[simp] theorem Pkg.reachFrac_ks (s : Pkg) (n : Nat) : (s.reachFrac n).ks = s.ks := (rfl)
@[simp] theorem Pkg.reachFrac_mode (s : Pkg) (n : Nat) : (s.reachFrac n).mode = s.mode := (rfl)
@[simp] theorem Pkg.reachFrac_sw (s : Pkg) (n : Nat) : (s.reachFrac n).sw = s.sw := (rfl)
@[simp] theorem Pkg.reachFrac_macKeys (s : Pkg) (n : Nat) : (s.reachFrac n).macKeys = s.macKeys := (rfl)
@[simp] theorem Pkg.reachFrac_trKeys (s : Pkg) (n : Nat) : (s.reachFrac n).trKeys = s.trKeys := (rfl)
@[simp] theorem Pkg.reachFrac_vault (s : Pkg) (n : Nat) : (s.reachFrac n).vault = s.vault := (rfl)
@[simp] theorem Pkg.reachFrac_lease (s : Pkg) (n : Nat) : (s.reachFrac n).lease = s.lease := (rfl)
@[simp] theorem Pkg.reachFrac_trestles (s : Pkg) (n : Nat) : (s.reachFrac n).trestles = s.trestles := (rfl)
@[simp] theorem Pkg.reachFrac_bus (s : Pkg) (n : Nat) : (s.reachFrac n).bus = s.bus := (rfl)
@[simp] theorem Pkg.reachFrac_nm (s : Pkg) (n : Nat) : (s.reachFrac n).nm = s.nm := (rfl)
@[simp] theorem Pkg.reachFrac_pnSeen (s : Pkg) (n : Nat) : (s.reachFrac n).pnSeen = s.pnSeen := (rfl)
@[simp] theorem Pkg.reachFrac_bridges (s : Pkg) (n : Nat) : (s.reachFrac n).bridges = s.bridges := (rfl)
@[simp] theorem Pkg.reachFrac_dma (s : Pkg) (n : Nat) : (s.reachFrac n).dma = s.dma := (rfl)
@[simp] theorem Pkg.reachFrac_pods (s : Pkg) (n : Nat) : (s.reachFrac n).pods = s.pods := (rfl)
@[simp] theorem Pkg.reachFrac_ckLow (s : Pkg) (n : Nat) : (s.reachFrac n).ckLow = s.ckLow := (rfl)
@[simp] theorem Pkg.reachFrac_grants (s : Pkg) (n : Nat) : (s.reachFrac n).grants = s.grants := (rfl)
@[simp] theorem Pkg.reachFrac_power (s : Pkg) (n : Nat) : (s.reachFrac n).power = s.power := (rfl)
@[simp] theorem Pkg.reachFrac_wake (s : Pkg) (n : Nat) : (s.reachFrac n).wake = s.wake := (rfl)
@[simp] theorem Pkg.reachFrac_clusters (s : Pkg) (n : Nat) : (s.reachFrac n).clusters = s.clusters := (rfl)
@[simp] theorem Pkg.reachFrac_cens (s : Pkg) (n : Nat) : (s.reachFrac n).cens = s.cens := (rfl)
@[simp] theorem Pkg.reachFrac_cenReq (s : Pkg) (n : Nat) : (s.reachFrac n).cenReq = s.cenReq := (rfl)
@[simp] theorem Pkg.reachFrac_jnl (s : Pkg) (n : Nat) : (s.reachFrac n).jnl = s.jnl := (rfl)
@[simp] theorem Pkg.reachFrac_keeper (s : Pkg) (n : Nat) : (s.reachFrac n).keeper = s.keeper := (rfl)
@[simp] theorem Pkg.reachFrac_boot (s : Pkg) (n : Nat) : (s.reachFrac n).boot = s.boot := (rfl)
@[simp] theorem Pkg.reachFrac_wipe (s : Pkg) (n : Nat) : (s.reachFrac n).wipe = s.wipe := (rfl)
@[simp] theorem Pkg.reachFrac_rd (s : Pkg) (n : Nat) (d2 o2 : Nat) : (s.reachFrac n).rd d2 o2 = s.rd d2 o2 := (rfl)
@[simp] theorem Pkg.reachFrac_get (s : Pkg) (n : Nat) (d2 : Nat) (f2 : Fld) : (s.reachFrac n).get d2 f2 = s.get d2 f2 := (rfl)
@[simp] theorem Pkg.reachFrac_on (s : Pkg) (n : Nat) (d2 : Nat) (f2 : Fld) : (s.reachFrac n).on d2 f2 = s.on d2 f2 := (rfl)
@[simp] theorem Pkg.reachFrac_cnt (s : Pkg) (n : Nat) (d2 o2 : Nat) : (s.reachFrac n).cnt d2 o2 = s.cnt d2 o2 := (rfl)

/-! `Pkg.event` changes only `msix`. -/
@[simp] theorem Pkg.event_variant (s : Pkg) (t v : Nat) : (s.event t v).variant = s.variant := (rfl)
@[simp] theorem Pkg.event_now (s : Pkg) (t v : Nat) : (s.event t v).now = s.now := (rfl)
@[simp] theorem Pkg.event_regs (s : Pkg) (t v : Nat) : (s.event t v).regs = s.regs := (rfl)
@[simp] theorem Pkg.event_shadow (s : Pkg) (t v : Nat) : (s.event t v).shadow = s.shadow := (rfl)
@[simp] theorem Pkg.event_ctr (s : Pkg) (t v : Nat) : (s.event t v).ctr = s.ctr := (rfl)
@[simp] theorem Pkg.event_latch (s : Pkg) (t v : Nat) : (s.event t v).latch = s.latch := (rfl)
@[simp] theorem Pkg.event_sets (s : Pkg) (t v : Nat) : (s.event t v).sets = s.sets := (rfl)
@[simp] theorem Pkg.event_coldNext (s : Pkg) (t v : Nat) : (s.event t v).coldNext = s.coldNext := (rfl)
@[simp] theorem Pkg.event_revs (s : Pkg) (t v : Nat) : (s.event t v).revs = s.revs := (rfl)
@[simp] theorem Pkg.event_out (s : Pkg) (t v : Nat) : (s.event t v).out = s.out := (rfl)
@[simp] theorem Pkg.event_fresh (s : Pkg) (t v : Nat) : (s.event t v).fresh = s.fresh := (rfl)
@[simp] theorem Pkg.event_reqs (s : Pkg) (t v : Nat) : (s.event t v).reqs = s.reqs := (rfl)
@[simp] theorem Pkg.event_portQ (s : Pkg) (t v : Nat) : (s.event t v).portQ = s.portQ := (rfl)
@[simp] theorem Pkg.event_portTurn (s : Pkg) (t v : Nat) : (s.event t v).portTurn = s.portTurn := (rfl)
@[simp] theorem Pkg.event_spans (s : Pkg) (t v : Nat) : (s.event t v).spans = s.spans := (rfl)
@[simp] theorem Pkg.event_routes (s : Pkg) (t v : Nat) : (s.event t v).routes = s.routes := (rfl)
@[simp] theorem Pkg.event_ctrl (s : Pkg) (t v : Nat) : (s.event t v).ctrl = s.ctrl := (rfl)
@[simp] theorem Pkg.event_tethers (s : Pkg) (t v : Nat) : (s.event t v).tethers = s.tethers := (rfl)
@[simp] theorem Pkg.event_tether (s : Pkg) (t v : Nat) : (s.event t v).tether = s.tether := (rfl)
@[simp] theorem Pkg.event_clocks (s : Pkg) (t v : Nat) : (s.event t v).clocks = s.clocks := (rfl)
@[simp] theorem Pkg.event_ref (s : Pkg) (t v : Nat) : (s.event t v).ref = s.ref := (rfl)
@[simp] theorem Pkg.event_ksTile (s : Pkg) (t v : Nat) : (s.event t v).ksTile = s.ksTile := (rfl)
@[simp] theorem Pkg.event_ks (s : Pkg) (t v : Nat) : (s.event t v).ks = s.ks := (rfl)
@[simp] theorem Pkg.event_mode (s : Pkg) (t v : Nat) : (s.event t v).mode = s.mode := (rfl)
@[simp] theorem Pkg.event_sw (s : Pkg) (t v : Nat) : (s.event t v).sw = s.sw := (rfl)
@[simp] theorem Pkg.event_macKeys (s : Pkg) (t v : Nat) : (s.event t v).macKeys = s.macKeys := (rfl)
@[simp] theorem Pkg.event_trKeys (s : Pkg) (t v : Nat) : (s.event t v).trKeys = s.trKeys := (rfl)
@[simp] theorem Pkg.event_vault (s : Pkg) (t v : Nat) : (s.event t v).vault = s.vault := (rfl)
@[simp] theorem Pkg.event_lease (s : Pkg) (t v : Nat) : (s.event t v).lease = s.lease := (rfl)
@[simp] theorem Pkg.event_trestles (s : Pkg) (t v : Nat) : (s.event t v).trestles = s.trestles := (rfl)
@[simp] theorem Pkg.event_bus (s : Pkg) (t v : Nat) : (s.event t v).bus = s.bus := (rfl)
@[simp] theorem Pkg.event_nm (s : Pkg) (t v : Nat) : (s.event t v).nm = s.nm := (rfl)
@[simp] theorem Pkg.event_pnSeen (s : Pkg) (t v : Nat) : (s.event t v).pnSeen = s.pnSeen := (rfl)
@[simp] theorem Pkg.event_bridges (s : Pkg) (t v : Nat) : (s.event t v).bridges = s.bridges := (rfl)
@[simp] theorem Pkg.event_dma (s : Pkg) (t v : Nat) : (s.event t v).dma = s.dma := (rfl)
@[simp] theorem Pkg.event_pods (s : Pkg) (t v : Nat) : (s.event t v).pods = s.pods := (rfl)
@[simp] theorem Pkg.event_ckLow (s : Pkg) (t v : Nat) : (s.event t v).ckLow = s.ckLow := (rfl)
@[simp] theorem Pkg.event_grants (s : Pkg) (t v : Nat) : (s.event t v).grants = s.grants := (rfl)
@[simp] theorem Pkg.event_power (s : Pkg) (t v : Nat) : (s.event t v).power = s.power := (rfl)
@[simp] theorem Pkg.event_wake (s : Pkg) (t v : Nat) : (s.event t v).wake = s.wake := (rfl)
@[simp] theorem Pkg.event_clusters (s : Pkg) (t v : Nat) : (s.event t v).clusters = s.clusters := (rfl)
@[simp] theorem Pkg.event_cens (s : Pkg) (t v : Nat) : (s.event t v).cens = s.cens := (rfl)
@[simp] theorem Pkg.event_cenReq (s : Pkg) (t v : Nat) : (s.event t v).cenReq = s.cenReq := (rfl)
@[simp] theorem Pkg.event_jnl (s : Pkg) (t v : Nat) : (s.event t v).jnl = s.jnl := (rfl)
@[simp] theorem Pkg.event_keeper (s : Pkg) (t v : Nat) : (s.event t v).keeper = s.keeper := (rfl)
@[simp] theorem Pkg.event_boot (s : Pkg) (t v : Nat) : (s.event t v).boot = s.boot := (rfl)
@[simp] theorem Pkg.event_wipe (s : Pkg) (t v : Nat) : (s.event t v).wipe = s.wipe := (rfl)
@[simp] theorem Pkg.event_rd (s : Pkg) (t v : Nat) (d2 o2 : Nat) : (s.event t v).rd d2 o2 = s.rd d2 o2 := (rfl)
@[simp] theorem Pkg.event_get (s : Pkg) (t v : Nat) (d2 : Nat) (f2 : Fld) : (s.event t v).get d2 f2 = s.get d2 f2 := (rfl)
@[simp] theorem Pkg.event_on (s : Pkg) (t v : Nat) (d2 : Nat) (f2 : Fld) : (s.event t v).on d2 f2 = s.on d2 f2 := (rfl)
@[simp] theorem Pkg.event_cnt (s : Pkg) (t v : Nat) (d2 o2 : Nat) : (s.event t v).cnt d2 o2 = s.cnt d2 o2 := (rfl)

/-! `Pkg.onMode` changes only `mode`. -/
@[simp] theorem Pkg.onMode_variant (s : Pkg) (f : ModeSt → ModeSt) : (s.onMode f).variant = s.variant := (rfl)
@[simp] theorem Pkg.onMode_now (s : Pkg) (f : ModeSt → ModeSt) : (s.onMode f).now = s.now := (rfl)
@[simp] theorem Pkg.onMode_regs (s : Pkg) (f : ModeSt → ModeSt) : (s.onMode f).regs = s.regs := (rfl)
@[simp] theorem Pkg.onMode_shadow (s : Pkg) (f : ModeSt → ModeSt) : (s.onMode f).shadow = s.shadow := (rfl)
@[simp] theorem Pkg.onMode_ctr (s : Pkg) (f : ModeSt → ModeSt) : (s.onMode f).ctr = s.ctr := (rfl)
@[simp] theorem Pkg.onMode_latch (s : Pkg) (f : ModeSt → ModeSt) : (s.onMode f).latch = s.latch := (rfl)
@[simp] theorem Pkg.onMode_sets (s : Pkg) (f : ModeSt → ModeSt) : (s.onMode f).sets = s.sets := (rfl)
@[simp] theorem Pkg.onMode_coldNext (s : Pkg) (f : ModeSt → ModeSt) : (s.onMode f).coldNext = s.coldNext := (rfl)
@[simp] theorem Pkg.onMode_revs (s : Pkg) (f : ModeSt → ModeSt) : (s.onMode f).revs = s.revs := (rfl)
@[simp] theorem Pkg.onMode_out (s : Pkg) (f : ModeSt → ModeSt) : (s.onMode f).out = s.out := (rfl)
@[simp] theorem Pkg.onMode_fresh (s : Pkg) (f : ModeSt → ModeSt) : (s.onMode f).fresh = s.fresh := (rfl)
@[simp] theorem Pkg.onMode_msix (s : Pkg) (f : ModeSt → ModeSt) : (s.onMode f).msix = s.msix := (rfl)
@[simp] theorem Pkg.onMode_reqs (s : Pkg) (f : ModeSt → ModeSt) : (s.onMode f).reqs = s.reqs := (rfl)
@[simp] theorem Pkg.onMode_portQ (s : Pkg) (f : ModeSt → ModeSt) : (s.onMode f).portQ = s.portQ := (rfl)
@[simp] theorem Pkg.onMode_portTurn (s : Pkg) (f : ModeSt → ModeSt) : (s.onMode f).portTurn = s.portTurn := (rfl)
@[simp] theorem Pkg.onMode_spans (s : Pkg) (f : ModeSt → ModeSt) : (s.onMode f).spans = s.spans := (rfl)
@[simp] theorem Pkg.onMode_routes (s : Pkg) (f : ModeSt → ModeSt) : (s.onMode f).routes = s.routes := (rfl)
@[simp] theorem Pkg.onMode_ctrl (s : Pkg) (f : ModeSt → ModeSt) : (s.onMode f).ctrl = s.ctrl := (rfl)
@[simp] theorem Pkg.onMode_tethers (s : Pkg) (f : ModeSt → ModeSt) : (s.onMode f).tethers = s.tethers := (rfl)
@[simp] theorem Pkg.onMode_tether (s : Pkg) (f : ModeSt → ModeSt) : (s.onMode f).tether = s.tether := (rfl)
@[simp] theorem Pkg.onMode_clocks (s : Pkg) (f : ModeSt → ModeSt) : (s.onMode f).clocks = s.clocks := (rfl)
@[simp] theorem Pkg.onMode_ref (s : Pkg) (f : ModeSt → ModeSt) : (s.onMode f).ref = s.ref := (rfl)
@[simp] theorem Pkg.onMode_ksTile (s : Pkg) (f : ModeSt → ModeSt) : (s.onMode f).ksTile = s.ksTile := (rfl)
@[simp] theorem Pkg.onMode_ks (s : Pkg) (f : ModeSt → ModeSt) : (s.onMode f).ks = s.ks := (rfl)
@[simp] theorem Pkg.onMode_sw (s : Pkg) (f : ModeSt → ModeSt) : (s.onMode f).sw = s.sw := (rfl)
@[simp] theorem Pkg.onMode_macKeys (s : Pkg) (f : ModeSt → ModeSt) : (s.onMode f).macKeys = s.macKeys := (rfl)
@[simp] theorem Pkg.onMode_trKeys (s : Pkg) (f : ModeSt → ModeSt) : (s.onMode f).trKeys = s.trKeys := (rfl)
@[simp] theorem Pkg.onMode_vault (s : Pkg) (f : ModeSt → ModeSt) : (s.onMode f).vault = s.vault := (rfl)
@[simp] theorem Pkg.onMode_lease (s : Pkg) (f : ModeSt → ModeSt) : (s.onMode f).lease = s.lease := (rfl)
@[simp] theorem Pkg.onMode_trestles (s : Pkg) (f : ModeSt → ModeSt) : (s.onMode f).trestles = s.trestles := (rfl)
@[simp] theorem Pkg.onMode_bus (s : Pkg) (f : ModeSt → ModeSt) : (s.onMode f).bus = s.bus := (rfl)
@[simp] theorem Pkg.onMode_nm (s : Pkg) (f : ModeSt → ModeSt) : (s.onMode f).nm = s.nm := (rfl)
@[simp] theorem Pkg.onMode_pnSeen (s : Pkg) (f : ModeSt → ModeSt) : (s.onMode f).pnSeen = s.pnSeen := (rfl)
@[simp] theorem Pkg.onMode_bridges (s : Pkg) (f : ModeSt → ModeSt) : (s.onMode f).bridges = s.bridges := (rfl)
@[simp] theorem Pkg.onMode_dma (s : Pkg) (f : ModeSt → ModeSt) : (s.onMode f).dma = s.dma := (rfl)
@[simp] theorem Pkg.onMode_pods (s : Pkg) (f : ModeSt → ModeSt) : (s.onMode f).pods = s.pods := (rfl)
@[simp] theorem Pkg.onMode_ckLow (s : Pkg) (f : ModeSt → ModeSt) : (s.onMode f).ckLow = s.ckLow := (rfl)
@[simp] theorem Pkg.onMode_grants (s : Pkg) (f : ModeSt → ModeSt) : (s.onMode f).grants = s.grants := (rfl)
@[simp] theorem Pkg.onMode_power (s : Pkg) (f : ModeSt → ModeSt) : (s.onMode f).power = s.power := (rfl)
@[simp] theorem Pkg.onMode_wake (s : Pkg) (f : ModeSt → ModeSt) : (s.onMode f).wake = s.wake := (rfl)
@[simp] theorem Pkg.onMode_clusters (s : Pkg) (f : ModeSt → ModeSt) : (s.onMode f).clusters = s.clusters := (rfl)
@[simp] theorem Pkg.onMode_cens (s : Pkg) (f : ModeSt → ModeSt) : (s.onMode f).cens = s.cens := (rfl)
@[simp] theorem Pkg.onMode_cenReq (s : Pkg) (f : ModeSt → ModeSt) : (s.onMode f).cenReq = s.cenReq := (rfl)
@[simp] theorem Pkg.onMode_jnl (s : Pkg) (f : ModeSt → ModeSt) : (s.onMode f).jnl = s.jnl := (rfl)
@[simp] theorem Pkg.onMode_keeper (s : Pkg) (f : ModeSt → ModeSt) : (s.onMode f).keeper = s.keeper := (rfl)
@[simp] theorem Pkg.onMode_boot (s : Pkg) (f : ModeSt → ModeSt) : (s.onMode f).boot = s.boot := (rfl)
@[simp] theorem Pkg.onMode_wipe (s : Pkg) (f : ModeSt → ModeSt) : (s.onMode f).wipe = s.wipe := (rfl)
@[simp] theorem Pkg.onMode_rd (s : Pkg) (f : ModeSt → ModeSt) (d2 o2 : Nat) : (s.onMode f).rd d2 o2 = s.rd d2 o2 := (rfl)
@[simp] theorem Pkg.onMode_get (s : Pkg) (f : ModeSt → ModeSt) (d2 : Nat) (f2 : Fld) : (s.onMode f).get d2 f2 = s.get d2 f2 := (rfl)
@[simp] theorem Pkg.onMode_on (s : Pkg) (f : ModeSt → ModeSt) (d2 : Nat) (f2 : Fld) : (s.onMode f).on d2 f2 = s.on d2 f2 := (rfl)
@[simp] theorem Pkg.onMode_cnt (s : Pkg) (f : ModeSt → ModeSt) (d2 o2 : Nat) : (s.onMode f).cnt d2 o2 = s.cnt d2 o2 := (rfl)

/-! `Pkg.onSw` changes only `sw`. -/
@[simp] theorem Pkg.onSw_variant (s : Pkg) (f : SwitchSt → SwitchSt) : (s.onSw f).variant = s.variant := (rfl)
@[simp] theorem Pkg.onSw_now (s : Pkg) (f : SwitchSt → SwitchSt) : (s.onSw f).now = s.now := (rfl)
@[simp] theorem Pkg.onSw_regs (s : Pkg) (f : SwitchSt → SwitchSt) : (s.onSw f).regs = s.regs := (rfl)
@[simp] theorem Pkg.onSw_shadow (s : Pkg) (f : SwitchSt → SwitchSt) : (s.onSw f).shadow = s.shadow := (rfl)
@[simp] theorem Pkg.onSw_ctr (s : Pkg) (f : SwitchSt → SwitchSt) : (s.onSw f).ctr = s.ctr := (rfl)
@[simp] theorem Pkg.onSw_latch (s : Pkg) (f : SwitchSt → SwitchSt) : (s.onSw f).latch = s.latch := (rfl)
@[simp] theorem Pkg.onSw_sets (s : Pkg) (f : SwitchSt → SwitchSt) : (s.onSw f).sets = s.sets := (rfl)
@[simp] theorem Pkg.onSw_coldNext (s : Pkg) (f : SwitchSt → SwitchSt) : (s.onSw f).coldNext = s.coldNext := (rfl)
@[simp] theorem Pkg.onSw_revs (s : Pkg) (f : SwitchSt → SwitchSt) : (s.onSw f).revs = s.revs := (rfl)
@[simp] theorem Pkg.onSw_out (s : Pkg) (f : SwitchSt → SwitchSt) : (s.onSw f).out = s.out := (rfl)
@[simp] theorem Pkg.onSw_fresh (s : Pkg) (f : SwitchSt → SwitchSt) : (s.onSw f).fresh = s.fresh := (rfl)
@[simp] theorem Pkg.onSw_msix (s : Pkg) (f : SwitchSt → SwitchSt) : (s.onSw f).msix = s.msix := (rfl)
@[simp] theorem Pkg.onSw_reqs (s : Pkg) (f : SwitchSt → SwitchSt) : (s.onSw f).reqs = s.reqs := (rfl)
@[simp] theorem Pkg.onSw_portQ (s : Pkg) (f : SwitchSt → SwitchSt) : (s.onSw f).portQ = s.portQ := (rfl)
@[simp] theorem Pkg.onSw_portTurn (s : Pkg) (f : SwitchSt → SwitchSt) : (s.onSw f).portTurn = s.portTurn := (rfl)
@[simp] theorem Pkg.onSw_spans (s : Pkg) (f : SwitchSt → SwitchSt) : (s.onSw f).spans = s.spans := (rfl)
@[simp] theorem Pkg.onSw_routes (s : Pkg) (f : SwitchSt → SwitchSt) : (s.onSw f).routes = s.routes := (rfl)
@[simp] theorem Pkg.onSw_ctrl (s : Pkg) (f : SwitchSt → SwitchSt) : (s.onSw f).ctrl = s.ctrl := (rfl)
@[simp] theorem Pkg.onSw_tethers (s : Pkg) (f : SwitchSt → SwitchSt) : (s.onSw f).tethers = s.tethers := (rfl)
@[simp] theorem Pkg.onSw_tether (s : Pkg) (f : SwitchSt → SwitchSt) : (s.onSw f).tether = s.tether := (rfl)
@[simp] theorem Pkg.onSw_clocks (s : Pkg) (f : SwitchSt → SwitchSt) : (s.onSw f).clocks = s.clocks := (rfl)
@[simp] theorem Pkg.onSw_ref (s : Pkg) (f : SwitchSt → SwitchSt) : (s.onSw f).ref = s.ref := (rfl)
@[simp] theorem Pkg.onSw_ksTile (s : Pkg) (f : SwitchSt → SwitchSt) : (s.onSw f).ksTile = s.ksTile := (rfl)
@[simp] theorem Pkg.onSw_ks (s : Pkg) (f : SwitchSt → SwitchSt) : (s.onSw f).ks = s.ks := (rfl)
@[simp] theorem Pkg.onSw_mode (s : Pkg) (f : SwitchSt → SwitchSt) : (s.onSw f).mode = s.mode := (rfl)
@[simp] theorem Pkg.onSw_macKeys (s : Pkg) (f : SwitchSt → SwitchSt) : (s.onSw f).macKeys = s.macKeys := (rfl)
@[simp] theorem Pkg.onSw_trKeys (s : Pkg) (f : SwitchSt → SwitchSt) : (s.onSw f).trKeys = s.trKeys := (rfl)
@[simp] theorem Pkg.onSw_vault (s : Pkg) (f : SwitchSt → SwitchSt) : (s.onSw f).vault = s.vault := (rfl)
@[simp] theorem Pkg.onSw_lease (s : Pkg) (f : SwitchSt → SwitchSt) : (s.onSw f).lease = s.lease := (rfl)
@[simp] theorem Pkg.onSw_trestles (s : Pkg) (f : SwitchSt → SwitchSt) : (s.onSw f).trestles = s.trestles := (rfl)
@[simp] theorem Pkg.onSw_bus (s : Pkg) (f : SwitchSt → SwitchSt) : (s.onSw f).bus = s.bus := (rfl)
@[simp] theorem Pkg.onSw_nm (s : Pkg) (f : SwitchSt → SwitchSt) : (s.onSw f).nm = s.nm := (rfl)
@[simp] theorem Pkg.onSw_pnSeen (s : Pkg) (f : SwitchSt → SwitchSt) : (s.onSw f).pnSeen = s.pnSeen := (rfl)
@[simp] theorem Pkg.onSw_bridges (s : Pkg) (f : SwitchSt → SwitchSt) : (s.onSw f).bridges = s.bridges := (rfl)
@[simp] theorem Pkg.onSw_dma (s : Pkg) (f : SwitchSt → SwitchSt) : (s.onSw f).dma = s.dma := (rfl)
@[simp] theorem Pkg.onSw_pods (s : Pkg) (f : SwitchSt → SwitchSt) : (s.onSw f).pods = s.pods := (rfl)
@[simp] theorem Pkg.onSw_ckLow (s : Pkg) (f : SwitchSt → SwitchSt) : (s.onSw f).ckLow = s.ckLow := (rfl)
@[simp] theorem Pkg.onSw_grants (s : Pkg) (f : SwitchSt → SwitchSt) : (s.onSw f).grants = s.grants := (rfl)
@[simp] theorem Pkg.onSw_power (s : Pkg) (f : SwitchSt → SwitchSt) : (s.onSw f).power = s.power := (rfl)
@[simp] theorem Pkg.onSw_wake (s : Pkg) (f : SwitchSt → SwitchSt) : (s.onSw f).wake = s.wake := (rfl)
@[simp] theorem Pkg.onSw_clusters (s : Pkg) (f : SwitchSt → SwitchSt) : (s.onSw f).clusters = s.clusters := (rfl)
@[simp] theorem Pkg.onSw_cens (s : Pkg) (f : SwitchSt → SwitchSt) : (s.onSw f).cens = s.cens := (rfl)
@[simp] theorem Pkg.onSw_cenReq (s : Pkg) (f : SwitchSt → SwitchSt) : (s.onSw f).cenReq = s.cenReq := (rfl)
@[simp] theorem Pkg.onSw_jnl (s : Pkg) (f : SwitchSt → SwitchSt) : (s.onSw f).jnl = s.jnl := (rfl)
@[simp] theorem Pkg.onSw_keeper (s : Pkg) (f : SwitchSt → SwitchSt) : (s.onSw f).keeper = s.keeper := (rfl)
@[simp] theorem Pkg.onSw_boot (s : Pkg) (f : SwitchSt → SwitchSt) : (s.onSw f).boot = s.boot := (rfl)
@[simp] theorem Pkg.onSw_wipe (s : Pkg) (f : SwitchSt → SwitchSt) : (s.onSw f).wipe = s.wipe := (rfl)
@[simp] theorem Pkg.onSw_rd (s : Pkg) (f : SwitchSt → SwitchSt) (d2 o2 : Nat) : (s.onSw f).rd d2 o2 = s.rd d2 o2 := (rfl)
@[simp] theorem Pkg.onSw_get (s : Pkg) (f : SwitchSt → SwitchSt) (d2 : Nat) (f2 : Fld) : (s.onSw f).get d2 f2 = s.get d2 f2 := (rfl)
@[simp] theorem Pkg.onSw_on (s : Pkg) (f : SwitchSt → SwitchSt) (d2 : Nat) (f2 : Fld) : (s.onSw f).on d2 f2 = s.on d2 f2 := (rfl)
@[simp] theorem Pkg.onSw_cnt (s : Pkg) (f : SwitchSt → SwitchSt) (d2 o2 : Nat) : (s.onSw f).cnt d2 o2 = s.cnt d2 o2 := (rfl)

/-! `Pkg.setReqSt` changes only `reqs`. -/
@[simp] theorem Pkg.setReqSt_variant (s : Pkg) (r : Req) (x : ReqSt) : (s.setReqSt r x).variant = s.variant := (rfl)
@[simp] theorem Pkg.setReqSt_now (s : Pkg) (r : Req) (x : ReqSt) : (s.setReqSt r x).now = s.now := (rfl)
@[simp] theorem Pkg.setReqSt_regs (s : Pkg) (r : Req) (x : ReqSt) : (s.setReqSt r x).regs = s.regs := (rfl)
@[simp] theorem Pkg.setReqSt_shadow (s : Pkg) (r : Req) (x : ReqSt) : (s.setReqSt r x).shadow = s.shadow := (rfl)
@[simp] theorem Pkg.setReqSt_ctr (s : Pkg) (r : Req) (x : ReqSt) : (s.setReqSt r x).ctr = s.ctr := (rfl)
@[simp] theorem Pkg.setReqSt_latch (s : Pkg) (r : Req) (x : ReqSt) : (s.setReqSt r x).latch = s.latch := (rfl)
@[simp] theorem Pkg.setReqSt_sets (s : Pkg) (r : Req) (x : ReqSt) : (s.setReqSt r x).sets = s.sets := (rfl)
@[simp] theorem Pkg.setReqSt_coldNext (s : Pkg) (r : Req) (x : ReqSt) : (s.setReqSt r x).coldNext = s.coldNext := (rfl)
@[simp] theorem Pkg.setReqSt_revs (s : Pkg) (r : Req) (x : ReqSt) : (s.setReqSt r x).revs = s.revs := (rfl)
@[simp] theorem Pkg.setReqSt_out (s : Pkg) (r : Req) (x : ReqSt) : (s.setReqSt r x).out = s.out := (rfl)
@[simp] theorem Pkg.setReqSt_fresh (s : Pkg) (r : Req) (x : ReqSt) : (s.setReqSt r x).fresh = s.fresh := (rfl)
@[simp] theorem Pkg.setReqSt_msix (s : Pkg) (r : Req) (x : ReqSt) : (s.setReqSt r x).msix = s.msix := (rfl)
@[simp] theorem Pkg.setReqSt_portQ (s : Pkg) (r : Req) (x : ReqSt) : (s.setReqSt r x).portQ = s.portQ := (rfl)
@[simp] theorem Pkg.setReqSt_portTurn (s : Pkg) (r : Req) (x : ReqSt) : (s.setReqSt r x).portTurn = s.portTurn := (rfl)
@[simp] theorem Pkg.setReqSt_spans (s : Pkg) (r : Req) (x : ReqSt) : (s.setReqSt r x).spans = s.spans := (rfl)
@[simp] theorem Pkg.setReqSt_routes (s : Pkg) (r : Req) (x : ReqSt) : (s.setReqSt r x).routes = s.routes := (rfl)
@[simp] theorem Pkg.setReqSt_ctrl (s : Pkg) (r : Req) (x : ReqSt) : (s.setReqSt r x).ctrl = s.ctrl := (rfl)
@[simp] theorem Pkg.setReqSt_tethers (s : Pkg) (r : Req) (x : ReqSt) : (s.setReqSt r x).tethers = s.tethers := (rfl)
@[simp] theorem Pkg.setReqSt_tether (s : Pkg) (r : Req) (x : ReqSt) : (s.setReqSt r x).tether = s.tether := (rfl)
@[simp] theorem Pkg.setReqSt_clocks (s : Pkg) (r : Req) (x : ReqSt) : (s.setReqSt r x).clocks = s.clocks := (rfl)
@[simp] theorem Pkg.setReqSt_ref (s : Pkg) (r : Req) (x : ReqSt) : (s.setReqSt r x).ref = s.ref := (rfl)
@[simp] theorem Pkg.setReqSt_ksTile (s : Pkg) (r : Req) (x : ReqSt) : (s.setReqSt r x).ksTile = s.ksTile := (rfl)
@[simp] theorem Pkg.setReqSt_ks (s : Pkg) (r : Req) (x : ReqSt) : (s.setReqSt r x).ks = s.ks := (rfl)
@[simp] theorem Pkg.setReqSt_mode (s : Pkg) (r : Req) (x : ReqSt) : (s.setReqSt r x).mode = s.mode := (rfl)
@[simp] theorem Pkg.setReqSt_sw (s : Pkg) (r : Req) (x : ReqSt) : (s.setReqSt r x).sw = s.sw := (rfl)
@[simp] theorem Pkg.setReqSt_macKeys (s : Pkg) (r : Req) (x : ReqSt) : (s.setReqSt r x).macKeys = s.macKeys := (rfl)
@[simp] theorem Pkg.setReqSt_trKeys (s : Pkg) (r : Req) (x : ReqSt) : (s.setReqSt r x).trKeys = s.trKeys := (rfl)
@[simp] theorem Pkg.setReqSt_vault (s : Pkg) (r : Req) (x : ReqSt) : (s.setReqSt r x).vault = s.vault := (rfl)
@[simp] theorem Pkg.setReqSt_lease (s : Pkg) (r : Req) (x : ReqSt) : (s.setReqSt r x).lease = s.lease := (rfl)
@[simp] theorem Pkg.setReqSt_trestles (s : Pkg) (r : Req) (x : ReqSt) : (s.setReqSt r x).trestles = s.trestles := (rfl)
@[simp] theorem Pkg.setReqSt_bus (s : Pkg) (r : Req) (x : ReqSt) : (s.setReqSt r x).bus = s.bus := (rfl)
@[simp] theorem Pkg.setReqSt_nm (s : Pkg) (r : Req) (x : ReqSt) : (s.setReqSt r x).nm = s.nm := (rfl)
@[simp] theorem Pkg.setReqSt_pnSeen (s : Pkg) (r : Req) (x : ReqSt) : (s.setReqSt r x).pnSeen = s.pnSeen := (rfl)
@[simp] theorem Pkg.setReqSt_bridges (s : Pkg) (r : Req) (x : ReqSt) : (s.setReqSt r x).bridges = s.bridges := (rfl)
@[simp] theorem Pkg.setReqSt_dma (s : Pkg) (r : Req) (x : ReqSt) : (s.setReqSt r x).dma = s.dma := (rfl)
@[simp] theorem Pkg.setReqSt_pods (s : Pkg) (r : Req) (x : ReqSt) : (s.setReqSt r x).pods = s.pods := (rfl)
@[simp] theorem Pkg.setReqSt_ckLow (s : Pkg) (r : Req) (x : ReqSt) : (s.setReqSt r x).ckLow = s.ckLow := (rfl)
@[simp] theorem Pkg.setReqSt_grants (s : Pkg) (r : Req) (x : ReqSt) : (s.setReqSt r x).grants = s.grants := (rfl)
@[simp] theorem Pkg.setReqSt_power (s : Pkg) (r : Req) (x : ReqSt) : (s.setReqSt r x).power = s.power := (rfl)
@[simp] theorem Pkg.setReqSt_wake (s : Pkg) (r : Req) (x : ReqSt) : (s.setReqSt r x).wake = s.wake := (rfl)
@[simp] theorem Pkg.setReqSt_clusters (s : Pkg) (r : Req) (x : ReqSt) : (s.setReqSt r x).clusters = s.clusters := (rfl)
@[simp] theorem Pkg.setReqSt_cens (s : Pkg) (r : Req) (x : ReqSt) : (s.setReqSt r x).cens = s.cens := (rfl)
@[simp] theorem Pkg.setReqSt_cenReq (s : Pkg) (r : Req) (x : ReqSt) : (s.setReqSt r x).cenReq = s.cenReq := (rfl)
@[simp] theorem Pkg.setReqSt_jnl (s : Pkg) (r : Req) (x : ReqSt) : (s.setReqSt r x).jnl = s.jnl := (rfl)
@[simp] theorem Pkg.setReqSt_keeper (s : Pkg) (r : Req) (x : ReqSt) : (s.setReqSt r x).keeper = s.keeper := (rfl)
@[simp] theorem Pkg.setReqSt_boot (s : Pkg) (r : Req) (x : ReqSt) : (s.setReqSt r x).boot = s.boot := (rfl)
@[simp] theorem Pkg.setReqSt_wipe (s : Pkg) (r : Req) (x : ReqSt) : (s.setReqSt r x).wipe = s.wipe := (rfl)
@[simp] theorem Pkg.setReqSt_rd (s : Pkg) (r : Req) (x : ReqSt) (d2 o2 : Nat) : (s.setReqSt r x).rd d2 o2 = s.rd d2 o2 := (rfl)
@[simp] theorem Pkg.setReqSt_get (s : Pkg) (r : Req) (x : ReqSt) (d2 : Nat) (f2 : Fld) : (s.setReqSt r x).get d2 f2 = s.get d2 f2 := (rfl)
@[simp] theorem Pkg.setReqSt_on (s : Pkg) (r : Req) (x : ReqSt) (d2 : Nat) (f2 : Fld) : (s.setReqSt r x).on d2 f2 = s.on d2 f2 := (rfl)
@[simp] theorem Pkg.setReqSt_cnt (s : Pkg) (r : Req) (x : ReqSt) (d2 o2 : Nat) : (s.setReqSt r x).cnt d2 o2 = s.cnt d2 o2 := (rfl)

/-! `Pkg.setSpanSt` changes only `spans`. -/
@[simp] theorem Pkg.setSpanSt_variant (s : Pkg) (t p : Nat) (x : SpanSt) : (s.setSpanSt t p x).variant = s.variant := (rfl)
@[simp] theorem Pkg.setSpanSt_now (s : Pkg) (t p : Nat) (x : SpanSt) : (s.setSpanSt t p x).now = s.now := (rfl)
@[simp] theorem Pkg.setSpanSt_regs (s : Pkg) (t p : Nat) (x : SpanSt) : (s.setSpanSt t p x).regs = s.regs := (rfl)
@[simp] theorem Pkg.setSpanSt_shadow (s : Pkg) (t p : Nat) (x : SpanSt) : (s.setSpanSt t p x).shadow = s.shadow := (rfl)
@[simp] theorem Pkg.setSpanSt_ctr (s : Pkg) (t p : Nat) (x : SpanSt) : (s.setSpanSt t p x).ctr = s.ctr := (rfl)
@[simp] theorem Pkg.setSpanSt_latch (s : Pkg) (t p : Nat) (x : SpanSt) : (s.setSpanSt t p x).latch = s.latch := (rfl)
@[simp] theorem Pkg.setSpanSt_sets (s : Pkg) (t p : Nat) (x : SpanSt) : (s.setSpanSt t p x).sets = s.sets := (rfl)
@[simp] theorem Pkg.setSpanSt_coldNext (s : Pkg) (t p : Nat) (x : SpanSt) : (s.setSpanSt t p x).coldNext = s.coldNext := (rfl)
@[simp] theorem Pkg.setSpanSt_revs (s : Pkg) (t p : Nat) (x : SpanSt) : (s.setSpanSt t p x).revs = s.revs := (rfl)
@[simp] theorem Pkg.setSpanSt_out (s : Pkg) (t p : Nat) (x : SpanSt) : (s.setSpanSt t p x).out = s.out := (rfl)
@[simp] theorem Pkg.setSpanSt_fresh (s : Pkg) (t p : Nat) (x : SpanSt) : (s.setSpanSt t p x).fresh = s.fresh := (rfl)
@[simp] theorem Pkg.setSpanSt_msix (s : Pkg) (t p : Nat) (x : SpanSt) : (s.setSpanSt t p x).msix = s.msix := (rfl)
@[simp] theorem Pkg.setSpanSt_reqs (s : Pkg) (t p : Nat) (x : SpanSt) : (s.setSpanSt t p x).reqs = s.reqs := (rfl)
@[simp] theorem Pkg.setSpanSt_portQ (s : Pkg) (t p : Nat) (x : SpanSt) : (s.setSpanSt t p x).portQ = s.portQ := (rfl)
@[simp] theorem Pkg.setSpanSt_portTurn (s : Pkg) (t p : Nat) (x : SpanSt) : (s.setSpanSt t p x).portTurn = s.portTurn := (rfl)
@[simp] theorem Pkg.setSpanSt_routes (s : Pkg) (t p : Nat) (x : SpanSt) : (s.setSpanSt t p x).routes = s.routes := (rfl)
@[simp] theorem Pkg.setSpanSt_ctrl (s : Pkg) (t p : Nat) (x : SpanSt) : (s.setSpanSt t p x).ctrl = s.ctrl := (rfl)
@[simp] theorem Pkg.setSpanSt_tethers (s : Pkg) (t p : Nat) (x : SpanSt) : (s.setSpanSt t p x).tethers = s.tethers := (rfl)
@[simp] theorem Pkg.setSpanSt_tether (s : Pkg) (t p : Nat) (x : SpanSt) : (s.setSpanSt t p x).tether = s.tether := (rfl)
@[simp] theorem Pkg.setSpanSt_clocks (s : Pkg) (t p : Nat) (x : SpanSt) : (s.setSpanSt t p x).clocks = s.clocks := (rfl)
@[simp] theorem Pkg.setSpanSt_ref (s : Pkg) (t p : Nat) (x : SpanSt) : (s.setSpanSt t p x).ref = s.ref := (rfl)
@[simp] theorem Pkg.setSpanSt_ksTile (s : Pkg) (t p : Nat) (x : SpanSt) : (s.setSpanSt t p x).ksTile = s.ksTile := (rfl)
@[simp] theorem Pkg.setSpanSt_ks (s : Pkg) (t p : Nat) (x : SpanSt) : (s.setSpanSt t p x).ks = s.ks := (rfl)
@[simp] theorem Pkg.setSpanSt_mode (s : Pkg) (t p : Nat) (x : SpanSt) : (s.setSpanSt t p x).mode = s.mode := (rfl)
@[simp] theorem Pkg.setSpanSt_sw (s : Pkg) (t p : Nat) (x : SpanSt) : (s.setSpanSt t p x).sw = s.sw := (rfl)
@[simp] theorem Pkg.setSpanSt_macKeys (s : Pkg) (t p : Nat) (x : SpanSt) : (s.setSpanSt t p x).macKeys = s.macKeys := (rfl)
@[simp] theorem Pkg.setSpanSt_trKeys (s : Pkg) (t p : Nat) (x : SpanSt) : (s.setSpanSt t p x).trKeys = s.trKeys := (rfl)
@[simp] theorem Pkg.setSpanSt_vault (s : Pkg) (t p : Nat) (x : SpanSt) : (s.setSpanSt t p x).vault = s.vault := (rfl)
@[simp] theorem Pkg.setSpanSt_lease (s : Pkg) (t p : Nat) (x : SpanSt) : (s.setSpanSt t p x).lease = s.lease := (rfl)
@[simp] theorem Pkg.setSpanSt_trestles (s : Pkg) (t p : Nat) (x : SpanSt) : (s.setSpanSt t p x).trestles = s.trestles := (rfl)
@[simp] theorem Pkg.setSpanSt_bus (s : Pkg) (t p : Nat) (x : SpanSt) : (s.setSpanSt t p x).bus = s.bus := (rfl)
@[simp] theorem Pkg.setSpanSt_nm (s : Pkg) (t p : Nat) (x : SpanSt) : (s.setSpanSt t p x).nm = s.nm := (rfl)
@[simp] theorem Pkg.setSpanSt_pnSeen (s : Pkg) (t p : Nat) (x : SpanSt) : (s.setSpanSt t p x).pnSeen = s.pnSeen := (rfl)
@[simp] theorem Pkg.setSpanSt_bridges (s : Pkg) (t p : Nat) (x : SpanSt) : (s.setSpanSt t p x).bridges = s.bridges := (rfl)
@[simp] theorem Pkg.setSpanSt_dma (s : Pkg) (t p : Nat) (x : SpanSt) : (s.setSpanSt t p x).dma = s.dma := (rfl)
@[simp] theorem Pkg.setSpanSt_pods (s : Pkg) (t p : Nat) (x : SpanSt) : (s.setSpanSt t p x).pods = s.pods := (rfl)
@[simp] theorem Pkg.setSpanSt_ckLow (s : Pkg) (t p : Nat) (x : SpanSt) : (s.setSpanSt t p x).ckLow = s.ckLow := (rfl)
@[simp] theorem Pkg.setSpanSt_grants (s : Pkg) (t p : Nat) (x : SpanSt) : (s.setSpanSt t p x).grants = s.grants := (rfl)
@[simp] theorem Pkg.setSpanSt_power (s : Pkg) (t p : Nat) (x : SpanSt) : (s.setSpanSt t p x).power = s.power := (rfl)
@[simp] theorem Pkg.setSpanSt_wake (s : Pkg) (t p : Nat) (x : SpanSt) : (s.setSpanSt t p x).wake = s.wake := (rfl)
@[simp] theorem Pkg.setSpanSt_clusters (s : Pkg) (t p : Nat) (x : SpanSt) : (s.setSpanSt t p x).clusters = s.clusters := (rfl)
@[simp] theorem Pkg.setSpanSt_cens (s : Pkg) (t p : Nat) (x : SpanSt) : (s.setSpanSt t p x).cens = s.cens := (rfl)
@[simp] theorem Pkg.setSpanSt_cenReq (s : Pkg) (t p : Nat) (x : SpanSt) : (s.setSpanSt t p x).cenReq = s.cenReq := (rfl)
@[simp] theorem Pkg.setSpanSt_jnl (s : Pkg) (t p : Nat) (x : SpanSt) : (s.setSpanSt t p x).jnl = s.jnl := (rfl)
@[simp] theorem Pkg.setSpanSt_keeper (s : Pkg) (t p : Nat) (x : SpanSt) : (s.setSpanSt t p x).keeper = s.keeper := (rfl)
@[simp] theorem Pkg.setSpanSt_boot (s : Pkg) (t p : Nat) (x : SpanSt) : (s.setSpanSt t p x).boot = s.boot := (rfl)
@[simp] theorem Pkg.setSpanSt_wipe (s : Pkg) (t p : Nat) (x : SpanSt) : (s.setSpanSt t p x).wipe = s.wipe := (rfl)
@[simp] theorem Pkg.setSpanSt_rd (s : Pkg) (t p : Nat) (x : SpanSt) (d2 o2 : Nat) : (s.setSpanSt t p x).rd d2 o2 = s.rd d2 o2 := (rfl)
@[simp] theorem Pkg.setSpanSt_get (s : Pkg) (t p : Nat) (x : SpanSt) (d2 : Nat) (f2 : Fld) : (s.setSpanSt t p x).get d2 f2 = s.get d2 f2 := (rfl)
@[simp] theorem Pkg.setSpanSt_on (s : Pkg) (t p : Nat) (x : SpanSt) (d2 : Nat) (f2 : Fld) : (s.setSpanSt t p x).on d2 f2 = s.on d2 f2 := (rfl)
@[simp] theorem Pkg.setSpanSt_cnt (s : Pkg) (t p : Nat) (x : SpanSt) (d2 o2 : Nat) : (s.setSpanSt t p x).cnt d2 o2 = s.cnt d2 o2 := (rfl)

/-! `Pkg.setTetherSt` changes only `tethers`. -/
@[simp] theorem Pkg.setTetherSt_variant (s : Pkg) (t : Nat) (x : TetherSt) : (s.setTetherSt t x).variant = s.variant := (rfl)
@[simp] theorem Pkg.setTetherSt_now (s : Pkg) (t : Nat) (x : TetherSt) : (s.setTetherSt t x).now = s.now := (rfl)
@[simp] theorem Pkg.setTetherSt_regs (s : Pkg) (t : Nat) (x : TetherSt) : (s.setTetherSt t x).regs = s.regs := (rfl)
@[simp] theorem Pkg.setTetherSt_shadow (s : Pkg) (t : Nat) (x : TetherSt) : (s.setTetherSt t x).shadow = s.shadow := (rfl)
@[simp] theorem Pkg.setTetherSt_ctr (s : Pkg) (t : Nat) (x : TetherSt) : (s.setTetherSt t x).ctr = s.ctr := (rfl)
@[simp] theorem Pkg.setTetherSt_latch (s : Pkg) (t : Nat) (x : TetherSt) : (s.setTetherSt t x).latch = s.latch := (rfl)
@[simp] theorem Pkg.setTetherSt_sets (s : Pkg) (t : Nat) (x : TetherSt) : (s.setTetherSt t x).sets = s.sets := (rfl)
@[simp] theorem Pkg.setTetherSt_coldNext (s : Pkg) (t : Nat) (x : TetherSt) : (s.setTetherSt t x).coldNext = s.coldNext := (rfl)
@[simp] theorem Pkg.setTetherSt_revs (s : Pkg) (t : Nat) (x : TetherSt) : (s.setTetherSt t x).revs = s.revs := (rfl)
@[simp] theorem Pkg.setTetherSt_out (s : Pkg) (t : Nat) (x : TetherSt) : (s.setTetherSt t x).out = s.out := (rfl)
@[simp] theorem Pkg.setTetherSt_fresh (s : Pkg) (t : Nat) (x : TetherSt) : (s.setTetherSt t x).fresh = s.fresh := (rfl)
@[simp] theorem Pkg.setTetherSt_msix (s : Pkg) (t : Nat) (x : TetherSt) : (s.setTetherSt t x).msix = s.msix := (rfl)
@[simp] theorem Pkg.setTetherSt_reqs (s : Pkg) (t : Nat) (x : TetherSt) : (s.setTetherSt t x).reqs = s.reqs := (rfl)
@[simp] theorem Pkg.setTetherSt_portQ (s : Pkg) (t : Nat) (x : TetherSt) : (s.setTetherSt t x).portQ = s.portQ := (rfl)
@[simp] theorem Pkg.setTetherSt_portTurn (s : Pkg) (t : Nat) (x : TetherSt) : (s.setTetherSt t x).portTurn = s.portTurn := (rfl)
@[simp] theorem Pkg.setTetherSt_spans (s : Pkg) (t : Nat) (x : TetherSt) : (s.setTetherSt t x).spans = s.spans := (rfl)
@[simp] theorem Pkg.setTetherSt_routes (s : Pkg) (t : Nat) (x : TetherSt) : (s.setTetherSt t x).routes = s.routes := (rfl)
@[simp] theorem Pkg.setTetherSt_ctrl (s : Pkg) (t : Nat) (x : TetherSt) : (s.setTetherSt t x).ctrl = s.ctrl := (rfl)
@[simp] theorem Pkg.setTetherSt_tether (s : Pkg) (t : Nat) (x : TetherSt) : (s.setTetherSt t x).tether = s.tether := (rfl)
@[simp] theorem Pkg.setTetherSt_clocks (s : Pkg) (t : Nat) (x : TetherSt) : (s.setTetherSt t x).clocks = s.clocks := (rfl)
@[simp] theorem Pkg.setTetherSt_ref (s : Pkg) (t : Nat) (x : TetherSt) : (s.setTetherSt t x).ref = s.ref := (rfl)
@[simp] theorem Pkg.setTetherSt_ksTile (s : Pkg) (t : Nat) (x : TetherSt) : (s.setTetherSt t x).ksTile = s.ksTile := (rfl)
@[simp] theorem Pkg.setTetherSt_ks (s : Pkg) (t : Nat) (x : TetherSt) : (s.setTetherSt t x).ks = s.ks := (rfl)
@[simp] theorem Pkg.setTetherSt_mode (s : Pkg) (t : Nat) (x : TetherSt) : (s.setTetherSt t x).mode = s.mode := (rfl)
@[simp] theorem Pkg.setTetherSt_sw (s : Pkg) (t : Nat) (x : TetherSt) : (s.setTetherSt t x).sw = s.sw := (rfl)
@[simp] theorem Pkg.setTetherSt_macKeys (s : Pkg) (t : Nat) (x : TetherSt) : (s.setTetherSt t x).macKeys = s.macKeys := (rfl)
@[simp] theorem Pkg.setTetherSt_trKeys (s : Pkg) (t : Nat) (x : TetherSt) : (s.setTetherSt t x).trKeys = s.trKeys := (rfl)
@[simp] theorem Pkg.setTetherSt_vault (s : Pkg) (t : Nat) (x : TetherSt) : (s.setTetherSt t x).vault = s.vault := (rfl)
@[simp] theorem Pkg.setTetherSt_lease (s : Pkg) (t : Nat) (x : TetherSt) : (s.setTetherSt t x).lease = s.lease := (rfl)
@[simp] theorem Pkg.setTetherSt_trestles (s : Pkg) (t : Nat) (x : TetherSt) : (s.setTetherSt t x).trestles = s.trestles := (rfl)
@[simp] theorem Pkg.setTetherSt_bus (s : Pkg) (t : Nat) (x : TetherSt) : (s.setTetherSt t x).bus = s.bus := (rfl)
@[simp] theorem Pkg.setTetherSt_nm (s : Pkg) (t : Nat) (x : TetherSt) : (s.setTetherSt t x).nm = s.nm := (rfl)
@[simp] theorem Pkg.setTetherSt_pnSeen (s : Pkg) (t : Nat) (x : TetherSt) : (s.setTetherSt t x).pnSeen = s.pnSeen := (rfl)
@[simp] theorem Pkg.setTetherSt_bridges (s : Pkg) (t : Nat) (x : TetherSt) : (s.setTetherSt t x).bridges = s.bridges := (rfl)
@[simp] theorem Pkg.setTetherSt_dma (s : Pkg) (t : Nat) (x : TetherSt) : (s.setTetherSt t x).dma = s.dma := (rfl)
@[simp] theorem Pkg.setTetherSt_pods (s : Pkg) (t : Nat) (x : TetherSt) : (s.setTetherSt t x).pods = s.pods := (rfl)
@[simp] theorem Pkg.setTetherSt_ckLow (s : Pkg) (t : Nat) (x : TetherSt) : (s.setTetherSt t x).ckLow = s.ckLow := (rfl)
@[simp] theorem Pkg.setTetherSt_grants (s : Pkg) (t : Nat) (x : TetherSt) : (s.setTetherSt t x).grants = s.grants := (rfl)
@[simp] theorem Pkg.setTetherSt_power (s : Pkg) (t : Nat) (x : TetherSt) : (s.setTetherSt t x).power = s.power := (rfl)
@[simp] theorem Pkg.setTetherSt_wake (s : Pkg) (t : Nat) (x : TetherSt) : (s.setTetherSt t x).wake = s.wake := (rfl)
@[simp] theorem Pkg.setTetherSt_clusters (s : Pkg) (t : Nat) (x : TetherSt) : (s.setTetherSt t x).clusters = s.clusters := (rfl)
@[simp] theorem Pkg.setTetherSt_cens (s : Pkg) (t : Nat) (x : TetherSt) : (s.setTetherSt t x).cens = s.cens := (rfl)
@[simp] theorem Pkg.setTetherSt_cenReq (s : Pkg) (t : Nat) (x : TetherSt) : (s.setTetherSt t x).cenReq = s.cenReq := (rfl)
@[simp] theorem Pkg.setTetherSt_jnl (s : Pkg) (t : Nat) (x : TetherSt) : (s.setTetherSt t x).jnl = s.jnl := (rfl)
@[simp] theorem Pkg.setTetherSt_keeper (s : Pkg) (t : Nat) (x : TetherSt) : (s.setTetherSt t x).keeper = s.keeper := (rfl)
@[simp] theorem Pkg.setTetherSt_boot (s : Pkg) (t : Nat) (x : TetherSt) : (s.setTetherSt t x).boot = s.boot := (rfl)
@[simp] theorem Pkg.setTetherSt_wipe (s : Pkg) (t : Nat) (x : TetherSt) : (s.setTetherSt t x).wipe = s.wipe := (rfl)
@[simp] theorem Pkg.setTetherSt_rd (s : Pkg) (t : Nat) (x : TetherSt) (d2 o2 : Nat) : (s.setTetherSt t x).rd d2 o2 = s.rd d2 o2 := (rfl)
@[simp] theorem Pkg.setTetherSt_get (s : Pkg) (t : Nat) (x : TetherSt) (d2 : Nat) (f2 : Fld) : (s.setTetherSt t x).get d2 f2 = s.get d2 f2 := (rfl)
@[simp] theorem Pkg.setTetherSt_on (s : Pkg) (t : Nat) (x : TetherSt) (d2 : Nat) (f2 : Fld) : (s.setTetherSt t x).on d2 f2 = s.on d2 f2 := (rfl)
@[simp] theorem Pkg.setTetherSt_cnt (s : Pkg) (t : Nat) (x : TetherSt) (d2 o2 : Nat) : (s.setTetherSt t x).cnt d2 o2 = s.cnt d2 o2 := (rfl)

/-! `Pkg.setClockSt` changes only `clocks`. -/
@[simp] theorem Pkg.setClockSt_variant (s : Pkg) (t : Nat) (x : ClockSt) : (s.setClockSt t x).variant = s.variant := (rfl)
@[simp] theorem Pkg.setClockSt_now (s : Pkg) (t : Nat) (x : ClockSt) : (s.setClockSt t x).now = s.now := (rfl)
@[simp] theorem Pkg.setClockSt_regs (s : Pkg) (t : Nat) (x : ClockSt) : (s.setClockSt t x).regs = s.regs := (rfl)
@[simp] theorem Pkg.setClockSt_shadow (s : Pkg) (t : Nat) (x : ClockSt) : (s.setClockSt t x).shadow = s.shadow := (rfl)
@[simp] theorem Pkg.setClockSt_ctr (s : Pkg) (t : Nat) (x : ClockSt) : (s.setClockSt t x).ctr = s.ctr := (rfl)
@[simp] theorem Pkg.setClockSt_latch (s : Pkg) (t : Nat) (x : ClockSt) : (s.setClockSt t x).latch = s.latch := (rfl)
@[simp] theorem Pkg.setClockSt_sets (s : Pkg) (t : Nat) (x : ClockSt) : (s.setClockSt t x).sets = s.sets := (rfl)
@[simp] theorem Pkg.setClockSt_coldNext (s : Pkg) (t : Nat) (x : ClockSt) : (s.setClockSt t x).coldNext = s.coldNext := (rfl)
@[simp] theorem Pkg.setClockSt_revs (s : Pkg) (t : Nat) (x : ClockSt) : (s.setClockSt t x).revs = s.revs := (rfl)
@[simp] theorem Pkg.setClockSt_out (s : Pkg) (t : Nat) (x : ClockSt) : (s.setClockSt t x).out = s.out := (rfl)
@[simp] theorem Pkg.setClockSt_fresh (s : Pkg) (t : Nat) (x : ClockSt) : (s.setClockSt t x).fresh = s.fresh := (rfl)
@[simp] theorem Pkg.setClockSt_msix (s : Pkg) (t : Nat) (x : ClockSt) : (s.setClockSt t x).msix = s.msix := (rfl)
@[simp] theorem Pkg.setClockSt_reqs (s : Pkg) (t : Nat) (x : ClockSt) : (s.setClockSt t x).reqs = s.reqs := (rfl)
@[simp] theorem Pkg.setClockSt_portQ (s : Pkg) (t : Nat) (x : ClockSt) : (s.setClockSt t x).portQ = s.portQ := (rfl)
@[simp] theorem Pkg.setClockSt_portTurn (s : Pkg) (t : Nat) (x : ClockSt) : (s.setClockSt t x).portTurn = s.portTurn := (rfl)
@[simp] theorem Pkg.setClockSt_spans (s : Pkg) (t : Nat) (x : ClockSt) : (s.setClockSt t x).spans = s.spans := (rfl)
@[simp] theorem Pkg.setClockSt_routes (s : Pkg) (t : Nat) (x : ClockSt) : (s.setClockSt t x).routes = s.routes := (rfl)
@[simp] theorem Pkg.setClockSt_ctrl (s : Pkg) (t : Nat) (x : ClockSt) : (s.setClockSt t x).ctrl = s.ctrl := (rfl)
@[simp] theorem Pkg.setClockSt_tethers (s : Pkg) (t : Nat) (x : ClockSt) : (s.setClockSt t x).tethers = s.tethers := (rfl)
@[simp] theorem Pkg.setClockSt_tether (s : Pkg) (t : Nat) (x : ClockSt) : (s.setClockSt t x).tether = s.tether := (rfl)
@[simp] theorem Pkg.setClockSt_ref (s : Pkg) (t : Nat) (x : ClockSt) : (s.setClockSt t x).ref = s.ref := (rfl)
@[simp] theorem Pkg.setClockSt_ksTile (s : Pkg) (t : Nat) (x : ClockSt) : (s.setClockSt t x).ksTile = s.ksTile := (rfl)
@[simp] theorem Pkg.setClockSt_ks (s : Pkg) (t : Nat) (x : ClockSt) : (s.setClockSt t x).ks = s.ks := (rfl)
@[simp] theorem Pkg.setClockSt_mode (s : Pkg) (t : Nat) (x : ClockSt) : (s.setClockSt t x).mode = s.mode := (rfl)
@[simp] theorem Pkg.setClockSt_sw (s : Pkg) (t : Nat) (x : ClockSt) : (s.setClockSt t x).sw = s.sw := (rfl)
@[simp] theorem Pkg.setClockSt_macKeys (s : Pkg) (t : Nat) (x : ClockSt) : (s.setClockSt t x).macKeys = s.macKeys := (rfl)
@[simp] theorem Pkg.setClockSt_trKeys (s : Pkg) (t : Nat) (x : ClockSt) : (s.setClockSt t x).trKeys = s.trKeys := (rfl)
@[simp] theorem Pkg.setClockSt_vault (s : Pkg) (t : Nat) (x : ClockSt) : (s.setClockSt t x).vault = s.vault := (rfl)
@[simp] theorem Pkg.setClockSt_lease (s : Pkg) (t : Nat) (x : ClockSt) : (s.setClockSt t x).lease = s.lease := (rfl)
@[simp] theorem Pkg.setClockSt_trestles (s : Pkg) (t : Nat) (x : ClockSt) : (s.setClockSt t x).trestles = s.trestles := (rfl)
@[simp] theorem Pkg.setClockSt_bus (s : Pkg) (t : Nat) (x : ClockSt) : (s.setClockSt t x).bus = s.bus := (rfl)
@[simp] theorem Pkg.setClockSt_nm (s : Pkg) (t : Nat) (x : ClockSt) : (s.setClockSt t x).nm = s.nm := (rfl)
@[simp] theorem Pkg.setClockSt_pnSeen (s : Pkg) (t : Nat) (x : ClockSt) : (s.setClockSt t x).pnSeen = s.pnSeen := (rfl)
@[simp] theorem Pkg.setClockSt_bridges (s : Pkg) (t : Nat) (x : ClockSt) : (s.setClockSt t x).bridges = s.bridges := (rfl)
@[simp] theorem Pkg.setClockSt_dma (s : Pkg) (t : Nat) (x : ClockSt) : (s.setClockSt t x).dma = s.dma := (rfl)
@[simp] theorem Pkg.setClockSt_pods (s : Pkg) (t : Nat) (x : ClockSt) : (s.setClockSt t x).pods = s.pods := (rfl)
@[simp] theorem Pkg.setClockSt_ckLow (s : Pkg) (t : Nat) (x : ClockSt) : (s.setClockSt t x).ckLow = s.ckLow := (rfl)
@[simp] theorem Pkg.setClockSt_grants (s : Pkg) (t : Nat) (x : ClockSt) : (s.setClockSt t x).grants = s.grants := (rfl)
@[simp] theorem Pkg.setClockSt_power (s : Pkg) (t : Nat) (x : ClockSt) : (s.setClockSt t x).power = s.power := (rfl)
@[simp] theorem Pkg.setClockSt_wake (s : Pkg) (t : Nat) (x : ClockSt) : (s.setClockSt t x).wake = s.wake := (rfl)
@[simp] theorem Pkg.setClockSt_clusters (s : Pkg) (t : Nat) (x : ClockSt) : (s.setClockSt t x).clusters = s.clusters := (rfl)
@[simp] theorem Pkg.setClockSt_cens (s : Pkg) (t : Nat) (x : ClockSt) : (s.setClockSt t x).cens = s.cens := (rfl)
@[simp] theorem Pkg.setClockSt_cenReq (s : Pkg) (t : Nat) (x : ClockSt) : (s.setClockSt t x).cenReq = s.cenReq := (rfl)
@[simp] theorem Pkg.setClockSt_jnl (s : Pkg) (t : Nat) (x : ClockSt) : (s.setClockSt t x).jnl = s.jnl := (rfl)
@[simp] theorem Pkg.setClockSt_keeper (s : Pkg) (t : Nat) (x : ClockSt) : (s.setClockSt t x).keeper = s.keeper := (rfl)
@[simp] theorem Pkg.setClockSt_boot (s : Pkg) (t : Nat) (x : ClockSt) : (s.setClockSt t x).boot = s.boot := (rfl)
@[simp] theorem Pkg.setClockSt_wipe (s : Pkg) (t : Nat) (x : ClockSt) : (s.setClockSt t x).wipe = s.wipe := (rfl)
@[simp] theorem Pkg.setClockSt_rd (s : Pkg) (t : Nat) (x : ClockSt) (d2 o2 : Nat) : (s.setClockSt t x).rd d2 o2 = s.rd d2 o2 := (rfl)
@[simp] theorem Pkg.setClockSt_get (s : Pkg) (t : Nat) (x : ClockSt) (d2 : Nat) (f2 : Fld) : (s.setClockSt t x).get d2 f2 = s.get d2 f2 := (rfl)
@[simp] theorem Pkg.setClockSt_on (s : Pkg) (t : Nat) (x : ClockSt) (d2 : Nat) (f2 : Fld) : (s.setClockSt t x).on d2 f2 = s.on d2 f2 := (rfl)
@[simp] theorem Pkg.setClockSt_cnt (s : Pkg) (t : Nat) (x : ClockSt) (d2 o2 : Nat) : (s.setClockSt t x).cnt d2 o2 = s.cnt d2 o2 := (rfl)

/-! `Pkg.setKsT` changes only `ksTile`. -/
@[simp] theorem Pkg.setKsT_variant (s : Pkg) (t : Nat) (x : KsTile) : (s.setKsT t x).variant = s.variant := (rfl)
@[simp] theorem Pkg.setKsT_now (s : Pkg) (t : Nat) (x : KsTile) : (s.setKsT t x).now = s.now := (rfl)
@[simp] theorem Pkg.setKsT_regs (s : Pkg) (t : Nat) (x : KsTile) : (s.setKsT t x).regs = s.regs := (rfl)
@[simp] theorem Pkg.setKsT_shadow (s : Pkg) (t : Nat) (x : KsTile) : (s.setKsT t x).shadow = s.shadow := (rfl)
@[simp] theorem Pkg.setKsT_ctr (s : Pkg) (t : Nat) (x : KsTile) : (s.setKsT t x).ctr = s.ctr := (rfl)
@[simp] theorem Pkg.setKsT_latch (s : Pkg) (t : Nat) (x : KsTile) : (s.setKsT t x).latch = s.latch := (rfl)
@[simp] theorem Pkg.setKsT_sets (s : Pkg) (t : Nat) (x : KsTile) : (s.setKsT t x).sets = s.sets := (rfl)
@[simp] theorem Pkg.setKsT_coldNext (s : Pkg) (t : Nat) (x : KsTile) : (s.setKsT t x).coldNext = s.coldNext := (rfl)
@[simp] theorem Pkg.setKsT_revs (s : Pkg) (t : Nat) (x : KsTile) : (s.setKsT t x).revs = s.revs := (rfl)
@[simp] theorem Pkg.setKsT_out (s : Pkg) (t : Nat) (x : KsTile) : (s.setKsT t x).out = s.out := (rfl)
@[simp] theorem Pkg.setKsT_fresh (s : Pkg) (t : Nat) (x : KsTile) : (s.setKsT t x).fresh = s.fresh := (rfl)
@[simp] theorem Pkg.setKsT_msix (s : Pkg) (t : Nat) (x : KsTile) : (s.setKsT t x).msix = s.msix := (rfl)
@[simp] theorem Pkg.setKsT_reqs (s : Pkg) (t : Nat) (x : KsTile) : (s.setKsT t x).reqs = s.reqs := (rfl)
@[simp] theorem Pkg.setKsT_portQ (s : Pkg) (t : Nat) (x : KsTile) : (s.setKsT t x).portQ = s.portQ := (rfl)
@[simp] theorem Pkg.setKsT_portTurn (s : Pkg) (t : Nat) (x : KsTile) : (s.setKsT t x).portTurn = s.portTurn := (rfl)
@[simp] theorem Pkg.setKsT_spans (s : Pkg) (t : Nat) (x : KsTile) : (s.setKsT t x).spans = s.spans := (rfl)
@[simp] theorem Pkg.setKsT_routes (s : Pkg) (t : Nat) (x : KsTile) : (s.setKsT t x).routes = s.routes := (rfl)
@[simp] theorem Pkg.setKsT_ctrl (s : Pkg) (t : Nat) (x : KsTile) : (s.setKsT t x).ctrl = s.ctrl := (rfl)
@[simp] theorem Pkg.setKsT_tethers (s : Pkg) (t : Nat) (x : KsTile) : (s.setKsT t x).tethers = s.tethers := (rfl)
@[simp] theorem Pkg.setKsT_tether (s : Pkg) (t : Nat) (x : KsTile) : (s.setKsT t x).tether = s.tether := (rfl)
@[simp] theorem Pkg.setKsT_clocks (s : Pkg) (t : Nat) (x : KsTile) : (s.setKsT t x).clocks = s.clocks := (rfl)
@[simp] theorem Pkg.setKsT_ref (s : Pkg) (t : Nat) (x : KsTile) : (s.setKsT t x).ref = s.ref := (rfl)
@[simp] theorem Pkg.setKsT_ks (s : Pkg) (t : Nat) (x : KsTile) : (s.setKsT t x).ks = s.ks := (rfl)
@[simp] theorem Pkg.setKsT_mode (s : Pkg) (t : Nat) (x : KsTile) : (s.setKsT t x).mode = s.mode := (rfl)
@[simp] theorem Pkg.setKsT_sw (s : Pkg) (t : Nat) (x : KsTile) : (s.setKsT t x).sw = s.sw := (rfl)
@[simp] theorem Pkg.setKsT_macKeys (s : Pkg) (t : Nat) (x : KsTile) : (s.setKsT t x).macKeys = s.macKeys := (rfl)
@[simp] theorem Pkg.setKsT_trKeys (s : Pkg) (t : Nat) (x : KsTile) : (s.setKsT t x).trKeys = s.trKeys := (rfl)
@[simp] theorem Pkg.setKsT_vault (s : Pkg) (t : Nat) (x : KsTile) : (s.setKsT t x).vault = s.vault := (rfl)
@[simp] theorem Pkg.setKsT_lease (s : Pkg) (t : Nat) (x : KsTile) : (s.setKsT t x).lease = s.lease := (rfl)
@[simp] theorem Pkg.setKsT_trestles (s : Pkg) (t : Nat) (x : KsTile) : (s.setKsT t x).trestles = s.trestles := (rfl)
@[simp] theorem Pkg.setKsT_bus (s : Pkg) (t : Nat) (x : KsTile) : (s.setKsT t x).bus = s.bus := (rfl)
@[simp] theorem Pkg.setKsT_nm (s : Pkg) (t : Nat) (x : KsTile) : (s.setKsT t x).nm = s.nm := (rfl)
@[simp] theorem Pkg.setKsT_pnSeen (s : Pkg) (t : Nat) (x : KsTile) : (s.setKsT t x).pnSeen = s.pnSeen := (rfl)
@[simp] theorem Pkg.setKsT_bridges (s : Pkg) (t : Nat) (x : KsTile) : (s.setKsT t x).bridges = s.bridges := (rfl)
@[simp] theorem Pkg.setKsT_dma (s : Pkg) (t : Nat) (x : KsTile) : (s.setKsT t x).dma = s.dma := (rfl)
@[simp] theorem Pkg.setKsT_pods (s : Pkg) (t : Nat) (x : KsTile) : (s.setKsT t x).pods = s.pods := (rfl)
@[simp] theorem Pkg.setKsT_ckLow (s : Pkg) (t : Nat) (x : KsTile) : (s.setKsT t x).ckLow = s.ckLow := (rfl)
@[simp] theorem Pkg.setKsT_grants (s : Pkg) (t : Nat) (x : KsTile) : (s.setKsT t x).grants = s.grants := (rfl)
@[simp] theorem Pkg.setKsT_power (s : Pkg) (t : Nat) (x : KsTile) : (s.setKsT t x).power = s.power := (rfl)
@[simp] theorem Pkg.setKsT_wake (s : Pkg) (t : Nat) (x : KsTile) : (s.setKsT t x).wake = s.wake := (rfl)
@[simp] theorem Pkg.setKsT_clusters (s : Pkg) (t : Nat) (x : KsTile) : (s.setKsT t x).clusters = s.clusters := (rfl)
@[simp] theorem Pkg.setKsT_cens (s : Pkg) (t : Nat) (x : KsTile) : (s.setKsT t x).cens = s.cens := (rfl)
@[simp] theorem Pkg.setKsT_cenReq (s : Pkg) (t : Nat) (x : KsTile) : (s.setKsT t x).cenReq = s.cenReq := (rfl)
@[simp] theorem Pkg.setKsT_jnl (s : Pkg) (t : Nat) (x : KsTile) : (s.setKsT t x).jnl = s.jnl := (rfl)
@[simp] theorem Pkg.setKsT_keeper (s : Pkg) (t : Nat) (x : KsTile) : (s.setKsT t x).keeper = s.keeper := (rfl)
@[simp] theorem Pkg.setKsT_boot (s : Pkg) (t : Nat) (x : KsTile) : (s.setKsT t x).boot = s.boot := (rfl)
@[simp] theorem Pkg.setKsT_wipe (s : Pkg) (t : Nat) (x : KsTile) : (s.setKsT t x).wipe = s.wipe := (rfl)
@[simp] theorem Pkg.setKsT_rd (s : Pkg) (t : Nat) (x : KsTile) (d2 o2 : Nat) : (s.setKsT t x).rd d2 o2 = s.rd d2 o2 := (rfl)
@[simp] theorem Pkg.setKsT_get (s : Pkg) (t : Nat) (x : KsTile) (d2 : Nat) (f2 : Fld) : (s.setKsT t x).get d2 f2 = s.get d2 f2 := (rfl)
@[simp] theorem Pkg.setKsT_on (s : Pkg) (t : Nat) (x : KsTile) (d2 : Nat) (f2 : Fld) : (s.setKsT t x).on d2 f2 = s.on d2 f2 := (rfl)
@[simp] theorem Pkg.setKsT_cnt (s : Pkg) (t : Nat) (x : KsTile) (d2 o2 : Nat) : (s.setKsT t x).cnt d2 o2 = s.cnt d2 o2 := (rfl)

/-! `Pkg.setQueueAt` changes only `portQ`. -/
@[simp] theorem Pkg.setQueueAt_variant (s : Pkg) (t : Nat) (x : List HeldAcc) : (s.setQueueAt t x).variant = s.variant := (rfl)
@[simp] theorem Pkg.setQueueAt_now (s : Pkg) (t : Nat) (x : List HeldAcc) : (s.setQueueAt t x).now = s.now := (rfl)
@[simp] theorem Pkg.setQueueAt_regs (s : Pkg) (t : Nat) (x : List HeldAcc) : (s.setQueueAt t x).regs = s.regs := (rfl)
@[simp] theorem Pkg.setQueueAt_shadow (s : Pkg) (t : Nat) (x : List HeldAcc) : (s.setQueueAt t x).shadow = s.shadow := (rfl)
@[simp] theorem Pkg.setQueueAt_ctr (s : Pkg) (t : Nat) (x : List HeldAcc) : (s.setQueueAt t x).ctr = s.ctr := (rfl)
@[simp] theorem Pkg.setQueueAt_latch (s : Pkg) (t : Nat) (x : List HeldAcc) : (s.setQueueAt t x).latch = s.latch := (rfl)
@[simp] theorem Pkg.setQueueAt_sets (s : Pkg) (t : Nat) (x : List HeldAcc) : (s.setQueueAt t x).sets = s.sets := (rfl)
@[simp] theorem Pkg.setQueueAt_coldNext (s : Pkg) (t : Nat) (x : List HeldAcc) : (s.setQueueAt t x).coldNext = s.coldNext := (rfl)
@[simp] theorem Pkg.setQueueAt_revs (s : Pkg) (t : Nat) (x : List HeldAcc) : (s.setQueueAt t x).revs = s.revs := (rfl)
@[simp] theorem Pkg.setQueueAt_out (s : Pkg) (t : Nat) (x : List HeldAcc) : (s.setQueueAt t x).out = s.out := (rfl)
@[simp] theorem Pkg.setQueueAt_fresh (s : Pkg) (t : Nat) (x : List HeldAcc) : (s.setQueueAt t x).fresh = s.fresh := (rfl)
@[simp] theorem Pkg.setQueueAt_msix (s : Pkg) (t : Nat) (x : List HeldAcc) : (s.setQueueAt t x).msix = s.msix := (rfl)
@[simp] theorem Pkg.setQueueAt_reqs (s : Pkg) (t : Nat) (x : List HeldAcc) : (s.setQueueAt t x).reqs = s.reqs := (rfl)
@[simp] theorem Pkg.setQueueAt_portTurn (s : Pkg) (t : Nat) (x : List HeldAcc) : (s.setQueueAt t x).portTurn = s.portTurn := (rfl)
@[simp] theorem Pkg.setQueueAt_spans (s : Pkg) (t : Nat) (x : List HeldAcc) : (s.setQueueAt t x).spans = s.spans := (rfl)
@[simp] theorem Pkg.setQueueAt_routes (s : Pkg) (t : Nat) (x : List HeldAcc) : (s.setQueueAt t x).routes = s.routes := (rfl)
@[simp] theorem Pkg.setQueueAt_ctrl (s : Pkg) (t : Nat) (x : List HeldAcc) : (s.setQueueAt t x).ctrl = s.ctrl := (rfl)
@[simp] theorem Pkg.setQueueAt_tethers (s : Pkg) (t : Nat) (x : List HeldAcc) : (s.setQueueAt t x).tethers = s.tethers := (rfl)
@[simp] theorem Pkg.setQueueAt_tether (s : Pkg) (t : Nat) (x : List HeldAcc) : (s.setQueueAt t x).tether = s.tether := (rfl)
@[simp] theorem Pkg.setQueueAt_clocks (s : Pkg) (t : Nat) (x : List HeldAcc) : (s.setQueueAt t x).clocks = s.clocks := (rfl)
@[simp] theorem Pkg.setQueueAt_ref (s : Pkg) (t : Nat) (x : List HeldAcc) : (s.setQueueAt t x).ref = s.ref := (rfl)
@[simp] theorem Pkg.setQueueAt_ksTile (s : Pkg) (t : Nat) (x : List HeldAcc) : (s.setQueueAt t x).ksTile = s.ksTile := (rfl)
@[simp] theorem Pkg.setQueueAt_ks (s : Pkg) (t : Nat) (x : List HeldAcc) : (s.setQueueAt t x).ks = s.ks := (rfl)
@[simp] theorem Pkg.setQueueAt_mode (s : Pkg) (t : Nat) (x : List HeldAcc) : (s.setQueueAt t x).mode = s.mode := (rfl)
@[simp] theorem Pkg.setQueueAt_sw (s : Pkg) (t : Nat) (x : List HeldAcc) : (s.setQueueAt t x).sw = s.sw := (rfl)
@[simp] theorem Pkg.setQueueAt_macKeys (s : Pkg) (t : Nat) (x : List HeldAcc) : (s.setQueueAt t x).macKeys = s.macKeys := (rfl)
@[simp] theorem Pkg.setQueueAt_trKeys (s : Pkg) (t : Nat) (x : List HeldAcc) : (s.setQueueAt t x).trKeys = s.trKeys := (rfl)
@[simp] theorem Pkg.setQueueAt_vault (s : Pkg) (t : Nat) (x : List HeldAcc) : (s.setQueueAt t x).vault = s.vault := (rfl)
@[simp] theorem Pkg.setQueueAt_lease (s : Pkg) (t : Nat) (x : List HeldAcc) : (s.setQueueAt t x).lease = s.lease := (rfl)
@[simp] theorem Pkg.setQueueAt_trestles (s : Pkg) (t : Nat) (x : List HeldAcc) : (s.setQueueAt t x).trestles = s.trestles := (rfl)
@[simp] theorem Pkg.setQueueAt_bus (s : Pkg) (t : Nat) (x : List HeldAcc) : (s.setQueueAt t x).bus = s.bus := (rfl)
@[simp] theorem Pkg.setQueueAt_nm (s : Pkg) (t : Nat) (x : List HeldAcc) : (s.setQueueAt t x).nm = s.nm := (rfl)
@[simp] theorem Pkg.setQueueAt_pnSeen (s : Pkg) (t : Nat) (x : List HeldAcc) : (s.setQueueAt t x).pnSeen = s.pnSeen := (rfl)
@[simp] theorem Pkg.setQueueAt_bridges (s : Pkg) (t : Nat) (x : List HeldAcc) : (s.setQueueAt t x).bridges = s.bridges := (rfl)
@[simp] theorem Pkg.setQueueAt_dma (s : Pkg) (t : Nat) (x : List HeldAcc) : (s.setQueueAt t x).dma = s.dma := (rfl)
@[simp] theorem Pkg.setQueueAt_pods (s : Pkg) (t : Nat) (x : List HeldAcc) : (s.setQueueAt t x).pods = s.pods := (rfl)
@[simp] theorem Pkg.setQueueAt_ckLow (s : Pkg) (t : Nat) (x : List HeldAcc) : (s.setQueueAt t x).ckLow = s.ckLow := (rfl)
@[simp] theorem Pkg.setQueueAt_grants (s : Pkg) (t : Nat) (x : List HeldAcc) : (s.setQueueAt t x).grants = s.grants := (rfl)
@[simp] theorem Pkg.setQueueAt_power (s : Pkg) (t : Nat) (x : List HeldAcc) : (s.setQueueAt t x).power = s.power := (rfl)
@[simp] theorem Pkg.setQueueAt_wake (s : Pkg) (t : Nat) (x : List HeldAcc) : (s.setQueueAt t x).wake = s.wake := (rfl)
@[simp] theorem Pkg.setQueueAt_clusters (s : Pkg) (t : Nat) (x : List HeldAcc) : (s.setQueueAt t x).clusters = s.clusters := (rfl)
@[simp] theorem Pkg.setQueueAt_cens (s : Pkg) (t : Nat) (x : List HeldAcc) : (s.setQueueAt t x).cens = s.cens := (rfl)
@[simp] theorem Pkg.setQueueAt_cenReq (s : Pkg) (t : Nat) (x : List HeldAcc) : (s.setQueueAt t x).cenReq = s.cenReq := (rfl)
@[simp] theorem Pkg.setQueueAt_jnl (s : Pkg) (t : Nat) (x : List HeldAcc) : (s.setQueueAt t x).jnl = s.jnl := (rfl)
@[simp] theorem Pkg.setQueueAt_keeper (s : Pkg) (t : Nat) (x : List HeldAcc) : (s.setQueueAt t x).keeper = s.keeper := (rfl)
@[simp] theorem Pkg.setQueueAt_boot (s : Pkg) (t : Nat) (x : List HeldAcc) : (s.setQueueAt t x).boot = s.boot := (rfl)
@[simp] theorem Pkg.setQueueAt_wipe (s : Pkg) (t : Nat) (x : List HeldAcc) : (s.setQueueAt t x).wipe = s.wipe := (rfl)
@[simp] theorem Pkg.setQueueAt_rd (s : Pkg) (t : Nat) (x : List HeldAcc) (d2 o2 : Nat) : (s.setQueueAt t x).rd d2 o2 = s.rd d2 o2 := (rfl)
@[simp] theorem Pkg.setQueueAt_get (s : Pkg) (t : Nat) (x : List HeldAcc) (d2 : Nat) (f2 : Fld) : (s.setQueueAt t x).get d2 f2 = s.get d2 f2 := (rfl)
@[simp] theorem Pkg.setQueueAt_on (s : Pkg) (t : Nat) (x : List HeldAcc) (d2 : Nat) (f2 : Fld) : (s.setQueueAt t x).on d2 f2 = s.on d2 f2 := (rfl)
@[simp] theorem Pkg.setQueueAt_cnt (s : Pkg) (t : Nat) (x : List HeldAcc) (d2 o2 : Nat) : (s.setQueueAt t x).cnt d2 o2 = s.cnt d2 o2 := (rfl)

/-! `Pkg.setLeaseSt` changes only `lease`. -/
@[simp] theorem Pkg.setLeaseSt_variant (s : Pkg) (t : Nat) (x : LeaseSt) : (s.setLeaseSt t x).variant = s.variant := (rfl)
@[simp] theorem Pkg.setLeaseSt_now (s : Pkg) (t : Nat) (x : LeaseSt) : (s.setLeaseSt t x).now = s.now := (rfl)
@[simp] theorem Pkg.setLeaseSt_regs (s : Pkg) (t : Nat) (x : LeaseSt) : (s.setLeaseSt t x).regs = s.regs := (rfl)
@[simp] theorem Pkg.setLeaseSt_shadow (s : Pkg) (t : Nat) (x : LeaseSt) : (s.setLeaseSt t x).shadow = s.shadow := (rfl)
@[simp] theorem Pkg.setLeaseSt_ctr (s : Pkg) (t : Nat) (x : LeaseSt) : (s.setLeaseSt t x).ctr = s.ctr := (rfl)
@[simp] theorem Pkg.setLeaseSt_latch (s : Pkg) (t : Nat) (x : LeaseSt) : (s.setLeaseSt t x).latch = s.latch := (rfl)
@[simp] theorem Pkg.setLeaseSt_sets (s : Pkg) (t : Nat) (x : LeaseSt) : (s.setLeaseSt t x).sets = s.sets := (rfl)
@[simp] theorem Pkg.setLeaseSt_coldNext (s : Pkg) (t : Nat) (x : LeaseSt) : (s.setLeaseSt t x).coldNext = s.coldNext := (rfl)
@[simp] theorem Pkg.setLeaseSt_revs (s : Pkg) (t : Nat) (x : LeaseSt) : (s.setLeaseSt t x).revs = s.revs := (rfl)
@[simp] theorem Pkg.setLeaseSt_out (s : Pkg) (t : Nat) (x : LeaseSt) : (s.setLeaseSt t x).out = s.out := (rfl)
@[simp] theorem Pkg.setLeaseSt_fresh (s : Pkg) (t : Nat) (x : LeaseSt) : (s.setLeaseSt t x).fresh = s.fresh := (rfl)
@[simp] theorem Pkg.setLeaseSt_msix (s : Pkg) (t : Nat) (x : LeaseSt) : (s.setLeaseSt t x).msix = s.msix := (rfl)
@[simp] theorem Pkg.setLeaseSt_reqs (s : Pkg) (t : Nat) (x : LeaseSt) : (s.setLeaseSt t x).reqs = s.reqs := (rfl)
@[simp] theorem Pkg.setLeaseSt_portQ (s : Pkg) (t : Nat) (x : LeaseSt) : (s.setLeaseSt t x).portQ = s.portQ := (rfl)
@[simp] theorem Pkg.setLeaseSt_portTurn (s : Pkg) (t : Nat) (x : LeaseSt) : (s.setLeaseSt t x).portTurn = s.portTurn := (rfl)
@[simp] theorem Pkg.setLeaseSt_spans (s : Pkg) (t : Nat) (x : LeaseSt) : (s.setLeaseSt t x).spans = s.spans := (rfl)
@[simp] theorem Pkg.setLeaseSt_routes (s : Pkg) (t : Nat) (x : LeaseSt) : (s.setLeaseSt t x).routes = s.routes := (rfl)
@[simp] theorem Pkg.setLeaseSt_ctrl (s : Pkg) (t : Nat) (x : LeaseSt) : (s.setLeaseSt t x).ctrl = s.ctrl := (rfl)
@[simp] theorem Pkg.setLeaseSt_tethers (s : Pkg) (t : Nat) (x : LeaseSt) : (s.setLeaseSt t x).tethers = s.tethers := (rfl)
@[simp] theorem Pkg.setLeaseSt_tether (s : Pkg) (t : Nat) (x : LeaseSt) : (s.setLeaseSt t x).tether = s.tether := (rfl)
@[simp] theorem Pkg.setLeaseSt_clocks (s : Pkg) (t : Nat) (x : LeaseSt) : (s.setLeaseSt t x).clocks = s.clocks := (rfl)
@[simp] theorem Pkg.setLeaseSt_ref (s : Pkg) (t : Nat) (x : LeaseSt) : (s.setLeaseSt t x).ref = s.ref := (rfl)
@[simp] theorem Pkg.setLeaseSt_ksTile (s : Pkg) (t : Nat) (x : LeaseSt) : (s.setLeaseSt t x).ksTile = s.ksTile := (rfl)
@[simp] theorem Pkg.setLeaseSt_ks (s : Pkg) (t : Nat) (x : LeaseSt) : (s.setLeaseSt t x).ks = s.ks := (rfl)
@[simp] theorem Pkg.setLeaseSt_mode (s : Pkg) (t : Nat) (x : LeaseSt) : (s.setLeaseSt t x).mode = s.mode := (rfl)
@[simp] theorem Pkg.setLeaseSt_sw (s : Pkg) (t : Nat) (x : LeaseSt) : (s.setLeaseSt t x).sw = s.sw := (rfl)
@[simp] theorem Pkg.setLeaseSt_macKeys (s : Pkg) (t : Nat) (x : LeaseSt) : (s.setLeaseSt t x).macKeys = s.macKeys := (rfl)
@[simp] theorem Pkg.setLeaseSt_trKeys (s : Pkg) (t : Nat) (x : LeaseSt) : (s.setLeaseSt t x).trKeys = s.trKeys := (rfl)
@[simp] theorem Pkg.setLeaseSt_vault (s : Pkg) (t : Nat) (x : LeaseSt) : (s.setLeaseSt t x).vault = s.vault := (rfl)
@[simp] theorem Pkg.setLeaseSt_trestles (s : Pkg) (t : Nat) (x : LeaseSt) : (s.setLeaseSt t x).trestles = s.trestles := (rfl)
@[simp] theorem Pkg.setLeaseSt_bus (s : Pkg) (t : Nat) (x : LeaseSt) : (s.setLeaseSt t x).bus = s.bus := (rfl)
@[simp] theorem Pkg.setLeaseSt_nm (s : Pkg) (t : Nat) (x : LeaseSt) : (s.setLeaseSt t x).nm = s.nm := (rfl)
@[simp] theorem Pkg.setLeaseSt_pnSeen (s : Pkg) (t : Nat) (x : LeaseSt) : (s.setLeaseSt t x).pnSeen = s.pnSeen := (rfl)
@[simp] theorem Pkg.setLeaseSt_bridges (s : Pkg) (t : Nat) (x : LeaseSt) : (s.setLeaseSt t x).bridges = s.bridges := (rfl)
@[simp] theorem Pkg.setLeaseSt_dma (s : Pkg) (t : Nat) (x : LeaseSt) : (s.setLeaseSt t x).dma = s.dma := (rfl)
@[simp] theorem Pkg.setLeaseSt_pods (s : Pkg) (t : Nat) (x : LeaseSt) : (s.setLeaseSt t x).pods = s.pods := (rfl)
@[simp] theorem Pkg.setLeaseSt_ckLow (s : Pkg) (t : Nat) (x : LeaseSt) : (s.setLeaseSt t x).ckLow = s.ckLow := (rfl)
@[simp] theorem Pkg.setLeaseSt_grants (s : Pkg) (t : Nat) (x : LeaseSt) : (s.setLeaseSt t x).grants = s.grants := (rfl)
@[simp] theorem Pkg.setLeaseSt_power (s : Pkg) (t : Nat) (x : LeaseSt) : (s.setLeaseSt t x).power = s.power := (rfl)
@[simp] theorem Pkg.setLeaseSt_wake (s : Pkg) (t : Nat) (x : LeaseSt) : (s.setLeaseSt t x).wake = s.wake := (rfl)
@[simp] theorem Pkg.setLeaseSt_clusters (s : Pkg) (t : Nat) (x : LeaseSt) : (s.setLeaseSt t x).clusters = s.clusters := (rfl)
@[simp] theorem Pkg.setLeaseSt_cens (s : Pkg) (t : Nat) (x : LeaseSt) : (s.setLeaseSt t x).cens = s.cens := (rfl)
@[simp] theorem Pkg.setLeaseSt_cenReq (s : Pkg) (t : Nat) (x : LeaseSt) : (s.setLeaseSt t x).cenReq = s.cenReq := (rfl)
@[simp] theorem Pkg.setLeaseSt_jnl (s : Pkg) (t : Nat) (x : LeaseSt) : (s.setLeaseSt t x).jnl = s.jnl := (rfl)
@[simp] theorem Pkg.setLeaseSt_keeper (s : Pkg) (t : Nat) (x : LeaseSt) : (s.setLeaseSt t x).keeper = s.keeper := (rfl)
@[simp] theorem Pkg.setLeaseSt_boot (s : Pkg) (t : Nat) (x : LeaseSt) : (s.setLeaseSt t x).boot = s.boot := (rfl)
@[simp] theorem Pkg.setLeaseSt_wipe (s : Pkg) (t : Nat) (x : LeaseSt) : (s.setLeaseSt t x).wipe = s.wipe := (rfl)
@[simp] theorem Pkg.setLeaseSt_rd (s : Pkg) (t : Nat) (x : LeaseSt) (d2 o2 : Nat) : (s.setLeaseSt t x).rd d2 o2 = s.rd d2 o2 := (rfl)
@[simp] theorem Pkg.setLeaseSt_get (s : Pkg) (t : Nat) (x : LeaseSt) (d2 : Nat) (f2 : Fld) : (s.setLeaseSt t x).get d2 f2 = s.get d2 f2 := (rfl)
@[simp] theorem Pkg.setLeaseSt_on (s : Pkg) (t : Nat) (x : LeaseSt) (d2 : Nat) (f2 : Fld) : (s.setLeaseSt t x).on d2 f2 = s.on d2 f2 := (rfl)
@[simp] theorem Pkg.setLeaseSt_cnt (s : Pkg) (t : Nat) (x : LeaseSt) (d2 o2 : Nat) : (s.setLeaseSt t x).cnt d2 o2 = s.cnt d2 o2 := (rfl)

/-! `Pkg.setMacCache` changes only `macKeys`. -/
@[simp] theorem Pkg.setMacCache_variant (s : Pkg) (t : Nat) (x : List CachedKey) : (s.setMacCache t x).variant = s.variant := (rfl)
@[simp] theorem Pkg.setMacCache_now (s : Pkg) (t : Nat) (x : List CachedKey) : (s.setMacCache t x).now = s.now := (rfl)
@[simp] theorem Pkg.setMacCache_regs (s : Pkg) (t : Nat) (x : List CachedKey) : (s.setMacCache t x).regs = s.regs := (rfl)
@[simp] theorem Pkg.setMacCache_shadow (s : Pkg) (t : Nat) (x : List CachedKey) : (s.setMacCache t x).shadow = s.shadow := (rfl)
@[simp] theorem Pkg.setMacCache_ctr (s : Pkg) (t : Nat) (x : List CachedKey) : (s.setMacCache t x).ctr = s.ctr := (rfl)
@[simp] theorem Pkg.setMacCache_latch (s : Pkg) (t : Nat) (x : List CachedKey) : (s.setMacCache t x).latch = s.latch := (rfl)
@[simp] theorem Pkg.setMacCache_sets (s : Pkg) (t : Nat) (x : List CachedKey) : (s.setMacCache t x).sets = s.sets := (rfl)
@[simp] theorem Pkg.setMacCache_coldNext (s : Pkg) (t : Nat) (x : List CachedKey) : (s.setMacCache t x).coldNext = s.coldNext := (rfl)
@[simp] theorem Pkg.setMacCache_revs (s : Pkg) (t : Nat) (x : List CachedKey) : (s.setMacCache t x).revs = s.revs := (rfl)
@[simp] theorem Pkg.setMacCache_out (s : Pkg) (t : Nat) (x : List CachedKey) : (s.setMacCache t x).out = s.out := (rfl)
@[simp] theorem Pkg.setMacCache_fresh (s : Pkg) (t : Nat) (x : List CachedKey) : (s.setMacCache t x).fresh = s.fresh := (rfl)
@[simp] theorem Pkg.setMacCache_msix (s : Pkg) (t : Nat) (x : List CachedKey) : (s.setMacCache t x).msix = s.msix := (rfl)
@[simp] theorem Pkg.setMacCache_reqs (s : Pkg) (t : Nat) (x : List CachedKey) : (s.setMacCache t x).reqs = s.reqs := (rfl)
@[simp] theorem Pkg.setMacCache_portQ (s : Pkg) (t : Nat) (x : List CachedKey) : (s.setMacCache t x).portQ = s.portQ := (rfl)
@[simp] theorem Pkg.setMacCache_portTurn (s : Pkg) (t : Nat) (x : List CachedKey) : (s.setMacCache t x).portTurn = s.portTurn := (rfl)
@[simp] theorem Pkg.setMacCache_spans (s : Pkg) (t : Nat) (x : List CachedKey) : (s.setMacCache t x).spans = s.spans := (rfl)
@[simp] theorem Pkg.setMacCache_routes (s : Pkg) (t : Nat) (x : List CachedKey) : (s.setMacCache t x).routes = s.routes := (rfl)
@[simp] theorem Pkg.setMacCache_ctrl (s : Pkg) (t : Nat) (x : List CachedKey) : (s.setMacCache t x).ctrl = s.ctrl := (rfl)
@[simp] theorem Pkg.setMacCache_tethers (s : Pkg) (t : Nat) (x : List CachedKey) : (s.setMacCache t x).tethers = s.tethers := (rfl)
@[simp] theorem Pkg.setMacCache_tether (s : Pkg) (t : Nat) (x : List CachedKey) : (s.setMacCache t x).tether = s.tether := (rfl)
@[simp] theorem Pkg.setMacCache_clocks (s : Pkg) (t : Nat) (x : List CachedKey) : (s.setMacCache t x).clocks = s.clocks := (rfl)
@[simp] theorem Pkg.setMacCache_ref (s : Pkg) (t : Nat) (x : List CachedKey) : (s.setMacCache t x).ref = s.ref := (rfl)
@[simp] theorem Pkg.setMacCache_ksTile (s : Pkg) (t : Nat) (x : List CachedKey) : (s.setMacCache t x).ksTile = s.ksTile := (rfl)
@[simp] theorem Pkg.setMacCache_ks (s : Pkg) (t : Nat) (x : List CachedKey) : (s.setMacCache t x).ks = s.ks := (rfl)
@[simp] theorem Pkg.setMacCache_mode (s : Pkg) (t : Nat) (x : List CachedKey) : (s.setMacCache t x).mode = s.mode := (rfl)
@[simp] theorem Pkg.setMacCache_sw (s : Pkg) (t : Nat) (x : List CachedKey) : (s.setMacCache t x).sw = s.sw := (rfl)
@[simp] theorem Pkg.setMacCache_trKeys (s : Pkg) (t : Nat) (x : List CachedKey) : (s.setMacCache t x).trKeys = s.trKeys := (rfl)
@[simp] theorem Pkg.setMacCache_vault (s : Pkg) (t : Nat) (x : List CachedKey) : (s.setMacCache t x).vault = s.vault := (rfl)
@[simp] theorem Pkg.setMacCache_lease (s : Pkg) (t : Nat) (x : List CachedKey) : (s.setMacCache t x).lease = s.lease := (rfl)
@[simp] theorem Pkg.setMacCache_trestles (s : Pkg) (t : Nat) (x : List CachedKey) : (s.setMacCache t x).trestles = s.trestles := (rfl)
@[simp] theorem Pkg.setMacCache_bus (s : Pkg) (t : Nat) (x : List CachedKey) : (s.setMacCache t x).bus = s.bus := (rfl)
@[simp] theorem Pkg.setMacCache_nm (s : Pkg) (t : Nat) (x : List CachedKey) : (s.setMacCache t x).nm = s.nm := (rfl)
@[simp] theorem Pkg.setMacCache_pnSeen (s : Pkg) (t : Nat) (x : List CachedKey) : (s.setMacCache t x).pnSeen = s.pnSeen := (rfl)
@[simp] theorem Pkg.setMacCache_bridges (s : Pkg) (t : Nat) (x : List CachedKey) : (s.setMacCache t x).bridges = s.bridges := (rfl)
@[simp] theorem Pkg.setMacCache_dma (s : Pkg) (t : Nat) (x : List CachedKey) : (s.setMacCache t x).dma = s.dma := (rfl)
@[simp] theorem Pkg.setMacCache_pods (s : Pkg) (t : Nat) (x : List CachedKey) : (s.setMacCache t x).pods = s.pods := (rfl)
@[simp] theorem Pkg.setMacCache_ckLow (s : Pkg) (t : Nat) (x : List CachedKey) : (s.setMacCache t x).ckLow = s.ckLow := (rfl)
@[simp] theorem Pkg.setMacCache_grants (s : Pkg) (t : Nat) (x : List CachedKey) : (s.setMacCache t x).grants = s.grants := (rfl)
@[simp] theorem Pkg.setMacCache_power (s : Pkg) (t : Nat) (x : List CachedKey) : (s.setMacCache t x).power = s.power := (rfl)
@[simp] theorem Pkg.setMacCache_wake (s : Pkg) (t : Nat) (x : List CachedKey) : (s.setMacCache t x).wake = s.wake := (rfl)
@[simp] theorem Pkg.setMacCache_clusters (s : Pkg) (t : Nat) (x : List CachedKey) : (s.setMacCache t x).clusters = s.clusters := (rfl)
@[simp] theorem Pkg.setMacCache_cens (s : Pkg) (t : Nat) (x : List CachedKey) : (s.setMacCache t x).cens = s.cens := (rfl)
@[simp] theorem Pkg.setMacCache_cenReq (s : Pkg) (t : Nat) (x : List CachedKey) : (s.setMacCache t x).cenReq = s.cenReq := (rfl)
@[simp] theorem Pkg.setMacCache_jnl (s : Pkg) (t : Nat) (x : List CachedKey) : (s.setMacCache t x).jnl = s.jnl := (rfl)
@[simp] theorem Pkg.setMacCache_keeper (s : Pkg) (t : Nat) (x : List CachedKey) : (s.setMacCache t x).keeper = s.keeper := (rfl)
@[simp] theorem Pkg.setMacCache_boot (s : Pkg) (t : Nat) (x : List CachedKey) : (s.setMacCache t x).boot = s.boot := (rfl)
@[simp] theorem Pkg.setMacCache_wipe (s : Pkg) (t : Nat) (x : List CachedKey) : (s.setMacCache t x).wipe = s.wipe := (rfl)
@[simp] theorem Pkg.setMacCache_rd (s : Pkg) (t : Nat) (x : List CachedKey) (d2 o2 : Nat) : (s.setMacCache t x).rd d2 o2 = s.rd d2 o2 := (rfl)
@[simp] theorem Pkg.setMacCache_get (s : Pkg) (t : Nat) (x : List CachedKey) (d2 : Nat) (f2 : Fld) : (s.setMacCache t x).get d2 f2 = s.get d2 f2 := (rfl)
@[simp] theorem Pkg.setMacCache_on (s : Pkg) (t : Nat) (x : List CachedKey) (d2 : Nat) (f2 : Fld) : (s.setMacCache t x).on d2 f2 = s.on d2 f2 := (rfl)
@[simp] theorem Pkg.setMacCache_cnt (s : Pkg) (t : Nat) (x : List CachedKey) (d2 o2 : Nat) : (s.setMacCache t x).cnt d2 o2 = s.cnt d2 o2 := (rfl)

/-! `Pkg.setTrCache` changes only `trKeys`. -/
@[simp] theorem Pkg.setTrCache_variant (s : Pkg) (t : Nat) (x : List CachedKey) : (s.setTrCache t x).variant = s.variant := (rfl)
@[simp] theorem Pkg.setTrCache_now (s : Pkg) (t : Nat) (x : List CachedKey) : (s.setTrCache t x).now = s.now := (rfl)
@[simp] theorem Pkg.setTrCache_regs (s : Pkg) (t : Nat) (x : List CachedKey) : (s.setTrCache t x).regs = s.regs := (rfl)
@[simp] theorem Pkg.setTrCache_shadow (s : Pkg) (t : Nat) (x : List CachedKey) : (s.setTrCache t x).shadow = s.shadow := (rfl)
@[simp] theorem Pkg.setTrCache_ctr (s : Pkg) (t : Nat) (x : List CachedKey) : (s.setTrCache t x).ctr = s.ctr := (rfl)
@[simp] theorem Pkg.setTrCache_latch (s : Pkg) (t : Nat) (x : List CachedKey) : (s.setTrCache t x).latch = s.latch := (rfl)
@[simp] theorem Pkg.setTrCache_sets (s : Pkg) (t : Nat) (x : List CachedKey) : (s.setTrCache t x).sets = s.sets := (rfl)
@[simp] theorem Pkg.setTrCache_coldNext (s : Pkg) (t : Nat) (x : List CachedKey) : (s.setTrCache t x).coldNext = s.coldNext := (rfl)
@[simp] theorem Pkg.setTrCache_revs (s : Pkg) (t : Nat) (x : List CachedKey) : (s.setTrCache t x).revs = s.revs := (rfl)
@[simp] theorem Pkg.setTrCache_out (s : Pkg) (t : Nat) (x : List CachedKey) : (s.setTrCache t x).out = s.out := (rfl)
@[simp] theorem Pkg.setTrCache_fresh (s : Pkg) (t : Nat) (x : List CachedKey) : (s.setTrCache t x).fresh = s.fresh := (rfl)
@[simp] theorem Pkg.setTrCache_msix (s : Pkg) (t : Nat) (x : List CachedKey) : (s.setTrCache t x).msix = s.msix := (rfl)
@[simp] theorem Pkg.setTrCache_reqs (s : Pkg) (t : Nat) (x : List CachedKey) : (s.setTrCache t x).reqs = s.reqs := (rfl)
@[simp] theorem Pkg.setTrCache_portQ (s : Pkg) (t : Nat) (x : List CachedKey) : (s.setTrCache t x).portQ = s.portQ := (rfl)
@[simp] theorem Pkg.setTrCache_portTurn (s : Pkg) (t : Nat) (x : List CachedKey) : (s.setTrCache t x).portTurn = s.portTurn := (rfl)
@[simp] theorem Pkg.setTrCache_spans (s : Pkg) (t : Nat) (x : List CachedKey) : (s.setTrCache t x).spans = s.spans := (rfl)
@[simp] theorem Pkg.setTrCache_routes (s : Pkg) (t : Nat) (x : List CachedKey) : (s.setTrCache t x).routes = s.routes := (rfl)
@[simp] theorem Pkg.setTrCache_ctrl (s : Pkg) (t : Nat) (x : List CachedKey) : (s.setTrCache t x).ctrl = s.ctrl := (rfl)
@[simp] theorem Pkg.setTrCache_tethers (s : Pkg) (t : Nat) (x : List CachedKey) : (s.setTrCache t x).tethers = s.tethers := (rfl)
@[simp] theorem Pkg.setTrCache_tether (s : Pkg) (t : Nat) (x : List CachedKey) : (s.setTrCache t x).tether = s.tether := (rfl)
@[simp] theorem Pkg.setTrCache_clocks (s : Pkg) (t : Nat) (x : List CachedKey) : (s.setTrCache t x).clocks = s.clocks := (rfl)
@[simp] theorem Pkg.setTrCache_ref (s : Pkg) (t : Nat) (x : List CachedKey) : (s.setTrCache t x).ref = s.ref := (rfl)
@[simp] theorem Pkg.setTrCache_ksTile (s : Pkg) (t : Nat) (x : List CachedKey) : (s.setTrCache t x).ksTile = s.ksTile := (rfl)
@[simp] theorem Pkg.setTrCache_ks (s : Pkg) (t : Nat) (x : List CachedKey) : (s.setTrCache t x).ks = s.ks := (rfl)
@[simp] theorem Pkg.setTrCache_mode (s : Pkg) (t : Nat) (x : List CachedKey) : (s.setTrCache t x).mode = s.mode := (rfl)
@[simp] theorem Pkg.setTrCache_sw (s : Pkg) (t : Nat) (x : List CachedKey) : (s.setTrCache t x).sw = s.sw := (rfl)
@[simp] theorem Pkg.setTrCache_macKeys (s : Pkg) (t : Nat) (x : List CachedKey) : (s.setTrCache t x).macKeys = s.macKeys := (rfl)
@[simp] theorem Pkg.setTrCache_vault (s : Pkg) (t : Nat) (x : List CachedKey) : (s.setTrCache t x).vault = s.vault := (rfl)
@[simp] theorem Pkg.setTrCache_lease (s : Pkg) (t : Nat) (x : List CachedKey) : (s.setTrCache t x).lease = s.lease := (rfl)
@[simp] theorem Pkg.setTrCache_trestles (s : Pkg) (t : Nat) (x : List CachedKey) : (s.setTrCache t x).trestles = s.trestles := (rfl)
@[simp] theorem Pkg.setTrCache_bus (s : Pkg) (t : Nat) (x : List CachedKey) : (s.setTrCache t x).bus = s.bus := (rfl)
@[simp] theorem Pkg.setTrCache_nm (s : Pkg) (t : Nat) (x : List CachedKey) : (s.setTrCache t x).nm = s.nm := (rfl)
@[simp] theorem Pkg.setTrCache_pnSeen (s : Pkg) (t : Nat) (x : List CachedKey) : (s.setTrCache t x).pnSeen = s.pnSeen := (rfl)
@[simp] theorem Pkg.setTrCache_bridges (s : Pkg) (t : Nat) (x : List CachedKey) : (s.setTrCache t x).bridges = s.bridges := (rfl)
@[simp] theorem Pkg.setTrCache_dma (s : Pkg) (t : Nat) (x : List CachedKey) : (s.setTrCache t x).dma = s.dma := (rfl)
@[simp] theorem Pkg.setTrCache_pods (s : Pkg) (t : Nat) (x : List CachedKey) : (s.setTrCache t x).pods = s.pods := (rfl)
@[simp] theorem Pkg.setTrCache_ckLow (s : Pkg) (t : Nat) (x : List CachedKey) : (s.setTrCache t x).ckLow = s.ckLow := (rfl)
@[simp] theorem Pkg.setTrCache_grants (s : Pkg) (t : Nat) (x : List CachedKey) : (s.setTrCache t x).grants = s.grants := (rfl)
@[simp] theorem Pkg.setTrCache_power (s : Pkg) (t : Nat) (x : List CachedKey) : (s.setTrCache t x).power = s.power := (rfl)
@[simp] theorem Pkg.setTrCache_wake (s : Pkg) (t : Nat) (x : List CachedKey) : (s.setTrCache t x).wake = s.wake := (rfl)
@[simp] theorem Pkg.setTrCache_clusters (s : Pkg) (t : Nat) (x : List CachedKey) : (s.setTrCache t x).clusters = s.clusters := (rfl)
@[simp] theorem Pkg.setTrCache_cens (s : Pkg) (t : Nat) (x : List CachedKey) : (s.setTrCache t x).cens = s.cens := (rfl)
@[simp] theorem Pkg.setTrCache_cenReq (s : Pkg) (t : Nat) (x : List CachedKey) : (s.setTrCache t x).cenReq = s.cenReq := (rfl)
@[simp] theorem Pkg.setTrCache_jnl (s : Pkg) (t : Nat) (x : List CachedKey) : (s.setTrCache t x).jnl = s.jnl := (rfl)
@[simp] theorem Pkg.setTrCache_keeper (s : Pkg) (t : Nat) (x : List CachedKey) : (s.setTrCache t x).keeper = s.keeper := (rfl)
@[simp] theorem Pkg.setTrCache_boot (s : Pkg) (t : Nat) (x : List CachedKey) : (s.setTrCache t x).boot = s.boot := (rfl)
@[simp] theorem Pkg.setTrCache_wipe (s : Pkg) (t : Nat) (x : List CachedKey) : (s.setTrCache t x).wipe = s.wipe := (rfl)
@[simp] theorem Pkg.setTrCache_rd (s : Pkg) (t : Nat) (x : List CachedKey) (d2 o2 : Nat) : (s.setTrCache t x).rd d2 o2 = s.rd d2 o2 := (rfl)
@[simp] theorem Pkg.setTrCache_get (s : Pkg) (t : Nat) (x : List CachedKey) (d2 : Nat) (f2 : Fld) : (s.setTrCache t x).get d2 f2 = s.get d2 f2 := (rfl)
@[simp] theorem Pkg.setTrCache_on (s : Pkg) (t : Nat) (x : List CachedKey) (d2 : Nat) (f2 : Fld) : (s.setTrCache t x).on d2 f2 = s.on d2 f2 := (rfl)
@[simp] theorem Pkg.setTrCache_cnt (s : Pkg) (t : Nat) (x : List CachedKey) (d2 o2 : Nat) : (s.setTrCache t x).cnt d2 o2 = s.cnt d2 o2 := (rfl)

end Sys2Proof.Machine
end

