-- ==== Sys2Proof/Laws/Words.lean ====
section
/-! SUPPORT. Laws of register words, fields and counters, and of what every command does at its end. -/
namespace Sys2Proof.Machine

/-! ### Words and fields -/

@[simp] theorem Pkg.rd_wr_same (s : Pkg) (d o : Nat) (w : Word) : (s.wr d o w).rd d o = w := by
  simp [Pkg.rd, Pkg.wr]

theorem Pkg.rd_wr_ne (s : Pkg) {d o d' o' : Nat} (w : Word) (h : pkgAddr d' o' ≠ pkgAddr d o) : (s.wr d o w).rd d' o' = s.rd d' o' := by
  simp [Pkg.rd, Pkg.wr, SMap.get_set_ne _ _ _ _ h]

/-- Another word of the same die. -/
@[simp] theorem Pkg.rd_wr_off (s : Pkg) {d o o' : Nat} (w : Word) (h : o' ≠ o) : (s.wr d o w).rd d o' = s.rd d o' :=
  s.rd_wr_ne w (by simpa [pkgAddr] using h)

theorem Pkg.rd_put_ne (s : Pkg) {d d' o' : Nat} {f : Fld} (v : Nat) (h : pkgAddr d' o' ≠ pkgAddr d f.off) :
    (s.put d f v).rd d' o' = s.rd d' o' := s.rd_wr_ne _ h

@[simp] theorem Pkg.rd_put_off (s : Pkg) {d o' : Nat} {f : Fld} (v : Nat) (h : o' ≠ f.off) : (s.put d f v).rd d o' = s.rd d o' :=
  s.rd_wr_off _ h

theorem Pkg.rd_put_same (s : Pkg) (d : Nat) (f : Fld) (v : Nat) : (s.put d f v).rd d f.off = fieldSet (s.rd d f.off) f.hi f.lo v := by
  simp [Pkg.put]

/-- A field reads what was last written to it, cut to its width. -/
@[simp] theorem Pkg.get_put_same (s : Pkg) (d : Nat) (f : Fld) (v : Nat) (h : f.hi < 32) :
    (s.put d f v).get d f = v % 2 ^ (f.hi + 1 - f.lo) := by
  simp [Pkg.get, Pkg.put, fieldGet_fieldSet_same _ _ h]

theorem Pkg.get_put_ne (s : Pkg) {d d' : Nat} {f f' : Fld} (v : Nat) (h : pkgAddr d' f'.off ≠ pkgAddr d f.off) :
    (s.put d f v).get d' f' = s.get d' f' := by simp [Pkg.get, s.rd_put_ne v h]

/-- A field of another word of the same die. -/
@[simp] theorem Pkg.get_put_off (s : Pkg) {d : Nat} {f f' : Fld} (v : Nat) (h : f'.off ≠ f.off) : (s.put d f v).get d f' = s.get d f' := by
  simp [Pkg.get, h]

theorem Pkg.get_wr_ne (s : Pkg) {d d' o : Nat} {f' : Fld} (w : Word) (h : pkgAddr d' f'.off ≠ pkgAddr d o) :
    (s.wr d o w).get d' f' = s.get d' f' := by simp [Pkg.get, s.rd_wr_ne w h]

@[simp] theorem Pkg.get_wr_off (s : Pkg) {d o : Nat} {f' : Fld} (w : Word) (h : f'.off ≠ o) : (s.wr d o w).get d f' = s.get d f' := by
  simp [Pkg.get, h]

/-- Another field of the same word. -/
theorem Pkg.get_put_beside (s : Pkg) {d : Nat} {f f' : Fld} (v : Nat) (h : f'.off = f.off) (hb : f.hi < f'.lo ∨ f'.hi < f.lo) :
    (s.put d f v).get d f' = s.get d f' := by
  simp only [Pkg.get, h, Pkg.put, Pkg.rd_wr_same, fieldGet_fieldSet_ne _ v hb]

/-- A field that does not meet the one written: another word, or other bits of the word. -/
theorem Pkg.get_put_apart (s : Pkg) {d : Nat} {f f' : Fld} (v : Nat) (h : f'.off ≠ f.off ∨ f.hi < f'.lo ∨ f'.hi < f.lo) :
    (s.put d f v).get d f' = s.get d f' := by
  by_cases h' : f'.off = f.off
  · exact s.get_put_beside v h' (h.resolve_left (fun h2 => h2 h'))
  · exact s.get_put_off v h'

theorem Pkg.on_put_same (s : Pkg) (d : Nat) (f : Fld) (v : Nat) (h : f.hi < 32) : (s.put d f v).on d f = (v % 2 ^ (f.hi + 1 - f.lo) != 0) := by
  simp [Pkg.on, h]

theorem Pkg.on_raise_same (s : Pkg) (d : Nat) (f : Fld) (h : f.hi < 32) (h' : f.lo ≤ f.hi) : (s.raise d f).on d f = true := by
  have : 2 ≤ 2 ^ (f.hi + 1 - f.lo) := by
    have : 2 ^ 1 ≤ 2 ^ (f.hi + 1 - f.lo) := Nat.pow_le_pow_right (by decide) (by omega)
    simpa using this
  have e : (s.raise d f).on d f = (s.put d f 1).on d f := (rfl)
  rw [e, Pkg.on_put_same _ _ _ _ h, Nat.mod_eq_of_lt (by omega)]
  rfl

theorem Pkg.on_put_apart (s : Pkg) {d : Nat} {f f' : Fld} (v : Nat) (h : f'.off ≠ f.off ∨ f.hi < f'.lo ∨ f'.hi < f.lo) :
    (s.put d f v).on d f' = s.on d f' := by simp [Pkg.on, s.get_put_apart v h]

theorem Pkg.on_put_ne (s : Pkg) {d d' : Nat} {f f' : Fld} (v : Nat) (h : pkgAddr d' f'.off ≠ pkgAddr d f.off) :
    (s.put d f v).on d' f' = s.on d' f' := by simp [Pkg.on, s.get_put_ne v h]

/-! ### Counters -/

@[simp] theorem Pkg.cnt_setCnt_same (s : Pkg) (d o : Nat) (v : Quad) : (s.setCnt d o v).cnt d o = v := by simp [Pkg.cnt, Pkg.setCnt]

theorem Pkg.cnt_setCnt_ne (s : Pkg) {d o d' o' : Nat} (v : Quad) (h : pkgAddr d' o' ≠ pkgAddr d o) :
    (s.setCnt d o v).cnt d' o' = s.cnt d' o' := by simp [Pkg.cnt, Pkg.setCnt, SMap.get_set_ne _ _ _ _ h]

@[simp] theorem Pkg.cnt_setCnt_off (s : Pkg) {d o o' : Nat} (v : Quad) (h : o' ≠ o) : (s.setCnt d o v).cnt d o' = s.cnt d o' :=
  s.cnt_setCnt_ne v (by simpa [pkgAddr] using h)

/-- A counter that counts n events reads n more, modulo 2⁶⁴. -/
@[simp] theorem Pkg.cnt_add_same (s : Pkg) (d o n : Nat) : (s.add d o n).cnt d o = s.cnt d o + BitVec.ofNat 64 n := by simp [Pkg.add]

@[simp] theorem Pkg.cnt_add_off (s : Pkg) {d o o' : Nat} (n : Nat) (h : o' ≠ o) : (s.add d o n).cnt d o' = s.cnt d o' := by
  simp [Pkg.add, h]

theorem Pkg.cnt_add_ne (s : Pkg) {d o d' o' : Nat} (n : Nat) (h : pkgAddr d' o' ≠ pkgAddr d o) : (s.add d o n).cnt d' o' = s.cnt d' o' :=
  s.cnt_setCnt_ne _ h

@[simp] theorem Pkg.cnt_bump_same (s : Pkg) (d o : Nat) : (s.bump d o).cnt d o = s.cnt d o + 1 := by simp [Pkg.bump]

@[simp] theorem Pkg.cnt_bump_off (s : Pkg) {d o o' : Nat} (h : o' ≠ o) : (s.bump d o).cnt d o' = s.cnt d o' := by simp [Pkg.bump, h]

theorem Pkg.cnt_bump_ne (s : Pkg) {d o d' o' : Nat} (h : pkgAddr d' o' ≠ pkgAddr d o) : (s.bump d o).cnt d' o' = s.cnt d' o' :=
  s.cnt_setCnt_ne _ h

/-! ### Guards and the clock -/

@[simp] theorem Pkg.when_true (s : Pkg) (f : Pkg → Pkg) : s.when true f = f s := (rfl)
@[simp] theorem Pkg.when_false (s : Pkg) (f : Pkg → Pkg) : s.when false f = s := (rfl)
theorem Pkg.when_pos (s : Pkg) {b : Bool} (f : Pkg → Pkg) (h : b = true) : s.when b f = f s := by rw [h]; rfl
theorem Pkg.when_neg (s : Pkg) {b : Bool} (f : Pkg → Pkg) (h : b = false) : s.when b f = s := by rw [h]; rfl

/-- Package time never runs backwards. -/
@[simp] theorem Pkg.reach_now (s : Pkg) (t : Nat) : (s.reach t).now = max s.now (ns t) := (rfl)
@[simp] theorem Pkg.reachFrac_now (s : Pkg) (t : Nat) : (s.reachFrac t).now = max s.now t := (rfl)

/-! ### The end of a command -/

/-- The MSI-X logic changes itself and what leaves, nothing else. -/
theorem Pkg.settle_eq (s : Pkg) : ∃ m o, s.settle = { s with msix := m, out := o } := by
  unfold Pkg.settle Pkg.onEach
  generalize s.powered = l
  induction l generalizing s with
  | nil => exact ⟨s.msix, s.out, rfl⟩
  | cons t l ih =>
    obtain ⟨m, o, h⟩ := ih (s.settleTile t)
    exact ⟨m, o, by rw [List.foldl_cons, h]; rfl⟩

@[simp] theorem Pkg.settle_variant (s : Pkg) : (s.settle).variant = (s).variant := by
  obtain ⟨m, o, h⟩ := s.settle_eq; rw [h]; try rfl
@[simp] theorem Pkg.settle_now (s : Pkg) : (s.settle).now = (s).now := by
  obtain ⟨m, o, h⟩ := s.settle_eq; rw [h]; try rfl
@[simp] theorem Pkg.settle_regs (s : Pkg) : (s.settle).regs = (s).regs := by
  obtain ⟨m, o, h⟩ := s.settle_eq; rw [h]; try rfl
@[simp] theorem Pkg.settle_shadow (s : Pkg) : (s.settle).shadow = (s).shadow := by
  obtain ⟨m, o, h⟩ := s.settle_eq; rw [h]; try rfl
@[simp] theorem Pkg.settle_ctr (s : Pkg) : (s.settle).ctr = (s).ctr := by
  obtain ⟨m, o, h⟩ := s.settle_eq; rw [h]; try rfl
@[simp] theorem Pkg.settle_latch (s : Pkg) : (s.settle).latch = (s).latch := by
  obtain ⟨m, o, h⟩ := s.settle_eq; rw [h]; try rfl
@[simp] theorem Pkg.settle_portTurn (s : Pkg) : (s.settle).portTurn = (s).portTurn := by
  obtain ⟨m, o, h⟩ := s.settle_eq; rw [h]; try rfl
@[simp] theorem Pkg.settle_revs (s : Pkg) : (s.settle).revs = (s).revs := by
  obtain ⟨m, o, h⟩ := s.settle_eq; rw [h]; try rfl
@[simp] theorem Pkg.settle_coldNext (s : Pkg) : (s.settle).coldNext = (s).coldNext := by
  obtain ⟨m, o, h⟩ := s.settle_eq; rw [h]; try rfl
@[simp] theorem Pkg.settle_sets (s : Pkg) : (s.settle).sets = (s).sets := by
  obtain ⟨m, o, h⟩ := s.settle_eq; rw [h]; try rfl
@[simp] theorem Pkg.settle_fresh (s : Pkg) : (s.settle).fresh = (s).fresh := by
  obtain ⟨m, o, h⟩ := s.settle_eq; rw [h]; try rfl
@[simp] theorem Pkg.settle_reqs (s : Pkg) : (s.settle).reqs = (s).reqs := by
  obtain ⟨m, o, h⟩ := s.settle_eq; rw [h]; try rfl
@[simp] theorem Pkg.settle_portQ (s : Pkg) : (s.settle).portQ = (s).portQ := by
  obtain ⟨m, o, h⟩ := s.settle_eq; rw [h]; try rfl
@[simp] theorem Pkg.settle_spans (s : Pkg) : (s.settle).spans = (s).spans := by
  obtain ⟨m, o, h⟩ := s.settle_eq; rw [h]; try rfl
@[simp] theorem Pkg.settle_routes (s : Pkg) : (s.settle).routes = (s).routes := by
  obtain ⟨m, o, h⟩ := s.settle_eq; rw [h]; try rfl
@[simp] theorem Pkg.settle_ctrl (s : Pkg) : (s.settle).ctrl = (s).ctrl := by
  obtain ⟨m, o, h⟩ := s.settle_eq; rw [h]; try rfl
@[simp] theorem Pkg.settle_tethers (s : Pkg) : (s.settle).tethers = (s).tethers := by
  obtain ⟨m, o, h⟩ := s.settle_eq; rw [h]; try rfl
@[simp] theorem Pkg.settle_tether (s : Pkg) : (s.settle).tether = (s).tether := by
  obtain ⟨m, o, h⟩ := s.settle_eq; rw [h]; try rfl
@[simp] theorem Pkg.settle_clocks (s : Pkg) : (s.settle).clocks = (s).clocks := by
  obtain ⟨m, o, h⟩ := s.settle_eq; rw [h]; try rfl
@[simp] theorem Pkg.settle_ref (s : Pkg) : (s.settle).ref = (s).ref := by
  obtain ⟨m, o, h⟩ := s.settle_eq; rw [h]; try rfl
@[simp] theorem Pkg.settle_ksTile (s : Pkg) : (s.settle).ksTile = (s).ksTile := by
  obtain ⟨m, o, h⟩ := s.settle_eq; rw [h]; try rfl
@[simp] theorem Pkg.settle_ks (s : Pkg) : (s.settle).ks = (s).ks := by
  obtain ⟨m, o, h⟩ := s.settle_eq; rw [h]; try rfl
@[simp] theorem Pkg.settle_mode (s : Pkg) : (s.settle).mode = (s).mode := by
  obtain ⟨m, o, h⟩ := s.settle_eq; rw [h]; try rfl
@[simp] theorem Pkg.settle_sw (s : Pkg) : (s.settle).sw = (s).sw := by
  obtain ⟨m, o, h⟩ := s.settle_eq; rw [h]; try rfl
@[simp] theorem Pkg.settle_macKeys (s : Pkg) : (s.settle).macKeys = (s).macKeys := by
  obtain ⟨m, o, h⟩ := s.settle_eq; rw [h]; try rfl
@[simp] theorem Pkg.settle_trKeys (s : Pkg) : (s.settle).trKeys = (s).trKeys := by
  obtain ⟨m, o, h⟩ := s.settle_eq; rw [h]; try rfl
@[simp] theorem Pkg.settle_vault (s : Pkg) : (s.settle).vault = (s).vault := by
  obtain ⟨m, o, h⟩ := s.settle_eq; rw [h]; try rfl
@[simp] theorem Pkg.settle_lease (s : Pkg) : (s.settle).lease = (s).lease := by
  obtain ⟨m, o, h⟩ := s.settle_eq; rw [h]; try rfl
@[simp] theorem Pkg.settle_trestles (s : Pkg) : (s.settle).trestles = (s).trestles := by
  obtain ⟨m, o, h⟩ := s.settle_eq; rw [h]; try rfl
@[simp] theorem Pkg.settle_bus (s : Pkg) : (s.settle).bus = (s).bus := by
  obtain ⟨m, o, h⟩ := s.settle_eq; rw [h]; try rfl
@[simp] theorem Pkg.settle_nm (s : Pkg) : (s.settle).nm = (s).nm := by
  obtain ⟨m, o, h⟩ := s.settle_eq; rw [h]; try rfl
@[simp] theorem Pkg.settle_pnSeen (s : Pkg) : (s.settle).pnSeen = (s).pnSeen := by
  obtain ⟨m, o, h⟩ := s.settle_eq; rw [h]; try rfl
@[simp] theorem Pkg.settle_bridges (s : Pkg) : (s.settle).bridges = (s).bridges := by
  obtain ⟨m, o, h⟩ := s.settle_eq; rw [h]; try rfl
@[simp] theorem Pkg.settle_dma (s : Pkg) : (s.settle).dma = (s).dma := by
  obtain ⟨m, o, h⟩ := s.settle_eq; rw [h]; try rfl
@[simp] theorem Pkg.settle_pods (s : Pkg) : (s.settle).pods = (s).pods := by
  obtain ⟨m, o, h⟩ := s.settle_eq; rw [h]; try rfl
@[simp] theorem Pkg.settle_ckLow (s : Pkg) : (s.settle).ckLow = (s).ckLow := by
  obtain ⟨m, o, h⟩ := s.settle_eq; rw [h]; try rfl
@[simp] theorem Pkg.settle_grants (s : Pkg) : (s.settle).grants = (s).grants := by
  obtain ⟨m, o, h⟩ := s.settle_eq; rw [h]; try rfl
@[simp] theorem Pkg.settle_power (s : Pkg) : (s.settle).power = (s).power := by
  obtain ⟨m, o, h⟩ := s.settle_eq; rw [h]; try rfl
@[simp] theorem Pkg.settle_wake (s : Pkg) : (s.settle).wake = (s).wake := by
  obtain ⟨m, o, h⟩ := s.settle_eq; rw [h]; try rfl
@[simp] theorem Pkg.settle_clusters (s : Pkg) : (s.settle).clusters = (s).clusters := by
  obtain ⟨m, o, h⟩ := s.settle_eq; rw [h]; try rfl
@[simp] theorem Pkg.settle_cens (s : Pkg) : (s.settle).cens = (s).cens := by
  obtain ⟨m, o, h⟩ := s.settle_eq; rw [h]; try rfl
@[simp] theorem Pkg.settle_cenReq (s : Pkg) : (s.settle).cenReq = (s).cenReq := by
  obtain ⟨m, o, h⟩ := s.settle_eq; rw [h]; try rfl
@[simp] theorem Pkg.settle_jnl (s : Pkg) : (s.settle).jnl = (s).jnl := by
  obtain ⟨m, o, h⟩ := s.settle_eq; rw [h]; try rfl
@[simp] theorem Pkg.settle_keeper (s : Pkg) : (s.settle).keeper = (s).keeper := by
  obtain ⟨m, o, h⟩ := s.settle_eq; rw [h]; try rfl
@[simp] theorem Pkg.settle_boot (s : Pkg) : (s.settle).boot = (s).boot := by
  obtain ⟨m, o, h⟩ := s.settle_eq; rw [h]; try rfl
@[simp] theorem Pkg.settle_wipe (s : Pkg) : (s.settle).wipe = (s).wipe := by
  obtain ⟨m, o, h⟩ := s.settle_eq; rw [h]; try rfl
@[simp] theorem Pkg.settle_rd (s : Pkg) (d o : Nat) : (s.settle).rd d o = (s).rd d o := by
  obtain ⟨m, o, h⟩ := s.settle_eq; rw [h]; try rfl
@[simp] theorem Pkg.settle_get (s : Pkg) (d : Nat) (f : Fld) : (s.settle).get d f = (s).get d f := by
  obtain ⟨m, o, h⟩ := s.settle_eq; rw [h]; try rfl
@[simp] theorem Pkg.settle_on (s : Pkg) (d : Nat) (f : Fld) : (s.settle).on d f = (s).on d f := by
  obtain ⟨m, o, h⟩ := s.settle_eq; rw [h]; try rfl
@[simp] theorem Pkg.settle_cnt (s : Pkg) (d o : Nat) : (s.settle).cnt d o = (s).cnt d o := by
  obtain ⟨m, o, h⟩ := s.settle_eq; rw [h]; try rfl

@[simp] theorem State.finish_pkg_variant (s : State) : (s.finish.pkg).variant = (s.pkg).variant := by
  obtain ⟨m, o, h⟩ := s.pkg.settle_eq; simp only [State.finish, h]; try rfl
@[simp] theorem State.finish_pkg_now (s : State) : (s.finish.pkg).now = (s.pkg).now := by
  obtain ⟨m, o, h⟩ := s.pkg.settle_eq; simp only [State.finish, h]; try rfl
@[simp] theorem State.finish_pkg_regs (s : State) : (s.finish.pkg).regs = (s.pkg).regs := by
  obtain ⟨m, o, h⟩ := s.pkg.settle_eq; simp only [State.finish, h]; try rfl
@[simp] theorem State.finish_pkg_shadow (s : State) : (s.finish.pkg).shadow = (s.pkg).shadow := by
  obtain ⟨m, o, h⟩ := s.pkg.settle_eq; simp only [State.finish, h]; try rfl
@[simp] theorem State.finish_pkg_ctr (s : State) : (s.finish.pkg).ctr = (s.pkg).ctr := by
  obtain ⟨m, o, h⟩ := s.pkg.settle_eq; simp only [State.finish, h]; try rfl
@[simp] theorem State.finish_pkg_latch (s : State) : (s.finish.pkg).latch = (s.pkg).latch := by
  obtain ⟨m, o, h⟩ := s.pkg.settle_eq; simp only [State.finish, h]; try rfl
@[simp] theorem State.finish_pkg_portTurn (s : State) : (s.finish.pkg).portTurn = (s.pkg).portTurn := by
  obtain ⟨m, o, h⟩ := s.pkg.settle_eq; simp only [State.finish, h]; try rfl
@[simp] theorem State.finish_pkg_revs (s : State) : (s.finish.pkg).revs = (s.pkg).revs := by
  obtain ⟨m, o, h⟩ := s.pkg.settle_eq; simp only [State.finish, h]; try rfl
@[simp] theorem State.finish_pkg_coldNext (s : State) : (s.finish.pkg).coldNext = (s.pkg).coldNext := by
  obtain ⟨m, o, h⟩ := s.pkg.settle_eq; simp only [State.finish, h]; try rfl
@[simp] theorem State.finish_pkg_sets (s : State) : (s.finish.pkg).sets = (s.pkg).sets := by
  obtain ⟨m, o, h⟩ := s.pkg.settle_eq; simp only [State.finish, h]; try rfl
@[simp] theorem State.finish_pkg_fresh (s : State) : (s.finish.pkg).fresh = (s.pkg).fresh := by
  obtain ⟨m, o, h⟩ := s.pkg.settle_eq; simp only [State.finish, h]; try rfl
@[simp] theorem State.finish_pkg_reqs (s : State) : (s.finish.pkg).reqs = (s.pkg).reqs := by
  obtain ⟨m, o, h⟩ := s.pkg.settle_eq; simp only [State.finish, h]; try rfl
@[simp] theorem State.finish_pkg_portQ (s : State) : (s.finish.pkg).portQ = (s.pkg).portQ := by
  obtain ⟨m, o, h⟩ := s.pkg.settle_eq; simp only [State.finish, h]; try rfl
@[simp] theorem State.finish_pkg_spans (s : State) : (s.finish.pkg).spans = (s.pkg).spans := by
  obtain ⟨m, o, h⟩ := s.pkg.settle_eq; simp only [State.finish, h]; try rfl
@[simp] theorem State.finish_pkg_routes (s : State) : (s.finish.pkg).routes = (s.pkg).routes := by
  obtain ⟨m, o, h⟩ := s.pkg.settle_eq; simp only [State.finish, h]; try rfl
@[simp] theorem State.finish_pkg_ctrl (s : State) : (s.finish.pkg).ctrl = (s.pkg).ctrl := by
  obtain ⟨m, o, h⟩ := s.pkg.settle_eq; simp only [State.finish, h]; try rfl
@[simp] theorem State.finish_pkg_tethers (s : State) : (s.finish.pkg).tethers = (s.pkg).tethers := by
  obtain ⟨m, o, h⟩ := s.pkg.settle_eq; simp only [State.finish, h]; try rfl
@[simp] theorem State.finish_pkg_tether (s : State) : (s.finish.pkg).tether = (s.pkg).tether := by
  obtain ⟨m, o, h⟩ := s.pkg.settle_eq; simp only [State.finish, h]; try rfl
@[simp] theorem State.finish_pkg_clocks (s : State) : (s.finish.pkg).clocks = (s.pkg).clocks := by
  obtain ⟨m, o, h⟩ := s.pkg.settle_eq; simp only [State.finish, h]; try rfl
@[simp] theorem State.finish_pkg_ref (s : State) : (s.finish.pkg).ref = (s.pkg).ref := by
  obtain ⟨m, o, h⟩ := s.pkg.settle_eq; simp only [State.finish, h]; try rfl
@[simp] theorem State.finish_pkg_ksTile (s : State) : (s.finish.pkg).ksTile = (s.pkg).ksTile := by
  obtain ⟨m, o, h⟩ := s.pkg.settle_eq; simp only [State.finish, h]; try rfl
@[simp] theorem State.finish_pkg_ks (s : State) : (s.finish.pkg).ks = (s.pkg).ks := by
  obtain ⟨m, o, h⟩ := s.pkg.settle_eq; simp only [State.finish, h]; try rfl
@[simp] theorem State.finish_pkg_mode (s : State) : (s.finish.pkg).mode = (s.pkg).mode := by
  obtain ⟨m, o, h⟩ := s.pkg.settle_eq; simp only [State.finish, h]; try rfl
@[simp] theorem State.finish_pkg_sw (s : State) : (s.finish.pkg).sw = (s.pkg).sw := by
  obtain ⟨m, o, h⟩ := s.pkg.settle_eq; simp only [State.finish, h]; try rfl
@[simp] theorem State.finish_pkg_macKeys (s : State) : (s.finish.pkg).macKeys = (s.pkg).macKeys := by
  obtain ⟨m, o, h⟩ := s.pkg.settle_eq; simp only [State.finish, h]; try rfl
@[simp] theorem State.finish_pkg_trKeys (s : State) : (s.finish.pkg).trKeys = (s.pkg).trKeys := by
  obtain ⟨m, o, h⟩ := s.pkg.settle_eq; simp only [State.finish, h]; try rfl
@[simp] theorem State.finish_pkg_vault (s : State) : (s.finish.pkg).vault = (s.pkg).vault := by
  obtain ⟨m, o, h⟩ := s.pkg.settle_eq; simp only [State.finish, h]; try rfl
@[simp] theorem State.finish_pkg_lease (s : State) : (s.finish.pkg).lease = (s.pkg).lease := by
  obtain ⟨m, o, h⟩ := s.pkg.settle_eq; simp only [State.finish, h]; try rfl
@[simp] theorem State.finish_pkg_trestles (s : State) : (s.finish.pkg).trestles = (s.pkg).trestles := by
  obtain ⟨m, o, h⟩ := s.pkg.settle_eq; simp only [State.finish, h]; try rfl
@[simp] theorem State.finish_pkg_bus (s : State) : (s.finish.pkg).bus = (s.pkg).bus := by
  obtain ⟨m, o, h⟩ := s.pkg.settle_eq; simp only [State.finish, h]; try rfl
@[simp] theorem State.finish_pkg_nm (s : State) : (s.finish.pkg).nm = (s.pkg).nm := by
  obtain ⟨m, o, h⟩ := s.pkg.settle_eq; simp only [State.finish, h]; try rfl
@[simp] theorem State.finish_pkg_pnSeen (s : State) : (s.finish.pkg).pnSeen = (s.pkg).pnSeen := by
  obtain ⟨m, o, h⟩ := s.pkg.settle_eq; simp only [State.finish, h]; try rfl
@[simp] theorem State.finish_pkg_bridges (s : State) : (s.finish.pkg).bridges = (s.pkg).bridges := by
  obtain ⟨m, o, h⟩ := s.pkg.settle_eq; simp only [State.finish, h]; try rfl
@[simp] theorem State.finish_pkg_dma (s : State) : (s.finish.pkg).dma = (s.pkg).dma := by
  obtain ⟨m, o, h⟩ := s.pkg.settle_eq; simp only [State.finish, h]; try rfl
@[simp] theorem State.finish_pkg_pods (s : State) : (s.finish.pkg).pods = (s.pkg).pods := by
  obtain ⟨m, o, h⟩ := s.pkg.settle_eq; simp only [State.finish, h]; try rfl
@[simp] theorem State.finish_pkg_ckLow (s : State) : (s.finish.pkg).ckLow = (s.pkg).ckLow := by
  obtain ⟨m, o, h⟩ := s.pkg.settle_eq; simp only [State.finish, h]; try rfl
@[simp] theorem State.finish_pkg_grants (s : State) : (s.finish.pkg).grants = (s.pkg).grants := by
  obtain ⟨m, o, h⟩ := s.pkg.settle_eq; simp only [State.finish, h]; try rfl
@[simp] theorem State.finish_pkg_power (s : State) : (s.finish.pkg).power = (s.pkg).power := by
  obtain ⟨m, o, h⟩ := s.pkg.settle_eq; simp only [State.finish, h]; try rfl
@[simp] theorem State.finish_pkg_wake (s : State) : (s.finish.pkg).wake = (s.pkg).wake := by
  obtain ⟨m, o, h⟩ := s.pkg.settle_eq; simp only [State.finish, h]; try rfl
@[simp] theorem State.finish_pkg_clusters (s : State) : (s.finish.pkg).clusters = (s.pkg).clusters := by
  obtain ⟨m, o, h⟩ := s.pkg.settle_eq; simp only [State.finish, h]; try rfl
@[simp] theorem State.finish_pkg_cens (s : State) : (s.finish.pkg).cens = (s.pkg).cens := by
  obtain ⟨m, o, h⟩ := s.pkg.settle_eq; simp only [State.finish, h]; try rfl
@[simp] theorem State.finish_pkg_cenReq (s : State) : (s.finish.pkg).cenReq = (s.pkg).cenReq := by
  obtain ⟨m, o, h⟩ := s.pkg.settle_eq; simp only [State.finish, h]; try rfl
@[simp] theorem State.finish_pkg_jnl (s : State) : (s.finish.pkg).jnl = (s.pkg).jnl := by
  obtain ⟨m, o, h⟩ := s.pkg.settle_eq; simp only [State.finish, h]; try rfl
@[simp] theorem State.finish_pkg_keeper (s : State) : (s.finish.pkg).keeper = (s.pkg).keeper := by
  obtain ⟨m, o, h⟩ := s.pkg.settle_eq; simp only [State.finish, h]; try rfl
@[simp] theorem State.finish_pkg_boot (s : State) : (s.finish.pkg).boot = (s.pkg).boot := by
  obtain ⟨m, o, h⟩ := s.pkg.settle_eq; simp only [State.finish, h]; try rfl
@[simp] theorem State.finish_pkg_rd (s : State) (d o : Nat) : (s.finish.pkg).rd d o = (s.pkg).rd d o := by
  obtain ⟨m, o, h⟩ := s.pkg.settle_eq; simp only [State.finish, h]; try rfl
@[simp] theorem State.finish_pkg_get (s : State) (d : Nat) (f : Fld) : (s.finish.pkg).get d f = (s.pkg).get d f := by
  obtain ⟨m, o, h⟩ := s.pkg.settle_eq; simp only [State.finish, h]; try rfl
@[simp] theorem State.finish_pkg_on (s : State) (d : Nat) (f : Fld) : (s.finish.pkg).on d f = (s.pkg).on d f := by
  obtain ⟨m, o, h⟩ := s.pkg.settle_eq; simp only [State.finish, h]; try rfl
@[simp] theorem State.finish_pkg_cnt (s : State) (d o : Nat) : (s.finish.pkg).cnt d o = (s.pkg).cnt d o := by
  obtain ⟨m, o, h⟩ := s.pkg.settle_eq; simp only [State.finish, h]; try rfl

@[simp] theorem State.finish_wipe (s : State) : s.finish.pkg.wipe = [] := (rfl)
@[simp] theorem State.finish_pending (s : State) : s.finish.pending = s.pending := (rfl)
theorem State.finish_mem (s : State) : s.finish.mem = s.pkg.wipe.foldl Mem.clearTile s.mem := by simp [State.finish]
/-- A command that takes no tile's memory leaves every byte. -/
theorem State.finish_mem_same (s : State) (h : s.pkg.wipe = []) : s.finish.mem = s.mem := by simp [State.finish, h]

@[simp] theorem State.map_pkg (s : State) (f : Pkg → Pkg) : (s.map f).pkg = f s.pkg := (rfl)
@[simp] theorem State.map_mem (s : State) (f : Pkg → Pkg) : (s.map f).mem = s.mem := (rfl)
@[simp] theorem State.map_pending (s : State) (f : Pkg → Pkg) : (s.map f).pending = s.pending := (rfl)

theorem State.map_map (s : State) (f g : Pkg → Pkg) : (s.map f).map g = s.map (fun p => g (f p)) := (rfl)

@[simp] theorem State.onPkg_pending (s : State) (f : Pkg → Pkg) : (s.onPkg f).pending = s.pending := (rfl)
theorem State.onPkg_eq (s : State) (f : Pkg → Pkg) : s.onPkg f = (s.map f).finish := (rfl)
theorem State.onFlow_eq (s : State) (f : Pkg → Pkg) : s.onFlow f = (s.map f).finishFlow := (rfl)

/-- With no frame of the trestle waiting for credit, the end of a command that gives cells back is the end of any other. -/
theorem Pkg.flushEth_none (s : Pkg) (t : Nat) (h : (s.trestle t).ready = []) : s.flushEth t = s.setTrestle t (s.trestle t) := by
  have : ({ s.trestle t with ready := [] } : TrestleSt) = s.trestle t := by
    cases hx : s.trestle t with | mk => simp_all
  simp [Pkg.flushEth, h, this]

end Sys2Proof.Machine
end

