-- ==== Sys2Proof/Laws/Access.lean ====
section
/-! SUPPORT. Laws of management accesses: what a write does that meets nothing in its way, and what an access does that is held. -/
namespace Sys2Proof.Machine

theorem addrDie_pkgAddr {die off : Nat} (hd : die < 16) (ho : off < 2 ^ 26) : addrDie (pkgAddr die off) = die := by
  unfold addrDie pkgAddr; omega

theorem addrOff_pkgAddr {off : Nat} (die : Nat) (ho : off < 2 ^ 26) : addrOff (pkgAddr die off) = off := by
  unfold addrOff pkgAddr; omega

theorem pkgAddr_lt {die off : Nat} (hd : die < 16) (ho : off < 2 ^ 26) : pkgAddr die off < 2 ^ 30 := by
  unfold pkgAddr; omega

theorem pkgAddr_inj {die die' off off' : Nat} (ho : off < 2 ^ 26) (ho' : off' < 2 ^ 26) :
    pkgAddr die off = pkgAddr die' off' ↔ die = die' ∧ off = off' := by
  unfold pkgAddr; omega

/-- Words of different dies have different addresses. -/
theorem pkgAddr_die_ne {die die' off off' : Nat} (ho : off < 2 ^ 26) (ho' : off' < 2 ^ 26) (h : die ≠ die') :
    pkgAddr die off ≠ pkgAddr die' off' := by
  rw [Ne, pkgAddr_inj ho ho']; exact fun h' => h h'.1

@[simp] theorem be15_mask (v : Word) : v &&& beMask 15 = v := by
  have : beMask 15 = BitVec.allOnes 32 := by decide
  rw [this, BitVec.and_allOnes]

/-- A merge of all four bytes is the new word. -/
@[simp] theorem byteMerge_all (old new : Word) : byteMerge 15 old new = new := by
  have h : (BitVec.ofNat 32 ((if Nat.testBit 15 0 then 0xFF else 0) + (if Nat.testBit 15 1 then 0xFF00 else 0)
      + (if Nat.testBit 15 2 then 0xFF0000 else 0) + (if Nat.testBit 15 3 then 0xFF000000 else 0)) : Word) = BitVec.allOnes 32 := by decide
  simp only [byteMerge, h, BitVec.not_allOnes, BitVec.and_zero, BitVec.zero_or, BitVec.and_allOnes]

/-! ### The clock does not matter to whether an access goes through -/

@[simp] theorem Pkg.reach_mayIssue (s : Pkg) (n : Nat) (r : Req) : (s.reach n).mayIssue r = s.mayIssue r := (rfl)
@[simp] theorem Pkg.reach_reqSt (s : Pkg) (n : Nat) (r : Req) : (s.reach n).reqSt r = s.reqSt r := (rfl)
@[simp] theorem Pkg.reach_queueAt (s : Pkg) (n : Nat) (d : Nat) : (s.reach n).queueAt d = s.queueAt d := (rfl)
@[simp] theorem Pkg.reach_waitsHome (s : Pkg) (n : Nat) (r : Req) (k : AccKind) : (s.reach n).waitsHome r k = s.waitsHome r k := (rfl)
theorem Pkg.reach_accessErr (s : Pkg) (n : Nat) (r : Req) (a : Nat) : (s.reach n).accessErr r a = s.accessErr r a := (rfl)
theorem Pkg.reach_refusedWrite (s : Pkg) (n : Nat) (r : Req) (d o : Nat) (v : Word) :
    (s.reach n).refusedWrite r d o v = s.refusedWrite r d o v := (rfl)
theorem Pkg.reach_stallsPort (s : Pkg) (n : Nat) (d o be : Nat) : (s.reach n).stallsPort d o be = s.stallsPort d o be := (rfl)
theorem Pkg.reach_absentPort (s : Pkg) (n : Nat) (d o : Nat) : (s.reach n).absentPort d o = s.absentPort d o := (rfl)

theorem Pkg.leaves_waitsHome {s : Pkg} {r : Req} (h : s.leaves r) (k : AccKind) : s.waitsHome r k = false := by
  obtain ⟨_, _, hf, hu⟩ := h
  cases k <;> simp [Pkg.waitsHome, hf, hu]

/-! ### Trace -/

/-- Trace only adds to what leaves the package. -/
theorem Pkg.trace_eq (s : Pkg) (r : Req) (w : Bool) (a : Nat) (v : Word) : ∃ o, s.trace r w a v = { s with out := o } := by
  unfold Pkg.trace
  dsimp only
  split
  · exact ⟨s.out, rfl⟩
  · exact ⟨_, rfl⟩

@[simp] theorem Pkg.trace_now (s : Pkg) (r : Req) (w : Bool) (a : Nat) (v : Word) : (s.trace r w a v).now = s.now := by
  obtain ⟨_, h⟩ := s.trace_eq r w a v; rw [h]
@[simp] theorem Pkg.trace_reqSt (s : Pkg) (r : Req) (w : Bool) (a : Nat) (v : Word) (q : Req) : (s.trace r w a v).reqSt q = s.reqSt q := by
  obtain ⟨_, h⟩ := s.trace_eq r w a v; rw [h]; rfl
@[simp] theorem Pkg.trace_queueAt (s : Pkg) (r : Req) (w : Bool) (a : Nat) (v : Word) (d : Nat) : (s.trace r w a v).queueAt d = s.queueAt d := by
  obtain ⟨_, h⟩ := s.trace_eq r w a v; rw [h]; rfl
@[simp] theorem Pkg.trace_accessErr (s : Pkg) (r : Req) (w : Bool) (a : Nat) (v : Word) (q : Req) (b : Nat) : (s.trace r w a v).accessErr q b = s.accessErr q b := by
  obtain ⟨_, h⟩ := s.trace_eq r w a v; rw [h]; rfl
@[simp] theorem Pkg.trace_refusedWrite (s : Pkg) (r : Req) (w : Bool) (a : Nat) (v : Word) (q : Req) (d o : Nat) (x : Word) : (s.trace r w a v).refusedWrite q d o x = s.refusedWrite q d o x := by
  obtain ⟨_, h⟩ := s.trace_eq r w a v; rw [h]; rfl
@[simp] theorem Pkg.trace_stallsPort (s : Pkg) (r : Req) (w : Bool) (a : Nat) (v : Word) (d o be : Nat) : (s.trace r w a v).stallsPort d o be = s.stallsPort d o be := by
  obtain ⟨_, h⟩ := s.trace_eq r w a v; rw [h]; rfl

/-- An access of a requester whose home die lets it go is issued. -/
theorem State.access_leaves {s : State} {r : Req} (h : s.pkg.leaves r) (addr : Nat) (k : AccKind) : s.access r addr k = s.issue r addr k := by
  have hw := Pkg.leaves_waitsHome h k
  obtain ⟨hm, hh, _, _⟩ := h
  simp [State.access, State.send, hm, hh, hw]

/-- An access behind an open fence, or a write beyond the 64th, is held (R51). -/
theorem State.access_held {s : State} {r : Req} (hm : s.pkg.mayIssue r = true) {k : AccKind} (hw : s.pkg.waitsHome r k = true) (addr : Nat) :
    s.access r addr k = s.map (fun p => p.setReqSt r { p.reqSt r with held := (p.reqSt r).held ++ [{ req := r, addr := addr, kind := k }] }) := by
  simp [State.access, State.send, hm, hw]

/-- A write that reaches its target is remembered at its home die and takes effect. -/
theorem State.access_reaches {s : State} {r : Req} {die off : Nat} {value : Word} (h : s.pkg.reaches r die off value) :
    s.access r (pkgAddr die off) (.write value 15) = (s.map (fun p => p.remember r die off value)).applyWrite r die off value 15 := by
  obtain ⟨hl, hd, ho, h4, hf, he, hr, hq, hs, _⟩ := h
  have h30 : pkgAddr die off % 2 ^ 30 = pkgAddr die off := Nat.mod_eq_of_lt (pkgAddr_lt hd ho)
  have hb : (pkgAddr die off).testBit 30 = false := Nat.testBit_lt_two_pow (pkgAddr_lt hd ho)
  have ho4 : off - off % 4 = off := by omega
  rw [State.access_leaves hl]
  simp only [State.issue]
  rw [h30]
  simp [State.issueWrite, State.map, Pkg.remember, addrDie_pkgAddr hd ho, addrOff_pkgAddr die ho, ho4, he, hf, hr, hq, hs, hb]

theorem Pkg.reaches_reach {s : Pkg} {r : Req} {die off : Nat} {value : Word} (h : s.reaches r die off value) (n : Nat) :
    (s.reach n).reaches r die off value := h

/-- A command that is a write of a word takes effect at the instant of the command. -/
theorem State.regWrite_reaches {s : State} {a : Acc} {die off : Nat} {value : Word} (h : s.pkg.reaches a.req die off value) :
    s.regWrite a die off value = (s.map (fun p => (p.reach a.at_).remember a.req die off value)).applyWrite a.req die off value 15 := by
  have hd := h.2.1
  have ho := h.2.2.1
  rw [State.regWrite, if_pos ⟨hd, ho⟩]
  exact State.access_reaches (s := s.map (fun p => p.reach a.at_)) (Pkg.reaches_reach h _)

/-- A write to a tile, but for UP_CMD, acts on the package alone. -/
theorem State.applyWrite_tile {s : State} {r : Req} {die off : Nat} {value : Word} (hp : s.pkg.absentPort die off = false) (h4 : off % 4 = 0)
    (hd : die ≠ 15) (hu : off ≠ 0x2100004) (be : Nat) : s.applyWrite r die off value be = s.map (fun p => p.writeTile r die off value be) := by
  have ho4 : off - off % 4 = off := by omega
  simp [State.applyWrite, ho4, hp, hd, hu]

/-- A write to the sentinel, but for WK_CONFIRM, acts on the package alone. -/
theorem State.applyWrite_sentinel {s : State} {r : Req} {off : Nat} {value : Word} (h4 : off % 4 = 0)
    (hu : off ≠ 0x20010) (be : Nat) : s.applyWrite r 15 off value be = s.map (fun p => p.writeSentinel r off value be) := by
  have ho4 : off - off % 4 = off := by omega
  simp [State.applyWrite, ho4, hu, Pkg.absentPort]

/-! ### What the home die remembers is no register -/

theorem Pkg.remember_eq (s : Pkg) (r : Req) (d o : Nat) (v : Word) :
    ∃ x k q, s.remember r d o v = { (s.setReqSt r x) with portTurn := k, out := q } := by
  obtain ⟨q, h⟩ := s.trace_eq r true (pkgAddr d o) v
  unfold Pkg.remember
  rw [h]
  exact ⟨_, _, _, rfl⟩

@[simp] theorem Pkg.remember_variant (s : Pkg) (r : Req) (d o : Nat) (v : Word) : (s.remember r d o v).variant = s.variant := by
  obtain ⟨x, k, q, h⟩ := s.remember_eq r d o v; rw [h]; rfl
@[simp] theorem Pkg.remember_now (s : Pkg) (r : Req) (d o : Nat) (v : Word) : (s.remember r d o v).now = s.now := by
  obtain ⟨x, k, q, h⟩ := s.remember_eq r d o v; rw [h]; rfl
@[simp] theorem Pkg.remember_regs (s : Pkg) (r : Req) (d o : Nat) (v : Word) : (s.remember r d o v).regs = s.regs := by
  obtain ⟨x, k, q, h⟩ := s.remember_eq r d o v; rw [h]; rfl
@[simp] theorem Pkg.remember_shadow (s : Pkg) (r : Req) (d o : Nat) (v : Word) : (s.remember r d o v).shadow = s.shadow := by
  obtain ⟨x, k, q, h⟩ := s.remember_eq r d o v; rw [h]; rfl
@[simp] theorem Pkg.remember_ctr (s : Pkg) (r : Req) (d o : Nat) (v : Word) : (s.remember r d o v).ctr = s.ctr := by
  obtain ⟨x, k, q, h⟩ := s.remember_eq r d o v; rw [h]; rfl
@[simp] theorem Pkg.remember_latch (s : Pkg) (r : Req) (d o : Nat) (v : Word) : (s.remember r d o v).latch = s.latch := by
  obtain ⟨x, k, q, h⟩ := s.remember_eq r d o v; rw [h]; rfl
@[simp] theorem Pkg.remember_sets (s : Pkg) (r : Req) (d o : Nat) (v : Word) : (s.remember r d o v).sets = s.sets := by
  obtain ⟨x, k, q, h⟩ := s.remember_eq r d o v; rw [h]; rfl
@[simp] theorem Pkg.remember_coldNext (s : Pkg) (r : Req) (d o : Nat) (v : Word) : (s.remember r d o v).coldNext = s.coldNext := by
  obtain ⟨x, k, q, h⟩ := s.remember_eq r d o v; rw [h]; rfl
@[simp] theorem Pkg.remember_revs (s : Pkg) (r : Req) (d o : Nat) (v : Word) : (s.remember r d o v).revs = s.revs := by
  obtain ⟨x, k, q, h⟩ := s.remember_eq r d o v; rw [h]; rfl
@[simp] theorem Pkg.remember_fresh (s : Pkg) (r : Req) (d o : Nat) (v : Word) : (s.remember r d o v).fresh = s.fresh := by
  obtain ⟨x, k, q, h⟩ := s.remember_eq r d o v; rw [h]; rfl
@[simp] theorem Pkg.remember_msix (s : Pkg) (r : Req) (d o : Nat) (v : Word) : (s.remember r d o v).msix = s.msix := by
  obtain ⟨x, k, q, h⟩ := s.remember_eq r d o v; rw [h]; rfl
@[simp] theorem Pkg.remember_portQ (s : Pkg) (r : Req) (d o : Nat) (v : Word) : (s.remember r d o v).portQ = s.portQ := by
  obtain ⟨x, k, q, h⟩ := s.remember_eq r d o v; rw [h]; rfl
@[simp] theorem Pkg.remember_spans (s : Pkg) (r : Req) (d o : Nat) (v : Word) : (s.remember r d o v).spans = s.spans := by
  obtain ⟨x, k, q, h⟩ := s.remember_eq r d o v; rw [h]; rfl
@[simp] theorem Pkg.remember_routes (s : Pkg) (r : Req) (d o : Nat) (v : Word) : (s.remember r d o v).routes = s.routes := by
  obtain ⟨x, k, q, h⟩ := s.remember_eq r d o v; rw [h]; rfl
@[simp] theorem Pkg.remember_ctrl (s : Pkg) (r : Req) (d o : Nat) (v : Word) : (s.remember r d o v).ctrl = s.ctrl := by
  obtain ⟨x, k, q, h⟩ := s.remember_eq r d o v; rw [h]; rfl
@[simp] theorem Pkg.remember_tethers (s : Pkg) (r : Req) (d o : Nat) (v : Word) : (s.remember r d o v).tethers = s.tethers := by
  obtain ⟨x, k, q, h⟩ := s.remember_eq r d o v; rw [h]; rfl
@[simp] theorem Pkg.remember_tether (s : Pkg) (r : Req) (d o : Nat) (v : Word) : (s.remember r d o v).tether = s.tether := by
  obtain ⟨x, k, q, h⟩ := s.remember_eq r d o v; rw [h]; rfl
@[simp] theorem Pkg.remember_clocks (s : Pkg) (r : Req) (d o : Nat) (v : Word) : (s.remember r d o v).clocks = s.clocks := by
  obtain ⟨x, k, q, h⟩ := s.remember_eq r d o v; rw [h]; rfl
@[simp] theorem Pkg.remember_ref (s : Pkg) (r : Req) (d o : Nat) (v : Word) : (s.remember r d o v).ref = s.ref := by
  obtain ⟨x, k, q, h⟩ := s.remember_eq r d o v; rw [h]; rfl
@[simp] theorem Pkg.remember_ksTile (s : Pkg) (r : Req) (d o : Nat) (v : Word) : (s.remember r d o v).ksTile = s.ksTile := by
  obtain ⟨x, k, q, h⟩ := s.remember_eq r d o v; rw [h]; rfl
@[simp] theorem Pkg.remember_ks (s : Pkg) (r : Req) (d o : Nat) (v : Word) : (s.remember r d o v).ks = s.ks := by
  obtain ⟨x, k, q, h⟩ := s.remember_eq r d o v; rw [h]; rfl
@[simp] theorem Pkg.remember_mode (s : Pkg) (r : Req) (d o : Nat) (v : Word) : (s.remember r d o v).mode = s.mode := by
  obtain ⟨x, k, q, h⟩ := s.remember_eq r d o v; rw [h]; rfl
@[simp] theorem Pkg.remember_sw (s : Pkg) (r : Req) (d o : Nat) (v : Word) : (s.remember r d o v).sw = s.sw := by
  obtain ⟨x, k, q, h⟩ := s.remember_eq r d o v; rw [h]; rfl
@[simp] theorem Pkg.remember_macKeys (s : Pkg) (r : Req) (d o : Nat) (v : Word) : (s.remember r d o v).macKeys = s.macKeys := by
  obtain ⟨x, k, q, h⟩ := s.remember_eq r d o v; rw [h]; rfl
@[simp] theorem Pkg.remember_trKeys (s : Pkg) (r : Req) (d o : Nat) (v : Word) : (s.remember r d o v).trKeys = s.trKeys := by
  obtain ⟨x, k, q, h⟩ := s.remember_eq r d o v; rw [h]; rfl
@[simp] theorem Pkg.remember_vault (s : Pkg) (r : Req) (d o : Nat) (v : Word) : (s.remember r d o v).vault = s.vault := by
  obtain ⟨x, k, q, h⟩ := s.remember_eq r d o v; rw [h]; rfl
@[simp] theorem Pkg.remember_lease (s : Pkg) (r : Req) (d o : Nat) (v : Word) : (s.remember r d o v).lease = s.lease := by
  obtain ⟨x, k, q, h⟩ := s.remember_eq r d o v; rw [h]; rfl
@[simp] theorem Pkg.remember_trestles (s : Pkg) (r : Req) (d o : Nat) (v : Word) : (s.remember r d o v).trestles = s.trestles := by
  obtain ⟨x, k, q, h⟩ := s.remember_eq r d o v; rw [h]; rfl
@[simp] theorem Pkg.remember_bus (s : Pkg) (r : Req) (d o : Nat) (v : Word) : (s.remember r d o v).bus = s.bus := by
  obtain ⟨x, k, q, h⟩ := s.remember_eq r d o v; rw [h]; rfl
@[simp] theorem Pkg.remember_nm (s : Pkg) (r : Req) (d o : Nat) (v : Word) : (s.remember r d o v).nm = s.nm := by
  obtain ⟨x, k, q, h⟩ := s.remember_eq r d o v; rw [h]; rfl
@[simp] theorem Pkg.remember_pnSeen (s : Pkg) (r : Req) (d o : Nat) (v : Word) : (s.remember r d o v).pnSeen = s.pnSeen := by
  obtain ⟨x, k, q, h⟩ := s.remember_eq r d o v; rw [h]; rfl
@[simp] theorem Pkg.remember_bridges (s : Pkg) (r : Req) (d o : Nat) (v : Word) : (s.remember r d o v).bridges = s.bridges := by
  obtain ⟨x, k, q, h⟩ := s.remember_eq r d o v; rw [h]; rfl
@[simp] theorem Pkg.remember_dma (s : Pkg) (r : Req) (d o : Nat) (v : Word) : (s.remember r d o v).dma = s.dma := by
  obtain ⟨x, k, q, h⟩ := s.remember_eq r d o v; rw [h]; rfl
@[simp] theorem Pkg.remember_pods (s : Pkg) (r : Req) (d o : Nat) (v : Word) : (s.remember r d o v).pods = s.pods := by
  obtain ⟨x, k, q, h⟩ := s.remember_eq r d o v; rw [h]; rfl
@[simp] theorem Pkg.remember_ckLow (s : Pkg) (r : Req) (d o : Nat) (v : Word) : (s.remember r d o v).ckLow = s.ckLow := by
  obtain ⟨x, k, q, h⟩ := s.remember_eq r d o v; rw [h]; rfl
@[simp] theorem Pkg.remember_grants (s : Pkg) (r : Req) (d o : Nat) (v : Word) : (s.remember r d o v).grants = s.grants := by
  obtain ⟨x, k, q, h⟩ := s.remember_eq r d o v; rw [h]; rfl
@[simp] theorem Pkg.remember_power (s : Pkg) (r : Req) (d o : Nat) (v : Word) : (s.remember r d o v).power = s.power := by
  obtain ⟨x, k, q, h⟩ := s.remember_eq r d o v; rw [h]; rfl
@[simp] theorem Pkg.remember_wake (s : Pkg) (r : Req) (d o : Nat) (v : Word) : (s.remember r d o v).wake = s.wake := by
  obtain ⟨x, k, q, h⟩ := s.remember_eq r d o v; rw [h]; rfl
@[simp] theorem Pkg.remember_clusters (s : Pkg) (r : Req) (d o : Nat) (v : Word) : (s.remember r d o v).clusters = s.clusters := by
  obtain ⟨x, k, q, h⟩ := s.remember_eq r d o v; rw [h]; rfl
@[simp] theorem Pkg.remember_cens (s : Pkg) (r : Req) (d o : Nat) (v : Word) : (s.remember r d o v).cens = s.cens := by
  obtain ⟨x, k, q, h⟩ := s.remember_eq r d o v; rw [h]; rfl
@[simp] theorem Pkg.remember_cenReq (s : Pkg) (r : Req) (d o : Nat) (v : Word) : (s.remember r d o v).cenReq = s.cenReq := by
  obtain ⟨x, k, q, h⟩ := s.remember_eq r d o v; rw [h]; rfl
@[simp] theorem Pkg.remember_jnl (s : Pkg) (r : Req) (d o : Nat) (v : Word) : (s.remember r d o v).jnl = s.jnl := by
  obtain ⟨x, k, q, h⟩ := s.remember_eq r d o v; rw [h]; rfl
@[simp] theorem Pkg.remember_keeper (s : Pkg) (r : Req) (d o : Nat) (v : Word) : (s.remember r d o v).keeper = s.keeper := by
  obtain ⟨x, k, q, h⟩ := s.remember_eq r d o v; rw [h]; rfl
@[simp] theorem Pkg.remember_boot (s : Pkg) (r : Req) (d o : Nat) (v : Word) : (s.remember r d o v).boot = s.boot := by
  obtain ⟨x, k, q, h⟩ := s.remember_eq r d o v; rw [h]; rfl
@[simp] theorem Pkg.remember_wipe (s : Pkg) (r : Req) (d o : Nat) (v : Word) : (s.remember r d o v).wipe = s.wipe := by
  obtain ⟨x, k, q, h⟩ := s.remember_eq r d o v; rw [h]; rfl
@[simp] theorem Pkg.remember_rd (s : Pkg) (r : Req) (d o : Nat) (v : Word) (d2 o2 : Nat) : (s.remember r d o v).rd d2 o2 = s.rd d2 o2 := by
  obtain ⟨x, k, q, h⟩ := s.remember_eq r d o v; rw [h]; rfl
@[simp] theorem Pkg.remember_get (s : Pkg) (r : Req) (d o : Nat) (v : Word) (d2 : Nat) (f2 : Fld) : (s.remember r d o v).get d2 f2 = s.get d2 f2 := by
  obtain ⟨x, k, q, h⟩ := s.remember_eq r d o v; rw [h]; rfl
@[simp] theorem Pkg.remember_on (s : Pkg) (r : Req) (d o : Nat) (v : Word) (d2 : Nat) (f2 : Fld) : (s.remember r d o v).on d2 f2 = s.on d2 f2 := by
  obtain ⟨x, k, q, h⟩ := s.remember_eq r d o v; rw [h]; rfl
@[simp] theorem Pkg.remember_cnt (s : Pkg) (r : Req) (d o : Nat) (v : Word) (d2 o2 : Nat) : (s.remember r d o v).cnt d2 o2 = s.cnt d2 o2 := by
  obtain ⟨x, k, q, h⟩ := s.remember_eq r d o v; rw [h]; rfl

theorem Pkg.remember_absentPort (s : Pkg) (r : Req) (d o : Nat) (v : Word) (d2 o2 : Nat) :
    (s.remember r d o v).absentPort d2 o2 = s.absentPort d2 o2 := by
  obtain ⟨x, k, q, h⟩ := s.remember_eq r d o v; rw [h]; rfl

end Sys2Proof.Machine
end

