-- ==== Sys2Proof/Laws/Keeps.lean ====
section
/-! SUPPORT. What every operation on the machine keeps: the commands that wait stay as they are, and the byte memories keep their canonical form. -/
namespace Sys2Proof.Machine

/-! ### Memory operations keep the canonical form -/

theorem Mem.set_wf {m : Mem} (h : m.wf = true) (tile a : Nat) (b : Byte) : (m.set tile a b).wf = true :=
  SMap.wf_set (fun _ => (0 : Byte)) m.cells (cellKey tile a) b h

theorem Mem.write_wf {m : Mem} (h : m.wf = true) (tile a : Nat) (bs : List Byte) : (m.write tile a bs).wf = true := by
  induction bs generalizing m a with
  | nil => exact h
  | cons b bs ih => exact ih (Mem.set_wf h tile a b) (a + 1)

theorem Mem.clearTile_wf {m : Mem} (h : m.wf = true) (tile : Nat) : (m.clearTile tile).wf = true :=
  SMap.wf_filter (fun _ => (0 : Byte)) m.cells _ h

theorem Mem.norWrite_wf {m : Mem} (h : m.wf = true) (a : Nat) (bs : List Byte) : (m.norWrite a bs).wf = true := Mem.write_wf h 15 a _

theorem Mem.foldl_wf {β : Type} {f : Mem → β → Mem} (hf : ∀ m b, m.wf = true → (f m b).wf = true) (l : List β) {m : Mem} (h : m.wf = true) :
    (l.foldl f m).wf = true := by
  induction l generalizing m with
  | nil => exact h
  | cons b l ih => exact ih (hf m b h)

theorem Mem.ite_wf {c : Prop} [Decidable c] {m n : Mem} (h : m.wf = true) (h' : n.wf = true) : (if c then m else n).wf = true := by
  split <;> assumption

/-- A byte written reads as written, every other byte as before. -/
theorem Mem.get_set (m : Mem) (tile a tile' a' : Nat) (b : Byte) :
    (m.set tile a b).get tile' a' = if cellKey tile' a' = cellKey tile a then b else m.get tile' a' :=
  SMap.get_set 0 m.cells (cellKey tile a) (cellKey tile' a') b

/-! ### Operations on the machine -/

/-- The commands that wait stay as they are, the memories keep their canonical form. -/
def Keeps (s t : State) : Prop := t.pending = s.pending ∧ (s.mem.wf = true → t.mem.wf = true)

namespace Keeps

theorem refl (s : State) : Keeps s s := ⟨rfl, id⟩
theorem trans {s t u : State} (h : Keeps s t) (h' : Keeps t u) : Keeps s u := ⟨h'.1.trans h.1, fun x => h'.2 (h.2 x)⟩
theorem map {s t : State} (h : Keeps s t) (f : Pkg → Pkg) : Keeps s (t.map f) := h
theorem pkg {s t : State} (h : Keeps s t) (p : Pkg) : Keeps s { t with pkg := p } := h
theorem mem {s t : State} (h : Keeps s t) (p : Pkg) {m : Mem} (hm : t.mem.wf = true → m.wf = true) : Keeps s { t with pkg := p, mem := m } :=
  ⟨h.1, fun x => hm (h.2 x)⟩
theorem ite {s t u : State} {c : Prop} [Decidable c] (h : Keeps s t) (h' : Keeps s u) : Keeps s (if c then t else u) := by split <;> assumption
theorem foldl {β : Type} {f : State → β → State} (hf : ∀ t b, Keeps t (f t b)) (l : List β) {s t : State} (h : Keeps s t) :
    Keeps s (l.foldl f t) := by
  induction l generalizing t with
  | nil => exact h
  | cons b l ih => exact ih (h.trans (hf t b))

theorem finish {s t : State} (h : Keeps s t) : Keeps s t.finish := by
  refine ⟨h.1, fun x => ?_⟩
  rw [State.finish_mem]
  exact Mem.foldl_wf (fun m b hm => Mem.clearTile_wf hm b) _ (h.2 x)

theorem finishFlow {s t : State} (h : Keeps s t) : Keeps s t.finishFlow := (h.map _).finish
theorem onPkg {s t : State} (h : Keeps s t) {f : Pkg → Pkg} : Keeps s (t.onPkg f) := (h.map f).finish
theorem onFlow {s t : State} (h : Keeps s t) {f : Pkg → Pkg} : Keeps s (t.onFlow f) := onPkg h

/-! Updates and activations -/

theorem writeRecord {s t : State} (h : Keeps s t) (f : BootRec → BootRec) : Keeps s (t.writeRecord f) :=
  h.mem _ (fun hm => Mem.norWrite_wf (Mem.norWrite_wf hm _ _) _ _)

theorem upWrite {s t : State} (h : Keeps s t) : Keeps s t.upWrite := by
  unfold State.upWrite
  exact ite (h.map _) (ite (h.map _) ((ite (((h.map _).writeRecord _).map _) (h.map _)).map _))

theorem startActivation {s t : State} (h : Keeps s t) (slot : Nat) (b : Bool) : Keeps s (t.startActivation slot b) := by
  unfold State.startActivation
  exact h.map _

theorem recordNext {s t : State} (h : Keeps s t) : Keeps s t.recordNext := h.writeRecord _
theorem recordBack {s t : State} (h : Keeps s t) : Keeps s t.recordBack := h.writeRecord _

theorem upActivate {s t : State} (h : Keeps s t) (n : Nat) : Keeps s (t.upActivate n) := by
  unfold State.upActivate
  exact ite (h.map _) (ite (h.map _) (ite (h.map _) (ite (h.map _)
    (ite (ite (h.map _) (h.startActivation _ _)) (ite (h.recordNext.map _) (h.recordNext.map _))))))

theorem upConfirm {s t : State} (h : Keeps s t) : Keeps s t.upConfirm := by
  unfold State.upConfirm
  exact ite (h.map _) ((h.writeRecord _).map _)

theorem startFallback {s t : State} (h : Keeps s t) : Keeps s t.startFallback := by
  unfold State.startFallback
  exact ite (h.map _) (ite (h.map _).recordBack (ite ((h.map _).startActivation _ _) ((h.map _).recordBack.map _)))

theorem fallIfWaiting {s t : State} (h : Keeps s t) : Keeps s t.fallIfWaiting := ite h.startFallback h
theorem upAbandon {s t : State} (h : Keeps s t) : Keeps s t.upAbandon := ite h.startFallback (h.map _)
theorem trialEnds {s t : State} (h : Keeps s t) : Keeps s t.trialEnds := ite (h.map _).startFallback h

theorem upCmd {s t : State} (h : Keeps s t) (v : Word) : Keeps s (t.upCmd v) := by
  unfold State.upCmd
  exact ite (h.map _) (ite h.upWrite (ite (h.map _) (ite (h.upActivate _) (ite h.upConfirm (ite h.upAbandon (h.map _))))))

/-! Sleep -/

theorem park {s t : State} (h : Keeps s t) : Keeps s t.park := by
  unfold State.park
  exact ite h ((ite (h.writeRecord _) h).pkg _)

theorem checkSleep {s t : State} (h : Keeps s t) : Keeps s t.checkSleep := ite h.park h
theorem confirmWake {s t : State} (h : Keeps s t) (v : Word) : Keeps s (confirmWakeEff v t) := (h.pkg _).checkSleep

theorem nmWaitExpire {s t : State} (h : Keeps s t) (ch : Nat) : Keeps s (nmWaitExpire ch t) := by
  unfold Machine.nmWaitExpire
  exact ite h (h.pkg _).checkSleep

theorem falseWake {s t : State} (h : Keeps s t) : Keeps s (falseWake t) := by
  unfold Machine.falseWake
  split
  · exact h
  · exact ite h (h.pkg _).park

theorem hkMax {s t : State} (h : Keeps s t) : Keeps s (hkMax t) := by
  unfold Machine.hkMax
  split
  · exact h
  · exact ite h (h.pkg _).park

/-! Management accesses -/

theorem applyWrite {s t : State} (h : Keeps s t) (r : Req) (d o : Nat) (v : Word) (be : Nat) : Keeps s (t.applyWrite r d o v be) := by
  unfold State.applyWrite
  exact ite h (ite (ite (h.confirmWake _) (h.map _)) (ite (ite (h.map _) (h.upCmd _)) (h.map _)))

theorem drainPort {s t : State} (h : Keeps s t) (d n : Nat) : Keeps s (t.drainPort d n) := by
  induction n generalizing t with
  | zero => exact h
  | succ n ih =>
    unfold State.drainPort
    split
    · exact h
    · split
      · exact ih ((h.map _).map _)
      · exact ih ((h.map _).map _)
      · exact ite h (ih ((h.map _).applyWrite _ _ _ _ _))

theorem drainPorts {s t : State} (h : Keeps s t) : Keeps s t.drainPorts := foldl (fun t _ => (refl t).drainPort _ _) _ h

theorem issueWrite {s t : State} (h : Keeps s t) (r : Req) (a : Nat) (v : Word) (be : Nat) (b : Bool) : Keeps s (t.issueWrite r a v be b) := by
  unfold State.issueWrite
  dsimp only
  exact ite (h.map _) (ite (ite (h.map _) (ite (h.map _) h)) (ite (h.map _) (ite ((h.map _).map _) (applyWrite (map (h.map _) _) _ _ _ _ _))))

theorem issue {s t : State} (h : Keeps s t) (r : Req) (a : Nat) (k : AccKind) : Keeps s (t.issue r a k) := by
  unfold State.issue
  split
  · exact h.map _
  · exact (h.map _).issueWrite _ _ _ _ _
  · exact h.map _

theorem drainHome {s t : State} (h : Keeps s t) (r : Req) (n : Nat) : Keeps s (t.drainHome r n) := by
  induction n generalizing t with
  | zero => exact h
  | succ n ih =>
    unfold State.drainHome
    split
    · exact h
    · exact ite h (ih ((h.map _).issue _ _ _))

theorem releaseHome {s t : State} (h : Keeps s t) (r : Req) : Keeps s (t.releaseHome r) := h.drainHome _ _

theorem send {s t : State} (h : Keeps s t) (r : Req) (a : Nat) (k : AccKind) : Keeps s (t.send r a k) := ite (h.map _) (h.issue _ _ _)
theorem access {s t : State} (h : Keeps s t) (r : Req) (a : Nat) (k : AccKind) : Keeps s (t.access r a k) := ite (h.send _ _ _) h

theorem writeAck {s t : State} (h : Keeps s t) (r : Req) (id n : Nat) : Keeps s (writeAck r id n t) := by
  unfold Machine.writeAck
  dsimp only
  split
  · exact ite (h.map _) ((h.map _).map _ |>.releaseHome _)
  · exact h.map _

theorem targetTimeout {s t : State} (h : Keeps s t) (r : Req) (id : Nat) : Keeps s (targetTimeout r id t) := by
  unfold Machine.targetTimeout
  split
  · exact h.map _
  · split
    · exact ite h ((h.map _).releaseHome _)
    · exact h

theorem fenceTimeout {s t : State} (h : Keeps s t) (r : Req) : Keeps s (fenceTimeout r t) := by
  unfold Machine.fenceTimeout
  split
  · exact (h.map _).releaseHome _
  · exact h

theorem regWrite {s t : State} (h : Keeps s t) (a : Acc) (d o : Nat) (v : Word) : Keeps s (t.regWrite a d o v) := ite ((h.map _).access _ _ _) h
theorem regRead {s t : State} (h : Keeps s t) (a : Acc) (d o : Nat) : Keeps s (t.regRead a d o) := ite ((h.map _).access _ _ _) h
theorem regWriteIf {s t : State} (h : Keeps s t) (b : Bool) (a : Acc) (d o : Nat) (v : Word) : Keeps s (t.regWriteIf b a d o v) :=
  ite (h.regWrite _ _ _ _) h
theorem vaultWrite {s t : State} (h : Keeps s t) (a : Acc) (n m : Nat) : Keeps s (t.vaultWrite a n m) := h.regWriteIf _ _ _ _ _

/-! The ends of commands that are steps of a keystone commit -/

theorem finishKeystone {s t : State} (h : Keeps s t) : Keeps s t.finishKeystone := h.drainPorts.fallIfWaiting.finishFlow
theorem onKeystone {s t : State} (h : Keeps s t) {f : Pkg → Pkg} : Keeps s (t.onKeystone f) := (h.map _).finishKeystone

/-! Update commands, activations, start-up -/

theorem stage {s t : State} (h : Keeps s t) (c : Container) (b : Bool) : Keeps s (t.stage c b) :=
  h.mem t.pkg (Mem.foldl_wf (fun _ _ hm => Mem.write_wf hm _ _ _) _)

theorem program {s t : State} (h : Keeps s t) (b a n : Nat) (ok : Bool) : Keeps s (t.program b a n ok) := h.mem _ (fun hm => Mem.norWrite_wf hm _ _)

theorem verifyDone {s t : State} (h : Keeps s t) (b : Bool) : Keeps s (t.verifyDone b) := by
  unfold State.verifyDone
  exact ite (h.map _) (ite ((h.map _).map _) (ite ((h.map _).map _) (((h.map _).stage _ _).map _)))

theorem upCommandDone {s t : State} (h : Keeps s t) (b : Bool) (n : Nat) : Keeps s (upCommandDone b n t) := by
  unfold Machine.upCommandDone
  dsimp only
  split
  · exact h.map _
  · exact ((h.map _).program _ _ _ _).map _
  · exact ((h.map _).program _ _ _ _).map _
  · exact (h.map _).verifyDone _

theorem applyPresets {s t : State} (h : Keeps s t) (c : Container) (p : Section → Bool) (n : Nat) : Keeps s (t.applyPresets c p n) :=
  foldl (fun u _ => foldl (fun v _ => (refl v).applyWrite _ _ _ _ _) _ (refl u)) _ h

theorem restartTile {s t : State} (h : Keeps s t) (c : Container) (n : Nat) : Keeps s (t.restartTile c n) := (h.map _).applyPresets _ _ _

theorem recordActivated {s t : State} (h : Keeps s t) (n : Nat) (b : Bool) : Keeps s (t.recordActivated n b) :=
  ite (h.writeRecord _) ((h.writeRecord _).map _)

theorem takeSlot {s t : State} (h : Keeps s t) (n : Nat) : Keeps s (t.takeSlot n) := ((h.stage _ _).map _).recordActivated _ _

theorem endActivation {s t : State} (h : Keeps s t) : Keeps s t.endActivation := by
  unfold State.endActivation
  dsimp only
  refine map ?_ _
  refine ite (map ?_ _) (takeSlot ?_ _) <;> exact ite ((foldl (fun u _ => (refl u).restartTile _ _) _ h).map _) h

theorem activationRestartDone {s t : State} (h : Keeps s t) (n : Nat) (b : Bool) (m : Nat) : Keeps s (activationRestartDone n b m t) := by
  unfold Machine.activationRestartDone
  exact ite (h.map _) (ite ((h.map _).map _) (ite ((h.map _).map _).endActivation ((h.map _).map _)))

theorem activationTimeout {s t : State} (h : Keeps s t) : Keeps s (activationTimeout t) := by
  unfold Machine.activationTimeout
  exact ite h (ite ((h.map _).map _) (ite ((h.map _).map _) ((h.map _).map _).endActivation))

theorem reloadInTrial {s t : State} (h : Keeps s t) : Keeps s t.reloadInTrial := by
  unfold State.reloadInTrial
  exact ite (h.recordBack.map _) (h.map _).startFallback

theorem stewardReloadDone {s t : State} (h : Keeps s t) (n m : Nat) : Keeps s (stewardReloadDone n m t) := by
  unfold Machine.stewardReloadDone
  exact ite (h.map _) (ite ((h.map _).map _).reloadInTrial ((h.map _).map _))

theorem foldl_fst {β γ : Type} {f : State × β → γ → State × β} (hf : ∀ q c, Keeps q.1 (f q c).1) (l : List γ) {s : State} {q : State × β}
    (h : Keeps s q.1) : Keeps s (l.foldl f q).1 := by
  induction l generalizing q with
  | nil => exact h
  | cons c l ih => exact ih (h.trans (hf q c))

theorem scrubContainer {s t : State} (h : Keeps s t) (n m : Nat) (b : Bool) : Keeps s (t.scrubContainer n m b).1 := by
  unfold State.scrubContainer
  dsimp only
  split
  · exact h
  · refine foldl_fst (fun q i => ?_) _ h
    split
    · exact refl _
    · split
      · exact refl _
      · split
        · exact (refl q.1).mem _ (fun hm => Mem.norWrite_wf hm _ _)
        · exact refl _

theorem scrubSlot {s t : State} (h : Keeps s t) (n : Nat) (b : Bool) : Keeps s (t.scrubSlot n b) := ((h.scrubContainer _ _ _).scrubContainer _ _ _).map _
theorem norScrubRun {s t : State} (h : Keeps s t) (b : Bool) : Keeps s (t.norScrubRun b) := by
  unfold State.norScrubRun
  exact map ((h.scrubSlot 0 b).scrubSlot 1 b) _

theorem workOnce {s t : State} (h : Keeps s t) (w : Work) (l : List Work) (b : Bool) (e : List CodeRead) : Keeps s (t.workOnce w l b e) := by
  unfold State.workOnce
  dsimp only
  split
  · exact (h.map _).norScrubRun _
  · exact (h.map _).map _

theorem keeperWork {s t : State} (h : Keeps s t) (b : Bool) (e : List CodeRead) (n : Nat) : Keeps s (keeperWork b e n t) := by
  unfold Machine.keeperWork
  dsimp only
  split
  · exact h.map _
  · have hk : ∀ u, Keeps s u → Keeps s (match u.pkg.keeper.work with
        | w :: l => if w = .nor ∧ u.pkg.get 0 fUpState ≠ 0 then u else u.workOnce w l b e
        | [] => u) := by
      intro u hu
      split
      · exact ite hu (hu.workOnce _ _ _ _)
      · exact hu
    exact ite ((hk _ ((h.map _).map _)).map _).park (hk _ ((h.map _).map _))

theorem otherOrFail {s t : State} (h : Keeps s t) : Keeps s t.otherOrFail := ite (h.map _) ((h.writeRecord _).map _)

theorem chooseSlot {s t : State} (h : Keeps s t) : Keeps s t.chooseSlot := by
  unfold State.chooseSlot
  dsimp only
  have h1 : ∀ c : Bool, Keeps s (if c then (t.map (fun p => p.onBoot (fun b => { b with record := t.mem.takeRecord.1, copy := t.mem.takeRecord.2.1, slot := t.mem.takeRecord.1.active, trialBoot := t.mem.takeRecord.1.trial && t.mem.takeRecord.1.next }))).map (fun p => p.raise 0 (fUpEvt 4)) else t.map (fun p => p.onBoot (fun b => { b with record := t.mem.takeRecord.1, copy := t.mem.takeRecord.2.1, slot := t.mem.takeRecord.1.active, trialBoot := t.mem.takeRecord.1.trial && t.mem.takeRecord.1.next }))) :=
    fun _ => ite ((h.map _).map _) (h.map _)
  have h2 := ite (c := (t.mem.takeRecord.1.trial && !t.mem.takeRecord.1.next) = true) (((h1 t.mem.takeRecord.2.2).writeRecord (fun r => { r with active := 1 - r.active, trial := false })).map (fun p =>
        (p.onBoot (fun b => { b with slot := 1 - t.mem.takeRecord.1.active })).fellBack)) (h1 t.mem.takeRecord.2.2)
  exact ite h2 h2.otherOrFail

theorem startBoot {s t : State} (h : Keeps s t) : Keeps s t.startBoot := (h.map _).chooseSlot
theorem stageZero {s t : State} (h : Keeps s t) : Keeps s t.stageZero := h.map _
theorem stageOne {s t : State} (h : Keeps s t) : Keeps s t.stageOne := (foldl (fun u _ => (refl u).applyPresets _ _ _) _ (h.map _)).map _
theorem stageTwo {s t : State} (h : Keeps s t) : Keeps s t.stageTwo := (foldl (fun u _ => (refl u).applyPresets _ _ _) _ (h.map _)).map _
theorem trialAtStart {s t : State} (h : Keeps s t) : Keeps s t.trialAtStart := ite h ((h.writeRecord _).map _)
theorem stageThree {s t : State} (h : Keeps s t) : Keeps s t.stageThree := (((h.stage _ _).map _).trialAtStart).map _

theorem bootStageDone {s t : State} (h : Keeps s t) (b : Bool) (n : Nat) : Keeps s (bootStageDone b n t) := by
  unfold Machine.bootStageDone
  dsimp only
  refine ite (h.map _) (ite ((h.map _).map _) (ite (h.map _).otherOrFail ?_))
  split
  · exact (h.map _).stageZero
  · exact (h.map _).stageOne
  · exact (h.map _).stageTwo
  · exact ite (h.map _) (h.map _).stageThree

theorem sectionTimeout {s t : State} (h : Keeps s t) (n m : Nat) : Keeps s (sectionTimeout n m t) := ite (h.map _) (ite ((h.map _).map _) ((h.map _).map _))

theorem pmicPgRise {s t : State} (h : Keeps s t) (n m : Nat) : Keeps s (pmicPgRise n m t) :=
  ite (h.map _) (ite ((h.map _).map _) (ite (((h.map _).map _).map _ |>.map _) (((h.map _).map _).map _).startBoot))

theorem batLost {s t : State} (h : Keeps s t) (n : Nat) : Keeps s (batLost n t) :=
  ite (h.pkg _) (h.mem _ (Mem.foldl_wf (fun _ b hm => Mem.clearTile_wf hm b) _))

/-! The takeover, reads of the journal, host accesses -/

theorem reissue {s t : State} (h : Keeps s t) (o : HeldOut) : Keeps s (t.reissue o) := ite (h.map _) ((h.access _ _ _).map _)
theorem replayOut {s t : State} (h : Keeps s t) (o : HeldOut) : Keeps s (t.replayOut o) := ite (h.map _) (h.access _ _ _)

theorem standbyTimeout {s t : State} (h : Keeps s t) (c : StbyCause) (l : List HeldOut) (n : Nat) : Keeps s (standbyTimeout c l n t) := by
  unfold Machine.standbyTimeout
  exact ite (h.map _) ((foldl (fun u o => (refl u).replayOut o) _ (foldl (fun u o => (refl u).reissue o) _ ((h.map _).map _))).map _)

/-! The release of a round -/

theorem releaseOne {s t : State} (h : Keeps s t) (tile : Nat) (e : OutEntry) : Keeps s (State.releaseOne tile t e) := by
  unfold State.releaseOne
  dsimp only
  refine ite (foldl (fun u w => ite ((refl u).send _ _ _) (refl u)) _ h) ?_
  split
  · exact h.map _
  · exact h.mem _ (fun hm => Mem.foldl_wf (fun m b hm => Mem.set_wf hm _ _ _) _ hm)
  · exact h

theorem releaseRound {s t : State} (h : Keeps s t) (tile : Nat) : Keeps s (t.releaseRound tile) := by
  unfold State.releaseRound
  exact foldl (fun u e => (refl u).releaseOne tile e) _ (h.map _)

theorem readPair {s t : State} (h : Keeps s t) (r : Req) (a : Nat) (f : ReadFate) (b : Bool) : Keeps s (t.readPair r a f b) := by
  unfold State.readPair
  exact ite ((h.access _ _ _).access _ _ _) (h.access _ _ _)

theorem rdCopyRecord {s t : State} (h : Keeps s t) (e : List (Option Nat)) (n : Nat) : Keeps s (rdCopyRecord e n t) := by
  unfold Machine.rdCopyRecord
  dsimp only
  split
  · exact ite (h.pkg _) (ite (h.pkg _) (h.mem _ (fun hm => Mem.write_wf hm _ _ _)))
  · exact h.pkg _

theorem bar2Access {s t : State} (h : Keeps s t) (tile : Nat) (w : Bool) (o n : Nat) (d : List Byte) (be : List Bool) (p : Bool) (m : Nat) :
    Keeps s (bar2Access tile w o n d be p m t) := by
  unfold Machine.bar2Access
  dsimp only
  refine ite (h.pkg _) (ite (h.pkg _) (ite (h.pkg _) (ite (h.mem _ (Mem.foldl_wf (fun m b hm => ?_) _)) (h.pkg _))))
  split
  · exact Mem.ite_wf (Mem.set_wf hm _ _ _) hm
  · exact hm

end Keeps

end Sys2Proof.Machine
end

