-- ==== Sys2Proof/Laws/DmaKeeps.lean ====
section
/-! SUPPORT. The transfers of the DMA channels keep the queue of commands and the canonical form of the memories. -/
namespace Sys2Proof.Machine

namespace Xfer

@[simp] theorem fail_st (x : Xfer) (n : Nat) : (x.fail n).st = x.st := by unfold Xfer.fail; split <;> rfl
@[simp] theorem onPkg_st (x : Xfer) (f : Pkg → Pkg) : (x.onPkg f).st = x.st.map f := (rfl)

theorem ite_st {s : State} {c : Prop} [Decidable c] {x y : Xfer} (h : Keeps s x.st) (h' : Keeps s y.st) : Keeps s (if c then x else y).st := by
  split <;> assumption

theorem ite_fst {β : Type} {s : State} {c : Prop} [Decidable c] {x y : Xfer × β} (h : Keeps s x.1.st) (h' : Keeps s y.1.st) :
    Keeps s (if c then x else y).1.st := by split <;> assumption

theorem readMgmt_keeps {s : State} {x : Xfer} (h : Keeps s x.st) (t a : Nat) : Keeps s (x.readMgmt t a).1.st := by
  unfold Xfer.readMgmt
  exact ite_fst (by simpa using h) (ite_fst (by simpa using h.map _) h)

theorem readByte_keeps {s : State} {x : Xfer} (h : Keeps s x.st) (t a : Nat) : Keeps s (x.readByte t a).1.st := by
  unfold Xfer.readByte
  split
  · exact h
  · exact readMgmt_keeps h t a
  · simpa using h

theorem gatherHere_keeps {s : State} (t : Nat) (l : List (Nat × Nat)) {x : Xfer} (h : Keeps s x.st) : Keeps s (Xfer.gatherHere t l x).1.st := by
  induction l generalizing x with
  | nil => exact h
  | cons e l ih =>
    unfold Xfer.gatherHere
    dsimp only
    split
    · simpa using h
    · split
      · exact readByte_keeps h t e.1
      · exact ih (x := { (x.readByte t e.1).1 with pos := (x.readByte t e.1).1.pos + 1 }) (readByte_keeps h t e.1)

theorem gatherHost_keeps {s : State} (t w : Nat) (g : List (Nat × Nat)) {x : Xfer} (h : Keeps s x.st) : Keeps s (Xfer.gatherHost t w g x).1.st := by
  unfold Xfer.gatherHost
  dsimp only
  refine ite_fst (by simpa using h.map _) (ite_fst (by simpa using h) ?_)
  split
  · simpa using h.map _
  · split
    · simpa using h.map _
    · exact h.map _

theorem foldl_fst_keeps {β γ : Type} {f : Xfer × β → γ → Xfer × β} {s : State} (hf : ∀ q c, Keeps s q.1.st → Keeps s (f q c).1.st) (l : List γ)
    {q : Xfer × β} (h : Keeps s q.1.st) : Keeps s (l.foldl f q).1.st := by
  induction l generalizing q with
  | nil => exact h
  | cons c l ih => exact ih (hf q c h)

theorem gather_keeps {s : State} (t : Nat) (l : List (Nat × Nat)) {x : Xfer} (h : Keeps s x.st) : Keeps s (Xfer.gather t l x).1.st := by
  unfold Xfer.gather
  refine foldl_fst_keeps (fun q g hq => ite_fst hq ?_) _ h
  show Keeps s (if 4 ≤ g.1 then Xfer.gatherHost t (g.1 - 4) g.2 q.1 else Xfer.gatherHere t g.2 q.1).1.st
  exact ite_fst (gatherHost_keeps t _ _ hq) (gatherHere_keeps t _ hq)

theorem readMany_keeps {s : State} (t : Nat) (l : List Nat) {x : Xfer} (h : Keeps s x.st) : Keeps s (Xfer.readMany t l x).1.st := by
  unfold Xfer.readMany
  exact gather_keeps t _ (x := { x with err := none }) h

theorem entryErr_keeps {s : State} {x : Xfer} (h : Keeps s x.st) (t a : Nat) : Keeps s (x.entryErr t a).st := by
  unfold Xfer.entryErr
  exact ite_st (ite_st (by simpa using h) (by simpa using h)) h

theorem putWords_keeps {s : State} (t : Nat) (l : List (Nat × Nat × Word)) {x : Xfer} (h : Keeps s x.st) : Keeps s (Xfer.putWords t l x).st := by
  induction l generalizing x with
  | nil => exact h
  | cons e l ih =>
    unfold Xfer.putWords
    dsimp only
    have ha : Keeps s (x.st.access { die := t, agent := 4 } e.1 (.write e.2.2 e.2.1)) := h.access _ _ _
    refine ite_st (by simpa using h) (ite_st (by simpa using ha) (ih ?_))
    exact ha

theorem putGroup_keeps {s : State} (t : Nat) {x : Xfer} (h : Keeps s x.st) (g : Nat × List (Nat × Byte)) : Keeps s (Xfer.putGroup t x g).st := by
  unfold Xfer.putGroup
  refine ite_st h (ite_st (putWords_keeps t _ h) (ite_st (h.mem _ (Mem.foldl_wf (fun _ _ hm => Mem.set_wf hm _ _ _) _)) (ite_st (by simpa using h) ?_)))
  exact ite_st (by simpa using h.map _) (h.map _)

theorem foldl_keeps {β : Type} {f : Xfer → β → Xfer} {s : State} (hf : ∀ x b, Keeps s x.st → Keeps s (f x b).st) (l : List β) {x : Xfer}
    (h : Keeps s x.st) : Keeps s (l.foldl f x).st := by
  induction l generalizing x with
  | nil => exact h
  | cons b l ih => exact ih (hf x b h)

theorem scatter_keeps {s : State} (t : Nat) (l : List (Nat × Byte)) {x : Xfer} (h : Keeps s x.st) : Keeps s (Xfer.scatter t l x).st := by
  unfold Xfer.scatter
  have hk := foldl_keeps (s := s) (f := fun (y : Xfer) g => Xfer.putGroup t y g) (fun y g hy => putGroup_keeps t hy g) (x.st.pkg.groups t l)
    (x := { x with status := 0, bytes := x.bytes ++ l }) h
  exact ite_st hk hk

theorem refill_keeps {s : State} (t k : Nat) (r : Side) {x : Xfer} (h : Keeps s x.st) : Keeps s (Xfer.refill t k r x).1.st := by
  induction k generalizing r x with
  | zero => simpa [Xfer.refill] using h
  | succ k ih =>
    unfold Xfer.refill
    split
    · exact h
    · split
      · simpa using h
      · rename_i a _
        split
        · simpa using h
        · dsimp only
          have hq := readMany_keeps t ((List.range 16).map (fun i => a + i)) (entryErr_keeps h t a)
          split
          · exact hq
          · split
            · exact ih _ (x := { (Xfer.readMany t ((List.range 16).map (fun i => a + i)) (x.entryErr t a)).1 with entries := _ }) hq
            · exact ih _ (x := { (Xfer.readMany t ((List.range 16).map (fun i => a + i)) (x.entryErr t a)).1 with entries := _ }) hq

theorem copyRun_keeps {s : State} (t : Nat) (w : Bool) (l : List (Nat × Nat)) {x : Xfer} (h : Keeps s x.st) : Keeps s (Xfer.copyRun t w l x).st :=
  ite_st (gather_keeps t l h) (scatter_keeps t _ (gather_keeps t l h))

theorem segment_keeps {s : State} (t a b n : Nat) (f : Option Bool) {x : Xfer} (h : Keeps s x.st) : Keeps s (Xfer.segment t a b n f x).st := by
  unfold Xfer.segment
  exact foldl_keeps (fun y c hy => ite_st hy (copyRun_keeps t _ _ hy)) _ h

theorem copyAll_keeps {s : State} (t : Nat) (f : Option Bool) (k n : Nat) (a b : Side) {x : Xfer} (h : Keeps s x.st) :
    Keeps s (Xfer.copyAll t f k n a b x).st := by
  induction k generalizing n a b x with
  | zero => exact h
  | succ k ih =>
    unfold Xfer.copyAll
    have hr := refill_keeps t 1026 b (refill_keeps t 1026 a h)
    exact ite_st h (ite_st hr (ih _ _ _ (segment_keeps t _ _ _ f hr)))

theorem readAll_keeps {s : State} (t k n : Nat) (a : Side) {x : Xfer} (h : Keeps s x.st) : Keeps s (Xfer.readAll t k n a x).st := by
  induction k generalizing n a x with
  | zero => exact h
  | succ k ih =>
    unfold Xfer.readAll
    have hr := refill_keeps t 1026 a h
    refine ite_st h (ite_st hr (ih _ _ (x := { (Xfer.gather t _ _).1 with bytes := _ }) ?_))
    exact gather_keeps t _ hr

theorem writeAll_keeps {s : State} (t k : Nat) (l : List Byte) (a : Side) {x : Xfer} (h : Keeps s x.st) : Keeps s (Xfer.writeAll t k l a x).st := by
  induction k generalizing l a x with
  | zero => exact h
  | succ k ih =>
    unfold Xfer.writeAll
    have hr := refill_keeps t 1026 a h
    refine ite_st h (ite_st hr (ih _ _ (x := { (_ : Xfer) with pos := _ }) ?_))
    dsimp only
    split
    · simpa using scatter_keeps t _ hr
    · exact scatter_keeps t _ hr

/-- A fetch by the bytes it reads. -/
theorem fetch_eq (t ch : Nat) (x : Xfer) (q : Xfer × List Byte)
    (hq : Xfer.readMany t ((List.range 32).map (fun i => x.st.pkg.dmDesc t ch + i)) x = q) :
    Xfer.fetch t ch x =
      if !x.st.pkg.ringPlace t (x.st.pkg.dmDesc t ch) then (x, .ringErr)
      else if q.1.status ≠ 0 then ({ q.1 with status := 0 }, .ringErr)
      else if (leAt q.2 16 4).testBit 31 then (q.1, .words q.2) else (q.1, .notOwned) := by
  subst hq
  rfl

theorem fetched_keeps {s : State} {x : Xfer} (h : Keeps s x.st) (q : Xfer × List Byte) (hq : Keeps s q.1.st) (a b : Bool) :
    Keeps s (if a then (x, Fetched.ringErr) else if q.1.status ≠ 0 then ({ q.1 with status := 0 }, .ringErr)
      else if b then (q.1, .words q.2) else (q.1, .notOwned)).1.st := by
  refine ite_fst ?_ (ite_fst ?_ (ite_fst ?_ ?_)) <;> assumption

theorem fetch_keeps {s : State} (t ch : Nat) {x : Xfer} (h : Keeps s x.st) : Keeps s (Xfer.fetch t ch x).1.st := by
  have hq := readMany_keeps t ((List.range 32).map (fun i => x.st.pkg.dmDesc t ch + i)) h
  rw [fetch_eq t ch x _ rfl]
  exact fetched_keeps h _ hq _ _

theorem moveData_keeps {s : State} (t : Nat) (tx : Bool) (d : List Byte) {x : Xfer} (h : Keeps s x.st) : Keeps s (Xfer.moveData t tx d x).st := by
  unfold Xfer.moveData
  dsimp only
  exact ite_st (by simpa using h) (ite_st (readAll_keeps t _ _ _ h) (copyAll_keeps t _ _ _ _ _ h))

/-- What follows the data changes the package alone. -/
theorem process_keeps {s : State} (t ch : Nat) (d : List Byte) {x : Xfer} (h : Keeps s x.st) : Keeps s (Xfer.process t ch d x) := by
  unfold Xfer.process
  exact h.pkg _

/-- What a piece of a frame leaves of the machine but its package: what its writes leave. -/
theorem takePiece_form (t ch : Nat) (w : List Byte) (d : Delivered) (dst : Side) (n : Nat) (v : Word) (s0 : State) (x : Xfer) :
    ∃ (l : List Byte) (c : Bool) (p : Pkg), Xfer.takePiece t ch w d dst n v s0 x =
      if c then s0 else { (if n = 0 then x.fail dBadFormat else Xfer.writeAll t 4096 l dst x).st with pkg := p } :=
  ⟨_, _, _, rfl⟩

theorem takePiece_keeps {s s0 : State} (h0 : Keeps s s0) (t ch : Nat) (w : List Byte) (d : Delivered) (dst : Side) (n : Nat) (v : Word) {x : Xfer}
    (h : Keeps s x.st) : Keeps s (Xfer.takePiece t ch w d dst n v s0 x) := by
  obtain ⟨l, c, p, e⟩ := takePiece_form t ch w d dst n v s0 x
  rw [e]
  exact Keeps.ite h0 ((ite_st (by simpa using h) (writeAll_keeps t _ _ _ h)).pkg p)

theorem rxInto_keeps {s s0 : State} (h0 : Keeps s s0) (t ch : Nat) (w : List Byte) (d : Delivered) {x : Xfer} (h : Keeps s x.st) :
    Keeps s (Xfer.rxInto t ch w d s0 x) := by
  unfold Xfer.rxInto
  refine Keeps.ite (Keeps.ite ((h.pkg _).map _) (takePiece_keeps h0 t ch w d _ _ _ ?_)) (takePiece_keeps h0 t ch w d _ _ _ ?_)
  · exact (h.pkg _).map _
  · exact h.map _

theorem run_keeps {s s0 : State} (h0 : Keeps s s0) (t ch : Nat) (tx : Bool) {x : Xfer} (h : Keeps s x.st) (f : Fetched) :
    Keeps s (f.run t ch tx s0 x) := by
  cases f
  · exact Keeps.map h _
  · exact Keeps.map h _
  · exact Keeps.ite h0 (process_keeps t ch _ (moveData_keeps t _ _ h))

theorem rxRun_keeps {s s0 : State} (h0 : Keeps s s0) (t ch : Nat) (d : Delivered) {x : Xfer} (h : Keeps s x.st) (f : Fetched) :
    Keeps s (f.rxRun t ch d s0 x) := by
  cases f
  · exact Keeps.map h _
  · exact Keeps.map h _
  · exact rxInto_keeps h0 t ch _ _ h

end Xfer

namespace Keeps

theorem descriptor {s t : State} (h : Keeps s t) (tile ch : Nat) (hd : List (Nat × Byte)) (e : Option DmaErr) (n : Nat) :
    Keeps s (descriptor tile ch hd e n t) := by
  unfold Machine.descriptor
  exact ite (h.map _) (ite (h.map _) (Xfer.run_keeps (h.map _) tile ch _ (Xfer.fetch_keeps tile ch (h.map _)) _))

theorem writeBack {s t : State} (h : Keeps s t) (tile a : Nat) (l : List Byte) : Keeps s (t.writeBack tile a l) := by
  unfold State.writeBack
  split
  · exact h.map _
  · exact h.mem t.pkg (fun hm => Mem.write_wf hm _ _ _)

theorem descriptorDone {s t : State} (h : Keeps s t) (tile ch : Nat) (b : Bool) (n : Nat) : Keeps s (descriptorDone tile ch b n t) := by
  unfold Machine.descriptorDone
  dsimp only
  split
  · exact h.map _
  · exact ite (h.map _) (ite (map (map (h.map _) _) _) (map (writeBack (writeBack (map (h.map _) _) _ _ _) _ _ _) _))

theorem rxFrameDma {s t : State} (h : Keeps s t) (tile ch : Nat) (l : List (Nat × Byte)) (e : Option DmaErr) (n : Nat) :
    Keeps s (rxFrameDma tile ch l e n t) := by
  have h0 : Keeps s (t.map (fun p => p.reach n)) := h.map _
  unfold Machine.rxFrameDma
  refine ite h0 ?_
  split
  · exact ite (h0.map _) h0
  · exact ite (h0.map _) (ite h0 (Xfer.rxRun_keeps h0 tile ch _ (Xfer.fetch_keeps tile ch h0) _))

end Keeps

end Sys2Proof.Machine
end

