-- ==== Sys2Proof/Laws/Arms.lean ====
section
/-! SUPPORT. Each command answers a next state with the same commands waiting, the memories in canonical form if they were, and none waiting to be
lost: one law per command. -/
namespace Sys2Proof.Machine

theorem exec_targetTimeout (r : Req) (id : Nat) (s : State) : Runs (.targetTimeout r id) s (fun t => Keeps s t ∧ t.settled) :=
  have r := Keeps.refl s
  ⟨_, rfl, ⟨(r.targetTimeout _ _).finish, rfl⟩⟩

theorem exec_writeAck (r : Req) (id : Nat) (at_ : Nat) (s : State) : Runs (.writeAck r id at_) s (fun t => Keeps s t ∧ t.settled) :=
  have r := Keeps.refl s
  ⟨_, rfl, ⟨(r.writeAck _ _ _).finish, rfl⟩⟩

theorem exec_sgFence (a : Acc) (die : Nat) (value : Word) (s : State) : Runs (.sgFence a die value) s (fun t => Keeps s t ∧ t.settled) :=
  have r := Keeps.refl s
  ⟨_, rfl, ⟨(r.regWrite _ _ _ _).finish, rfl⟩⟩

theorem exec_sgFenceWait (a : Acc) (die : Nat) (s : State) : Runs (.sgFenceWait a die) s (fun t => Keeps s t ∧ t.settled) :=
  have r := Keeps.refl s
  ⟨_, rfl, ⟨(r.regRead _ _ _).finish, rfl⟩⟩

theorem exec_fenceTimeout (r : Req) (s : State) : Runs (.fenceTimeout r) s (fun t => Keeps s t ∧ t.settled) :=
  have r := Keeps.refl s
  ⟨_, rfl, ⟨(r.fenceTimeout _).finish, rfl⟩⟩

theorem exec_flitCrcFail (tile : Nat) (span : Nat) (at_ : Nat) (s : State) : Runs (.flitCrcFail tile span at_) s (fun t => Keeps s t ∧ t.settled) :=
  have r := Keeps.refl s
  ⟨_, rfl, ⟨r.onPkg, rfl⟩⟩

theorem exec_spanDown (tile : Nat) (span : Nat) (lost : List (Nat × Nat × Nat)) (at_ : Nat) (s : State) : Runs (.spanDown tile span lost at_) s (fun t => Keeps s t ∧ t.settled) :=
  have r := Keeps.refl s
  ⟨_, rfl, ⟨r.onFlow, rfl⟩⟩

theorem exec_spanRetrain (tile : Nat) (span : Nat) (s : State) : Runs (.spanRetrain tile span) s (fun t => Keeps s t ∧ t.settled) :=
  have r := Keeps.refl s
  ⟨_, rfl, ⟨r.onPkg, rfl⟩⟩

theorem exec_spanUp (tile : Nat) (span : Nat) (at_ : Nat) (s : State) : Runs (.spanUp tile span at_) s (fun t => Keeps s t ∧ t.settled) :=
  have r := Keeps.refl s
  ⟨_, rfl, ⟨r.onPkg, rfl⟩⟩

theorem exec_tetherHeartbeat (tether : Nat) (toTile : Bool) (arrived : Bool) (at_ : Nat) (s : State) : Runs (.tetherHeartbeat tether toTile arrived at_) s (fun t => Keeps s t ∧ t.settled) :=
  have r := Keeps.refl s
  ⟨_, rfl, ⟨r.onFlow, rfl⟩⟩

theorem exec_tetherDown (tether : Nat) (at_ : Nat) (s : State) : Runs (.tetherDown tether at_) s (fun t => Keeps s t ∧ t.settled) :=
  have r := Keeps.refl s
  ⟨_, rfl, ⟨r.onFlow, rfl⟩⟩

theorem exec_tetherRetrain (tether : Nat) (s : State) : Runs (.tetherRetrain tether) s (fun t => Keeps s t ∧ t.settled) :=
  have r := Keeps.refl s
  ⟨_, rfl, ⟨r.onPkg, rfl⟩⟩

theorem exec_tetherUp (tether : Nat) (at_ : Nat) (s : State) : Runs (.tetherUp tether at_) s (fun t => Keeps s t ∧ t.settled) :=
  have r := Keeps.refl s
  ⟨_, rfl, ⟨r.onFlow, rfl⟩⟩

theorem exec_tamperLevel (tile : Nat) (at_ : Nat) (s : State) : Runs (.tamperLevel tile at_) s (fun t => Keeps s t ∧ t.settled) :=
  have r := Keeps.refl s
  ⟨_, rfl, ⟨r.onPkg, rfl⟩⟩

theorem exec_timeBeat (tile : Nat) (offset : Int) (at_ : Nat) (s : State) : Runs (.timeBeat tile offset at_) s (fun t => Keeps s t ∧ t.settled) :=
  have r := Keeps.refl s
  ⟨_, rfl, ⟨r.onPkg, rfl⟩⟩

theorem exec_ksRequest (a : Acc) (tile : Nat) (value : Word) (s : State) : Runs (.ksRequest a tile value) s (fun t => Keeps s t ∧ t.settled) :=
  have r := Keeps.refl s
  ⟨_, rfl, ⟨(r.regWrite _ _ _ _).finish, rfl⟩⟩

theorem exec_prepare (tile : Nat) (at_ : Nat) (s : State) : Runs (.prepare tile at_) s (fun t => Keeps s t ∧ t.settled) :=
  have r := Keeps.refl s
  ⟨_, rfl, ⟨r.onPkg, rfl⟩⟩

theorem exec_drainStart (tile : Nat) (s : State) : Runs (.drainStart tile) s (fun t => Keeps s t ∧ t.settled) :=
  have r := Keeps.refl s
  ⟨_, rfl, ⟨r.onPkg, rfl⟩⟩

theorem exec_drainComplete (tile : Nat) (at_ : Nat) (s : State) : Runs (.drainComplete tile at_) s (fun t => Keeps s t ∧ t.settled) :=
  have r := Keeps.refl s
  ⟨_, rfl, ⟨r.onPkg, rfl⟩⟩

theorem exec_drained (tile : Nat) (at_ : Nat) (s : State) : Runs (.drained tile at_) s (fun t => Keeps s t ∧ t.settled) :=
  have r := Keeps.refl s
  ⟨_, rfl, ⟨r.onKeystone, rfl⟩⟩

theorem exec_ksDeadline  (s : State) : Runs (.ksDeadline ) s (fun t => Keeps s t ∧ t.settled) :=
  have r := Keeps.refl s
  ⟨_, rfl, ⟨r.onKeystone, rfl⟩⟩

theorem exec_decisionAck (tile : Nat) (at_ : Nat) (s : State) : Runs (.decisionAck tile at_) s (fun t => Keeps s t ∧ t.settled) :=
  have r := Keeps.refl s
  ⟨_, rfl, ⟨r.onKeystone, rfl⟩⟩

theorem exec_decisionRepeat  (s : State) : Runs (.decisionRepeat ) s (fun t => Keeps s t ∧ t.settled) :=
  have r := Keeps.refl s
  ⟨_, rfl, ⟨r.onPkg, rfl⟩⟩

theorem exec_confirm (tile : Nat) (at_ : Nat) (s : State) : Runs (.confirm tile at_) s (fun t => Keeps s t ∧ t.settled) :=
  have r := Keeps.refl s
  ⟨_, rfl, ⟨r.onKeystone, rfl⟩⟩

theorem exec_abort (tile : Nat) (at_ : Nat) (s : State) : Runs (.abort tile at_) s (fun t => Keeps s t ∧ t.settled) :=
  have r := Keeps.refl s
  ⟨_, rfl, ⟨r.onKeystone, rfl⟩⟩

theorem exec_ksCommit (tile : Nat) (s : State) : Runs (.ksCommit tile) s (fun t => Keeps s t ∧ t.settled) :=
  have r := Keeps.refl s
  ⟨_, rfl, ⟨r.onKeystone, rfl⟩⟩

theorem exec_commitAck (tile : Nat) (at_ : Nat) (s : State) : Runs (.commitAck tile at_) s (fun t => Keeps s t ∧ t.settled) :=
  have r := Keeps.refl s
  ⟨_, rfl, ⟨r.onKeystone, rfl⟩⟩

theorem exec_bankCopyDone (tile : Nat) (at_ : Nat) (s : State) : Runs (.bankCopyDone tile at_) s (fun t => Keeps s t ∧ t.settled) :=
  have r := Keeps.refl s
  ⟨_, rfl, ⟨r.onKeystone, rfl⟩⟩

theorem exec_tileLost (tile : Nat) (at_ : Nat) (s : State) : Runs (.tileLost tile at_) s (fun t => Keeps s t ∧ t.settled) :=
  have r := Keeps.refl s
  ⟨_, rfl, ⟨r.onKeystone, rfl⟩⟩

theorem exec_frameReceive (tile : Nat) (port : Nat) (f : RxFrame) (at_ : Nat) (s : State) : Runs (.frameReceive tile port f at_) s (fun t => Keeps s t ∧ t.settled) :=
  have r := Keeps.refl s
  ⟨_, rfl, ⟨r.onFlow, rfl⟩⟩

theorem exec_recirculationPass (tile : Nat) (at_ : Nat) (s : State) : Runs (.recirculationPass tile at_) s (fun t => Keeps s t ∧ t.settled) :=
  have r := Keeps.refl s
  ⟨_, rfl, ⟨r.onFlow, rfl⟩⟩

theorem exec_fragExpire (tile : Nat) (idx : Nat) (s : State) : Runs (.fragExpire tile idx) s (fun t => Keeps s t ∧ t.settled) :=
  have r := Keeps.refl s
  ⟨_, rfl, ⟨r.onPkg, rfl⟩⟩

theorem exec_ctAging (tile : Nat) (n : Nat) (s : State) : Runs (.ctAging tile n) s (fun t => Keeps s t ∧ t.settled) :=
  have r := Keeps.refl s
  ⟨_, rfl, ⟨r.onPkg, rfl⟩⟩

theorem exec_ctInsert (a : Acc) (tile : Nat) (s : State) : Runs (.ctInsert a tile) s (fun t => Keeps s t ∧ t.settled) :=
  have r := Keeps.refl s
  ⟨_, rfl, ⟨(r.regWrite _ _ _ _).finish, rfl⟩⟩

theorem exec_ctDelete (a : Acc) (tile : Nat) (s : State) : Runs (.ctDelete a tile) s (fun t => Keeps s t ∧ t.settled) :=
  have r := Keeps.refl s
  ⟨_, rfl, ⟨(r.regWrite _ _ _ _).finish, rfl⟩⟩

theorem exec_ctLookup (a : Acc) (tile : Nat) (s : State) : Runs (.ctLookup a tile) s (fun t => Keeps s t ∧ t.settled) :=
  have r := Keeps.refl s
  ⟨_, rfl, ⟨(r.regWrite _ _ _ _).finish, rfl⟩⟩

theorem exec_enqueue (tile : Nat) (copy : Nat) (at_ : Nat) (s : State) : Runs (.enqueue tile copy at_) s (fun t => Keeps s t ∧ t.settled) :=
  have r := Keeps.refl s
  ⟨_, rfl, ⟨r.onFlow, rfl⟩⟩

theorem exec_spanCreditGrant (tile : Nat) (src : Nat) (tc : Nat) (cells : Nat) (at_ : Nat) (s : State) : Runs (.spanCreditGrant tile src tc cells at_) s (fun t => Keeps s t ∧ t.settled) :=
  have r := Keeps.refl s
  ⟨_, rfl, ⟨r.onFlow, rfl⟩⟩

theorem exec_transmitDecision (tile : Nat) (turn : TxTurn) (at_ : Nat) (s : State) : Runs (.transmitDecision tile turn at_) s (fun t => Keeps s t ∧ t.settled) :=
  have r := Keeps.refl s
  ⟨_, rfl, ⟨r.onFlow, rfl⟩⟩

theorem exec_transmitEnd (tile : Nat) (port : Nat) (at_ : Nat) (s : State) : Runs (.transmitEnd tile port at_) s (fun t => Keeps s t ∧ t.settled) :=
  have r := Keeps.refl s
  ⟨_, rfl, ⟨r.onFlow, rfl⟩⟩

theorem exec_pauseRefresh (tile : Nat) (port : Nat) (at_ : Nat) (s : State) : Runs (.pauseRefresh tile port at_) s (fun t => Keeps s t ∧ t.settled) :=
  have r := Keeps.refl s
  ⟨_, rfl, ⟨r.onPkg, rfl⟩⟩

theorem exec_pfcReceive (tile : Nat) (port : Nat) (enable : Nat) (quanta : List Nat) (at_ : Nat) (s : State) : Runs (.pfcReceive tile port enable quanta at_) s (fun t => Keeps s t ∧ t.settled) :=
  have r := Keeps.refl s
  ⟨_, rfl, ⟨r.onPkg, rfl⟩⟩

theorem exec_pauseReceive (tile : Nat) (port : Nat) (quanta : Nat) (at_ : Nat) (s : State) : Runs (.pauseReceive tile port quanta at_) s (fun t => Keeps s t ∧ t.settled) :=
  have r := Keeps.refl s
  ⟨_, rfl, ⟨r.onPkg, rfl⟩⟩

theorem exec_pauseExpire (tile : Nat) (port : Nat) (queue : Nat) (s : State) : Runs (.pauseExpire tile port queue) s (fun t => Keeps s t ∧ t.settled) :=
  have r := Keeps.refl s
  ⟨_, rfl, ⟨r.onPkg, rfl⟩⟩

theorem exec_watchdogStall (tile : Nat) (port : Nat) (queue : Nat) (s : State) : Runs (.watchdogStall tile port queue) s (fun t => Keeps s t ∧ t.settled) :=
  have r := Keeps.refl s
  ⟨_, rfl, ⟨r.onFlow, rfl⟩⟩

theorem exec_overflowReadback (tile : Nat) (port : Nat) (queue : Nat) (eccOk : Bool) (at_ : Nat) (s : State) : Runs (.overflowReadback tile port queue eccOk at_) s (fun t => Keeps s t ∧ t.settled) :=
  have r := Keeps.refl s
  ⟨_, rfl, ⟨r.onFlow, rfl⟩⟩

theorem exec_mcHoldExpire (tile : Nat) (copy : Nat) (s : State) : Runs (.mcHoldExpire tile copy) s (fun t => Keeps s t ∧ t.settled) :=
  have r := Keeps.refl s
  ⟨_, rfl, ⟨r.onFlow, rfl⟩⟩

theorem exec_linkDown (tile : Nat) (port : Nat) (at_ : Nat) (s : State) : Runs (.linkDown tile port at_) s (fun t => Keeps s t ∧ t.settled) :=
  have r := Keeps.refl s
  ⟨_, rfl, ⟨r.onFlow, rfl⟩⟩

theorem exec_linkUp (tile : Nat) (port : Nat) (mbps : Nat) (at_ : Nat) (s : State) : Runs (.linkUp tile port mbps at_) s (fun t => Keeps s t ∧ t.settled) :=
  have r := Keeps.refl s
  ⟨_, rfl, ⟨r.onPkg, rfl⟩⟩

theorem exec_gclEntryStart (tile : Nat) (port : Nat) (at_ : Nat) (s : State) : Runs (.gclEntryStart tile port at_) s (fun t => Keeps s t ∧ t.settled) :=
  have r := Keeps.refl s
  ⟨_, rfl, ⟨r.onPkg, rfl⟩⟩

theorem exec_mergeVerify (tile : Nat) (port : Nat) (ok : Bool) (at_ : Nat) (s : State) : Runs (.mergeVerify tile port ok at_) s (fun t => Keeps s t ∧ t.settled) :=
  have r := Keeps.refl s
  ⟨_, rfl, ⟨r.onPkg, rfl⟩⟩

theorem exec_streamGateEntry (tile : Nat) (gate : Nat) (at_ : Nat) (s : State) : Runs (.streamGateEntry tile gate at_) s (fun t => Keeps s t ∧ t.settled) :=
  have r := Keeps.refl s
  ⟨_, rfl, ⟨r.onPkg, rfl⟩⟩

theorem exec_frerReset (tile : Nat) (fn : Nat) (s : State) : Runs (.frerReset tile fn) s (fun t => Keeps s t ∧ t.settled) :=
  have r := Keeps.refl s
  ⟨_, rfl, ⟨r.onPkg, rfl⟩⟩

theorem exec_genReset (a : Acc) (tile : Nat) (value : Word) (s : State) : Runs (.genReset a tile value) s (fun t => Keeps s t ∧ t.settled) :=
  have r := Keeps.refl s
  ⟨_, rfl, ⟨(r.regWrite _ _ _ _).finish, rfl⟩⟩

theorem exec_txtsPop (a : Acc) (tile : Nat) (s : State) : Runs (.txtsPop a tile) s (fun t => Keeps s t ∧ t.settled) :=
  have r := Keeps.refl s
  ⟨_, rfl, ⟨(r.regRead _ _ _).finish, rfl⟩⟩

theorem exec_rateAdj (a : Acc) (tile : Nat) (value : Word) (s : State) : Runs (.rateAdj a tile value) s (fun t => Keeps s t ∧ t.settled) :=
  have r := Keeps.refl s
  ⟨_, rfl, ⟨(r.regWrite _ _ _ _).finish, rfl⟩⟩

theorem exec_phaseAdj (a : Acc) (tile : Nat) (value : Word) (s : State) : Runs (.phaseAdj a tile value) s (fun t => Keeps s t ∧ t.settled) :=
  have r := Keeps.refl s
  ⟨_, rfl, ⟨(r.regWrite _ _ _ _).finish, rfl⟩⟩

theorem exec_sample (tile : Nat) (n : Nat) (s : State) : Runs (.sample tile n) s (fun t => Keeps s t ∧ t.settled) :=
  have r := Keeps.refl s
  ⟨_, rfl, ⟨r.onPkg, rfl⟩⟩

theorem exec_busFrameRx (m : BusMsg) (own : Bool) (time : FrameTime) (s : State) : Runs (.busFrameRx m own time) s (fun t => Keeps s t ∧ t.settled) :=
  have r := Keeps.refl s
  ⟨_, rfl, ⟨r.onPkg, rfl⟩⟩

theorem exec_trestleInput (tile : Nat) (at_ : Nat) (s : State) : Runs (.trestleInput tile at_) s (fun t => Keeps s t ∧ t.settled) :=
  have r := Keeps.refl s
  ⟨_, rfl, ⟨r.onFlow, rfl⟩⟩

theorem exec_acfFrame (tile : Nat) (at_ : Nat) (s : State) : Runs (.acfFrame tile at_) s (fun t => Keeps s t ∧ t.settled) :=
  have r := Keeps.refl s
  ⟨_, rfl, ⟨r.onFlow, rfl⟩⟩

theorem exec_authVerify (tile : Nat) (at_ : Nat) (s : State) : Runs (.authVerify tile at_) s (fun t => Keeps s t ∧ t.settled) :=
  have r := Keeps.refl s
  ⟨_, rfl, ⟨r.onFlow, rfl⟩⟩

theorem exec_authGenerate (tile : Nat) (at_ : Nat) (s : State) : Runs (.authGenerate tile at_) s (fun t => Keeps s t ∧ t.settled) :=
  have r := Keeps.refl s
  ⟨_, rfl, ⟨r.onFlow, rfl⟩⟩

theorem exec_acfBatchSend (tile : Nat) (stream : Nat) (s : State) : Runs (.acfBatchSend tile stream) s (fun t => Keeps s t ∧ t.settled) :=
  have r := Keeps.refl s
  ⟨_, rfl, ⟨r.onFlow, rfl⟩⟩

theorem exec_busCreditReturn (buf : BusBuf) (at_ : Nat) (s : State) : Runs (.busCreditReturn buf at_) s (fun t => Keeps s t ∧ t.settled) :=
  have r := Keeps.refl s
  ⟨_, rfl, ⟨r.onPkg, rfl⟩⟩

theorem exec_txExpired (buf : BusBuf) (msg : TxMsg) (s : State) : Runs (.txExpired buf msg) s (fun t => Keeps s t ∧ t.settled) :=
  have r := Keeps.refl s
  ⟨_, rfl, ⟨r.onPkg, rfl⟩⟩

theorem exec_canTxDone (ch : Nat) (at_ : Nat) (s : State) : Runs (.canTxDone ch at_) s (fun t => Keeps s t ∧ t.settled) :=
  have r := Keeps.refl s
  ⟨_, rfl, ⟨r.onPkg, rfl⟩⟩

theorem exec_canBusOff (ch : Nat) (at_ : Nat) (s : State) : Runs (.canBusOff ch at_) s (fun t => Keeps s t ∧ t.settled) :=
  have r := Keeps.refl s
  ⟨_, rfl, ⟨r.onPkg, rfl⟩⟩

theorem exec_canAutoRecover (ch : Nat) (at_ : Nat) (s : State) : Runs (.canAutoRecover ch at_) s (fun t => Keeps s t ∧ t.settled) :=
  have r := Keeps.refl s
  ⟨_, rfl, ⟨r.onPkg, rfl⟩⟩

theorem exec_recover (a : Acc) (ch : Nat) (value : Word) (s : State) : Runs (.recover a ch value) s (fun t => Keeps s t ∧ t.settled) :=
  have r := Keeps.refl s
  ⟨_, rfl, ⟨(r.regWriteIf _ _ _ _ _).finish, rfl⟩⟩

theorem exec_linScheduleSlot (ch : Nat) (at_ : Nat) (s : State) : Runs (.linScheduleSlot ch at_) s (fun t => Keeps s t ∧ t.settled) :=
  have r := Keeps.refl s
  ⟨_, rfl, ⟨r.onPkg, rfl⟩⟩

theorem exec_bar2Access (tile : Nat) (write : Bool) (offset : Nat) (len : Nat) (data : List Byte) (be : List Bool) (poisoned : Bool) (at_ : Nat) (s : State) : Runs (.bar2Access tile write offset len data be poisoned at_) s (fun t => Keeps s t ∧ t.settled) :=
  have r := Keeps.refl s
  ⟨_, rfl, ⟨(r.bar2Access _ _ _ _ _ _ _ _).finish, rfl⟩⟩

theorem exec_outboundAccess (tile : Nat) (who : OutReq) (write : Bool) (window : Nat) (offset : Nat) (len : Nat) (data : List Byte) (be : List Bool) (at_ : Nat) (s : State) : Runs (.outboundAccess tile who write window offset len data be at_) s (fun t => Keeps s t ∧ t.settled) :=
  have r := Keeps.refl s
  ⟨_, rfl, ⟨r.onPkg, rfl⟩⟩

theorem exec_outboundCompletion (tile : Nat) (tag : Nat) (status : CplStatus) (data : List Byte) (at_ : Nat) (s : State) : Runs (.outboundCompletion tile tag status data at_) s (fun t => Keeps s t ∧ t.settled) :=
  have r := Keeps.refl s
  ⟨_, rfl, ⟨r.onPkg, rfl⟩⟩

theorem exec_completionTimeout (tile : Nat) (tag : Nat) (s : State) : Runs (.completionTimeout tile tag) s (fun t => Keeps s t ∧ t.settled) :=
  have r := Keeps.refl s
  ⟨_, rfl, ⟨r.onPkg, rfl⟩⟩

theorem exec_prefetchExpire (tile : Nat) (s : State) : Runs (.prefetchExpire tile) s (fun t => Keeps s t ∧ t.settled) :=
  have r := Keeps.refl s
  ⟨_, rfl, ⟨r.onPkg, rfl⟩⟩

theorem exec_msixUnmask (a : Acc) (tile : Nat) (vec : Nat) (s : State) : Runs (.msixUnmask a tile vec) s (fun t => Keeps s t ∧ t.settled) :=
  have r := Keeps.refl s
  ⟨_, rfl, ⟨(r.regWriteIf _ _ _ _ _).finish, rfl⟩⟩

theorem exec_pcieLinkDown (tile : Nat) (at_ : Nat) (s : State) : Runs (.pcieLinkDown tile at_) s (fun t => Keeps s t ∧ t.settled) :=
  have r := Keeps.refl s
  ⟨_, rfl, ⟨r.onPkg, rfl⟩⟩

theorem exec_dmaTailWrite (a : Acc) (tile : Nat) (ch : Nat) (value : Word) (s : State) : Runs (.dmaTailWrite a tile ch value) s (fun t => Keeps s t ∧ t.settled) :=
  have r := Keeps.refl s
  ⟨_, rfl, ⟨(r.regWriteIf _ _ _ _ _).finish, rfl⟩⟩

theorem exec_descriptor (tile : Nat) (ch : Nat) (hostData : List (Nat × Byte)) (err : Option DmaErr) (at_ : Nat) (s : State) : Runs (.descriptor tile ch hostData err at_) s (fun t => Keeps s t ∧ t.settled) :=
  have r := Keeps.refl s
  ⟨_, rfl, ⟨(r.descriptor _ _ _ _ _).finishFlow, rfl⟩⟩

theorem exec_descriptorDone (tile : Nat) (ch : Nat) (wbFails : Bool) (at_ : Nat) (s : State) : Runs (.descriptorDone tile ch wbFails at_) s (fun t => Keeps s t ∧ t.settled) :=
  have r := Keeps.refl s
  ⟨_, rfl, ⟨(r.descriptorDone _ _ _ _).finish, rfl⟩⟩

theorem exec_stop (a : Acc) (tile : Nat) (ch : Nat) (s : State) : Runs (.stop a tile ch) s (fun t => Keeps s t ∧ t.settled) :=
  have r := Keeps.refl s
  ⟨_, rfl, ⟨(r.regWriteIf _ _ _ _ _).finish, rfl⟩⟩

theorem exec_resume (a : Acc) (tile : Nat) (ch : Nat) (s : State) : Runs (.resume a tile ch) s (fun t => Keeps s t ∧ t.settled) :=
  have r := Keeps.refl s
  ⟨_, rfl, ⟨(r.regWriteIf _ _ _ _ _).finish, rfl⟩⟩

theorem exec_rxFrameDma (tile : Nat) (ch : Nat) (reads : DmaReads) (at_ : Nat) (s : State) : Runs (.rxFrameDma tile ch reads at_) s (fun t => Keeps s t ∧ t.settled) :=
  have r := Keeps.refl s
  ⟨_, rfl, ⟨(r.rxFrameDma _ _ _ _ _).finishFlow, rfl⟩⟩

theorem exec_share (a : Acc) (tile : Nat) (owner : Nat) (other : Nat) (handle : Word) (s : State) : Runs (.share a tile owner other handle) s (fun t => Keeps s t ∧ t.settled) :=
  have r := Keeps.refl s
  ⟨_, rfl, ⟨(r.regWriteIf _ _ _ _ _).finish, rfl⟩⟩

theorem exec_release (a : Acc) (tile : Nat) (owner : Nat) (handle : Word) (s : State) : Runs (.release a tile owner handle) s (fun t => Keeps s t ∧ t.settled) :=
  have r := Keeps.refl s
  ⟨_, rfl, ⟨(r.regWriteIf _ _ _ _ _).finish, rfl⟩⟩

theorem exec_free (a : Acc) (tile : Nat) (owner : Nat) (handle : Word) (s : State) : Runs (.free a tile owner handle) s (fun t => Keeps s t ∧ t.settled) :=
  have r := Keeps.refl s
  ⟨_, rfl, ⟨(r.regWriteIf _ _ _ _ _).finish, rfl⟩⟩

theorem exec_ckFeed (a : Acc) (tile : Nat) (unit_ : Nat) (value : Word) (s : State) : Runs (.ckFeed a tile unit_ value) s (fun t => Keeps s t ∧ t.settled) :=
  have r := Keeps.refl s
  ⟨_, rfl, ⟨(r.regWriteIf _ _ _ _ _).finish, rfl⟩⟩

theorem exec_ckFeedB (a : Acc) (tile : Nat) (unit_ : Nat) (value : Word) (s : State) : Runs (.ckFeedB a tile unit_ value) s (fun t => Keeps s t ∧ t.settled) :=
  have r := Keeps.refl s
  ⟨_, rfl, ⟨(r.regWriteIf _ _ _ _ _).finish, rfl⟩⟩

theorem exec_ckRestart (a : Acc) (tile : Nat) (unit_ : Nat) (s : State) : Runs (.ckRestart a tile unit_) s (fun t => Keeps s t ∧ t.settled) :=
  have r := Keeps.refl s
  ⟨_, rfl, ⟨(r.regWriteIf _ _ _ _ _).finish, rfl⟩⟩

theorem exec_ckPreset (a : Acc) (tile : Nat) (unit_ : Nat) (s : State) : Runs (.ckPreset a tile unit_) s (fun t => Keeps s t ∧ t.settled) :=
  have r := Keeps.refl s
  ⟨_, rfl, ⟨(r.regWriteIf _ _ _ _ _).finish, rfl⟩⟩

theorem exec_ckValueLoad (a : Acc) (tile : Nat) (unit_ : Nat) (high : Bool) (value : Word) (s : State) : Runs (.ckValueLoad a tile unit_ high value) s (fun t => Keeps s t ∧ t.settled) :=
  have r := Keeps.refl s
  ⟨_, rfl, ⟨(r.regWriteIf _ _ _ _ _).finish, rfl⟩⟩

theorem exec_derive (a : Acc) (slot : Nat) (s : State) : Runs (.derive a slot) s (fun t => Keeps s t ∧ t.settled) :=
  have r := Keeps.refl s
  ⟨_, rfl, ⟨(r.vaultWrite _ _ _).finish, rfl⟩⟩

theorem exec_import_ (a : Acc) (slot : Nat) (s : State) : Runs (.import_ a slot) s (fun t => Keeps s t ∧ t.settled) :=
  have r := Keeps.refl s
  ⟨_, rfl, ⟨(r.vaultWrite _ _ _).finish, rfl⟩⟩

theorem exec_revoke (a : Acc) (slot : Nat) (s : State) : Runs (.revoke a slot) s (fun t => Keeps s t ∧ t.settled) :=
  have r := Keeps.refl s
  ⟨_, rfl, ⟨(r.vaultWrite _ _ _).finish, rfl⟩⟩

theorem exec_slotRelease (a : Acc) (slot : Nat) (s : State) : Runs (.slotRelease a slot) s (fun t => Keeps s t ∧ t.settled) :=
  have r := Keeps.refl s
  ⟨_, rfl, ⟨(r.vaultWrite _ _ _).finish, rfl⟩⟩

theorem exec_nonce (a : Acc) (s : State) : Runs (.nonce a) s (fun t => Keeps s t ∧ t.settled) :=
  have r := Keeps.refl s
  ⟨_, rfl, ⟨(r.vaultWrite _ _ _).finish, rfl⟩⟩

theorem exec_attest (a : Acc) (s : State) : Runs (.attest a) s (fun t => Keeps s t ∧ t.settled) :=
  have r := Keeps.refl s
  ⟨_, rfl, ⟨(r.vaultWrite _ _ _).finish, rfl⟩⟩

theorem exec_ticket (a : Acc) (s : State) : Runs (.ticket a) s (fun t => Keeps s t ∧ t.settled) :=
  have r := Keeps.refl s
  ⟨_, rfl, ⟨(r.vaultWrite _ _ _).finish, rfl⟩⟩

theorem exec_vaultCommandDone (fuseFail : Option Nat) (at_ : Nat) (s : State) : Runs (.vaultCommandDone fuseFail at_) s (fun t => Keeps s t ∧ t.settled) :=
  have r := Keeps.refl s
  ⟨_, rfl, ⟨r.onPkg, rfl⟩⟩

theorem exec_keyTimer (timer : Nat) (s : State) : Runs (.keyTimer timer) s (fun t => Keeps s t ∧ t.settled) :=
  have r := Keeps.refl s
  ⟨_, rfl, ⟨r.onPkg, rfl⟩⟩

theorem exec_revocationCommit (seq : Nat) (s : State) : Runs (.revocationCommit seq) s (fun t => Keeps s t ∧ t.settled) :=
  have r := Keeps.refl s
  ⟨_, rfl, ⟨r.onPkg, rfl⟩⟩

theorem exec_revocationSweepDone (seq : Nat) (at_ : Nat) (s : State) : Runs (.revocationSweepDone seq at_) s (fun t => Keeps s t ∧ t.settled) :=
  have r := Keeps.refl s
  ⟨_, rfl, ⟨r.onPkg, rfl⟩⟩

theorem exec_revocationMessage (tile : Nat) (seq : Nat) (at_ : Nat) (s : State) : Runs (.revocationMessage tile seq at_) s (fun t => Keeps s t ∧ t.settled) :=
  have r := Keeps.refl s
  ⟨_, rfl, ⟨r.onPkg, rfl⟩⟩

theorem exec_revocationBeat (tile : Nat) (seq : Nat) (at_ : Nat) (s : State) : Runs (.revocationBeat tile seq at_) s (fun t => Keeps s t ∧ t.settled) :=
  have r := Keeps.refl s
  ⟨_, rfl, ⟨r.onPkg, rfl⟩⟩

theorem exec_leaseExpire (tile : Nat) (s : State) : Runs (.leaseExpire tile) s (fun t => Keeps s t ∧ t.settled) :=
  have r := Keeps.refl s
  ⟨_, rfl, ⟨r.onPkg, rfl⟩⟩

theorem exec_keyTransfer (tile : Nat) (slot : Nat) (trestle : Bool) (at_ : Nat) (s : State) : Runs (.keyTransfer tile slot trestle at_) s (fun t => Keeps s t ∧ t.settled) :=
  have r := Keeps.refl s
  ⟨_, rfl, ⟨r.onPkg, rfl⟩⟩

theorem exec_saValidWrite (a : Acc) (tile : Nat) (offset : Nat) (value : Word) (s : State) : Runs (.saValidWrite a tile offset value) s (fun t => Keeps s t ∧ t.settled) :=
  have r := Keeps.refl s
  ⟨_, rfl, ⟨(r.regWriteIf _ _ _ _ _).finish, rfl⟩⟩

theorem exec_tamperEvent (source : Nat) (at_ : Nat) (s : State) : Runs (.tamperEvent source at_) s (fun t => Keeps s t ∧ t.settled) :=
  have r := Keeps.refl s
  ⟨_, rfl, ⟨r.onPkg, rfl⟩⟩

theorem exec_modeRequest (a : Acc) (value : Word) (s : State) : Runs (.modeRequest a value) s (fun t => Keeps s t ∧ t.settled) :=
  have r := Keeps.refl s
  ⟨_, rfl, ⟨(r.regWrite _ _ _ _).finish, rfl⟩⟩

theorem exec_reset (a : Acc) (value : Word) (s : State) : Runs (.reset a value) s (fun t => Keeps s t ∧ t.settled) :=
  have r := Keeps.refl s
  ⟨_, rfl, ⟨(r.regWrite _ _ _ _).finish, rfl⟩⟩

theorem exec_serviceLapse  (s : State) : Runs (.serviceLapse ) s (fun t => Keeps s t ∧ t.settled) :=
  have r := Keeps.refl s
  ⟨_, rfl, ⟨r.onPkg, rfl⟩⟩

theorem exec_debugTicketLapse  (s : State) : Runs (.debugTicketLapse ) s (fun t => Keeps s t ∧ t.settled) :=
  have r := Keeps.refl s
  ⟨_, rfl, ⟨r.onPkg, rfl⟩⟩

theorem exec_batPowerUp (at_ : Nat) (s : State) : Runs (.batPowerUp at_) s (fun t => Keeps s t ∧ t.settled) :=
  have r := Keeps.refl s
  ⟨_, rfl, ⟨r.onPkg, rfl⟩⟩

theorem exec_wakePin (pin : Nat) (at_ : Nat) (s : State) : Runs (.wakePin pin at_) s (fun t => Keeps s t ∧ t.settled) :=
  have r := Keeps.refl s
  ⟨_, rfl, ⟨r.onPkg, rfl⟩⟩

theorem exec_wakePinStuck (pin : Nat) (s : State) : Runs (.wakePinStuck pin) s (fun t => Keeps s t ∧ t.settled) :=
  have r := Keeps.refl s
  ⟨_, rfl, ⟨r.onPkg, rfl⟩⟩

theorem exec_canWup (ch : Nat) (at_ : Nat) (s : State) : Runs (.canWup ch at_) s (fun t => Keeps s t ∧ t.settled) :=
  have r := Keeps.refl s
  ⟨_, rfl, ⟨r.onPkg, rfl⟩⟩

theorem exec_selectiveWake (ch : Nat) (m : CanFrame) (at_ : Nat) (s : State) : Runs (.selectiveWake ch m at_) s (fun t => Keeps s t ∧ t.settled) :=
  have r := Keeps.refl s
  ⟨_, rfl, ⟨r.onPkg, rfl⟩⟩

theorem exec_swkErrorOverflow (ch : Nat) (at_ : Nat) (s : State) : Runs (.swkErrorOverflow ch at_) s (fun t => Keeps s t ∧ t.settled) :=
  have r := Keeps.refl s
  ⟨_, rfl, ⟨r.onPkg, rfl⟩⟩

theorem exec_trxFailsafe (ch : Nat) (s : State) : Runs (.trxFailsafe ch) s (fun t => Keeps s t ∧ t.settled) :=
  have r := Keeps.refl s
  ⟨_, rfl, ⟨r.onPkg, rfl⟩⟩

theorem exec_watchCoreFailsafe (at_ : Nat) (s : State) : Runs (.watchCoreFailsafe at_) s (fun t => Keeps s t ∧ t.settled) :=
  have r := Keeps.refl s
  ⟨_, rfl, ⟨r.onPkg, rfl⟩⟩

theorem exec_txdTimeout (ch : Nat) (at_ : Nat) (s : State) : Runs (.txdTimeout ch at_) s (fun t => Keeps s t ∧ t.settled) :=
  have r := Keeps.refl s
  ⟨_, rfl, ⟨r.onPkg, rfl⟩⟩

theorem exec_busDom (ch : Nat) (at_ : Nat) (s : State) : Runs (.busDom ch at_) s (fun t => Keeps s t ∧ t.settled) :=
  have r := Keeps.refl s
  ⟨_, rfl, ⟨r.onPkg, rfl⟩⟩

theorem exec_nmMessage (ch : Nat) (m : CanFrame) (at_ : Nat) (s : State) : Runs (.nmMessage ch m at_) s (fun t => Keeps s t ∧ t.settled) :=
  have r := Keeps.refl s
  ⟨_, rfl, ⟨r.onPkg, rfl⟩⟩

theorem exec_nmRingSend (ch : Nat) (s : State) : Runs (.nmRingSend ch) s (fun t => Keeps s t ∧ t.settled) :=
  have r := Keeps.refl s
  ⟨_, rfl, ⟨r.onPkg, rfl⟩⟩

theorem exec_nmRingLost (ch : Nat) (s : State) : Runs (.nmRingLost ch) s (fun t => Keeps s t ∧ t.settled) :=
  have r := Keeps.refl s
  ⟨_, rfl, ⟨r.onPkg, rfl⟩⟩

theorem exec_limphome (ch : Nat) (s : State) : Runs (.limphome ch) s (fun t => Keeps s t ∧ t.settled) :=
  have r := Keeps.refl s
  ⟨_, rfl, ⟨r.onPkg, rfl⟩⟩

theorem exec_nmWaitExpire (ch : Nat) (s : State) : Runs (.nmWaitExpire ch) s (fun t => Keeps s t ∧ t.settled) :=
  have r := Keeps.refl s
  ⟨_, rfl, ⟨(r.nmWaitExpire _).finish, rfl⟩⟩

theorem exec_pnTimeout (pn : Nat) (s : State) : Runs (.pnTimeout pn) s (fun t => Keeps s t ∧ t.settled) :=
  have r := Keeps.refl s
  ⟨_, rfl, ⟨r.onPkg, rfl⟩⟩

theorem exec_confirmWake (a : Acc) (value : Word) (s : State) : Runs (.confirmWake a value) s (fun t => Keeps s t ∧ t.settled) :=
  have r := Keeps.refl s
  ⟨_, rfl, ⟨(r.regWrite _ _ _ _).finish, rfl⟩⟩

theorem exec_falseWake  (s : State) : Runs (.falseWake ) s (fun t => Keeps s t ∧ t.settled) :=
  have r := Keeps.refl s
  ⟨_, rfl, ⟨(r.falseWake).finish, rfl⟩⟩

theorem exec_newPeriod (a : Acc) (value : Word) (s : State) : Runs (.newPeriod a value) s (fun t => Keeps s t ∧ t.settled) :=
  have r := Keeps.refl s
  ⟨_, rfl, ⟨(r.regWrite _ _ _ _).finish, rfl⟩⟩

theorem exec_planTick (meas : Nat) (temp : Int) (spentNah : Nat) (s : State) : Runs (.planTick meas temp spentNah) s (fun t => Keeps s t ∧ t.settled) :=
  have r := Keeps.refl s
  ⟨_, rfl, ⟨r.onPkg, rfl⟩⟩

theorem exec_planTimer (k : Nat) (s : State) : Runs (.planTimer k) s (fun t => Keeps s t ∧ t.settled) :=
  have r := Keeps.refl s
  ⟨_, rfl, ⟨r.onPkg, rfl⟩⟩

theorem exec_hkMax  (s : State) : Runs (.hkMax ) s (fun t => Keeps s t ∧ t.settled) :=
  have r := Keeps.refl s
  ⟨_, rfl, ⟨(r.hkMax).finish, rfl⟩⟩

theorem exec_retentionConfirm (tile : Nat) (at_ : Nat) (s : State) : Runs (.retentionConfirm tile at_) s (fun t => Keeps s t ∧ t.settled) :=
  have r := Keeps.refl s
  ⟨_, rfl, ⟨r.onPkg, rfl⟩⟩

theorem exec_vstbyLow (mv : Nat) (at_ : Nat) (s : State) : Runs (.vstbyLow mv at_) s (fun t => Keeps s t ∧ t.settled) :=
  have r := Keeps.refl s
  ⟨_, rfl, ⟨r.onPkg, rfl⟩⟩

theorem exec_elCopyRefresh (tile : Nat) (at_ : Nat) (s : State) : Runs (.elCopyRefresh tile at_) s (fun t => Keeps s t ∧ t.settled) :=
  have r := Keeps.refl s
  ⟨_, rfl, ⟨r.onPkg, rfl⟩⟩

theorem exec_roundBoundary (tile : Nat) (run : RoundRun) (at_ : Nat) (s : State) : Runs (.roundBoundary tile run at_) s (fun t => Keeps s t ∧ t.settled) :=
  have r := Keeps.refl s
  ⟨_, rfl, ⟨r.onPkg, rfl⟩⟩

theorem exec_vote (tile : Nat) (v : VoteIn) (at_ : Nat) (s : State) : Runs (.vote tile v at_) s (fun t => Keeps s t ∧ t.settled) :=
  have r := Keeps.refl s
  ⟨_, rfl, ⟨((r.map _).releaseRound _).finish, rfl⟩⟩

theorem exec_digestGrace (tile : Nat) (core : Nat) (s : State) : Runs (.digestGrace tile core) s (fun t => Keeps s t ∧ t.settled) :=
  have r := Keeps.refl s
  ⟨_, rfl, ⟨r.onPkg, rfl⟩⟩

theorem exec_standbyRound (digest : Quad) (ownVoteOk : Bool) (at_ : Nat) (s : State) : Runs (.standbyRound digest ownVoteOk at_) s (fun t => Keeps s t ∧ t.settled) :=
  have r := Keeps.refl s
  ⟨_, rfl, ⟨r.onPkg, rfl⟩⟩

theorem exec_standbySync (at_ : Nat) (s : State) : Runs (.standbySync at_) s (fun t => Keeps s t ∧ t.settled) :=
  have r := Keeps.refl s
  ⟨_, rfl, ⟨r.onPkg, rfl⟩⟩

theorem exec_standbyTimeout (cause : StbyCause) (replay : List HeldOut) (at_ : Nat) (s : State) : Runs (.standbyTimeout cause replay at_) s (fun t => Keeps s t ∧ t.settled) :=
  have r := Keeps.refl s
  ⟨_, rfl, ⟨(r.standbyTimeout _ _ _).finishKeystone, rfl⟩⟩

theorem exec_stewardRestart (tile : Nat) (at_ : Nat) (s : State) : Runs (.stewardRestart tile at_) s (fun t => Keeps s t ∧ t.settled) :=
  have r := Keeps.refl s
  ⟨_, rfl, ⟨r.onKeystone, rfl⟩⟩

theorem exec_rejoin (a : Acc) (tile : Nat) (value : Word) (s : State) : Runs (.rejoin a tile value) s (fun t => Keeps s t ∧ t.settled) :=
  have r := Keeps.refl s
  ⟨_, rfl, ⟨(r.regWrite _ _ _ _).finish, rfl⟩⟩

theorem exec_doubtClear (a : Acc) (tile : Nat) (value : Word) (s : State) : Runs (.doubtClear a tile value) s (fun t => Keeps s t ∧ t.settled) :=
  have r := Keeps.refl s
  ⟨_, rfl, ⟨(r.regWrite _ _ _ _).finish, rfl⟩⟩

theorem exec_censusLatch (die : Nat) (periodic : Bool) (at_ : Nat) (s : State) : Runs (.censusLatch die periodic at_) s (fun t => Keeps s t ∧ t.settled) :=
  have r := Keeps.refl s
  ⟨_, rfl, ⟨r.onPkg, rfl⟩⟩

theorem exec_censusRequest (a : Acc) (tile : Nat) (value : Word) (s : State) : Runs (.censusRequest a tile value) s (fun t => Keeps s t ∧ t.settled) :=
  have r := Keeps.refl s
  ⟨_, rfl, ⟨(r.regWrite _ _ _ _).finish, rfl⟩⟩

theorem exec_censusPrepare (die : Nat) (at_ : Nat) (s : State) : Runs (.censusPrepare die at_) s (fun t => Keeps s t ∧ t.settled) :=
  have r := Keeps.refl s
  ⟨_, rfl, ⟨r.onPkg, rfl⟩⟩

theorem exec_censusPublish (die : Nat) (at_ : Nat) (s : State) : Runs (.censusPublish die at_) s (fun t => Keeps s t ∧ t.settled) :=
  have r := Keeps.refl s
  ⟨_, rfl, ⟨r.onPkg, rfl⟩⟩

theorem exec_censusAbsent (die : Nat) (s : State) : Runs (.censusAbsent die) s (fun t => Keeps s t ∧ t.settled) :=
  have r := Keeps.refl s
  ⟨_, rfl, ⟨r.onPkg, rfl⟩⟩

theorem exec_censusHold (a : Acc) (tile : Nat) (hold : Bool) (s : State) : Runs (.censusHold a tile hold) s (fun t => Keeps s t ∧ t.settled) :=
  have r := Keeps.refl s
  ⟨_, rfl, ⟨(r.regWrite _ _ _ _).finish, rfl⟩⟩

theorem exec_journalCommit (a : Acc) (tile : Nat) (value : Word) (s : State) : Runs (.journalCommit a tile value) s (fun t => Keeps s t ∧ t.settled) :=
  have r := Keeps.refl s
  ⟨_, rfl, ⟨(r.regWrite _ _ _ _).finish, rfl⟩⟩

theorem exec_pageProgram (ok : Bool) (at_ : Nat) (s : State) : Runs (.pageProgram ok at_) s (fun t => Keeps s t ∧ t.settled) :=
  have r := Keeps.refl s
  ⟨_, rfl, ⟨r.onPkg, rfl⟩⟩

theorem exec_flushTimer  (s : State) : Runs (.flushTimer ) s (fun t => Keeps s t ∧ t.settled) :=
  have r := Keeps.refl s
  ⟨_, rfl, ⟨r.onPkg, rfl⟩⟩

theorem exec_flush (a : Acc) (s : State) : Runs (.flush a) s (fun t => Keeps s t ∧ t.settled) :=
  have r := Keeps.refl s
  ⟨_, rfl, ⟨(r.regWrite _ _ _ _).finish, rfl⟩⟩

theorem exec_nandMount (d : NandFound) (at_ : Nat) (s : State) : Runs (.nandMount d at_) s (fun t => Keeps s t ∧ t.settled) :=
  have r := Keeps.refl s
  ⟨_, rfl, ⟨r.onPkg, rfl⟩⟩

theorem exec_rdGo (a : Acc) (area : Nat) (s : State) : Runs (.rdGo a area) s (fun t => Keeps s t ∧ t.settled) :=
  have r := Keeps.refl s
  ⟨_, rfl, ⟨(r.regWrite _ _ _ _).finish, rfl⟩⟩

theorem exec_rdStop (a : Acc) (s : State) : Runs (.rdStop a) s (fun t => Keeps s t ∧ t.settled) :=
  have r := Keeps.refl s
  ⟨_, rfl, ⟨(r.regWrite _ _ _ _).finish, rfl⟩⟩

theorem exec_rdCopyRecord (read : RecordRead) (s : State) : Runs (.rdCopyRecord read) s (fun t => Keeps s t ∧ t.settled) :=
  have r := Keeps.refl s
  ⟨_, rfl, ⟨(r.rdCopyRecord _ _).finish, rfl⟩⟩

theorem exec_keeperWork (run : WorkRun) (at_ : Nat) (s : State) : Runs (.keeperWork run at_) s (fun t => Keeps s t ∧ t.settled) :=
  have r := Keeps.refl s
  ⟨_, rfl, ⟨(r.keeperWork _ _ _).finish, rfl⟩⟩

theorem exec_scrubDue (block : Nat) (at_ : Nat) (s : State) : Runs (.scrubDue block at_) s (fun t => Keeps s t ∧ t.settled) :=
  have r := Keeps.refl s
  ⟨_, rfl, ⟨r.onPkg, rfl⟩⟩

theorem exec_norScrub (at_ : Nat) (s : State) : Runs (.norScrub at_) s (fun t => Keeps s t ∧ t.settled) :=
  have r := Keeps.refl s
  ⟨_, rfl, ⟨r.onPkg, rfl⟩⟩

theorem exec_write (a : Acc) (s : State) : Runs (.write a) s (fun t => Keeps s t ∧ t.settled) :=
  have r := Keeps.refl s
  ⟨_, rfl, ⟨(r.regWrite _ _ _ _).finish, rfl⟩⟩

theorem exec_verify (a : Acc) (stage : Bool) (s : State) : Runs (.verify a stage) s (fun t => Keeps s t ∧ t.settled) :=
  have r := Keeps.refl s
  ⟨_, rfl, ⟨(r.regWrite _ _ _ _).finish, rfl⟩⟩

theorem exec_activateLive (a : Acc) (s : State) : Runs (.activateLive a) s (fun t => Keeps s t ∧ t.settled) :=
  have r := Keeps.refl s
  ⟨_, rfl, ⟨(r.regWrite _ _ _ _).finish, rfl⟩⟩

theorem exec_activateRestart (a : Acc) (s : State) : Runs (.activateRestart a) s (fun t => Keeps s t ∧ t.settled) :=
  have r := Keeps.refl s
  ⟨_, rfl, ⟨(r.regWrite _ _ _ _).finish, rfl⟩⟩

theorem exec_activateNextStart (a : Acc) (s : State) : Runs (.activateNextStart a) s (fun t => Keeps s t ∧ t.settled) :=
  have r := Keeps.refl s
  ⟨_, rfl, ⟨(r.regWrite _ _ _ _).finish, rfl⟩⟩

theorem exec_confirmTrial (a : Acc) (s : State) : Runs (.confirmTrial a) s (fun t => Keeps s t ∧ t.settled) :=
  have r := Keeps.refl s
  ⟨_, rfl, ⟨(r.regWrite _ _ _ _).finish, rfl⟩⟩

theorem exec_abandon (a : Acc) (s : State) : Runs (.abandon a) s (fun t => Keeps s t ∧ t.settled) :=
  have r := Keeps.refl s
  ⟨_, rfl, ⟨(r.regWrite _ _ _ _).finish, rfl⟩⟩

theorem exec_provWrite (a : Acc) (s : State) : Runs (.provWrite a) s (fun t => Keeps s t ∧ t.settled) :=
  have r := Keeps.refl s
  ⟨_, rfl, ⟨(r.regWrite _ _ _ _).finish, rfl⟩⟩

theorem exec_upCommandDone (readBackOk : Bool) (at_ : Nat) (s : State) : Runs (.upCommandDone readBackOk at_) s (fun t => Keeps s t ∧ t.settled) :=
  have r := Keeps.refl s
  ⟨_, rfl, ⟨(r.upCommandDone _ _).finish, rfl⟩⟩

theorem exec_activationFlush  (s : State) : Runs (.activationFlush ) s (fun t => Keeps s t ∧ t.settled) :=
  have r := Keeps.refl s
  ⟨_, rfl, ⟨r.onPkg, rfl⟩⟩

theorem exec_activationRestartDone (tile : Nat) (ok : Bool) (at_ : Nat) (s : State) : Runs (.activationRestartDone tile ok at_) s (fun t => Keeps s t ∧ t.settled) :=
  have r := Keeps.refl s
  ⟨_, rfl, ⟨(r.activationRestartDone _ _ _).finishFlow, rfl⟩⟩

theorem exec_activationTimeout  (s : State) : Runs (.activationTimeout ) s (fun t => Keeps s t ∧ t.settled) :=
  have r := Keeps.refl s
  ⟨_, rfl, ⟨(r.activationTimeout).finishFlow, rfl⟩⟩

theorem exec_trialEnd  (s : State) : Runs (.trialEnd ) s (fun t => Keeps s t ∧ t.settled) :=
  have r := Keeps.refl s
  ⟨_, rfl, ⟨(r.trialEnds).finish, rfl⟩⟩

theorem exec_bootStageDone (ok : Bool) (at_ : Nat) (s : State) : Runs (.bootStageDone ok at_) s (fun t => Keeps s t ∧ t.settled) :=
  have r := Keeps.refl s
  ⟨_, rfl, ⟨(r.bootStageDone _ _).finishFlow, rfl⟩⟩

theorem exec_sectionTimeout (tile : Nat) (at_ : Nat) (s : State) : Runs (.sectionTimeout tile at_) s (fun t => Keeps s t ∧ t.settled) :=
  have r := Keeps.refl s
  ⟨_, rfl, ⟨(r.sectionTimeout _ _).finish, rfl⟩⟩

theorem exec_pmicPgRise (group : Nat) (at_ : Nat) (s : State) : Runs (.pmicPgRise group at_) s (fun t => Keeps s t ∧ t.settled) :=
  have r := Keeps.refl s
  ⟨_, rfl, ⟨(r.pmicPgRise _ _).finishFlow, rfl⟩⟩

theorem exec_pmicEnable (group : Nat) (s : State) : Runs (.pmicEnable group) s (fun t => Keeps s t ∧ t.settled) :=
  have r := Keeps.refl s
  ⟨_, rfl, ⟨r.onPkg, rfl⟩⟩

theorem exec_railTimeout (group : Nat) (s : State) : Runs (.railTimeout group) s (fun t => Keeps s t ∧ t.settled) :=
  have r := Keeps.refl s
  ⟨_, rfl, ⟨r.onPkg, rfl⟩⟩

theorem exec_pmicDisable (group : Nat) (at_ : Nat) (s : State) : Runs (.pmicDisable group at_) s (fun t => Keeps s t ∧ t.settled) :=
  have r := Keeps.refl s
  ⟨_, rfl, ⟨r.onPkg, rfl⟩⟩

theorem exec_railFault (group : Nat) (at_ : Nat) (s : State) : Runs (.railFault group at_) s (fun t => Keeps s t ∧ t.settled) :=
  have r := Keeps.refl s
  ⟨_, rfl, ⟨r.onPkg, rfl⟩⟩

theorem exec_batLow (mv : Nat) (at_ : Nat) (s : State) : Runs (.batLow mv at_) s (fun t => Keeps s t ∧ t.settled) :=
  have r := Keeps.refl s
  ⟨_, rfl, ⟨r.onPkg, rfl⟩⟩

theorem exec_batRecover (mv : Nat) (at_ : Nat) (s : State) : Runs (.batRecover mv at_) s (fun t => Keeps s t ∧ t.settled) :=
  have r := Keeps.refl s
  ⟨_, rfl, ⟨r.onPkg, rfl⟩⟩

theorem exec_batLost (at_ : Nat) (s : State) : Runs (.batLost at_) s (fun t => Keeps s t ∧ t.settled) :=
  have r := Keeps.refl s
  ⟨_, rfl, ⟨(r.batLost _).finish, rfl⟩⟩

theorem exec_thermalSample (tile : Nat) (temp : Int) (at_ : Nat) (s : State) : Runs (.thermalSample tile temp at_) s (fun t => Keeps s t ∧ t.settled) :=
  have r := Keeps.refl s
  ⟨_, rfl, ⟨r.onPkg, rfl⟩⟩

theorem exec_thermalShutdown (tile : Nat) (at_ : Nat) (s : State) : Runs (.thermalShutdown tile at_) s (fun t => Keeps s t ∧ t.settled) :=
  have r := Keeps.refl s
  ⟨_, rfl, ⟨r.onKeystone, rfl⟩⟩

theorem exec_thermalRestart  (s : State) : Runs (.thermalRestart ) s (fun t => Keeps s t ∧ t.settled) :=
  have r := Keeps.refl s
  ⟨_, rfl, ⟨r.onPkg, rfl⟩⟩

theorem exec_tetherTimeAlign (err : Int) (at_ : Nat) (s : State) : Runs (.tetherTimeAlign err at_) s (fun t => Keeps s t ∧ t.settled) :=
  have r := Keeps.refl s
  ⟨_, rfl, ⟨r.onPkg, rfl⟩⟩

theorem exec_spillWriteDone (tile : Nat) (port : Nat) (queue : Nat) (at_ : Nat) (s : State) : Runs (.spillWriteDone tile port queue at_) s (fun t => Keeps s t ∧ t.settled) :=
  have r := Keeps.refl s
  ⟨_, rfl, ⟨r.onFlow, rfl⟩⟩

theorem exec_shaperEligible (tile : Nat) (port : Nat) (queue : Nat) (s : State) : Runs (.shaperEligible tile port queue) s (fun t => Keeps s t ∧ t.settled) :=
  have r := Keeps.refl s
  ⟨_, rfl, ⟨r.onPkg, rfl⟩⟩

theorem exec_busFrameError (e : BusErr) (at_ : Nat) (s : State) : Runs (.busFrameError e at_) s (fun t => Keeps s t ∧ t.settled) :=
  have r := Keeps.refl s
  ⟨_, rfl, ⟨r.onPkg, rfl⟩⟩

theorem exec_flexraySlot (chA : Bool) (chB : Bool) (slot : Nat) (cycle : Nat) (dynamic : Bool) (at_ : Nat) (s : State) : Runs (.flexraySlot chA chB slot cycle dynamic at_) s (fun t => Keeps s t ∧ t.settled) :=
  have r := Keeps.refl s
  ⟨_, rfl, ⟨r.onPkg, rfl⟩⟩

theorem exec_flexrayPocChange (poc : Nat) (at_ : Nat) (s : State) : Runs (.flexrayPocChange poc at_) s (fun t => Keeps s t ∧ t.settled) :=
  have r := Keeps.refl s
  ⟨_, rfl, ⟨r.onPkg, rfl⟩⟩

theorem exec_pcieLinkUp (tile : Nat) (speed : Nat) (width : Nat) (at_ : Nat) (s : State) : Runs (.pcieLinkUp tile speed width at_) s (fun t => Keeps s t ∧ t.settled) :=
  have r := Keeps.refl s
  ⟨_, rfl, ⟨r.onPkg, rfl⟩⟩

theorem exec_pcieConfigWrite (tile : Nat) (bme : Bool) (mps : Nat) (mrrs : Nat) (cplTimeoutUs : Nat) (at_ : Nat) (s : State) : Runs (.pcieConfigWrite tile bme mps mrrs cplTimeoutUs at_) s (fun t => Keeps s t ∧ t.settled) :=
  have r := Keeps.refl s
  ⟨_, rfl, ⟨r.onPkg, rfl⟩⟩

theorem exec_wakePinInactive (pin : Nat) (at_ : Nat) (s : State) : Runs (.wakePinInactive pin at_) s (fun t => Keeps s t ∧ t.settled) :=
  have r := Keeps.refl s
  ⟨_, rfl, ⟨r.onPkg, rfl⟩⟩

theorem exec_transceiverCommand (ch : Nat) (cmd : Nat) (at_ : Nat) (s : State) : Runs (.transceiverCommand ch cmd at_) s (fun t => Keeps s t ∧ t.settled) :=
  have r := Keeps.refl s
  ⟨_, rfl, ⟨r.onPkg, rfl⟩⟩

theorem exec_busDomClear (ch : Nat) (at_ : Nat) (s : State) : Runs (.busDomClear ch at_) s (fun t => Keeps s t ∧ t.settled) :=
  have r := Keeps.refl s
  ⟨_, rfl, ⟨r.onPkg, rfl⟩⟩

theorem exec_txdRecessive (lin : Bool) (ch : Nat) (at_ : Nat) (s : State) : Runs (.txdRecessive lin ch at_) s (fun t => Keeps s t ∧ t.settled) :=
  have r := Keeps.refl s
  ⟨_, rfl, ⟨r.onPkg, rfl⟩⟩

theorem exec_linTxdTimeout (ch : Nat) (at_ : Nat) (s : State) : Runs (.linTxdTimeout ch at_) s (fun t => Keeps s t ∧ t.settled) :=
  have r := Keeps.refl s
  ⟨_, rfl, ⟨r.onPkg, rfl⟩⟩

theorem exec_allowanceLow (spentNah : Nat) (at_ : Nat) (s : State) : Runs (.allowanceLow spentNah at_) s (fun t => Keeps s t ∧ t.settled) :=
  have r := Keeps.refl s
  ⟨_, rfl, ⟨r.onPkg, rfl⟩⟩

theorem exec_stewardReloadDone (tile : Nat) (at_ : Nat) (s : State) : Runs (.stewardReloadDone tile at_) s (fun t => Keeps s t ∧ t.settled) :=
  have r := Keeps.refl s
  ⟨_, rfl, ⟨(r.stewardReloadDone _ _).finish, rfl⟩⟩

theorem exec_batBelowOperating (mv : Nat) (at_ : Nat) (s : State) : Runs (.batBelowOperating mv at_) s (fun t => Keeps s t ∧ t.settled) :=
  have r := Keeps.refl s
  ⟨_, rfl, ⟨r.onPkg, rfl⟩⟩

theorem exec_registerWrite (a : Acc) (addr : Nat) (value : Word) (be : Nat) (s : State) : Runs (.registerWrite a addr value be) s (fun t => Keeps s t ∧ t.settled) := by
  have r := Keeps.refl s
  exact ⟨_, rfl, (Keeps.access (Keeps.map r _) _ _ _).finish, rfl⟩

theorem exec_keystoneWrite (a : Acc) (addr : Nat) (value : Word) (be : Nat) (s : State) : Runs (.keystoneWrite a addr value be) s (fun t => Keeps s t ∧ t.settled) := by
  have r := Keeps.refl s
  exact ⟨_, rfl, (Keeps.ite (Keeps.access (Keeps.map r _) _ _ _) r).finish, rfl⟩

theorem exec_alloc (a : Acc) (tile : Nat) (owner : Nat) (pool : Nat) (s : State) : Runs (.alloc a tile owner pool) s (fun t => Keeps s t ∧ t.settled) := by
  have r := Keeps.refl s
  exact ⟨_, rfl, (Keeps.ite (r.regRead _ _ _) r).finish, rfl⟩

theorem exec_debugRequest (a : Acc) (port : Bool) (value : Word) (s : State) : Runs (.debugRequest a port value) s (fun t => Keeps s t ∧ t.settled) := by
  have r := Keeps.refl s
  exact ⟨_, rfl, (Keeps.ite (Keeps.map r _) (r.regWrite _ _ _ _)).finish, rfl⟩

theorem exec_lowWordRead (a : Acc) (read : LowRead) (s : State) : Runs (.lowWordRead a read) s (fun t => Keeps s t ∧ t.settled) := by
  have r := Keeps.refl s
  exact ⟨_, rfl, (Keeps.ite ((Keeps.map r _).readPair _ _ _ _) r).finish, rfl⟩

end Sys2Proof.Machine
end

