-- ==== Sys2Proof/Laws/Frames.lean ====
section
/-! SUPPORT. Laws of frames: what the hidden state keeps under each named update, and how frames are put together. -/
namespace Sys2Proof.Machine

@[simp] theorem Pkg.wr_hidden (s : Pkg) (d o : Nat) (w : Word) : (s.wr d o w).hidden = s.hidden := (rfl)
@[simp] theorem Pkg.put_hidden (s : Pkg) (d : Nat) (f : Fld) (v : Nat) : (s.put d f v).hidden = s.hidden := (rfl)
@[simp] theorem Pkg.raise_hidden (s : Pkg) (d : Nat) (f : Fld) : (s.raise d f).hidden = s.hidden := (rfl)
@[simp] theorem Pkg.wrShadow_hidden (s : Pkg) (d o : Nat) (w : Word) : (s.wrShadow d o w).hidden = s.hidden.wrShadow d o w := (rfl)
@[simp] theorem Pkg.setCnt_hidden (s : Pkg) (d o : Nat) (v : Quad) : (s.setCnt d o v).hidden = s.hidden := (rfl)
@[simp] theorem Pkg.add_hidden (s : Pkg) (d o n : Nat) : (s.add d o n).hidden = s.hidden := (rfl)
@[simp] theorem Pkg.bump_hidden (s : Pkg) (d o : Nat) : (s.bump d o).hidden = s.hidden := (rfl)
@[simp] theorem Pkg.emit_hidden (s : Pkg) (e : OutEv) : (s.emit e).hidden = s.hidden := (rfl)
@[simp] theorem Pkg.emitAll_hidden (s : Pkg) (es : List OutEv) : (s.emitAll es).hidden = s.hidden := (rfl)
@[simp] theorem Pkg.tookFree_hidden (s : Pkg) (n : Nat) : (s.tookFree n).hidden = s.hidden.tookFree n := (rfl)
@[simp] theorem Pkg.reach_hidden (s : Pkg) (n : Nat) : (s.reach n).hidden = s.hidden := (rfl)
@[simp] theorem Pkg.reachFrac_hidden (s : Pkg) (n : Nat) : (s.reachFrac n).hidden = s.hidden := (rfl)
@[simp] theorem Pkg.event_hidden (s : Pkg) (t v : Nat) : (s.event t v).hidden = s.hidden := (rfl)
@[simp] theorem Pkg.onMode_hidden (s : Pkg) (f : ModeSt → ModeSt) : (s.onMode f).hidden = s.hidden.onMode f := (rfl)
@[simp] theorem Pkg.onSw_hidden (s : Pkg) (f : SwitchSt → SwitchSt) : (s.onSw f).hidden = s.hidden.onSw f := (rfl)
@[simp] theorem Pkg.setReqSt_hidden (s : Pkg) (r : Req) (x : ReqSt) : (s.setReqSt r x).hidden = s.hidden.setReqSt r x := (rfl)
@[simp] theorem Pkg.setSpanSt_hidden (s : Pkg) (t p : Nat) (x : SpanSt) : (s.setSpanSt t p x).hidden = s.hidden.setSpanSt t p x := (rfl)
@[simp] theorem Pkg.setTetherSt_hidden (s : Pkg) (t : Nat) (x : TetherSt) : (s.setTetherSt t x).hidden = s.hidden.setTetherSt t x := (rfl)
@[simp] theorem Pkg.setClockSt_hidden (s : Pkg) (t : Nat) (x : ClockSt) : (s.setClockSt t x).hidden = s.hidden.setClockSt t x := (rfl)
@[simp] theorem Pkg.setKsT_hidden (s : Pkg) (t : Nat) (x : KsTile) : (s.setKsT t x).hidden = s.hidden.setKsT t x := (rfl)
@[simp] theorem Pkg.setQueueAt_hidden (s : Pkg) (t : Nat) (x : List HeldAcc) : (s.setQueueAt t x).hidden = s.hidden.setQueueAt t x := (rfl)
@[simp] theorem Pkg.setLeaseSt_hidden (s : Pkg) (t : Nat) (x : LeaseSt) : (s.setLeaseSt t x).hidden = s.hidden.setLeaseSt t x := (rfl)
@[simp] theorem Pkg.setMacCache_hidden (s : Pkg) (t : Nat) (x : List CachedKey) : (s.setMacCache t x).hidden = s.hidden.setMacCache t x := (rfl)
@[simp] theorem Pkg.setTrCache_hidden (s : Pkg) (t : Nat) (x : List CachedKey) : (s.setTrCache t x).hidden = s.hidden.setTrCache t x := (rfl)

@[simp] theorem Pkg.settle_hidden (s : Pkg) : s.settle.hidden = s.hidden := by
  obtain ⟨m, o, h⟩ := s.settle_eq; rw [h]; rfl

@[simp] theorem State.finish_hidden (s : State) : s.finish.pkg.hidden = s.pkg.hidden := by
  obtain ⟨m, o, h⟩ := s.pkg.settle_eq; simp only [State.finish, h]; rfl

theorem WordsKept.refl (p : Pkg) (l : List Nat) : WordsKept p p l := fun _ _ _ => rfl
theorem CountsKept.refl (p : Pkg) (l : List Nat) : CountsKept p p l := fun _ _ _ => rfl

theorem WordsKept.trans {p q r : Pkg} {l m : List Nat} (h : WordsKept p q l) (h' : WordsKept q r m) : WordsKept p r (l ++ m) := by
  intro d o hd
  rw [List.mem_append, not_or] at hd
  rw [h' d o hd.2, h d o hd.1]

theorem CountsKept.trans {p q r : Pkg} {l m : List Nat} (h : CountsKept p q l) (h' : CountsKept q r m) : CountsKept p r (l ++ m) := by
  intro d o hd
  rw [List.mem_append, not_or] at hd
  rw [h' d o hd.2, h d o hd.1]

theorem WordsKept.mono {p q : Pkg} {l m : List Nat} (h : WordsKept p q l) (hl : ∀ x ∈ l, x ∈ m) : WordsKept p q m :=
  fun d o hd => h d o (fun hx => hd (hl _ hx))

theorem CountsKept.mono {p q : Pkg} {l m : List Nat} (h : CountsKept p q l) (hl : ∀ x ∈ l, x ∈ m) : CountsKept p q m :=
  fun d o hd => h d o (fun hx => hd (hl _ hx))

theorem wordsKept_wr (p : Pkg) (d o : Nat) (w : Word) : WordsKept p (p.wr d o w) [pkgAddr d o] :=
  fun _ _ h => p.rd_wr_ne w (by simpa using h)

theorem wordsKept_put (p : Pkg) (d : Nat) (f : Fld) (v : Nat) : WordsKept p (p.put d f v) [pkgAddr d f.off] :=
  fun _ _ h => p.rd_put_ne v (by simpa using h)

theorem wordsKept_wr64 (p : Pkg) (d o v : Nat) : WordsKept p (p.wr64 d o v) [pkgAddr d o, pkgAddr d (o + 4)] :=
  (wordsKept_wr p d o _).trans (wordsKept_wr _ d (o + 4) _)

theorem countsKept_add (p : Pkg) (d o n : Nat) : CountsKept p (p.add d o n) [pkgAddr d o] :=
  fun _ _ h => p.cnt_add_ne n (by simpa using h)

theorem countsKept_bump (p : Pkg) (d o : Nat) : CountsKept p (p.bump d o) [pkgAddr d o] :=
  fun _ _ h => p.cnt_bump_ne (by simpa using h)

/-- A package whose words are the same has kept them all. -/
theorem WordsKept.of_eq {p q : Pkg} (l : List Nat) (h : ∀ d o, q.rd d o = p.rd d o) : WordsKept p q l := fun d o _ => h d o
theorem CountsKept.of_eq {p q : Pkg} (l : List Nat) (h : ∀ d o, q.cnt d o = p.cnt d o) : CountsKept p q l := fun d o _ => h d o

/-- The frame of an effect on the package that loses no memory. -/
theorem frame_finish {s : State} {f : Pkg → Pkg} {words counts : List Nat} (hw : WordsKept s.pkg (f s.pkg) words)
    (hc : CountsKept s.pkg (f s.pkg) counts) (hm : (f s.pkg).wipe = s.pkg.wipe) : Frame s (s.map f).finish words counts := by
  refine ⟨fun d o h => by simpa using hw d o h, fun d o h => by simpa using hc d o h, fun hs tile a => ?_, rfl⟩
  have : (s.map f).pkg.wipe = [] := by rw [State.map_pkg, hm]; exact hs
  rw [State.finish_mem_same _ this]; rfl

/-- An effect on the package that holds of its result still holds at the end of the command. -/
theorem runs_onPkg {i : Instr} {s : State} {P : State → Prop} {f : Pkg → Pkg} (h : exec i s = .next (s.onPkg f)) (hp : P (s.map f).finish) :
    Runs i s P := ⟨_, h, hp⟩

/-! ### Write commands -/

/-- A write command of a tile's word that reaches its target. -/
theorem tileWrite_finish {s : State} {a : Acc} {tile off : Nat} {v : Word} (h : s.pkg.reaches a.req tile off v) (ht : tile ≠ 15)
    (hu : off ≠ 0x2100004) :
    (s.regWrite a tile off v).finish = (s.map (fun p => ((p.reach a.at_).remember a.req tile off v).writeTile a.req tile off v 15)).finish := by
  have h4 : off % 4 = 0 := h.2.2.2.1
  have hp : s.pkg.absentPort tile off = false := h.2.2.2.2.2.2.2.2.2
  have hp' : (s.map (fun p => (p.reach a.at_).remember a.req tile off v)).pkg.absentPort tile off = false := by
    rw [State.map_pkg, Pkg.remember_absentPort, Pkg.reach_absentPort]; exact hp
  rw [State.regWrite_reaches h, State.applyWrite_tile hp' h4 ht hu 15, State.map_map]

/-- A write command of the sentinel's word that reaches its target. -/
theorem sentinelWrite_finish {s : State} {a : Acc} {off : Nat} {v : Word} (h : s.pkg.reaches a.req 15 off v) (hu : off ≠ 0x20010) :
    (s.regWrite a 15 off v).finish = (s.map (fun p => ((p.reach a.at_).remember a.req 15 off v).writeSentinel a.req off v 15)).finish := by
  rw [State.regWrite_reaches h, State.applyWrite_sentinel h.2.2.2.1 hu 15, State.map_map]

/-- A write command of a tile's word whose write has the effect f. -/
theorem runs_tileWrite {i : Instr} {s : State} {a : Acc} {tile off : Nat} {v : Word} {P : State → Prop}
    (h : s.pkg.reaches a.req tile off v) (ht : tile ≠ 15) (hu : off ≠ 0x2100004) (he : exec i s = .next (s.regWrite a tile off v).finish)
    (f : Pkg → Pkg)
    (hf : ((s.pkg.reach a.at_).remember a.req tile off v).writeTile a.req tile off v 15 = f ((s.pkg.reach a.at_).remember a.req tile off v))
    (hp : P (s.map (fun p => f ((p.reach a.at_).remember a.req tile off v))).finish) : Runs i s P := by
  refine ⟨_, he, ?_⟩
  rw [tileWrite_finish h ht hu]
  have : s.map (fun p => ((p.reach a.at_).remember a.req tile off v).writeTile a.req tile off v 15) =
      s.map (fun p => f ((p.reach a.at_).remember a.req tile off v)) := by simp only [State.map, hf]
  rwa [this]

/-- A write command of a word of the sentinel whose write has the effect f. -/
theorem runs_sentinelWrite {i : Instr} {s : State} {a : Acc} {off : Nat} {v : Word} {P : State → Prop}
    (h : s.pkg.reaches a.req 15 off v) (hu : off ≠ 0x20010) (he : exec i s = .next (s.regWrite a 15 off v).finish) (f : Pkg → Pkg)
    (hf : ((s.pkg.reach a.at_).remember a.req 15 off v).writeSentinel a.req off v 15 = f ((s.pkg.reach a.at_).remember a.req 15 off v))
    (hp : P (s.map (fun p => f ((p.reach a.at_).remember a.req 15 off v))).finish) : Runs i s P := by
  refine ⟨_, he, ?_⟩
  rw [sentinelWrite_finish h hu]
  have : s.map (fun p => ((p.reach a.at_).remember a.req 15 off v).writeSentinel a.req off v 15) =
      s.map (fun p => f ((p.reach a.at_).remember a.req 15 off v)) := by simp only [State.map, hf]
  rwa [this]

/-- What the home die remembers and the clock change no word and no counter. -/
theorem wordsKept_remember {p q : Pkg} {r : Req} {n d o : Nat} {v : Word} {l : List Nat} (h : WordsKept ((p.reach n).remember r d o v) q l) :
    WordsKept p q l := fun d' o' hd => by rw [h d' o' hd]; simp
theorem countsKept_remember {p q : Pkg} {r : Req} {n d o : Nat} {v : Word} {l : List Nat} (h : CountsKept ((p.reach n).remember r d o v) q l) :
    CountsKept p q l := fun d' o' hd => by rw [h d' o' hd]; simp

end Sys2Proof.Machine
end

