-- ==== Sys2Proof/Laws/Targets.lean ====
section
/-! SUPPORT. Which effect a write of each command word is: one law per word. -/
namespace Sys2Proof.Machine

variable (s : Pkg) (r : Req) (t : Nat) (v : Word)

/-! ### Check units (Table 8-8) -/

theorem writeTile_ckFeed {u : Nat} (hu : u < 8) : s.writeTile r t (ckBase u + 0x24) v 15 = ckFeedEff t u v s := by
  interval_cases u <;> simp [Pkg.writeTile, ckBase, podCommand, ckWide]

theorem writeTile_ckFeedB {u : Nat} (hu : u < 8) : s.writeTile r t (ckBase u + 0x28) v 15 = ckFeedBEff t u v s := by
  interval_cases u <;> simp [Pkg.writeTile, ckBase, podCommand, ckWide]

theorem writeTile_ckCmd {u : Nat} (hu : u < 8) : s.writeTile r t (ckBase u + 0x2C) v 15 = ckCmdEff r t u v s := by
  interval_cases u <;> simp [Pkg.writeTile, ckBase, podCommand, ckWide]

theorem writeTile_ckValueLo {u : Nat} (hu : u < 8) : s.writeTile r t (ckBase u + 0x14) v 15 = ckValueLoadEff t u false v 15 s := by
  interval_cases u <;> simp [Pkg.writeTile, ckBase, podCommand, ckWide]

theorem writeTile_ckValueHi {u : Nat} (hu : u < 8) : s.writeTile r t (ckBase u + 0x18) v 15 = ckValueLoadEff t u true v 15 s := by
  interval_cases u <;> simp [Pkg.writeTile, ckBase, podCommand, ckWide]

/-! ### DMA channels (Table 8-6) -/

theorem writeTile_dmTail {c : Nat} (hc : c < 16) : s.writeTile r t (dmBase c + 0x14) v 15 = tailEff t c v s := by
  interval_cases c <;> simp [Pkg.writeTile, dmBase, podCommand]

theorem writeTile_dmCmd {c : Nat} (hc : c < 16) : s.writeTile r t (dmBase c + 0x1C) v 15 = dmCmdEff t c v s := by
  interval_cases c <;> simp [Pkg.writeTile, dmBase, podCommand]

/-! ### Pods (Table 8-7) -/

theorem podCommand_release {o : Nat} (h : o < 256) : podCommand (0x1B20000 + 4 * o) = some (2, o, 0) := by
  have h1 : (0x1B20000 + 4 * o) % 4 = 0 := by omega
  have h2 : ¬ (0x1B20000 + 4 * o < 0x1B20000) := by omega
  have h3 : 0x1B20000 + 4 * o < 0x1B20400 := by omega
  simp [podCommand, h1, h2, h3]

theorem podCommand_free {o : Nat} (h : o < 256) : podCommand (0x1B20400 + 4 * o) = some (3, o, 0) := by
  have h1 : (0x1B20400 + 4 * o) % 4 = 0 := by omega
  have h2 : ¬ (0x1B20400 + 4 * o < 0x1B20000) := by omega
  have h3 : ¬ (0x1B20400 + 4 * o < 0x1B20400) := by omega
  have h5 : 0x1B20400 + 4 * o < 0x1B20800 := by omega
  simp [podCommand, h1, h2, h3, h5]

theorem podCommand_share {o w : Nat} (h : o < 256) (hw : w < 256) : podCommand (0x1B40000 + 0x400 * o + 4 * w) = some (4, o, w) := by
  have h1 : (0x1B40000 + 0x400 * o + 4 * w) % 4 = 0 := by omega
  have h2 : ¬ (0x1B40000 + 0x400 * o + 4 * w < 0x1B20000) := by omega
  have h3 : ¬ (0x1B40000 + 0x400 * o + 4 * w < 0x1B20400) := by omega
  have h4 : (0x1B40000 + 0x400 * o + 4 * w - 0x1B40000) / 0x400 = o := by omega
  have h5 : (0x1B40000 + 0x400 * o + 4 * w - 0x1B40000) % 0x400 / 4 = w := by omega
  have h6 : ¬ (0x1B40000 + 0x400 * o + 4 * w < 0x1B20800) := by omega
  have h7 : 0x1B40000 ≤ 0x1B40000 + 0x400 * o + 4 * w ∧ 0x1B40000 + 0x400 * o + 4 * w < 0x1B80000 := by omega
  simp only [podCommand, h1, h2, h3, h4, h5, h6, h7]
  simp

theorem podCommand_alloc {o p : Nat} (h : o < 256) (hp : p < 64) : podCommand (0x1B10000 + 0x100 * o + 4 * p) = some (1, o, p) := by
  have h1 : (0x1B10000 + 0x100 * o + 4 * p) % 4 = 0 := by omega
  have h4 : (0x1B10000 + 0x100 * o + 4 * p - 0x1B10000) / 0x100 = o := by omega
  have h5 : (0x1B10000 + 0x100 * o + 4 * p - 0x1B10000) % 0x100 / 4 = p := by omega
  have h7 : 0x1B10000 ≤ 0x1B10000 + 0x100 * o + 4 * p ∧ 0x1B10000 + 0x100 * o + 4 * p < 0x1B20000 := by omega
  simp only [podCommand, h1, h4, h5, h7]
  simp

theorem writeTile_release {o : Nat} (h : o < 256) : s.writeTile r t (0x1B20000 + 4 * o) v 15 = releaseEff t o (s.portAgent r t) v s := by
  simp [Pkg.writeTile, podCommand_release h]

theorem writeTile_free {o : Nat} (h : o < 256) : s.writeTile r t (0x1B20400 + 4 * o) v 15 = freeEff t o (s.portAgent r t) v s := by
  simp [Pkg.writeTile, podCommand_free h]

theorem writeTile_share {o w : Nat} (h : o < 256) (hw : w < 256) :
    s.writeTile r t (0x1B40000 + 0x400 * o + 4 * w) v 15 = shareEff t o w (s.portAgent r t) v s := by
  simp [Pkg.writeTile, podCommand_share h hw]

/-! ### Other command words of a tile -/

theorem writeTile_ksRequest : s.writeTile r t 0x200020 v 15 = ksRequestEff r t v s := by simp [Pkg.writeTile, podCommand, ckWide]
theorem writeTile_ctInsert : s.writeTile r t 0x400060 1 15 = ctInsertEff r t s := by
  have : fieldGet 1#32 1 0 = 1 := by decide
  simp [Pkg.writeTile, podCommand, ckWide, this]
theorem writeTile_ctDelete : s.writeTile r t 0x400060 2 15 = ctDeleteEff t s := by
  have : fieldGet 2#32 1 0 = 2 := by decide
  simp [Pkg.writeTile, podCommand, ckWide, this]
theorem writeTile_ctLookup : s.writeTile r t 0x400060 3 15 = ctLookupEff t s := by
  have : fieldGet 3#32 1 0 = 3 := by decide
  simp [Pkg.writeTile, podCommand, ckWide, this]
theorem writeTile_genReset : s.writeTile r t 0xC00240 v 15 = genResetEff t v s := by simp [Pkg.writeTile, podCommand, ckWide]
theorem writeTile_rateAdj : s.writeTile r t 0x100100 v 15 = rateAdjEff r t v s := by simp [Pkg.writeTile, podCommand, ckWide]
theorem writeTile_phaseAdj : s.writeTile r t 0x100104 v 15 = phaseAdjEff r t v s := by simp [Pkg.writeTile, podCommand, ckWide]
theorem writeTile_rejoin : s.writeTile r t 0x1D00008 v 15 = rejoinEff r t v s := by simp [Pkg.writeTile, podCommand, ckWide]
theorem writeTile_doubtClear : s.writeTile r t 0x1D0000C v 15 = doubtClearEff t v s := by simp [Pkg.writeTile, podCommand, ckWide]
theorem writeTile_censusRequest : s.writeTile r t 0x1E00008 v 15 = censusRequestEff r t v s := by simp [Pkg.writeTile, podCommand, ckWide]
theorem writeTile_journal : s.writeTile r t 0x1E00100 v 15 = jnlCommitEff r t v s := by simp [Pkg.writeTile, podCommand, ckWide]
theorem writeTile_flush : s.writeTile r t 0x1F00014 1 15 = flushEff s := by simp [Pkg.writeTile, podCommand, ckWide]
theorem writeTile_rdGo (n : Nat) : s.writeTile r t 0x1F00014 (BitVec.ofNat 32 (2 + 4 * (n % 2))) 15 = rdGoEff (n % 2) s := by
  have h : n % 2 = 0 ∨ n % 2 = 1 := by omega
  have h0 : fieldGet 2#32 2 2 = 0 := by decide
  have h1 : fieldGet 6#32 2 2 = 1 := by decide
  rcases h with h | h <;> rw [h] <;> simp [Pkg.writeTile, podCommand, ckWide, h0, h1]
theorem writeTile_rdStop : s.writeTile r t 0x1F00014 8 15 = rdStopEff s := by simp [Pkg.writeTile, podCommand, ckWide]
theorem writeTile_censusHold : s.writeTile r t 0x1E00000 v 15 =
    if (s.writeWord r t 0x1E00000 v 15).on t fCenHold = s.on t fCenHold then s.writeWord r t 0x1E00000 v 15
    else censusHoldEff t (!s.on t fCenHold) (s.writeWord r t 0x1E00000 v 15) := by simp [Pkg.writeTile, podCommand, ckWide]

theorem writeTile_saValid {o : Nat} (h : (0x3900000 ≤ o ∧ o < 0x3920000) ∨ (0x3920000 ≤ o ∧ o < 0x3920800)) (h32 : o % 32 = 0) :
    s.writeTile r t o v 15 = saValidEff t o v s := by
  have hp : podCommand o = none := by
    simp only [podCommand]
    split <;> first | rfl | (split <;> first | omega | (split <;> first | omega | (split <;> first | omega | (split <;> first | omega | rfl))))
  have h' : ∀ n, n < 0x3900000 → o ≠ n := by omega
  have h1 : ¬ o < 0x1A01000 := by omega
  have h2 : ¬ o < 0x1C00200 := by omega
  have h3 : ckWide o = none := if_neg (by omega)
  simp only [Pkg.writeTile, hp, be15_mask, byteMerge_all]
  simp [h' 0x200020 (by decide), h' 0x400060 (by decide), h' 0xC00240 (by decide), h' 0x100100 (by decide), h' 0x100104 (by decide),
    h' 0x10010C (by decide), h' 0xC00018 (by decide), h1, h2, h3, h, h32]

/-! ### Command words of the sentinel -/

theorem writeSentinel_recover {c : Nat} (hc : c < 12) : s.writeSentinel r (0x40014 + 0x100 * c) v 15 = recoverEff c v s := by
  interval_cases c <;> simp [Pkg.writeSentinel]
theorem writeSentinel_elCmd : s.writeSentinel r 0x30008 v 15 = elCmdEff v s := by simp [Pkg.writeSentinel]
theorem writeSentinel_modeRequest : s.writeSentinel r 0x60004 v 15 = modeRequestEff r v s := by simp [Pkg.writeSentinel]
theorem writeSentinel_reset : s.writeSentinel r 0x6000C v 15 = resetEff v s := by simp [Pkg.writeSentinel]
theorem writeSentinel_debug : s.writeSentinel r 0x60010 v 15 = debugRequestEff r v s := by
  have : Nat.testBit 15 0 = true := by decide
  simp [Pkg.writeSentinel, this]

theorem kyCmd_op {op slot : Nat} (h : op < 16) : fieldGet (BitVec.ofNat 32 (op + 16 * slot)) 3 0 = op := by
  rw [fieldGet_eq, BitVec.toNat_ofNat]; omega

theorem kyCmd_slot {op slot : Nat} (h : op < 16) (hs : slot < 4096) : fieldGet (BitVec.ofNat 32 (op + 16 * slot)) 15 4 = slot := by
  rw [fieldGet_eq, BitVec.toNat_ofNat]; omega

theorem writeSentinel_derive {slot : Nat} (hs : slot < 4096) : s.writeSentinel r 0x10004 (BitVec.ofNat 32 (1 + 16 * slot)) 15 = deriveEff slot s := by
  simp only [Pkg.writeSentinel, be15_mask, kyCmd_op (show 1 < 16 by decide), kyCmd_slot (show 1 < 16 by decide) hs]
  simp

theorem writeSentinel_import {slot : Nat} (hs : slot < 4096) : s.writeSentinel r 0x10004 (BitVec.ofNat 32 (2 + 16 * slot)) 15 = importEff slot s := by
  simp only [Pkg.writeSentinel, be15_mask, kyCmd_op (show 2 < 16 by decide), kyCmd_slot (show 2 < 16 by decide) hs]
  simp

theorem writeSentinel_revoke {slot : Nat} (hs : slot < 4096) : s.writeSentinel r 0x10004 (BitVec.ofNat 32 (3 + 16 * slot)) 15 = revokeEff slot s := by
  simp only [Pkg.writeSentinel, be15_mask, kyCmd_op (show 3 < 16 by decide), kyCmd_slot (show 3 < 16 by decide) hs]
  simp

theorem writeSentinel_slotRelease {slot : Nat} (hs : slot < 4096) : s.writeSentinel r 0x10004 (BitVec.ofNat 32 (4 + 16 * slot)) 15 = slotReleaseEff slot s := by
  simp only [Pkg.writeSentinel, be15_mask, kyCmd_op (show 4 < 16 by decide), kyCmd_slot (show 4 < 16 by decide) hs]
  simp

theorem writeSentinel_nonce : s.writeSentinel r 0x10004 (BitVec.ofNat 32 (5 + 16 * 0)) 15 = nonceEff s := by
  simp only [Pkg.writeSentinel, be15_mask, kyCmd_op (show 5 < 16 by decide)]
  simp

theorem writeSentinel_attest : s.writeSentinel r 0x10004 (BitVec.ofNat 32 (6 + 16 * 0)) 15 = attestEff s := by
  simp only [Pkg.writeSentinel, be15_mask, kyCmd_op (show 6 < 16 by decide)]
  simp

theorem writeSentinel_ticket : s.writeSentinel r 0x10004 (BitVec.ofNat 32 (7 + 16 * 0)) 15 = ticketEff s := by
  simp only [Pkg.writeSentinel, be15_mask, kyCmd_op (show 7 < 16 by decide)]
  simp

end Sys2Proof.Machine
end

