-- ==== Sys2Proof/Laws/Check.lean ====
section
/-! SUPPORT. Laws of the check units: what each effect does to the unit's value and parameters. -/
namespace Sys2Proof.Machine

@[simp] theorem fCkPoly_off (u : Nat) : (fCkPoly.ck u).off = ckBase u := by simp only [Fld.ck, Fld.at, fCkPoly, ckBase]; omega
@[simp] theorem fCkRefin_off (u : Nat) : (fCkRefin.ck u).off = ckBase u := by simp only [Fld.ck, Fld.at, fCkRefin, ckBase]; omega
@[simp] theorem fCkRefout_off (u : Nat) : (fCkRefout.ck u).off = ckBase u := by simp only [Fld.ck, Fld.at, fCkRefout, ckBase]; omega
@[simp] theorem fCkBusy_off (u : Nat) : (fCkBusy.ck u).off = ckBase u + 0x30 := by simp only [Fld.ck, Fld.at, fCkBusy, ckBase]; omega
@[simp] theorem fCkTrestle_off (u : Nat) : (fCkTrestle.ck u).off = ckBase u := by simp only [Fld.ck, Fld.at, fCkTrestle, ckBase]; omega

@[simp] theorem Fld.at_hi (f : Fld) (i n : Nat) : (f.at i n).hi = f.hi := (rfl)
@[simp] theorem Fld.at_lo (f : Fld) (i n : Nat) : (f.at i n).lo = f.lo := (rfl)
@[simp] theorem Fld.ck_hi (f : Fld) (u : Nat) : (f.ck u).hi = f.hi := (rfl)
@[simp] theorem Fld.ck_lo (f : Fld) (u : Nat) : (f.ck u).lo = f.lo := (rfl)

/-! ### Two-word values -/

theorem Pkg.rd64_wr64_same (s : Pkg) (d o v : Nat) : (s.wr64 d o v).rd64 d o = v % 2 ^ 64 := by
  have h : o ≠ o + 4 := by omega
  simp only [Pkg.rd64, Pkg.wr64, Pkg.rd_wr_same, Pkg.rd_wr_off _ _ h, BitVec.toNat_ofNat]
  omega

theorem Pkg.rd_wr64_off (s : Pkg) {d o o' : Nat} (v : Nat) (h : o' ≠ o) (h' : o' ≠ o + 4) : (s.wr64 d o v).rd d o' = s.rd d o' := by
  simp [Pkg.wr64, h, h']

theorem Pkg.rd64_wr64_off (s : Pkg) {d o o' : Nat} (v : Nat) (h : o' ≠ o ∧ o' ≠ o + 4 ∧ o' + 4 ≠ o ∧ o' ≠ o) :
    (s.wr64 d o v).rd64 d o' = s.rd64 d o' := by
  have h4 : o' + 4 ≠ o + 4 := by omega
  simp [Pkg.rd64, s.rd_wr64_off v h.1 h.2.1, s.rd_wr64_off v h.2.2.1 h4]

@[simp] theorem Pkg.wr64_hidden (s : Pkg) (d o v : Nat) : (s.wr64 d o v).hidden = s.hidden := (rfl)
@[simp] theorem Pkg.wr64_cnt (s : Pkg) (d o v d2 o2 : Nat) : (s.wr64 d o v).cnt d2 o2 = s.cnt d2 o2 := (rfl)

/-! ### The unit's value and parameters -/

/-- The parameters stand in the unit's first five words. -/
theorem Pkg.ckPar_congr {p q : Pkg} (t u : Nat) (h : ∀ n, n < 20 → q.rd t (ckBase u + n) = p.rd t (ckBase u + n)) : q.ckPar t u = p.ckPar t u := by
  have h0 := h 0 (by decide)
  rw [Nat.add_zero] at h0
  simp only [Pkg.ckPar, Pkg.on, Pkg.get, Pkg.rd64, fCkPoly_off, fCkRefin_off, fCkRefout_off, h0, Nat.add_assoc, h 4 (by decide), h (4 + 4) (by decide),
    h 0xC (by decide), h (0xC + 4) (by decide)]

theorem Pkg.ckPar_setCkValue (s : Pkg) (t u v : Nat) : (s.setCkValue t u v).ckPar t u = s.ckPar t u := by
  refine Pkg.ckPar_congr t u (fun n hn => ?_)
  exact s.rd_wr64_off _ (by omega) (by omega)

theorem crcPreset_width_le (i : Nat) : (crcPreset i).width ≤ 64 := by
  unfold crcPreset; split <;> decide

theorem Pkg.ckPar_width_eq (s : Pkg) (t u : Nat) : (s.ckPar t u).width = (crcPreset (s.get t (fCkPoly.ck u))).width := by
  unfold Pkg.ckPar; rfl

theorem Pkg.ckPar_width (s : Pkg) (t u : Nat) : (s.ckPar t u).width ≤ 64 := by
  rw [Pkg.ckPar_width_eq]; exact crcPreset_width_le _

/-- The value loaded, cut to the polynomial's width. -/
theorem Pkg.ckValue_setCkValue (s : Pkg) (t u v : Nat) : (s.setCkValue t u v).ckValue t u = v % 2 ^ (s.ckPar t u).width := by
  unfold Pkg.ckValue
  rw [s.ckPar_setCkValue]
  unfold Pkg.setCkValue
  rw [Pkg.rd64_wr64_same, Nat.mod_mod_of_dvd _ (Nat.pow_dvd_pow 2 (s.ckPar_width t u)), Nat.mod_mod]

theorem Pkg.ckPar_init_lt (s : Pkg) (t u : Nat) : (s.ckPar t u).init < 2 ^ (s.ckPar t u).width := by
  rw [Pkg.ckPar_width_eq]
  unfold Pkg.ckPar
  exact Nat.mod_lt _ (Nat.two_pow_pos _)

theorem Pkg.ckPar_init_mod (s : Pkg) (t u : Nat) : (s.ckPar t u).init % 2 ^ (s.ckPar t u).width = (s.ckPar t u).init :=
  Nat.mod_eq_of_lt (Pkg.ckPar_init_lt _ _ _)

/-- What a value load changes. -/
theorem wordsKept_setCkValue (p : Pkg) (t u v : Nat) :
    WordsKept p (p.setCkValue t u v) [pkgAddr t (ckBase u + 0x14), pkgAddr t (ckBase u + 0x18)] := by
  have h := wordsKept_wr64 p t (ckBase u + 0x14) (v % 2 ^ (p.ckPar t u).width)
  rwa [Nat.add_assoc] at h

@[simp] theorem Pkg.setCkValue_hidden (s : Pkg) (t u v : Nat) : (s.setCkValue t u v).hidden = s.hidden := (rfl)
@[simp] theorem Pkg.setCkValue_cnt (s : Pkg) (t u v d o : Nat) : (s.setCkValue t u v).cnt d o = s.cnt d o := (rfl)
@[simp] theorem Pkg.setCkValue_wipe (s : Pkg) (t u v : Nat) : (s.setCkValue t u v).wipe = s.wipe := (rfl)

theorem Pkg.ckIdle_free {s : Pkg} {t u : Nat} (h : s.on t (fCkBusy.ck u) = false) (f : Pkg → Pkg) : s.ckIdle t u f = f s := by
  simp [Pkg.ckIdle, h]

theorem State.finish_ckPar (s : State) (t u : Nat) : s.finish.pkg.ckPar t u = s.pkg.ckPar t u :=
  Pkg.ckPar_congr t u (fun _ _ => State.finish_pkg_rd s t _)

theorem State.finish_ckValue (s : State) (t u : Nat) : s.finish.pkg.ckValue t u = s.pkg.ckValue t u := by
  unfold Pkg.ckValue
  rw [State.finish_ckPar]
  simp only [Pkg.rd64, State.finish_pkg_rd]

/-- PRESET on a unit outside the trestle that is not BUSY: the parameters become the row that POLY names (R257). -/
theorem ckPresetEff_par {s : Pkg} {r : Req} {t u : Nat} (hb : s.on t (fCkBusy.ck u) = false) (ht : s.on t (fCkTrestle.ck u) = false) :
    (ckPresetEff r t u s).ckPar t u = crcPreset (s.get t (fCkPoly.ck u)) := by
  simp only [ckPresetEff, ht, Pkg.ckIdle_free hb, Bool.false_eq_true, if_false]
  generalize hp : s.get t (fCkPoly.ck u) = i
  have h1 : ckBase u ≠ ckBase u + 4 := by omega
  have h2 : ckBase u ≠ ckBase u + 4 + 4 := by omega
  have h3 : ckBase u ≠ ckBase u + 0xC := by omega
  have h4 : ckBase u ≠ ckBase u + 0xC + 4 := by omega
  have hpoly : (((s.put t (fCkRefin.ck u) (bit (crcPreset i).refin)).put t (fCkRefout.ck u) (bit (crcPreset i).refout)).get t (fCkPoly.ck u)) = i := by
    rw [Pkg.get_put_apart _ _ (Or.inr (Or.inr (by simp [fCkPoly, fCkRefin, fCkRefout]))), Pkg.get_put_apart _ _ (Or.inr (Or.inr (by simp [fCkPoly, fCkRefin, fCkRefout]))), hp]
  have hri : (((s.put t (fCkRefin.ck u) (bit (crcPreset i).refin)).put t (fCkRefout.ck u) (bit (crcPreset i).refout)).on t (fCkRefin.ck u)) =
      (crcPreset i).refin := by
    rw [Pkg.on_put_apart _ _ (Or.inr (Or.inr (by simp [fCkPoly, fCkRefin, fCkRefout]))), Pkg.on_put_same _ _ _ _ (by simp [fCkPoly, fCkRefin, fCkRefout])]
    cases (crcPreset i).refin <;> simp [fCkPoly, fCkRefin, fCkRefout]
  have hro : (((s.put t (fCkRefin.ck u) (bit (crcPreset i).refin)).put t (fCkRefout.ck u) (bit (crcPreset i).refout)).on t (fCkRefout.ck u)) =
      (crcPreset i).refout := by
    rw [Pkg.on_put_same _ _ _ _ (by simp [fCkPoly, fCkRefin, fCkRefout])]
    cases (crcPreset i).refout <;> simp [fCkPoly, fCkRefin, fCkRefout]
  generalize hq : ((s.put t (fCkRefin.ck u) (bit (crcPreset i).refin)).put t (fCkRefout.ck u) (bit (crcPreset i).refout)) = q at hpoly hri hro ⊢
  have e1 : ∀ f : Fld, f.off = ckBase u → ((q.wr64 t (ckBase u + 4) (crcPreset i).init).wr64 t (ckBase u + 0xC) (crcPreset i).xorout).get t f = q.get t f := by
    intro f hf
    simp only [Pkg.get, hf]
    rw [Pkg.rd_wr64_off _ _ h3 h4, Pkg.rd_wr64_off _ _ h1 h2]
  have hinit : (crcPreset i).init % 2 ^ 64 % 2 ^ (crcPreset i).width = (crcPreset i).init := by unfold crcPreset; split <;> decide
  have hxor : (crcPreset i).xorout % 2 ^ 64 % 2 ^ (crcPreset i).width = (crcPreset i).xorout := by unfold crcPreset; split <;> decide
  simp only [Pkg.ckPar, Pkg.on, e1 _ (fCkPoly_off u), e1 _ (fCkRefin_off u), e1 _ (fCkRefout_off u), hpoly]
  have h5 : ckBase u + 4 ≠ ckBase u + 0xC ∧ ckBase u + 4 ≠ ckBase u + 0xC + 4 ∧ ckBase u + 4 + 4 ≠ ckBase u + 0xC ∧ ckBase u + 4 ≠ ckBase u + 0xC := by omega
  rw [Pkg.rd64_wr64_same, Pkg.rd64_wr64_off _ _ h5, Pkg.rd64_wr64_same, hinit, hxor]
  have hri' := hri; have hro' := hro
  simp only [Pkg.on] at hri' hro'
  simp [hri', hro']

theorem ckPresetEff_words {s : Pkg} {r : Req} {t u : Nat} (hb : s.on t (fCkBusy.ck u) = false) (ht : s.on t (fCkTrestle.ck u) = false) :
    WordsKept s (ckPresetEff r t u s) [pkgAddr t (ckBase u), pkgAddr t (ckBase u + 4), pkgAddr t (ckBase u + 8), pkgAddr t (ckBase u + 12),
      pkgAddr t (ckBase u + 16)] := by
  simp only [ckPresetEff, ht, Pkg.ckIdle_free hb, Bool.false_eq_true, if_false]
  refine ((((wordsKept_put s t (fCkRefin.ck u) _).trans (wordsKept_put _ t (fCkRefout.ck u) _)).trans (wordsKept_wr64 _ t (ckBase u + 4) _)).trans
    (wordsKept_wr64 _ t (ckBase u + 0xC) _)).mono ?_
  simp

end Sys2Proof.Machine
end

