-- ==== Sys2Proof/Laws/Touch.lean ====
section
/-! SUPPORT. How the frame of a long effect is put together, one update at a time: the words and counters it may touch are fixed first. -/
namespace Sys2Proof.Machine

/-- From p to q at most these words and counters change, and no byte memory is lost. -/
structure Touches (p q : Pkg) (words counts : List Nat) : Prop where
  words   : WordsKept p q words
  counts  : CountsKept p q counts
  variant : q.variant = p.variant
  wipe    : q.wipe = p.wipe

namespace Touches
variable {p q r : Pkg} {W C : List Nat}

theorem refl (p : Pkg) (W C : List Nat) : Touches p p W C := ⟨WordsKept.refl _ _, CountsKept.refl _ _, rfl, rfl⟩
theorem trans (h : Touches p q W C) (h' : Touches q r W C) : Touches p r W C :=
  ⟨fun d o hd => (h'.words d o hd).trans (h.words d o hd), fun d o hd => (h'.counts d o hd).trans (h.counts d o hd), h'.variant.trans h.variant,
    h'.wipe.trans h.wipe⟩
theorem mono {W' C' : List Nat} (h : Touches p q W C) (hw : ∀ x ∈ W, x ∈ W') (hc : ∀ x ∈ C, x ∈ C') : Touches p q W' C' :=
  ⟨h.words.mono hw, h.counts.mono hc, h.variant, h.wipe⟩
/-- An update that leaves words, counters, variant and wipe. -/
theorem same (h : Touches p q W C) (h1 : r.regs = q.regs) (h2 : r.ctr = q.ctr) (h3 : r.variant = q.variant) (h4 : r.wipe = q.wipe) :
    Touches p r W C := by
  refine h.trans ⟨fun d o _ => ?_, fun d o _ => ?_, h3, h4⟩
  · unfold Pkg.rd; rw [h1, h3]
  · unfold Pkg.cnt; rw [h2]
theorem wr (h : Touches p q W C) {d o : Nat} {w : Word} (hm : pkgAddr d o ∈ W) : Touches p (q.wr d o w) W C :=
  h.trans ⟨(wordsKept_wr q d o w).mono (by simpa using hm), CountsKept.of_eq _ (fun _ _ => rfl), rfl, rfl⟩
theorem put (h : Touches p q W C) {d : Nat} {f : Fld} {v : Nat} (hm : pkgAddr d f.off ∈ W) : Touches p (q.put d f v) W C := h.wr hm
theorem raise (h : Touches p q W C) {d : Nat} {f : Fld} (hm : pkgAddr d f.off ∈ W) : Touches p (q.raise d f) W C :=
  (h.wr (d := d) (o := f.off) hm).same rfl rfl rfl rfl
theorem putIf (h : Touches p q W C) {b : Bool} {d : Nat} {f : Fld} {v : Nat} (hm : pkgAddr d f.off ∈ W) : Touches p (q.putIf b d f v) W C := by
  unfold Pkg.putIf; split
  · exact h.wr hm
  · exact h
theorem wr64 (h : Touches p q W C) {d o v : Nat} (hm : pkgAddr d o ∈ W) (hm' : pkgAddr d (o + 4) ∈ W) : Touches p (q.wr64 d o v) W C := (h.wr hm).wr hm'
theorem setCnt (h : Touches p q W C) {d o : Nat} {v : Quad} (hm : pkgAddr d o ∈ C) : Touches p (q.setCnt d o v) W C := by
  refine h.trans ⟨WordsKept.of_eq _ (fun _ _ => rfl), fun d' o' hd => q.cnt_setCnt_ne v (fun he => hd (by rw [he]; exact hm)), rfl, rfl⟩
theorem add (h : Touches p q W C) {d o n : Nat} (hm : pkgAddr d o ∈ C) : Touches p (q.add d o n) W C := by
  unfold Pkg.add; exact h.setCnt hm
theorem bump (h : Touches p q W C) {d o : Nat} (hm : pkgAddr d o ∈ C) : Touches p (q.bump d o) W C := by
  unfold Pkg.bump; exact h.add hm
theorem when (h : Touches p q W C) {b : Bool} {f : Pkg → Pkg} (hf : ∀ s, Touches p s W C → Touches p (f s) W C) : Touches p (q.when b f) W C := by
  cases b
  · exact h
  · exact hf _ h
theorem ite (h : Touches p q W C) {c : Prop} [Decidable c] (h' : Touches p r W C) : Touches p (if c then q else r) W C := by split <;> assumption
theorem foldl {β : Type} {f : Pkg → β → Pkg} {l : List β} (h : Touches p q W C) (hf : ∀ s b, b ∈ l → Touches p s W C → Touches p (f s b) W C) :
    Touches p (l.foldl f q) W C := by
  induction l generalizing q with
  | nil => exact h
  | cons b l ih => exact ih (hf _ b (by simp) h) (fun s b hb => hf s b (by simp [hb]))
theorem onEach {f : Nat → Pkg → Pkg} {l : List Nat} (h : Touches p q W C) (hf : ∀ s b, b ∈ l → Touches p s W C → Touches p (f b s) W C) :
    Touches p (q.onEach l f) W C := foldl h hf
theorem event (h : Touches p q W C) {t v : Nat} : Touches p (q.event t v) W C := h.same rfl rfl rfl rfl
/-- A long effect, cut at a state it passes through. -/
theorem cut {e : Pkg} {b : Pkg → Pkg} (h : Touches p e W C) (hb : ∀ s, Touches p s W C → Touches p (b s) W C) : Touches p (b e) W C := hb e h
theorem stepClock (h : Touches p q W C) {m : Nat} : Touches p (q.stepClock m) W C := by
  unfold Pkg.stepClock; split
  · exact h
  · exact h.same rfl rfl rfl rfl
theorem setMode (h : Touches p q W C) {m r : Nat} (hw : pkgAddr 15 0x60000 ∈ W) (hl : pkgAddr 15 oLastChange ∈ C) (ht : pkgAddr 15 oTransitions ∈ C) :
    Touches p (q.setMode m r) W C := by
  unfold Pkg.setMode
  exact onEach ((((h.stepClock.put hw).put hw).put hw).setCnt hl |>.bump ht) (fun _ _ _ h => h.event)
theorem degrade (h : Touches p q W C) {r : Nat} (hw : pkgAddr 15 0x60000 ∈ W) (hl : pkgAddr 15 oLastChange ∈ C) (ht : pkgAddr 15 oTransitions ∈ C) :
    Touches p (q.degrade r) W C := by
  unfold Pkg.degrade; split
  · exact h.setMode hw hl ht
  · exact h
end Touches

/-- The frame of a command from what its effect touches. -/
theorem Touches.frame {s : State} {f : Pkg → Pkg} {W C : List Nat} (h : Touches s.pkg (f s.pkg) W C) : Frame s (s.map f).finish W C :=
  frame_finish h.words h.counts h.wipe

/-- An effect that gives cells back, where no frame of the active trestle waits for credit: nothing more happens. -/
theorem runs_onFlow {i : Instr} {s : State} {P : State → Prop} {f : Pkg → Pkg} (h : exec i s = .next (s.onFlow f))
    (he : ((f s.pkg).trestle (f s.pkg).steward).ready = [])
    (hp : P (s.map (fun p => (f p).setTrestle (f p).steward ((f p).trestle (f p).steward))).finish) : Runs i s P := by
  refine ⟨_, h, ?_⟩
  have : s.onFlow f = (s.map (fun p => (f p).setTrestle (f p).steward ((f p).trestle (f p).steward))).finish := by
    rw [State.onFlow, State.onPkg_eq, State.map, State.map]
    show State.finish { s with pkg := (f s.pkg).flushEth (f s.pkg).steward } = _
    rw [Pkg.flushEth_none _ _ he]
  rwa [this]

@[simp] theorem Pkg.setTrestle_rd (s : Pkg) (t : Nat) (x : TrestleSt) (d o : Nat) : (s.setTrestle t x).rd d o = s.rd d o := (rfl)
@[simp] theorem Pkg.setTrestle_get (s : Pkg) (t : Nat) (x : TrestleSt) (d : Nat) (f : Fld) : (s.setTrestle t x).get d f = s.get d f := (rfl)
@[simp] theorem Pkg.setTrestle_on (s : Pkg) (t : Nat) (x : TrestleSt) (d : Nat) (f : Fld) : (s.setTrestle t x).on d f = s.on d f := (rfl)
@[simp] theorem Pkg.setTrestle_cnt (s : Pkg) (t : Nat) (x : TrestleSt) (d o : Nat) : (s.setTrestle t x).cnt d o = s.cnt d o := (rfl)
@[simp] theorem Pkg.trestle_setTrestle_self (s : Pkg) (t t' : Nat) : (s.setTrestle t (s.trestle t)).trestle t' = s.trestle t' := by
  by_cases h : t' = t
  · subst h; simp [Pkg.trestle, Pkg.setTrestle]
  · simp [Pkg.trestle, Pkg.setTrestle, SMap.get_set_ne _ _ _ _ h]

theorem Touches.setTrestle {p q : Pkg} {W C : List Nat} (h : Touches p q W C) {t : Nat} {x : TrestleSt} : Touches p (q.setTrestle t x) W C :=
  h.same rfl rfl rfl rfl

end Sys2Proof.Machine
end

