-- ==== Sys2Proof/WellFormed.lean ====
section
/-! DEFINITION. Which commands are well formed: every operand names something that some ordering code has (Tables 0-1, 1-3, 1-4), and an address
is that of a 32-bit word (R10, R34). A command that is not well formed names nothing, and its effect is that of an event that cannot happen. -/
namespace Sys2Proof

/-- a < b, as a Bool. -/
def Dec.lt (a b : Nat) : Bool := decide (a < b)

/-- A requester of Table 1-3: agents 0 to 5 of a tile, or the watch core (R36). -/
def Req.wf (r : Req) : Bool := (Dec.lt r.die 7 && Dec.lt r.agent 6) || (r.die == 15 && r.agent == 0)

/-- The requester of an access is well formed. -/
def Acc.wf (a : Acc) : Bool := a.req.wf

/-- A die index of R20. -/
def dieOk (die : Nat) : Bool := Dec.lt die 7 || die == 15

/-- An address of the package management space or of its once-only alias (R34, R336), of a word. -/
def addrOk (a : Nat) : Bool := Dec.lt a (2 ^ 31) && a % 4 == 0

/-- The offset of word 0 of an association entry (R292). -/
def saOk (o : Nat) : Bool := Dec.lt 0x38FFFFF o && Dec.lt o 0x3920800 && o % 32 == 0

/-- A CAN frame: an identifier of 11 or 29 bits, at most 64 bytes. -/
def CanFrame.wf (m : CanFrame) : Bool := Dec.lt m.id (if m.ext then 2 ^ 29 else 2 ^ 11) && Dec.lt m.data.length 65

/-- A bus message: a code of Table 6-3, an identifier of 29 bits, at most 2,048 bytes. -/
def BusMsg.wf (m : BusMsg) : Bool := Dec.lt m.bus 28 && Dec.lt m.fmt 8 && Dec.lt m.id (2 ^ 29) && Dec.lt m.payload.length 2049

/-- A frame on a port has its two addresses and its type (R72); a continuation fragment need not hold them. -/
def RxFrame.wf (f : RxFrame) : Bool := match f.part with | .more .. => true | _ => Dec.lt 13 f.bytes.length

/-- A store has a byte enable for each byte (R337). -/
def CoreAcc.wf (x : CoreAcc) : Bool := match x with | .load .. => true | .store _ data be => be.length == data.length

/-- A round's run: a retired count for each of the three cores. -/
def RoundRun.wf (r : RoundRun) : Bool := r.early.all (fun c => Dec.lt c 7) && r.counts.length == 3 && r.accs.all CoreAcc.wf

/-- The operands of a command are in range. -/
def Instr.wf (i : Instr) : Bool :=
  match i with
  | .registerWrite a addr _ be => a.wf && addrOk addr && Dec.lt be 16
  | .keystoneWrite a addr _ be => a.wf && addrOk addr && Dec.lt be 16
  | .targetTimeout r _ => r.wf
  | .writeAck r _ _ => r.wf
  | .sgFence a die _ => a.wf && dieOk die
  | .sgFenceWait a die => a.wf && dieOk die
  | .fenceTimeout r => r.wf
  | .flitCrcFail tile span _ => Dec.lt tile 7 && Dec.lt span 6
  | .spanDown tile span _ _ => Dec.lt tile 7 && Dec.lt span 6
  | .spanRetrain tile span => Dec.lt tile 7 && Dec.lt span 6
  | .spanUp tile span _ => Dec.lt tile 7 && Dec.lt span 6
  | .tetherHeartbeat tether _ _ _ => Dec.lt tether 2
  | .tetherDown tether _ => Dec.lt tether 2
  | .tetherRetrain tether => Dec.lt tether 2
  | .tetherUp tether _ => Dec.lt tether 2
  | .tamperLevel tile _ => Dec.lt tile 7
  | .timeBeat tile _ _ => Dec.lt tile 7
  | .ksRequest a tile _ => a.wf && Dec.lt tile 7
  | .prepare tile _ => Dec.lt tile 7
  | .drainStart tile => Dec.lt tile 7
  | .drainComplete tile _ => Dec.lt tile 7
  | .drained tile _ => Dec.lt tile 7
  | .ksDeadline => true
  | .decisionAck tile _ => Dec.lt tile 7
  | .decisionRepeat => true
  | .confirm tile _ => Dec.lt tile 7
  | .abort tile _ => Dec.lt tile 7
  | .ksCommit tile => Dec.lt tile 7
  | .commitAck tile _ => Dec.lt tile 7
  | .bankCopyDone tile _ => Dec.lt tile 7
  | .tileLost tile _ => Dec.lt tile 7
  | .frameReceive tile port f _ => Dec.lt tile 7 && Dec.lt port 28 && f.wf
  | .recirculationPass tile _ => Dec.lt tile 7
  | .fragExpire tile idx => Dec.lt tile 7 && Dec.lt idx 1024
  | .ctAging tile _ => Dec.lt tile 7
  | .ctInsert a tile => a.wf && Dec.lt tile 7
  | .ctDelete a tile => a.wf && Dec.lt tile 7
  | .ctLookup a tile => a.wf && Dec.lt tile 7
  | .enqueue tile _ _ => Dec.lt tile 7
  | .spanCreditGrant tile src tc _ _ => Dec.lt tile 7 && Dec.lt src 7 && Dec.lt tc 8
  | .transmitDecision tile turn _ => Dec.lt tile 7 && Dec.lt turn.port 28
  | .transmitEnd tile port _ => Dec.lt tile 7 && Dec.lt port 28
  | .pauseRefresh tile port _ => Dec.lt tile 7 && Dec.lt port 28
  | .pfcReceive tile port enable quanta _ => Dec.lt tile 7 && Dec.lt port 28 && Dec.lt enable 256 && quanta.length == 8
  | .pauseReceive tile port _ _ => Dec.lt tile 7 && Dec.lt port 28
  | .pauseExpire tile port queue => Dec.lt tile 7 && Dec.lt port 28 && Dec.lt queue 8
  | .watchdogStall tile port queue => Dec.lt tile 7 && Dec.lt port 28 && Dec.lt queue 8
  | .overflowReadback tile port queue _ _ => Dec.lt tile 7 && Dec.lt port 28 && Dec.lt queue 8
  | .mcHoldExpire tile _ => Dec.lt tile 7
  | .linkDown tile port _ => Dec.lt tile 7 && Dec.lt port 28
  | .linkUp tile port _ _ => Dec.lt tile 7 && Dec.lt port 28
  | .gclEntryStart tile port _ => Dec.lt tile 7 && Dec.lt port 28
  | .mergeVerify tile port _ _ => Dec.lt tile 7 && Dec.lt port 28
  | .streamGateEntry tile gate _ => Dec.lt tile 7 && Dec.lt gate 64
  | .frerReset tile fn => Dec.lt tile 7 && Dec.lt fn 256
  | .genReset a tile _ => a.wf && Dec.lt tile 7
  | .txtsPop a tile => a.wf && Dec.lt tile 7
  | .rateAdj a tile _ => a.wf && Dec.lt tile 7
  | .phaseAdj a tile _ => a.wf && Dec.lt tile 7
  | .sample tile _ => Dec.lt tile 7
  | .busFrameRx m _ time => m.wf && Dec.lt time.start (time.at_ + 1)
  | .trestleInput tile _ => Dec.lt tile 7
  | .acfFrame tile _ => Dec.lt tile 7
  | .authVerify tile _ => Dec.lt tile 7
  | .authGenerate tile _ => Dec.lt tile 7
  | .acfBatchSend tile stream => Dec.lt tile 7 && Dec.lt stream 256
  | .busCreditReturn buf _ => Dec.lt buf.bus 32
  | .txExpired buf _ => Dec.lt buf.bus 32
  | .canTxDone ch _ => Dec.lt ch 12
  | .canBusOff ch _ => Dec.lt ch 12
  | .canAutoRecover ch _ => Dec.lt ch 12
  | .recover a ch _ => a.wf && Dec.lt ch 12
  | .linScheduleSlot ch _ => Dec.lt ch 6
  | .bar2Access tile wr _ _ data be _ _ => Dec.lt tile 7 && (be.length == data.length || !wr)
  | .outboundAccess tile _ wr window _ _ data be _ => Dec.lt tile 7 && Dec.lt window 16 && (be.length == data.length || !wr)
  | .outboundCompletion tile tag _ _ _ => Dec.lt tile 7 && Dec.lt tag 1024
  | .completionTimeout tile tag => Dec.lt tile 7 && Dec.lt tag 1024
  | .prefetchExpire tile => Dec.lt tile 7
  | .msixUnmask a tile vec => a.wf && Dec.lt tile 7 && Dec.lt vec 32
  | .pcieLinkDown tile _ => Dec.lt tile 7
  | .dmaTailWrite a tile ch _ => a.wf && Dec.lt tile 7 && Dec.lt ch 16
  | .descriptor tile ch _ _ _ => Dec.lt tile 7 && Dec.lt ch 16
  | .descriptorDone tile ch _ _ => Dec.lt tile 7 && Dec.lt ch 16
  | .stop a tile ch => a.wf && Dec.lt tile 7 && Dec.lt ch 16
  | .resume a tile ch => a.wf && Dec.lt tile 7 && Dec.lt ch 16
  | .rxFrameDma tile ch _ _ => Dec.lt tile 7 && Dec.lt ch 16
  | .alloc a tile owner pool => a.wf && Dec.lt tile 7 && Dec.lt owner 256 && Dec.lt pool 64
  | .share a tile owner other _ => a.wf && Dec.lt tile 7 && Dec.lt owner 256 && Dec.lt other 256
  | .release a tile owner _ => a.wf && Dec.lt tile 7 && Dec.lt owner 256
  | .free a tile owner _ => a.wf && Dec.lt tile 7 && Dec.lt owner 256
  | .ckFeed a tile unit_ _ => a.wf && Dec.lt tile 7 && Dec.lt unit_ 8
  | .ckFeedB a tile unit_ _ => a.wf && Dec.lt tile 7 && Dec.lt unit_ 8
  | .ckRestart a tile unit_ => a.wf && Dec.lt tile 7 && Dec.lt unit_ 8
  | .ckPreset a tile unit_ => a.wf && Dec.lt tile 7 && Dec.lt unit_ 8
  | .ckValueLoad a tile unit_ _ _ => a.wf && Dec.lt tile 7 && Dec.lt unit_ 8
  | .derive a slot => a.wf && Dec.lt slot 4096
  | .import_ a slot => a.wf && Dec.lt slot 4096
  | .revoke a slot => a.wf && Dec.lt slot 4096
  | .slotRelease a slot => a.wf && Dec.lt slot 4096
  | .nonce a => a.wf
  | .attest a => a.wf
  | .ticket a => a.wf
  | .vaultCommandDone fuseFail _ => fuseFail.all (fun x => Dec.lt x 256)
  | .keyTimer timer => Dec.lt timer 64
  | .revocationCommit _ => true
  | .revocationSweepDone _ _ => true
  | .revocationMessage tile _ _ => Dec.lt tile 7
  | .revocationBeat tile _ _ => Dec.lt tile 7
  | .leaseExpire tile => Dec.lt tile 7
  | .keyTransfer tile slot _ _ => Dec.lt tile 7 && Dec.lt slot 4096
  | .saValidWrite a tile offset _ => a.wf && Dec.lt tile 7 && saOk offset
  | .tamperEvent source _ => Dec.lt source 8
  | .modeRequest a _ => a.wf
  | .reset a _ => a.wf
  | .debugRequest a _ _ => a.wf
  | .serviceLapse => true
  | .debugTicketLapse => true
  | .batPowerUp _ => true
  | .wakePin pin _ => Dec.lt pin 4
  | .wakePinStuck pin => Dec.lt pin 4
  | .canWup ch _ => Dec.lt ch 12
  | .selectiveWake ch m _ => Dec.lt ch 12 && m.wf
  | .swkErrorOverflow ch _ => Dec.lt ch 12
  | .trxFailsafe ch => Dec.lt ch 12
  | .watchCoreFailsafe _ => true
  | .txdTimeout ch _ => Dec.lt ch 12
  | .busDom ch _ => Dec.lt ch 12
  | .nmMessage ch m _ => Dec.lt ch 12 && m.wf
  | .nmRingSend ch => Dec.lt ch 12
  | .nmRingLost ch => Dec.lt ch 12
  | .limphome ch => Dec.lt ch 12
  | .nmWaitExpire ch => Dec.lt ch 12
  | .pnTimeout pn => Dec.lt pn 24
  | .confirmWake a _ => a.wf
  | .falseWake => true
  | .newPeriod a _ => a.wf
  | .planTick _ _ _ => true
  | .planTimer _ => true
  | .hkMax => true
  | .retentionConfirm tile _ => Dec.lt tile 7
  | .vstbyLow _ _ => true
  | .elCopyRefresh tile _ => Dec.lt tile 7
  | .roundBoundary tile run _ => Dec.lt tile 7 && run.wf
  | .vote tile _ _ => Dec.lt tile 7
  | .digestGrace tile core => Dec.lt tile 7 && Dec.lt core 3
  | .standbyRound _ _ _ => true
  | .standbySync _ => true
  | .standbyTimeout _ _ _ => true
  | .stewardRestart tile _ => Dec.lt tile 7
  | .rejoin a tile _ => a.wf && Dec.lt tile 7
  | .doubtClear a tile _ => a.wf && Dec.lt tile 7
  | .censusLatch die _ _ => dieOk die
  | .censusRequest a tile _ => a.wf && Dec.lt tile 7
  | .censusPrepare die _ => dieOk die
  | .censusPublish die _ => dieOk die
  | .censusAbsent die => dieOk die
  | .censusHold a tile _ => a.wf && Dec.lt tile 7
  | .journalCommit a tile _ => a.wf && Dec.lt tile 7
  | .pageProgram _ _ => true
  | .flushTimer => true
  | .flush a => a.wf
  | .nandMount _ _ => true
  | .rdGo a area => a.wf && Dec.lt area 2
  | .rdStop a => a.wf
  | .rdCopyRecord read => read.ecc.all (fun e => e.all (fun n => Dec.lt n 25))
  | .keeperWork run _ => run.ecc.all (fun e => e.bits.all (fun n => Dec.lt n 25))
  | .scrubDue _ _ => true
  | .norScrub _ => true
  | .write a => a.wf
  | .verify a _ => a.wf
  | .activateLive a => a.wf
  | .activateRestart a => a.wf
  | .activateNextStart a => a.wf
  | .confirmTrial a => a.wf
  | .abandon a => a.wf
  | .provWrite a => a.wf
  | .upCommandDone _ _ => true
  | .activationFlush => true
  | .activationRestartDone tile _ _ => Dec.lt tile 7
  | .activationTimeout => true
  | .trialEnd => true
  | .bootStageDone _ _ => true
  | .sectionTimeout tile _ => Dec.lt tile 7
  | .pmicPgRise group _ => Dec.lt group 5
  | .pmicEnable group => Dec.lt group 5
  | .railTimeout group => Dec.lt group 5
  | .pmicDisable group _ => Dec.lt group 5
  | .railFault group _ => Dec.lt group 5
  | .batLow _ _ => true
  | .batRecover _ _ => true
  | .batLost _ => true
  | .thermalSample tile _ _ => Dec.lt tile 7
  | .thermalShutdown tile _ => Dec.lt tile 7
  | .thermalRestart => true
  | .lowWordRead a read => a.wf && addrOk read.addr
  | .tetherTimeAlign _ _ => true
  | .spillWriteDone tile port queue _ => Dec.lt tile 7 && Dec.lt port 28 && Dec.lt queue 8
  | .shaperEligible tile port queue => Dec.lt tile 7 && Dec.lt port 28 && Dec.lt queue 8
  | .busFrameError e _ => Dec.lt e.bus 32
  | .flexraySlot _ _ slot cycle _ _ => Dec.lt slot 2048 && Dec.lt cycle 64
  | .flexrayPocChange poc _ => Dec.lt poc 8
  | .pcieLinkUp tile speed width _ => Dec.lt tile 7 && (Dec.lt 0 speed && Dec.lt speed 5) && (width == 1 || width == 2 || width == 4)
  | .pcieConfigWrite tile _ mps mrrs _ _ => Dec.lt tile 7 && Dec.lt mps 3 && Dec.lt mrrs 6
  | .wakePinInactive pin _ => Dec.lt pin 4
  | .transceiverCommand ch cmd _ => Dec.lt ch 12 && (cmd == 1 || cmd == 2 || cmd == 4)
  | .busDomClear ch _ => Dec.lt ch 12
  | .txdRecessive lin ch _ => Dec.lt ch (if lin then 6 else 12)
  | .linTxdTimeout ch _ => Dec.lt ch 6
  | .allowanceLow _ _ => true
  | .stewardReloadDone tile _ => Dec.lt tile 7
  | .batBelowOperating _ _ => true

end Sys2Proof
end

