-- ==== Sys2Proof/Tests/Slice0.lean ====
section
/-! SUPPORT. The model's own tests: a term that each check of WellFormed refuses; small states that meet the hypotheses of every
statement (one witness for each clause that has hypotheses); single steps whose result the spec's text or a published vector gives. -/
set_option maxRecDepth 100000
set_option Elab.async false
namespace Sys2Proof.Machine.Tests

def illFormed0 : List Instr := [
  .registerWrite ⟨⟨7, 0⟩, 0⟩ 0 0 0,
  .registerWrite ⟨⟨0, 0⟩, 0⟩ 2 0 0,
  .registerWrite ⟨⟨0, 0⟩, 0⟩ 0 0 16,
  .keystoneWrite ⟨⟨7, 0⟩, 0⟩ 0 0 0,
  .keystoneWrite ⟨⟨0, 0⟩, 0⟩ 2 0 0,
  .keystoneWrite ⟨⟨0, 0⟩, 0⟩ 0 0 16,
  .targetTimeout ⟨0, 6⟩ 0,
  .writeAck ⟨0, 6⟩ 0 0,
  .sgFence ⟨⟨7, 0⟩, 0⟩ 0 0,
  .sgFence ⟨⟨0, 0⟩, 0⟩ 8 0,
  .sgFenceWait ⟨⟨7, 0⟩, 0⟩ 0,
  .sgFenceWait ⟨⟨0, 0⟩, 0⟩ 8]
theorem test_ill_formed_refused_0 : illFormed0.all (fun i => !i.wf) = true := by decide +kernel

def illFormed1 : List Instr := [
  .fenceTimeout ⟨0, 6⟩,
  .flitCrcFail 7 0 0,
  .flitCrcFail 0 6 0,
  .spanRetrain 7 0,
  .spanRetrain 0 6,
  .spanUp 7 0 0,
  .spanUp 0 6 0,
  .tetherHeartbeat 2 false false 0,
  .tetherDown 2 0,
  .tetherRetrain 2,
  .tetherUp 2 0,
  .tamperLevel 7 0]
theorem test_ill_formed_refused_1 : illFormed1.all (fun i => !i.wf) = true := by decide +kernel

def illFormed2 : List Instr := [
  .timeBeat 7 0 0,
  .ksRequest ⟨⟨7, 0⟩, 0⟩ 0 0,
  .ksRequest ⟨⟨0, 0⟩, 0⟩ 7 0,
  .prepare 7 0,
  .drainStart 7,
  .drainComplete 7 0,
  .drained 7 0,
  .decisionAck 7 0,
  .confirm 7 0,
  .abort 7 0,
  .ksCommit 7,
  .commitAck 7 0]
theorem test_ill_formed_refused_2 : illFormed2.all (fun i => !i.wf) = true := by decide +kernel

def illFormed3 : List Instr := [
  .bankCopyDone 7 0,
  .tileLost 7 0,
  .frameReceive 7 0 { bytes := List.replicate 14 0 } 0,
  .frameReceive 0 28 { bytes := List.replicate 14 0 } 0,
  .frameReceive 0 0 { bytes := [] } 0,
  .recirculationPass 7 0,
  .fragExpire 7 0,
  .fragExpire 0 1024,
  .ctAging 7 0,
  .ctInsert ⟨⟨7, 0⟩, 0⟩ 0,
  .ctInsert ⟨⟨0, 0⟩, 0⟩ 7,
  .ctDelete ⟨⟨7, 0⟩, 0⟩ 0]
theorem test_ill_formed_refused_3 : illFormed3.all (fun i => !i.wf) = true := by decide +kernel

def illFormed4 : List Instr := [
  .ctDelete ⟨⟨0, 0⟩, 0⟩ 7,
  .ctLookup ⟨⟨7, 0⟩, 0⟩ 0,
  .ctLookup ⟨⟨0, 0⟩, 0⟩ 7,
  .enqueue 7 0 0,
  .spanCreditGrant 7 0 0 0 0,
  .spanCreditGrant 0 7 0 0 0,
  .spanCreditGrant 0 0 8 0 0,
  .transmitDecision 7 ⟨0, true⟩ 0,
  .transmitEnd 7 0 0,
  .transmitEnd 0 28 0,
  .pauseRefresh 7 0 0,
  .pauseRefresh 0 28 0]
theorem test_ill_formed_refused_4 : illFormed4.all (fun i => !i.wf) = true := by decide +kernel

def illFormed5 : List Instr := [
  .pfcReceive 7 0 0 [0, 0, 0, 0, 0, 0, 0, 0] 0,
  .pfcReceive 0 28 0 [0, 0, 0, 0, 0, 0, 0, 0] 0,
  .pfcReceive 0 0 256 [0, 0, 0, 0, 0, 0, 0, 0] 0,
  .pauseReceive 7 0 0 0,
  .pauseReceive 0 28 0 0,
  .pauseExpire 7 0 0,
  .pauseExpire 0 28 0,
  .pauseExpire 0 0 8,
  .watchdogStall 7 0 0,
  .watchdogStall 0 28 0,
  .watchdogStall 0 0 8,
  .overflowReadback 7 0 0 false 0]
theorem test_ill_formed_refused_5 : illFormed5.all (fun i => !i.wf) = true := by decide +kernel

def illFormed6 : List Instr := [
  .overflowReadback 0 28 0 false 0,
  .overflowReadback 0 0 8 false 0,
  .mcHoldExpire 7 0,
  .linkDown 7 0 0,
  .linkDown 0 28 0,
  .linkUp 7 0 0 0,
  .linkUp 0 28 0 0,
  .gclEntryStart 7 0 0,
  .gclEntryStart 0 28 0,
  .mergeVerify 7 0 false 0,
  .mergeVerify 0 28 false 0,
  .streamGateEntry 7 0 0]
theorem test_ill_formed_refused_6 : illFormed6.all (fun i => !i.wf) = true := by decide +kernel

def illFormed7 : List Instr := [
  .streamGateEntry 0 64 0,
  .frerReset 7 0,
  .frerReset 0 256,
  .genReset ⟨⟨7, 0⟩, 0⟩ 0 0,
  .genReset ⟨⟨0, 0⟩, 0⟩ 7 0,
  .txtsPop ⟨⟨7, 0⟩, 0⟩ 0,
  .txtsPop ⟨⟨0, 0⟩, 0⟩ 7,
  .rateAdj ⟨⟨7, 0⟩, 0⟩ 0 0,
  .rateAdj ⟨⟨0, 0⟩, 0⟩ 7 0,
  .phaseAdj ⟨⟨7, 0⟩, 0⟩ 0 0,
  .phaseAdj ⟨⟨0, 0⟩, 0⟩ 7 0,
  .sample 7 0]
theorem test_ill_formed_refused_7 : illFormed7.all (fun i => !i.wf) = true := by decide +kernel

def illFormed8 : List Instr := [
  .busFrameRx ⟨28, 0, 0, [], 0⟩ false ⟨0, 0⟩,
  .trestleInput 7 0,
  .acfFrame 7 0,
  .authVerify 7 0,
  .authGenerate 7 0,
  .acfBatchSend 7 0,
  .acfBatchSend 0 256,
  .canTxDone 12 0,
  .canBusOff 12 0,
  .canAutoRecover 12 0,
  .recover ⟨⟨7, 0⟩, 0⟩ 0 0,
  .recover ⟨⟨0, 0⟩, 0⟩ 12 0]
theorem test_ill_formed_refused_8 : illFormed8.all (fun i => !i.wf) = true := by decide +kernel

def illFormed9 : List Instr := [
  .linScheduleSlot 6 0,
  .bar2Access 7 false 0 0 [] [] false 0,
  .completionTimeout 7 0,
  .completionTimeout 0 1024,
  .prefetchExpire 7,
  .msixUnmask ⟨⟨7, 0⟩, 0⟩ 0 0,
  .msixUnmask ⟨⟨0, 0⟩, 0⟩ 7 0,
  .msixUnmask ⟨⟨0, 0⟩, 0⟩ 0 32,
  .pcieLinkDown 7 0,
  .dmaTailWrite ⟨⟨7, 0⟩, 0⟩ 0 0 0,
  .dmaTailWrite ⟨⟨0, 0⟩, 0⟩ 7 0 0,
  .dmaTailWrite ⟨⟨0, 0⟩, 0⟩ 0 16 0]
theorem test_ill_formed_refused_9 : illFormed9.all (fun i => !i.wf) = true := by decide +kernel

def illFormed10 : List Instr := [
  .descriptorDone 7 0 false 0,
  .descriptorDone 0 16 false 0,
  .stop ⟨⟨7, 0⟩, 0⟩ 0 0,
  .stop ⟨⟨0, 0⟩, 0⟩ 7 0,
  .stop ⟨⟨0, 0⟩, 0⟩ 0 16,
  .resume ⟨⟨7, 0⟩, 0⟩ 0 0,
  .resume ⟨⟨0, 0⟩, 0⟩ 7 0,
  .resume ⟨⟨0, 0⟩, 0⟩ 0 16,
  .rxFrameDma 7 0 ⟨[], none⟩ 0,
  .rxFrameDma 0 16 ⟨[], none⟩ 0,
  .alloc ⟨⟨7, 0⟩, 0⟩ 0 0 0,
  .alloc ⟨⟨0, 0⟩, 0⟩ 7 0 0]
theorem test_ill_formed_refused_10 : illFormed10.all (fun i => !i.wf) = true := by decide +kernel

def illFormed11 : List Instr := [
  .alloc ⟨⟨0, 0⟩, 0⟩ 0 256 0,
  .alloc ⟨⟨0, 0⟩, 0⟩ 0 0 64,
  .share ⟨⟨7, 0⟩, 0⟩ 0 0 0 0,
  .share ⟨⟨0, 0⟩, 0⟩ 7 0 0 0,
  .share ⟨⟨0, 0⟩, 0⟩ 0 256 0 0,
  .share ⟨⟨0, 0⟩, 0⟩ 0 0 256 0,
  .release ⟨⟨7, 0⟩, 0⟩ 0 0 0,
  .release ⟨⟨0, 0⟩, 0⟩ 7 0 0,
  .release ⟨⟨0, 0⟩, 0⟩ 0 256 0,
  .free ⟨⟨7, 0⟩, 0⟩ 0 0 0,
  .free ⟨⟨0, 0⟩, 0⟩ 7 0 0,
  .free ⟨⟨0, 0⟩, 0⟩ 0 256 0]
theorem test_ill_formed_refused_11 : illFormed11.all (fun i => !i.wf) = true := by decide +kernel

def illFormed12 : List Instr := [
  .ckFeed ⟨⟨7, 0⟩, 0⟩ 0 0 0,
  .ckFeed ⟨⟨0, 0⟩, 0⟩ 7 0 0,
  .ckFeed ⟨⟨0, 0⟩, 0⟩ 0 8 0,
  .ckFeedB ⟨⟨7, 0⟩, 0⟩ 0 0 0,
  .ckFeedB ⟨⟨0, 0⟩, 0⟩ 7 0 0,
  .ckFeedB ⟨⟨0, 0⟩, 0⟩ 0 8 0,
  .ckRestart ⟨⟨7, 0⟩, 0⟩ 0 0,
  .ckRestart ⟨⟨0, 0⟩, 0⟩ 7 0,
  .ckRestart ⟨⟨0, 0⟩, 0⟩ 0 8,
  .ckPreset ⟨⟨7, 0⟩, 0⟩ 0 0,
  .ckPreset ⟨⟨0, 0⟩, 0⟩ 7 0,
  .ckPreset ⟨⟨0, 0⟩, 0⟩ 0 8]
theorem test_ill_formed_refused_12 : illFormed12.all (fun i => !i.wf) = true := by decide +kernel

def illFormed13 : List Instr := [
  .ckValueLoad ⟨⟨7, 0⟩, 0⟩ 0 0 false 0,
  .ckValueLoad ⟨⟨0, 0⟩, 0⟩ 7 0 false 0,
  .ckValueLoad ⟨⟨0, 0⟩, 0⟩ 0 8 false 0,
  .derive ⟨⟨7, 0⟩, 0⟩ 0,
  .derive ⟨⟨0, 0⟩, 0⟩ 4096,
  .import_ ⟨⟨7, 0⟩, 0⟩ 0,
  .import_ ⟨⟨0, 0⟩, 0⟩ 4096,
  .revoke ⟨⟨7, 0⟩, 0⟩ 0,
  .revoke ⟨⟨0, 0⟩, 0⟩ 4096,
  .slotRelease ⟨⟨7, 0⟩, 0⟩ 0,
  .slotRelease ⟨⟨0, 0⟩, 0⟩ 4096,
  .nonce ⟨⟨7, 0⟩, 0⟩]
theorem test_ill_formed_refused_13 : illFormed13.all (fun i => !i.wf) = true := by decide +kernel

def illFormed14 : List Instr := [
  .attest ⟨⟨7, 0⟩, 0⟩,
  .ticket ⟨⟨7, 0⟩, 0⟩,
  .keyTimer 64,
  .revocationMessage 7 0 0,
  .revocationBeat 7 0 0,
  .leaseExpire 7,
  .keyTransfer 7 0 false 0,
  .keyTransfer 0 4096 false 0,
  .saValidWrite ⟨⟨7, 0⟩, 0⟩ 0 0x3900000 0,
  .saValidWrite ⟨⟨0, 0⟩, 0⟩ 7 0x3900000 0,
  .saValidWrite ⟨⟨0, 0⟩, 0⟩ 0 0 0,
  .tamperEvent 8 0]
theorem test_ill_formed_refused_14 : illFormed14.all (fun i => !i.wf) = true := by decide +kernel

def illFormed15 : List Instr := [
  .modeRequest ⟨⟨7, 0⟩, 0⟩ 0,
  .reset ⟨⟨7, 0⟩, 0⟩ 0,
  .debugRequest ⟨⟨7, 0⟩, 0⟩ false 0,
  .wakePin 4 0,
  .wakePinStuck 4,
  .canWup 12 0,
  .selectiveWake 12 { id := 0, ext := false, fd := false, data := [] } 0,
  .selectiveWake 0 { id := 0x800, ext := false, fd := false, data := [] } 0,
  .swkErrorOverflow 12 0,
  .trxFailsafe 12,
  .txdTimeout 12 0,
  .busDom 12 0]
theorem test_ill_formed_refused_15 : illFormed15.all (fun i => !i.wf) = true := by decide +kernel

def illFormed16 : List Instr := [
  .nmMessage 12 { id := 0, ext := false, fd := false, data := [] } 0,
  .nmMessage 0 { id := 0x800, ext := false, fd := false, data := [] } 0,
  .nmRingSend 12,
  .nmRingLost 12,
  .limphome 12,
  .nmWaitExpire 12,
  .pnTimeout 24,
  .confirmWake ⟨⟨7, 0⟩, 0⟩ 0,
  .newPeriod ⟨⟨7, 0⟩, 0⟩ 0,
  .retentionConfirm 7 0,
  .elCopyRefresh 7 0,
  .roundBoundary 7 {} 0]
theorem test_ill_formed_refused_16 : illFormed16.all (fun i => !i.wf) = true := by decide +kernel

def illFormed17 : List Instr := [
  .roundBoundary 0 { counts := [] } 0,
  .digestGrace 7 0,
  .digestGrace 0 3,
  .stewardRestart 7 0,
  .rejoin ⟨⟨7, 0⟩, 0⟩ 0 0,
  .rejoin ⟨⟨0, 0⟩, 0⟩ 7 0,
  .doubtClear ⟨⟨7, 0⟩, 0⟩ 0 0,
  .doubtClear ⟨⟨0, 0⟩, 0⟩ 7 0,
  .censusLatch 8 false 0,
  .censusRequest ⟨⟨7, 0⟩, 0⟩ 0 0,
  .censusRequest ⟨⟨0, 0⟩, 0⟩ 7 0,
  .censusPrepare 8 0]
theorem test_ill_formed_refused_17 : illFormed17.all (fun i => !i.wf) = true := by decide +kernel

def illFormed18 : List Instr := [
  .censusPublish 8 0,
  .censusAbsent 8,
  .censusHold ⟨⟨7, 0⟩, 0⟩ 0 false,
  .censusHold ⟨⟨0, 0⟩, 0⟩ 7 false,
  .journalCommit ⟨⟨7, 0⟩, 0⟩ 0 0,
  .journalCommit ⟨⟨0, 0⟩, 0⟩ 7 0,
  .flush ⟨⟨7, 0⟩, 0⟩,
  .rdGo ⟨⟨7, 0⟩, 0⟩ 0,
  .rdGo ⟨⟨0, 0⟩, 0⟩ 2,
  .rdStop ⟨⟨7, 0⟩, 0⟩,
  .write ⟨⟨7, 0⟩, 0⟩,
  .verify ⟨⟨7, 0⟩, 0⟩ false]
theorem test_ill_formed_refused_18 : illFormed18.all (fun i => !i.wf) = true := by decide +kernel

def illFormed19 : List Instr := [
  .activateLive ⟨⟨7, 0⟩, 0⟩,
  .activateRestart ⟨⟨7, 0⟩, 0⟩,
  .activateNextStart ⟨⟨7, 0⟩, 0⟩,
  .confirmTrial ⟨⟨7, 0⟩, 0⟩,
  .abandon ⟨⟨7, 0⟩, 0⟩,
  .provWrite ⟨⟨7, 0⟩, 0⟩,
  .activationRestartDone 7 false 0,
  .sectionTimeout 7 0,
  .pmicPgRise 5 0,
  .pmicEnable 5,
  .railTimeout 5,
  .pmicDisable 5 0]
theorem test_ill_formed_refused_19 : illFormed19.all (fun i => !i.wf) = true := by decide +kernel

def illFormed20 : List Instr := [
  .railFault 5 0,
  .thermalSample 7 0 0,
  .thermalShutdown 7 0,
  .lowWordRead ⟨⟨7, 0⟩, 0⟩ ⟨0, .returns, false⟩,
  .spillWriteDone 7 0 0 0,
  .spillWriteDone 0 28 0 0,
  .spillWriteDone 0 0 8 0,
  .shaperEligible 7 0 0,
  .shaperEligible 0 28 0,
  .shaperEligible 0 0 8,
  .flexraySlot false false 2048 0 false 0,
  .flexraySlot false false 0 64 false 0]
theorem test_ill_formed_refused_20 : illFormed20.all (fun i => !i.wf) = true := by decide +kernel

def illFormed21 : List Instr := [
  .flexrayPocChange 8 0,
  .pcieLinkUp 7 1 1 0,
  .pcieLinkUp 0 5 1 0,
  .pcieConfigWrite 7 false 0 0 0 0,
  .pcieConfigWrite 0 false 3 0 0 0,
  .pcieConfigWrite 0 false 0 6 0 0,
  .wakePinInactive 4 0,
  .transceiverCommand 12 1 0,
  .busDomClear 12 0,
  .txdRecessive false 12 0,
  .linTxdTimeout 6 0,
  .stewardReloadDone 7 0]
theorem test_ill_formed_refused_21 : illFormed21.all (fun i => !i.wf) = true := by decide +kernel

/-- A package in RUN with every tile powered: an LO-IKD8 whose tethers and the span of tiles 0 and 1 are UP, rails on, BAT present. -/
def upPkg : Pkg :=
  let p : Pkg := { variant := .ikd8, tethers := [(0, { up := true }), (1, { up := true })], power := { bat := 2, phase := 2 } }
  let p := (((p.put 15 fMode mRun).put 15 fTilesOn 127).put 0 fRole roleActive).put 1 fRole roleStandby
  (((p.put 0 (fSpanState.at 0 0x40) 2).put 1 (fSpanState.at 5 0x40) 2).setSpanSt 0 0 { inServ := true }).setSpanSt 1 5 { inServ := true }
/-- A machine with a package and nothing else. -/
def stOf (p : Pkg) : State := ⟨p, {}, []⟩
def up : State := stOf upPkg
/-- An access of tile 0's steward, and of tile 0's host, at time 0. -/
def byFw : Acc := ⟨⟨0, 0⟩, 0⟩
def byHost : Acc := ⟨⟨0, 1⟩, 0⟩
/-- A package whose switch has ports 0, 1 and 24 of tile 0 and port 2 of tile 1 up at 1 Gbit/s, with their MAXs and a shared pool. -/
def swPort (t n : Nat) (p : Pkg) : Pkg :=
  (List.range 8).foldl (fun p c => p.put t (fMax n c) 100) (((((p.put t (fPresent n) 1).put t (fLinkUp n) 1).put t (fPortMode n) 2).put t (fMaxFrame n) 1518))
def swPkg : Pkg :=
  let p := swPort 1 2 (swPort 0 16 (swPort 0 24 (swPort 0 1 (swPort 0 0 upPkg))))
  ((p.put 0 fShared 1000).put 1 fShared 1000).put 0 ⟨0x400000, 3, 2⟩ 1
def sw : State := stOf swPkg
def zeros (n : Nat) : List Byte := List.replicate n 0#8
/-- A copy of frame 7 for port 1, queue 2 of tile 0, which came in at port 0. -/
def copy5 : Copy := { id := 5, frame := 7, tile := 0, port := 1, q := 2, bytes := zeros 60, cells := 1 }
def rec7 : FrameRec := { tile := 0, src := 0, cells := 1, refs := 1, charge := { kind := .account, port := 0, tc := 0, shared := 1 } }
def held7 : Pkg := (swPkg.onSw (fun w => { w with nextId := 9, frames := [(7, rec7)] })).setPool 0 { shared := 1 }
def withWaiting (p : Pkg) (c : Copy) : Pkg := p.onSw (fun w => { w with waiting := w.waiting ++ [c] })
/-- CAN channel 3, LIN channel 2 and FlexRay in service, with tile 0's trestle active. -/
def busPkg : Pkg :=
  ((((((upPkg.put 15 (fCanMode 3) 1).put 15 (fTrx 3) 1).put 15 (fLinEnable 2) 1).put 15 (fLinCommander 2) 1).put 15 fFrEnable 1).put 15 fFrPoc 3).put 15 fFrChA 1
def bus : State := stOf busPkg
def msgOn (b : Nat) : Msg := { src := b, fmt := 0, id := 0x123, payload := [1#8, 2#8, 3#8, 4#8] }
/-- A trestle in some state on tile 0. -/
def trOf (x : TrestleSt) : State := stOf (busPkg.setTrestle 0 x)
/-- A package whose tile 0 has its PCIe link up with bus mastering, an inbound window 0 onto work memory and an outbound window 1. -/
def hostPkg : Pkg :=
  ((((((upPkg.put 0 fHbLink 1).put 0 fHbBme 1).wr 0 0x1800200 0x80030000).wr 0 0x1800204 0x100000).wr 0 0x1800410 0x40000000).wr 0 0x1800418 0x80000010)
def host : State := stOf hostPkg
/-- A machine with bytes written to tile 0's work memory. -/
def withBytes (p : Pkg) (l : List (Nat × List Byte)) : State := ⟨p, l.foldl (fun m e => m.write 0 e.1 e.2) {}, []⟩
/-- The 32 bytes of words 0 to 7 of a descriptor (Table 8-4). -/
def descBytes (src dst w4 : Nat) : List Byte := leBytes 8 src ++ leBytes 8 dst ++ leBytes 4 w4 ++ zeros 12
/-- A parked package: rails off, BAT present, wakes from each source allowed by the storm limiter. -/
def parkPkg : Pkg :=
  let p : Pkg := { upPkg with power := { bat := 2, phase := 0 } }
  ((p.put 15 fMode mParkedCold).put 15 fTilesOn 0).put 15 fStormMax 9
def parkSt : State := stOf parkPkg
/-- A NOR whose two slots begin with 64 zero bytes, so that a container there has no section. -/
def smallNor : Mem := (({} : Mem).norWrite (slotBase 0) (zeros 64)).norWrite (slotBase 1) (zeros 64)
/-- Tile 0's NAND mounted: 2,048 blocks of 64 pages of 2,048 bytes. -/
def stPkg : Pkg := (((upPkg.put 0 fStMounted 1).wr 0 0x1F00004 0x2000).put 0 fReadLimit 1000).put 0 fBgBlocks 4

def ctPkg : Pkg := ((upPkg.wr 0 0x400020 5).wr 0 0x40002C 0x00010006).wr 0 0x40003C 7
def ctSlot : Nat := (ctPkg.ctPlace 0 (ctPkg.ctDataKey 0)).getD 0
def ctFull : Pkg := ctPkg.ctFill 0 ctSlot (ctPkg.ctDataKey 0) 1 1 1 false
def ctNone : Pkg := (bucketSlots (ctPkg.ctDataKey 0).bucket).foldl (fun p i => p.setCtWord 0 i 7 0x80000001#32) ctPkg
def agePkg : Pkg := (upPkg.setCtWord 0 (700000003 % 65536) 7 0x80000001#32).setCtWord 0 (700000003 % 65536) 3 0x00010006
def acfBad : Delivered := { tile := 0, port := 21, q := 0, bytes := zeros 60, info := {}, verdict := 0, reason := 0, kind := .fwd }
def acfGood : Delivered := { acfBad with bytes := acfFrameBytes 1 2 none true 5 0x1122334455667788 (acfEncode 0 true (msgOn 3)) }
def rtPkg : Pkg := (((((busPkg.wr 0 oSrcFilter 0).put 0 fTrEntries 4).wr 0 (routeOff 0) 0x123).wr 0 (routeOff 0 + 4) 3).wr 0 (routeOff 0 + 36) 0x80000000)
def ak : List Byte := zeros 16
def auWords : List Word := [0x12340009, 0x00A00544, 0x80000000]
def auRt : RouteSnap := { words := [0, 0, 0, 0, 18, 0, 0, 0x40000, 0, 0], moves := [], authV := auWords, authG := auWords, e2eChk := [], e2eGen := [], pad := 0 }
def auMsg (e : List Byte) : Msg := { msgOn 3 with payload := [1#8, 2#8, 3#8, 4#8] ++ e }
def auPkg : Pkg := (((((busPkg.put 15 (fSlState 9) 1).put 15 (fSlKind 9) 1).put 15 (fSlPolicy 9) 0x98).put 0 fLeaseOk 1).setTrCache 0 [⟨9, 0, ak, []⟩])
def auSt (j : EngJob) : State := stOf (auPkg.setTrestle 0 { engine := [j] })
def auGood : Msg := auMsg ([0#8, 3#8] ++ apCode ak auWords [1#8, 2#8, 3#8, 4#8] 3)
def dmPkg : Pkg := ((((upPkg.put 0 (fDmKind.ch 15) 1).put 0 (fDmEnable.ch 15) 1).put 0 (fDmRingExp.ch 15) 2).put 0 (fDmTail.ch 15) 1 |>.wr 0 (dmBase 15 + 4) 0x1000).wr 0 (dmBase 15 + 8) 1
def rxPkg : Pkg := (((dmPkg.put 0 (fDmKind.ch 15) 3).put 0 (fDmQueues.ch 15) 4).onSw (fun w => { w with got := [{ tile := 0, port := 16, q := 2, bytes := zeros 60, info := { rxAt := 6553600 }, verdict := 0, reason := 0, kind := .fwd }] }))
def podPkg : Pkg := (((upPkg.put 0 (fPoolPresent.pool 63) 1).put 0 (fPoolCount.pool 63) 4).put 0 (fPoolExp.pool 63) 8).setPod 0 0x3F000000 (some ⟨16, [16]⟩)
def upV : Pkg := (upPkg.put 0 fVerifiedOther 1)
def upT : Pkg := (upPkg.put 0 fUpTrial 1).setCnt 0 oUpTrialEnd 99999999999
def upLive : Pkg := { upV with mode := { upV.mode with govLife := lField } }
def upTL : Pkg := (upT.onMode (fun m => { m with govLife := lField })).onBoot (fun b => { b with liveTrial := true })
theorem witness_StepRunsFront_1 : ∃ s : State, s.pending = [] := ⟨State.reset, rfl⟩
theorem witness_StepKeepsMemoryForm_0 : ∃ s t : State, step s = .next t ∧ s.mem.wf = true := ⟨State.reset, State.reset, rfl, rfl⟩
/-- FIPS 197, appendix B. -/
theorem test_aes128_block :
    aesBlock (aesRoundKeys [0x2B, 0x7E, 0x15, 0x16, 0x28, 0xAE, 0xD2, 0xA6, 0xAB, 0xF7, 0x15, 0x88, 0x09, 0xCF, 0x4F, 0x3C])
      [0x32, 0x43, 0xF6, 0xA8, 0x88, 0x5A, 0x30, 0x8D, 0x31, 0x31, 0x98, 0xA2, 0xE0, 0x37, 0x07, 0x34] =
      [0x39, 0x25, 0x84, 0x1D, 0x02, 0xDC, 0x09, 0xFB, 0xDC, 0x11, 0x85, 0x97, 0x19, 0x6A, 0x0B, 0x32] := by decide +kernel
/-- SP 800-38B, example 2 of AES-128. -/
theorem test_cmac_one_block :
    cmacBytes (beBytes 16 0x2B7E151628AED2A6ABF7158809CF4F3C) (beBytes 16 0x6BC1BEE22E409F96E93D7E117393172A) =
      beBytes 16 0x070A16B46B4D4144F79BDD9DD04A287C := by decide +kernel
/-- The GCM submission's test case 2 (AES-128, one block of zeros). -/
theorem test_gcm_one_block :
    gcmSeal (zeros 16) (zeros 12) [] (zeros 16) = beBytes 32 0x0388DACE60B6A392F328C2B971B2FE78AB6E47D42CEC13BDF53A67B21257BDDF := by
  decide +kernel
/-- FIPS 180-4's example "abc". -/
theorem test_sha384_abc :
    sha384Bytes [0x61#8, 0x62#8, 0x63#8] =
      beBytes 48 0xCB00753F45A35E8BB5A03D699AC65007272C32AB0EDED1631A8B605A43FF5BED8086072BA1E7CC2358BAECA134C825A7 := by decide +kernel
def illFormedRest : List Instr := [
  .spanDown 7 0 [] 0, .spanDown 0 6 [] 0, .busCreditReturn ⟨32, 0⟩ 0, .txExpired ⟨32, 0⟩ ⟨0, false⟩, .busFrameError ⟨32, 0, false⟩ 0,
  .outboundAccess 7 (.core 0) false 0 0 1 [] [] 0, .outboundAccess 0 (.core 0) false 16 0 1 [] [] 0,
  .outboundAccess 0 (.core 0) true 0 0 1 [0#8] [] 0, .outboundCompletion 7 0 .sc [] 0, .outboundCompletion 0 1024 .sc [] 0,
  .descriptor 7 0 [] none 0, .descriptor 0 16 [] none 0, .rxFrameDma 7 0 ⟨[], none⟩ 0, .rxFrameDma 0 16 ⟨[], none⟩ 0,
  .vaultCommandDone (some 256) 0, .vote 7 { first := [] } 0, .roundBoundary 0 { accs := [.store 0 [0#8] []] } 0, .roundBoundary 0 { early := some 7 } 0,
  .rdCopyRecord ⟨[none, some 25], 0⟩, .keeperWork ⟨true, [⟨0, 0, some 25⟩]⟩ 0,
  .transmitDecision 0 ⟨28, true⟩ 0, .busFrameRx ⟨0, 0, 0, [], 0⟩ false ⟨2, 1⟩, .lowWordRead ⟨⟨0, 0⟩, 0⟩ ⟨2, .returns, false⟩]
theorem test_ill_formed_refused_rest : illFormedRest.all (fun i => !i.wf) = true := by decide +kernel

theorem witness_RegisterWriteEffect_0 : ∃ a : Acc, ∃ die : Nat, ∃ off : Nat, ∃ v : Word, ∃ s : State, (s.pkg.reaches a.req die off v) ∧ (plainWord die off
    = true) ∧ (s.pkg.rkBits die off = 0) ∧ (((s.pkg.reach a.at_).remember a.req die off v).takes die off v = true) :=
  ⟨(byFw), (0), (0x1E00014), (7), (up), by decide +kernel⟩
theorem witness_RegisterWriteEffect_1 : ∃ a : Acc, ∃ die : Nat, ∃ off : Nat, ∃ v : Word, ∃ s : State, (s.pkg.reaches a.req die off v) ∧ (plainWord die off
    = true) ∧ (s.pkg.rkBits die off = 0) ∧ (((s.pkg.reach a.at_).remember a.req die off v).takes die off v = false) :=
  ⟨(byFw), (0), (0x1E00014), (0), (up), by decide +kernel⟩
theorem witness_KeystoneWriteEffect_0 : ∃ a : Acc, ∃ tile : Nat, ∃ off : Nat, ∃ v : Word, ∃ s : State, (s.pkg.reaches a.req tile off v) ∧ (tile ≠ 15) ∧
    (plainWord tile off = true) ∧ (s.pkg.rkBits tile off ≠ 0) ∧ (s.pkg.rkBits tile off = keystoneMask tile off) ∧ (writableBits tile off = 0) ∧ (w1sBits tile
    off = 0) ∧ (w1cBits tile off = 0) ∧ (((s.pkg.reach a.at_).remember a.req tile off v).takes tile off v = true) ∧ (s.pkg.staging tile = false) :=
  ⟨(byFw), (0), (0x1E00004), (100), (up), by decide +kernel⟩
theorem witness_KeystoneWriteEffect_1 : ∃ a : Acc, ∃ tile : Nat, ∃ off : Nat, ∃ v : Word, ∃ s : State, (s.pkg.reaches a.req tile off v) ∧ (tile ≠ 15) ∧
    (plainWord tile off = true) ∧ (s.pkg.rkBits tile off ≠ 0) ∧ (s.pkg.rkBits tile off = keystoneMask tile off) ∧ (writableBits tile off = 0) ∧ (w1sBits tile
    off = 0) ∧ (w1cBits tile off = 0) ∧ (((s.pkg.reach a.at_).remember a.req tile off v).takes tile off v = true) ∧ (s.pkg.staging tile = true) :=
  ⟨(byFw), (0), (0x1E00004), (100), (stOf (upPkg.put 0 fBankSync 1)), by decide +kernel⟩
theorem witness_FenceEffects_0 : ∃ a : Acc, ∃ die : Nat, ∃ s : State, (s.pkg.leaves a.req) ∧ (die < 15) ∧ (s.pkg.accessErr a.req (pkgAddr die oSgFence) = 0) ∧
    (die = a.req.die) :=
  ⟨(byFw), (0), (stOf (upPkg.setReqSt ⟨0, 0⟩ { unacked := [{ id := 3, addr := 0x200020, sent := 0 }] })), by decide +kernel⟩
theorem witness_FenceEffects_1 : ∃ a : Acc, ∃ die : Nat, ∃ s : State, (s.pkg.leaves a.req) ∧ (die < 15) ∧ (s.pkg.accessErr a.req (pkgAddr die oSgFence) = 0) ∧
    (die ≠ a.req.die) :=
  ⟨(byFw), (1), (stOf (upPkg.setReqSt ⟨0, 0⟩ { unacked := [{ id := 3, addr := 0x200020, sent := 0 }] })), by decide +kernel⟩
theorem witness_FenceEffects_2 : ∃ a : Acc, ∃ die : Nat, ∃ s : State, (s.pkg.leaves a.req) ∧ (die < 15) ∧ (s.pkg.accessErr a.req (pkgAddr die oSgFence) ≠ 0) :=
  ⟨(byFw), (3), (stOf (upPkg.setReqSt ⟨0, 0⟩ { unacked := [{ id := 3, addr := 0x200020, sent := 0 }] })), by decide +kernel⟩
theorem witness_FenceEffects_3 : ∃ a : Acc, ∃ die : Nat, ∃ s : State, (s.pkg.leaves a.req) ∧ (die < 15) ∧ (s.pkg.accessErr a.req (pkgAddr die oSgFenceWait)
    = 0) ∧ (die = a.req.die) :=
  ⟨(byFw), (0), (up), by decide +kernel⟩
theorem witness_FenceEffects_4 : ∃ a : Acc, ∃ die : Nat, ∃ s : State, (s.pkg.leaves a.req) ∧ (die < 15) ∧ (s.pkg.accessErr a.req (pkgAddr die oSgFenceWait)
    = 0) ∧ (die ≠ a.req.die) :=
  ⟨(byFw), (1), (up), by decide +kernel⟩
theorem witness_FenceEffects_5 : ∃ a : Acc, ∃ die : Nat, ∃ s : State, (s.pkg.leaves a.req) ∧ (die < 15) ∧ (s.pkg.accessErr a.req (pkgAddr die oSgFenceWait) ≠
    0) :=
  ⟨(byFw), (3), (up), by decide +kernel⟩
theorem witness_FenceEffects_6 : ∃ r : Req, ∃ f : Fence, ∃ l : List Fence, ∃ s : State, ((s.pkg.reqSt r).fences = f :: l) ∧ (((s.pkg.reqSt r).held = [] ∨ l ≠
    [])) :=
  ⟨⟨0, 0⟩, ⟨[3], 0, false⟩, ([]), (stOf (upPkg.setReqSt ⟨0, 0⟩ { fences := [⟨[3], 0, false⟩] })), by decide +kernel⟩
theorem witness_FenceEffects_7 : ∃ a : Acc, ∃ die : Nat, ∃ s : State, (s.pkg.mayIssue a.req = true) ∧ (die < 15) ∧ ((s.pkg.reqSt a.req).fences ≠ []) :=
  ⟨(byFw), (0), (stOf (upPkg.setReqSt ⟨0, 0⟩ { fences := [⟨[3], 0, false⟩] })), by decide +kernel⟩
theorem witness_FenceEffects_9 : ∃ a : Acc, ∃ s : State, (s.pkg.mayIssue a.req = true) ∧ (((s.pkg.reqSt a.req).fences ≠ [] ∨ 64 ≤ (s.pkg.reqSt
    a.req).unacked.length ∨ (s.pkg.reqSt a.req).held ≠ [])) :=
  ⟨(byFw), (stOf (upPkg.setReqSt ⟨0, 0⟩ { fences := [⟨[3], 0, false⟩] })), by decide +kernel⟩
theorem witness_WriteEndEffects_0 : ∃ r : Req, ∃ id : Nat, ∃ s : State, ∃ w : OutWrite, ((s.pkg.reqSt r).unacked.find? (fun w => w.id == id) = some w) ∧
    (w.atPort = false) ∧ (((s.pkg.reqSt r).held = [] ∨ ∃ f ∈ (s.pkg.reqSt r).fences, ∃ x ∈ f.covers, x ≠ id)) :=
  ⟨⟨0, 0⟩, (3), (stOf (upPkg.setReqSt ⟨0, 0⟩
      { unacked := [{ id := 3, addr := 0x200020, sent := 0 }], fences := [⟨[3], 0, false⟩] })), ({ id := 3, addr := 0x200020, sent := 0 }), by decide +kernel⟩
theorem witness_WriteEndEffects_1 : ∃ r : Req, ∃ id : Nat, ∃ s : State, ∃ w : OutWrite, ((s.pkg.reqSt r).unacked.find? (fun w => w.id == id) = some w) ∧
    (w.atPort = false) ∧ (((s.pkg.reqSt r).held = [] ∨ ∃ f ∈ (s.pkg.reqSt r).fences, ∃ x ∈ f.covers, x ≠ id)) ∧ ((s.pkg.reqSt r).lost.find? (fun w => w.id
    == id) = none) :=
  ⟨⟨0, 0⟩, (3), (stOf (upPkg.setReqSt ⟨0, 0⟩
      { unacked := [{ id := 3, addr := 0x200020, sent := 0 }], fences := [⟨[3], 0, false⟩] })), ({ id := 3, addr := 0x200020, sent := 0 }), by decide +kernel⟩
theorem witness_WriteEndEffects_2 : ∃ r : Req, ∃ id : Nat, ∃ s : State, ∃ w : LostRead, ((s.pkg.reqSt r).lost.find? (fun w => w.id == id) = some w) :=
  ⟨⟨0, 0⟩, (3), (stOf (upPkg.setReqSt ⟨0, 0⟩ { lost := [{ id := 3, addr := 0x200020, sent := 5 }] })), ({ id := 3, addr := 0x200020, sent := 5 }), by
      decide +kernel⟩
theorem witness_WriteEndEffects_3 : ∃ r : Req, ∃ id : Nat, ∃ s : State, ((∀ w, (s.pkg.reqSt r).unacked.find? (fun w => w.id == id) = some w → w.atPort
    = true)) :=
  ⟨⟨0, 0⟩, (3), (stOf (upPkg.setReqSt ⟨0, 0⟩ { unacked := [{ id := 3, addr := 0x200020, sent := 0, atPort := true }] })), by decide +kernel⟩
theorem witness_WriteEndEffects_4 : ∃ r : Req, ∃ id : Nat, ∃ s : State, ((∀ w, (s.pkg.reqSt r).unacked.find? (fun w => w.id == id) = some w → w.atPort = true))
    ∧ ((s.pkg.reqSt r).lost.find? (fun w => w.id == id) = none) :=
  ⟨⟨0, 0⟩, (3), (stOf (upPkg.setReqSt ⟨0, 0⟩ { unacked := [{ id := 3, addr := 0x200020, sent := 0, atPort := true }] })), by decide +kernel⟩
theorem witness_SpanEffects_0 : ∃ tile : Nat, ∃ span : Nat, ∃ d : Nat, ∃ q : Nat, ∃ s : State, (spanPeer s.pkg.variant tile span = some (d, q)) ∧ (s.pkg.tileOn
    tile = true) ∧ (s.pkg.spanState tile span = 2) :=
  ⟨(0), (0), (1), (5), (up), by decide +kernel⟩
theorem witness_SpanEffects_1 : ∃ tile : Nat, ∃ span : Nat, ∃ d : Nat, ∃ q : Nat, ∃ s : State, (spanPeer s.pkg.variant tile span = some (d, q)) ∧ (s.pkg.tileOn
    tile = true) ∧ (s.pkg.spanState tile span = 2) ∧ (s.noEthWaits) :=
  ⟨(0), (0), (1), (5), (up), by decide +kernel⟩
theorem witness_SpanEffects_2 : ∃ tile : Nat, ∃ span : Nat, ∃ d : Nat, ∃ q : Nat, ∃ s : State, (spanPeer s.pkg.variant tile span = some (d, q)) ∧ (s.pkg.tileOn
    tile = true) ∧ ((s.pkg.spanState tile span = 3 ∨ s.pkg.spanState tile span = 1)) :=
  ⟨(0), (0), (1), (5), (stOf (upPkg.put 0 (fSpanState.at 0 0x40) 3)), by decide +kernel⟩
theorem witness_SpanEffects_3 : ∃ tile : Nat, ∃ span : Nat, ∃ d : Nat, ∃ q : Nat, ∃ s : State, (spanPeer s.pkg.variant tile span = some (d, q)) ∧ (s.pkg.tileOn
    tile = true) ∧ (s.pkg.spanState tile span ≠ 2) :=
  ⟨(0), (0), (1), (5), (stOf (upPkg.put 0 (fSpanState.at 0 0x40) 1)), by decide +kernel⟩
theorem witness_TetherEffects_0 : ∃ x : Nat, ∃ s : State, (s.pkg.tetherThere x = true) ∧ (s.noEthWaits) :=
  ⟨(0), (up), by decide +kernel⟩
theorem witness_TetherEffects_2 : ∃ x : Nat, ∃ s : State, (s.pkg.tetherThere x = true) ∧ (s.pkg.tetherUp x = true) ∧ ((3 ≤ (s.pkg.tetherSt x).missTo ∨ 3 ≤
    (s.pkg.tetherSt x).missFrom)) ∧ (s.noEthWaits) :=
  ⟨(0), (stOf (upPkg.setTetherSt 0 { up := true, missTo := 3 })), by decide +kernel⟩
theorem witness_TetherEffects_3 : ∃ x : Nat, ∃ s : State, (s.pkg.tetherThere x = true) ∧ (s.pkg.tetherUp x = false) :=
  ⟨(0), (stOf (upPkg.setTetherSt 0 {})), by decide +kernel⟩
theorem witness_TetherEffects_4 : ∃ x : Nat, ∃ s : State, (s.pkg.tetherThere x = true) ∧ (s.pkg.tetherUp x = false) ∧ (3 ≤ (s.pkg.tetherSt x).goodTo) ∧ (3 ≤
    (s.pkg.tetherSt x).goodFrom) ∧ (s.noEthWaits) :=
  ⟨(0), (stOf (upPkg.setTetherSt 0 { goodTo := 3, goodFrom := 3 })), by decide +kernel⟩
theorem witness_TimeEffects_0 : ∃ tile : Nat, ∃ s : State, (s.pkg.inService tile = true) ∧ (tile ≠ s.pkg.ref) ∧ (s.pkg.pairUp tile s.pkg.ref = true) :=
  ⟨(1), (up), by decide +kernel⟩
theorem witness_TimeEffects_1 : ∃ err : Int, ∃ at_ : Nat, ∃ s : State, (s.pkg.tetherTile.isSome = true) ∧ (s.pkg.modeNow = mRun) ∧ (err.natAbs ≤ 20) ∧
    (((s.pkg.reach at_).count 15 : Int) ≤ (((s.pkg.reach at_).count s.pkg.ref + err * 65536 : Int))) :=
  ⟨(20), (1000), (up), by decide +kernel⟩
theorem witness_TimeEffects_2 : ∃ err : Int, ∃ at_ : Nat, ∃ s : State, (s.pkg.tetherTile.isSome = true) ∧ (s.pkg.modeNow = mRun) ∧ (err.natAbs ≤ 20) ∧
    ((((s.pkg.reach at_).count s.pkg.ref + err * 65536 : Int)) < ((s.pkg.reach at_).count 15 : Int)) :=
  ⟨((-20)), (1000), (up), by decide +kernel⟩
theorem witness_TimeEffects_3 : ∃ a : Acc, ∃ die : Nat, ∃ off : Nat, ∃ s : State, (s.pkg.leaves a.req) ∧ (die < 16) ∧ (off < 2 ^ 26) ∧ (off % 4 = 0) ∧ (isFence
    die off = false) ∧ (s.pkg.accessErr a.req (pkgAddr die off) = 0) ∧ (s.pkg.queueAt die = []) ∧ (pairLow die off = some off) ∧ (off ≠ oTmNow) ∧ (off ≠
    oTxtsInfo) ∧ ((die = 15 ∨ podCommand off = none)) :=
  ⟨(byFw), (0), (0x1E00040), (up), by decide +kernel⟩
theorem witness_TimeEffects_4 : ∃ a : Acc, ∃ die : Nat, ∃ off : Nat, ∃ s : State, (s.pkg.leaves a.req) ∧ (die < 16) ∧ (off < 2 ^ 26) ∧ (off % 4 = 0) ∧ (isFence
    die off = false) ∧ (s.pkg.accessErr a.req (pkgAddr die off) = 0) ∧ (s.pkg.queueAt die = []) ∧ (pairLow die off = some off) ∧ (off ≠ oTmNow) ∧ (off ≠
    oTxtsInfo) ∧ ((die = 15 ∨ podCommand off = none)) ∧ (s.pkg.accessErr a.req (pkgAddr die (off + 4)) = 0) ∧ (pairLow die (off + 4) = some off) ∧ (off + 4 ≠
    oTmNow) ∧ (off + 4 ≠ oTxtsInfo) ∧ (isFence die (off + 4) = false) ∧ ((die = 15 ∨ podCommand (off + 4) = none)) ∧ (off + 4 < 2 ^ 26) :=
  ⟨(byFw), (0), (0x1E00040), (up), by decide +kernel⟩
theorem witness_TimeEffects_6 : ∃ a : Acc, ∃ die : Nat, ∃ off : Nat, ∃ s : State, (s.pkg.leaves a.req) ∧ (die < 16) ∧ (off < 2 ^ 26) ∧ (off % 4 = 0) ∧ (isFence
    die off = false) ∧ (s.pkg.accessErr a.req (pkgAddr die off) = 0) ∧ (s.pkg.queueAt die = []) ∧ (die ≠ 15) ∧ (off = oTmNow) :=
  ⟨(byFw), (0), (oTmNow), (up), by decide +kernel⟩
theorem witness_CommitRequestAndDrain_0 : ∃ tile : Nat, ∃ s : State, ∃ a : Acc, ∃ v : Word, (tile < 7) ∧ (s.pkg.reaches a.req tile 0x200020 v) ∧ (v.getLsbD 0
    = true) ∧ (tile = s.pkg.steward) ∧ (s.pkg.ksState tile = 0) :=
  ⟨(0), (up), (byFw), (1), by decide +kernel⟩
theorem witness_CommitRequestAndDrain_1 : ∃ tile : Nat, ∃ s : State, ∃ a : Acc, ∃ v : Word, (tile < 7) ∧ (s.pkg.reaches a.req tile 0x200020 v) ∧ (v.getLsbD 0
    = true) ∧ (tile = s.pkg.steward) ∧ (s.pkg.ksState tile ≠ 0) :=
  ⟨(0), (stOf (upPkg.put 0 fKsState 1)), (byFw), (1), by decide +kernel⟩
theorem witness_CommitRequestAndDrain_2 : ∃ tile : Nat, ∃ s : State, (tile < 7) ∧ (s.pkg.ks.active = true) ∧ (tile ∈ s.pkg.ks.tiles) ∧ (tile ∉
    s.pkg.ks.answered) ∧ (s.pkg.inService tile = true) ∧ (s.pkg.pairUp s.pkg.ks.tile tile = true) :=
  ⟨(1), (stOf { upPkg with ks := { active := true, tile := 0, tiles := [0, 1], tc := 5000, epoch := 1 } }), by decide +kernel⟩
theorem witness_CommitRequestAndDrain_3 : ∃ tile : Nat, ∃ s : State, (tile < 7) ∧ (s.pkg.inService tile = true) ∧ (s.pkg.ksState tile = 1) :=
  ⟨(1), (stOf (((({ upPkg with ks := { active := true, tile := 0, tiles := [0, 1], tc := 5000, epoch := 1 } } : Pkg).put 1 fKsState 1)).setKsT 1
      { tc := 5000 })), by decide +kernel⟩
theorem witness_CommitRequestAndDrain_4 : ∃ tile : Nat, ∃ s : State, (tile < 7) ∧ (s.pkg.inService tile = true) ∧ (s.pkg.ksState tile = 2) ∧ (s.pkg.drainEmpty
    tile = true) ∧ ((s.pkg.ksT tile).drained = false) :=
  ⟨(1), (stOf (upPkg.put 1 fKsState 2)), by decide +kernel⟩
theorem witness_CommitRequestAndDrain_5 : ∃ tile : Nat, ∃ at_ : Nat, ∃ s : State, (tile < 7) ∧ (s.pkg.ks.active = true) ∧ (tile ∈ s.pkg.ks.tiles) ∧
    (s.pkg.ks.dec = none) ∧ ((s.pkg.ksT tile).drained = true) ∧ (tile ∉ s.pkg.ks.drained) ∧ (s.pkg.pairUp s.pkg.ks.tile tile = true) ∧ (s.calm) ∧ ((s.pkg.reach
    at_).countNs s.pkg.ks.tile + 250 ≤ s.pkg.ks.tc) :=
  ⟨(1), (1000), (stOf (({ upPkg with ks := { active := true, tile := 0, tc := 1000000, tiles := [0, 1], drained := [0] } } : Pkg).setKsT 1
      { drained := true })), by decide +kernel⟩
theorem witness_CommitRequestAndDrain_6 : ∃ tile : Nat, ∃ at_ : Nat, ∃ s : State, (tile < 7) ∧ (s.pkg.ks.active = true) ∧ (tile ∈ s.pkg.ks.tiles) ∧
    (s.pkg.ks.dec = none) ∧ ((s.pkg.ksT tile).drained = true) ∧ (tile ∉ s.pkg.ks.drained) ∧ (s.pkg.pairUp s.pkg.ks.tile tile = true) ∧ (s.calm) ∧ (s.pkg.ks.tc
    < (s.pkg.reach at_).countNs s.pkg.ks.tile + 250) :=
  ⟨(1), (1000), (stOf (({ upPkg with ks := { active := true, tile := 0, tiles := [0, 1], drained := [0] } } : Pkg).setKsT 1 { drained := true })), by
      decide +kernel⟩
theorem witness_CommitDecision_0 : ∃ tile : Nat, ∃ s : State, (tile < 7) ∧ (s.pkg.ks.active = true) ∧ (s.calm) ∧ (s.pkg.ks.dec = none) :=
  ⟨(1), (stOf { upPkg with ks := { active := true, tile := 0, tiles := [0, 1], tc := 5000 } }), by decide +kernel⟩
theorem witness_CommitDecision_1 : ∃ tile : Nat, ∃ s : State, (tile < 7) ∧ (s.pkg.ks.active = true) ∧ (s.calm) ∧ (s.pkg.ks.dec ≠ none) ∧ ((∃ x ∈
    s.pkg.ks.tiles, x ∉ s.pkg.ks.acked)) :=
  ⟨(1), (stOf { upPkg with ks := { active := true, tile := 0, tiles := [0, 1], dec := some (.abort 3), acked := [], tc := 5000 } }), by decide +kernel⟩
theorem witness_CommitDecision_2 : ∃ tile : Nat, ∃ s : State, ∃ d : Decision, (tile < 7) ∧ (s.pkg.ks.active = true) ∧ (s.calm) ∧ (s.pkg.mayReceive tile = true)
    ∧ (s.pkg.ks.dec = some d) ∧ ((s.pkg.ksT tile).dec = some d) ∧ (s.pkg.ks.tile ≠ tile) ∧ (s.pkg.standby = some tile) ∧ (s.pkg.ks.stdbyAck = false) ∧
    ((s.pkg.ksState s.pkg.ks.tile = 1 ∨ s.pkg.ksState s.pkg.ks.tile = 2)) :=
  ⟨(1), (stOf ((({ upPkg with ks := { active := true, tile := 0, tiles := [0, 1], dec := some (.abort 3), acked := [], tc := 5000 } } : Pkg).setKsT 1
      { dec := some (.abort 3) }).put 0 fKsState 1)), (.abort 3), by decide +kernel⟩
theorem witness_CommitDecision_3 : ∃ tile : Nat, ∃ s : State, ∃ d : Decision, (tile < 7) ∧ (s.pkg.ks.active = true) ∧ (s.calm) ∧ (s.pkg.mayReceive tile = true)
    ∧ (s.pkg.ks.dec = some d) ∧ ((s.pkg.ksState tile = 1 ∨ s.pkg.ksState tile = 2)) ∧ (d = .confirm) :=
  ⟨(1), (stOf (({ upPkg with ks := { active := true, tile := 0, tiles := [0, 1], dec := some .confirm, stdbyAck := true, tc := 5000 } } : Pkg).put 1 fKsState
      1)), (.confirm), by decide +kernel⟩
theorem witness_CommitDecision_4 : ∃ tile : Nat, ∃ s : State, ∃ d : Decision, (tile < 7) ∧ (s.pkg.ks.active = true) ∧ (s.calm) ∧ (s.pkg.mayReceive tile = true)
    ∧ (s.pkg.ks.dec = some d) ∧ ((s.pkg.ksState tile = 1 ∨ s.pkg.ksState tile = 2)) ∧ (d ≠ .confirm) :=
  ⟨(1), (stOf (({ upPkg with ks := { active := true, tile := 0, tiles := [0, 1], dec := some (.abort 3), acked := [], tc := 5000 } } : Pkg).put 1 fKsState
      2)), (.abort 3), by decide +kernel⟩
theorem witness_CommitDecision_5 : ∃ tile : Nat, ∃ s : State, ∃ d : Decision, ∃ r, (tile < 7) ∧ (s.pkg.ks.active = true) ∧ (s.calm) ∧ (s.pkg.mayReceive tile
    = true) ∧ (s.pkg.ks.dec = some d) ∧ (s.pkg.ksState tile = 3) ∧ (d = .abort r) ∧ ((s.pkg.ksT tile).staged = []) ∧ ((∀ w ∈ s.pkg.sw.waitIn, w.tile ≠ tile)) :=
  ⟨(1), (stOf (({ upPkg with ks := { active := true, tile := 0, tiles := [0, 1], dec := some (.abort 3), acked := [], tc := 5000 } } : Pkg).put 1 fKsState
      3)), (.abort 3), (3), by decide +kernel⟩
theorem witness_CommitTakesEffect_0 : ∃ tile : Nat, ∃ s : State, (tile < 7) ∧ (s.calm) ∧ (s.pkg.inService tile = true) ∧ ((s.pkg.ksState tile = 1 ∨
    s.pkg.ksState tile = 2)) ∧ ((s.pkg.ksT tile).dec = none) :=
  ⟨(1), (stOf ((upPkg.put 1 fKsState 2).setKsT 1 { tc := 5000 })), by decide +kernel⟩
theorem witness_CommitTakesEffect_1 : ∃ tile : Nat, ∃ s : State, (tile < 7) ∧ (s.calm) ∧ (s.pkg.inService tile = true) ∧ ((s.pkg.ksState tile = 1 ∨
    s.pkg.ksState tile = 2)) ∧ ((s.pkg.ksT tile).dec = some .confirm) ∧ (tile ≠ s.pkg.ks.tile) ∧ ((∀ w ∈ s.pkg.sw.waitIn, w.tile ≠ tile)) :=
  ⟨(1), (stOf ((upPkg.put 1 fKsState 2).setKsT 1 { tc := 5000, epoch := 6, dec := some .confirm })), by decide +kernel⟩
theorem witness_CommitTakesEffect_2 : ∃ tile : Nat, ∃ s : State, (tile < 7) ∧ (s.calm) ∧ (s.pkg.tileOn tile = true) ∧ (s.pkg.on tile fBankSync = true) ∧
    ((s.pkg.ksT tile).staged = []) :=
  ⟨(1), (stOf (upPkg.put 1 fBankSync 1)), by decide +kernel⟩
theorem witness_CommitTakesEffect_3 : ∃ tile : Nat, ∃ s : State, (tile < 7) ∧ (s.calm) ∧ (s.pkg.ks.active = true) ∧ (tile ∈ s.pkg.ks.tiles) ∧ (s.pkg.ksState
    tile = 0) ∧ (s.pkg.ks.dec = some .confirm) ∧ (s.pkg.get tile fEpoch = s.pkg.ks.epoch) ∧ (s.pkg.pairUp s.pkg.ks.tile tile = true) :=
  ⟨(1), (stOf (({ upPkg with ks := { active := true, tile := 0, tiles := [0, 1], dec := some .confirm, done := [0], epoch := 6 } } : Pkg).put 1 fEpoch 6)), by
      decide +kernel⟩
theorem witness_CommitTakesEffect_4 : ∃ tile : Nat, ∃ at_ : Nat, ∃ s : State, (tile < 7) ∧ (s.calm) ∧ (s.pkg.inService tile = true) ∧ (s.pkg.modeNow = mRun) ∧
    ((s.pkg.reach at_).unanswering tile = true) ∧ ((s.pkg.trestle 1).ready = []) ∧ (tile ≠ s.pkg.ks.tile) ∧ ((s.pkg.ks.stdbyAck = true ∨ tile ≠ 1)) :=
  ⟨(0), (2000000), (stOf { upPkg with ks := { active := true, tile := 1, tiles := [0, 1], dec := some .confirm } }), by decide +kernel⟩
theorem witness_CommitTakesEffect_5 : ∃ tile : Nat, ∃ at_ : Nat, ∃ s : State, (tile < 7) ∧ (s.calm) ∧ (s.pkg.inService tile = true) ∧ (s.pkg.modeNow = mRun) ∧
    ((s.pkg.reach at_).unanswering tile = true) ∧ ((s.pkg.trestle 1).ready = []) ∧ (tile = s.pkg.ks.tile) ∧ (s.pkg.inService 1 = true) ∧ (tile ≠ 1) ∧
    ((s.pkg.ksState 1 = 1 ∨ s.pkg.ksState 1 = 2)) :=
  ⟨(0), (2000000), (stOf (({ upPkg with ks := { active := true, tile := 0, tiles := [0, 1] } } : Pkg).put 1 fKsState 1)), by decide +kernel⟩
theorem witness_CommitTakesEffect_6 : ∃ tile : Nat, ∃ at_ : Nat, ∃ s : State, (tile < 7) ∧ (s.calm) ∧ ((s.pkg.reach at_).unanswering tile = false) :=
  ⟨(1), (1000), (stOf (upPkg.put 1 fBankSync 1)), by decide +kernel⟩
theorem witness_ShadowsTakeEffect_0 : ∃ p : Pkg, ∃ die : Nat, ∃ off : Nat, (die < 16) ∧ (off < 2 ^ 26) ∧ ((p.shadow.map Prod.fst).Nodup) ∧ ((∀ e ∈
    p.shadow, e.1 < 2 ^ 30)) :=
  ⟨({ upPkg with shadow := [(pkgAddr 1 0x1E00004, 100)] }), (1), (0x1E00004), by decide +kernel⟩
theorem witness_ShadowsTakeEffect_2 : ∃ p : Pkg, ∃ die : Nat, ∃ off : Nat, ∃ d, ∃ o, (die < 16) ∧ (off < 2 ^ 26) ∧ ((p.shadow.map Prod.fst).Nodup) ∧ ((∀ e ∈
    p.shadow, e.1 < 2 ^ 30)) ∧ (d < 16) ∧ (o < 2 ^ 26) ∧ (d ≠ die) :=
  ⟨({ upPkg with shadow := [(pkgAddr 1 0x1E00004, 100)] }), (1), (0x1E00004), (0), (0x1E00004), by decide +kernel⟩
theorem witness_FrameReceiveEffects_0 : ∃ tile : Nat, ∃ port : Nat, ∃ f : RxFrame, ∃ s : State, (tile < 7) ∧ (port < 28) ∧ (s.pkg.inService tile = true) ∧
    (s.pkg.hasPort tile port = true) ∧ (s.pkg.linkUp tile port = true) ∧ (macPort tile port = true) ∧ (s.noEthWaits) ∧ ((port < 16 → f.part = .express)) ∧
    (s.pkg.macFault tile port f ≠ 0) ∧ ((s.pkg.macFault tile port f = 1 → s.pkg.mayCutIn tile port = false)) :=
  ⟨(0), (0), ({ bytes := zeros 60, fcsOk := false }), (sw), by decide +kernel⟩
theorem witness_FrameReceiveEffects_1 : ∃ tile : Nat, ∃ port : Nat, ∃ at_ : Nat, ∃ f : RxFrame, ∃ s : State, (tile < 7) ∧ (port < 28) ∧ (s.pkg.inService tile
    = true) ∧ (s.pkg.hasPort tile port = true) ∧ (s.pkg.linkUp tile port = true) ∧ (macPort tile port = true) ∧ (s.noEthWaits) ∧ ((port < 16 → f.part
    = .express)) ∧ (s.pkg.macFault tile port f = 0) ∧ (beAt f.bytes 12 2 ≠ 0x8808) ∧ ((port < 16 → s.pkg.on tile (fRxMsEnable port) = false)) ∧ ((∀ e ∈
    ((s.pkg.reach at_).drawTurn tile).drew, (s.pkg.frame e.2).charge.port < 28)) ∧ (((s.pkg.reach at_).takeTurn tile port (arrivalClass port f) (cellsOf
    (f.bytes.length + 4))).drawable tile port (arrivalClass port f) (cellsOf (f.bytes.length + 4)) = none) :=
  ⟨(0), (0), (1000), ({ bytes := zeros 60, fcsOk := true }), (stOf (swPkg.put 0 (fMax 0 0) 0)), by decide +kernel⟩
theorem witness_FrameReceiveEffects_2 : ∃ tile : Nat, ∃ port : Nat, ∃ at_ : Nat, ∃ f : RxFrame, ∃ s : State, ∃ d, (tile < 7) ∧ (port < 28) ∧ (s.pkg.inService
    tile = true) ∧ (s.pkg.hasPort tile port = true) ∧ (s.pkg.linkUp tile port = true) ∧ (macPort tile port = true) ∧ (s.noEthWaits) ∧ ((port < 16 → f.part
    = .express)) ∧ (s.pkg.macFault tile port f = 0) ∧ (beAt f.bytes 12 2 ≠ 0x8808) ∧ ((port < 16 → s.pkg.on tile (fRxMsEnable port) = false)) ∧ ((∀ e ∈
    ((s.pkg.reach at_).drawTurn tile).drew, (s.pkg.frame e.2).charge.port < 28)) ∧ (((s.pkg.reach at_).takeTurn tile port (arrivalClass port f) (cellsOf
    (f.bytes.length + 4))).drawable tile port (arrivalClass port f) (cellsOf (f.bytes.length + 4)) = some d) ∧ (s.pkg.admits tile = false) :=
  ⟨(0), (0), (1000), ({ bytes := zeros 60, fcsOk := true }), (stOf (swPkg.put 0 fKsState 2)), ((⟨0, 1, 0⟩ : AcctUse)), by decide +kernel⟩
theorem witness_FrameReceiveEffects_3 : ∃ tile : Nat, ∃ port : Nat, ∃ f : RxFrame, ∃ s : State, ∃ n, (tile < 7) ∧ (port < 28) ∧ (s.pkg.inService tile = true) ∧
    (s.pkg.hasPort tile port = true) ∧ (s.pkg.linkUp tile port = true) ∧ (macPort tile port = true) ∧ (s.noEthWaits) ∧ (port < 16) ∧ (f.part = .start n false)
    ∧ (s.pkg.on tile (fMergeEn port) = true) ∧ ((s.pkg.port tile port).asm = none) :=
  ⟨(0), (0), ({ bytes := zeros 60, fcsOk := true, part := .start 2 false }), (stOf (swPkg.put 0 (fMergeEn 0) 1)), ((2 : Nat)), by decide +kernel⟩
theorem witness_FrameReceiveEffects_4 : ∃ tile : Nat, ∃ port : Nat, ∃ f : RxFrame, ∃ s : State, ∃ n, ∃ k, ∃ last, (tile < 7) ∧ (port < 28) ∧ (s.pkg.inService
    tile = true) ∧ (s.pkg.hasPort tile port = true) ∧ (s.pkg.linkUp tile port = true) ∧ (macPort tile port = true) ∧ (s.noEthWaits) ∧ (port < 16) ∧ (f.part
    = .more n k last) ∧ (s.pkg.on tile (fMergeEn port) = true) ∧ ((s.pkg.port tile port).asm = none) :=
  ⟨(0), (0), ({ bytes := zeros 60, part := .more 2 0 false }), (stOf (swPkg.put 0 (fMergeEn 0) 1)), ((2 : Nat)), ((0 : Nat)), (false), by decide +kernel⟩
theorem witness_RecirculationAndEnqueue_0 : ∃ tile : Nat, ∃ r : Recirc, ∃ l : List Recirc, ∃ s : State, (s.pkg.inService tile = true) ∧ (s.pkg.ksState tile ≠
    3) ∧ (s.noEthWaits) ∧ (s.pkg.recircReady tile = r :: l) ∧ (1 ≤ (s.pkg.frame r.frame).refs) ∧ ((s.pkg.parse tile r.bytes).frag = none) ∧ (s.pkg.verdictAct
    tile (s.pkg.parse tile r.bytes).verdict = 1) :=
  ⟨(0), ({ tile := 0, frame := 7, bytes := zeros 60, tag := 3, info := {} }), ([]), (stOf ((held7.setFrame 7
      { rec7 with charge := { kind := .recirc, min := 1 } }).onSw (fun w =>
      { w with recirc := [{ tile := 0, frame := 7, bytes := zeros 60, tag := 3, info := {} }] }))), by decide +kernel⟩
theorem witness_RecirculationAndEnqueue_1 : ∃ tile : Nat, ∃ id : Nat, ∃ c : Copy, ∃ s : State, (s.pkg.waitingCopy id = some c) ∧ (c.tile = tile) ∧
    (s.pkg.inService tile = true) ∧ (s.pkg.firstWaiting c = true) ∧ (s.pkg.crossed c = true) ∧ (c.bad = false) ∧ (s.noEthWaits) ∧ ((s.pkg.frame c.frame).up
    = none) ∧ (s.pkg.linkUp tile c.port = false) ∧ (c.mc = false) :=
  ⟨(0), (5), (copy5), (stOf ((withWaiting held7 copy5).put 0 (fLinkUp 1) 0)), by decide +kernel⟩
theorem witness_RecirculationAndEnqueue_2 : ∃ tile : Nat, ∃ id : Nat, ∃ c : Copy, ∃ s : State, (s.pkg.waitingCopy id = some c) ∧ (c.tile = tile) ∧
    (s.pkg.inService tile = true) ∧ (s.pkg.firstWaiting c = true) ∧ (s.pkg.crossed c = true) ∧ (c.bad = false) ∧ (s.noEthWaits) ∧ ((s.pkg.frame c.frame).up
    = none) ∧ (s.pkg.linkUp tile c.port = true) ∧ (s.pkg.ctrlPortDown tile c.port c.edited.bytes = false) ∧ (s.pkg.stalledQ tile c.port c.q = true) :=
  ⟨(0), (5), (copy5), (stOf ((withWaiting held7 copy5).put 0 (fStalled 1) 4)), by decide +kernel⟩
theorem witness_RecirculationAndEnqueue_3 : ∃ tile : Nat, ∃ id : Nat, ∃ c : Copy, ∃ s : State, (s.pkg.waitingCopy id = some c) ∧ (c.tile = tile) ∧
    (s.pkg.inService tile = true) ∧ (s.pkg.firstWaiting c = true) ∧ (s.pkg.crossed c = true) ∧ (c.bad = false) ∧ (s.noEthWaits) ∧ ((s.pkg.frame c.frame).up
    = none) ∧ (s.pkg.linkUp tile c.port = true) ∧ (s.pkg.ctrlPortDown tile c.port c.edited.bytes = false) ∧ (s.pkg.stalledQ tile c.port c.q = false) ∧
    (s.pkg.atLimit tile c.port c.q = false) ∧ (c.rcvy = none) :=
  ⟨(0), (5), (copy5), (stOf (withWaiting held7 copy5)), by decide +kernel⟩
theorem witness_ConnectionCommands_0 : ∃ a : Acc, ∃ tile : Nat, ∃ s : State, ∃ i, (tile < 7) ∧ (s.pkg.reaches a.req tile 0x400060 1) ∧ (fieldGet (s.pkg.ctData
    tile 3) 18 16 < 4) ∧ (s.pkg.ctFind tile (s.pkg.ctDataKey tile) = some i) :=
  ⟨(byFw), (0), (stOf ctFull), (ctSlot), by decide +kernel⟩
theorem witness_ConnectionCommands_1 : ∃ a : Acc, ∃ tile : Nat, ∃ s : State, (tile < 7) ∧ (s.pkg.reaches a.req tile 0x400060 1) ∧ (fieldGet (s.pkg.ctData tile
    3) 18 16 < 4) ∧ (s.pkg.ctFind tile (s.pkg.ctDataKey tile) = none) ∧ (s.pkg.ctPlace tile (s.pkg.ctDataKey tile) = none) :=
  ⟨(byFw), (0), (stOf ctNone), by decide +kernel⟩
theorem witness_ConnectionCommands_2 : ∃ a : Acc, ∃ tile : Nat, ∃ s : State, ∃ i, (tile < 7) ∧ (s.pkg.reaches a.req tile 0x400060 1) ∧ (fieldGet (s.pkg.ctData
    tile 3) 18 16 < 4) ∧ (s.pkg.ctFind tile (s.pkg.ctDataKey tile) = none) ∧ (s.pkg.ctPlace tile (s.pkg.ctDataKey tile) = some i) :=
  ⟨(byFw), (0), (stOf ctPkg), (ctSlot), by decide +kernel⟩
theorem witness_ConnectionCommands_3 : ∃ a : Acc, ∃ tile : Nat, ∃ s : State, ∃ i, (tile < 7) ∧ (s.pkg.reaches a.req tile 0x400060 2) ∧ (s.pkg.ctFind tile
    (s.pkg.ctDataKey tile) = some i) :=
  ⟨(byFw), (0), (stOf ctFull), (ctSlot), by decide +kernel⟩
theorem witness_ConnectionCommands_4 : ∃ a : Acc, ∃ tile : Nat, ∃ s : State, (tile < 7) ∧ (s.pkg.reaches a.req tile 0x400060 2) ∧ (s.pkg.ctFind tile
    (s.pkg.ctDataKey tile) = none) :=
  ⟨(byFw), (0), (stOf ctPkg), by decide +kernel⟩
theorem witness_ConnectionCommands_5 : ∃ a : Acc, ∃ tile : Nat, ∃ s : State, ∃ i, (tile < 7) ∧ (s.pkg.reaches a.req tile 0x400060 3) ∧ (s.pkg.ctFind tile
    (s.pkg.ctDataKey tile) = some i) :=
  ⟨(byFw), (0), (stOf ctFull), (ctSlot), by decide +kernel⟩
theorem witness_ConnectionCommands_6 : ∃ a : Acc, ∃ tile : Nat, ∃ s : State, (tile < 7) ∧ (s.pkg.reaches a.req tile 0x400060 3) ∧ (s.pkg.ctFind tile
    (s.pkg.ctDataKey tile) = none) :=
  ⟨(byFw), (0), (stOf ctPkg), by decide +kernel⟩
theorem witness_AgingAndFragments_0 : ∃ tile : Nat, ∃ n : Nat, ∃ i : Nat, ∃ s : State, (s.pkg.tileOn tile = true) ∧ (s.pkg.ctValid tile i = true) ∧ ((i = n %
    65536 ∨ (i = n % 65536 + 1 ∧ s.pkg.ctEven tile (n % 65536) = true))) ∧ (¬ (fieldGet (s.pkg.ctWord tile i 3) 20 20 = 1)) ∧ ((s.pkg.ctTimeout tile (fieldGet
    (s.pkg.ctWord tile i 3) 7 0) (s.pkg.ctState tile i) * 1000000000) < ((n * 1000 + 2 ^ 52 - (s.pkg.ctWord tile i 4).toNat * 2 ^ 20) % 2 ^ 52)) :=
  ⟨(0), (700000003), (700000003 % 65536), (stOf agePkg), by decide +kernel⟩
theorem witness_AgingAndFragments_1 : ∃ tile : Nat, ∃ n : Nat, ∃ i : Nat, ∃ s : State, (s.pkg.tileOn tile = true) ∧ (s.pkg.ctValid tile i = true) ∧ ((i = n %
    65536 ∨ (i = n % 65536 + 1 ∧ s.pkg.ctEven tile (n % 65536) = true))) ∧ (((fieldGet (s.pkg.ctWord tile i 3) 20 20 = 1) ∨ ((n * 1000 + 2 ^ 52 - (s.pkg.ctWord
    tile i 4).toNat * 2 ^ 20) % 2 ^ 52) ≤ (s.pkg.ctTimeout tile (fieldGet (s.pkg.ctWord tile i 3) 7 0) (s.pkg.ctState tile i) * 1000000000))) :=
  ⟨(0), (700000003), (700000003 % 65536), (stOf (agePkg.setCtWord 0 (700000003 % 65536) 3 0x00110006)), by decide +kernel⟩
theorem witness_AgingAndFragments_2 : ∃ tile : Nat, ∃ idx : Nat, ∃ e : FragEntry, ∃ s : State, (s.pkg.tileOn tile = true) ∧ (s.pkg.fragEntry tile idx = some
    e) :=
  ⟨(0), (3), ({ key := [1], act := {}, dests := [1], mc := false, epoch := 0, count := 10, fin := none, born := 5 }), (stOf ((upPkg.put 0 fFragUsed 1).onSw
      (fun w => { w with frags := [(3, some { key := [1], act := {}, dests := [1], mc := false, epoch := 0, count := 10, fin := none, born := 5 })] }))), by
      decide +kernel⟩
theorem witness_CrossAndTransmit_0 : ∃ tile : Nat, ∃ src : Nat, ∃ tc : Nat, ∃ cells : Nat, ∃ id : Nat, ∃ u : Nat, ∃ f : FrameRec, ∃ s : State, (s.pkg.inService
    tile = true) ∧ (s.pkg.inService src = true) ∧ (s.pkg.pairUp tile src = true) ∧ (tile ≠ src) ∧ (s.pkg.needsCredit tile src tc = some (id, f)) ∧ (f.up = some
    u) ∧ (u ≠ id) ∧ ((s.pkg.frame u).up = none) ∧ (f.tile = tile) ∧ ((∀ c ∈ s.pkg.charges u, c.2.kind ≠ .span)) ∧ ((∀ c ∈ s.pkg.sw.waiting, c.frame = id →
    s.pkg.queueFull tile c.port c.q c.cells = false)) ∧ (s.noEthWaits) ∧ (min cells (f.cells - f.got) - min (min cells (f.cells - f.got)) (s.pkg.get tile
    (fSpanMin f.charge.port tc) - s.pkg.spanMinUsed tile f.charge.port tc) ≤ s.pkg.freeShared tile) :=
  ⟨(1), (0), (2), (3), (8), (7), ({ tile := 1, src := 0, cells := 3, refs := 1, up := some 7, charge := { kind := .span, port := 0, tc := 2 }, tc := 2, origin := some 7 }), (stOf ((withWaiting held7 { copy5 with tile := 1, port := 2, frame := 8 }).setFrame 8 { tile := 1, src := 0, cells := 3, refs := 1, up := some 7, charge := { kind := .span, port := 0, tc := 2 }, tc := 2, origin := some 7 })), by decide +kernel⟩
theorem witness_CrossAndTransmit_1 : ∃ tile : Nat, ∃ port : Nat, ∃ at_ : Nat, ∃ s : State, (s.pkg.inService tile = true) ∧ (s.pkg.hasPort tile port = true) ∧
    (s.pkg.linkUp tile port = true) ∧ (port ≠ 23) ∧ (s.pkg.ksState tile ≠ 3) ∧ ((s.pkg.port tile port).tx = none) ∧ ((s.pkg.port tile port).susp = none) ∧
    (s.noEthWaits) ∧ ((∀ q < 8, ((s.pkg.reach at_).reachFrac (s.pkg.port tile port).busyTill).ready tile port q = false)) :=
  ⟨(0), (1), (1000), (sw), by decide +kernel⟩
theorem witness_CrossAndTransmit_2 : ∃ tile : Nat, ∃ port : Nat, ∃ at_ : Nat, ∃ s : State, ∃ q : Nat, ∃ c : Copy, ∃ l : List Copy, (s.pkg.inService tile
    = true) ∧ (s.pkg.hasPort tile port = true) ∧ (s.pkg.linkUp tile port = true) ∧ (port ≠ 23) ∧ (s.pkg.ksState tile ≠ 3) ∧ ((s.pkg.port tile port).tx = none)
    ∧ ((s.pkg.port tile port).susp = none) ∧ (s.noEthWaits) ∧ (q < 8) ∧ (s.pkg.queue tile port q = c :: l) ∧ (c.tile = tile) ∧ (c.port = port) ∧ (c.loc
    = .chip) ∧ ((∀ x < 8, ((s.pkg.reach at_).reachFrac (s.pkg.port tile port).busyTill).ready tile port x = decide (x = q))) ∧ (((s.pkg.reach at_).reachFrac
    (s.pkg.port tile port).busyTill).guardOk c = true) ∧ (s.pkg.on tile (fDrr port q) = false) :=
  ⟨(0), (1), (1000), (stOf (held7.setQueue 0 1 2 [copy5])), (2), (copy5), ([]), by decide +kernel⟩
theorem witness_CrossAndTransmit_3 : ∃ tile : Nat, ∃ port : Nat, ∃ at_ : Nat, ∃ s : State, ∃ q : Nat, ∃ c : Copy, ∃ l : List Copy, (s.pkg.inService tile
    = true) ∧ (s.pkg.hasPort tile port = true) ∧ (s.pkg.linkUp tile port = true) ∧ (port ≠ 23) ∧ (s.pkg.ksState tile ≠ 3) ∧ ((s.pkg.port tile port).tx = none)
    ∧ ((s.pkg.port tile port).susp = none) ∧ (s.noEthWaits) ∧ (q < 8) ∧ (s.pkg.queue tile port q = c :: l) ∧ (c.tile = tile) ∧ (c.port = port) ∧ (c.loc
    = .chip) ∧ ((∀ x < 8, ((s.pkg.reach at_).reachFrac (s.pkg.port tile port).busyTill).ready tile port x = decide (x = q))) ∧ (((s.pkg.reach at_).reachFrac
    (s.pkg.port tile port).busyTill).guardOk c = true) ∧ (s.pkg.on tile (fDrr port q) = false) ∧ (s.pkg.oversize c c.edited.bytes.length = false) ∧
    (s.pkg.ctrlPortDown tile port c.edited.bytes = false) ∧ (c.info.tsReq = false) ∧ (s.pkg.on tile (fMirTxEn port) = false) ∧ ((port < 16 → s.pkg.on tile
    (fTxMsEnable port) = false)) :=
  ⟨(0), (1), (1000), (stOf (held7.setQueue 0 1 2 [copy5])), (2), (copy5), ([]), by decide +kernel⟩
theorem witness_CrossAndTransmit_4 : ∃ tile : Nat, ∃ port : Nat, ∃ x : Tx, ∃ s : State, ((s.pkg.port tile port).tx = some x) ∧ (macPort tile port = true) ∧
    (x.copy.kind = .fwd) ∧ (x.copy.bad = false) ∧ (x.copy.mc = false) ∧ ((s.pkg.frame x.copy.frame).up = none) ∧ (s.noEthWaits) :=
  ⟨(0), (1), ({ copy := copy5, bytes := zeros 60, start := 0, left := 84, express := true }), (stOf (held7.setPort 0 1
      { tx := some { copy := copy5, bytes := zeros 60, start := 0, left := 84, express := true } })), by decide +kernel⟩
theorem witness_PauseAndWatchdog_0 : ∃ tile : Nat, ∃ port : Nat, ∃ at_ : Nat, ∃ s : State, (tile < 7) ∧ (port < 28) ∧ (s.pkg.tileOn tile = true) ∧ (macPort
    tile port = true) ∧ (s.pkg.hasPort tile port = true) ∧ (s.pkg.linkUp tile port = true) ∧ ((∀ c < 8, (s.pkg.holdsXoff tile port c && s.pkg.pfcClass tile
    port c) = false)) ∧ (s.pkg.pauseHeld tile port = true) ∧ ((s.pkg.reach at_).refreshDue tile port 8 = true) :=
  ⟨(0), (0), (100000000), (stOf ((swPkg.put 0 (fPauseTx 0) 1).put 0 (fXoffTx 0) 4)), by decide +kernel⟩
theorem witness_PauseAndWatchdog_1 : ∃ tile : Nat, ∃ port : Nat, ∃ at_ : Nat, ∃ s : State, ∃ c, (tile < 7) ∧ (port < 28) ∧ (s.pkg.tileOn tile = true) ∧
    (macPort tile port = true) ∧ (s.pkg.hasPort tile port = true) ∧ (s.pkg.linkUp tile port = true) ∧ (c < 8) ∧ ((∀ x < 8, (s.pkg.holdsXoff tile port x &&
    s.pkg.pfcClass tile port x) = decide (x = c))) ∧ (s.pkg.pauseHeld tile port = false) ∧ (s.pkg.windowFresh tile c = false) ∧ ((s.pkg.reach at_).refreshDue
    tile port c = true) :=
  ⟨(0), (0), (100000000), (stOf (((swPkg.put 0 (fPauseTx 0) 1).put 0 (fPfcTx 0) 8).put 0 (fXoffTx 0) 8)), ((3 : Nat)), by decide +kernel⟩
theorem witness_PauseAndWatchdog_2 : ∃ tile : Nat, ∃ port : Nat, ∃ s : State, (tile < 7) ∧ (port < 28) ∧ (s.pkg.tileOn tile = true) ∧ (macPort tile port
    = true) ∧ (s.pkg.hasPort tile port = true) ∧ (s.pkg.linkUp tile port = true) :=
  ⟨(0), (0), (stOf ((swPkg.put 0 (fPfcRx 0) 0x3C).put 0 (fPausedRx 0) 0x81)), by decide +kernel⟩
theorem witness_PauseAndWatchdog_3 : ∃ tile : Nat, ∃ port : Nat, ∃ s : State, (tile < 7) ∧ (port < 28) ∧ (s.pkg.tileOn tile = true) ∧ (macPort tile port
    = true) ∧ (s.pkg.hasPort tile port = true) ∧ (s.pkg.linkUp tile port = true) :=
  ⟨(0), (0), (stOf (swPkg.put 0 (fPauseRx 0) 1)), by decide +kernel⟩
theorem witness_PauseAndWatchdog_4 : ∃ tile : Nat, ∃ port : Nat, ∃ queue : Nat, ∃ s : State, (tile < 7) ∧ (port < 28) ∧ (queue < 8) ∧ (s.pkg.tileOn tile
    = true) ∧ (s.pkg.pausedQ tile port queue = true) :=
  ⟨(0), (0), (2), (stOf ((swPkg.put 0 (fPausedRx 0) 4).setQst 0 0 2 { paused := 5000 })), by decide +kernel⟩
theorem witness_PauseAndWatchdog_5 : ∃ tile : Nat, ∃ port : Nat, ∃ queue : Nat, ∃ s : State, (tile < 7) ∧ (port < 28) ∧ (queue < 8) ∧ (s.pkg.tileOn tile
    = true) ∧ (port ≠ 16) ∧ ((s.pkg.qst tile port queue).paused ≤ s.pkg.stallAt tile port queue) ∧ (s.noEthWaits) :=
  ⟨(0), (0), (2), (stOf (((swPkg.put 0 (fPausedRx 0) 4).put 0 fWdEnable 1).setQst 0 0 2 { paused := 5000, wdSince := 9 })), by decide +kernel⟩
theorem witness_PauseAndWatchdog_6 : ∃ tile : Nat, ∃ port : Nat, ∃ queue : Nat, ∃ s : State, (tile < 7) ∧ (port < 28) ∧ (queue < 8) ∧ (s.pkg.tileOn tile
    = true) ∧ (s.pkg.on tile fWdEnable = true) ∧ ((s.pkg.qst tile port queue).wdSince ≠ 0) ∧ (s.pkg.stalledQ tile port queue = false) ∧ (s.noEthWaits) ∧ ((port
    = 16 ∨ s.pkg.stallAt tile port queue < (s.pkg.qst tile port queue).paused)) :=
  ⟨(0), (0), (2), (stOf (((swPkg.put 0 (fPausedRx 0) 4).put 0 fWdEnable 1).setQst 0 0 2 { paused := 10 ^ 18, wdSince := 9 })), by decide +kernel⟩
theorem witness_OverflowHoldAndShapers_0 : ∃ tile : Nat, ∃ port : Nat, ∃ queue : Nat, ∃ c : Copy, ∃ s : State, (tile < 7) ∧ (port < 28) ∧ (queue < 8) ∧
    (s.pkg.tileOn tile = true) ∧ (s.noEthWaits) ∧ ((s.pkg.queue tile port queue).find? (fun c => c.loc == .toSpill) = some c) ∧ (s.pkg.ovfRoom tile port queue
    c.cells = true) ∧ (s.pkg.maySpill tile port queue = true) ∧ ((s.pkg.frame c.frame).up = none) :=
  ⟨(0), (1), (2), ({ copy5 with loc := .toSpill }), (stOf ((((((held7.put 0 fOvfPresent 1).put 0 (fSpillEn 1 2) 1).put 0 (fSpillMax 1 2) 10).put 0 fOvfCells
      100).setQueue 0 1 2 [{ copy5 with loc := .toSpill }]))), by decide +kernel⟩
theorem witness_OverflowHoldAndShapers_1 : ∃ tile : Nat, ∃ port : Nat, ∃ queue : Nat, ∃ c : Copy, ∃ s : State, (tile < 7) ∧ (port < 28) ∧ (queue < 8) ∧
    (s.pkg.tileOn tile = true) ∧ (s.noEthWaits) ∧ ((s.pkg.queue tile port queue).find? (fun c => c.loc == .ovf) = some c) ∧ (((List.range 8).map (fun q =>
    cellsIn (s.pkg.queue tile port q) (fun l => l == .back))).sum = 0) :=
  ⟨(0), (1), (2), ({ copy5 with loc := .ovf }), (stOf ((swPkg.setPool 0 { ovf := 1 }).setQueue 0 1 2 [{ copy5 with loc := .ovf }])), by decide +kernel⟩
theorem witness_OverflowHoldAndShapers_3 : ∃ tile : Nat, ∃ id : Nat, ∃ c : Copy, ∃ s : State, (s.pkg.waitingCopy id = some c) ∧ (c.tile = tile) ∧ (c.mc = true)
    ∧ (s.noEthWaits) ∧ ((s.pkg.frame c.frame).up = none) :=
  ⟨(0), (5), ({ copy5 with mc := true }), (stOf (withWaiting held7 { copy5 with mc := true })), by decide +kernel⟩
theorem witness_OverflowHoldAndShapers_4 : ∃ tile : Nat, ∃ port : Nat, ∃ queue : Nat, ∃ s : State, (s.pkg.inService tile = true) ∧ (s.pkg.hasPort tile port
    = true) ∧ (s.pkg.get tile (fRate port queue) ≠ 0) ∧ (s.pkg.creditNow tile port queue < 0) ∧ (s.pkg.sending tile port queue = false) ∧ ((s.pkg.get tile
    (fShaper port queue) = 1 ∨ (s.pkg.get tile (fShaper port queue) = 2 ∧ s.pkg.gateBit tile port queue = true ∧ s.pkg.pausedQ tile port queue = false ∧
    s.pkg.heldQ tile port queue = false))) :=
  ⟨(0), (1), (2), (stOf ((((swPkg.put 0 (fRate 1 2) 10000).put 0 (fShaper 1 2) 1).put 0 (fBurst 1 2) 1000).setQst 0 1 2 { credit := -5000000 })), by
      decide +kernel⟩
theorem witness_LinksAndGates_0 : ∃ tile : Nat, ∃ port : Nat, ∃ s : State, (tile < 7) ∧ (port < 28) ∧ (s.pkg.tileOn tile = true) ∧ (macPort tile port = true) ∧
    (s.pkg.hasPort tile port = true) ∧ (s.pkg.on tile (fLinkUp port) = true) ∧ (s.noEthWaits) :=
  ⟨(0), (1), (stOf (held7.setQueue 0 1 2 [copy5])), by decide +kernel⟩
theorem witness_LinksAndGates_1 : ∃ tile : Nat, ∃ port : Nat, ∃ s : State, (tile < 7) ∧ (port < 28) ∧ (s.pkg.tileOn tile = true) ∧ (macPort tile port = true) ∧
    (s.pkg.hasPort tile port = true) ∧ (s.pkg.on tile (fLinkUp port) = false) :=
  ⟨(0), (1), (stOf ((swPkg.put 0 (fLinkUp 1) 0).put 0 (fPortMode 1) 1)), by decide +kernel⟩
theorem witness_LinksAndGates_2 : ∃ tile : Nat, ∃ port : Nat, ∃ at_ : Nat, ∃ s : State, (tile < 7) ∧ (port < 16) ∧ (s.pkg.inService tile = true) ∧
    (s.pkg.hasPort tile port = true) ∧ (s.pkg.linkUp tile port = true) ∧ (s.pkg.on tile (fMergeEn port) = true) ∧ (s.pkg.on tile (fVerifyDis port) = false) ∧
    (s.pkg.get tile (fVerify port) = 1) ∧ (((s.pkg.port tile port).attempts = 0 ∨ (s.pkg.port tile port).triedAt + ns 10000000 ≤ max s.pkg.now (ns at_))) :=
  ⟨(0), (1), (1000), (stOf ((swPkg.put 0 (fMergeEn 1) 1).put 0 (fVerify 1) 1)), by decide +kernel⟩
theorem witness_LinksAndGates_3 : ∃ tile : Nat, ∃ port : Nat, ∃ at_ : Nat, ∃ x : GateSpan, ∃ s : State, (tile < 7) ∧ (port < 16) ∧ (s.pkg.inService tile
    = true) ∧ (s.pkg.hasPort tile port = true) ∧ (s.pkg.on tile (fGateEn port) = true) ∧ (((s.pkg.reach at_).gateList tile port).now ((s.pkg.reach at_).count
    tile) = some x) ∧ ((∀ q < 8, s.pkg.windowFresh tile q = false)) :=
  ⟨(0), (1), (1000), ⟨0, 1000, 0xA5, 0, 0⟩, (stOf ((((swPkg.put 0 (fGateEn 1) 1).put 0 (fGclLen 1) 1).put 0 (fGclCycle 1) 1000).wr 0 0x3642000 0x0A5)), by
      decide +kernel⟩
theorem witness_LinksAndGates_4 : ∃ tile : Nat, ∃ gate : Nat, ∃ s : State, (s.pkg.inService tile = true) ∧ (gate < 64) ∧ (fieldGet (s.pkg.sgHead tile gate 0)
    31 31 = 1) :=
  ⟨(0), (63), (stOf (upPkg.wr 0 (0x3620000 + 16 * 63) 0x80000000)), by decide +kernel⟩
theorem witness_TimeControlsAndSampler_0 : ∃ tile : Nat, ∃ fn : Nat, ∃ s : State, (s.pkg.tileOn tile = true) ∧ (fn < 256) ∧ (fieldGet (s.pkg.recovWord tile fn
    0) 31 31 = 1) ∧ ((s.pkg.recovSt tile fn).fresh = false) :=
  ⟨(1), (255), (stOf ((upPkg.wr 1 (0x3660000 + 32 * 255) 0x80000000).setRecovSt 1 255 { fresh := false, num := 5, seen := [5], passAt := 100 })), by
      decide +kernel⟩
theorem witness_TimeControlsAndSampler_1 : ∃ a : Acc, ∃ tile : Nat, ∃ v : Word, ∃ s : State, (tile < 7) ∧ (s.pkg.reaches a.req tile 0xC00240 v) :=
  ⟨(byFw), (0), (0x83), (stOf (upPkg.put 0 ⟨0x3670000 + 4 * 0x83, 15, 0⟩ 77)), by decide +kernel⟩
theorem witness_TimeControlsAndSampler_2 : ∃ a : Acc, ∃ tile : Nat, ∃ s : State, ∃ x : TxStamp, ∃ l : List TxStamp, (tile < 7) ∧ (s.pkg.leaves a.req) ∧
    (s.pkg.accessErr a.req (pkgAddr tile 0x100110) = 0) ∧ (s.pkg.queueAt tile = []) ∧ (SMap.get [] s.pkg.sw.stamps tile = x :: l) :=
  ⟨(byFw), (0), (stOf (upPkg.onSw (fun w => { w with stamps := [(0, [⟨5, 0, 1, 0, 123456789⟩])] }))), ⟨5, 0, 1, 0, 123456789⟩, ([]), by decide +kernel⟩
theorem witness_TimeControlsAndSampler_3 : ∃ a : Acc, ∃ tile : Nat, ∃ v : Word, ∃ s : State, (tile < 7) ∧ (s.pkg.reaches a.req tile 0x100100 v) ∧ (tile
    = s.pkg.ref) ∧ ((sgn32 v).natAbs ≤ 2147483) :=
  ⟨(byFw), (0), (100), (up), by decide +kernel⟩
theorem witness_TimeControlsAndSampler_4 : ∃ a : Acc, ∃ tile : Nat, ∃ v : Word, ∃ s : State, (tile < 7) ∧ (s.pkg.reaches a.req tile 0x100100 v) ∧ (tile ≠
    s.pkg.ref) :=
  ⟨(byFw), (1), (100), (up), by decide +kernel⟩
theorem witness_TimeControlsAndSampler_5 : ∃ a : Acc, ∃ tile : Nat, ∃ v : Word, ∃ s : State, (tile < 7) ∧ (s.pkg.reaches a.req tile 0x100104 v) ∧ (tile
    = s.pkg.ref) ∧ (((s.pkg.reach a.at_).phaseNow tile + sgn32 v * 65536).natAbs ≤ 65536000000000) :=
  ⟨(byFw), (0), (-5000), (up), by decide +kernel⟩
theorem witness_TimeControlsAndSampler_6 : ∃ a : Acc, ∃ tile : Nat, ∃ v : Word, ∃ s : State, (tile < 7) ∧ (s.pkg.reaches a.req tile 0x100104 v) ∧ (tile ≠
    s.pkg.ref) :=
  ⟨(byFw), (1), (-5000), (up), by decide +kernel⟩
theorem witness_TimeControlsAndSampler_7 : ∃ tile : Nat, ∃ p : Nat, ∃ q : Nat, ∃ s : State, (s.pkg.inService tile = true) ∧ (s.pkg.on tile fSampEn = true) ∧ (p
    < 28) ∧ (q < 8) ∧ ((∀ x < 28, ∀ y < 8, (s.pkg.get tile (fSampSel x)).testBit y = decide (x = p ∧ y = q))) ∧ ((s.pkg.get tile fSampProd + 1) % 4096 ≠
    s.pkg.get tile fSampCons) :=
  ⟨(0), (1), (2), (stOf ((held7.setQueue 0 1 2 [copy5]).put 0 fSampEn 1 |>.put 0 (fSampSel 1) 4)), by decide +kernel⟩
theorem witness_BusFramesAndErrors_0 : ∃ m : BusMsg, ∃ s : State, (s.pkg.pathUp 15 s.pkg.steward = true) ∧ (s.pkg.inService s.pkg.steward = true) ∧
    (s.pkg.pausing = false) ∧ (m.bus < 12) ∧ (s.pkg.canListens m.bus = true) ∧ (s.pkg.get 15 (fRing m.bus) ≠ rPrepare) :=
  ⟨({ bus := 3, id := 0x123, fmt := 0, payload := [1#8, 2#8, 3#8, 4#8] }), (bus), by decide +kernel⟩
theorem witness_BusFramesAndErrors_1 : ∃ m : BusMsg, ∃ s : State, (s.pkg.pathUp 15 s.pkg.steward = true) ∧ (s.pkg.inService s.pkg.steward = true) ∧
    (s.pkg.pausing = false) ∧ (16 ≤ m.bus) ∧ (m.bus < 22) ∧ (s.pkg.linUp (m.bus - 16) = true) ∧ (fieldGet (s.pkg.linFrame (m.bus - 16) m.id) 31 31 = 1) ∧
    (fieldGet (s.pkg.linFrame (m.bus - 16) m.id) 6 6 = 1) :=
  ⟨({ bus := 18, id := 5, fmt := 3, payload := [1#8, 2#8, 3#8, 4#8] }), (stOf (busPkg.wr 15 (0x44000 + 0x100 * 2 + 4 * 5) 0x80000040)), by decide +kernel⟩
theorem witness_BusFramesAndErrors_2 : ∃ m : BusMsg, ∃ s : State, (s.pkg.pathUp 15 s.pkg.steward = true) ∧ (s.pkg.inService s.pkg.steward = true) ∧
    (s.pkg.pausing = false) ∧ ((m.bus = 24 ∨ m.bus = 25)) ∧ (s.pkg.on 15 fFrEnable = true) ∧ ((s.pkg.get 15 fFrPoc = 3 ∨ s.pkg.get 15 fFrPoc = 4)) :=
  ⟨({ bus := 24, id := 5, fmt := 4, payload := [1#8, 2#8, 3#8, 4#8] }), (bus), by decide +kernel⟩
theorem witness_BusFramesAndErrors_3 : ∃ e : BusErr, ∃ s : State, (e.bus < 12) ∧ (s.pkg.canListens e.bus = true) ∧ (e.tx = false) :=
  ⟨⟨3, 1, false⟩, (bus), by decide +kernel⟩
theorem witness_BusFramesAndErrors_4 : ∃ e : BusErr, ∃ s : State, (e.bus < 12) ∧ (s.pkg.canListens e.bus = true) ∧ (e.tx = true) ∧ (e.kind ≠ 3) :=
  ⟨⟨3, 1, true⟩, (bus), by decide +kernel⟩
theorem witness_BusFramesAndErrors_5 : ∃ e : BusErr, ∃ s : State, (16 ≤ e.bus) ∧ (e.bus < 22) ∧ (s.pkg.linUp (e.bus - 16) = true) :=
  ⟨⟨18, 0, false⟩, (bus), by decide +kernel⟩
theorem witness_BusFramesAndErrors_6 : ∃ e : BusErr, ∃ s : State, ((e.bus = 24 ∨ e.bus = 25)) ∧ (s.pkg.on 15 fFrEnable = true) :=
  ⟨⟨25, 1, false⟩, (bus), by decide +kernel⟩
theorem witness_BusFramesAndErrors_7 : ∃ ch : Nat, ∃ s : State, ∃ e, (ch < 12) ∧ (s.pkg.canSends ch = true) ∧ ((s.pkg.busQueue ch).find? (·.started) = some
    e) :=
  ⟨(3), (stOf (busPkg.setBusQueue 3 [{ id := 1, msg := msgOn 3, started := true }])), (({ id := 1, msg := msgOn 3, started := true } : Posted)), by
      decide +kernel⟩
theorem witness_BusFramesAndErrors_8 : ∃ ch : Nat, ∃ s : State, (ch < 12) ∧ (s.pkg.canListens ch = true) :=
  ⟨(3), (bus), by decide +kernel⟩
theorem witness_BusFramesAndErrors_9 : ∃ ch : Nat, ∃ s : State, (ch < 12) ∧ (s.pkg.get 15 (fCanState ch) = 2) ∧ (s.pkg.on 15 (fCanAuto ch) = true) :=
  ⟨(3), (stOf ((busPkg.put 15 (fCanState 3) 2).put 15 (fCanAuto 3) 1)), by decide +kernel⟩
theorem witness_BusFramesAndErrors_10 : ∃ ch : Nat, ∃ s : State, ∃ a : Acc, ∃ v : Word, (ch < 12) ∧ (s.pkg.get 15 (fCanState ch) = 2) ∧ (s.pkg.reaches a.req 15
    (0x40014 + 0x100 * ch) v) ∧ (v.getLsbD 0 = true) :=
  ⟨(3), (stOf ((busPkg.put 15 (fCanState 3) 2).put 15 (fCanTec 3) 255)), (byFw), (1), by decide +kernel⟩
theorem witness_TrestleInputs_0 : ∃ tile : Nat, ∃ m : Msg, ∃ x : TrestleSt, ∃ s : State, (s.pkg.trActive tile = true) ∧ (s.pkg.admits tile = true) ∧
    ((s.pkg.trestle tile).engine.length < 512) ∧ ((s.pkg.trestle tile).pick = some (m, x)) ∧ (m.src < 32) ∧ (m.stream < 256) ∧ (s.noEthWaits) ∧
    (s.pkg.srcPermitted tile m = false) :=
  ⟨(0), (msgOn 3), ({ last := 3 }), (stOf ((busPkg.setTrestle 0 { inq := [(3, [msgOn 3])] }).wr 0 oSrcFilter 8)), by decide +kernel⟩
theorem witness_TrestleInputs_1 : ∃ tile : Nat, ∃ m : Msg, ∃ x : TrestleSt, ∃ s : State, (s.pkg.trActive tile = true) ∧ (s.pkg.admits tile = true) ∧
    ((s.pkg.trestle tile).engine.length < 512) ∧ ((s.pkg.trestle tile).pick = some (m, x)) ∧ (m.src < 32) ∧ (m.stream < 256) ∧ (s.noEthWaits) ∧
    (s.pkg.srcPermitted tile m = true) ∧ (s.pkg.routeOfMsg tile m = none) :=
  ⟨(0), (msgOn 3), ({ last := 3 }), (stOf ((busPkg.wr 0 oSrcFilter 0).setTrestle 0 { inq := [(3, [msgOn 3])] })), by decide +kernel⟩
theorem witness_TrestleInputs_2 : ∃ tile : Nat, ∃ m : Msg, ∃ x : TrestleSt, ∃ s : State, ∃ i, ∃ h, ∃ l, ∃ cut, (s.pkg.trActive tile = true) ∧ (s.pkg.admits
    tile = true) ∧ ((s.pkg.trestle tile).engine.length < 512) ∧ ((s.pkg.trestle tile).pick = some (m, x)) ∧ (m.src < 32) ∧ (m.stream < 256) ∧ (s.noEthWaits) ∧
    (s.pkg.srcPermitted tile m = true) ∧ (s.pkg.routeOfMsg tile m = some i) ∧ (m.fmt ≠ 2) ∧ (s.pkg.chainFrom tile 16 i = (h :: l, cut)) ∧ (h.fld 7 17 12 ≠ 0) :=
  ⟨(0), (msgOn 3), ({ last := 3 }), (stOf ((rtPkg.wr 0 (routeOff 0 + 28) 0x1000).setTrestle 0 { inq := [(3, [msgOn 3])] })), (0), ((rtPkg.wr 0 (routeOff 0
      + 28) 0x1000).snapshot 0 0), (([] : List RouteSnap)), (false), by decide +kernel⟩
theorem witness_TrestleInputs_3 : ∃ tile : Nat, ∃ d : Delivered, ∃ s : State, (s.pkg.sw.got.find? (fun d => d.tile == tile && d.port == 21) = some d) ∧
    (s.pkg.inService tile = true) ∧ (s.noEthWaits) ∧ (tile ≠ s.pkg.steward) :=
  ⟨(1), ({ acfBad with tile := 1 }), (stOf (busPkg.onSw (fun w => { w with got := [{ acfBad with tile := 1 }] }))), by decide +kernel⟩
theorem witness_TrestleInputs_4 : ∃ tile : Nat, ∃ d : Delivered, ∃ s : State, (s.pkg.sw.got.find? (fun d => d.tile == tile && d.port == 21) = some d) ∧
    (s.pkg.inService tile = true) ∧ (s.noEthWaits) ∧ (tile = s.pkg.steward) ∧ (s.pkg.admits tile = true) ∧ ((s.pkg.trestle tile).acf = []) ∧ ((s.pkg.trestle
    tile).inq = []) ∧ ((s.pkg.trestle tile).engine.length ≤ 384) ∧ (avtpHeader d.bytes (12 + 4 * tagCount d.bytes 8 12) = none) :=
  ⟨(0), (acfBad), (stOf (busPkg.onSw (fun w => { w with got := [acfBad] }))), by decide +kernel⟩
theorem witness_TrestleInputs_5 : ∃ tile : Nat, ∃ d : Delivered, ∃ s : State, ∃ sid, ∃ seq, ∃ b, ∃ i, (s.pkg.sw.got.find? (fun d => d.tile == tile && d.port
    == 21) = some d) ∧ (s.pkg.inService tile = true) ∧ (s.noEthWaits) ∧ (tile = s.pkg.steward) ∧ (s.pkg.admits tile = true) ∧ ((s.pkg.trestle tile).acf = []) ∧
    ((s.pkg.trestle tile).inq = []) ∧ ((s.pkg.trestle tile).engine.length ≤ 384) ∧ (avtpHeader d.bytes (12 + 4 * tagCount d.bytes 8 12) = some (sid, seq, b)) ∧
    (s.pkg.rxStream tile sid = some i) :=
  ⟨(0), (acfGood), (stOf ((((busPkg.onSw (fun w => { w with got := [acfGood] })).wr 0 (strmOff 2) 0x11223344).wr 0 (strmOff 2 + 4) 0x55667788).wr 0 (strmOff 2
      + 16) 0x80000002)), (0x1122334455667788), (5), (acfEncode 0 true (msgOn 3)), (2), by decide +kernel⟩
theorem witness_TrestleInputs_6 : ∃ tile : Nat, ∃ i : Nat, ∃ b : Batch, ∃ s : State, ((s.pkg.trestle tile).batches.find? (fun b => b.1 == i) = some (i, b)) ∧
    (s.pkg.trActive tile = true) ∧ (s.pkg.creditStopped tile 21 = true) ∧ (s.noEthWaits) :=
  ⟨(0), (2), ⟨0, [msgOn 3], {}⟩, (stOf ((busPkg.setTrestle 0 { batches := [(2, ⟨0, [msgOn 3], {}⟩)] }).put 0 (fXoffTx 21) 1)), by decide +kernel⟩
theorem witness_AuthenticationEngine_0 : ∃ tile : Nat, ∃ k : List Byte, ∃ s : State, ∃ m : Msg, ∃ h : RouteSnap, ∃ l : List RouteSnap, ∃ cut : Bool, ∃ js
    : List EngJob, (tile ≤ 1) ∧ (s.pkg.trActive tile = true) ∧ (s.noEthWaits) ∧ ((s.pkg.trestle tile).engine = .verify m (h :: l) cut :: js) ∧ (apValid h.authV
    = true) ∧ (s.pkg.trKey tile (apSlot h.authV) false = .key k) ∧ (apFits h.authV m.payload.length = true) ∧ ((fvCandidate (s.pkg.fv tile (apFv h.authV))
    (apTfv h.authV) (beAt m.payload (apAuthentic h.authV m.payload.length) (apTfv h.authV))) < 2 ^ 64) ∧ ((fvCandidate (s.pkg.fv tile (apFv h.authV)) (apTfv
    h.authV) (beAt m.payload (apAuthentic h.authV m.payload.length) (apTfv h.authV))) - (s.pkg.fv tile (apFv h.authV)) ≤ apWindow h.authV) ∧ (apCode k h.authV
    (m.payload.take (apAuthentic h.authV m.payload.length)) (fvCandidate (s.pkg.fv tile (apFv h.authV)) (apTfv h.authV) (beAt m.payload (apAuthentic h.authV
    m.payload.length) (apTfv h.authV))) ≠ sliceBytes m.payload ((apAuthentic h.authV m.payload.length) + apTfv h.authV) (apMac h.authV)) :=
  ⟨(0), (ak), (auSt (.verify (auMsg [0#8, 3#8, 1#8, 1#8, 1#8, 1#8]) [auRt] false)), (auMsg [0#8, 3#8, 1#8, 1#8, 1#8, 1#8]), (auRt), ([]), (false), ([]), by
      decide +kernel⟩
theorem witness_AuthenticationEngine_1 : ∃ tile : Nat, ∃ k : List Byte, ∃ s : State, ∃ m : Msg, ∃ h : RouteSnap, ∃ l : List RouteSnap, ∃ cut : Bool, ∃ js
    : List EngJob, (tile ≤ 1) ∧ (s.pkg.trActive tile = true) ∧ (s.noEthWaits) ∧ ((s.pkg.trestle tile).engine = .verify m (h :: l) cut :: js) ∧ (apValid h.authV
    = true) ∧ (s.pkg.trKey tile (apSlot h.authV) false = .key k) ∧ (apFits h.authV m.payload.length = true) ∧ ((fvCandidate (s.pkg.fv tile (apFv h.authV))
    (apTfv h.authV) (beAt m.payload (apAuthentic h.authV m.payload.length) (apTfv h.authV))) < 2 ^ 64) ∧ ((fvCandidate (s.pkg.fv tile (apFv h.authV)) (apTfv
    h.authV) (beAt m.payload (apAuthentic h.authV m.payload.length) (apTfv h.authV))) - (s.pkg.fv tile (apFv h.authV)) ≤ apWindow h.authV) ∧ (apCode k h.authV
    (m.payload.take (apAuthentic h.authV m.payload.length)) (fvCandidate (s.pkg.fv tile (apFv h.authV)) (apTfv h.authV) (beAt m.payload (apAuthentic h.authV
    m.payload.length) (apTfv h.authV))) = sliceBytes m.payload ((apAuthentic h.authV m.payload.length) + apTfv h.authV) (apMac h.authV)) ∧ ((∀ r ∈ h
    :: l, r.fld 7 23 18 ≠ 0 ∧ r.fld 8 9 0 = 0 ∧ r.fld 8 19 10 = 0)) :=
  ⟨(0), (ak), (auSt (.verify auGood [auRt] false)), (auGood), (auRt), ([]), (false), ([]), by decide +kernel⟩
theorem witness_AuthenticationEngine_2 : ∃ tile : Nat, ∃ k : List Byte, ∃ s : State, ∃ m : Msg, ∃ h : RouteSnap, ∃ l : List RouteSnap, ∃ cut : Bool, ∃ js
    : List EngJob, (tile ≤ 1) ∧ (s.pkg.trActive tile = true) ∧ (s.noEthWaits) ∧ ((s.pkg.trestle tile).engine = .verify m (h :: l) cut :: js) ∧ (apValid h.authV
    = true) ∧ (s.pkg.trKey tile (apSlot h.authV) false = .key k) ∧ (apFits h.authV m.payload.length = true) ∧ (apWindow h.authV < (fvCandidate (s.pkg.fv tile
    (apFv h.authV)) (apTfv h.authV) (beAt m.payload (apAuthentic h.authV m.payload.length) (apTfv h.authV))) - (s.pkg.fv tile (apFv h.authV))) :=
  ⟨(0), (ak), (auSt (.verify (auMsg [0#8, 100#8, 1#8, 1#8, 1#8, 1#8]) [auRt] false)), (auMsg [0#8, 100#8, 1#8, 1#8, 1#8, 1#8]), (auRt), ([]), (false), ([]), by
      decide +kernel⟩
theorem witness_AuthenticationEngine_3 : ∃ tile : Nat, ∃ k : List Byte, ∃ s : State, ∃ o : Msg, ∃ r : RouteSnap, ∃ js : List EngJob, (tile ≤ 1) ∧
    (s.pkg.trActive tile = true) ∧ (s.noEthWaits) ∧ ((s.pkg.trestle tile).engine = .generate o r :: js) ∧ (apValid r.authG = true) ∧ (s.pkg.trKey tile (apSlot
    r.authG) true = .key k) ∧ (apFits r.authG o.payload.length = true) ∧ (s.pkg.fv tile (apFv r.authG) + 1 < 2 ^ 64) ∧ (16 ≤ r.dst) ∧ (r.dst < 22) ∧
    (s.pkg.pathUp tile 15 = true) ∧ (s.pkg.linUp (r.dst - 16) = true) :=
  ⟨(0), (ak), (auSt (.generate (auMsg (zeros 6)) auRt)), (auMsg (zeros 6)), (auRt), ([]), by decide +kernel⟩
theorem witness_SlotsCreditsAndLifetimes_0 : ∃ buf : BusBuf, ∃ s : State, (s.pkg.pathUp 15 s.pkg.steward = true) ∧ (s.pkg.creditsOwed (bufQueue buf) ≠ 0) :=
  ⟨⟨25, 0⟩, (stOf ((busPkg.setCreditsOwed 24 1).setCreditsUsed 24 3)), by decide +kernel⟩
theorem witness_SlotsCreditsAndLifetimes_1 : ∃ buf : BusBuf, ∃ idx : Nat, ∃ l : Nat, ∃ e : Posted, ∃ s : State, (e.life = some l) ∧ (e.id = idx) ∧ (buf.bus <
    12) ∧ ((s.pkg.busQueue buf.bus).find? (fun e => e.id == idx) = some e) :=
  ⟨⟨3, 0⟩, (4), (77), ({ id := 4, msg := msgOn 3, life := some 77 }), (stOf (busPkg.setBusQueue 3 [{ id := 4, msg := msgOn 3, life := some 77 }])), by
      decide +kernel⟩
theorem witness_SlotsCreditsAndLifetimes_2 : ∃ buf : BusBuf, ∃ idx : Nat, ∃ l : Nat, ∃ e : Posted, ∃ s : State, (e.life = some l) ∧ (e.started = false) ∧ (e.id
    = idx) ∧ ((s.pkg.busQueue (bufQueue buf)).find? (fun e => e.id == idx && !e.started) = some e) :=
  ⟨⟨3, 0⟩, (4), (77), ({ id := 4, msg := msgOn 3, life := some 77 }), (stOf (busPkg.setBusQueue 3 [{ id := 4, msg := msgOn 3, life := some 77 }])), by
      decide +kernel⟩
theorem witness_SlotsCreditsAndLifetimes_3 : ∃ buf : BusBuf, ∃ idx : Nat, ∃ l : Nat, ∃ e : Posted, ∃ s : State, (e.life = some l) ∧ (e.started = false) ∧ (e.id
    = idx) ∧ ((s.pkg.busQueue (bufQueue buf)).find? (fun e => e.id == idx && !e.started) = none) ∧ (s.pkg.latest buf.bus buf.slot = some e) :=
  ⟨⟨18, 5⟩, (4), (77), ({ id := 4, msg := msgOn 3, life := some 77 }), (stOf (busPkg.setLatest 18 5 (some { id := 4, msg := msgOn 3, life := some 77 }))), by
      decide +kernel⟩
theorem witness_SlotsCreditsAndLifetimes_4 : ∃ ch : Nat, ∃ w : Word, ∃ s : State, (ch < 6) ∧ (s.pkg.linUp ch = true) ∧ (s.pkg.on 15 (fLinCommander ch) = true)
    ∧ (s.pkg.rd 15 (0x46000 + 0x100 * ch + 4 * SMap.get 0 s.pkg.bus.linPos ch) = w) ∧ (fieldGet w 31 31 = 1) ∧ (ch ∉ s.pkg.bus.linOff) :=
  ⟨(2), (0x80000007#32), (stOf ((busPkg.wr 15 0x46200 0x80000007))), by decide +kernel⟩
theorem witness_SlotsCreditsAndLifetimes_5 : ∃ slot : Nat, ∃ cycle : Nat, ∃ e : Posted, ∃ s : State, (s.pkg.on 15 fFrEnable = true) ∧ (s.pkg.get 15 fFrPoc = 3)
    ∧ (s.pkg.on 15 fFrChA = true) ∧ (s.pkg.latest 24 slot = some e) ∧ (inCycle e.msg cycle = true) :=
  ⟨(5), (3), ({ id := 4, msg := { msgOn 3 with fmt := 4, id := 0x20005 } }), (stOf (busPkg.setLatest 24 5 (some
      { id := 4, msg := { msgOn 3 with fmt := 4, id := 0x20005 } }))), by decide +kernel⟩
theorem witness_SlotsCreditsAndLifetimes_6 : ∃ poc : Nat, ∃ s : State, (s.pkg.on 15 fFrEnable = true) ∧ (poc ≤ 5) :=
  ⟨(2), (bus), by decide +kernel⟩
theorem witness_HostAccessEffects_0 : ∃ tile : Nat, ∃ off : Nat, ∃ data : List Byte, ∃ s : State, (s.pkg.tileOn tile = true) ∧ (s.pkg.on tile fHbLink = true) ∧
    (s.settled) ∧ (0 < data.length) ∧ (off + data.length ≤ 2 ^ 26) :=
  ⟨(0), (0x100), ([1#8, 2#8]), (host), by decide +kernel⟩
theorem witness_HostAccessEffects_1 : ∃ tile : Nat, ∃ off : Nat, ∃ data : List Byte, ∃ s : State, ∃ w : Nat, (s.pkg.tileOn tile = true) ∧ (s.pkg.on tile
    fHbLink = true) ∧ (s.settled) ∧ (0 < data.length) ∧ (off + data.length ≤ 2 ^ 26) ∧ ((∀ i < data.length, s.pkg.inWindow tile (off + i) = some w ∧
    s.pkg.local tile (s.pkg.inLocal tile w off + i) = .byte)) ∧ (s.pkg.inLanes tile w = 0) :=
  ⟨(0), (0x100), ([1#8, 2#8]), (host), (0), by decide +kernel⟩
theorem witness_HostAccessEffects_2 : ∃ tile : Nat, ∃ off : Nat, ∃ data : List Byte, ∃ s : State, ∃ w : Nat, (s.pkg.tileOn tile = true) ∧ (s.pkg.on tile
    fHbLink = true) ∧ (s.settled) ∧ (0 < data.length) ∧ (off + data.length ≤ 2 ^ 26) ∧ (s.pkg.inWindow tile off = some w) ∧ (s.pkg.local tile (s.pkg.inLocal
    tile w off) = .byte) ∧ (s.pkg.inLanes tile w = 0) ∧ ((s.pkg.reqSt { die := tile, agent := 1 }).held = []) ∧ (s.pkg.queueAt tile = []) :=
  ⟨(0), (0x100), ([1#8, 2#8]), (host), (0), by decide +kernel⟩
theorem witness_HostAccessEffects_3 : ∃ tile : Nat, ∃ off : Nat, ∃ data : List Byte, ∃ s : State, (s.pkg.tileOn tile = true) ∧ (s.pkg.on tile fHbLink = true) ∧
    (s.settled) ∧ (0 < data.length) ∧ (off + data.length ≤ 2 ^ 26) ∧ (s.pkg.inWindow tile off = none) ∧ ((s.pkg.reqSt { die := tile, agent := 1 }).held = []) ∧
    (s.pkg.queueAt tile = []) :=
  ⟨(0), (0x10000), ([1#8, 2#8]), (host), by decide +kernel⟩
theorem witness_HostAccessEffects_4 : ∃ tile : Nat, ∃ w : Nat, ∃ off : Nat, ∃ data : List Byte, ∃ s : State, (s.pkg.tileOn tile = true) ∧ (w < 16) ∧ (0 <
    data.length) ∧ (s.pkg.outRefused tile w off data.length = true) :=
  ⟨(0), (3), (0x100), ([1#8, 2#8]), (host), by decide +kernel⟩
theorem witness_HostAccessEffects_5 : ∃ tile : Nat, ∃ w : Nat, ∃ off : Nat, ∃ data : List Byte, ∃ s : State, (s.pkg.tileOn tile = true) ∧ (w < 16) ∧ (0 <
    data.length) ∧ (s.pkg.outRefused tile w off data.length = false) ∧ (s.pkg.outLanes tile w = 0) ∧ ((s.pkg.outHost tile w + off) % s.pkg.mps tile
    + data.length ≤ s.pkg.mps tile) :=
  ⟨(0), (1), (0x100), ([1#8, 2#8]), (host), by decide +kernel⟩
theorem witness_HostAccessEffects_6 : ∃ tile : Nat, ∃ w : Nat, ∃ off : Nat, ∃ data : List Byte, ∃ s : State, (s.pkg.tileOn tile = true) ∧ (w < 16) ∧ (0 <
    data.length) ∧ (s.pkg.outRefused tile w off data.length = false) ∧ (s.pkg.outLanes tile w = 0) ∧ (s.pkg.outPrefetch tile w = false) ∧ ((s.pkg.bridge
    tile).reads = []) ∧ ((s.pkg.bridge tile).pf = []) ∧ ((s.pkg.outHost tile w + off) % min 4096 (s.pkg.mrrs tile) + data.length ≤ min 4096 (s.pkg.mrrs
    tile)) :=
  ⟨(0), (1), (0x100), ([1#8, 2#8]), (host), by decide +kernel⟩
theorem witness_HostAccessEffects_7 : ∃ tile : Nat, ∃ agent : Nat, ∃ r : OutRead, ∃ p : LivePiece, ∃ s : State, ∃ data : List Byte, (s.pkg.tileOn tile = true)
    ∧ ((s.pkg.bridge tile).reads = [r]) ∧ (r.who = .core agent) ∧ (r.todo = []) ∧ (r.live = [p]) ∧ (p.got = 0) ∧ (r.failed = false) ∧ (r.map ≠ []) ∧ (s.pkg.on
    tile fHbLink = true) ∧ (data.length = p.len) ∧ (r.data = []) ∧ (r.map = (List.range p.len).map (fun i => p.addr + i)) :=
  ⟨(0), (2), ({ who := .core 2, host := 0x40000000, map := [0x40000000, 0x40000001], keep := false, noSnoop := false, todo := [], live := [⟨0, 0x40000000, 2, 0, 0⟩] }), ⟨0, 0x40000000, 2, 0, 0⟩, (stOf (hostPkg.setBridge 0 { reads := [{ who := .core 2, host := 0x40000000, map := [0x40000000, 0x40000001], keep := false, noSnoop := false, todo := [], live := [⟨0, 0x40000000, 2, 0, 0⟩] }] })), ([1#8, 2#8]), by decide +kernel⟩
theorem witness_HostAccessEffects_8 : ∃ tile : Nat, ∃ agent : Nat, ∃ r : OutRead, ∃ p : LivePiece, ∃ s : State, ∃ st : CplStatus, (s.pkg.tileOn tile = true) ∧
    ((s.pkg.bridge tile).reads = [r]) ∧ (r.who = .core agent) ∧ (r.todo = []) ∧ (r.live = [p]) ∧ (p.got = 0) ∧ (r.failed = false) ∧ (r.map ≠ []) ∧ (s.pkg.on
    tile fHbLink = true) ∧ (st ≠ .sc) :=
  ⟨(0), (2), ({ who := .core 2, host := 0x40000000, map := [0x40000000, 0x40000001], keep := false, noSnoop := false, todo := [], live := [⟨0, 0x40000000, 2, 0, 0⟩] }), ⟨0, 0x40000000, 2, 0, 0⟩, (stOf (hostPkg.setBridge 0 { reads := [{ who := .core 2, host := 0x40000000, map := [0x40000000, 0x40000001], keep := false, noSnoop := false, todo := [], live := [⟨0, 0x40000000, 2, 0, 0⟩] }] })), (.ur), by decide +kernel⟩
theorem witness_HostAccessEffects_9 : ∃ tile : Nat, ∃ agent : Nat, ∃ r : OutRead, ∃ p : LivePiece, ∃ s : State, (s.pkg.tileOn tile = true) ∧ ((s.pkg.bridge
    tile).reads = [r]) ∧ (r.who = .core agent) ∧ (r.todo = []) ∧ (r.live = [p]) ∧ (p.got = 0) ∧ (r.failed = false) ∧ (r.map ≠ []) :=
  ⟨(0), (2), ({ who := .core 2, host := 0x40000000, map := [0x40000000, 0x40000001], keep := false, noSnoop := false, todo := [], live := [⟨0, 0x40000000, 2, 0, 0⟩] }), ⟨0, 0x40000000, 2, 0, 0⟩, (stOf (hostPkg.setBridge 0 { reads := [{ who := .core 2, host := 0x40000000, map := [0x40000000, 0x40000001], keep := false, noSnoop := false, todo := [], live := [⟨0, 0x40000000, 2, 0, 0⟩] }] })), by decide +kernel⟩
theorem witness_HostAccessEffects_10 : ∃ tile : Nat, ∃ p : PfBuf, ∃ l : List PfBuf, ∃ s : State, (s.pkg.tileOn tile = true) ∧ ((s.pkg.bridge tile).pf = p
    :: l) :=
  ⟨(0), ⟨.core 2, 0x40000002, [(0x40000002, 7#8)], 500⟩, ([]), (stOf (hostPkg.setBridge 0 { pf := [⟨.core 2, 0x40000002, [(0x40000002, 7#8)], 500⟩] })), by
      decide +kernel⟩
theorem witness_EndpointControls_0 : ∃ a : Acc, ∃ tile : Nat, ∃ vec : Nat, ∃ s : State, (tile < 7) ∧ (vec < 32) ∧ (s.pkg.reaches a.req tile (msixOff vec + 12)
    0) :=
  ⟨(byFw), (0), (31), (stOf (upPkg.wr 0 (msixOff 31 + 12) 1)), by decide +kernel⟩
theorem witness_EndpointControls_1 : ∃ tile : Nat, ∃ s : State, ∃ speed : Nat, ∃ width : Nat, (s.pkg.tileOn tile = true) ∧ (s.pkg.on tile fHbLink = false) ∧ (1
    ≤ speed) ∧ (speed ≤ 4) ∧ ((width = 1 ∨ width = 2 ∨ width = 4)) :=
  ⟨(0), (up), (3), (4), by decide +kernel⟩
theorem witness_EndpointControls_2 : ∃ tile : Nat, ∃ s : State, (s.pkg.tileOn tile = true) ∧ (s.pkg.on tile fHbLink = true) :=
  ⟨(0), (host), by decide +kernel⟩
theorem witness_EndpointControls_3 : ∃ tile : Nat, ∃ s : State, ∃ mps : Nat, ∃ mrrs : Nat, (s.pkg.tileOn tile = true) ∧ (s.pkg.on tile fHbLink = true) ∧ (mps ≤
    2) ∧ (mrrs ≤ 5) :=
  ⟨(0), (host), (2), (5), by decide +kernel⟩
theorem witness_ChannelCommands_0 : ∃ a : Acc, ∃ tile : Nat, ∃ ch : Nat, ∃ s : State, ∃ v : Word, (tile < 7) ∧ (ch < 16) ∧ (s.pkg.reaches a.req tile (dmBase ch
    + 0x14) v) :=
  ⟨(byFw), (0), (15), (stOf (dmPkg.setDmaCh 0 15 { stuck := true })), (3), by decide +kernel⟩
theorem witness_ChannelCommands_1 : ∃ a : Acc, ∃ tile : Nat, ∃ ch : Nat, ∃ s : State, (tile < 7) ∧ (ch < 16) ∧ (s.pkg.reaches a.req tile (dmBase ch + 0x1C) 2)
    ∧ (s.pkg.dmKind tile ch ≠ 0) ∧ ((s.pkg.dmaCh tile ch).job = none) :=
  ⟨(byFw), (0), (15), (stOf dmPkg), by decide +kernel⟩
theorem witness_ChannelCommands_2 : ∃ a : Acc, ∃ tile : Nat, ∃ ch : Nat, ∃ s : State, ∃ j : DmaJob, (tile < 7) ∧ (ch < 16) ∧ (s.pkg.reaches a.req tile (dmBase
    ch + 0x1C) 2) ∧ (s.pkg.dmKind tile ch ≠ 0) ∧ ((s.pkg.dmaCh tile ch).job = some j) ∧ (j.bad = false) :=
  ⟨(byFw), (0), (15), (stOf (dmPkg.setDmaCh 0 15
      { job := some { addr := 0x100001000, word4 := 0x80000010 } })), ({ addr := 0x100001000, word4 := 0x80000010 }), by decide +kernel⟩
theorem witness_ChannelCommands_3 : ∃ a : Acc, ∃ tile : Nat, ∃ ch : Nat, ∃ s : State, (tile < 7) ∧ (ch < 16) ∧ (s.pkg.reaches a.req tile (dmBase ch + 0x1C) 1)
    ∧ (s.pkg.dmKind tile ch ≠ 0) :=
  ⟨(byFw), (0), (15), (stOf ((dmPkg.put 0 (fDmHalted.ch 15) 1).put 0 (fDmRingErr.ch 15) 1)), by decide +kernel⟩
theorem witness_MemoryDescriptor_0 : ∃ tile : Nat, ∃ ch : Nat, ∃ s : State, (s.pkg.mayTake tile ch = true) ∧ (s.pkg.dmKind tile ch = 1) ∧ (s.settled) ∧
    (s.noEthWaits) ∧ (s.pkg.dmDesc tile ch < 0x200000000) ∧ ((∀ i < 64, s.pkg.local tile (s.pkg.dmDesc tile ch + i) = .byte)) ∧ (((BitVec.ofNat 32 (leAt
    (s.mem.read tile (s.pkg.dmDesc tile ch) 32) 16 4) : Word)).getLsbD 31 = false) :=
  ⟨(0), (15), (stOf dmPkg), by decide +kernel⟩
theorem witness_MemoryDescriptor_1 : ∃ tile : Nat, ∃ ch : Nat, ∃ s : State, (s.pkg.mayTake tile ch = true) ∧ (s.pkg.dmKind tile ch = 1) ∧ (s.settled) ∧
    (s.noEthWaits) ∧ (s.pkg.dmDesc tile ch < 0x200000000) ∧ ((∀ i < 64, s.pkg.local tile (s.pkg.dmDesc tile ch + i) = .byte)) ∧ (((BitVec.ofNat 32 (leAt
    (s.mem.read tile (s.pkg.dmDesc tile ch) 32) 16 4) : Word)).getLsbD 31 = true) ∧ (((BitVec.ofNat 32 (leAt (s.mem.read tile (s.pkg.dmDesc tile ch) 32) 16 4)
    : Word)).getLsbD 24 = false) ∧ (((BitVec.ofNat 32 (leAt (s.mem.read tile (s.pkg.dmDesc tile ch) 32) 16 4) : Word)).getLsbD 25 = false) ∧ (((BitVec.ofNat 32
    (leAt (s.mem.read tile (s.pkg.dmDesc tile ch) 32) 16 4) : Word)).getLsbD 26 = false) ∧ (((BitVec.ofNat 32 (leAt (s.mem.read tile (s.pkg.dmDesc tile ch) 32)
    16 4) : Word)).getLsbD 29 = false) ∧ (0 < (fieldGet ((BitVec.ofNat 32 (leAt (s.mem.read tile (s.pkg.dmDesc tile ch) 32) 16 4) : Word)) 23 0)) ∧ ((∀ i <
    (fieldGet ((BitVec.ofNat 32 (leAt (s.mem.read tile (s.pkg.dmDesc tile ch) 32) 16 4) : Word)) 23 0), s.pkg.local tile ((leAt (s.mem.read tile (s.pkg.dmDesc
    tile ch) 32) 0 8) + i) = .byte ∧ s.pkg.local tile ((leAt (s.mem.read tile (s.pkg.dmDesc tile ch) 32) 8 8) + i) = .byte)) :=
  ⟨(0), (15), (withBytes dmPkg [(0x100001000, descBytes 0x100002000 0x100002004 0x80000010), (0x100002000, (List.range 16).map (fun i => BitVec.ofNat 8 (i
      + 1)))]), by decide +kernel⟩
theorem witness_MemoryDescriptor_2 : ∃ tile : Nat, ∃ ch : Nat, ∃ j : DmaJob, ∃ s : State, (s.pkg.tileOn tile = true) ∧ (ch < 16) ∧ ((s.pkg.dmaCh tile ch).job
    = some j) ∧ (s.pkg.dataDone tile ch = true) ∧ (j.unit_ = none) ∧ (s.settled) ∧ (s.pkg.get tile (fDmRingExp.ch ch) ≤ 12) ∧ (j.addr < 0x200000000) ∧ ((∀ i <
    64, s.pkg.local tile (j.addr + i) = .byte)) :=
  ⟨(0), (15), ({ addr := 0x100001000, word4 := 0x80000010 }), (withBytes (dmPkg.setDmaCh 0 15 { job := some { addr := 0x100001000, word4 := 0x80000010 } })
      [(0x100001000, descBytes 0x100002000 0x100002004 0x80000010)]), by decide +kernel⟩
theorem witness_MemoryDescriptor_3 : ∃ tile : Nat, ∃ ch : Nat, ∃ j : DmaJob, ∃ s : State, (s.pkg.tileOn tile = true) ∧ (ch < 16) ∧ ((s.pkg.dmaCh tile ch).job
    = some j) ∧ (s.pkg.dataDone tile ch = true) ∧ (j.unit_ = none) ∧ (s.settled) ∧ (s.pkg.get tile (fDmRingExp.ch ch) ≤ 12) :=
  ⟨(0), (15), ({ addr := 0x100001000, word4 := 0x80000010 }), (withBytes (dmPkg.setDmaCh 0 15 { job := some { addr := 0x100001000, word4 := 0x80000010 } })
      [(0x100001000, descBytes 0x100002000 0x100002004 0x80000010)]), by decide +kernel⟩
theorem witness_ReceiveDescriptor_0 : ∃ tile : Nat, ∃ ch : Nat, ∃ d : Delivered, ∃ s : State, (s.pkg.tileOn tile = true) ∧ (ch < 16) ∧ (s.pkg.dmKind tile ch
    = 3) ∧ ((s.pkg.dmaCh tile ch).job = none) ∧ (s.pkg.rxFrame tile ch = some d) ∧ (s.noEthWaits) ∧ (s.pkg.dmReady tile ch = false) :=
  ⟨(0), (15), ({ tile := 0, port := 16, q := 2, bytes := zeros 60, info := { rxAt := 6553600 }, verdict := 0, reason := 0, kind := .fwd }), (stOf (rxPkg.put 0
      (fDmTail.ch 15) 0)), by decide +kernel⟩
theorem witness_ReceiveDescriptor_1 : ∃ tile : Nat, ∃ ch : Nat, ∃ d : Delivered, ∃ s : State, (s.pkg.tileOn tile = true) ∧ (ch < 16) ∧ (s.pkg.dmKind tile ch
    = 3) ∧ ((s.pkg.dmaCh tile ch).job = none) ∧ (s.pkg.rxFrame tile ch = some d) ∧ (s.noEthWaits) ∧ (s.pkg.dmReady tile ch = true) ∧ (s.settled) ∧ (d.hold
    = none) ∧ ((s.pkg.dmaCh tile ch).rxAt = 0) ∧ (s.pkg.dmDesc tile ch < 0x200000000) ∧ ((∀ i < 64, s.pkg.local tile (s.pkg.dmDesc tile ch + i) = .byte)) ∧
    (((BitVec.ofNat 32 (leAt (s.mem.read tile (s.pkg.dmDesc tile ch) 32) 16 4) : Word)).getLsbD 31 = true) ∧ (((BitVec.ofNat 32 (leAt (s.mem.read tile
    (s.pkg.dmDesc tile ch) 32) 16 4) : Word)).getLsbD 25 = false) ∧ (((BitVec.ofNat 32 (leAt (s.mem.read tile (s.pkg.dmDesc tile ch) 32) 16 4) : Word)).getLsbD
    29 = false) ∧ ((BitVec.ofNat 32 (leAt (s.mem.read tile (s.pkg.dmDesc tile ch) 32) 20 4) : Word).getLsbD 11 = false) ∧ (0 < d.bytes.length) ∧
    (d.bytes.length ≤ fieldGet ((BitVec.ofNat 32 (leAt (s.mem.read tile (s.pkg.dmDesc tile ch) 32) 16 4) : Word)) 23 0) ∧ ((∀ i < d.bytes.length, s.pkg.local
    tile ((leAt (s.mem.read tile (s.pkg.dmDesc tile ch) 32) 8 8) + i) = .byte)) :=
  ⟨(0), (15), ({ tile := 0, port := 16, q := 2, bytes := zeros 60, info := { rxAt := 6553600 }, verdict := 0, reason := 0, kind := .fwd }), (withBytes
      (rxPkg.put 0 (fDmStarved.ch 15) 1) [(0x100001000, descBytes 0 0x100002000 0x80000100)]), by decide +kernel⟩
theorem witness_PodRequests_0 : ∃ a : Acc, ∃ tile : Nat, ∃ owner : Nat, ∃ s : State, ∃ pool : Nat, (tile < 7) ∧ (owner < 256) ∧ (pool < 64) ∧ (s.pkg.leaves
    a.req) ∧ (s.pkg.accessErr a.req (pkgAddr tile (0x1B10000 + 0x100 * owner + 4 * pool)) = 0) ∧ (s.pkg.queueAt tile = []) ∧ (s.pkg.podBound tile owner
    (s.pkg.portAgent a.req tile) = false) :=
  ⟨(byFw), (0), (40), (stOf (podPkg.put 0 (fPoolCount.pool 63) 1)), (63), by decide +kernel⟩
theorem witness_PodRequests_1 : ∃ a : Acc, ∃ tile : Nat, ∃ owner : Nat, ∃ s : State, ∃ pool : Nat, (tile < 7) ∧ (owner < 256) ∧ (pool < 64) ∧ (s.pkg.leaves
    a.req) ∧ (s.pkg.accessErr a.req (pkgAddr tile (0x1B10000 + 0x100 * owner + 4 * pool)) = 0) ∧ (s.pkg.queueAt tile = []) ∧ (s.pkg.podBound tile owner
    (s.pkg.portAgent a.req tile) = true) ∧ (s.pkg.poolThere tile pool = true) ∧ (s.pkg.podMay tile owner pool = true) ∧ (SMap.wf (fun _ => none) s.pkg.pods
    = true) ∧ ((∀ e ∈ s.pkg.podsOut tile pool, e.1 < s.pkg.get tile (fPoolCount.pool pool))) :=
  ⟨(byFw), (0), (16), (stOf podPkg), (63), by decide +kernel⟩
theorem witness_PodRequests_2 : ∃ a : Acc, ∃ tile : Nat, ∃ owner : Nat, ∃ s : State, ∃ pool : Nat, (tile < 7) ∧ (owner < 256) ∧ (pool < 64) ∧ (s.pkg.leaves
    a.req) ∧ (s.pkg.accessErr a.req (pkgAddr tile (0x1B10000 + 0x100 * owner + 4 * pool)) = 0) ∧ (s.pkg.queueAt tile = []) ∧ (s.pkg.podBound tile owner
    (s.pkg.portAgent a.req tile) = true) ∧ (s.pkg.poolThere tile pool = true) ∧ (s.pkg.podMay tile owner pool = false) :=
  ⟨(byFw), (0), (16), (stOf (podPkg.put 0 (fPoolCount.pool 63) 1)), (63), by decide +kernel⟩
theorem witness_PodRequests_3 : ∃ a : Acc, ∃ tile : Nat, ∃ owner : Nat, ∃ s : State, ∃ h : Word, ∃ b : Pod, ∃ other : Nat, (tile < 7) ∧ (owner < 256) ∧
    (s.pkg.podCheck tile owner (s.pkg.portAgent a.req tile) h = (0, some b)) ∧ (other < 256) ∧ (s.pkg.reaches a.req tile (0x1B40000 + 0x400 * owner + 4 *
    other) h) ∧ (b.owners.contains other = false) ∧ (b.owners.length < 8) :=
  ⟨(byFw), (0), (16), (stOf podPkg), (0x3F000000), ⟨16, [16]⟩, (33), by decide +kernel⟩
theorem witness_PodRequests_4 : ∃ a : Acc, ∃ tile : Nat, ∃ owner : Nat, ∃ s : State, ∃ h : Word, ∃ b : Pod, (tile < 7) ∧ (owner < 256) ∧ (s.pkg.podCheck tile
    owner (s.pkg.portAgent a.req tile) h = (0, some b)) ∧ (s.pkg.reaches a.req tile (0x1B20000 + 4 * owner) h) :=
  ⟨(byFw), (0), (16), (stOf podPkg), (0x3F000000), ⟨16, [16]⟩, by decide +kernel⟩
theorem witness_PodRequests_5 : ∃ a : Acc, ∃ tile : Nat, ∃ owner : Nat, ∃ s : State, ∃ h : Word, ∃ b : Pod, (tile < 7) ∧ (owner < 256) ∧ (s.pkg.podCheck tile
    owner (s.pkg.portAgent a.req tile) h = (0, some b)) ∧ (s.pkg.reaches a.req tile (0x1B20400 + 4 * owner) h) ∧ (b.owners = [owner]) :=
  ⟨(byFw), (0), (16), (stOf podPkg), (0x3F000000), ⟨16, [16]⟩, by decide +kernel⟩
theorem witness_PodRequests_6 : ∃ a : Acc, ∃ tile : Nat, ∃ owner : Nat, ∃ s : State, ∃ h : Word, ∃ c : Nat, (tile < 7) ∧ (owner < 256) ∧ (s.pkg.podCheck tile
    owner (s.pkg.portAgent a.req tile) h = (c, none)) ∧ (s.pkg.reaches a.req tile (0x1B20000 + 4 * owner) h) :=
  ⟨(byFw), (0), (16), (stOf podPkg), (0x3F000001), (1), by decide +kernel⟩
theorem witness_CheckUnitWrites_0 : ∃ a : Acc, ∃ tile : Nat, ∃ u : Nat, ∃ v : Word, ∃ s : State, (u < 8) ∧ (tile ≠ 15) ∧ (s.pkg.on tile (fCkBusy.ck u) = false)
    ∧ (s.pkg.reaches a.req tile (ckBase u + 0x24) v) :=
  ⟨⟨⟨1, 0⟩, 0⟩, (1), (7), (0x31323334), (stOf (upPkg.put 1 (fCkPoly.ck 7) 4)), by decide +kernel⟩
theorem witness_CheckUnitWrites_1 : ∃ a : Acc, ∃ tile : Nat, ∃ u : Nat, ∃ v : Word, ∃ s : State, (u < 8) ∧ (tile ≠ 15) ∧ (s.pkg.on tile (fCkBusy.ck u) = false)
    ∧ (s.pkg.reaches a.req tile (ckBase u + 0x28) v) :=
  ⟨⟨⟨1, 0⟩, 0⟩, (1), (7), (0x31323334), (stOf (upPkg.put 1 (fCkPoly.ck 7) 4)), by decide +kernel⟩
theorem witness_CheckUnitWrites_2 : ∃ a : Acc, ∃ tile : Nat, ∃ u : Nat, ∃ s : State, (u < 8) ∧ (tile ≠ 15) ∧ (s.pkg.on tile (fCkBusy.ck u) = false) ∧
    (s.pkg.reaches a.req tile (ckBase u + 0x2C) 1) :=
  ⟨⟨⟨1, 0⟩, 0⟩, (1), (7), (stOf (upPkg.put 1 (fCkPoly.ck 7) 4)), by decide +kernel⟩
theorem witness_CheckUnitWrites_3 : ∃ a : Acc, ∃ tile : Nat, ∃ u : Nat, ∃ s : State, (u < 8) ∧ (tile ≠ 15) ∧ (s.pkg.on tile (fCkBusy.ck u) = false) ∧
    (s.pkg.reaches a.req tile (ckBase u + 0x2C) 2) ∧ (s.pkg.on tile (fCkTrestle.ck u) = false) :=
  ⟨⟨⟨1, 0⟩, 0⟩, (1), (5), (stOf (upPkg.put 1 (fCkPoly.ck 5) 4)), by decide +kernel⟩
theorem witness_CheckUnitWrites_4 : ∃ a : Acc, ∃ tile : Nat, ∃ u : Nat, ∃ v : Word, ∃ s : State, (u < 8) ∧ (tile ≠ 15) ∧ (s.pkg.on tile (fCkBusy.ck u) = false)
    ∧ (s.pkg.reaches a.req tile (ckBase u + 0x18) v) :=
  ⟨⟨⟨1, 0⟩, 0⟩, (1), (7), (0x31323334), (stOf (upPkg.put 1 (fCkPoly.ck 7) 4)), by decide +kernel⟩
theorem witness_CheckUnitWrites_5 : ∃ a : Acc, ∃ tile : Nat, ∃ u : Nat, ∃ v : Word, ∃ s : State, (u < 8) ∧ (tile ≠ 15) ∧ (s.pkg.on tile (fCkBusy.ck u) = false)
    ∧ (s.pkg.reaches a.req tile (ckBase u + 0x14) v) :=
  ⟨⟨⟨1, 0⟩, 0⟩, (1), (7), (0x31323334), (stOf (upPkg.put 1 (fCkPoly.ck 7) 4)), by decide +kernel⟩
theorem witness_VaultCommandStart_0 : ∃ a : Acc, ∃ slot : Nat, ∃ op : Nat, ∃ i : Instr, ∃ s : State, (slot < 4096) ∧ ((i, op) ∈ [(Instr.derive a
    slot, 1), (.import_ a slot, 2), (.revoke a slot, 3), (.slotRelease a slot, 4)] ++ (if slot = 0 then [(Instr.nonce a, 5), (.attest a, 6), (.ticket a, 7)]
    else [])) ∧ (s.pkg.reaches a.req 15 0x10004 (BitVec.ofNat 32 (op + 16 * slot))) ∧ (s.pkg.on 15 fKyBusy = true) :=
  ⟨(byFw), (5), (1), ((Instr.derive byFw 5)), (stOf (upPkg.put 15 fKyBusy 1)), by decide +kernel⟩
theorem witness_VaultCommandStart_1 : ∃ a : Acc, ∃ slot : Nat, ∃ op : Nat, ∃ i : Instr, ∃ s : State, (slot < 4096) ∧ ((i, op) ∈ [(Instr.derive a
    slot, 1), (.import_ a slot, 2), (.revoke a slot, 3), (.slotRelease a slot, 4)] ++ (if slot = 0 then [(Instr.nonce a, 5), (.attest a, 6), (.ticket a, 7)]
    else [])) ∧ (s.pkg.reaches a.req 15 0x10004 (BitVec.ofNat 32 (op + 16 * slot))) ∧ (s.pkg.on 15 fKyBusy = false) :=
  ⟨(byFw), (5), (1), ((Instr.derive byFw 5)), (up), by decide +kernel⟩
theorem witness_VaultChecks_0 : ∃ s : Pkg, ∃ op, (s.on 15 fTpLine = true) ∧ (op ∈ [1, 2, 3, 4, 6]) :=
  ⟨(upPkg.put 15 fTpLine 1), (3), by decide +kernel⟩
theorem witness_VaultChecks_1 : ∃ s : Pkg, ∃ slot : Nat, (s.on 15 fTpLine = false) ∧ (s.on 15 fKyLocked = false) ∧ ((labelOf (argLabel (s.rd 15
    oKyArg0))).isSome = true) ∧ (argKind (s.rd 15 oKyArg0) ≤ 3) ∧ ((s.get 15 (fSlState slot) = 0 ∨ s.get 15 (fSlState slot) = 3)) :=
  ⟨(upPkg.wr 15 oKyArg0 0x1001), (5), by decide +kernel⟩
theorem witness_VaultChecks_2 : ∃ s : Pkg, ∃ slot : Nat, (s.on 15 fTpLine = false) ∧ (s.on 15 fKyLocked = false) ∧ ((labelOf (argLabel (s.rd 15
    oKyArg0))).isSome = true) ∧ (argKind (s.rd 15 oKyArg0) ≤ 3) ∧ (s.get 15 (fSlState slot) = 1) ∧ (s.slotPending slot = true) :=
  ⟨(((upPkg.put 15 (fSlState 5) 1).wr 15 oKyArg0 0x1001).onVault (fun v => { v with revs := [⟨1, 5, 9, false, []⟩] })), (5), by decide +kernel⟩
theorem witness_VaultChecks_3 : ∃ s : Pkg, ∃ slot : Nat, (s.on 15 fTpLine = false) ∧ (s.on 15 fKyLocked = false) ∧ ((labelOf (argLabel (s.rd 15
    oKyArg0))).isSome = true) ∧ (argKind (s.rd 15 oKyArg0) ≤ 3) ∧ (s.get 15 (fSlState slot) = 1) ∧ (s.slotPending slot = false) ∧ ((s.get 15 (fSlPolicy
    slot)).testBit 0 = false) :=
  ⟨((upPkg.put 15 (fSlState 5) 1).wr 15 oKyArg0 0x1001), (5), by decide +kernel⟩
theorem witness_VaultChecks_4 : ∃ s : Pkg, ∃ slot : Nat, (s.on 15 fTpLine = false) ∧ (s.on 15 fKyLocked = false) ∧ ((slot = 0 ∨ s.get 15 (fSlState slot)
    = 0)) :=
  ⟨(upPkg), (5), by decide +kernel⟩
theorem witness_VaultChecks_5 : ∃ s : Pkg, ∃ slot : Nat, (s.on 15 fTpLine = false) ∧ (s.on 15 fKyLocked = false) ∧ (slot ≠ 0) ∧ (s.get 15 (fSlState slot) = 1)
    ∧ (s.slotPending slot = true) :=
  ⟨((upPkg.put 15 (fSlState 5) 1).onVault (fun v => { v with revs := [⟨1, 5, 9, false, []⟩] })), (5), by decide +kernel⟩
theorem witness_VaultChecks_6 : ∃ s : Pkg, ∃ slot : Nat, (s.on 15 fTpLine = false) ∧ (s.on 15 fKyLocked = false) ∧ (slot ≠ 0) ∧ (s.get 15 (fSlState slot) = 1)
    ∧ (s.slotPending slot = false) ∧ (8 ≤ s.get 15 fRvPending) :=
  ⟨((upPkg.put 15 (fSlState 5) 1).put 15 fRvPending 8), (5), by decide +kernel⟩
theorem witness_VaultChecks_7 : ∃ s : Pkg, ∃ slot : Nat, (s.on 15 fTpLine = false) ∧ (s.on 15 fKyLocked = false) ∧ (slot ≠ 0) ∧ (s.get 15 (fSlState slot) = 1)
    ∧ (s.slotPending slot = false) ∧ (s.get 15 fRvPending < 8) :=
  ⟨((upPkg.put 15 (fSlState 5) 1).put 15 fRvPending 7), (5), by decide +kernel⟩
theorem witness_VaultChecks_8 : ∃ s : Pkg, ∃ slot : Nat, (s.on 15 fTpLine = false) ∧ (s.on 15 fKyLocked = false) ∧ (s.get 15 (fSlState slot) ≠ 2) :=
  ⟨((upPkg.put 15 (fSlState 5) 1)), (5), by decide +kernel⟩
theorem witness_VaultChecks_9 : ∃ s : Pkg, ∃ slot : Nat, (s.on 15 fTpLine = false) ∧ (s.on 15 fKyLocked = false) ∧ (s.get 15 (fSlState slot) = 2) ∧
    (s.vault.revs = []) :=
  ⟨(upPkg.put 15 (fSlState 5) 2), (5), by decide +kernel⟩
theorem witness_VaultCommandEnd_0 : ∃ r : VaultRun, ∃ s : State, (s.pkg.vault.run = some r) ∧ (r.op ≠ 7) :=
  ⟨({ op := 3, slot := 5, result := 3 }), (stOf ((upPkg).onVault (fun v => { v with run := some { op := 3, slot := 5, result := 3 } }))), by decide +kernel⟩
theorem witness_VaultCommandEnd_1 : ∃ r : VaultRun, ∃ s : State, (s.pkg.vault.run = some r) ∧ (r.op ≠ 5) ∧ (r.op ≠ 7) ∧ (r.result ≠ kOk) :=
  ⟨({ op := 3, slot := 5, result := 3 }), (stOf ((upPkg).onVault (fun v => { v with run := some { op := 3, slot := 5, result := 3 } }))), by decide +kernel⟩
theorem witness_VaultCommandEnd_2 : ∃ r : VaultRun, ∃ s : State, ∃ k, (s.pkg.vault.run = some r) ∧ (r.result = kOk) ∧ (r.expiry = 0) ∧ (s.pkg.emptySlot = some
    k) ∧ (r.slot < 4096) ∧ (s.pkg.get 15 (fSlDepth r.slot) < 8) ∧ ((r.op = 1 ∨ (r.op = 2 ∧ ¬ (argKind r.arg0 = 2 ∧ argPolicy r.arg0 = 0 ∧ r.slot = 0 ∧
    s.pkg.modeNow = mProvision)))) :=
  ⟨({ op := 1, slot := 5, arg0 := 0x00FF1001, result := 0 }), (stOf (((upPkg.put 15 (fSlState 5) 1)).onVault (fun v =>
      { v with run := some { op := 1, slot := 5, arg0 := 0x00FF1001, result := 0 } }))), (1), by decide +kernel⟩
theorem witness_VaultCommandEnd_3 : ∃ r : VaultRun, ∃ s : State, (s.pkg.vault.run = some r) ∧ (r.op = 3) :=
  ⟨({ op := 3, slot := 5, result := 0 }), (stOf (((upPkg.put 15 (fSlState 5) 1)).onVault (fun v =>
      { v with run := some { op := 3, slot := 5, result := 0 } }))), by decide +kernel⟩
theorem witness_VaultCommandEnd_4 : ∃ r : VaultRun, ∃ s : State, (s.pkg.vault.run = some r) ∧ (r.op = 4) ∧ (r.result = kOk) :=
  ⟨({ op := 4, slot := 5, result := 0 }), (stOf ((upPkg.put 15 (fSlState 5) 2).onVault (fun v =>
      { v with run := some { op := 4, slot := 5, result := 0 } }))), by decide +kernel⟩
theorem witness_VaultCommandEnd_5 : ∃ r : VaultRun, ∃ s : State, (s.pkg.vault.run = some r) ∧ (r.op = 5) :=
  ⟨({ op := 5, slot := 0 }), (stOf ((upPkg).onVault (fun v => { v with run := some { op := 5, slot := 0 } }))), by decide +kernel⟩
theorem witness_VaultCommandEnd_6 : ∃ r : VaultRun, ∃ s : State, (s.pkg.vault.run = some r) ∧ (r.op = 6) ∧ (r.result = kOk) :=
  ⟨({ op := 6, slot := 0, result := 0 }), (stOf ((upPkg).onVault (fun v => { v with run := some { op := 6, slot := 0, result := 0 } }))), by decide +kernel⟩
theorem witness_VaultCommandEnd_7 : ∃ r : VaultRun, ∃ s : State, (s.pkg.vault.run = some r) ∧ (r.op = 7) :=
  ⟨({ op := 7, slot := 0 }), (stOf ((upPkg).onVault (fun v => { v with run := some { op := 7, slot := 0 } }))), by decide +kernel⟩
theorem witness_VaultCommandEnd_8 : ∃ r : VaultRun, ∃ s : State, (s.pkg.vault.run = some r) ∧ (r.op = 7) ∧ ((Ticket.mk (s.pkg.bytesAt 15 oKyIn 8192)).formOk
    = false) :=
  ⟨({ op := 7, slot := 0 }), (stOf ((upPkg).onVault (fun v => { v with run := some { op := 7, slot := 0 } }))), by decide +kernel⟩
theorem witness_RevocationEffects_0 : ∃ timer : Nat, ∃ s : State, (timer < 64) ∧ (s.pkg.on 15 (fTimerValid timer) = true) ∧ (s.pkg.slotPending (s.pkg.get 15
    (fTimerSlot timer)) = false) ∧ (s.pkg.get 15 fRvPending < 8) ∧ (s.pkg.on 15 fTpLine = false) :=
  ⟨(63), (stOf (((upPkg.put 15 (fTimerValid 63) 1).put 15 (fTimerSlot 63) 5).put 15 (fSlState 5) 1)), by decide +kernel⟩
theorem witness_RevocationEffects_1 : ∃ seq : Nat, ∃ r : Revocation, ∃ s : State, ∃ tile, (s.pkg.vault.revs.find? (fun r => r.seq == seq) = some r) ∧
    (r.committed = false) ∧ (r.got = [tile]) ∧ (s.pkg.tileOn tile = true) ∧ (s.pkg.validSas tile = []) :=
  ⟨(7), ⟨7, 5, 9, false, [2]⟩, (stOf ((upPkg.put 15 (fSlState 5) 1).onVault (fun v => { v with revs := [⟨7, 5, 9, false, [2]⟩] }))), (2), by decide +kernel⟩
theorem witness_RevocationEffects_2 : ∃ seq : Nat, ∃ r : Revocation, ∃ s : State, (s.pkg.vault.revs.find? (fun r => r.seq == seq) = some r) ∧ (r.committed
    = true) ∧ ((∀ t ∈ s.pkg.serving, t ∈ r.got)) :=
  ⟨(7), ⟨7, 5, 9, true, [0, 1, 2, 3, 4, 5, 6]⟩, (stOf ((upPkg.put 15 (fSlState 5) 1).onVault (fun v =>
      { v with revs := [⟨7, 5, 9, true, [0, 1, 2, 3, 4, 5, 6]⟩] }))), by decide +kernel⟩
theorem witness_RevocationEffects_3 : ∃ seq : Nat, ∃ r : Revocation, ∃ s : State, ∃ tile : Nat, (s.pkg.vault.revs.find? (fun r => r.seq == seq) = some r) ∧
    (seq < 65536) ∧ (s.pkg.tileOn tile = true) ∧ (s.pkg.pathUp 15 tile = true) ∧ (tile ∉ r.got) ∧ (r.committed = false) :=
  ⟨(7), ⟨7, 5, 9, false, [0]⟩, (stOf ((upPkg.put 15 (fSlState 5) 1).onVault (fun v => { v with revs := [⟨7, 5, 9, false, [0]⟩] }))), (1), by decide +kernel⟩
theorem witness_LeasesAndKeys_0 : ∃ tile : Nat, ∃ s : State, (s.pkg.tileOn tile = true) ∧ (s.pkg.pathUp 15 tile = true) :=
  ⟨(0), (stOf (upPkg.put 0 ⟨0x1000804, 15, 0⟩ 7)), by decide +kernel⟩
theorem witness_LeasesAndKeys_1 : ∃ tile : Nat, ∃ s : State, (s.pkg.tileOn tile = true) ∧ (s.pkg.on tile fLeaseOk = true) :=
  ⟨(0), (stOf (upPkg.put 0 fLeaseOk 1)), by decide +kernel⟩
theorem witness_LeasesAndKeys_2 : ∃ tile : Nat, ∃ slot : Nat, ∃ s : State, (s.pkg.mayTransfer tile slot = true) ∧ (tile ≤ 1) ∧ (s.pkg.trWants tile slot = true)
    ∧ ((s.pkg.trCache tile).length < 64) ∧ (s.pkg.on tile fTrZeroised = false) :=
  ⟨(0), (9), (stOf (((upPkg.put 15 (fSlState 9) 1).wr 0 0x38A0010 0x12340009).wr 0 0x38A0018 0x80000000)), by decide +kernel⟩
theorem witness_LeasesAndKeys_3 : ∃ tile : Nat, ∃ slot : Nat, ∃ s : State, ∃ o, (s.pkg.mayTransfer tile slot = true) ∧ ((s.pkg.validSas tile).filter (fun o =>
    s.pkg.get tile (fSaSlot o) == slot && s.pkg.get tile (fSaFault o) == 0 && s.pkg.get tile (fSaRevoked o) == 0) = [o]) ∧ ((s.pkg.macCache tile).length <
    1024) ∧ (s.pkg.on tile fMsZeroised = false) :=
  ⟨(0), (9), (stOf ((upPkg.put 15 (fSlState 9) 1).wr 0 0x3900000 0x80000009)), (0x3900000), by decide +kernel⟩
theorem witness_LeasesAndKeys_4 : ∃ a : Acc, ∃ tile : Nat, ∃ off : Nat, ∃ v : Word, ∃ s : State, (tile < 7) ∧ (0x3900000 ≤ off) ∧ (off < 0x3920800) ∧ (off % 32
    = 0) ∧ (s.pkg.reaches a.req tile off v) ∧ (fieldGet v 31 31 = 0) :=
  ⟨(byFw), (0), (0x3900000), (9), (stOf (upPkg.wr 0 0x3900000 0x80000009)), by decide +kernel⟩
theorem witness_LeasesAndKeys_5 : ∃ a : Acc, ∃ tile : Nat, ∃ off : Nat, ∃ v : Word, ∃ s : State, (tile < 7) ∧ (0x3900000 ≤ off) ∧ (off < 0x3920800) ∧ (off % 32
    = 0) ∧ (s.pkg.reaches a.req tile off v) ∧ (fieldGet v 31 31 = 1) ∧ (s.pkg.pathUp 15 tile = true) ∧ (s.pkg.slotRevoked (fieldGet v 11 0) = false) ∧
    (s.pkg.on tile fMsZeroised = false) :=
  ⟨(byFw), (0), (0x3900000), (0x80000009), (stOf ((((upPkg.put 15 (fSlState 9) 1).put 15 (fSlKind 9) 1).put 15 (fSlPolicy 9) 0x60))), by decide +kernel⟩
theorem witness_LeasesAndKeys_6 : ∃ a : Acc, ∃ tile : Nat, ∃ off : Nat, ∃ v : Word, ∃ s : State, (tile < 7) ∧ (0x3900000 ≤ off) ∧ (off < 0x3920800) ∧ (off % 32
    = 0) ∧ (s.pkg.reaches a.req tile off v) ∧ (fieldGet v 31 31 = 1) ∧ (s.pkg.pathUp 15 tile = true) ∧ (s.pkg.slotRevoked (fieldGet v 11 0) = true) :=
  ⟨(byFw), (0), (0x3900000), (0x80000009), (stOf (upPkg.put 15 (fSlState 9) 2)), by decide +kernel⟩
theorem witness_TamperEffects_0 : ∃ source : Nat, ∃ s : State, (source < 8) ∧ (s.pkg.power.bat ≠ 0) ∧ ((4 ≤ source ∨ s.pkg.on 15 ⟨0x50010 + 4 * source, 0, 0⟩
    = true)) ∧ (s.pkg.cnt 15 0x50028 ≠ BitVec.allOnes 64) ∧ (s.pkg.life = lBlank) :=
  ⟨(3), (stOf (upPkg.put 15 ⟨0x5001C, 0, 0⟩ 1)), by decide +kernel⟩
theorem witness_TamperEffects_1 : ∃ source : Nat, ∃ s : State, (source < 8) ∧ (s.pkg.power.bat ≠ 0) ∧ ((4 ≤ source ∨ s.pkg.on 15 ⟨0x50010 + 4 * source, 0, 0⟩
    = true)) ∧ (s.pkg.cnt 15 0x50028 ≠ BitVec.allOnes 64) ∧ (s.pkg.life ≠ lBlank) ∧ (s.pkg.life ≠ lScrapped) ∧ (runMode s.pkg.modeNow = true) ∧ (s.pkg.on 15
    fTpLine = false) ∧ (s.pkg.vault.run = none) :=
  ⟨(3), (stOf ({ upPkg with mode := { upPkg.mode with govLife := lField } }.put 15 ⟨0x5001C, 0, 0⟩ 1)), by decide +kernel⟩
theorem witness_TamperEffects_2 : ∃ tile : Nat, ∃ s : State, (s.pkg.tileOn tile = true) ∧ (s.pkg.on 15 fTpLine = true) ∧ (s.pkg.validSas tile = []) ∧ ((∀ p <
    16, (s.pkg.port tile p).tx = none)) :=
  ⟨(2), (stOf ((upPkg.put 15 fTpLine 1).setMacCache 2 [⟨9, 0, [7#8], [9]⟩])), by decide +kernel⟩
theorem witness_ModeCommands_0 : ∃ a : Acc, ∃ v : Word, ∃ s : State, (s.pkg.reaches a.req 15 0x60004 v) ∧ (s.pkg.mode.nextParts = none) ∧ (s.pkg.mode.provNext
    = false) ∧ ((s.pkg.modeNow = mRun ∨ s.pkg.modeNow = mRunPartial)) ∧ (matrixAllows (fieldGet v 3 0) s.pkg.life = true) ∧ (s.pkg.policyAllows (fieldGet v 3
    0) s.pkg.life = true) ∧ ((fieldGet v 3 0) = mProvision) :=
  ⟨(byFw), (11), (stOf (upPkg.put 15 (fPolicy 11 0) 7)), by decide +kernel⟩
theorem witness_ModeCommands_1 : ∃ a : Acc, ∃ v : Word, ∃ s : State, (s.pkg.reaches a.req 15 0x60004 v) ∧ (s.pkg.mode.nextParts = none) ∧ (s.pkg.mode.provNext
    = false) ∧ ((s.pkg.modeNow = mRun ∨ s.pkg.modeNow = mRunPartial)) ∧ (matrixAllows (fieldGet v 3 0) s.pkg.life = true) ∧ (s.pkg.policyAllows (fieldGet v 3
    0) s.pkg.life = true) ∧ (((fieldGet v 3 0) = mRun ∨ (fieldGet v 3 0) = mRunPartial)) ∧ ((∀ u ∈ s.pkg.present, (s.pkg.wantedTiles (fieldGet v 3 0)).testBit
    u = true → s.pkg.tileOn u = true)) :=
  ⟨(byFw), (5), (stOf ({ upPkg with mode := { upPkg.mode with govLife := lField } }.put 15 fPwParts 127)), by decide +kernel⟩
theorem witness_ModeCommands_2 : ∃ a : Acc, ∃ v : Word, ∃ s : State, (s.pkg.reaches a.req 15 0x60004 v) ∧ (s.pkg.mode.nextParts = none) ∧ (s.pkg.mode.provNext
    = false) ∧ (s.pkg.modeNow ≠ mRun) ∧ (s.pkg.modeNow ≠ mRunPartial) ∧ (s.pkg.modeNow ≠ mActivating) ∧ (((fieldGet v 3 0) = mRun ∨ (fieldGet v 3 0)
    = mRunPartial ∨ (fieldGet v 3 0) = mProvision)) ∧ (s.pkg.on 15 fModeErrValid = false) :=
  ⟨(byFw), (5), (stOf (upPkg.put 15 fMode mDegraded)), by decide +kernel⟩
theorem witness_ModeCommands_3 : ∃ a : Acc, ∃ v : Word, ∃ s : State, (s.pkg.reaches a.req 15 0x6000C v) ∧ (v.getLsbD 0 = true) ∧ (parkedMode s.pkg.modeNow
    = false) ∧ (s.pkg.power.phase ≠ 0) :=
  ⟨(byFw), (1), (up), by decide +kernel⟩
theorem witness_ModeCommands_4 : ∃ a : Acc, ∃ port : Bool, ∃ v : Word, ∃ s : State, ((port = true ∨ s.pkg.reaches a.req 15 0x60010 v)) ∧ (fieldGet v 1 0 = 1) ∧
    (s.pkg.levelAllowed s.pkg.modeNow s.pkg.life 1 = true) :=
  ⟨(byFw), (true), (1), (stOf { upPkg with mode := { upPkg.mode with govLife := lProvisioned } }), by decide +kernel⟩
theorem witness_ModeCommands_5 : ∃ a : Acc, ∃ port : Bool, ∃ v : Word, ∃ s : State, ((port = true ∨ s.pkg.reaches a.req 15 0x60010 v)) ∧ (fieldGet v 1 0 = 1) ∧
    (s.pkg.levelAllowed s.pkg.modeNow s.pkg.life 1 = false) :=
  ⟨(byFw), (true), (1), (up), by decide +kernel⟩
theorem witness_ModeCommands_6 : ∃ a : Acc, ∃ port : Bool, ∃ v : Word, ∃ s : State, ((port = true ∨ s.pkg.reaches a.req 15 0x60010 v)) ∧ (fieldGet v 1 0 = 0) ∧
    (s.pkg.get 15 fDebugLevel ≠ 2) :=
  ⟨(byFw), (false), (0), (stOf (upPkg.put 15 fDebugLevel 1)), by decide +kernel⟩
theorem witness_ModeCommands_7 : ∃ n : Nat, ∃ s : State, (s.pkg.mode.service = some n) ∧ (s.pkg.modeNow ≠ mProvision) :=
  ⟨(9), (stOf { upPkg with mode := { upPkg.mode with service := some 9, provNext := true } }), by decide +kernel⟩
theorem witness_ModeCommands_8 : ∃ n : Nat, ∃ s : State, (s.pkg.mode.service = some n) ∧ (s.pkg.modeNow = mProvision) :=
  ⟨(9), (stOf { (upPkg.put 15 fMode mProvision) with mode := { upPkg.mode with service := some 9 } }), by decide +kernel⟩
theorem witness_ModeCommands_9 : ∃ n : Nat, ∃ s : State, (s.pkg.mode.invTicket = some n) :=
  ⟨(9), (stOf { upPkg with mode := { upPkg.mode with invTicket := some 9, portClosed := false } }), by decide +kernel⟩
theorem witness_WakeSources_0 : ∃ pin : Nat, ∃ s : State, (pin < 6) ∧ (s.pkg.on 15 (fPinLevel pin) = false) ∧ (parkedMode s.pkg.modeNow = false) ∧
    (s.pkg.modeNow ≠ mWaking) ∧ (s.pkg.modeNow ≠ mBoot) ∧ (s.pkg.wake.hk = none) :=
  ⟨(5), (stOf (upPkg.put 15 (fPinFunc 5) 1)), by decide +kernel⟩
theorem witness_WakeSources_1 : ∃ pin : Nat, ∃ at_ : Nat, ∃ s : State, (pin < 6) ∧ (s.pkg.on 15 (fPinLevel pin) = false) ∧ (s.pkg.get 15 (fPinFunc pin) = 1) ∧
    ((s.pkg.reach at_).mayWake pin = true) :=
  ⟨(5), (1000), (stOf (parkPkg.put 15 (fPinFunc 5) 1)), by decide +kernel⟩
theorem witness_WakeSources_2 : ∃ pin : Nat, (pin < 6) :=
  ⟨(5), by decide +kernel⟩
theorem witness_WakeSources_3 : ∃ pin : Nat, ∃ s : State, (pin < 6) ∧ (s.pkg.on 15 (fPinLevel pin) = true) ∧ (s.pkg.get 15 (fPinFunc pin) = 1) ∧ (s.pkg.on 15
    (fPinStuck pin) = false) :=
  ⟨(5), (stOf ((upPkg.put 15 (fPinLevel 5) 1).put 15 (fPinFunc 5) 1)), by decide +kernel⟩
theorem witness_WakeSources_4 : ∃ ch : Nat, ∃ at_ : Nat, ∃ s : State, (ch < 12) ∧ (s.pkg.get 15 (fTrx ch) = 4) ∧ (s.pkg.on 15 (fWupEn ch) = true) ∧
    (s.pkg.swkActive ch = false) ∧ (s.pkg.on 15 (fBusDom ch) = false) ∧ ((s.pkg.reach at_).mayWake (6 + ch) = true) :=
  ⟨(11), (1000), (stOf ((parkPkg.put 15 (fTrx 11) 4).put 15 (fWupEn 11) 1)), by decide +kernel⟩
theorem witness_WakeSources_5 : ∃ ch : Nat, ∃ s : State, ∃ m : CanFrame, (ch < 12) ∧ (s.pkg.get 15 (fTrx ch) = 4) ∧ (s.pkg.swkActive ch = true) ∧ (s.pkg.on 15
    (fBusDom ch) = false) ∧ (m.fd = false) ∧ (s.pkg.swkHit ch m = false) :=
  ⟨(11), (stOf (((((parkPkg.put 15 (fTrx 11) 4).put 15 (fSwkEn 11) 1).put 15 (fSwkKept 11) 1).wr 15 (nmOff 11 4) 0x124).wr 15 (nmOff 11 8) 0x1FFFFFFF |>.put 15
      (fFec 11) 3)), ⟨0x123, false, false, [0x40#8, 0x08#8, 1#8, 0#8, 0#8, 0#8, 0#8, 0#8]⟩, by decide +kernel⟩
theorem witness_WakeSources_6 : ∃ ch : Nat, ∃ at_ : Nat, ∃ s : State, ∃ m : CanFrame, (ch < 12) ∧ (s.pkg.get 15 (fTrx ch) = 4) ∧ (s.pkg.swkActive ch = true) ∧
    (s.pkg.on 15 (fBusDom ch) = false) ∧ (m.fd = false) ∧ (s.pkg.swkHit ch m = true) ∧ (s.pkg.nmNode ch m = none) ∧ ((s.pkg.reach at_).mayWake (6 + ch)
    = true) :=
  ⟨(11), (1000), (stOf (((((parkPkg.put 15 (fTrx 11) 4).put 15 (fSwkEn 11) 1).put 15 (fSwkKept 11) 1).wr 15 (nmOff 11 4) 0x123).wr 15 (nmOff 11 8)
      0x1FFFFFFF)), ⟨0x123, false, false, [0x40#8, 0x08#8, 1#8, 0#8, 0#8, 0#8, 0#8, 0#8]⟩, by decide +kernel⟩
theorem witness_WakeSources_7 : ∃ ch : Nat, ∃ at_ : Nat, ∃ s : State, (ch < 12) ∧ (s.pkg.get 15 (fTrx ch) = 4) ∧ (s.pkg.swkActive ch = true) ∧ (s.pkg.get 15
    (fFec ch) = 31) ∧ ((s.pkg.reach at_).mayWake (6 + ch) = true) :=
  ⟨(11), (1000), (stOf ((((parkPkg.put 15 (fTrx 11) 4).put 15 (fSwkEn 11) 1).put 15 (fSwkKept 11) 1).put 15 (fFec 11) 31)), by decide +kernel⟩
theorem witness_TransceiverEffects_0 : ∃ ch : Nat, ∃ s : State, (ch < 12) ∧ (s.pkg.get 15 (fTrx ch) = 3) ∧ (s.pkg.get 15 (fCanState ch) = 3) :=
  ⟨(11), (stOf ((upPkg.put 15 (fTrx 11) 3).put 15 (fCanState 11) 3)), by decide +kernel⟩
theorem witness_TransceiverEffects_1 : ∃ ch : Nat, ∃ s : State, (ch < 12) ∧ (s.pkg.get 15 (fTrx ch) = 1) ∧ (s.pkg.on 15 (fTxdTo ch) = false) :=
  ⟨(11), (stOf ((upPkg.put 15 (fTrx 11) 1).put 15 (fCanMode 11) 1)), by decide +kernel⟩
theorem witness_TransceiverEffects_2 : ∃ ch : Nat, (ch < 12) :=
  ⟨(11), by decide +kernel⟩
theorem witness_TransceiverEffects_3 : ∃ ch : Nat, ∃ s : State, (ch < 12) ∧ ((s.pkg.get 15 (fTrx ch) = 3 ∨ s.pkg.get 15 (fTrx ch) = 4)) ∧ (s.pkg.on 15 (fBusDom
    ch) = false) :=
  ⟨(11), (stOf (upPkg.put 15 (fTrx 11) 3)), by decide +kernel⟩
theorem witness_TransceiverEffects_5 : ∃ ch : Nat, ∃ s : State, ∃ cmd : Nat, (ch < 12) ∧ ((cmd = 1 ∨ cmd = 2)) ∧ (s.pkg.get 15 (fCanMode ch) ≠ 0) :=
  ⟨(11), (stOf (upPkg.put 15 (fCanMode 11) 1)), (2), by decide +kernel⟩
theorem witness_TransceiverEffects_6 : ∃ ch : Nat, ∃ at_ : Nat, ∃ s : State, (ch < 12) ∧ (s.pkg.get 15 (fTrx ch) = 3) ∧ (SMap.get 0 s.pkg.wake.standby ch
    = (s.pkg.reach at_).now + 1) :=
  ⟨(11), (1000), (stOf ((upPkg.put 15 (fTrx 11) 3).onWake (fun w => { w with standby := SMap.set 0 w.standby 11 (ns 1000 + 1) }))), by decide +kernel⟩
theorem witness_TransceiverEffects_7 : ∃ ch : Nat, ∃ at_ : Nat, ∃ s : State, (ch < 12) ∧ (s.pkg.get 15 (fTrx ch) ≠ 3 ∨ SMap.get 0 s.pkg.wake.standby ch ≠
    (s.pkg.reach at_).now + 1) :=
  ⟨(11), (1000), (up), by decide +kernel⟩
theorem witness_TransceiverEffects_9 : ∃ ch : Nat, ∃ s : State, (ch < 6) ∧ (s.pkg.on 15 (fLinEnable ch) = true) ∧ (ch ∉ s.pkg.bus.linOff) :=
  ⟨(5), (stOf (upPkg.put 15 (fLinEnable 5) 1)), by decide +kernel⟩
theorem witness_TransceiverEffects_10 : ∃ ch : Nat, ∃ s : State, (ch < 6) ∧ (s.pkg.on 15 (fLinEnable ch) = true) :=
  ⟨(5), (stOf ((upPkg.put 15 (fLinEnable 5) 1).onBus (fun x => { x with linOff := [5] }))), by decide +kernel⟩
theorem witness_ConsentRing_0 : ∃ ch : Nat, ∃ n : Nat, ∃ m : CanFrame, ∃ s : State, (ch < 12) ∧ (s.pkg.on 15 (fNmEn ch) = true) ∧ (s.pkg.canListens ch = true)
    ∧ (s.pkg.nmNode ch m = some n) ∧ (nmGood m = true) ∧ ((∀ c < 12, s.pkg.get 15 (fRing c) ≠ rPrepare)) ∧ (s.pkg.wake.quiet = none) ∧ (s.pkg.get 15 (fRing ch)
    = rRing) :=
  ⟨(3), (0x23), ⟨0x123, false, false, [0x40#8, 0x08#8, 1#8, 0#8, 0#8, 0#8, 0#8, 0#8]⟩, (stOf (((busPkg.put 15 (fNmEn 3) 1).put 15 (fIdBase 3) 1).put 15 (fRing
      3) 1)), by decide +kernel⟩
theorem witness_ConsentRing_1 : ∃ ch : Nat, ∃ s : State, ∃ u, (ch < 12) ∧ (s.pkg.canSends ch = true) ∧ ((s.pkg.nmCh ch).token = some u) ∧ (s.pkg.get 15 (fRing
    ch) = rRing) :=
  ⟨(3), (stOf ((((busPkg.put 15 (fNmEn 3) 1).put 15 (fIdBase 3) 1).put 15 (fRing 3) 1).setNmCh 3 { token := some 5, heard := [0x30] })), (5), by decide +kernel⟩
theorem witness_ConsentRing_2 : ∃ ch : Nat, ∃ s : State, (ch < 12) ∧ (s.pkg.canSends ch = true) ∧ ((s.pkg.nmCh ch).token = none) ∧ (s.pkg.get 15 (fRing ch)
    = rRing) :=
  ⟨(3), (stOf (((busPkg.put 15 (fNmEn 3) 1).put 15 (fIdBase 3) 1).put 15 (fRing 3) 1)), by decide +kernel⟩
theorem witness_ConsentRing_3 : ∃ ch : Nat, ∃ s : State, (ch < 12) ∧ (s.pkg.canSends ch = true) ∧ (s.pkg.get 15 (fRing ch) = rLimp) ∧ (s.pkg.consents ch
    = false) :=
  ⟨(3), (stOf ((((busPkg.put 15 (fNmEn 3) 1).put 15 (fIdBase 3) 1).put 15 (fRing 3) 1).put 15 (fRing 3) 2)), by decide +kernel⟩
theorem witness_ConsentRing_4 : ∃ pn : Nat, ∃ s : State, (pn < 24) ∧ (SMap.get 0 s.pkg.pnSeen pn ≠ 0) :=
  ⟨(23), (stOf { (upPkg.put 15 fPnActive 0x800000) with pnSeen := [(23, 5)] }), by decide +kernel⟩
theorem witness_ConsentRing_5 : ∃ ch : Nat, ∃ s : State, (ch < 12) ∧ (s.pkg.get 15 (fRing ch) = rPrepare) ∧ (s.pkg.on 15 fReady = false) :=
  ⟨(3), (stOf ((((busPkg.put 15 (fNmEn 3) 1).put 15 (fIdBase 3) 1).put 15 (fRing 3) 1).put 15 (fRing 3) 3)), by decide +kernel⟩
theorem witness_LedgerEffects_0 : ∃ a : Acc, ∃ v : Word, ∃ s : State, (s.pkg.reaches a.req 15 0x20010 v) ∧ (v.getLsbD 0 = false) ∧ (v.getLsbD 1 = true) ∧
    (s.pkg.nmChannels = []) ∧ ((∀ c < 12, s.pkg.get 15 (fRing c) ≠ rPrepare ∧ s.pkg.get 15 (fRing c) ≠ rLimp)) :=
  ⟨(byFw), (0x302), (up), by decide +kernel⟩
theorem witness_LedgerEffects_1 : ∃ a : Acc, ∃ v : Word, ∃ s : State, (s.pkg.reaches a.req 15 0x30008 v) ∧ (v.getLsbD 0 = true) :=
  ⟨(byFw), (1), (stOf (upPkg.put 15 fElHorizonS 86400)), by decide +kernel⟩
theorem witness_LedgerEffects_2 : ∃ meas : Nat, ∃ nah : Nat, ∃ temp : Int, ∃ s : State, ((s.pkg.modeNow = mParkedCold ∨ (s.pkg.modeNow = mParkedWarm ∧ s.pkg.on
    15 fRetKept = true))) ∧ (0 < ((s.pkg.reachFrac (s.pkg.wake.tickAt + ns (s.pkg.get 15 fElTick * 1000000000))).charge nah).remain) ∧ (((s.pkg.reachFrac
    (s.pkg.wake.tickAt + ns (s.pkg.get 15 fElTick * 1000000000))).charge nah).countNs 15 < ((((s.pkg.reachFrac (s.pkg.wake.tickAt + ns (s.pkg.get 15 fElTick *
    1000000000))).charge nah).cnt 15 oElHorizonEnd).toNat)) ∧ (((max meas (((s.pkg.reachFrac (s.pkg.wake.tickAt + ns (s.pkg.get 15 fElTick *
    1000000000))).charge nah).declared temp) * ((((((s.pkg.reachFrac (s.pkg.wake.tickAt + ns (s.pkg.get 15 fElTick * 1000000000))).charge nah).cnt 15
    oElHorizonEnd).toNat) - ((s.pkg.reachFrac (s.pkg.wake.tickAt + ns (s.pkg.get 15 fElTick * 1000000000))).charge nah).countNs 15) / 1000000000) : Nat) : Int)
    ≤ ((s.pkg.reachFrac (s.pkg.wake.tickAt + ns (s.pkg.get 15 fElTick * 1000000000))).charge nah).remain * 3600) ∧ ((∀ c < 12, s.pkg.on 15 (fSwkEn c) = true →
    s.pkg.on 15 (fSwkKept c) = true)) :=
  ⟨(200), (500), (25), (stOf ((((parkPkg.wr 15 oElAllow 1000000).put 15 fElBase 100).setCnt 15 oElHorizonEnd 3600000000000000).put 15 fElTick 60)), by
      decide +kernel⟩
theorem witness_LedgerEffects_3 : ∃ nah : Nat, ∃ s : State, ((s.pkg.modeNow = mParkedCold ∨ (s.pkg.modeNow = mParkedWarm ∧ s.pkg.on 15 fRetKept = true))) ∧
    (((s.pkg.reachFrac (s.pkg.wake.tickAt + ns (s.pkg.get 15 fElTick * 1000000000))).charge nah).remain ≤ 0) ∧ (s.pkg.modeNow = mParkedCold) :=
  ⟨(500), (stOf (((((parkPkg.wr 15 oElAllow 1000000).put 15 fElBase 100).setCnt 15 oElHorizonEnd 3600000000000000).put 15 fElTick 60).wr 15 oElAllow 0)), by
      decide +kernel⟩
theorem witness_LedgerEffects_4 : ∃ k : Nat, ∃ s : State, (s.pkg.on 15 fHkKept = true) ∧ (s.pkg.get 15 fElHkPeriod ≠ 0) ∧ (k ≠ 0) ∧ ((((s.pkg.cnt 15
    oElHorizonEnd).toNat) - s.pkg.get 15 fElHorizonS * 1000000000 + k * s.pkg.get 15 fElHkPeriod * 3600000000000) < ((s.pkg.cnt 15 oElHorizonEnd).toNat)) ∧
    (s.pkg.countNs 15 ≤ (((s.pkg.cnt 15 oElHorizonEnd).toNat) - s.pkg.get 15 fElHorizonS * 1000000000 + k * s.pkg.get 15 fElHkPeriod * 3600000000000)) ∧
    ((s.pkg.reachCount 15 (((s.pkg.cnt 15 oElHorizonEnd).toNat) - s.pkg.get 15 fElHorizonS * 1000000000 + k * s.pkg.get 15 fElHkPeriod *
    3600000000000)).mayWake 18 = true) :=
  ⟨(1), (stOf (((((((parkPkg.wr 15 oElAllow 1000000).put 15 fElBase 100).setCnt 15 oElHorizonEnd 3600000000000000).put 15 fElTick 60).put 15 fHkKept 1).put 15
      fElHkPeriod 1).put 15 fElHorizonS 86400 |>.setCnt 15 oElHorizonEnd 86400000000000)), by decide +kernel⟩
theorem witness_LedgerEffects_5 : ∃ s : State, (5 ≤ s.pkg.modeNow) ∧ (s.pkg.get 15 fElUnseen = 0) ∧ (s.pkg.wake.unseenRem = 0) :=
  ⟨(up), by decide +kernel⟩
theorem witness_LedgerEffects_6 : ∃ tile : Nat, ∃ s : State, (s.pkg.tileOn tile = true) ∧ (5 ≤ s.pkg.modeNow) ∧ (s.pkg.pathUp 15 tile = true) :=
  ⟨(1), (stOf (upPkg.wr 15 0x30000 77)), by decide +kernel⟩
theorem witness_RetentionAndParking_0 : ∃ tile : Nat, ∃ s : State, (s.pkg.modeNow = mParkedWarm) ∧ (tile < s.pkg.variant.tiles) ∧ (s.pkg.on 15 fVstbyOn = true)
    ∧ (tile ∉ s.pkg.power.confirmed) :=
  ⟨(3), (stOf ((parkPkg.put 15 fMode mParkedWarm).put 15 fVstbyOn 1)), by decide +kernel⟩
theorem witness_RetentionAndParking_1 : ∃ mv : Nat, ∃ s : State, (s.pkg.on 15 fVstbyOn = true) ∧ (mv < 500) :=
  ⟨(499), (stOf (((parkPkg.put 15 fMode mParkedWarm).put 15 fVstbyOn 1).put 15 fWarmValid 1)), by decide +kernel⟩
theorem witness_RetentionAndParking_2 : ∃ s : State, ∃ u, (s.pkg.mayPark = true) ∧ (s.pkg.wake.quiet = some u) :=
  ⟨(stOf { upPkg with wake := { quiet := some 5 } }), (5), by decide +kernel⟩
theorem witness_RetentionAndParking_3 : ∃ s : State, ∃ u, (s.pkg.mayPark = true) ∧ (s.pkg.wake.hk = some u) :=
  ⟨(stOf { upPkg with wake := { hk := some 5 } }), (5), by decide +kernel⟩
theorem witness_RetentionAndParking_4 : ∃ s : State, ∃ ch, (s.pkg.mayPark = true) ∧ (ch < 12) ∧ (s.pkg.get 15 (fRing ch) = rPrepare) ∧ (s.pkg.on 15 fReady
    = true) ∧ (s.pkg.wake.hk = none) ∧ ((∀ c ∈ s.pkg.nmChannels, c ≠ ch → s.pkg.get 15 (fRing c) = rSleep)) :=
  ⟨(stOf ((((busPkg.put 15 (fNmEn 3) 1).put 15 (fIdBase 3) 1).put 15 (fRing 3) 1).put 15 (fRing 3) 3 |>.put 15 fReady 1)), (3), by decide +kernel⟩
theorem witness_BatteryEffects_0 : ∃ s : State, (s.pkg.power.bat = 0) :=
  ⟨(stOf { upPkg with power := {} }), by decide +kernel⟩
theorem witness_BatteryEffects_1 : ∃ mv : Nat, ∃ s : State, (s.pkg.power.bat ≠ 0) ∧ (3800 ≤ mv) ∧ (mv < 4500) ∧ ((∃ g < 5, s.pkg.on 15 (fPwEn g) = true)) ∧
    (s.pkg.power.phase ≠ 3) :=
  ⟨(4000), (stOf (upPkg.put 15 (fPwEn 0) 1)), by decide +kernel⟩
theorem witness_BatteryEffects_2 : ∃ mv : Nat, ∃ s : State, (s.pkg.power.bat ≠ 0) ∧ (3800 ≤ mv) ∧ (mv < 4500) ∧ ((∀ g < 5, s.pkg.on 15 (fPwEn g) = false)) :=
  ⟨(4000), (parkSt), by decide +kernel⟩
theorem witness_BatteryEffects_3 : ∃ mv : Nat, ∃ s : State, (s.pkg.power.bat ≠ 0) ∧ (4500 ≤ mv) ∧ (mv < 5500) :=
  ⟨(5000), (up), by decide +kernel⟩
theorem witness_BatteryEffects_4 : ∃ mv : Nat, ∃ s : State, (s.pkg.power.bat = 1) ∧ (5500 ≤ mv) ∧ (mv < 65536) ∧ (s.pkg.power.wake = none) :=
  ⟨(6000), (stOf { parkPkg with power := { bat := 1 } }), by decide +kernel⟩
theorem witness_BatteryEffects_5 : ∃ s : State, (s.pkg.power.bat ≠ 0) :=
  ⟨(up), by decide +kernel⟩
theorem witness_RailsAndTemperature_0 : ∃ group : Nat, ∃ s : State, (group < 5) ∧ (s.pkg.power.phase = 1) ∧ (s.pkg.on 15 (fPwEn group) = false) ∧ ((group = 0 ∨
    s.pkg.on 15 (fPwPg (group - 1)) = true)) :=
  ⟨(4), (stOf (({ upPkg with power := { bat := 2, phase := 1 } } : Pkg).put 15 (fPwPg 3) 1)), by decide +kernel⟩
theorem witness_RailsAndTemperature_1 : ∃ group : Nat, ∃ s : State, (group < 5) ∧ (s.pkg.power.phase = 1) ∧ (s.pkg.on 15 (fPwEn group) = true) ∧ (s.pkg.on 15
    (fPwPg group) = false) ∧ (s.noEthWaits) ∧ (group < 4) :=
  ⟨(3), (stOf (({ upPkg with power := { bat := 2, phase := 1 } } : Pkg).put 15 (fPwEn 3) 1)), by decide +kernel⟩
theorem witness_RailsAndTemperature_2 : ∃ group : Nat, ∃ s : State, (group < 5) ∧ (s.pkg.power.phase = 1) ∧ (s.pkg.on 15 (fPwEn group) = true) ∧ (s.pkg.on 15
    (fPwPg group) = false) ∧ (s.noEthWaits) ∧ (group = 4) ∧ (s.pkg.warmPath = true) :=
  ⟨(4), (stOf ((((({ upPkg with power := { bat := 2, phase := 1 } } : Pkg).put 15 fMode mWaking).put 15 (fPwEn 4) 1).put 15 fPwParts 127).put 15 fWarmValid
      1)), by decide +kernel⟩
theorem witness_RailsAndTemperature_3 : ∃ group : Nat, ∃ s : State, (group < 5) ∧ (s.pkg.power.phase = 1) ∧ (s.pkg.on 15 (fPwEn group) = true) ∧ (s.pkg.on 15
    (fPwPg group) = false) ∧ (s.noEthWaits) ∧ (group = 4) ∧ (s.pkg.warmPath = false) :=
  ⟨(4), (stOf (((({ upPkg with power := { bat := 2, phase := 1 } } : Pkg).put 15 fMode mWaking).put 15 (fPwEn 4) 1).put 15 fPwParts 127)), by decide +kernel⟩
theorem witness_RailsAndTemperature_4 : ∃ group : Nat, ∃ s : State, (group < 5) ∧ (s.pkg.power.phase = 1) ∧ (s.pkg.on 15 (fPwEn group) = true) ∧ (s.pkg.on 15
    (fPwPg group) = false) ∧ (s.noEthWaits) :=
  ⟨(4), (stOf (((({ upPkg with power := { bat := 2, phase := 1 } } : Pkg).put 15 fMode mWaking).put 15 (fPwEn 4) 1).put 15 fPwParts 127)), by decide +kernel⟩
theorem witness_RailsAndTemperature_5 : ∃ group : Nat, ∃ s : State, (group < 5) ∧ ((s.pkg.power.phase = 1 ∨ s.pkg.power.phase = 2)) ∧ (s.pkg.on 15 (fPwEn
    group) = true) ∧ (s.pkg.on 15 (fPwPg group) = true) :=
  ⟨(4), (stOf ((upPkg.put 15 (fPwEn 4) 1).put 15 (fPwPg 4) 1)), by decide +kernel⟩
theorem witness_RailsAndTemperature_6 : ∃ group : Nat, ∃ s : State, (group < 5) ∧ (s.pkg.power.phase = 3) ∧ (s.pkg.on 15 (fPwEn group) = true) ∧ ((∀ g <
    5, group < g → s.pkg.on 15 (fPwEn g) = false)) ∧ (s.pkg.power.restart = false) ∧ (s.pkg.power.wake = none) :=
  ⟨(3), (stOf (({ parkPkg with power := { bat := 2, phase := 3 } } : Pkg).put 15 (fPwEn 3) 1)), by decide +kernel⟩
theorem witness_RailsAndTemperature_7 : ∃ tile : Nat, ∃ temp : Int, ∃ s : State, (s.pkg.tileOn tile = true) ∧ (-128 ≤ temp) ∧ (temp ≤ 127) :=
  ⟨(6), (-40), (up), by decide +kernel⟩
theorem witness_RailsAndTemperature_8 : ∃ tile : Nat, ∃ s : State, (2 ≤ tile) ∧ (s.pkg.inService tile = true) ∧ (s.pkg.inService 0 = true) ∧ (s.pkg.modeNow
    = mRun) ∧ (s.pkg.ks.active = false) ∧ (s.calm) :=
  ⟨(6), (up), by decide +kernel⟩
theorem witness_RailsAndTemperature_9 : ∃ s : State, (s.pkg.power.notBefore ≠ 0) ∧ (s.pkg.power.wake = none) :=
  ⟨(stOf { parkPkg with power := { bat := 2, notBefore := 9999, restart := true } }), by decide +kernel⟩
theorem witness_RoundsAndVotes_0 : ∃ tile : Nat, ∃ at_ : Nat, ∃ run : RoundRun, ∃ s : State, (s.pkg.runsRounds tile = true) ∧ ((s.pkg.cluster tile).closed
    = false) ∧ ((s.pkg.runRound tile run (leadCount (countsOf (s.pkg.coresIn tile) run))).held.length ≤ 512) ∧ ((s.pkg.runRound tile run (leadCount (countsOf
    (s.pkg.coresIn tile) run))).log.length ≤ 4096) ∧ (closeTogether (countsOf (s.pkg.coresIn tile) run) = true) ∧ ((if run.early = none then (s.pkg.reach
    at_).countNs tile % (1000 * s.pkg.get tile fRoundUs) = 0 else run.early = some 0 ∨ run.early = some (s.pkg.closeCode tile (s.pkg.runRound tile run
    (leadCount (countsOf (s.pkg.coresIn tile) run))) run))) ∧ ((tile ≠ s.pkg.steward ∨ s.pkg.mode.debugReq = none)) :=
  ⟨(0), (0), ({ irqs := [3], counts := [100, 90, 80] }), (stOf (upPkg.put 0 fCoresIn 7)), by decide +kernel⟩
theorem witness_RoundsAndVotes_1 : ∃ tile : Nat, ∃ at_ : Nat, ∃ run : RoundRun, ∃ s : State, (s.pkg.runsRounds tile = true) ∧ ((s.pkg.cluster tile).closed
    = false) ∧ ((s.pkg.runRound tile run (leadCount (countsOf (s.pkg.coresIn tile) run))).held.length ≤ 512) ∧ ((s.pkg.runRound tile run (leadCount (countsOf
    (s.pkg.coresIn tile) run))).log.length ≤ 4096) ∧ (closeTogether (countsOf (s.pkg.coresIn tile) run) = true) ∧ ((if run.early = none then (s.pkg.reach
    at_).countNs tile % (1000 * s.pkg.get tile fRoundUs) = 0 else run.early = some 0 ∨ run.early = some (s.pkg.closeCode tile (s.pkg.runRound tile run
    (leadCount (countsOf (s.pkg.coresIn tile) run))) run))) ∧ (tile = s.pkg.steward) ∧ (s.pkg.mode.debugReq = some 1) ∧ (s.pkg.modeNow ≠ mActivating) ∧
    (s.pkg.levelAllowed s.pkg.modeNow s.pkg.life 1 = true) ∧ (s.pkg.get 15 fDebugLevel ≠ 2) :=
  ⟨(0), (1000), ({ early := some 5, irqs := [3], counts := [100, 90, 80] }), (stOf
      { (upPkg.put 0 fCoresIn 7) with mode := { upPkg.mode with govLife := lProvisioned, debugReq := some 1 } }), by decide +kernel⟩
theorem witness_RoundsAndVotes_2 : ∃ tile : Nat, ∃ core : Nat, ∃ s : State, (s.pkg.runsRounds tile = true) ∧ ((s.pkg.cluster tile).closed = true) ∧ (core <
    3) :=
  ⟨(0), (2), (stOf ((upPkg.put 0 fCoresIn 7).setCluster 0 { closed := true })), by decide +kernel⟩
theorem witness_RoundsAndVotes_3 : ∃ tile : Nat, ∃ v : VoteIn, ∃ e : OutEntry, ∃ s : State, (s.pkg.runsRounds tile = true) ∧ ((s.pkg.cluster tile).closed
    = true) ∧ (s.settled) ∧ (agreed (ballots (s.pkg.coresIn tile) (s.pkg.cluster tile).missing v.first) = true) ∧ (v.input = false) ∧ ((s.pkg.cluster
    tile).badInput = false) ∧ ((s.pkg.cluster tile).since + 1 < s.pkg.get tile fInjectPeriod) ∧ ((s.pkg.cluster tile).held = [e]) ∧ (e.be.length
    = e.data.length) ∧ (s.pkg.coreKind tile e.addr = .data) ∧ ((∀ i < e.data.length, s.pkg.local tile (e.addr + i) = .byte)) ∧ (e.data ≠ []) :=
  ⟨(0), ({ first := [(some (5, 6) : Option (Quad × Quad)), (some (5, 6) : Option (Quad × Quad)), (some (5, 6) : Option (Quad × Quad))], testOk := false }), ⟨0x100000040, [1#8, 2#8], [true, false]⟩, (stOf (((upPkg.put 0 fCoresIn 7).setCluster 0 { closed := true, held := [⟨0x100000040, [1#8, 2#8], [true, false]⟩] }).put 0 fInjectPeriod 9)), by decide +kernel⟩
theorem witness_RoundsAndVotes_4 : ∃ tile : Nat, ∃ v : VoteIn, ∃ s : State, (s.pkg.runsRounds tile = true) ∧ ((s.pkg.cluster tile).closed = true) ∧
    ((s.pkg.cluster tile).held = []) ∧ ((s.pkg.cluster tile).leaving = []) ∧ (agreed (ballots (s.pkg.coresIn tile) (s.pkg.cluster tile).missing v.first)
    = true) ∧ ((v.input || (s.pkg.cluster tile).badInput) = false) ∧ ((decide (s.pkg.get tile fInjectPeriod ≤ (s.pkg.cluster tile).since + 1)) = false) :=
  ⟨(0), ({ first := [(some (5, 6) : Option (Quad × Quad)), (some (5, 6) : Option (Quad × Quad)), (some (5, 6) : Option (Quad × Quad))] }), (stOf (((upPkg.put 0
      fCoresIn 7).setCluster 0 { closed := true }).put 0 fInjectPeriod 2)), by decide +kernel⟩
theorem witness_RoundsAndVotes_5 : ∃ tile : Nat, ∃ v : VoteIn, ∃ s : State, (s.pkg.runsRounds tile = true) ∧ ((s.pkg.cluster tile).closed = true) ∧
    ((s.pkg.cluster tile).held = []) ∧ ((s.pkg.cluster tile).leaving = []) ∧ (agreed (ballots (s.pkg.coresIn tile) (s.pkg.cluster tile).missing v.first)
    = true) ∧ ((v.input || (s.pkg.cluster tile).badInput) = false) ∧ ((decide (s.pkg.get tile fInjectPeriod ≤ (s.pkg.cluster tile).since + 1)) = true) ∧
    (v.testOk = true) :=
  ⟨(0), ({ first := [(some (5, 6) : Option (Quad × Quad)), (some (5, 6) : Option (Quad × Quad)), (some (5, 6) : Option (Quad × Quad))] }), (stOf (((upPkg.put 0
      fCoresIn 7).setCluster 0 { closed := true }).put 0 fInjectPeriod 1)), by decide +kernel⟩
theorem witness_RoundsAndVotes_6 : ∃ tile : Nat, ∃ v : VoteIn, ∃ s : State, (s.pkg.runsRounds tile = true) ∧ ((s.pkg.cluster tile).closed = true) ∧
    ((s.pkg.cluster tile).held = []) ∧ ((s.pkg.cluster tile).leaving = []) ∧ (agreed (ballots (s.pkg.coresIn tile) (s.pkg.cluster tile).missing v.first)
    = true) ∧ ((v.input || (s.pkg.cluster tile).badInput) = false) ∧ ((decide (s.pkg.get tile fInjectPeriod ≤ (s.pkg.cluster tile).since + 1)) = true) ∧
    (v.testOk = false) :=
  ⟨(0), ({ first := [(some (5, 6) : Option (Quad × Quad)), (some (5, 6) : Option (Quad × Quad)), (some (5, 6) : Option (Quad × Quad))], testOk := false }), (stOf (((upPkg.put 0 fCoresIn 7).setCluster 0 { closed := true }).put 0 fInjectPeriod 1)), by decide +kernel⟩
theorem witness_RoundsAndVotes_7 : ∃ tile : Nat, ∃ v : VoteIn, ∃ s : State, (s.pkg.runsRounds tile = true) ∧ ((s.pkg.cluster tile).closed = true) ∧
    ((s.pkg.cluster tile).held = []) ∧ ((s.pkg.cluster tile).leaving = []) ∧ ((agreed (ballots (s.pkg.coresIn tile) (s.pkg.cluster tile).missing v.first)
    = false ∨ (v.input || (s.pkg.cluster tile).badInput) = true)) ∧ (agreed (ballots (s.pkg.coresIn tile) [] v.replay) = true) :=
  ⟨(0), ({ first := [(some (5, 6) : Option (Quad × Quad)), (some (5, 6) : Option (Quad × Quad)), (some (5, 7) : Option (Quad × Quad))], replay := [(some (5, 6) : Option (Quad × Quad)), (some (5, 6) : Option (Quad × Quad)), (some (5, 6) : Option (Quad × Quad))] }), (stOf ((upPkg.put 0 fCoresIn 7).setCluster 0 { closed := true })), by decide +kernel⟩
theorem witness_RoundsAndVotes_8 : ∃ tile : Nat, ∃ v : VoteIn, ∃ s : State, ∃ x : Quad × Quad, ∃ k : Nat, (s.pkg.runsRounds tile = true) ∧ ((s.pkg.cluster
    tile).closed = true) ∧ ((s.pkg.cluster tile).held = []) ∧ ((s.pkg.cluster tile).leaving = []) ∧ ((agreed (ballots (s.pkg.coresIn tile) (s.pkg.cluster
    tile).missing v.first) = false ∨ (v.input || (s.pkg.cluster tile).badInput) = true)) ∧ (agreed (ballots (s.pkg.coresIn tile) [] v.replay) = false) ∧
    (s.pkg.get tile fCluster = clTmr) ∧ (majority (ballots (s.pkg.coresIn tile) [] v.replay) = some x) ∧ (dissenters (ballots (s.pkg.coresIn tile)
    (s.pkg.cluster tile).missing v.first) = [k]) ∧ (dissenters (ballots (s.pkg.coresIn tile) [] v.replay) = [k]) :=
  ⟨(0), ({ first := [(some (5, 6) : Option (Quad × Quad)), (some (5, 6) : Option (Quad × Quad)), (some (5, 7) : Option (Quad × Quad))], replay := [(some (5, 6) : Option (Quad × Quad)), (some (5, 6) : Option (Quad × Quad)), (some (5, 7) : Option (Quad × Quad))] }), (stOf ((upPkg.put 0 fCoresIn 7).setCluster 0 { closed := true })), ((5, 6)), (2), by decide +kernel⟩
theorem witness_RoundsAndVotes_9 : ∃ tile : Nat, ∃ v : VoteIn, ∃ s : State, (s.pkg.runsRounds tile = true) ∧ ((s.pkg.cluster tile).closed = true) ∧
    ((s.pkg.cluster tile).held = []) ∧ ((s.pkg.cluster tile).leaving = []) ∧ ((agreed (ballots (s.pkg.coresIn tile) (s.pkg.cluster tile).missing v.first)
    = false ∨ (v.input || (s.pkg.cluster tile).badInput) = true)) ∧ (agreed (ballots (s.pkg.coresIn tile) [] v.replay) = false) ∧ ((s.pkg.get tile fCluster ≠
    clTmr ∨ majority (ballots (s.pkg.coresIn tile) [] v.replay) = none ∨ (dissenters (ballots (s.pkg.coresIn tile) (s.pkg.cluster tile).missing
    v.first)).length ≠ 1 ∨ dissenters (ballots (s.pkg.coresIn tile) (s.pkg.cluster tile).missing v.first) ≠ dissenters (ballots (s.pkg.coresIn tile) []
    v.replay))) :=
  ⟨(0), ({ first := [(some (5, 6) : Option (Quad × Quad)), (some (5, 6) : Option (Quad × Quad)), (some (5, 7) : Option (Quad × Quad))], replay := [(some (5, 6) : Option (Quad × Quad)), (some (5, 7) : Option (Quad × Quad)), (some (5, 6) : Option (Quad × Quad))] }), (stOf ((upPkg.put 0 fCoresIn 7).setCluster 0 { closed := true })), by decide +kernel⟩
theorem witness_StandbyAndRestarts_0 : ∃ d : Quad, ∃ ok : Bool, ∃ s : State, (s.pkg.standby.isSome = true) ∧ (s.pkg.get 1 fRole = roleStandby) ∧ ((s.pkg.health
    = hHealthy ∨ (s.pkg.health = hSyncing ∧ (s.pkg.cluster 1).synced = true))) ∧ ((s.pkg.cluster s.pkg.steward).digest = some d) ∧ (ok = true) :=
  ⟨(5), (true), (stOf (((upPkg.setHealth hSyncing).setCluster 1 { synced := true, closed := false }).setCluster 0 { digest := some 5 })), by decide +kernel⟩
theorem witness_StandbyAndRestarts_1 : ∃ d : Quad, ∃ ok : Bool, ∃ s : State, ∃ x, (s.pkg.standby.isSome = true) ∧ (s.pkg.get 1 fRole = roleStandby) ∧
    ((s.pkg.health = hHealthy ∨ (s.pkg.health = hSyncing ∧ (s.pkg.cluster 1).synced = true))) ∧ ((s.pkg.cluster s.pkg.steward).digest = some x) ∧ (x ≠ d) ∧ (ok
    = true) :=
  ⟨(6), (true), (stOf (((upPkg.setHealth hSyncing).setCluster 1 { synced := true, closed := false }).setCluster 0 { digest := some 5 })), (5), by
      decide +kernel⟩
theorem witness_StandbyAndRestarts_2 : ∃ ok : Bool, ∃ s : State, (s.pkg.standby.isSome = true) ∧ (s.pkg.get 1 fRole = roleStandby) ∧ ((s.pkg.health = hHealthy
    ∨ (s.pkg.health = hSyncing ∧ (s.pkg.cluster 1).synced = true))) ∧ ((s.pkg.cluster s.pkg.steward).digest.isSome = true) ∧ (ok = false) :=
  ⟨(false), (stOf (((upPkg.setHealth hSyncing).setCluster 1 { synced := true, closed := false }).setCluster 0 { digest := some 5 })), by decide +kernel⟩
theorem witness_StandbyAndRestarts_3 : ∃ s : State, (s.pkg.standby.isSome = true) ∧ (s.pkg.health = hSyncing) :=
  ⟨(stOf (upPkg.setHealth hSyncing)), by decide +kernel⟩
theorem witness_StandbyAndRestarts_4 : ∃ cause : StbyCause, ∃ at_ : Nat, ∃ s : State, (s.calm) ∧ ((s.pkg.trestle 1).ready = []) ∧ ((s.pkg.reach at_).detects
    cause = true) ∧ ((∀ p ∈ [24, 25, 26, 27], (s.pkg.port 0 p).tx = none ∧ (s.pkg.port 0 p).susp = none ∧ ∀ q < 8, s.pkg.queue 0 p q = [])) ∧ (s.pkg.unmirrored
    = []) ∧ (s.pkg.ks.active = false) :=
  ⟨(.reported), (1000), (stOf (((up.pkg.setHealth hHealthy).setCluster 0 { reports := true }))), by decide +kernel⟩
theorem witness_StandbyAndRestarts_5 : ∃ tile : Nat, ∃ at_ : Nat, ∃ s : State, (s.calm) ∧ (s.pkg.runsRounds tile = true) ∧ (s.pkg.inService tile = true) ∧
    ((tile ≠ s.pkg.steward ∨ s.pkg.standbyReady = false)) ∧ ((s.pkg.cluster tile).reports = true) ∧ (((s.pkg.cluster tile).restarts.filter (fun u => decide
    ((s.pkg.reach at_).now < u + ns (10 * 1000000000)))) = []) :=
  ⟨(0), (1000), (stOf (((upPkg.put 0 fCoresIn 7).put 1 fRole roleManager).setCluster 0 { reports := true })), by decide +kernel⟩
theorem witness_StandbyAndRestarts_6 : ∃ tile : Nat, ∃ at_ : Nat, ∃ s : State, (s.calm) ∧ (s.pkg.runsRounds tile = true) ∧ (s.pkg.inService tile = true) ∧
    ((tile ≠ s.pkg.steward ∨ s.pkg.standbyReady = false)) ∧ ((s.pkg.cluster tile).reports = true) ∧ (((s.pkg.cluster tile).restarts.filter (fun u => decide
    ((s.pkg.reach at_).now < u + ns (10 * 1000000000)))) ≠ []) ∧ (tile = s.pkg.steward) ∧ (s.pkg.power.phase ≠ 0) :=
  ⟨(0), (1000), (stOf ((((upPkg.put 0 fCoresIn 7).put 1 fRole roleManager).setCluster 0 { reports := true }).setCluster 0
      { reports := true, restarts := [1] })), by decide +kernel⟩
theorem witness_StandbyAndRestarts_7 : ∃ tile : Nat, ∃ s : State, (s.pkg.inService tile = true) ∧ (s.pkg.get tile fRole = roleRestarting) ∧ ((tile ≠
    s.pkg.steward ∨ s.pkg.on 0 fUpTrial = false)) :=
  ⟨(0), (stOf (upPkg.put 0 fRole roleRestarting)), by decide +kernel⟩
theorem witness_StandbyAndRestarts_8 : ∃ a : Acc, ∃ tile : Nat, ∃ v : Word, ∃ s : State, (tile < 7) ∧ (s.pkg.reaches a.req tile 0x1D00008 v) ∧ (v.getLsbD 0
    = true) ∧ (s.pkg.get tile fCluster = clSplit) :=
  ⟨(byFw), (0), (1), (stOf (upPkg.put 0 fCluster clSplit)), by decide +kernel⟩
theorem witness_StandbyAndRestarts_9 : ∃ a : Acc, ∃ tile : Nat, ∃ v : Word, ∃ s : State, (tile < 7) ∧ (s.pkg.reaches a.req tile 0x1D0000C v) ∧ (v.getLsbD 0
    = true) :=
  ⟨(byFw), (0), (1), (stOf (upPkg.put 0 fDoubtCount 3)), by decide +kernel⟩
theorem witness_CensusEffects_0 : ∃ die : Nat, ∃ at_ : Nat, ∃ s : State, (die < 7) ∧ (s.pkg.tileOn die = true) ∧ (s.pkg.on die fPeriodic = true) ∧ (s.pkg.get
    die fIntervalUs ≠ 0) ∧ (at_ % us (s.pkg.get die fIntervalUs) = 0) :=
  ⟨(0), (1000000), (stOf ((upPkg.put 0 fPeriodic 1).put 0 fIntervalUs 10)), by decide +kernel⟩
theorem witness_CensusEffects_1 : ∃ die : Nat, ∃ ts : Nat, ∃ s : State, (s.pkg.dieOn die = true) ∧ ((s.pkg.cenDie die).pend = some ts) :=
  ⟨(15), (5000), (stOf (upPkg.setCenDie 15 { pend := some 5000 })), by decide +kernel⟩
theorem witness_CensusEffects_2 : ∃ a : Acc, ∃ tile : Nat, ∃ v : Word, ∃ s : State, (tile < 7) ∧ (s.pkg.reaches a.req tile 0x1E00008 v) ∧ (v.getLsbD 0 = true)
    ∧ (tile = s.pkg.steward) ∧ (s.pkg.get tile fCenState = 0) ∧ ((∀ u ∈ s.pkg.present, s.pkg.inService u = true)) ∧ (((s.pkg.reach a.at_).countNs tile) ≤ (if
    v.getLsbD 1 then s.pkg.rd64 tile oCenAt else ((s.pkg.reach a.at_).countNs tile) + us (s.pkg.get tile fLeadUs))) :=
  ⟨(byFw), (0), (1), (up), by decide +kernel⟩
theorem witness_CensusEffects_3 : ∃ a : Acc, ∃ tile : Nat, ∃ v : Word, ∃ s : State, (tile < 7) ∧ (s.pkg.reaches a.req tile 0x1E00008 v) ∧ (v.getLsbD 0 = true)
    ∧ (tile = s.pkg.steward) ∧ (s.pkg.get tile fCenState ≠ 0) :=
  ⟨(byFw), (0), (1), (stOf (upPkg.put 0 fCenState 2)), by decide +kernel⟩
theorem witness_CensusEffects_4 : ∃ die : Nat, ∃ s : State, (s.pkg.cenReq.active = true) ∧ (die ∈ s.pkg.cenReq.unsent) ∧ (s.pkg.dieOn die = true) ∧
    (s.pkg.pathUp s.pkg.cenReq.tile die = true) :=
  ⟨(1), (stOf { upPkg with cenReq := ⟨true, 0, 5000000, [0, 1], [1], false⟩ }), by decide +kernel⟩
theorem witness_CensusEffects_5 : ∃ die : Nat, ∃ at_ : Nat, ∃ b : CenBank, ∃ s : State, (die < 7) ∧ (s.pkg.tileOn die = true) ∧ ((s.pkg.cenDie die).bank = some
    b) ∧ (b.vals.length ≤ 4656) ∧ (s.pkg.on die fCenHold = false ∨ (s.pkg.cenDie die).heldAt = some (s.pkg.reach at_).now) :=
  ⟨(1), (1000000), ((⟨1000, 1001, 0, [7]⟩ : CenBank)), (stOf (upPkg.setCenDie 1 { bank := some (⟨1000, 1001, 0, [7]⟩ : CenBank) })), by decide +kernel⟩
theorem witness_CensusEffects_6 : ∃ die : Nat, ∃ at_ : Nat, ∃ b : CenBank, ∃ s : State, (die < 7) ∧ (s.pkg.tileOn die = true) ∧ ((s.pkg.cenDie die).bank = some
    b) ∧ (b.vals.length ≤ 4656) ∧ (s.pkg.on die fCenHold = true) ∧ ((s.pkg.cenDie die).heldAt ≠ some (s.pkg.reach at_).now) :=
  ⟨(1), (1000000), ((⟨1000, 1001, 0, [7]⟩ : CenBank)), (stOf ((upPkg.setCenDie 1 { bank := some (⟨1000, 1001, 0, [7]⟩ : CenBank) }).put 1 fCenHold 1)), by
      decide +kernel⟩
theorem witness_CensusEffects_7 : ∃ die : Nat, ∃ s : State, ((die < 7 ∨ die = 15)) ∧ (s.pkg.cenReq.active = true) ∧ (die ∈ s.pkg.cenReq.left) :=
  ⟨(15), (stOf { upPkg with cenReq := ⟨true, 0, 5000000, [0, 15], [15], false⟩ }), by decide +kernel⟩
theorem witness_CensusEffects_8 : ∃ a : Acc, ∃ tile : Nat, ∃ s : State, (tile < 7) ∧ (s.pkg.reaches a.req tile 0x1E00000 (s.pkg.holdWord tile true)) ∧
    (s.pkg.on tile fCenHold = false) ∧ (((s.pkg.reach a.at_).remember a.req tile 0x1E00000 (s.pkg.holdWord tile true)).takes tile 0x1E00000 (s.pkg.holdWord
    tile true) = true) :=
  ⟨(byFw), (0), (up), by decide +kernel⟩
theorem witness_CensusEffects_9 : ∃ a : Acc, ∃ tile : Nat, ∃ s : State, ∃ b, (tile < 7) ∧ (s.pkg.reaches a.req tile 0x1E00000 (s.pkg.holdWord tile false)) ∧
    (s.pkg.on tile fCenHold = true) ∧ (((s.pkg.reach a.at_).remember a.req tile 0x1E00000 (s.pkg.holdWord tile false)).takes tile 0x1E00000 (s.pkg.holdWord
    tile false) = true) ∧ ((s.pkg.cenDie tile).waiting = some b) ∧ (b.vals.length ≤ 4656) ∧ ((tile = s.pkg.steward → (s.pkg.cenDie 15).waiting = none)) :=
  ⟨(byFw), (0), (stOf ((upPkg.setCenDie 0 { waiting := some (⟨1000, 1001, 0, [7]⟩ : CenBank) }).put 0 fCenHold 1)), ((⟨1000, 1001, 0, [7]⟩ : CenBank)), by
      decide +kernel⟩
theorem witness_JournalEffects_0 : ∃ a : Acc, ∃ tile : Nat, ∃ v : Word, ∃ s : State, (tile < 7) ∧ (s.pkg.reaches a.req tile 0x1E00100 v) ∧ ((s.pkg.jnlSt
    tile).lost = 0) ∧ (jnlTypeNamed (fieldGet v 15 0) = true) ∧ (fieldGet v 27 16 ≤ 4072) ∧ ((s.pkg.jnlSt tile).bytes + (jnlBytes (fieldGet v 15 0)
    (s.pkg.reach a.at_).nowNs (s.pkg.rd tile oJnlSeq).toNat tile (s.pkg.get tile fCsNode) (s.pkg.bytesAt tile 0x1E01000 (fieldGet v 27 16))).length ≤ 57344) :=
  ⟨(byFw), (0), (0x00040001), (up), by decide +kernel⟩
theorem witness_JournalEffects_1 : ∃ a : Acc, ∃ tile : Nat, ∃ v : Word, ∃ s : State, (tile < 7) ∧ (s.pkg.reaches a.req tile 0x1E00100 v) ∧ ((s.pkg.jnlSt
    tile).lost = 0) ∧ (jnlTypeNamed (fieldGet v 15 0) = true) ∧ (fieldGet v 27 16 ≤ 4072) ∧ (57344 < (s.pkg.jnlSt tile).bytes + (jnlBytes (fieldGet v 15 0)
    (s.pkg.reach a.at_).nowNs (s.pkg.rd tile oJnlSeq).toNat tile (s.pkg.get tile fCsNode) (s.pkg.bytesAt tile 0x1E01000 (fieldGet v 27 16))).length) :=
  ⟨(byFw), (0), (0x00040001), (stOf (upPkg.setJnlSt 0 { queue := [zeros 57340] })), by decide +kernel⟩
theorem witness_JournalEffects_2 : ∃ s : State, ∃ a : Acc, ((∀ d < 7, (s.pkg.jnlSt d).queue = [])) ∧ (s.pkg.on 0 fStMounted = true) ∧ (s.pkg.keeper.busy
    = false) ∧ (s.pkg.keeper.buf ≠ []) ∧ (s.pkg.keeper.buf.length < s.pkg.pageSize) ∧ ((s.pkg.pageSize - s.pkg.keeper.buf.length) % 4 = 0) ∧ (s.pkg.reaches
    a.req 0 0x1F00014 1) :=
  ⟨(stOf (stPkg.onKeeper (fun k => { k with buf := zeros 48, first := some 500, open_ := some 7 }))), (byFw), by decide +kernel⟩
theorem witness_JournalEffects_3 : ∃ s : State, ∃ u, ((∀ d < 7, (s.pkg.jnlSt d).queue = [])) ∧ (s.pkg.on 0 fStMounted = true) ∧ (s.pkg.keeper.busy = false) ∧
    (s.pkg.keeper.buf ≠ []) ∧ (s.pkg.keeper.buf.length < s.pkg.pageSize) ∧ ((s.pkg.pageSize - s.pkg.keeper.buf.length) % 4 = 0) ∧ (s.pkg.keeper.first = some u)
    ∧ (s.pkg.tileOn 0 = true) :=
  ⟨(stOf (stPkg.onKeeper (fun k => { k with buf := zeros 48, first := some 500, open_ := some 7 }))), (500), by decide +kernel⟩
theorem witness_JournalEffects_4 : ∃ s : State, ∃ b : Nat, ((∀ d < 7, (s.pkg.jnlSt d).queue = [])) ∧ (s.pkg.tileOn 0 = true) ∧ (s.pkg.on 0 fStMounted = true) ∧
    (s.pkg.keeper.busy = true) ∧ (s.pkg.keeper.open_ = some b) ∧ ((s.pkg.block b).pages.length < s.pkg.blockPages) ∧ (4 ≤ s.pkg.freeBlocks) ∧ ((∀ e ∈
    s.pkg.keeper.times, recType e.2 < 0x8000)) :=
  ⟨(stOf (stPkg.onKeeper (fun k => { k with buf := zeros 2048, busy := true, open_ := some 7, blocks := [(7, { kind := 1 })] }))), (7), by decide +kernel⟩
theorem witness_JournalEffects_5 : ∃ s : State, ∃ b : Nat, ((∀ d < 7, (s.pkg.jnlSt d).queue = [])) ∧ (s.pkg.tileOn 0 = true) ∧ (s.pkg.on 0 fStMounted = true) ∧
    (s.pkg.keeper.busy = true) ∧ (s.pkg.keeper.open_ = some b) ∧ ((s.pkg.block b).pages.length < s.pkg.blockPages) :=
  ⟨(stOf (stPkg.onKeeper (fun k => { k with buf := zeros 2048, busy := true, open_ := some 7, blocks := [(7, { kind := 1 })] }))), (7), by decide +kernel⟩
theorem witness_JournalEffects_6 : ∃ s : State, ∃ b : Nat, ∃ c, ((∀ d < 7, (s.pkg.jnlSt d).queue = [])) ∧ (s.pkg.tileOn 0 = true) ∧ (s.pkg.on 0 fStMounted
    = true) ∧ (s.pkg.keeper.busy = true) ∧ (s.pkg.keeper.open_ = some b) ∧ (s.pkg.blockPages ≤ (s.pkg.block b).pages.length) ∧ (s.pkg.pickFree false = some c)
    ∧ (c ≠ b) :=
  ⟨(stOf (stPkg.onKeeper (fun k =>
      { k with buf := zeros 2048, busy := true, open_ := some 7, blocks := [(7, { kind := 1, pages := List.replicate 64 ⟨4, [], []⟩ })] }))), (7), (0), by
      decide +kernel⟩
theorem witness_JournalEffects_7 : ∃ s : State, ∃ d : NandFound, ((∀ d < 7, (s.pkg.jnlSt d).queue = [])) ∧ (s.pkg.tileOn 0 = true) ∧ (s.pkg.on 0 fStMounted
    = false) ∧ (s.pkg.on 0 fStUnsupported = false) ∧ ((d.supported = false ∨ d.blocks < 1024 ∨ 16384 < d.blocks)) :=
  ⟨(up), ⟨5, 1023, true, true, true, true, [], false⟩, by decide +kernel⟩
theorem witness_JournalEffects_8 : ∃ s : State, ∃ d : NandFound, ((∀ d < 7, (s.pkg.jnlSt d).queue = [])) ∧ (s.pkg.tileOn 0 = true) ∧ (s.pkg.on 0 fStMounted
    = false) ∧ (s.pkg.on 0 fStUnsupported = false) ∧ (d.supported = true) ∧ (1024 ≤ d.blocks) ∧ (d.blocks ≤ 16384) :=
  ⟨(up), ⟨5, 2048, false, true, true, true, [], false⟩, by decide +kernel⟩
theorem witness_StorageKeeper_0 : ∃ a : Acc, ∃ area : Nat, ∃ s : State, (s.pkg.reaches a.req 0 0x1F00014 (BitVec.ofNat 32 (2 + 4 * (area % 2)))) ∧ (s.pkg.on 0
    fStMounted = true) ∧ (s.pkg.keeper.rd = none) :=
  ⟨(byFw), (1), (stOf stPkg), by decide +kernel⟩
theorem witness_StorageKeeper_1 : ∃ a : Acc, ∃ area : Nat, ∃ s : State, (s.pkg.reaches a.req 0 0x1F00014 (BitVec.ofNat 32 (2 + 4 * (area % 2)))) ∧
    (s.pkg.keeper.rd.isSome = true) :=
  ⟨(byFw), (1), (stOf (stPkg.onKeeper (fun k => { k with rd := some (0, [{ bytes := jnlBytes 3 5 0 0 0 [] }]) }))), by decide +kernel⟩
theorem witness_StorageKeeper_2 : ∃ a : Acc, ∃ s : State, (s.pkg.reaches a.req 0 0x1F00014 8) :=
  ⟨(byFw), (stOf (stPkg.onKeeper (fun k => { k with rd := some (0, [{ bytes := jnlBytes 3 5 0 0 0 [] }]) }))), by decide +kernel⟩
theorem witness_StorageKeeper_3 : ∃ area : Nat, ∃ ecc : List (Option Nat), ∃ r : JnlRec, ∃ l : List JnlRec, ∃ s : State, (s.settled) ∧ (s.pkg.tileOn 0 = true)
    ∧ (s.pkg.keeper.rd = some (area, r :: l)) ∧ (s.pkg.get 0 fRdExp ≤ 12) ∧ (((s.pkg.get 0 fRdProd) + 1) % (2 ^ s.pkg.get 0 fRdExp) ≠ s.pkg.get 0 fRdCons % (2
    ^ s.pkg.get 0 fRdExp)) ∧ ((s.pkg.rd64 0 0x1F00020 + 4096 * ((s.pkg.get 0 fRdProd) % (2 ^ s.pkg.get 0 fRdExp))) + r.bytes.length ≤ 2 ^ 40) ∧ (ecc = []) ∧
    (s.pkg.readable r = true) :=
  ⟨(1), ([]), ({ bytes := jnlBytes 3 5 0 0 0 [] }), ([]), (stOf (((stPkg.put 0 fRdExp 3).wr 0 0x1F00024 1).onKeeper (fun k =>
      { k with rd := some (1, [{ bytes := jnlBytes 3 5 0 0 0 [] }]) }))), by decide +kernel⟩
theorem witness_StorageKeeper_4 : ∃ area : Nat, ∃ ecc : List (Option Nat), ∃ r : JnlRec, ∃ l : List JnlRec, ∃ s : State, ∃ c : CodeAt, (s.settled) ∧
    (s.pkg.tileOn 0 = true) ∧ (s.pkg.keeper.rd = some (area, r :: l)) ∧ (s.pkg.get 0 fRdExp ≤ 12) ∧ (((s.pkg.get 0 fRdProd) + 1) % (2 ^ s.pkg.get 0 fRdExp) ≠
    s.pkg.get 0 fRdCons % (2 ^ s.pkg.get 0 fRdExp)) ∧ (r.place = [c]) ∧ (ecc = [none]) ∧ (c.page < (s.pkg.block c.block).pages.length) ∧ (1024 * c.code <
    s.pkg.pageSize) :=
  ⟨(1), ([none]), ({ bytes := jnlBytes 3 5 0 0 0 [], place := [⟨7, 0, 1⟩] }), ([]), (stOf (((stPkg.put 0 fRdExp 3).wr 0 0x1F00024 1).onKeeper (fun k =>
      { k with rd := some (1, [{ bytes := jnlBytes 3 5 0 0 0 [], place := [⟨7, 0, 1⟩] }]), blocks := [(7, { kind := 1, pages := [⟨4, zeros 2048, []⟩] })] }))), ⟨7, 0, 1⟩, by decide +kernel⟩
theorem witness_StorageKeeper_5 : ∃ block : Nat, ∃ s : State, (s.pkg.on 0 fStMounted = true) ∧ (((s.pkg.block block).kind = 1 ∨ (s.pkg.block block).kind = 2 ∨
    (s.pkg.block block).kind = 3)) ∧ (s.pkg.keeper.open_ ≠ some block) ∧ (s.pkg.keeper.openRet ≠ some block) ∧ (s.pkg.get 0 fReadLimit ≤ (s.pkg.block
    block).reads) :=
  ⟨(7), (stOf (stPkg.onKeeper (fun k => { k with blocks := [(7, { kind := 1, reads := 1000 })] }))), by decide +kernel⟩
theorem witness_StorageKeeper_6 : ∃ block : Nat, ∃ at_ : Nat, ∃ s : State, (s.pkg.on 0 fStMounted = true) ∧ (((s.pkg.block block).kind = 1 ∨ (s.pkg.block
    block).kind = 2 ∨ (s.pkg.block block).kind = 3)) ∧ (s.pkg.keeper.open_ ≠ some block) ∧ (s.pkg.keeper.openRet ≠ some block) ∧ ((s.pkg.block block).reads <
    s.pkg.get 0 fReadLimit) ∧ ((s.pkg.block block).touched + s.pkg.get 0 fScrubDays * dayNs ≤ (s.pkg.reach at_).nowNs) :=
  ⟨(7), (1000), (stOf ((stPkg.put 0 fScrubDays 0).onKeeper (fun k => { k with blocks := [(7, { kind := 1, reads := 999 })] }))), by decide +kernel⟩
theorem witness_StorageKeeper_7 : ∃ at_ : Nat, ∃ s : State, (s.pkg.tileOn 0 = true) ∧ (s.pkg.keeper.norAt + s.pkg.get 0 fNorScrubDays * dayNs ≤ at_) ∧
    (Work.nor ∉ s.pkg.keeper.work) :=
  ⟨((400 * 86400000000000)), (stOf stPkg), by decide +kernel⟩
theorem witness_StorageKeeper_8 : ∃ w : Work, ∃ l : List Work, ∃ ecc : List CodeRead, ∃ at_ : Nat, ∃ s : State, ∃ b, ((s.pkg.reach at_).mayWork = true) ∧
    (s.pkg.wake.hk = none) ∧ (s.pkg.keeper.work = w :: l) ∧ (w = .scrub b) ∧ ((∀ e ∈ ecc, e.bits.isSome = true ∧ e.page < (s.pkg.block b).pages.length ∧ 1024 *
    e.code < s.pkg.pageSize)) :=
  ⟨(.scrub 7), ([]), ([⟨0, 1, some 20⟩]), (1000), (stOf (stPkg.onKeeper (fun k =>
      { k with work := [.scrub 7], blocks := [(7, { kind := 1, reads := 999, pages := [⟨4, zeros 2048, []⟩] })] }))), (7), by decide +kernel⟩
theorem witness_StorageKeeper_9 : ∃ w : Work, ∃ l : List Work, ∃ ok : Bool, ∃ ecc : List CodeRead, ∃ at_ : Nat, ∃ s : State, ∃ b, ∃ c, ∃ worn, ((s.pkg.reach
    at_).mayWork = true) ∧ (s.pkg.wake.hk = none) ∧ (s.pkg.keeper.work = w :: l) ∧ ((w = .refresh b ∧ worn = false ∨ w = .move b ∧ worn = true)) ∧ (ok = true)
    ∧ (ecc = []) ∧ ((s.pkg.block b).failed = false) ∧ (((s.pkg.block b).kind = 1 ∨ (s.pkg.block b).kind = 2 ∨ (s.pkg.block b).kind = 3)) ∧ (s.pkg.pickFree worn
    = some c) ∧ (c ≠ b) :=
  ⟨(.refresh 7), ([]), (true), ([]), (1000), (stOf (stPkg.onKeeper (fun k =>
      { k with work := [.refresh 7], blocks := [(7, { kind := 1, reads := 999 })] }))), (7), (0), (false), by decide +kernel⟩
theorem witness_StorageKeeper_10 : ∃ w : Work, ∃ l : List Work, ∃ ok : Bool, ∃ ecc : List CodeRead, ∃ at_ : Nat, ∃ s : State, ∃ b, ((s.pkg.reach at_).mayWork
    = true) ∧ (s.pkg.wake.hk = none) ∧ (s.pkg.keeper.work = w :: l) ∧ (w = .refresh b) ∧ (ok = true) ∧ (ecc = []) ∧ ((s.pkg.block b).failed = true) ∧
    (((s.pkg.block b).kind = 1 ∨ (s.pkg.block b).kind = 2)) :=
  ⟨(.refresh 7), ([]), (true), ([]), (1000), (stOf (stPkg.onKeeper (fun k =>
      { k with work := [.refresh 7], blocks := [(7, { kind := 1, failed := true, pages := [⟨4, zeros 2048, [1]⟩] })] }))), (7), by decide +kernel⟩
theorem witness_StorageKeeper_11 : ∃ w : Work, ∃ l : List Work, ∃ at_ : Nat, ∃ s : State, ((s.pkg.reach at_).mayWork = true) ∧ (s.pkg.wake.hk = none) ∧
    (s.pkg.keeper.work = w :: l) ∧ (w = .nor) ∧ (s.pkg.get 0 fUpState = 0) ∧ (s.settled) ∧ ((∀ d < 7, (s.pkg.jnlSt d).queue = [])) :=
  ⟨(.nor), ([]), (1000), ⟨stPkg.onKeeper (fun k => { k with work := [.nor] }), smallNor, []⟩, by decide +kernel⟩
theorem witness_UpdateCommands_0 : ∃ a : Acc, ∃ s : State, (s.pkg.get 0 fUpState ≠ 0) ∧ ((fun (v : Word) => s.pkg.reaches a.req 0 0x2100004 v) 1) :=
  ⟨(byFw), (stOf (upPkg.put 0 fUpState 1)), by decide +kernel⟩
theorem witness_UpdateCommands_1 : ∃ a : Acc, ∃ s : State, (s.pkg.get 0 fUpState ≠ 0) ∧ ((fun (v : Word) => s.pkg.reaches a.req 0 0x2100004 v) 2) :=
  ⟨(byFw), (stOf (upPkg.put 0 fUpState 1)), by decide +kernel⟩
theorem witness_UpdateCommands_2 : ∃ a : Acc, ∃ s : State, (s.pkg.get 0 fUpState ≠ 0) ∧ ((fun (v : Word) => s.pkg.reaches a.req 0 0x2100004 v) 34) :=
  ⟨(byFw), (stOf (upPkg.put 0 fUpState 1)), by decide +kernel⟩
theorem witness_UpdateCommands_3 : ∃ a : Acc, ∃ s : State, (s.pkg.get 0 fUpState ≠ 0) ∧ ((fun (v : Word) => s.pkg.reaches a.req 0 0x2100004 v) 3) :=
  ⟨(byFw), (stOf (upPkg.put 0 fUpState 1)), by decide +kernel⟩
theorem witness_UpdateCommands_4 : ∃ a : Acc, ∃ s : State, (s.pkg.get 0 fUpState ≠ 0) ∧ ((fun (v : Word) => s.pkg.reaches a.req 0 0x2100004 v) 11) :=
  ⟨(byFw), (stOf (upPkg.put 0 fUpState 1)), by decide +kernel⟩
theorem witness_UpdateCommands_5 : ∃ a : Acc, ∃ s : State, (s.pkg.get 0 fUpState ≠ 0) ∧ ((fun (v : Word) => s.pkg.reaches a.req 0 0x2100004 v) 19) :=
  ⟨(byFw), (stOf (upPkg.put 0 fUpState 1)), by decide +kernel⟩
theorem witness_UpdateCommands_6 : ∃ a : Acc, ∃ s : State, (s.pkg.get 0 fUpState ≠ 0) ∧ ((fun (v : Word) => s.pkg.reaches a.req 0 0x2100004 v) 4) :=
  ⟨(byFw), (stOf (upPkg.put 0 fUpState 1)), by decide +kernel⟩
theorem witness_UpdateCommands_7 : ∃ a : Acc, ∃ s : State, (s.pkg.get 0 fUpState ≠ 0) ∧ ((fun (v : Word) => s.pkg.reaches a.req 0 0x2100004 v) 5) :=
  ⟨(byFw), (stOf (upPkg.put 0 fUpState 1)), by decide +kernel⟩
theorem witness_UpdateCommands_8 : ∃ a : Acc, ∃ s : State, (s.pkg.get 0 fUpState ≠ 0) ∧ ((fun (v : Word) => s.pkg.reaches a.req 0 0x2100004 v) 6) :=
  ⟨(byFw), (stOf (upPkg.put 0 fUpState 1)), by decide +kernel⟩
theorem witness_UpdateCommands_9 : ∃ a : Acc, ∃ s : State, (((s.pkg.get 0 fUpState = 0 : Prop))) ∧ ((fun (v : Word) => s.pkg.reaches a.req 0 0x2100004 v) 1) ∧
    (s.pkg.on 0 fUpTrial = true) :=
  ⟨(byFw), (stOf (upPkg.put 0 fUpTrial 1)), by decide +kernel⟩
theorem witness_UpdateCommands_10 : ∃ a : Acc, ∃ s : State, (((s.pkg.get 0 fUpState = 0 : Prop))) ∧ ((fun (v : Word) => s.pkg.reaches a.req 0 0x2100004 v) 1) ∧
    (s.pkg.on 0 fUpTrial = false) ∧ (slotSize < (s.pkg.get 0 fUpWrOff) + (s.pkg.get 0 fUpWrLen)) :=
  ⟨(byFw), (stOf (upPkg.put 0 fUpWrOff 0x1F00001)), by decide +kernel⟩
theorem witness_UpdateCommands_11 : ∃ a : Acc, ∃ s : State, (((s.pkg.get 0 fUpState = 0 : Prop))) ∧ ((fun (v : Word) => s.pkg.reaches a.req 0 0x2100004 v) 1) ∧
    (s.pkg.on 0 fUpTrial = false) ∧ ((s.pkg.get 0 fUpWrOff) + (s.pkg.get 0 fUpWrLen) ≤ slotSize) :=
  ⟨(byFw), ⟨upV.put 0 fNextStart 1, smallNor, []⟩, by decide +kernel⟩
theorem witness_UpdateCommands_12 : ∃ a : Acc, ∃ s : State, (((s.pkg.get 0 fUpState = 0 : Prop))) ∧ ((fun (v : Word) => s.pkg.reaches a.req 0 0x2100004 v) 2) :=
  ⟨(byFw), (stOf (upPkg.put 0 fUpWrOff 0x1F00001)), by decide +kernel⟩
theorem witness_UpdateCommands_13 : ∃ a : Acc, ∃ s : State, (((s.pkg.get 0 fUpState = 0 : Prop))) ∧ ((fun (v : Word) => s.pkg.reaches a.req 0 0x2100004 v)
    34) :=
  ⟨(byFw), (stOf (upPkg.put 0 fUpWrOff 0x1F00001)), by decide +kernel⟩
theorem witness_UpdateCommands_14 : ∃ a : Acc, ∃ s : State, (((s.pkg.get 0 fUpState = 0 : Prop))) ∧ ((fun (v : Word) => s.pkg.reaches a.req 0 0x2100004 v) 3) ∧
    (¬ ((s.pkg.on 0 fVerifiedOther = true ∧ runMode s.pkg.modeNow = true ∧ s.pkg.policyAllows mActivating s.pkg.life = true ∧ s.pkg.on 0 fUpTrial = false ∧
    s.pkg.ksState s.pkg.steward = 0 : Prop))) :=
  ⟨(byFw), ⟨upPkg, smallNor, []⟩, by decide +kernel⟩
theorem witness_UpdateCommands_15 : ∃ a : Acc, ∃ s : State, (((s.pkg.get 0 fUpState = 0 : Prop))) ∧ ((fun (v : Word) => s.pkg.reaches a.req 0 0x2100004 v) 3) ∧
    (((s.pkg.on 0 fVerifiedOther = true ∧ runMode s.pkg.modeNow = true ∧ s.pkg.policyAllows mActivating s.pkg.life = true ∧ s.pkg.on 0 fUpTrial = false ∧
    s.pkg.ksState s.pkg.steward = 0 : Prop))) ∧ (¬ ((s.firmwareOnly (s.pkg.otherSlot) = true ∨ (s.pkg.boot.staged = true ∧ (s.structure_
    (s.pkg.otherSlot)).frozen = (s.structure_ (s.pkg.get 0 fUpSlot)).frozen) : Prop))) :=
  ⟨(byFw), ⟨upLive, smallNor, []⟩, by decide +kernel⟩
theorem witness_UpdateCommands_16 : ∃ a : Acc, ∃ s : State, (((s.pkg.get 0 fUpState = 0 : Prop))) ∧ ((fun (v : Word) => s.pkg.reaches a.req 0 0x2100004 v) 3) ∧
    (((s.pkg.on 0 fVerifiedOther = true ∧ runMode s.pkg.modeNow = true ∧ s.pkg.policyAllows mActivating s.pkg.life = true ∧ s.pkg.on 0 fUpTrial = false ∧
    s.pkg.ksState s.pkg.steward = 0 : Prop))) ∧ (((s.firmwareOnly (s.pkg.otherSlot) = true ∨ (s.pkg.boot.staged = true ∧ (s.structure_
    (s.pkg.otherSlot)).frozen = (s.structure_ (s.pkg.get 0 fUpSlot)).frozen) : Prop))) :=
  ⟨(byFw), ⟨upLive.onBoot (fun b => { b with staged := true }), smallNor, []⟩, by decide +kernel⟩
theorem witness_UpdateCommands_17 : ∃ a : Acc, ∃ s : State, (((s.pkg.get 0 fUpState = 0 : Prop))) ∧ ((fun (v : Word) => s.pkg.reaches a.req 0 0x2100004 v) 11)
    ∧ (¬ ((s.pkg.on 0 fVerifiedOther = true ∧ runMode s.pkg.modeNow = true ∧ s.pkg.policyAllows mActivating s.pkg.life = true ∧ s.pkg.on 0 fUpTrial = false ∧
    s.pkg.ksState s.pkg.steward = 0 : Prop))) :=
  ⟨(byFw), ⟨upPkg, smallNor, []⟩, by decide +kernel⟩
theorem witness_UpdateCommands_18 : ∃ a : Acc, ∃ s : State, (((s.pkg.get 0 fUpState = 0 : Prop))) ∧ ((fun (v : Word) => s.pkg.reaches a.req 0 0x2100004 v) 11)
    ∧ (((s.pkg.on 0 fVerifiedOther = true ∧ runMode s.pkg.modeNow = true ∧ s.pkg.policyAllows mActivating s.pkg.life = true ∧ s.pkg.on 0 fUpTrial = false ∧
    s.pkg.ksState s.pkg.steward = 0 : Prop))) :=
  ⟨(byFw), ⟨upLive, smallNor, []⟩, by decide +kernel⟩
theorem witness_UpdateCommands_19 : ∃ a : Acc, ∃ s : State, (((s.pkg.get 0 fUpState = 0 : Prop))) ∧ ((fun (v : Word) => s.pkg.reaches a.req 0 0x2100004 v) 19)
    ∧ (¬ ((s.pkg.on 0 fVerifiedOther = true ∧ runMode s.pkg.modeNow = true ∧ s.pkg.policyAllows mActivating s.pkg.life = true ∧ s.pkg.on 0 fUpTrial = false ∧
    s.pkg.ksState s.pkg.steward = 0 : Prop))) :=
  ⟨(byFw), ⟨upPkg, smallNor, []⟩, by decide +kernel⟩
theorem witness_UpdateCommands_20 : ∃ a : Acc, ∃ s : State, (((s.pkg.get 0 fUpState = 0 : Prop))) ∧ ((fun (v : Word) => s.pkg.reaches a.req 0 0x2100004 v) 19)
    ∧ (((s.pkg.on 0 fVerifiedOther = true ∧ runMode s.pkg.modeNow = true ∧ s.pkg.policyAllows mActivating s.pkg.life = true ∧ s.pkg.on 0 fUpTrial = false ∧
    s.pkg.ksState s.pkg.steward = 0 : Prop))) :=
  ⟨(byFw), ⟨upLive, smallNor, []⟩, by decide +kernel⟩
theorem witness_UpdateCommands_21 : ∃ a : Acc, ∃ s : State, (((s.pkg.get 0 fUpState = 0 : Prop))) ∧ ((fun (v : Word) => s.pkg.reaches a.req 0 0x2100004 v) 4) ∧
    ((s.pkg.on 0 fUpTrial = false ∨ (s.pkg.reach a.at_).trialOver = true ∨ s.pkg.boot.waitFall = true)) :=
  ⟨(byFw), (up), by decide +kernel⟩
theorem witness_UpdateCommands_22 : ∃ a : Acc, ∃ s : State, (((s.pkg.get 0 fUpState = 0 : Prop))) ∧ ((fun (v : Word) => s.pkg.reaches a.req 0 0x2100004 v) 4) ∧
    (s.pkg.on 0 fUpTrial = true) ∧ ((s.pkg.reach a.at_).trialOver = false) ∧ (s.pkg.boot.waitFall = false) :=
  ⟨(byFw), ⟨upT, smallNor, []⟩, by decide +kernel⟩
theorem witness_UpdateCommands_23 : ∃ a : Acc, ∃ s : State, (((s.pkg.get 0 fUpState = 0 : Prop))) ∧ ((fun (v : Word) => s.pkg.reaches a.req 0 0x2100004 v) 5) ∧
    (s.pkg.on 0 fUpTrial = false) :=
  ⟨(byFw), (up), by decide +kernel⟩
theorem witness_UpdateCommands_24 : ∃ a : Acc, ∃ s : State, (((s.pkg.get 0 fUpState = 0 : Prop))) ∧ ((fun (v : Word) => s.pkg.reaches a.req 0 0x2100004 v) 5) ∧
    (s.pkg.on 0 fUpTrial = true) ∧ (s.pkg.modeNow ≠ mDebug) ∧ (s.pkg.ksState s.pkg.steward ≠ 0) :=
  ⟨(byFw), ⟨upT.put 0 fKsState 1, smallNor, []⟩, by decide +kernel⟩
theorem witness_UpdateCommands_25 : ∃ a : Acc, ∃ s : State, (((s.pkg.get 0 fUpState = 0 : Prop))) ∧ ((fun (v : Word) => s.pkg.reaches a.req 0 0x2100004 v) 5) ∧
    (s.pkg.on 0 fUpTrial = true) ∧ (s.pkg.modeNow = mDebug) :=
  ⟨(byFw), ⟨upT.put 15 fMode mDebug, smallNor, []⟩, by decide +kernel⟩
theorem witness_UpdateCommands_26 : ∃ a : Acc, ∃ s : State, (((s.pkg.get 0 fUpState = 0 : Prop))) ∧ ((fun (v : Word) => s.pkg.reaches a.req 0 0x2100004 v) 5) ∧
    (s.pkg.on 0 fUpTrial = true) ∧ (s.pkg.modeNow ≠ mDebug) ∧ (s.pkg.ksState s.pkg.steward = 0) ∧ (s.pkg.liveFallback = true) :=
  ⟨(byFw), ⟨upTL, smallNor, []⟩, by decide +kernel⟩
theorem witness_UpdateCommands_27 : ∃ a : Acc, ∃ s : State, (((s.pkg.get 0 fUpState = 0 : Prop))) ∧ ((fun (v : Word) => s.pkg.reaches a.req 0 0x2100004 v) 5) ∧
    (s.pkg.on 0 fUpTrial = true) ∧ (s.pkg.modeNow ≠ mDebug) ∧ (s.pkg.ksState s.pkg.steward = 0) ∧ (s.pkg.liveFallback = false) :=
  ⟨(byFw), ⟨upT, smallNor, []⟩, by decide +kernel⟩
theorem witness_UpdateCommands_28 : ∃ a : Acc, ∃ s : State, (((s.pkg.get 0 fUpState = 0 : Prop))) ∧ ((fun (v : Word) => s.pkg.reaches a.req 0 0x2100004 v) 6) ∧
    (s.pkg.modeNow ≠ mProvision) ∧ (s.pkg.life ≠ lService) :=
  ⟨(byFw), (up), by decide +kernel⟩
theorem witness_UpdateCommands_29 : ∃ a : Acc, ∃ s : State, (((s.pkg.get 0 fUpState = 0 : Prop))) ∧ ((fun (v : Word) => s.pkg.reaches a.req 0 0x2100004 v) 6) ∧
    ((s.pkg.modeNow = mProvision ∨ s.pkg.life = lService)) ∧ (provSize < (s.pkg.get 0 fUpWrOff) + (s.pkg.get 0 fUpWrLen)) :=
  ⟨(byFw), (stOf ((upPkg.put 15 fMode mProvision).put 0 fUpWrOff 0xFFFFFFF)), by decide +kernel⟩
theorem witness_UpdateCommands_30 : ∃ a : Acc, ∃ s : State, (((s.pkg.get 0 fUpState = 0 : Prop))) ∧ ((fun (v : Word) => s.pkg.reaches a.req 0 0x2100004 v) 6) ∧
    ((s.pkg.modeNow = mProvision ∨ s.pkg.life = lService)) ∧ ((s.pkg.get 0 fUpWrOff) + (s.pkg.get 0 fUpWrLen) ≤ provSize) :=
  ⟨(byFw), (stOf (upPkg.put 15 fMode mProvision)), by decide +kernel⟩
theorem witness_ActivationEffects_0 : ∃ op : Nat, ∃ src : Nat, ∃ off : Nat, ∃ len : Nat, ∃ s : State, (s.pkg.boot.cmd = some (op, src, off, len)) ∧ ((op = 1 ∨
    op = 6)) ∧ (s.settled) ∧ (off + len ≤ (if op = 1 then slotSize else provSize)) ∧ (src + len ≤ 0x101000000) :=
  ⟨(1), (0x100000000), (16), (4), ⟨upPkg.onBoot (fun b => { b with cmd := some (1, 0x100000000, 16, 4) }), smallNor, []⟩, by decide +kernel⟩
theorem witness_ActivationEffects_1 : ∃ stage : Nat, ∃ x : Nat, ∃ y : Nat, ∃ s : State, (s.pkg.boot.cmd = some (2, stage, x, y)) :=
  ⟨(0), (0), (0), ⟨upPkg.onBoot (fun b => { b with cmd := some (2, 0, 0, 0) }), smallNor, []⟩, by decide +kernel⟩
theorem witness_ActivationEffects_2 : ∃ s : State, (s.pkg.modeNow = mActivating) ∧ (s.pkg.boot.act = 2) ∧ (s.pkg.boot.actFlushed = false) :=
  ⟨⟨(upPkg.put 15 fMode mActivating).onBoot (fun b => { b with act := 2, actLeft := [0, 1], actAt := 100 }), smallNor, []⟩, by decide +kernel⟩
theorem witness_ActivationEffects_3 : ∃ tile : Nat, ∃ ok : Bool, ∃ s : State, (s.noEthWaits) ∧ (s.pkg.modeNow = mActivating) ∧ (tile ∈ s.pkg.boot.actLeft) ∧
    ((s.pkg.boot.act = 1 ∨ (s.pkg.boot.act = 2 ∧ s.pkg.boot.actFlushed = true))) ∧ ((∃ u ∈ s.pkg.boot.actLeft, u ≠ tile)) ∧ (ok = true) :=
  ⟨(1), (true), ⟨((upPkg.put 15 fMode mActivating).onBoot (fun b =>
      { b with act := 2, actFlushed := true, actLeft := [0, 1], actAt := 100, actFrom := 200 })), smallNor, []⟩, by decide +kernel⟩
theorem witness_ActivationEffects_4 : ∃ tile : Nat, ∃ ok : Bool, ∃ s : State, (s.noEthWaits) ∧ (s.pkg.modeNow = mActivating) ∧ (tile ∈ s.pkg.boot.actLeft) ∧
    ((s.pkg.boot.act = 1 ∨ (s.pkg.boot.act = 2 ∧ s.pkg.boot.actFlushed = true))) ∧ (ok = false) ∧ (s.pkg.boot.revert = false) :=
  ⟨(1), (false), ⟨((upPkg.put 15 fMode mActivating).onBoot (fun b =>
      { b with act := 2, actFlushed := true, actLeft := [0, 1], actAt := 100, actFrom := 200 })), smallNor, []⟩, by decide +kernel⟩
theorem witness_ActivationEffects_5 : ∃ tile : Nat, ∃ ok : Bool, ∃ s : State, (s.noEthWaits) ∧ (s.pkg.modeNow = mActivating) ∧ (tile ∈ s.pkg.boot.actLeft) ∧
    ((s.pkg.boot.act = 1 ∨ (s.pkg.boot.act = 2 ∧ s.pkg.boot.actFlushed = true))) ∧ (s.pkg.boot.actLeft = [tile]) ∧ (ok = true) ∧ (s.pkg.boot.act = 1) ∧
    (s.pkg.boot.revert = false) ∧ (s.pkg.boot.fallback = false) ∧ (s.pkg.bus.held = []) ∧ (s.pkg.mode.quarantine = false) ∧ (s.pkg.mode.cameFrom < 16) ∧ ((∀ u
    ∈ s.pkg.present, s.pkg.isLost u = false)) :=
  ⟨(0), (true), ⟨(upPkg.put 15 fMode mActivating |>.onMode (fun m => { m with cameFrom := 5 })).onBoot (fun b =>
      { b with act := 1, actLeft := [0] }), smallNor, []⟩, by decide +kernel⟩
theorem witness_ActivationEffects_6 : ∃ s : State, (s.noEthWaits) ∧ (s.pkg.modeNow = mActivating) ∧ (s.pkg.boot.act = 2) ∧ (s.pkg.boot.actFlushed = true) ∧
    (s.pkg.boot.actLeft ≠ []) ∧ (s.pkg.boot.revert = false) :=
  ⟨⟨((upPkg.put 15 fMode mActivating).onBoot (fun b =>
      { b with act := 2, actFlushed := true, actLeft := [0, 1], actAt := 100, actFrom := 200 })), smallNor, []⟩, by decide +kernel⟩
theorem witness_ActivationEffects_7 : ∃ s : State, (s.pkg.on 0 fUpTrial = true) ∧ (s.pkg.boot.waitFall = false) ∧ (s.pkg.modeNow ≠ mActivating) ∧
    (s.pkg.modeNow ≠ mDebug) ∧ (s.pkg.ksState s.pkg.steward = 0) ∧ (s.pkg.boot.liveTrial = false) ∧ (s.pkg.power.phase ≠ 0) :=
  ⟨⟨upPkg.put 0 fUpTrial 1, smallNor, []⟩, by decide +kernel⟩
theorem witness_BootStages_0 : ∃ s : State, (s.noEthWaits) ∧ (s.pkg.modeNow = mBoot) ∧ (s.pkg.on 0 fDieRev = true) :=
  ⟨⟨(upPkg.put 15 fMode mBoot).put 0 fDieRev 1, smallNor, []⟩, by decide +kernel⟩
theorem witness_BootStages_1 : ∃ ok : Bool, ∃ at_ : Nat, ∃ s : State, (s.noEthWaits) ∧ (s.pkg.modeNow = mBoot) ∧ (s.pkg.on 0 fDieRev = false) ∧ ((ok && (s.map
    (fun p => p.reach at_)).stagePasses) = false) :=
  ⟨(false), (1000), ⟨(upPkg.put 15 fMode mBoot |>.put 0 fCluster clSplit).onBoot (fun b => { b with stage := 3 }), smallNor, []⟩, by decide +kernel⟩
theorem witness_BootStages_2 : ∃ ok : Bool, ∃ at_ : Nat, ∃ s : State, (s.noEthWaits) ∧ (s.pkg.modeNow = mBoot) ∧ (s.pkg.on 0 fDieRev = false) ∧ ((ok && (s.map
    (fun p => p.reach at_)).stagePasses) = true) ∧ (s.pkg.boot.stage = 0) :=
  ⟨(true), (1000), ⟨(upPkg.put 15 fMode mBoot).onBoot (fun b => { b with stage := 0 }), smallNor, []⟩, by decide +kernel⟩
theorem witness_BootStages_3 : ∃ s : State, (s.noEthWaits) ∧ (s.pkg.modeNow = mBoot) ∧ (s.pkg.on 0 fDieRev = false) ∧ (s.pkg.boot.stage = 1) :=
  ⟨⟨(upPkg.put 15 fMode mBoot).onBoot (fun b => { b with stage := 1 }), smallNor, []⟩, by decide +kernel⟩
theorem witness_BootStages_4 : ∃ ok : Bool, ∃ at_ : Nat, ∃ s : State, (s.noEthWaits) ∧ (s.pkg.modeNow = mBoot) ∧ (s.pkg.on 0 fDieRev = false) ∧ ((ok && (s.map
    (fun p => p.reach at_)).stagePasses) = true) ∧ (s.pkg.boot.stage = 2) ∧ (s.pkg.on 0 fUpTrial = false) :=
  ⟨(true), (1000), ⟨(upPkg.put 15 fMode mBoot).onBoot (fun b => { b with stage := 2 }), smallNor, []⟩, by decide +kernel⟩
theorem witness_BootStages_5 : ∃ ok : Bool, ∃ at_ : Nat, ∃ s : State, (s.noEthWaits) ∧ (s.pkg.modeNow = mBoot) ∧ (s.pkg.on 0 fDieRev = false) ∧ ((ok && (s.map
    (fun p => p.reach at_)).stagePasses) = true) ∧ (3 ≤ s.pkg.boot.stage) ∧ (s.pkg.get 0 fCluster = clSplit) :=
  ⟨(true), (1000), ⟨(upPkg.put 15 fMode mBoot |>.put 0 fCluster clSplit).onBoot (fun b => { b with stage := 3 }), smallNor, []⟩, by decide +kernel⟩
theorem witness_BootStages_6 : ∃ ok : Bool, ∃ at_ : Nat, ∃ s : State, (s.noEthWaits) ∧ (s.pkg.modeNow = mBoot) ∧ (s.pkg.on 0 fDieRev = false) ∧ ((ok && (s.map
    (fun p => p.reach at_)).stagePasses) = true) ∧ (3 ≤ s.pkg.boot.stage) ∧ (s.pkg.get 0 fCluster ≠ clSplit) :=
  ⟨(true), (1000), ⟨(upPkg.put 15 fMode mBoot).onBoot (fun b => { b with stage := 3 }), smallNor, []⟩, by decide +kernel⟩
theorem witness_BootStages_7 : ∃ tile : Nat, ∃ s : State, (s.pkg.modeNow = mBoot) ∧ (s.pkg.boot.stage = 2) ∧ (s.pkg.inService tile = true) ∧ (tile ≠ 0) :=
  ⟨(1), ⟨(upPkg.put 15 fMode mBoot).onBoot (fun b => { b with stage := 2 }), smallNor, []⟩, by decide +kernel⟩
theorem witness_BootStages_8 : ∃ tile : Nat, ∃ s : State, (s.pkg.modeNow = mBoot) ∧ (s.pkg.boot.stage = 2) ∧ (s.pkg.inService tile = true) ∧ (tile = 0) :=
  ⟨(0), ⟨(upPkg.put 15 fMode mBoot).onBoot (fun b => { b with stage := 2 }), smallNor, []⟩, by decide +kernel⟩
theorem witness_FenceRemote_0 : ∃ a : Acc, ∃ die : Nat, ∃ off : Nat, ∃ s : State, (die < 15) ∧ (die ≠ a.req.die) ∧ ((off = oSgFence ∨ off = oSgFenceWait)) ∧
    (s.pkg.leaves a.req) ∧ (s.pkg.accessErr a.req (pkgAddr die off) = 0) :=
  ⟨(byFw), (1), (0x1D00100), (up), by decide +kernel⟩
theorem witness_FenceRemote_3 : ∃ a : Acc, ∃ die : Nat, ∃ off : Nat, ∃ s : State, (die < 15) ∧ (die ≠ a.req.die) ∧ ((off = oSgFence ∨ off = oSgFenceWait)) ∧
    (s.pkg.leaves a.req) ∧ (s.pkg.accessErr a.req (pkgAddr die off) = 0) ∧ (off = oSgFence) :=
  ⟨(byFw), (1), (0x1D00100), (up), by decide +kernel⟩
theorem witness_FenceRemote_4 : ∃ a : Acc, ∃ die : Nat, ∃ off : Nat, ∃ s : State, (die < 15) ∧ (die ≠ a.req.die) ∧ ((off = oSgFence ∨ off = oSgFenceWait)) ∧
    (s.pkg.leaves a.req) ∧ (s.pkg.accessErr a.req (pkgAddr die off) = 0) ∧ (off = oSgFenceWait) :=
  ⟨(byFw), (1), (0x1D00104), (up), by decide +kernel⟩
theorem witness_ColdWindow_0 : ∃ a : Acc, ∃ die : Nat, ∃ off : Nat, ∃ v : Word, ∃ s : State, (s.pkg.reaches a.req die off v) ∧ (plainWord die off = true) ∧
    (s.pkg.modeNow ≠ mBoot) ∧ (s.pkg.modeNow ≠ mProvision) ∧ (s.pkg.rkBits die off = keystoneMask die off) ∧ (((s.pkg.reach a.at_).remember a.req die off
    v).takes die off v = true) :=
  ⟨(byFw), (1), (0x810008), (1000), (stOf (swPkg.put 1 (fPresent 0) 1)), by decide +kernel⟩
theorem witness_ColdWindow_1 : ∃ a : Acc, ∃ die : Nat, ∃ off : Nat, ∃ v : Word, ∃ s : State, (s.pkg.reaches a.req die off v) ∧ (plainWord die off = true) ∧
    (s.pkg.modeNow ≠ mBoot) ∧ (s.pkg.modeNow ≠ mProvision) ∧ (s.pkg.rkBits die off = keystoneMask die off) ∧ (((s.pkg.reach a.at_).remember a.req die off
    v).takes die off v = false) :=
  ⟨(byFw), (1), (0x810008), (0xFFFFFFFF), (stOf (swPkg.put 1 (fPresent 0) 1)), by decide +kernel⟩

end Sys2Proof.Machine.Tests
end

section
/-! PROOFS. Chapter 0: a write of a plain word (R14, R16, R17, R56, R57). -/
namespace Sys2Proof.Machine

/-! ### Masks of fields -/

@[simp] theorem word_and_ones (w : Word) : w &&& 0xFFFFFFFF#32 = w := BitVec.and_allOnes

theorem maskOf_bit (p : Field → Bool) (fs : List Field) (i : Nat) :
    (maskOf p fs).getLsbD i = fs.any (fun f => p f && (fieldMask f.hi f.lo).getLsbD i) := by
  have step : ∀ (fs : List Field) (w : Word), (fs.foldl (fun w f => if p f then w ||| fieldMask f.hi f.lo else w) w).getLsbD i =
      (w.getLsbD i || fs.any (fun f => p f && (fieldMask f.hi f.lo).getLsbD i)) := by
    intro fs
    induction fs with
    | nil => simp
    | cons f fs ih =>
      intro w
      rw [List.foldl_cons, ih, List.any_cons]
      cases p f <;> simp [Bool.or_assoc]
  simpa [maskOf] using step fs 0

/-- Every cold bit is a bit that a write sets (R17). -/
theorem coldBits_and_writableBits (die off : Nat) : coldBits die off &&& writableBits die off = coldBits die off := by
  refine BitVec.eq_of_getLsbD_eq fun i _ => ?_
  rw [BitVec.getLsbD_and, coldBits, writableBits, maskOf_bit, maskOf_bit, Bool.and_eq_left_iff_imp, List.any_eq_true, List.any_eq_true]
  rintro ⟨f, hf, h⟩
  simp only [Bool.and_eq_true] at h
  obtain ⟨⟨hrw, _⟩, hbit⟩ := h
  exact ⟨f, hf, by simp [hrw, hbit]⟩

/-- The words of the configuration error record hold no cold bit (Tables 2-2 and 2-4). -/
theorem coldBits_cfgErrOff (die : Nat) : coldBits die (cfgErrOff die) = 0 ∧ coldBits die (cfgErrOff die + 4) = 0 := by
  by_cases h : die = 15
  · subst h; decide +kernel
  · have hw : ∀ off, wordFields die off = wordFields 0 off := fun off => by simp [wordFields, sentinelDie, h]
    simp only [coldBits, hw, cfgErrOff, h, if_false]
    decide +kernel

/-! ### The configuration error record -/

theorem Pkg.cfgErr_cnt (s : Pkg) (r : Req) (die code addr : Nat) :
    (s.cfgErr r die code addr).cnt die (cfgErrCnt die) = s.cnt die (cfgErrCnt die) + 1 := by
  simp only [Pkg.cfgErr]; split <;> simp

theorem Touches.cfgErr {p q : Pkg} {W C : List Nat} (h : Touches p q W C) {r : Req} {die code addr : Nat} (hw : pkgAddr die (cfgErrOff die) ∈ W)
    (hw' : pkgAddr die (cfgErrOff die + 4) ∈ W) (hc : pkgAddr die (cfgErrCnt die) ∈ C) : Touches p (q.cfgErr r die code addr) W C := by
  unfold Pkg.cfgErr
  exact ((h.bump hc).raise hw).ite ((((((h.bump hc).put hw).put hw).put hw).put hw').raise hw)

/-! ### What the configuration error record leaves alone -/

theorem Pkg.marked_setNow_ne (s : Pkg) {d o d' o' : Nat} (m : Word) (h : pkgAddr d' o' ≠ pkgAddr d o) : (s.marked d o m).setNow d' o' = s.setNow d' o' := by
  simp [Pkg.setNow, Pkg.marked, SMap.get_set_ne _ _ _ _ h]

theorem Pkg.raise_setNow_ne (s : Pkg) {d d' o' : Nat} {f : Fld} (h : pkgAddr d' o' ≠ pkgAddr d f.off) : (s.raise d f).setNow d' o' = s.setNow d' o' :=
  (s.put d f 1).marked_setNow_ne _ h

theorem Pkg.cfgErr_setNow (s : Pkg) (r : Req) {die code addr d o : Nat} (h : pkgAddr d o ≠ pkgAddr die (cfgErrOff die)) :
    (s.cfgErr r die code addr).setNow d o = s.setNow d o := by
  simp only [Pkg.cfgErr]
  split <;> rw [Pkg.raise_setNow_ne _ h] <;> rfl

@[simp] theorem Pkg.cfgErr_coldNext (s : Pkg) (r : Req) (die code addr : Nat) : (s.cfgErr r die code addr).coldNext = s.coldNext := by
  simp only [Pkg.cfgErr]; split <;> simp

/-- The configuration errors of a die: the words of the record and the counter. -/
abbrev cfgErrWords (die : Nat) : List Nat := [pkgAddr die (cfgErrOff die), pkgAddr die (cfgErrOff die + 4)]

theorem cfgErr_touches (s : Pkg) (r : Req) (die code addr : Nat) :
    Touches s (s.cfgErr r die code addr) (cfgErrWords die) [pkgAddr die (cfgErrCnt die)] :=
  (Touches.refl _ _ _).cfgErr (by simp) (by simp) (by simp)

theorem Pkg.cfgErr_modeNow (s : Pkg) (r : Req) (die code addr : Nat) : (s.cfgErr r die code addr).modeNow = s.modeNow := by
  have ho : cfgErrOff die + 4 < 0x60000 ∨ 0x200070 ≤ cfgErrOff die ∧ cfgErrOff die + 4 < 2 ^ 26 := by unfold cfgErrOff; split <;> simp
  have h : pkgAddr 15 0x60000 ∉ cfgErrWords die := by
    simp only [List.mem_cons, List.not_mem_nil, or_false, not_or]
    constructor <;> (rw [pkgAddr_inj (by decide) (by omega)]; omega)
  simp only [Pkg.modeNow, Pkg.get, fMode, (cfgErr_touches s r die code addr).words 15 0x60000 h]

/-! ### Which bits of a plain word a write reaches, and when (R14, R17) -/

/-- The writable bits that take the written value at once: in BOOT all of them, elsewhere those that are not cold. -/
def Pkg.promptBits (s : Pkg) (die off : Nat) : Word := writableBits die off &&& ~~~ (if s.modeNow = mBoot then 0 else coldBits die off)

/-- The cold bits that wait for the restart of the die: those of a write in PROVISION. -/
def Pkg.delayedBits (s : Pkg) (die off : Nat) : Word := if s.modeNow = mProvision then coldBits die off else 0

/-- The cold bits that a write does not reach: all of them outside BOOT and PROVISION. -/
def Pkg.shutBits (s : Pkg) (die off : Nat) : Word := if s.coldOpen then 0 else coldBits die off

/-- The bits in effect at once are the writable ones that are neither shut nor delayed. -/
theorem Pkg.promptBits_eq (s : Pkg) (die off : Nat) : writableBits die off &&& ~~~ s.shutBits die off &&& ~~~ s.delayedBits die off = s.promptBits die off := by
  unfold Pkg.promptBits Pkg.shutBits Pkg.delayedBits Pkg.coldOpen
  have hne : mProvision ≠ mBoot := by decide
  by_cases hb : s.modeNow = mBoot
  · simp [hb, hne.symm]
  · by_cases hp : s.modeNow = mProvision
    · simp [hp, hne]
    · simp [hb, hp]

/-- A write of a word, unless nothing of it is to be written. -/
def Pkg.wrUnless (s : Pkg) (c : Prop) [Decidable c] (d o : Nat) (w : Word) : Pkg := if c then s else s.wr d o w

/-- What a write in shape does to a word without keystone bits, once a barred write of cold bits is recorded. -/
def Pkg.plainWrite (s : Pkg) (die off : Nat) (prompt delayed v : Word) : Pkg :=
  let s := s.wrUnless (prompt = 0) die off ((s.rd die off &&& ~~~ prompt) ||| (v &&& prompt))
  let s := s.writeCold die off delayed v
  let s := s.wrUnless (w1sBits die off &&& v = 0) die off (s.rd die off ||| (w1sBits die off &&& v))
  s.writeClear die off (w1cBits die off) (w1cBits die off &&& v)

theorem beMask_all : beMask 15 = BitVec.allOnes 32 := by decide

/-- A plain write out of shape is a configuration error and nothing else (R56). -/
theorem Pkg.writeWord_outOfShape {s : Pkg} {die off : Nat} {v : Word} (r : Req) (h : s.takes die off v = false) :
    s.writeWord r die off v 15 = s.cfgErr r die cOutOfShape (pkgAddr die off) := by
  unfold Pkg.takes at h
  simp only [Pkg.writeWord, beMask_all, BitVec.allOnes_and, BitVec.and_allOnes, coldBits_and_writableBits, h, Bool.not_false, if_true]


/-- A word with cold bits is none of the configuration error record. -/
theorem notMem_cfgErrWords_of_cold {die off : Nat} (h : coldBits die off ≠ 0) : pkgAddr die off ∉ cfgErrWords die := by
  obtain ⟨h0, h4⟩ := coldBits_cfgErrOff die
  have hne : off ≠ cfgErrOff die ∧ off ≠ cfgErrOff die + 4 := ⟨fun e => h (e ▸ h0), fun e => h (e ▸ h4)⟩
  simpa [cfgErrWords, pkgAddr] using hne

theorem Pkg.shutBits_ne {s : Pkg} {die off : Nat} {w : Word} (h : w &&& s.shutBits die off ≠ 0) : coldBits die off ≠ 0 := by
  intro hc; simp [Pkg.shutBits, hc] at h

/-- A write that would change shut cold bits is recorded (R57). -/
def Pkg.coldChecked (s : Pkg) (r : Req) (die off : Nat) (v : Word) : Pkg :=
  if (s.rd die off ^^^ v) &&& s.shutBits die off = 0 then s else s.cfgErr r die cColdWindow (pkgAddr die off)

section
variable (s : Pkg) (r : Req) (die off : Nat) (v : Word)

theorem Pkg.coldChecked_rd : (s.coldChecked r die off v).rd die off = s.rd die off := by
  unfold Pkg.coldChecked; split
  · rfl
  · next h => exact (cfgErr_touches s r die _ _).words die off (notMem_cfgErrWords_of_cold (Pkg.shutBits_ne h))

theorem Pkg.coldChecked_setNow : (s.coldChecked r die off v).setNow die off = s.setNow die off := by
  unfold Pkg.coldChecked; split
  · rfl
  · next h => exact s.cfgErr_setNow r fun e => notMem_cfgErrWords_of_cold (Pkg.shutBits_ne h) (by simp [cfgErrWords, e])

theorem Pkg.coldChecked_coldNext : (s.coldChecked r die off v).coldNext = s.coldNext := by
  unfold Pkg.coldChecked; split <;> simp

theorem Pkg.coldChecked_modeNow : (s.coldChecked r die off v).modeNow = s.modeNow := by
  unfold Pkg.coldChecked; split
  · rfl
  · exact s.cfgErr_modeNow r _ _ _

end

/-- A plain write in shape: a barred write of cold bits is recorded, and the word takes the rest. -/
theorem Pkg.writeWord_inShape {s : Pkg} {die off : Nat} {v : Word} (r : Req) (h : s.takes die off v = true) (hk : s.rkBits die off = 0) :
    s.writeWord r die off v 15 = (s.coldChecked r die off v).plainWrite die off (s.promptBits die off) (s.delayedBits die off) v := by
  have hshut : (if s.coldOpen then 0 else coldBits die off) = s.shutBits die off := rfl
  have hcheck : (if (s.rd die off ^^^ v) &&& s.shutBits die off = 0 then s else s.cfgErr r die cColdWindow (pkgAddr die off)) =
    s.coldChecked r die off v := rfl
  simp only [Pkg.takes, hk, hshut] at h
  simp only [Pkg.writeWord, beMask_all, BitVec.allOnes_and, BitVec.and_allOnes, coldBits_and_writableBits, hk, h, hshut, hcheck, Bool.not_true,
    Bool.false_eq_true, if_false, if_true, Pkg.coldChecked_modeNow]
  rw [← s.promptBits_eq, Pkg.plainWrite, Pkg.coldChecked_rd]
  rfl

/-! ### The steps of a plain write -/

section
variable (s : Pkg) (c : Prop) [Decidable c] (d o : Nat) (w : Word)

theorem Pkg.wrUnless_eq : ∃ rs, s.wrUnless c d o w = { s with regs := rs } := by
  unfold Pkg.wrUnless; split
  · exact ⟨s.regs, rfl⟩
  · exact ⟨_, rfl⟩

theorem Pkg.wrUnless_rd (h : c → w = s.rd d o) : (s.wrUnless c d o w).rd d o = w := by
  unfold Pkg.wrUnless; split
  · next hc => exact (h hc).symm
  · exact s.rd_wr_same d o w

@[simp] theorem Pkg.wrUnless_setNow (d' o' : Nat) : (s.wrUnless c d o w).setNow d' o' = s.setNow d' o' := by
  obtain ⟨rs, h⟩ := s.wrUnless_eq c d o w; rw [h]; rfl

@[simp] theorem Pkg.wrUnless_coldNext : (s.wrUnless c d o w).coldNext = s.coldNext := by
  obtain ⟨rs, h⟩ := s.wrUnless_eq c d o w; rw [h]

theorem Touches.wrUnless {p q : Pkg} {W C : List Nat} (h : Touches p q W C) (hm : pkgAddr d o ∈ W) : Touches p (q.wrUnless c d o w) W C :=
  Touches.ite h (h.wr hm)

end

theorem Pkg.writeCold_eq (s : Pkg) (d o : Nat) (m v : Word) : ∃ x, s.writeCold d o m v = { s with coldNext := x } := by
  simp only [Pkg.writeCold]; split
  · exact ⟨s.coldNext, rfl⟩
  · exact ⟨_, rfl⟩

@[simp] theorem Pkg.writeCold_rd (s : Pkg) (d o : Nat) (m v : Word) (d' o' : Nat) : (s.writeCold d o m v).rd d' o' = s.rd d' o' := by
  obtain ⟨x, h⟩ := s.writeCold_eq d o m v; rw [h]; rfl

@[simp] theorem Pkg.writeCold_setNow (s : Pkg) (d o : Nat) (m v : Word) (d' o' : Nat) : (s.writeCold d o m v).setNow d' o' = s.setNow d' o' := by
  obtain ⟨x, h⟩ := s.writeCold_eq d o m v; rw [h]; rfl

/-- The delayed bits of the word take the value written, the others wait as they did (R17). -/
theorem Pkg.writeCold_lateBits (s : Pkg) (d o : Nat) {m : Word} (v : Word) (h : m ≠ 0) :
    (s.writeCold d o m v).lateBits d o = (s.lateBits d o &&& ~~~ m) ||| (v &&& m) := by
  simp only [Pkg.writeCold, if_neg h, Pkg.lateBits, SMap.get_set_same]

theorem Touches.writeCold {p q : Pkg} {W C : List Nat} (h : Touches p q W C) (d o : Nat) (m v : Word) : Touches p (q.writeCold d o m v) W C := by
  obtain ⟨x, e⟩ := q.writeCold_eq d o m v; rw [e]; exact h.same rfl rfl rfl rfl

/-- Vectors that send again are the MSI-X logic's alone. -/
theorem Pkg.rearms_eq (s : Pkg) (l : List Nat) (v : Nat) : ∃ m, l.foldl (fun s t => s.rearm t v) s = { s with msix := m } := by
  induction l generalizing s with
  | nil => exact ⟨s.msix, rfl⟩
  | cons t l ih =>
    obtain ⟨m, h⟩ := ih (s.rearm t v)
    exact ⟨m, by rw [List.foldl_cons, h]; rfl⟩

/-- A write of W1C bits writes the word, and otherwise concerns the MSI-X logic alone. -/
theorem Pkg.writeClear_eq (s : Pkg) (d o : Nat) (m c : Word) :
    ∃ x, s.writeClear d o m c = { s.wrUnless (m = 0 ∨ c = 0) d o (s.rd d o &&& ~~~ (c &&& ~~~ s.setNow d o)) with msix := x } := by
  unfold Pkg.writeClear Pkg.wrUnless
  by_cases hm : m = 0
  · exact ⟨s.msix, by simp [hm]⟩
  · simp only [hm, if_false, false_or]
    split
    · exact Pkg.rearms_eq _ _ _
    · exact ⟨_, rfl⟩

/-- The bits of the word that carry 1 fall, but those that hardware has set at this instant (R16). -/
theorem Pkg.writeClear_rd (s : Pkg) (d o : Nat) {m c : Word} (h : m = 0 → c = 0) :
    (s.writeClear d o m c).rd d o = s.rd d o &&& ~~~ (c &&& ~~~ s.setNow d o) := by
  obtain ⟨x, e⟩ := s.writeClear_eq d o m c
  rw [e]
  refine s.wrUnless_rd _ d o _ fun hc => ?_
  have hc0 : c = 0 := hc.elim h id
  simp [hc0]

@[simp] theorem Pkg.writeClear_coldNext (s : Pkg) (d o : Nat) (m c : Word) : (s.writeClear d o m c).coldNext = s.coldNext := by
  obtain ⟨x, e⟩ := s.writeClear_eq d o m c; rw [e]; exact s.wrUnless_coldNext _ _ _ _

theorem Touches.writeClear {p q : Pkg} {W C : List Nat} (h : Touches p q W C) {d o : Nat} {m c : Word} (hm : pkgAddr d o ∈ W) :
    Touches p (q.writeClear d o m c) W C := by
  obtain ⟨x, e⟩ := q.writeClear_eq d o m c; rw [e]
  exact (h.wrUnless _ d o _ hm).same rfl rfl rfl rfl

/-! ### A plain write -/

theorem plainWrite_touches (s : Pkg) (die off : Nat) (prompt delayed v : Word) :
    Touches s (s.plainWrite die off prompt delayed v) [pkgAddr die off] [] :=
  ((((Touches.refl _ _ _).wrUnless _ _ _ _ (by simp)).writeCold _ _ _ _).wrUnless _ _ _ _ (by simp)).writeClear (by simp)

theorem Pkg.plainWrite_rd (s : Pkg) (die off : Nat) (prompt delayed v : Word) :
    (s.plainWrite die off prompt delayed v).rd die off =
      (((s.rd die off &&& ~~~ prompt) ||| (v &&& prompt)) ||| (w1sBits die off &&& v)) &&& ~~~ (w1cBits die off &&& v &&& ~~~ s.setNow die off) := by
  have hprompt : prompt = 0 → (s.rd die off &&& ~~~ prompt) ||| (v &&& prompt) = s.rd die off := by
    rintro rfl; simp
  unfold Pkg.plainWrite
  rw [Pkg.writeClear_rd _ _ _ (fun h => by simp [h]), Pkg.wrUnless_rd _ _ _ _ _ (fun h => by simp [h]),
    Pkg.writeCold_rd, Pkg.wrUnless_rd _ _ _ _ _ hprompt]
  simp

theorem Pkg.lateBits_congr {p q : Pkg} (h : p.coldNext = q.coldNext) (d o : Nat) : p.lateBits d o = q.lateBits d o := by
  unfold Pkg.lateBits; rw [h]

theorem Pkg.plainWrite_lateBits (s : Pkg) (die off : Nat) (prompt v : Word) {delayed : Word} (h : delayed ≠ 0) :
    (s.plainWrite die off prompt delayed v).lateBits die off = (s.lateBits die off &&& ~~~ delayed) ||| (v &&& delayed) := by
  unfold Pkg.plainWrite
  rw [Pkg.lateBits_congr (Pkg.writeClear_coldNext _ _ _ _ _), Pkg.lateBits_congr (Pkg.wrUnless_coldNext _ _ _ _ _), Pkg.writeCold_lateBits _ _ _ _ h,
    Pkg.lateBits_congr (Pkg.wrUnless_coldNext _ _ _ _ _)]

/-! ### A word whose write is no command -/

theorem writeSentinel_plain {off : Nat} (h : plainWord 15 off = true) (s : Pkg) (r : Req) (v : Word) :
    s.writeSentinel r off v 15 = s.writeWord r 15 off v 15 := by
  simp only [plainWord, if_true, List.contains_eq_mem, List.mem_cons, List.not_mem_nil, or_false, Bool.decide_or, Bool.not_or, Bool.not_and,
    Bool.and_eq_true, Bool.not_eq_true', decide_eq_false_iff_not, Bool.or_eq_true, beq_eq_false_iff_ne] at h
  obtain ⟨⟨hwords, hconsent⟩, hlin⟩ := h
  have hconsent' : ¬ (0x20020 ≤ off ∧ off < 0x20080) := by omega
  have hlin' : ¬ (0x40000 ≤ off ∧ off < 0x40C00 ∧ off % 0x100 = 0x14) := by omega
  simp only [Pkg.writeSentinel, hwords, hconsent', hlin', if_false, false_and]

theorem writeTile_plain {t off : Nat} (ht : t ≠ 15) (h : plainWord t off = true) (s : Pkg) (r : Req) (v : Word) :
    s.writeTile r t off v 15 = s.writeWord r t off v 15 := by
  simp only [plainWord, if_neg ht, List.contains_eq_mem, List.mem_cons, List.not_mem_nil, or_false, Bool.decide_or, Bool.not_or, Bool.not_and,
    Option.isNone_iff_eq_none, Bool.and_eq_true, Bool.not_eq_true', decide_eq_false_iff_not, Bool.or_eq_true, beq_eq_false_iff_ne,
    bne_eq_false_iff_eq] at h
  obtain ⟨⟨⟨⟨⟨⟨hpod, hup⟩, hmirror⟩, hwords⟩, hdma⟩, hck⟩, hsa⟩ := h
  have hdma' : ∀ n, n = 0 ∨ n = 0x14 ∨ n = 0x1C → ¬ (0x1A00000 ≤ off ∧ off < 0x1A01000 ∧ off % 0x100 = n) := by omega
  have hck' : ∀ P : Prop, ¬ (0x1C00000 ≤ off ∧ off < 0x1C00200 ∧ P) := by intro P; omega
  have hwide : ckWide off = none := by simp only [ckWide, hck', if_false]
  have hsa' : ¬ (((0x3900000 ≤ off ∧ off < 0x3920000) ∨ (0x3920000 ≤ off ∧ off < 0x3920800)) ∧ off % 32 = 0) := by omega
  have hup' : ¬ (tileBlock off = some .up ∧ t ≠ 0) := fun hu => hup.elim (fun hb => hb hu.1) hu.2
  simp only [Pkg.writeTile, hpod, hwords, hdma' 0 (by simp), hdma' 0x14 (by simp), hdma' 0x1C (by simp), hck', hwide, hsa', hmirror, hup', if_false,
    Bool.false_eq_true]

/-! ### REGISTER_WRITE of a plain word -/

theorem Pkg.remember_rkBits (s : Pkg) (r : Req) (d o : Nat) (v : Word) (d2 o2 : Nat) : (s.remember r d o v).rkBits d2 o2 = s.rkBits d2 o2 := by
  obtain ⟨x, k, q, h⟩ := s.remember_eq r d o v; rw [h]; rfl

theorem Pkg.remember_setNow (s : Pkg) (r : Req) (d o : Nat) (v : Word) (d2 o2 : Nat) : (s.remember r d o v).setNow d2 o2 = s.setNow d2 o2 := by
  obtain ⟨x, k, q, h⟩ := s.remember_eq r d o v; rw [h]; rfl

theorem Pkg.remember_coldOpen (s : Pkg) (r : Req) (d o : Nat) (v : Word) : (s.remember r d o v).coldOpen = s.coldOpen := by
  obtain ⟨x, k, q, h⟩ := s.remember_eq r d o v; rw [h]; rfl

theorem Pkg.remember_modeNow (s : Pkg) (r : Req) (d o : Nat) (v : Word) : (s.remember r d o v).modeNow = s.modeNow := s.remember_get r d o v 15 fMode

/-- What an effect on the remembering package touches frames the command. -/
theorem frame_remember {s : State} {r : Req} {n die off : Nat} {v : Word} {f : Pkg → Pkg} {W C : List Nat}
    (h : Touches ((s.pkg.reach n).remember r die off v) (f s.pkg) W C) : Frame s (s.map f).finish W C :=
  frame_finish (wordsKept_remember h.words) (countsKept_remember h.counts) (by simp [h.wipe])

/-- REGISTER_WRITE of a plain word that reaches its target writes the word as the home die remembers the write. -/
theorem exec_registerWrite_plain {a : Acc} {die off : Nat} {v : Word} {s : State} (h : s.pkg.reaches a.req die off v) (hp : plainWord die off = true) :
    exec (.registerWrite a (pkgAddr die off) v 15) s =
      .next (s.map (fun p => ((p.reach a.at_).remember a.req die off v).writeWord a.req die off v 15)).finish := by
  have hacc := State.access_reaches (s := s.map (fun p => p.reach a.at_)) (Pkg.reaches_reach h a.at_)
  obtain ⟨_, _, _, h4, _, _, _, _, _, habs⟩ := h
  show Host.Outcome.next _ = _
  rw [hacc, State.map_map]
  congr 2
  by_cases hd : die = 15
  · subst hd
    have hu : off ≠ 0x20010 := by rintro rfl; exact absurd hp (by decide)
    rw [State.applyWrite_sentinel h4 hu, State.map_map]
    simp only [writeSentinel_plain hp]
  · have hu : off ≠ 0x2100004 := by
      rintro rfl
      simp [plainWord, hd] at hp
    rw [State.applyWrite_tile (by rw [State.map_pkg, Pkg.remember_absentPort]; exact habs) h4 hd hu, State.map_map]
    simp only [writeTile_plain hd hp]

section
variable {a : Acc} {die off : Nat} {v : Word} {s : State}

/-- Out of shape (R56): the configuration error is all there is. -/
theorem registerWrite_outOfShape (h : s.pkg.reaches a.req die off v) (hp : plainWord die off = true)
    (ht : ((s.pkg.reach a.at_).remember a.req die off v).takes die off v = false) :
    Runs (.registerWrite a (pkgAddr die off) v 15) s (fun t => t.pkg.cnt die (cfgErrCnt die) = s.pkg.cnt die (cfgErrCnt die) + 1 ∧
      Frame s t (cfgErrWords die) [pkgAddr die (cfgErrCnt die)]) := by
  refine ⟨_, exec_registerWrite_plain h hp, ?_, frame_remember (r := a.req) (n := a.at_) (die := die) (off := off) (v := v) ?_⟩
  · simp [Pkg.writeWord_outOfShape a.req ht, Pkg.cfgErr_cnt]
  · rw [Pkg.writeWord_outOfShape a.req ht]
    exact cfgErr_touches _ _ _ _ _

/-- In shape: from the package in which a barred write of cold bits stands recorded, the word takes the write. -/
theorem registerWrite_inShape (h : s.pkg.reaches a.req die off v) (hp : plainWord die off = true) (hk : s.pkg.rkBits die off = 0)
    (ht : ((s.pkg.reach a.at_).remember a.req die off v).takes die off v = true) :
    Runs (.registerWrite a (pkgAddr die off) v 15) s (fun t =>
      t.pkg.rd die off = (((s.pkg.rd die off &&& ~~~ s.pkg.promptBits die off) ||| (v &&& s.pkg.promptBits die off)) ||| (w1sBits die off &&& v)) &&&
        ~~~ (w1cBits die off &&& v &&& ~~~ (s.pkg.reach a.at_).setNow die off) ∧
      (s.pkg.delayedBits die off ≠ 0 →
        t.pkg.lateBits die off = (s.pkg.lateBits die off &&& ~~~ s.pkg.delayedBits die off) ||| (v &&& s.pkg.delayedBits die off)) ∧
      ((s.pkg.rd die off ^^^ v) &&& s.pkg.shutBits die off = 0 → Frame s t [pkgAddr die off] []) ∧
      ((s.pkg.rd die off ^^^ v) &&& s.pkg.shutBits die off ≠ 0 → t.pkg.cnt die (cfgErrCnt die) = s.pkg.cnt die (cfgErrCnt die) + 1 ∧
        Frame s t (pkgAddr die off :: cfgErrWords die) [pkgAddr die (cfgErrCnt die)])) := by
  generalize hpkg : (s.pkg.reach a.at_).remember a.req die off v = p at ht
  have hrd : p.rd die off = s.pkg.rd die off := by simp [← hpkg]
  have hcnt : p.cnt die (cfgErrCnt die) = s.pkg.cnt die (cfgErrCnt die) := by simp [← hpkg]
  have hset : p.setNow die off = (s.pkg.reach a.at_).setNow die off := by rw [← hpkg, Pkg.remember_setNow]
  have hcold : p.coldNext = s.pkg.coldNext := by simp [← hpkg]
  have hmode : p.modeNow = s.pkg.modeNow := by rw [← hpkg, Pkg.remember_modeNow]; rfl
  have hopen : p.coldOpen = s.pkg.coldOpen := by rw [← hpkg, Pkg.remember_coldOpen]; rfl
  have hshut : p.shutBits die off = s.pkg.shutBits die off := by rw [Pkg.shutBits, Pkg.shutBits, hopen]
  have hprompt : p.promptBits die off = s.pkg.promptBits die off := by rw [Pkg.promptBits, Pkg.promptBits, hmode]
  have hdelayed : p.delayedBits die off = s.pkg.delayedBits die off := by rw [Pkg.delayedBits, Pkg.delayedBits, hmode]
  have hw := Pkg.writeWord_inShape a.req ht (by rw [← hpkg, Pkg.remember_rkBits]; exact hk)
  rw [hprompt, hdelayed] at hw
  refine ⟨_, exec_registerWrite_plain h hp, ?_, fun hl => ?_, fun hc => ?_, fun hc => ?_⟩
  · rw [State.finish_pkg_rd, State.map_pkg, hpkg, hw, Pkg.plainWrite_rd, Pkg.coldChecked_rd, Pkg.coldChecked_setNow, hrd, hset]
  · rw [Pkg.lateBits_congr (State.finish_pkg_coldNext _), State.map_pkg, hpkg, hw, Pkg.plainWrite_lateBits _ _ _ _ _ hl,
      Pkg.lateBits_congr (Pkg.coldChecked_coldNext _ _ _ _ _), Pkg.lateBits_congr hcold]
  · refine frame_remember (r := a.req) (n := a.at_) (die := die) (off := off) (v := v) ?_
    rw [hpkg, hw, Pkg.coldChecked, hrd, hshut, if_pos hc]
    exact plainWrite_touches _ _ _ _ _ _
  · have hq : p.coldChecked a.req die off v = p.cfgErr a.req die cColdWindow (pkgAddr die off) := by
      rw [Pkg.coldChecked, hrd, hshut, if_neg hc]
    have htouch := plainWrite_touches (p.coldChecked a.req die off v) die off (s.pkg.promptBits die off) (s.pkg.delayedBits die off) v
    constructor
    · rw [State.finish_pkg_cnt, State.map_pkg, hpkg, hw, htouch.counts _ _ (by simp), hq, Pkg.cfgErr_cnt, hcnt]
    · refine frame_remember (r := a.req) (n := a.at_) (die := die) (off := off) (v := v) ?_
      rw [hpkg, hw]
      rw [hq] at htouch ⊢
      exact ((cfgErr_touches p a.req die _ _).mono (by simp) (by simp)).trans (htouch.mono (by simp) (by simp))

end

/-- Settles O5: a plain word's write is `writeWord` alone. In shape it records a barred write of cold bits, then takes the prompt bits at once, keeps the
delayed ones for the restart, and sets and clears by ones; out of shape it is the configuration error and nothing else. -/
theorem registerWriteEffect : Obligations.RegisterWriteEffect := by
  intro a die off v s h hp hk errWords live late barred
  refine ⟨fun ht => ?_, registerWrite_outOfShape h hp⟩
  obtain ⟨t, he, hrd, hlate, hfree, hbarred⟩ := registerWrite_inShape h hp hk ht
  have hshut : (s.pkg.rd die off ^^^ v) &&& s.pkg.shutBits die off ≠ 0 ↔ barred := by
    cases hc : s.pkg.coldOpen <;> simp [barred, Pkg.shutBits, hc]
  refine ⟨t, he, hrd, hlate, fun hb => hfree ?_, fun hb => hbarred (hshut.2 hb)⟩
  exact not_not.1 fun h' => hb (hshut.1 h')

end Sys2Proof.Machine
end

section
/-! PROOFS. Package time: beats, skew faults and tether alignment (R44–R48). -/
namespace Sys2Proof.Machine

/-! ### A raised bit and the fields beside it -/

@[simp] theorem Pkg.raise_rd (s : Pkg) (d : Nat) (f : Fld) (d' o' : Nat) : (s.raise d f).rd d' o' = (s.put d f 1).rd d' o' := (rfl)
@[simp] theorem Pkg.raise_get (s : Pkg) (d : Nat) (f : Fld) (d' : Nat) (f' : Fld) : (s.raise d f).get d' f' = (s.put d f 1).get d' f' := (rfl)
@[simp] theorem Pkg.raise_on (s : Pkg) (d : Nat) (f : Fld) (d' : Nat) (f' : Fld) : (s.raise d f).on d' f' = (s.put d f 1).on d' f' := (rfl)
@[simp] theorem Pkg.put_clockSt (s : Pkg) (d : Nat) (f : Fld) (v d' : Nat) : (s.put d f v).clockSt d' = s.clockSt d' := (rfl)
@[simp] theorem Pkg.raise_clockSt (s : Pkg) (d : Nat) (f : Fld) (d' : Nat) : (s.raise d f).clockSt d' = s.clockSt d' := (rfl)
@[simp] theorem Pkg.bump_clockSt (s : Pkg) (d o d' : Nat) : (s.bump d o).clockSt d' = s.clockSt d' := (rfl)
@[simp] theorem Pkg.reach_clockSt (s : Pkg) (n d' : Nat) : (s.reach n).clockSt d' = s.clockSt d' := (rfl)
@[simp] theorem Pkg.clockSt_setClockSt_same (s : Pkg) (d : Nat) (c : ClockSt) : (s.setClockSt d c).clockSt d = c := SMap.get_set_same _ _ _ _

/-! ### Corrections of a count (R46) -/

theorem Touches.setClockSt {p q : Pkg} {W C : List Nat} (h : Touches p q W C) {d : Nat} {c : ClockSt} : Touches p (q.setClockSt d c) W C :=
  h.same rfl rfl rfl rfl

/-- A correction sets a die's clock, and leaves the beats it has counted. -/
theorem Pkg.correct_eq (s : Pkg) (die : Nat) (seen target : Int) :
    ∃ c : ClockSt, c.overs = (s.clockSt die).overs ∧ s.correct die seen target = s.setClockSt die c := by
  refine ⟨_, ?_, rfl⟩; rfl

/-- At the instant of a correction nothing of it is absorbed yet: the count stands where it stood, or further on where that is measured or wanted. -/
theorem Pkg.count_correct (s : Pkg) (die : Nat) (seen target : Int) :
    ((s.correct die seen target).count die : Int) = max (s.count die : Int) (max seen target) := by
  simp only [Pkg.correct, Pkg.count, Pkg.setClockSt, SMap.get_set_same]
  omega

theorem Pkg.slow_correct (s : Pkg) (die : Nat) (seen target : Int) :
    ((s.correct die seen target).clockSt die).slow = (max (s.count die : Int) (max seen target) - target).toNat := by
  simp only [Pkg.correct, Pkg.clockSt_setClockSt_same]

/-! ### TETHER_TIME_ALIGN (R48) -/

theorem tetherTimeAlign_eq {s : Pkg} {err : Int} (at_ : Nat) (hu : s.tetherTile.isSome = true) (hm : s.modeNow = mRun) (he : err.natAbs ≤ 20) :
    tetherTimeAlign err at_ s = (s.reach at_).correct 15 0 ((s.reach at_).count s.ref + err * 65536) := by
  refine Pkg.when_pos _ _ ?_
  show (s.tetherTile.isSome && (s.modeNow == mRun) && decide (err.natAbs ≤ 20)) = true
  simp [hu, hm, he]

theorem Touches.reach {p q : Pkg} {W C : List Nat} (h : Touches p q W C) {n : Nat} : Touches p (q.reach n) W C := h.same rfl rfl rfl rfl

theorem State.finish_count (s : State) (die : Nat) : s.finish.pkg.count die = s.pkg.count die := by
  unfold Pkg.count; rw [State.finish_pkg_now, State.finish_pkg_clocks]

theorem State.finish_clockSt (s : State) (die : Nat) : s.finish.pkg.clockSt die = s.pkg.clockSt die := by
  unfold Pkg.clockSt; rw [State.finish_pkg_clocks]

/-- R48: the sentinel's count is moved up to the goal; what it is ahead of the goal is left to be absorbed. -/
theorem runs_tetherTimeAlign {s : State} {err : Int} (at_ : Nat) (hu : s.pkg.tetherTile.isSome = true) (hm : s.pkg.modeNow = mRun) (he : err.natAbs ≤ 20) :
    let goal : Int := (s.pkg.reach at_).count s.pkg.ref + err * 65536
    Runs (.tetherTimeAlign err at_) s (fun t => (t.pkg.count 15 : Int) = max ((s.pkg.reach at_).count 15 : Int) goal ∧
      ((t.pkg.clockSt 15).slow : Int) = max ((s.pkg.reach at_).count 15 : Int) goal - goal ∧ Frame s t [] []) := by
  intro goal
  have hp := tetherTimeAlign_eq at_ hu hm he
  have hmax : max ((s.pkg.reach at_).count 15 : Int) (max 0 goal) = max ((s.pkg.reach at_).count 15 : Int) goal := by omega
  refine runs_onPkg rfl ⟨?_, ?_, Touches.frame (f := tetherTimeAlign err at_) ?_⟩
  · rw [State.finish_count, State.map_pkg, hp, Pkg.count_correct, hmax]
  · rw [State.finish_clockSt, State.map_pkg, hp, Pkg.slow_correct, hmax]; omega
  · rw [hp]; exact (Touches.refl _ _ _).reach.setClockSt

/-! ### TIME_BEAT (R44, R45) -/

/-- What a beat measures: the run of beats above 2 ns, TM_OFFSET and the span of the beat. -/
def Pkg.beatMeasured (s : Pkg) (tile : Nat) (offset : Int) (overs : Nat) : Pkg :=
  ((s.setClockSt tile { s.clockSt tile with overs := overs }).put tile fTmOffset (toWord offset).toNat).put tile fTimePath (s.beatPort tile)

section
variable (s : Pkg) (tile : Nat) (offset : Int) (overs : Nat)

theorem Pkg.beatMeasured_offset : (s.beatMeasured tile offset overs).rd tile 0x100010 = toWord offset := by
  have hfull : ∀ w v : Word, fieldSet w 31 0 v.toNat = v := by
    have hm : fieldMask 31 0 = BitVec.allOnes 32 := by decide
    intro w v
    simp [-BitVec.reduceAllOnes, fieldSet, hm]
  rw [Pkg.beatMeasured, Pkg.rd_put_off _ _ (by decide)]
  exact (Pkg.rd_put_same _ tile fTmOffset _).trans (hfull _ _)

theorem Pkg.beatMeasured_path : (s.beatMeasured tile offset overs).get tile fTimePath = s.beatPort tile % 16 :=
  Pkg.get_put_same _ tile fTimePath _ (by decide)

theorem Pkg.beatMeasured_on {f : Fld} (h : f.off ≠ fTmOffset.off) (h' : fTimePath.hi < f.lo ∨ f.hi < fTimePath.lo) :
    (s.beatMeasured tile offset overs).on tile f = s.on tile f := by
  rw [Pkg.beatMeasured, Pkg.on_put_apart _ _ (Or.inr h'), Pkg.on_put_apart _ _ (Or.inl h), Pkg.setClockSt_on]

@[simp] theorem Pkg.beatMeasured_cnt (d o : Nat) : (s.beatMeasured tile offset overs).cnt d o = s.cnt d o := (rfl)

theorem Pkg.beatMeasured_clockSt : (s.beatMeasured tile offset overs).clockSt tile = { s.clockSt tile with overs := overs } :=
  SMap.get_set_same _ _ _ _

end

/-- The words and the counter of a tile that a beat may change: TM_STATUS, TM_OFFSET, and the skew faults. -/
abbrev beatWords (tile : Nat) : List Nat := [pkgAddr tile 0x100010, pkgAddr tile 0x10000C]

theorem beatMeasured_touches (s : Pkg) (tile : Nat) (offset : Int) (overs : Nat) :
    Touches s (s.beatMeasured tile offset overs) (beatWords tile) [pkgAddr tile oSkewFaults] :=
  ((Touches.refl _ _ _).setClockSt.put (by simp [fTmOffset])).put (by simp [fTimePath])

section
variable (s : Pkg) (t d : Nat)

theorem Pkg.lockFell_eq : ∃ k, s.lockFell t = { s with ks := k } := by
  unfold Pkg.lockFell; split
  · exact ⟨_, rfl⟩
  · exact ⟨s.ks, rfl⟩

@[simp] theorem Pkg.lockFell_rd (o : Nat) : (s.lockFell t).rd d o = s.rd d o := by
  obtain ⟨k, h⟩ := s.lockFell_eq t; rw [h]; rfl
@[simp] theorem Pkg.lockFell_get (f : Fld) : (s.lockFell t).get d f = s.get d f := by
  obtain ⟨k, h⟩ := s.lockFell_eq t; rw [h]; rfl
@[simp] theorem Pkg.lockFell_on (f : Fld) : (s.lockFell t).on d f = s.on d f := by
  obtain ⟨k, h⟩ := s.lockFell_eq t; rw [h]; rfl
@[simp] theorem Pkg.lockFell_cnt (o : Nat) : (s.lockFell t).cnt d o = s.cnt d o := by
  obtain ⟨k, h⟩ := s.lockFell_eq t; rw [h]; rfl
@[simp] theorem Pkg.lockFell_clockSt : (s.lockFell t).clockSt d = s.clockSt d := by
  obtain ⟨k, h⟩ := s.lockFell_eq t; rw [h]; rfl

theorem Touches.lockFell {p q : Pkg} {W C : List Nat} (h : Touches p q W C) : Touches p (q.lockFell t) W C := by
  obtain ⟨k, e⟩ := q.lockFell_eq t; rw [e]; exact h.same rfl rfl rfl rfl

end

/-- A beat that reaches a tile in service. -/
def Pkg.takesBeat (s : Pkg) (tile : Nat) : Prop := s.inService tile = true ∧ tile ≠ s.ref ∧ s.pairUp tile s.ref = true

section
variable {s : Pkg} {tile : Nat} {offset : Int} {at_ : Nat}

theorem Pkg.takesBeat_guard (h : s.takesBeat tile) : (s.inService tile && tile != s.ref && s.pairUp tile s.ref) = true := by
  obtain ⟨hserv, href, hpair⟩ := h
  simp [hserv, href, hpair]

/-- At most 2 ns off: the count is corrected and the tile is locked. -/
theorem timeBeat_within (h : s.takesBeat tile) (hb : offset.natAbs ≤ 131072) :
    ∃ c : ClockSt, c.overs = 0 ∧ timeBeat tile offset at_ s = (((s.reach at_).beatMeasured tile offset 0).setClockSt tile c).put tile fLocked 1 := by
  have hb' : ¬ 131072 < offset.natAbs := by omega
  have hbeat : ∃ seen target, timeBeat tile offset at_ s = (((s.reach at_).beatMeasured tile offset 0).correct tile seen target).put tile fLocked 1 := by
    rw [timeBeat, Pkg.when_pos _ _ (Pkg.takesBeat_guard h)]
    simp only [hb', decide_false, Bool.false_eq_true, if_false, Nat.reduceLeDiff, Bool.not_false, Pkg.putIf, if_true]
    exact ⟨_, _, rfl⟩
  obtain ⟨seen, target, hbeat⟩ := hbeat
  obtain ⟨c, hc, he⟩ := ((s.reach at_).beatMeasured tile offset 0).correct_eq tile seen target
  exact ⟨c, by rw [hc, Pkg.beatMeasured_clockSt], by rw [hbeat, he]⟩

/-- The first beat above 2 ns: the count is corrected, nothing else. -/
theorem timeBeat_firstOver (h : s.takesBeat tile) (hb : 131072 < offset.natAbs) (ho : (s.clockSt tile).overs = 0) :
    ∃ c : ClockSt, c.overs = 1 ∧ timeBeat tile offset at_ s = ((s.reach at_).beatMeasured tile offset 1).setClockSt tile c := by
  have ho' : ((s.reach at_).clockSt tile).overs = 0 := ho
  have hbeat : ∃ seen target, timeBeat tile offset at_ s = ((s.reach at_).beatMeasured tile offset 1).correct tile seen target := by
    rw [timeBeat, Pkg.when_pos _ _ (Pkg.takesBeat_guard h)]
    simp only [hb, ho', decide_true, if_true, Nat.reduceAdd, Nat.reduceLeDiff, if_false, Bool.not_true, Bool.false_eq_true, Pkg.putIf]
    exact ⟨_, _, rfl⟩
  obtain ⟨seen, target, hbeat⟩ := hbeat
  obtain ⟨c, hc, he⟩ := ((s.reach at_).beatMeasured tile offset 1).correct_eq tile seen target
  exact ⟨c, by rw [hc, Pkg.beatMeasured_clockSt], by rw [hbeat, he]⟩

/-- Each further one is a skew fault, on which the tile counts on as it did. -/
theorem timeBeat_skewFault (h : s.takesBeat tile) (hb : 131072 < offset.natAbs) (ho : 1 ≤ (s.clockSt tile).overs) :
    timeBeat tile offset at_ s =
      (((((s.reach at_).beatMeasured tile offset ((s.clockSt tile).overs + 1)).raise tile fSkewFault).put tile fLocked 0).bump tile oSkewFaults).lockFell
        tile := by
  have hc : (s.reach at_).clockSt tile = s.clockSt tile := rfl
  have ho' : 2 ≤ (s.clockSt tile).overs + 1 := by omega
  rw [timeBeat, Pkg.when_pos _ _ (Pkg.takesBeat_guard h)]
  simp only [hb, ho', hc, decide_true, if_true]
  rfl

/-- A beat changes TM_STATUS, TM_OFFSET and the skew faults of its tile at most. -/
theorem timeBeat_touches (h : s.takesBeat tile) : Touches s (timeBeat tile offset at_ s) (beatWords tile) [pkgAddr tile oSkewFaults] := by
  have hm : ∀ n, Touches s ((s.reach at_).beatMeasured tile offset n) (beatWords tile) [pkgAddr tile oSkewFaults] :=
    fun n => (Touches.refl _ _ _).reach.trans (beatMeasured_touches _ _ _ _)
  rcases Nat.lt_or_ge 131072 offset.natAbs with hb | hb
  · rcases Nat.eq_zero_or_pos (s.clockSt tile).overs with ho | ho
    · obtain ⟨c, _, he⟩ := timeBeat_firstOver (at_ := at_) h hb ho
      rw [he]; exact (hm 1).setClockSt
    · rw [timeBeat_skewFault h hb ho]
      exact ((((hm _).raise (by simp [fSkewFault])).put (by simp [fLocked])).bump (by simp)).lockFell tile
  · obtain ⟨c, _, he⟩ := timeBeat_within (at_ := at_) h hb
    rw [he]; exact (hm 0).setClockSt.put (by simp [fLocked])

/-- Every beat is reported: TM_OFFSET and PATH hold what it measured. -/
theorem timeBeat_reports (h : s.takesBeat tile) :
    (timeBeat tile offset at_ s).rd tile 0x100010 = toWord offset ∧ (timeBeat tile offset at_ s).get tile fTimePath = s.beatPort tile % 16 := by
  have hport : (s.reach at_).beatPort tile = s.beatPort tile := rfl
  rcases Nat.lt_or_ge 131072 offset.natAbs with hb | hb
  · rcases Nat.eq_zero_or_pos (s.clockSt tile).overs with ho | ho
    · obtain ⟨c, _, he⟩ := timeBeat_firstOver (at_ := at_) h hb ho
      rw [he, Pkg.setClockSt_rd, Pkg.setClockSt_get, Pkg.beatMeasured_offset, Pkg.beatMeasured_path, hport]
      exact ⟨rfl, rfl⟩
    · rw [timeBeat_skewFault h hb ho, Pkg.lockFell_rd, Pkg.lockFell_get, Pkg.bump_rd, Pkg.bump_get, Pkg.rd_put_off _ _ (by decide),
        Pkg.get_put_apart _ _ (by decide), Pkg.raise_rd, Pkg.raise_get, Pkg.rd_put_off _ _ (by decide), Pkg.get_put_apart _ _ (by decide),
        Pkg.beatMeasured_offset, Pkg.beatMeasured_path, hport]
      exact ⟨rfl, rfl⟩
  · obtain ⟨c, _, he⟩ := timeBeat_within (at_ := at_) h hb
    rw [he, Pkg.rd_put_off _ _ (by decide), Pkg.get_put_apart _ _ (by decide), Pkg.setClockSt_rd, Pkg.setClockSt_get, Pkg.beatMeasured_offset,
      Pkg.beatMeasured_path, hport]
    exact ⟨rfl, rfl⟩

/-- R44: within 2 ns the tile is locked, and the run of beats above it ends. -/
theorem timeBeat_within_locks (h : s.takesBeat tile) (hb : offset.natAbs ≤ 131072) :
    (timeBeat tile offset at_ s).on tile fLocked = true ∧ ((timeBeat tile offset at_ s).clockSt tile).overs = 0 := by
  obtain ⟨c, hc, he⟩ := timeBeat_within (at_ := at_) h hb
  rw [he, Pkg.put_clockSt, Pkg.clockSt_setClockSt_same, Pkg.on_put_same _ _ _ _ (by decide)]
  exact ⟨rfl, hc⟩

/-- R45: one beat above 2 ns is no skew fault yet. -/
theorem timeBeat_firstOver_keeps (h : s.takesBeat tile) (hb : 131072 < offset.natAbs) (ho : (s.clockSt tile).overs = 0) :
    ((timeBeat tile offset at_ s).clockSt tile).overs = 1 ∧ (timeBeat tile offset at_ s).on tile fSkewFault = s.on tile fSkewFault ∧
      (timeBeat tile offset at_ s).on tile fLocked = s.on tile fLocked ∧ (timeBeat tile offset at_ s).cnt tile oSkewFaults = s.cnt tile oSkewFaults := by
  obtain ⟨c, hc, he⟩ := timeBeat_firstOver (at_ := at_) h hb ho
  rw [he, Pkg.clockSt_setClockSt_same, Pkg.setClockSt_on, Pkg.setClockSt_on, Pkg.setClockSt_cnt,
    Pkg.beatMeasured_on _ _ _ _ (by decide) (by decide), Pkg.beatMeasured_on _ _ _ _ (by decide) (by decide), Pkg.beatMeasured_cnt]
  exact ⟨hc, Pkg.reach_on _ _ _ _, Pkg.reach_on _ _ _ _, Pkg.reach_cnt _ _ _ _⟩

theorem timeBeat_skewFault_clears (h : s.takesBeat tile) (hb : 131072 < offset.natAbs) (ho : 1 ≤ (s.clockSt tile).overs) :
    ((timeBeat tile offset at_ s).clockSt tile) = { s.clockSt tile with overs := (s.clockSt tile).overs + 1 } ∧
      (timeBeat tile offset at_ s).on tile fSkewFault = true ∧ (timeBeat tile offset at_ s).on tile fLocked = false ∧
      (timeBeat tile offset at_ s).cnt tile oSkewFaults = s.cnt tile oSkewFaults + 1 := by
  rw [timeBeat_skewFault h hb ho, Pkg.lockFell_clockSt, Pkg.lockFell_on, Pkg.lockFell_on, Pkg.lockFell_cnt, Pkg.bump_clockSt, Pkg.bump_on, Pkg.bump_on,
    Pkg.cnt_bump_same, Pkg.put_clockSt, Pkg.put_cnt, Pkg.raise_clockSt, Pkg.raise_cnt, Pkg.beatMeasured_clockSt, Pkg.beatMeasured_cnt,
    Pkg.reach_clockSt, Pkg.reach_cnt, Pkg.on_put_same _ _ _ _ (by decide), Pkg.on_put_apart _ _ (by decide),
    Pkg.on_raise_same _ _ _ (by decide) (by decide)]
  exact ⟨rfl, rfl, rfl, rfl⟩

end

theorem runs_timeBeat {tile at_ : Nat} {offset : Int} {s : State} (h : s.pkg.takesBeat tile) :
    Runs (.timeBeat tile offset at_) s (fun t =>
      t.pkg.rd tile 0x100010 = toWord offset ∧ t.pkg.get tile fTimePath = s.pkg.beatPort tile % 16 ∧
      (offset.natAbs ≤ 131072 → t.pkg.on tile fLocked = true ∧ (t.pkg.clockSt tile).overs = 0) ∧
      (131072 < offset.natAbs → (t.pkg.clockSt tile).overs = (s.pkg.clockSt tile).overs + 1) ∧
      (131072 < offset.natAbs → (s.pkg.clockSt tile).overs = 0 →
        t.pkg.on tile fSkewFault = s.pkg.on tile fSkewFault ∧ t.pkg.on tile fLocked = s.pkg.on tile fLocked ∧
        t.pkg.cnt tile oSkewFaults = s.pkg.cnt tile oSkewFaults) ∧
      (131072 < offset.natAbs → 1 ≤ (s.pkg.clockSt tile).overs →
        t.pkg.on tile fSkewFault = true ∧ t.pkg.on tile fLocked = false ∧ t.pkg.cnt tile oSkewFaults = s.pkg.cnt tile oSkewFaults + 1 ∧
        (t.pkg.clockSt tile).off = (s.pkg.clockSt tile).off) ∧
      WordsKept s.pkg t.pkg [pkgAddr tile 0x100010, pkgAddr tile 0x10000C] ∧ CountsKept s.pkg t.pkg [pkgAddr tile oSkewFaults]) := by
  obtain ⟨hoff, hpath⟩ := timeBeat_reports (offset := offset) (at_ := at_) h
  obtain ⟨hwords, hcounts, _, _⟩ := Touches.frame (f := timeBeat tile offset at_) (timeBeat_touches h)
  refine runs_onPkg rfl ⟨?_, ?_, fun hb => ?_, fun hb => ?_, fun hb ho => ?_, fun hb ho => ?_, hwords, hcounts⟩ <;>
    simp only [State.finish_pkg_rd, State.finish_pkg_get, State.finish_pkg_on, State.finish_pkg_cnt, State.finish_clockSt, State.map_pkg]
  · exact hoff
  · exact hpath
  · exact timeBeat_within_locks h hb
  · rcases Nat.eq_zero_or_pos (s.pkg.clockSt tile).overs with ho | ho
    · rw [(timeBeat_firstOver_keeps h hb ho).1, ho]
    · rw [(timeBeat_skewFault_clears h hb ho).1]
  · exact (timeBeat_firstOver_keeps h hb ho).2
  · obtain ⟨hclock, hskew, hlocked, hcount⟩ := timeBeat_skewFault_clears (at_ := at_) h hb ho
    exact ⟨hskew, hlocked, hcount, by rw [hclock]⟩

end Sys2Proof.Machine
end

section
/-! PROOFS. Reads of low words, and what O11 asks of them and of package time (R11, R41, R221). -/
namespace Sys2Proof.Machine

/-! ### What leaves the package -/

/-- The MSI-X logic adds its messages after what has left already. -/
theorem Pkg.out_prefix_settle (s : Pkg) : s.out <+: s.settle.out := by
  unfold Pkg.settle Pkg.onEach
  generalize s.powered = l
  induction l generalizing s with
  | nil => exact List.prefix_rfl
  | cons t l ih => exact (List.prefix_append _ _).trans (ih (s.settleTile t))

theorem State.out_prefix_finish (s : State) : s.pkg.out <+: s.finish.pkg.out := s.pkg.out_prefix_settle

/-- Trace only adds to what has left. -/
theorem Pkg.trace_appends (s : Pkg) (r : Req) (w : Bool) (a : Nat) (v : Word) : ∃ x, s.trace r w a v = { s with out := s.out ++ x } := by
  unfold Pkg.trace
  dsimp only
  split
  · exact ⟨[], by rw [List.append_nil]⟩
  · exact ⟨_, rfl⟩

/-! ### A read that reaches its target (R36, R39, R41, R51) -/

/-- A read of this word leaves at once, and its target answers with nothing waiting at its port. -/
abbrev Pkg.readReaches (s : Pkg) (r : Req) (die off : Nat) : Prop :=
  s.leaves r ∧ die < 16 ∧ off < 2 ^ 26 ∧ off % 4 = 0 ∧ isFence die off = false ∧ s.accessErr r (pkgAddr die off) = 0 ∧ s.queueAt die = []

theorem State.access_readReaches {s : State} {r : Req} {die off : Nat} (h : s.pkg.readReaches r die off) (fate : ReadFate) :
    s.access r (pkgAddr die off) (.read fate) = s.map (fun p => p.serveRead r (pkgAddr die off) fate) := by
  obtain ⟨hl, hd, ho, h4, hf, he, hq⟩ := h
  have h30 : pkgAddr die off % 2 ^ 30 = pkgAddr die off := Nat.mod_eq_of_lt (pkgAddr_lt hd ho)
  have ho4 : off - off % 4 = off := by omega
  rw [State.access_leaves hl]
  simp only [State.issue]
  rw [h30]
  simp [State.issueRead, State.map, addrDie_pkgAddr hd ho, addrOff_pkgAddr die ho, ho4, he, hf, hq]

theorem Pkg.tookTurn_eq (s : Pkg) (die : Nat) (r : Req) : ∃ k, s.tookTurn die r = { s with portTurn := k } := ⟨_, rfl⟩

/-- A read whose data comes back is answered by what its target does at the read. -/
theorem Pkg.serveRead_returns {die off : Nat} (s : Pkg) (r : Req) (hd : die < 16) (ho : off < 2 ^ 26) {q : Pkg} {w : Word}
    (h : (s.tookTurn die r).readAt r die off = (q, w)) :
    ∃ x, s.serveRead r (pkgAddr die off) .returns = q.emitAll (.reply r (pkgAddr die off) w :: x) := by
  obtain ⟨x, hx⟩ := (q.emit (.reply r (pkgAddr die off) w)).trace_appends r false (pkgAddr die off) w
  refine ⟨x, ?_⟩
  simp only [Pkg.serveRead, addrDie_pkgAddr hd ho, addrOff_pkgAddr die ho, h, Pkg.replyRead, hx]
  simp [Pkg.emit, Pkg.emitAll]

/-- A low word that is no pod command and not TM_TXTS_INFO is read as its pair stands, and latches the rest of it. -/
theorem Pkg.readAt_low {s : Pkg} {r : Req} {die off : Nat} (h4 : off % 4 = 0) (hp : die = 15 ∨ podCommand off = none) (hx : off ≠ oTxtsInfo)
    (hl : isLowWord die off = true) : s.readAt r die off = s.readLow die off := by
  have ho4 : off - off % 4 = off := by omega
  have hpod : (if die = 15 then none else podCommand off) = none := by rcases hp with h | h <;> simp [h]
  simp only [Pkg.readAt, ho4, hpod, hx, and_false, if_false, hl, if_true]

/-- A word that is latched with the low word of its pair answers what is latched, and the read changes nothing. -/
theorem Pkg.readAt_latched {s : Pkg} {r : Req} {die off lo : Nat} (h4 : off % 4 = 0) (hp : die = 15 ∨ podCommand off = none) (hx : off ≠ oTxtsInfo)
    (hn : off ≠ oTmNow) (hl : pairLow die off = some lo) (hlo : lo ≠ off) : s.readAt r die off = (s, SMap.get 0 s.latch (pkgAddr die off)) := by
  have ho4 : off - off % 4 = off := by omega
  have hpod : (if die = 15 then none else podCommand off) = none := by rcases hp with h | h <;> simp [h]
  have hlow : isLowWord die off = false := by simp [isLowWord, hn, hl, hlo]
  simp only [Pkg.readAt, ho4, hpod, hx, and_false, if_false, hlow, hl, Bool.false_eq_true]

/-! ### LOW_WORD_READ (R11, R221) -/

theorem exec_lowWordRead_eq {a : Acc} {die off : Nat} (hd : die < 16) (ho : off < 2 ^ 26) (h4 : off % 4 = 0) (hl : isLowWord die off = true)
    (fate : ReadFate) (pair : Bool) (s : State) :
    exec (.lowWordRead a ⟨pkgAddr die off, fate, pair⟩) s = .next ((s.map (fun p => p.reach a.at_)).readPair a.req (pkgAddr die off) fate pair).finish := by
  have ho4 : off - off % 4 = off := by omega
  show Host.Outcome.next (State.finish (if isLowWord (addrDie (pkgAddr die off)) (addrOff (pkgAddr die off) - addrOff (pkgAddr die off) % 4) then _ else s)) = _
  rw [addrDie_pkgAddr hd ho, addrOff_pkgAddr die ho, ho4, if_pos hl]

theorem Pkg.readReaches_reach {s : Pkg} {r : Req} {die off : Nat} (h : s.readReaches r die off) (n : Nat) : (s.reach n).readReaches r die off := h

theorem State.finish_reqSt (s : State) (r : Req) : s.finish.pkg.reqSt r = s.pkg.reqSt r := by
  unfold Pkg.reqSt; rw [State.finish_pkg_reqs]

/-- An answered read is in the way of no other. -/
theorem Pkg.readReaches_answered {s : Pkg} {r : Req} {die off : Nat} (h : s.readReaches r die off) (l : SMap Word) (k : SMap Nat) (o : List OutEv) :
    ({ s with latch := l, portTurn := k, out := o } : Pkg).readReaches r die off := h

/-- A read of one word, as the effect on the package. -/
theorem exec_lowWordRead_single {a : Acc} {die off : Nat} {s : State} (h : s.pkg.readReaches a.req die off) (hl : isLowWord die off = true)
    (fate : ReadFate) :
    exec (.lowWordRead a ⟨pkgAddr die off, fate, false⟩) s =
      .next (s.map (fun p => (p.reach a.at_).serveRead a.req (pkgAddr die off) fate)).finish := by
  have h' : (s.map (fun p => p.reach a.at_)).pkg.readReaches a.req die off := Pkg.readReaches_reach h a.at_
  obtain ⟨_, hd, ho, h4, _⟩ := h
  rw [exec_lowWordRead_eq hd ho h4 hl, State.readPair, State.access_readReaches h', State.map_map]
  simp only [Bool.false_eq_true, if_false]

/-- The offset is the low word of a pair whose read has no effect but to latch the high word. -/
structure PairLowWord (die off : Nat) : Prop where
  low   : pairLow die off = some off
  noNow : off ≠ oTmNow
  noTx  : off ≠ oTxtsInfo
  noPod : die = 15 ∨ podCommand off = none

/-- The offset is the high word of that pair. -/
structure PairHighWord (die off : Nat) : Prop where
  low   : pairLow die (off + 4) = some off
  noNow : off + 4 ≠ oTmNow
  noTx  : off + 4 ≠ oTxtsInfo
  noPod : die = 15 ∨ podCommand (off + 4) = none

theorem PairLowWord.isLowWord {die off : Nat} (h : PairLowWord die off) : isLowWord die off = true := by simp [Machine.isLowWord, h.low]

/-- The high word of a pair as its two reads show it. -/
abbrev highWord (v : Quad) : Word := BitVec.ofNat 32 (v.toNat / 2 ^ 32)
/-- The low word of a pair as its two reads show it. -/
abbrev lowWord (v : Quad) : Word := BitVec.ofNat 32 v.toNat

/-- A read that is lost is kept with its number and its instant, until its timeout (R41). -/
theorem Pkg.loseRead_lost (s : Pkg) (r : Req) (addr : Nat) :
    ((s.loseRead r addr).reqSt r).lost = (s.reqSt r).lost ++ [{ id := (s.reqSt r).nextId, addr := addr, sent := s.now }] := by
  simp [Pkg.loseRead, Pkg.reqSt, Pkg.setReqSt]

/-- A read of the low word answers it and latches the high word. -/
theorem Pkg.serveRead_pairLow {s : Pkg} {r : Req} {die off : Nat} (h : s.readReaches r die off) (hl : PairLowWord die off) :
    ∃ k x, s.serveRead r (pkgAddr die off) .returns =
      { s with latch := SMap.set 0 s.latch (pkgAddr die (off + 4)) (highWord (s.pairShown (shownDie die off) off)), portTurn := k
               out := s.out ++ .reply r (pkgAddr die off) (lowWord (s.pairShown (shownDie die off) off)) :: x } := by
  obtain ⟨_, hd, ho, h4, _⟩ := h
  obtain ⟨k, hk⟩ := s.tookTurn_eq die r
  have hread : (s.tookTurn die r).readAt r die off = _ :=
    (Pkg.readAt_low h4 hl.noPod hl.noTx hl.isLowWord).trans (if_neg fun hc => hl.noNow hc.2)
  obtain ⟨x, hx⟩ := s.serveRead_returns r hd ho hread
  exact ⟨k, x, by rw [hx, hk]; rfl⟩

/-- A read of the high word answers what the low word's read has latched. -/
theorem Pkg.serveRead_pairHigh {s : Pkg} {r : Req} {die off : Nat} (h : s.readReaches r die (off + 4)) (hh : PairHighWord die off) :
    ∃ k x, s.serveRead r (pkgAddr die (off + 4)) .returns =
      { s with portTurn := k
               out := s.out ++ .reply r (pkgAddr die (off + 4)) (SMap.get 0 s.latch (pkgAddr die (off + 4))) :: x } := by
  obtain ⟨_, hd, ho, h4, _⟩ := h
  obtain ⟨k, hk⟩ := s.tookTurn_eq die r
  have hread : (s.tookTurn die r).readAt r die (off + 4) = _ := Pkg.readAt_latched h4 hh.noPod hh.noTx hh.noNow hh.low (by omega)
  obtain ⟨x, hx⟩ := s.serveRead_returns r hd ho hread
  exact ⟨k, x, by rw [hx, hk]; rfl⟩

/-- Answers that leave change no word and no counter. -/
theorem Touches.replied (s : Pkg) (n : Nat) (l : SMap Word) (k : SMap Nat) (o : List OutEv) (W C : List Nat) :
    Touches s { s.reach n with latch := l, portTurn := k, out := o } W C := (Touches.refl _ _ _).same rfl rfl rfl rfl

section
variable {a : Acc} {die off : Nat} {s : State}

/-- R11: the low word's read answers the pair as it stands and latches its high word. -/
theorem runs_lowWordRead_single (h : s.pkg.readReaches a.req die off) (hl : PairLowWord die off) :
    Runs (.lowWordRead a ⟨pkgAddr die off, .returns, false⟩) s (fun t =>
      (s.pkg.out ++ [.reply a.req (pkgAddr die off) (lowWord ((s.pkg.reach a.at_).pairShown (shownDie die off) off))]) <+: t.pkg.out ∧
      SMap.get 0 t.pkg.latch (pkgAddr die (off + 4)) = highWord ((s.pkg.reach a.at_).pairShown (shownDie die off) off) ∧ Frame s t [] []) := by
  have h' : (s.pkg.reach a.at_).readReaches a.req die off := h
  obtain ⟨k, x, hx⟩ := Pkg.serveRead_pairLow h' hl
  refine ⟨_, exec_lowWordRead_single h hl.isLowWord .returns, List.IsPrefix.trans ?_ (State.out_prefix_finish _), ?_, Touches.frame ?_⟩
  · rw [State.map_pkg, hx]
    exact ⟨x, by simp⟩
  · rw [State.finish_pkg_latch, State.map_pkg, hx]
    exact SMap.get_set_same _ _ _ _
  · rw [hx]; exact Touches.replied _ _ _ _ _ _ _

/-- R11: a read of both words answers one value of the pair, whatever the two answers bring about in between. -/
theorem runs_lowWordRead_pair (h : s.pkg.readReaches a.req die off) (hl : PairLowWord die off) (h' : s.pkg.readReaches a.req die (off + 4))
    (hh : PairHighWord die off) :
    Runs (.lowWordRead a ⟨pkgAddr die off, .returns, true⟩) s (fun t =>
      (∃ x, (s.pkg.out ++ [.reply a.req (pkgAddr die off) (lowWord ((s.pkg.reach a.at_).pairShown (shownDie die off) off))] ++ x ++
        [.reply a.req (pkgAddr die (off + 4)) (highWord ((s.pkg.reach a.at_).pairShown (shownDie die off) off))]) <+: t.pkg.out) ∧ Frame s t [] []) := by
  have hadd : pkgAddr die off + 4 = pkgAddr die (off + 4) := Nat.add_assoc _ _ _
  obtain ⟨k, x, hx⟩ := Pkg.serveRead_pairLow (Pkg.readReaches_reach h a.at_) hl
  have hlow := State.access_readReaches (s := s.map (fun p => p.reach a.at_)) (Pkg.readReaches_reach h a.at_) .returns
  have hanswered : ((s.map (fun p => p.reach a.at_)).map (fun p => p.serveRead a.req (pkgAddr die off) .returns)).pkg.readReaches a.req die (off + 4) := by
    rw [State.map_pkg, State.map_pkg, hx]
    exact Pkg.readReaches_answered (Pkg.readReaches_reach h' a.at_) _ _ _
  have hhigh := State.access_readReaches hanswered .returns
  rw [State.map_pkg, State.map_pkg, hx] at hanswered
  obtain ⟨k', x', hx'⟩ := Pkg.serveRead_pairHigh hanswered hh
  rw [SMap.get_set_same] at hx'
  obtain ⟨_, hd, ho, h4, _⟩ := h
  have hexec := exec_lowWordRead_eq hd ho h4 hl.isLowWord .returns true s (a := a)
  rw [State.readPair, if_pos rfl, hlow, hadd, hhigh, State.map_map, State.map_map] at hexec
  refine ⟨_, hexec, ⟨x, List.IsPrefix.trans ?_ (State.out_prefix_finish _)⟩, Touches.frame ?_⟩
  · rw [State.map_pkg, hx, hx']
    exact ⟨x', by simp⟩
  · rw [hx, hx']; exact Touches.replied _ _ _ _ _ _ _

/-- A read whose target stays silent is lost from the instant at which it left (R41). -/
theorem runs_lowWordRead_silent (h : s.pkg.readReaches a.req die off) (hl : PairLowWord die off) :
    Runs (.lowWordRead a ⟨pkgAddr die off, .silent, false⟩) s (fun t =>
      (t.pkg.reqSt a.req).lost = (s.pkg.reqSt a.req).lost ++
        [{ id := (s.pkg.reqSt a.req).nextId, addr := pkgAddr die off, sent := max s.pkg.now (ns a.at_) }] ∧ Frame s t [] []) := by
  have hserve : (s.pkg.reach a.at_).serveRead a.req (pkgAddr die off) .silent =
      ((s.pkg.reach a.at_).tookTurn die a.req).loseRead a.req (pkgAddr die off) := by
    obtain ⟨_, hd, ho, _⟩ := h
    simp only [Pkg.serveRead, addrDie_pkgAddr hd ho]
  refine ⟨_, exec_lowWordRead_single h hl.isLowWord .silent, ?_, Touches.frame ?_⟩
  · rw [State.finish_reqSt, State.map_pkg, hserve, Pkg.loseRead_lost]; rfl
  · rw [hserve]; exact ((Touches.refl _ _ _).reach (n := a.at_)).same rfl rfl rfl rfl

/-- A read of TM_NOW_LO answers the low word of the count and latches the rest of it (R11, R221). -/
theorem runs_lowWordRead_tmNow (h : s.pkg.readReaches a.req die oTmNow) (hd : die ≠ 15) :
    Runs (.lowWordRead a ⟨pkgAddr die oTmNow, .returns, false⟩) s (fun t =>
      (s.pkg.out ++ [.reply a.req (pkgAddr die oTmNow) (BitVec.ofNat 32 ((s.pkg.reach a.at_).count die / 65536))]) <+: t.pkg.out ∧
      t.pkg.rd die 0x100004 = BitVec.ofNat 32 ((s.pkg.reach a.at_).count die / 65536 / 2 ^ 32) ∧
      t.pkg.rd die 0x100008 = BitVec.ofNat 32 ((s.pkg.reach a.at_).count die % 65536) ∧
      Frame s t [pkgAddr die 0x100004, pkgAddr die 0x100008] []) := by
  generalize hc : (s.pkg.reach a.at_).count die = c
  have ⟨_, hd16, ho, h4, _⟩ := h
  have hlow : isLowWord die oTmNow = true := by simp [isLowWord, hd]
  have hlatch : ((s.pkg.reach a.at_).tookTurn die a.req).readLow die oTmNow =
      ((((s.pkg.reach a.at_).tookTurn die a.req).wr die 0x100004 (BitVec.ofNat 32 (c / 65536 / 2 ^ 32))).wr die 0x100008 (BitVec.ofNat 32 (c % 65536)),
        BitVec.ofNat 32 (c / 65536)) := by
    rw [Pkg.readLow, if_pos ⟨hd, rfl⟩, ← hc]; rfl
  have hread := (Pkg.readAt_low (s := (s.pkg.reach a.at_).tookTurn die a.req) (r := a.req) h4 (Or.inr (by decide)) (by decide) hlow).trans hlatch
  obtain ⟨x, hx⟩ := Pkg.serveRead_returns (s.pkg.reach a.at_) a.req hd16 ho hread
  obtain ⟨k, hk⟩ := (s.pkg.reach a.at_).tookTurn_eq die a.req
  refine ⟨_, exec_lowWordRead_single h hlow .returns, List.IsPrefix.trans ?_ (State.out_prefix_finish _), ?_, ?_, Touches.frame ?_⟩
  · rw [State.map_pkg, hx]
    exact ⟨x, by simp [Pkg.emitAll, hk]⟩
  · rw [State.finish_pkg_rd, State.map_pkg, hx, Pkg.emitAll_rd, Pkg.rd_wr_off _ _ (by decide), Pkg.rd_wr_same]
  · rw [State.finish_pkg_rd, State.map_pkg, hx, Pkg.emitAll_rd, Pkg.rd_wr_same]
  · rw [hx, hk]
    have hturn : Touches s.pkg { s.pkg.reach a.at_ with portTurn := k } [pkgAddr die 0x100004, pkgAddr die 0x100008] [] :=
      (Touches.refl _ _ _).same rfl rfl rfl rfl
    exact ((hturn.wr (by simp)).wr (by simp)).same rfl rfl rfl rfl

end

/-- Settles O11: a beat, a tether alignment and a read of a low word, each by the law of its effect. -/
theorem timeEffects : Obligations.TimeEffects := by
  refine ⟨fun tile at_ offset s hserv href hpair => runs_timeBeat ⟨hserv, href, hpair⟩, ?_, ?_⟩
  · intro err at_ s hup hrun herr goal
    obtain ⟨t, he, hcount, hslow, hframe⟩ := runs_tetherTimeAlign at_ hup hrun herr
    refine ⟨fun hbehind => ⟨t, he, ?_, hframe⟩, fun hahead => ⟨t, he, ?_, ?_, hframe⟩⟩ <;> omega
  · intro a die off s hleave hdie hoff h4 hfence herr hqueue
    have hread : s.pkg.readReaches a.req die off := ⟨hleave, hdie, hoff, h4, hfence, herr, hqueue⟩
    refine ⟨fun hlow hnow htx hpod => ?_, fun htile hnow => ?_⟩
    · have hpair : PairLowWord die off := ⟨hlow, hnow, htx, hpod⟩
      refine ⟨runs_lowWordRead_single hread hpair, fun herr' hlow' hnow' htx' hfence' hpod' hoff' => ?_, runs_lowWordRead_silent hread hpair⟩
      exact runs_lowWordRead_pair hread hpair ⟨hleave, hdie, hoff', by omega, hfence', herr', hqueue⟩ ⟨hlow', hnow', htx', hpod'⟩
    · subst hnow
      exact runs_lowWordRead_tmNow hread htile

end Sys2Proof.Machine
end

section
/-! PROOFS. Management errors at the home die, and accesses that end there (R39, R41, R51–R53). -/
namespace Sys2Proof.Machine

/-! ### What the home die records of a management error (R39, R41, Table 1-6) -/

/-- Setting the bit OVERFLOW of a word. -/
theorem fieldSet_bit30 (w : Word) : fieldSet w 30 30 1 = w ||| 0x40000000#32 := by
  have hmask : fieldMask 30 30 = 0x40000000#32 := by decide
  refine BitVec.eq_of_getLsbD_eq fun i hi => ?_
  have hset : BitVec.ofNat 32 (1 * 2 ^ 30) &&& fieldMask 30 30 = fieldMask 30 30 := by decide
  rw [fieldSet, hset, hmask, BitVec.getLsbD_or, BitVec.getLsbD_or, BitVec.getLsbD_and, BitVec.getLsbD_not, decide_eq_true hi, Bool.true_and]
  cases (0x40000000#32).getLsbD i <;> simp

section
variable (s : Pkg) (r : Req) (code : Nat) (write : Bool) (addr : Nat)

theorem Pkg.merr_first (h : s.on r.die fMerrValid = false) : s.merr r code write addr =
    ((((((s.bump r.die oMerrCount).put r.die fMerrWrite (bit write)).put r.die fMerrAgent r.agent).put r.die fMerrDie (addrDie addr)).put r.die
      fMerrCode code).put r.die fMerrAddr addr).raise r.die fMerrValid := by
  have h' : (s.bump r.die oMerrCount).on r.die fMerrValid = false := h
  simp only [Pkg.merr, h', Bool.false_eq_true, if_false]

theorem Pkg.merr_again (h : s.on r.die fMerrValid = true) : s.merr r code write addr = (s.bump r.die oMerrCount).raise r.die fMerrOvf := by
  have h' : (s.bump r.die oMerrCount).on r.die fMerrValid = true := h
  simp only [Pkg.merr, h', if_true]

/-- A management error leaves the requesters, what has left, and the clock. -/
theorem Pkg.merr_leaves : (s.merr r code write addr).reqs = s.reqs ∧ (s.merr r code write addr).out = s.out ∧
    (s.merr r code write addr).now = s.now := by
  cases h : s.on r.die fMerrValid
  · simp [Pkg.merr_first _ _ _ _ _ h]
  · simp [Pkg.merr_again _ _ _ _ _ h]

@[simp] theorem Pkg.merr_reqs : (s.merr r code write addr).reqs = s.reqs := (s.merr_leaves r code write addr).1
@[simp] theorem Pkg.merr_out : (s.merr r code write addr).out = s.out := (s.merr_leaves r code write addr).2.1
@[simp] theorem Pkg.merr_now : (s.merr r code write addr).now = s.now := (s.merr_leaves r code write addr).2.2
@[simp] theorem Pkg.merr_reqSt (q : Req) : (s.merr r code write addr).reqSt q = s.reqSt q := by
  unfold Pkg.reqSt; rw [Pkg.merr_reqs]

theorem Pkg.merr_cnt : (s.merr r code write addr).cnt r.die oMerrCount = s.cnt r.die oMerrCount + 1 := by
  cases h : s.on r.die fMerrValid
  · simp [Pkg.merr_first _ _ _ _ _ h]
  · simp [Pkg.merr_again _ _ _ _ _ h]

/-- The words of the management error record of a die. -/
abbrev merrWords (die : Nat) : List Nat := [pkgAddr die fMerrValid.off, pkgAddr die fMerrAddr.off]

theorem Pkg.merr_touches : Touches s (s.merr r code write addr) (merrWords r.die) [pkgAddr r.die oMerrCount] := by
  have hbump : Touches s (s.bump r.die oMerrCount) (merrWords r.die) [pkgAddr r.die oMerrCount] := (Touches.refl _ _ _).bump (by simp)
  have hstatus : pkgAddr r.die 0x10 ∈ merrWords r.die := by simp [fMerrValid]
  have haddr : pkgAddr r.die 0x14 ∈ merrWords r.die := by simp [fMerrAddr]
  cases h : s.on r.die fMerrValid
  · rw [Pkg.merr_first _ _ _ _ _ h]
    exact (((((hbump.put (by exact hstatus)).put (by exact hstatus)).put (by exact hstatus)).put (by exact hstatus)).put (by exact haddr)).raise (by exact hstatus)
  · rw [Pkg.merr_again _ _ _ _ _ h]; exact hbump.raise (by exact hstatus)

/-- A later error sets OVERFLOW and leaves what the first one said. -/
theorem Pkg.merr_overflows (h : s.on r.die fMerrValid = true) :
    (s.merr r code write addr).rd r.die fMerrValid.off = s.rd r.die fMerrValid.off ||| 0x40000000#32 ∧
    (s.merr r code write addr).rd r.die fMerrAddr.off = s.rd r.die fMerrAddr.off := by
  rw [Pkg.merr_again _ _ _ _ _ h, Pkg.raise_rd, Pkg.raise_rd]
  constructor
  · rw [← fieldSet_bit30]; exact Pkg.rd_put_same _ _ fMerrOvf _
  · exact Pkg.rd_put_off _ _ (by decide)

/-- The first error is kept with what it says of the access. -/
theorem Pkg.merr_keepsFirst (h : s.on r.die fMerrValid = false) :
    (s.merr r code write addr).on r.die fMerrValid = true ∧ (s.merr r code write addr).on r.die fMerrOvf = s.on r.die fMerrOvf ∧
    (s.merr r code write addr).on r.die fMerrWrite = write ∧ (s.merr r code write addr).get r.die fMerrAgent = r.agent % 16 ∧
    (s.merr r code write addr).get r.die fMerrDie = addrDie addr % 16 ∧ (s.merr r code write addr).get r.die fMerrCode = code % 16 ∧
    (s.merr r code write addr).get r.die fMerrAddr = addr % 2 ^ 30 := by
  rw [Pkg.merr_first _ _ _ _ _ h]
  simp (disch := decide) only [Pkg.on_raise_same, Pkg.raise_on, Pkg.raise_get, Pkg.on_put_apart, Pkg.on_put_same, Pkg.get_put_apart, Pkg.get_put_same,
    Pkg.bump_on]
  exact ⟨trivial, trivial, by cases write <;> rfl, rfl, rfl, rfl, rfl⟩

end

/-- A state that has the words and counters of a recorded management error has recorded it. -/
theorem merrRecorded_of_frame {s t : State} {p : Pkg} {r : Req} {code : Nat} {write : Bool} {addr : Nat} (hp : Touches s.pkg p [] [])
    (ht : Frame { s with pkg := p.merr r code write addr } t [] []) : MerrRecorded s t r code write addr := by
  obtain ⟨hwords, hcounts, hbytes, hpending⟩ := ht
  have hm := p.merr_touches r code write addr
  have hrd : ∀ d o, s.pkg.rd d o = p.rd d o := fun d o => (hp.words d o (by simp)).symm
  have hcnt : ∀ d o, s.pkg.cnt d o = p.cnt d o := fun d o => (hp.counts d o (by simp)).symm
  have hrd' : ∀ d o, t.pkg.rd d o = (p.merr r code write addr).rd d o := fun d o => hwords d o (by simp)
  have hcnt' : ∀ d o, t.pkg.cnt d o = (p.merr r code write addr).cnt d o := fun d o => hcounts d o (by simp)
  have hget : ∀ d f, s.pkg.get d f = p.get d f := fun d f => by rw [Pkg.get, hrd]; rfl
  have hget' : ∀ d f, t.pkg.get d f = (p.merr r code write addr).get d f := fun d f => by rw [Pkg.get, hrd']; rfl
  have hon : ∀ d f, s.pkg.on d f = p.on d f := fun d f => by rw [Pkg.on, hget]; rfl
  have hon' : ∀ d f, t.pkg.on d f = (p.merr r code write addr).on d f := fun d f => by rw [Pkg.on, hget']; rfl
  refine ⟨by rw [hcnt', hcnt, Pkg.merr_cnt], fun hv => ?_, fun hv => ?_, ?_, ?_, fun hs => hbytes ?_, hpending⟩
  · rw [hrd', hrd', hrd, hrd]; exact p.merr_overflows r code write addr (by rw [← hon]; exact hv)
  · rw [hon', hon', hon', hget', hget', hget', hget', hon]; exact p.merr_keepsFirst r code write addr (by rw [← hon]; exact hv)
  · exact fun d o h => by rw [hrd', hm.words d o h, hrd]
  · exact fun d o h => by rw [hcnt', hm.counts d o h, hcnt]
  · show (p.merr r code write addr).wipe = []
    rw [hm.wipe, hp.wipe]; exact hs

/-- An effect that is one management error, between updates that leave words and counters, at the end of a command. -/
theorem merrRecorded_finish {s : State} {p : Pkg} {f : Pkg → Pkg} {r : Req} {code : Nat} {write : Bool} {addr : Nat} (hp : Touches s.pkg p [] [])
    (hf : Touches (p.merr r code write addr) (f s.pkg) [] []) : MerrRecorded s (s.map f).finish r code write addr :=
  merrRecorded_of_frame hp (Touches.frame (s := { s with pkg := p.merr r code write addr }) (f := fun _ => f s.pkg) hf)

/-! ### An access that ends at its home die (R39, R53) -/

/-- The error with which an access ends at its home die: a decode error or no route, else FENCE_REMOTE for a fence register of another die. -/
def Pkg.homeErr (s : Pkg) (r : Req) (die off : Nat) : Nat :=
  if s.accessErr r (pkgAddr die off) ≠ 0 then s.accessErr r (pkgAddr die off) else if isFence die off ∧ r.die ≠ die then eFenceRemote else 0

theorem Pkg.homeErr_reach (s : Pkg) (n : Nat) (r : Req) (die off : Nat) : (s.reach n).homeErr r die off = s.homeErr r die off := rfl

theorem Pkg.homeErr_of_accessErr {s : Pkg} {r : Req} {die off : Nat} (h : s.accessErr r (pkgAddr die off) ≠ 0) :
    s.homeErr r die off = s.accessErr r (pkgAddr die off) := if_pos h

theorem Pkg.homeErr_remote {s : Pkg} {r : Req} {die off : Nat} (h : s.accessErr r (pkgAddr die off) = 0) (hf : isFence die off = true) (hd : die ≠ r.die) :
    s.homeErr r die off = eFenceRemote := by
  rw [Pkg.homeErr, if_neg (not_not.2 h), if_pos ⟨hf, hd.symm⟩]

section
variable {s : State} {r : Req} {die off : Nat}

/-- A write of a word that leaves its home die is traced and issued. -/
theorem State.access_write_issues (hl : s.pkg.leaves r) (hd : die < 16) (ho : off < 2 ^ 26) (v : Word) :
    s.access r (pkgAddr die off) (.write v 15) =
      (s.map (fun p => p.trace r true (pkgAddr die off) v)).issueWrite r (pkgAddr die off) v 15 false := by
  have h30 : pkgAddr die off % 2 ^ 30 = pkgAddr die off := Nat.mod_eq_of_lt (pkgAddr_lt hd ho)
  have hb : (pkgAddr die off).testBit 30 = false := Nat.testBit_lt_two_pow (pkgAddr_lt hd ho)
  rw [State.access_leaves hl, State.issue, h30, hb, Bool.and_false, be15_mask]

theorem State.access_read_issues (hl : s.pkg.leaves r) (hd : die < 16) (ho : off < 2 ^ 26) (fate : ReadFate) :
    s.access r (pkgAddr die off) (.read fate) = s.issueRead r (pkgAddr die off) fate := by
  have h30 : pkgAddr die off % 2 ^ 30 = pkgAddr die off := Nat.mod_eq_of_lt (pkgAddr_lt hd ho)
  rw [State.access_leaves hl, State.issue, h30]

/-- A write that ends at its home die is traced and recorded, and nothing else. -/
theorem State.access_write_ends (hl : s.pkg.leaves r) (hd : die < 16) (ho : off < 2 ^ 26) (h4 : off % 4 = 0) (he : s.pkg.homeErr r die off ≠ 0) (v : Word) :
    s.access r (pkgAddr die off) (.write v 15) =
      s.map (fun p => (p.trace r true (pkgAddr die off) v).merr r (s.pkg.homeErr r die off) true (pkgAddr die off)) := by
  have ho4 : off - off % 4 = off := by omega
  rw [State.access_write_issues hl hd ho, State.issueWrite]
  simp only [State.map_pkg, Pkg.trace_accessErr, addrDie_pkgAddr hd ho, addrOff_pkgAddr die ho, ho4]
  unfold Pkg.homeErr at he ⊢
  by_cases ha : s.pkg.accessErr r (pkgAddr die off) = 0
  · by_cases hf : isFence die off = true ∧ r.die ≠ die
    · simp only [ha, hf.1, hf.2, ne_eq, not_true_eq_false, not_false_eq_true, if_true, if_false, and_self, State.map_map]
    · simp [ha, hf] at he
  · simp only [ha, ne_eq, not_false_eq_true, if_true, State.map_map]

/-- A read that ends at its home die is recorded and answered with all ones. -/
theorem State.access_read_ends (hl : s.pkg.leaves r) (hd : die < 16) (ho : off < 2 ^ 26) (h4 : off % 4 = 0) (he : s.pkg.homeErr r die off ≠ 0)
    (fate : ReadFate) : s.access r (pkgAddr die off) (.read fate) =
      s.map (fun p => (p.merr r (s.pkg.homeErr r die off) false (pkgAddr die off)).replyRead r (pkgAddr die off) 0xFFFFFFFF#32) := by
  have ho4 : off - off % 4 = off := by omega
  rw [State.access_read_issues hl hd ho, State.issueRead]
  simp only [State.map, addrDie_pkgAddr hd ho, addrOff_pkgAddr die ho, ho4]
  unfold Pkg.homeErr at he ⊢
  by_cases ha : s.pkg.accessErr r (pkgAddr die off) = 0
  · by_cases hf : isFence die off = true ∧ r.die ≠ die
    · simp only [ha, hf.1, hf.2, ne_eq, not_true_eq_false, not_false_eq_true, if_true, if_false, and_self]
    · simp [ha, hf] at he
  · simp only [ha, ne_eq, not_false_eq_true, if_true]

end


theorem Touches.trace {p q : Pkg} {W C : List Nat} (h : Touches p q W C) (r : Req) (w : Bool) (a : Nat) (v : Word) : Touches p (q.trace r w a v) W C := by
  obtain ⟨o, e⟩ := q.trace_eq r w a v; rw [e]; exact h.same rfl rfl rfl rfl

theorem Touches.replyRead {p q : Pkg} {W C : List Nat} (h : Touches p q W C) (r : Req) (a : Nat) (v : Word) : Touches p (q.replyRead r a v) W C :=
  (h.same (r := q.emit (.reply r a v)) rfl rfl rfl rfl).trace _ _ _ _

theorem Touches.setReqSt {p q : Pkg} {W C : List Nat} (h : Touches p q W C) {r : Req} {x : ReqSt} : Touches p (q.setReqSt r x) W C := h.same rfl rfl rfl rfl
theorem Touches.reachFrac {p q : Pkg} {W C : List Nat} (h : Touches p q W C) {n : Nat} : Touches p (q.reachFrac n) W C := h.same rfl rfl rfl rfl

@[simp] theorem Pkg.trace_reqs (s : Pkg) (r : Req) (w : Bool) (a : Nat) (v : Word) : (s.trace r w a v).reqs = s.reqs := by
  obtain ⟨o, e⟩ := s.trace_eq r w a v; rw [e]

@[simp] theorem Pkg.replyRead_reqs (s : Pkg) (r : Req) (a : Nat) (w : Word) : (s.replyRead r a w).reqs = s.reqs := Pkg.trace_reqs _ _ _ _ _

@[simp] theorem Pkg.replyRead_now (s : Pkg) (r : Req) (a : Nat) (w : Word) : (s.replyRead r a w).now = s.now := Pkg.trace_now _ _ _ _ _

@[simp] theorem Pkg.replyRead_reqSt (s : Pkg) (r : Req) (a : Nat) (w : Word) (q : Req) : (s.replyRead r a w).reqSt q = s.reqSt q := Pkg.trace_reqSt _ _ _ _ _ _

/-- The answer to a read leaves first, then what trace records of it. -/
theorem Pkg.out_prefix_replyRead (s : Pkg) (r : Req) (a : Nat) (w : Word) : (s.out ++ [.reply r a w]) <+: (s.replyRead r a w).out := by
  obtain ⟨x, hx⟩ := (s.emit (.reply r a w)).trace_appends r false a w
  rw [Pkg.replyRead, hx]
  exact List.prefix_append _ _

@[simp] theorem Pkg.reqSt_setReqSt_same (s : Pkg) (r : Req) (x : ReqSt) : (s.setReqSt r x).reqSt r = x := SMap.get_set_same _ _ _ _

/-! ### Accesses that their home die holds (R51) -/

/-- An access is held behind an open fence, behind another held access, or as the 65th write. -/
theorem State.access_waits {s : State} {r : Req} {k : AccKind} (hm : s.pkg.mayIssue r = true)
    (hw : (s.pkg.reqSt r).held ≠ [] ∨ s.pkg.waitsHome r k = true) (addr : Nat) : s.access r addr k =
      s.map (fun p => p.setReqSt r { p.reqSt r with held := (p.reqSt r).held ++ [{ req := r, addr := addr, kind := k }] }) := by
  have hw' : (!(s.pkg.reqSt r).held.isEmpty || s.pkg.waitsHome r k) = true := by
    rcases hw with h | h <;> simp [h]
  rw [State.access, if_pos hm, State.send, if_pos hw']

theorem Pkg.waitsHome_of_fence {s : Pkg} {r : Req} (h : (s.reqSt r).fences ≠ []) (k : AccKind) : s.waitsHome r k = true := by
  simp [Pkg.waitsHome, h]

/-- A command whose access its home die holds adds the access to what is held, and changes no word. -/
theorem held_finish {s : State} {a : Acc} {k : AccKind} (hm : s.pkg.mayIssue a.req = true)
    (hw : (s.pkg.reqSt a.req).held ≠ [] ∨ s.pkg.waitsHome a.req k = true) (addr : Nat) :
    let t := ((s.map (fun p => p.reach a.at_)).access a.req addr k).finish
    t.pkg.reqSt a.req = { s.pkg.reqSt a.req with held := (s.pkg.reqSt a.req).held ++ [{ req := a.req, addr := addr, kind := k }] } ∧
      Frame s t [] [] := by
  rw [State.access_waits (s := s.map (fun p => p.reach a.at_)) hm hw, State.map_map]
  constructor
  · rw [State.finish_reqSt, State.map_pkg, Pkg.reqSt_setReqSt_same]; rfl
  · exact Touches.frame (Touches.refl _ _ _).reach.setReqSt

/-! ### What ends at the home die, as commands -/

section
variable {s : State} {a : Acc} {die off : Nat}

/-- A write that ends at its home die leaves every requester and records the error. -/
theorem write_ends_finish (hl : s.pkg.leaves a.req) (hd : die < 16) (ho : off < 2 ^ 26) (h4 : off % 4 = 0) (he : s.pkg.homeErr a.req die off ≠ 0)
    (v : Word) : let t := ((s.map (fun p => p.reach a.at_)).access a.req (pkgAddr die off) (.write v 15)).finish
    t.pkg.reqs = s.pkg.reqs ∧ MerrRecorded s t a.req (s.pkg.homeErr a.req die off) true (pkgAddr die off) := by
  rw [State.access_write_ends (s := s.map (fun p => p.reach a.at_)) hl hd ho h4 he, State.map_map, State.map_pkg, Pkg.homeErr_reach]
  constructor
  · rw [State.finish_pkg_reqs, State.map_pkg, Pkg.merr_reqs, Pkg.trace_reqs]; rfl
  · exact merrRecorded_finish ((Touches.refl _ _ _).reach.trace _ _ _ _) (Touches.refl _ _ _)

/-- A read that ends at its home die besides answers all ones. -/
theorem read_ends_finish (hl : s.pkg.leaves a.req) (hd : die < 16) (ho : off < 2 ^ 26) (h4 : off % 4 = 0) (he : s.pkg.homeErr a.req die off ≠ 0)
    (fate : ReadFate) : let t := ((s.map (fun p => p.reach a.at_)).access a.req (pkgAddr die off) (.read fate)).finish
    t.pkg.reqs = s.pkg.reqs ∧ (s.pkg.out ++ [.reply a.req (pkgAddr die off) 0xFFFFFFFF#32]) <+: t.pkg.out ∧
      MerrRecorded s t a.req (s.pkg.homeErr a.req die off) false (pkgAddr die off) := by
  rw [State.access_read_ends (s := s.map (fun p => p.reach a.at_)) hl hd ho h4 he, State.map_map, State.map_pkg, Pkg.homeErr_reach]
  refine ⟨?_, List.IsPrefix.trans ?_ (State.out_prefix_finish _), ?_⟩
  · rw [State.finish_pkg_reqs, State.map_pkg, Pkg.replyRead_reqs, Pkg.merr_reqs]; rfl
  · rw [State.map_pkg]
    refine List.IsPrefix.trans ?_ (Pkg.out_prefix_replyRead _ _ _ _)
    rw [Pkg.merr_out]; exact List.prefix_rfl
  · exact merrRecorded_finish (Touches.refl _ _ _).reach ((Touches.refl _ _ _).replyRead _ _ _)

/-- A read that ends at its home die, as an access alone. -/
theorem read_ends_access {r : Req} (hl : s.pkg.leaves r) (hd : die < 16) (ho : off < 2 ^ 26) (h4 : off % 4 = 0) (he : s.pkg.homeErr r die off ≠ 0)
    (fate : ReadFate) : let t := s.access r (pkgAddr die off) (.read fate)
    t.pkg.reqs = s.pkg.reqs ∧ (s.pkg.out ++ [.reply r (pkgAddr die off) 0xFFFFFFFF#32]) <+: t.pkg.out ∧
      MerrRecorded s t r (s.pkg.homeErr r die off) false (pkgAddr die off) := by
  rw [State.access_read_ends hl hd ho h4 he]
  have hreply := (Touches.refl (s.pkg.merr r (s.pkg.homeErr r die off) false (pkgAddr die off)) [] []).replyRead r (pkgAddr die off) 0xFFFFFFFF#32
  refine ⟨?_, ?_, merrRecorded_of_frame (Touches.refl _ _ _) ⟨hreply.words, hreply.counts, fun _ _ _ => rfl, rfl⟩⟩
  · rw [State.map_pkg, Pkg.replyRead_reqs, Pkg.merr_reqs]
  · have h := Pkg.out_prefix_replyRead (s.pkg.merr r (s.pkg.homeErr r die off) false (pkgAddr die off)) r (pkgAddr die off) 0xFFFFFFFF#32
    rwa [Pkg.merr_out] at h

end

end Sys2Proof.Machine
end

section
/-! PROOFS. Fences (R51–R53): what O7 and O58 ask. -/
namespace Sys2Proof.Machine

/-! ### Fence registers at home -/

theorem isFence_sgFence {die : Nat} (h : die < 15) : isFence die oSgFence = true := by
  have h' : die ≠ 15 := by omega
  simp [isFence, h']

theorem isFence_sgFenceWait {die : Nat} (h : die < 15) : isFence die oSgFenceWait = true := by
  have h' : die ≠ 15 := by omega
  simp [isFence, h']

/-- R51, R52: with no fence open, SG_FENCE completes at once where no write is unacknowledged, and else stands over all of them. -/
theorem Pkg.openFence_reqSt {s : Pkg} {r : Req} (h : (s.reqSt r).fences = []) : (s.openFence r).reqSt r =
    if (s.reqSt r).unacked = [] then { s.reqSt r with done := ((s.reqSt r).done + 1) % 65536 }
    else { s.reqSt r with done := (s.reqSt r).done % 65536, fences := [{ covers := (s.reqSt r).unacked.map (·.id), opened := s.now }] } := by
  rw [Pkg.openFence, Pkg.reqSt_setReqSt_same]
  generalize s.reqSt r = q at h
  split
  · next hu => simp [ReqSt.closeFences, h, hu]
  · next hu => simp [ReqSt.closeFences, h, hu]

section
variable {s : State} {r : Req} {die : Nat}

/-- SG_FENCE on the home die is traced and opens a fence. -/
theorem State.access_sgFence_home (hl : s.pkg.leaves r) (hd : r.die < 15) (he : s.pkg.accessErr r (pkgAddr r.die oSgFence) = 0) (v : Word) :
    s.access r (pkgAddr r.die oSgFence) (.write v 15) =
      s.map (fun p => (p.trace r true (pkgAddr r.die oSgFence) v).openFence r) := by
  have hd16 : r.die < 16 := by omega
  rw [State.access_write_issues hl hd16 (by decide), State.issueWrite]
  simp only [State.map_pkg, Pkg.trace_accessErr, addrDie_pkgAddr hd16 (by decide : oSgFence < 2 ^ 26), addrOff_pkgAddr r.die (by decide : oSgFence < 2 ^ 26),
    (by decide : oSgFence - oSgFence % 4 = oSgFence), he, isFence_sgFence hd, ne_eq, not_true_eq_false, if_false, if_true, State.map_map]

/-- SG_FENCE_WAIT on the home die answers the completed fences and the timeout flag. -/
theorem State.access_sgFenceWait_home (hl : s.pkg.leaves r) (hd : r.die < 15) (he : s.pkg.accessErr r (pkgAddr r.die oSgFenceWait) = 0) :
    s.access r (pkgAddr r.die oSgFenceWait) (.read .returns) =
      s.map (fun p => p.replyRead r (pkgAddr r.die oSgFenceWait) (p.fenceWaitWord r)) := by
  have hd16 : r.die < 16 := by omega
  rw [State.access_read_issues hl hd16 (by decide), State.issueRead]
  simp only [State.map, addrDie_pkgAddr hd16 (by decide : oSgFenceWait < 2 ^ 26), addrOff_pkgAddr r.die (by decide : oSgFenceWait < 2 ^ 26),
    (by decide : oSgFenceWait - oSgFenceWait % 4 = oSgFenceWait), he, isFence_sgFenceWait hd, ne_eq, not_true_eq_false, if_false, if_true]

end

theorem reqSt_of_reqs {p q : Pkg} (h : p.reqs = q.reqs) (r : Req) : p.reqSt r = q.reqSt r := by unfold Pkg.reqSt; rw [h]

section
variable {a : Acc} {die : Nat} {s : State}

theorem exec_sgFence_eq (hd : die < 15) (v : Word) :
    exec (.sgFence a die v) s = .next ((s.map (fun p => p.reach a.at_)).access a.req (pkgAddr die oSgFence) (.write v 15)).finish := by
  have h : die < 16 ∧ oSgFence < 2 ^ 26 := ⟨by omega, by decide⟩
  show Host.Outcome.next (s.regWrite a die oSgFence v).finish = _
  rw [State.regWrite, if_pos h]

theorem exec_sgFenceWait_eq (hd : die < 15) :
    exec (.sgFenceWait a die) s = .next ((s.map (fun p => p.reach a.at_)).access a.req (pkgAddr die oSgFenceWait) (.read .returns)).finish := by
  have h : die < 16 ∧ oSgFenceWait < 2 ^ 26 := ⟨by omega, by decide⟩
  show Host.Outcome.next (s.regRead a die oSgFenceWait).finish = _
  rw [State.regRead, if_pos h]

/-- R51: SG_FENCE on the home die. -/
theorem runs_sgFence_home (hl : s.pkg.leaves a.req) (hd : a.req.die < 15) (he : s.pkg.accessErr a.req (pkgAddr a.req.die oSgFence) = 0) (v : Word) :
    Runs (.sgFence a a.req.die v) s (fun t =>
      t.pkg.reqSt a.req = (if (s.pkg.reqSt a.req).unacked = [] then { s.pkg.reqSt a.req with done := ((s.pkg.reqSt a.req).done + 1) % 65536 }
        else { s.pkg.reqSt a.req with done := (s.pkg.reqSt a.req).done % 65536
                                      fences := [{ covers := (s.pkg.reqSt a.req).unacked.map (·.id), opened := max s.pkg.now (ns a.at_) }] }) ∧
      Frame s t [] []) := by
  have hopen := State.access_sgFence_home (s := s.map (fun p => p.reach a.at_)) hl hd he v
  obtain ⟨_, _, hf, _⟩ := hl
  refine ⟨_, exec_sgFence_eq hd v, ?_⟩
  rw [hopen, State.map_map]
  constructor
  · have hf' : (((s.pkg.reach a.at_).trace a.req true (pkgAddr a.req.die oSgFence) v).reqSt a.req).fences = [] := by rw [Pkg.trace_reqSt]; exact hf
    rw [State.finish_reqSt, State.map_pkg, Pkg.openFence_reqSt hf', Pkg.trace_reqSt, Pkg.trace_now]; rfl
  · exact Touches.frame ((Touches.refl _ _ _).reach.trace _ _ _ _).setReqSt

/-- R52: SG_FENCE_WAIT on the home die, with no fence open. -/
theorem runs_sgFenceWait_home (hl : s.pkg.leaves a.req) (hd : a.req.die < 15) (he : s.pkg.accessErr a.req (pkgAddr a.req.die oSgFenceWait) = 0) :
    Runs (.sgFenceWait a a.req.die) s (fun t =>
      (s.pkg.out ++ [.reply a.req (pkgAddr a.req.die oSgFenceWait) (s.pkg.fenceWaitWord a.req)]) <+: t.pkg.out ∧
      t.pkg.reqSt a.req = s.pkg.reqSt a.req ∧ Frame s t [] []) := by
  refine ⟨_, exec_sgFenceWait_eq hd, ?_⟩
  rw [State.access_sgFenceWait_home (s := s.map (fun p => p.reach a.at_)) hl hd he, State.map_map]
  refine ⟨List.IsPrefix.trans ?_ (State.out_prefix_finish _), ?_, Touches.frame ((Touches.refl _ _ _).reach.replyRead _ _ _)⟩
  · exact Pkg.out_prefix_replyRead (s.pkg.reach a.at_) _ _ _
  · rw [State.finish_reqSt, State.map_pkg, Pkg.replyRead_reqSt]; rfl

/-- R39, R53: a write of SG_FENCE that ends at the home die. -/
theorem runs_sgFence_ends (hl : s.pkg.leaves a.req) (hd : die < 15) (he : s.pkg.homeErr a.req die oSgFence ≠ 0) (v : Word) :
    Runs (.sgFence a die v) s (fun t =>
      t.pkg.reqs = s.pkg.reqs ∧ MerrRecorded s t a.req (s.pkg.homeErr a.req die oSgFence) true (pkgAddr die oSgFence)) :=
  ⟨_, exec_sgFence_eq hd v, write_ends_finish hl (by omega) (by decide) (by decide) he v⟩

/-- R39, R53: a read of SG_FENCE_WAIT that ends at the home die. -/
theorem runs_sgFenceWait_ends (hl : s.pkg.leaves a.req) (hd : die < 15) (he : s.pkg.homeErr a.req die oSgFenceWait ≠ 0) :
    Runs (.sgFenceWait a die) s (fun t =>
      t.pkg.reqs = s.pkg.reqs ∧ (s.pkg.out ++ [.reply a.req (pkgAddr die oSgFenceWait) 0xFFFFFFFF#32]) <+: t.pkg.out ∧
      MerrRecorded s t a.req (s.pkg.homeErr a.req die oSgFenceWait) false (pkgAddr die oSgFenceWait)) :=
  ⟨_, exec_sgFenceWait_eq hd, read_ends_finish hl (by omega) (by decide) (by decide) he .returns⟩

end

/-! ### FENCE_TIMEOUT (R52) -/

/-- Nothing that a home die holds leaves it while a fence stands. -/
theorem State.releaseHome_stays {s : State} {r : Req} (h : (s.pkg.reqSt r).held = [] ∨ (s.pkg.reqSt r).fences ≠ []) : s.releaseHome r = s := by
  unfold State.releaseHome
  cases hh : (s.pkg.reqSt r).held with
  | nil => rfl
  | cons x l =>
    have hf := h.resolve_left (by simp [hh])
    rw [List.length_cons, State.drainHome]
    simp only [hh, Pkg.waitsHome_of_fence hf, if_true]

/-- A fence that ends after 100 µs: the error is recorded, and the fence counts as complete with the timeout flag. -/
def Pkg.fenceLapsed (s : Pkg) (r : Req) (f : Fence) (l : List Fence) : Pkg :=
  ((s.reachFrac (f.opened + ns (us 100))).merr r eFenceTimeout true (pkgAddr r.die oSgFence)).setReqSt r
    { s.reqSt r with fences := l, done := ((s.reqSt r).done + 1) % 65536, timedOut := true }

theorem fenceTimeout_eq {s : State} {r : Req} {f : Fence} {l : List Fence} (hf : (s.pkg.reqSt r).fences = f :: l)
    (hl : (s.pkg.reqSt r).held = [] ∨ l ≠ []) : fenceTimeout r s = s.map (fun p => p.fenceLapsed r f l) := by
  have hreq : ∀ p : Pkg, ((p.reachFrac (f.opened + ns (us 100))).merr r eFenceTimeout true (pkgAddr r.die oSgFence)).reqSt r = p.reqSt r :=
    fun p => Pkg.merr_reqSt _ _ _ _ _ _
  rw [fenceTimeout, hf]
  simp only [hreq]
  exact State.releaseHome_stays (s := s.map (fun p => p.fenceLapsed r f l)) (by simpa [Pkg.fenceLapsed] using hl)

theorem runs_fenceTimeout {s : State} {r : Req} {f : Fence} {l : List Fence} (hf : (s.pkg.reqSt r).fences = f :: l)
    (hl : (s.pkg.reqSt r).held = [] ∨ l ≠ []) : Runs (.fenceTimeout r) s (fun t =>
      t.pkg.reqSt r = { s.pkg.reqSt r with fences := l, done := ((s.pkg.reqSt r).done + 1) % 65536, timedOut := true } ∧
      MerrRecorded s t r eFenceTimeout true (pkgAddr r.die oSgFence) ∧ t.pkg.now = max s.pkg.now (f.opened + ns 100000)) := by
  refine ⟨(fenceTimeout r s).finish, rfl, ?_⟩
  rw [fenceTimeout_eq hf hl]
  refine ⟨?_, merrRecorded_finish (Touches.refl _ _ _).reachFrac (Touches.refl _ _ _).setReqSt, ?_⟩
  · rw [State.finish_reqSt, State.map_pkg, Pkg.fenceLapsed, Pkg.reqSt_setReqSt_same]
  · rw [State.finish_pkg_now, State.map_pkg, Pkg.fenceLapsed, Pkg.setReqSt_now, Pkg.merr_now]; rfl

/-- Settles O7: at home a fence opens or is reported; elsewhere, and on a decode error, the access ends at the home die; behind an open fence, or as the
65th write, it is held there; and a fence lapses after 100 µs. -/
theorem fenceEffects : Obligations.FenceEffects := by
  refine ⟨fun a die v s hl hd => ⟨?_, ?_, ?_⟩, fun a die s hl hd => ⟨?_, ?_, ?_⟩, fun r f l s hf hh => runs_fenceTimeout hf hh,
    fun a die v s hm hd hf => ⟨?_, ?_⟩, fun a addr v be s hm hw => ?_⟩
  · rintro he rfl
    exact runs_sgFence_home hl hd he v
  · intro he hne
    have herr := Pkg.homeErr_remote he (isFence_sgFence hd) hne
    obtain ⟨t, hrun, hreqs, hrec⟩ := runs_sgFence_ends hl hd (by rw [herr]; decide) v
    exact ⟨t, hrun, reqSt_of_reqs hreqs _, herr ▸ hrec⟩
  · intro he
    have herr := Pkg.homeErr_of_accessErr he
    obtain ⟨t, hrun, hreqs, hrec⟩ := runs_sgFence_ends hl hd (by rwa [herr]) v
    exact ⟨t, hrun, reqSt_of_reqs hreqs _, herr ▸ hrec⟩
  · rintro he rfl
    exact runs_sgFenceWait_home hl hd he
  · intro he hne
    have herr := Pkg.homeErr_remote he (isFence_sgFenceWait hd) hne
    obtain ⟨t, hrun, hreqs, hout, hrec⟩ := runs_sgFenceWait_ends hl hd (by rw [herr]; decide)
    exact ⟨t, hrun, hout, reqSt_of_reqs hreqs _, herr ▸ hrec⟩
  · intro he
    have herr := Pkg.homeErr_of_accessErr he
    obtain ⟨t, hrun, hreqs, hout, hrec⟩ := runs_sgFenceWait_ends hl hd (by rwa [herr])
    exact ⟨t, hrun, hout, reqSt_of_reqs hreqs _, herr ▸ hrec⟩
  · exact ⟨_, exec_sgFence_eq hd v, held_finish hm (Or.inr (Pkg.waitsHome_of_fence hf _)) _⟩
  · exact ⟨_, exec_sgFenceWait_eq hd, held_finish hm (Or.inr (Pkg.waitsHome_of_fence hf _)) _⟩
  · refine ⟨_, rfl, held_finish hm ?_ addr⟩
    rcases hw with hf | hfull | hheld
    · exact Or.inr (Pkg.waitsHome_of_fence hf _)
    · exact Or.inr (by simp [Pkg.waitsHome, hfull])
    · exact Or.inl hheld

/-! ### A fence access on another die (R53) -/

/-- What O58 asks of a state that has recorded FENCE_REMOTE. -/
theorem MerrRecorded.fenceRemote {s t : State} {r : Req} {write : Bool} {addr : Nat} (h : MerrRecorded s t r eFenceRemote write addr) :
    t.pkg.cnt r.die oMerrCount = s.pkg.cnt r.die oMerrCount + 1 ∧
    (s.pkg.on r.die fMerrValid = false →
      t.pkg.get r.die fMerrCode = eFenceRemote ∧ t.pkg.on r.die fMerrWrite = write ∧ t.pkg.on r.die fMerrValid = true) ∧
    (s.pkg.on r.die fMerrValid = true → t.pkg.get r.die fMerrCode = s.pkg.get r.die fMerrCode ∧ t.pkg.on r.die fMerrOvf = true) ∧
    Frame s t [pkgAddr r.die 0x10, pkgAddr r.die 0x14] [pkgAddr r.die oMerrCount] := by
  obtain ⟨hcnt, hlater, hfirst, hframe⟩ := h
  refine ⟨hcnt, fun hv => ?_, fun hv => ?_, hframe⟩
  · obtain ⟨hvalid, _, hwrite, _, _, hcode, _⟩ := hfirst hv
    exact ⟨hcode, hwrite, hvalid⟩
  · obtain ⟨hstatus, _⟩ := hlater hv
    rw [← fieldSet_bit30] at hstatus
    have hcode : t.pkg.get r.die fMerrCode = fieldGet (fieldSet (s.pkg.rd r.die fMerrValid.off) 30 30 1) 27 24 := congrArg (fieldGet · 27 24) hstatus
    have hovf : t.pkg.get r.die fMerrOvf = fieldGet (fieldSet (s.pkg.rd r.die fMerrValid.off) 30 30 1) 30 30 := congrArg (fieldGet · 30 30) hstatus
    rw [fieldGet_fieldSet_ne _ _ (by decide)] at hcode
    rw [fieldGet_fieldSet_same _ _ (by decide)] at hovf
    exact ⟨hcode, by rw [Pkg.on, hovf]; rfl⟩

/-- Settles O58: an access of a fence register of another die ends at the home die with FENCE_REMOTE, and leaves every requester as it was. -/
theorem fenceRemote : Obligations.FenceRemote := by
  intro a die off v s hd hne hoff hl he home recorded answered
  have hfence : isFence die off = true := by
    rcases hoff with rfl | rfl
    · exact isFence_sgFence hd
    · exact isFence_sgFenceWait hd
  have hlt : off < 2 ^ 26 := by rcases hoff with rfl | rfl <;> decide
  have h4 : off % 4 = 0 := by rcases hoff with rfl | rfl <;> decide
  have hd16 : die < 16 := by omega
  have herr := Pkg.homeErr_remote he hfence hne
  have herr' : s.pkg.homeErr a.req die off ≠ 0 := by rw [herr]; decide
  obtain ⟨hreqs, hout, hrec⟩ := read_ends_access hl hd16 hlt h4 herr' .returns
  obtain ⟨hreqsW, hrecW⟩ := write_ends_finish (a := a) hl hd16 hlt h4 herr' v
  obtain ⟨hreqsR, houtR, hrecR⟩ := read_ends_finish (a := a) hl hd16 hlt h4 herr' .returns
  rw [herr] at hrec hrecW hrecR
  refine ⟨⟨_, rfl, hreqsW, hrecW.fenceRemote⟩, ⟨hreqs, hrec.fenceRemote⟩, hout, ?_, ?_⟩
  · rintro rfl
    exact ⟨_, exec_sgFence_eq hd v, hreqsW, hrecW.fenceRemote⟩
  · rintro rfl
    exact ⟨_, exec_sgFenceWait_eq hd, ⟨hreqsR, hrecR.fenceRemote⟩, houtR⟩

end Sys2Proof.Machine
end

section
/-! PROOFS. The end of a write or a read at its home die (R41, R51, R52): what O8 asks. -/
namespace Sys2Proof.Machine

/-! ### A write taken off what is unacknowledged -/

/-- A fence without one of the writes it covered; a write that has timed out marks it. -/
def Fence.without (f : Fence) (id : Nat) (timedOut : Bool) : Fence :=
  if f.covers.contains id then { f with covers := f.covers.filter (· != id), bad := f.bad || timedOut } else f

theorem Fence.without_covers (f : Fence) (id : Nat) (timedOut : Bool) : (f.without id timedOut).covers = f.covers.filter (· != id) := by
  unfold Fence.without
  split
  · rfl
  · next h =>
    refine (List.filter_eq_self.2 fun x hx => ?_).symm
    rw [List.contains_iff_mem] at h
    simp only [bne_iff_ne, ne_eq]
    rintro rfl
    exact h hx

section
variable (q : ReqSt) (id : Nat) (timedOut : Bool)

theorem ReqSt.acked_unacked : (q.acked id timedOut).unacked = q.unacked.filter (fun w => w.id != id) := rfl
theorem ReqSt.acked_fences : (q.acked id timedOut).fences = (q.fences.map (·.without id timedOut)).filter (fun f => !f.covers.isEmpty) := rfl

/-- A fence that still stands waits for something, and no longer for the write. -/
theorem ReqSt.acked_fence_covers : ∀ f ∈ (q.acked id timedOut).fences, id ∉ f.covers ∧ f.covers ≠ [] := by
  intro f hf
  rw [ReqSt.acked_fences, List.mem_filter, List.mem_map] at hf
  obtain ⟨⟨g, _, rfl⟩, hne⟩ := hf
  refine ⟨?_, by simpa using hne⟩
  rw [Fence.without_covers, List.mem_filter]
  simp

/-- A fence that covers another write stands on. -/
theorem ReqSt.acked_fences_ne_nil (h : ∃ f ∈ q.fences, ∃ x ∈ f.covers, x ≠ id) : (q.acked id timedOut).fences ≠ [] := by
  obtain ⟨f, hf, x, hx, hne⟩ := h
  have hx' : x ∈ (f.without id timedOut).covers := by
    rw [Fence.without_covers, List.mem_filter]
    exact ⟨hx, by simpa using hne⟩
  refine List.ne_nil_of_mem (a := f.without id timedOut) ?_
  rw [ReqSt.acked_fences, List.mem_filter]
  exact ⟨List.mem_map_of_mem hf, by simpa using List.ne_nil_of_mem hx'⟩

theorem ReqSt.acked_done_of_no_fence (h : q.fences = []) : (q.acked id timedOut).done = q.done % 65536 := by
  simp [ReqSt.acked, ReqSt.closeFences, h]

/-- R52: the last fence, over this write alone, completes with it. -/
theorem ReqSt.acked_last {f : Fence} (h : q.fences = [f]) (hc : f.covers = [id]) : (q.acked id timedOut).fences = [] ∧
    (q.acked id timedOut).done = (q.done + 1) % 65536 ∧ (q.acked id timedOut).timedOut = (q.timedOut || (f.bad || timedOut)) := by
  simp [ReqSt.acked, ReqSt.closeFences, h, hc]

end

/-! ### WRITE_ACK and TARGET_TIMEOUT -/

section
variable {s : State} {r : Req} {id : Nat}

/-- What a home die holds stays there where nothing is held, or a fence over another write stands. -/
theorem acked_holds {q : ReqSt} (timedOut : Bool) (h : q.held = [] ∨ ∃ f ∈ q.fences, ∃ x ∈ f.covers, x ≠ id) :
    (q.acked id timedOut).held = [] ∨ (q.acked id timedOut).fences ≠ [] :=
  h.imp (fun hn => hn) (q.acked_fences_ne_nil id timedOut)

theorem writeAck_applied {w : OutWrite} (at_ : Nat) (hw : (s.pkg.reqSt r).unacked.find? (fun w => w.id == id) = some w) (hp : w.atPort = false)
    (hh : (s.pkg.reqSt r).held = [] ∨ ∃ f ∈ (s.pkg.reqSt r).fences, ∃ x ∈ f.covers, x ≠ id) :
    writeAck r id at_ s = s.map (fun p => (p.reach at_).setReqSt r ((p.reqSt r).acked id false)) := by
  simp only [writeAck, State.map_pkg, Pkg.reach_reqSt, hw, hp, Bool.false_eq_true, if_false]
  refine State.releaseHome_stays (s := s.map (fun p => (p.reach at_).setReqSt r ((p.reqSt r).acked id false))) ?_
  rw [State.map_pkg, Pkg.reqSt_setReqSt_same]
  exact acked_holds false hh

/-- A write that has not left its target's port is not acknowledged. -/
theorem writeAck_waits (at_ : Nat) (h : ∀ w, (s.pkg.reqSt r).unacked.find? (fun w => w.id == id) = some w → w.atPort = true) :
    writeAck r id at_ s = s.map (fun p => p.reach at_) := by
  simp only [writeAck, State.map_pkg, Pkg.reach_reqSt]
  split
  · next w hw => rw [if_pos (h w hw)]
  · rfl

/-- A write whose acknowledgement has not come 100 µs after it left: the error is recorded, and it counts as acknowledged. -/
def Pkg.writeLapsed (s : Pkg) (r : Req) (w : OutWrite) (id : Nat) : Pkg :=
  ((s.reachFrac (w.sent + ns (us 100))).merr r eTargetTimeout true w.addr).setReqSt r ((s.reqSt r).acked id true)

theorem targetTimeout_write {w : OutWrite} (hw : (s.pkg.reqSt r).unacked.find? (fun w => w.id == id) = some w) (hp : w.atPort = false)
    (hh : (s.pkg.reqSt r).held = [] ∨ ∃ f ∈ (s.pkg.reqSt r).fences, ∃ x ∈ f.covers, x ≠ id)
    (hl : (s.pkg.reqSt r).lost.find? (fun w => w.id == id) = none) : targetTimeout r id s = s.map (fun p => p.writeLapsed r w id) := by
  have hreq : ∀ p : Pkg, ((p.reachFrac (w.sent + ns (us 100))).merr r eTargetTimeout true w.addr).reqSt r = p.reqSt r :=
    fun p => Pkg.merr_reqSt _ _ _ _ _ _
  simp only [targetTimeout, hl, hw, hp, Bool.false_eq_true, if_false, hreq]
  refine State.releaseHome_stays (s := s.map (fun p => p.writeLapsed r w id)) ?_
  rw [State.map_pkg, Pkg.writeLapsed, Pkg.reqSt_setReqSt_same]
  exact acked_holds true hh

theorem targetTimeout_waits (h : ∀ w, (s.pkg.reqSt r).unacked.find? (fun w => w.id == id) = some w → w.atPort = true)
    (hl : (s.pkg.reqSt r).lost.find? (fun w => w.id == id) = none) : targetTimeout r id s = s := by
  simp only [targetTimeout, hl]
  split
  · next w hw => rw [if_pos (h w hw)]
  · rfl

theorem targetTimeout_read {w : LostRead} (h : (s.pkg.reqSt r).lost.find? (fun w => w.id == id) = some w) :
    targetTimeout r id s = s.map (fun p => p.readTimeout r w) := by simp only [targetTimeout, h]

/-- WRITE_ACK of an applied write. -/
theorem runs_writeAck_applied {w : OutWrite} (at_ : Nat) (hw : (s.pkg.reqSt r).unacked.find? (fun w => w.id == id) = some w) (hp : w.atPort = false)
    (hh : (s.pkg.reqSt r).held = [] ∨ ∃ f ∈ (s.pkg.reqSt r).fences, ∃ x ∈ f.covers, x ≠ id) :
    Runs (.writeAck r id at_) s (fun t => t.pkg.reqSt r = (s.pkg.reqSt r).acked id false ∧ Frame s t [] []) := by
  refine ⟨(writeAck r id at_ s).finish, rfl, ?_⟩
  rw [writeAck_applied at_ hw hp hh]
  refine ⟨?_, Touches.frame (Touches.refl _ _ _).reach.setReqSt⟩
  rw [State.finish_reqSt, State.map_pkg, Pkg.reqSt_setReqSt_same]

/-- TARGET_TIMEOUT of an applied write. -/
theorem runs_targetTimeout_write {w : OutWrite} (hw : (s.pkg.reqSt r).unacked.find? (fun w => w.id == id) = some w) (hp : w.atPort = false)
    (hh : (s.pkg.reqSt r).held = [] ∨ ∃ f ∈ (s.pkg.reqSt r).fences, ∃ x ∈ f.covers, x ≠ id)
    (hl : (s.pkg.reqSt r).lost.find? (fun w => w.id == id) = none) :
    Runs (.targetTimeout r id) s (fun t => t.pkg.reqSt r = (s.pkg.reqSt r).acked id true ∧
      MerrRecorded s t r eTargetTimeout true w.addr ∧ t.pkg.now = max s.pkg.now (w.sent + ns 100000)) := by
  refine ⟨(targetTimeout r id s).finish, rfl, ?_⟩
  rw [targetTimeout_write hw hp hh hl]
  refine ⟨?_, merrRecorded_finish (Touches.refl _ _ _).reachFrac (Touches.refl _ _ _).setReqSt, ?_⟩
  · rw [State.finish_reqSt, State.map_pkg, Pkg.writeLapsed, Pkg.reqSt_setReqSt_same]
  · rw [State.finish_pkg_now, State.map_pkg, Pkg.writeLapsed, Pkg.setReqSt_now, Pkg.merr_now]; rfl

/-- TARGET_TIMEOUT of a read whose data has not come back. -/
theorem runs_targetTimeout_read {w : LostRead} (h : (s.pkg.reqSt r).lost.find? (fun w => w.id == id) = some w) :
    Runs (.targetTimeout r id) s (fun t =>
      (s.pkg.out ++ [.reply r w.addr 0xFFFFFFFF#32]) <+: t.pkg.out ∧
      t.pkg.reqSt r = { s.pkg.reqSt r with lost := (s.pkg.reqSt r).lost.filter (fun x => x.id != id) } ∧
      MerrRecorded s t r eTargetTimeout false w.addr ∧ t.pkg.now = max s.pkg.now (w.sent + ns 100000)) := by
  have hid : w.id = id := by simpa using List.find?_some h
  refine ⟨(targetTimeout r id s).finish, rfl, ?_⟩
  rw [targetTimeout_read h]
  refine ⟨List.IsPrefix.trans ?_ (State.out_prefix_finish _), ?_, merrRecorded_finish (Touches.refl _ _ _).reachFrac
    ((Touches.refl _ _ _).setReqSt.replyRead _ _ _), ?_⟩
  · rw [State.map_pkg, Pkg.readTimeout]
    refine List.IsPrefix.trans ?_ (Pkg.out_prefix_replyRead _ _ _ _)
    rw [Pkg.setReqSt_out, Pkg.merr_out]; exact List.prefix_rfl
  · rw [State.finish_reqSt, State.map_pkg, Pkg.readTimeout, Pkg.replyRead_reqSt, Pkg.reqSt_setReqSt_same, Pkg.merr_reqSt, hid]; rfl
  · rw [State.finish_pkg_now, State.map_pkg, Pkg.readTimeout, Pkg.replyRead_now, Pkg.setReqSt_now, Pkg.merr_now]; rfl

end

/-- Settles O8: an acknowledged write, and one that times out, leaves what is unacknowledged and the fences over it (`ReqSt.acked`); a lost read is
answered; a write at its target's port is left alone. -/
theorem writeEndEffects : Obligations.WriteEndEffects := by
  intro r id s
  refine ⟨fun w at_ hw hp hh => ⟨?_, fun hl => ?_⟩, fun w h => runs_targetTimeout_read h, fun at_ h => ⟨?_, fun hl => ?_⟩⟩
  · obtain ⟨t, hrun, hreq, hframe⟩ := runs_writeAck_applied at_ hw hp hh
    refine ⟨t, hrun, hreq, ?_⟩
    rw [hreq]
    refine ⟨ReqSt.acked_unacked _ _ _, ReqSt.acked_fence_covers _ _ _, ReqSt.acked_done_of_no_fence _ _ _, fun f hf hc hb => ?_, hframe⟩
    obtain ⟨hnone, hdone, htimed⟩ := ReqSt.acked_last _ id false hf hc
    exact ⟨hnone, hdone, by rw [htimed, hb, Bool.or_false, Bool.or_false]⟩
  · obtain ⟨t, hrun, hreq, hrec, hnow⟩ := runs_targetTimeout_write hw hp hh hl
    refine ⟨t, hrun, hreq, ?_⟩
    rw [hreq]
    refine ⟨ReqSt.acked_unacked _ _ _, ReqSt.acked_fence_covers _ _ _, fun f hf hc => ?_, hrec, hnow⟩
    obtain ⟨hnone, hdone, htimed⟩ := ReqSt.acked_last _ id true hf hc
    exact ⟨hnone, hdone, by rw [htimed, Bool.or_true, Bool.or_true]⟩
  · refine ⟨(writeAck r id at_ s).finish, rfl, ?_⟩
    rw [writeAck_waits at_ h]
    exact ⟨State.finish_hidden _, Touches.frame (Touches.refl _ _ _).reach⟩
  · refine ⟨(targetTimeout r id s).finish, rfl, ?_⟩
    rw [targetTimeout_waits h hl]
    exact ⟨State.finish_hidden _, Touches.frame (f := fun p => p) (Touches.refl _ _ _)⟩

end Sys2Proof.Machine
end

section
/-! PROOFS. Mode transitions as other chapters use them (R294), and spans (R25, R28, R29): what O9 asks. -/
namespace Sys2Proof.Machine

/-! ### What a mode transition leaves alone -/

/-- What every step of a fold keeps, the fold keeps. -/
theorem Pkg.foldl_same {α β : Type} (π : Pkg → α) {f : Pkg → β → Pkg} (hf : ∀ s b, π (f s b) = π s) (l : List β) (s : Pkg) :
    π (l.foldl f s) = π s := by
  induction l generalizing s with
  | nil => rfl
  | cons b l ih => rw [List.foldl_cons, ih, hf]

/-- What each die's turn keeps, a turn of several dies keeps. -/
theorem Pkg.onEach_same {α : Type} (π : Pkg → α) {f : Nat → Pkg → Pkg} (hf : ∀ s b, π (f b s) = π s) (l : List Nat) (s : Pkg) :
    π (s.onEach l f) = π s := Pkg.foldl_same π hf l s

section
variable (s : Pkg) (l : List Nat) (v m reason : Nat)

@[simp] theorem Pkg.onEach_event_get (d : Nat) (f : Fld) : (s.onEach l (fun t s => s.event t v)).get d f = s.get d f :=
  Pkg.onEach_same (f := fun t s => s.event t v) (·.get d f) (fun s t => s.event_get t v d f) l s
@[simp] theorem Pkg.onEach_event_spans : (s.onEach l (fun t s => s.event t v)).spans = s.spans :=
  Pkg.onEach_same (f := fun t s => s.event t v) (·.spans) (fun s t => s.event_spans t v) l s
@[simp] theorem Pkg.onEach_event_trestles : (s.onEach l (fun t s => s.event t v)).trestles = s.trestles :=
  Pkg.onEach_same (f := fun t s => s.event t v) (·.trestles) (fun s t => s.event_trestles t v) l s
@[simp] theorem Pkg.onEach_event_mode : (s.onEach l (fun t s => s.event t v)).mode = s.mode :=
  Pkg.onEach_same (f := fun t s => s.event t v) (·.mode) (fun s t => s.event_mode t v) l s
@[simp] theorem Pkg.onEach_event_vault : (s.onEach l (fun t s => s.event t v)).vault = s.vault :=
  Pkg.onEach_same (f := fun t s => s.event t v) (·.vault) (fun s t => s.event_vault t v) l s

theorem Pkg.stepClock_eq : ∃ c, s.stepClock m = { s with clocks := c } := by
  unfold Pkg.stepClock; split
  · exact ⟨s.clocks, rfl⟩
  · exact ⟨_, rfl⟩

@[simp] theorem Pkg.stepClock_spans : (s.stepClock m).spans = s.spans := by obtain ⟨c, h⟩ := s.stepClock_eq m; rw [h]
@[simp] theorem Pkg.stepClock_trestles : (s.stepClock m).trestles = s.trestles := by obtain ⟨c, h⟩ := s.stepClock_eq m; rw [h]
@[simp] theorem Pkg.stepClock_mode : (s.stepClock m).mode = s.mode := by obtain ⟨c, h⟩ := s.stepClock_eq m; rw [h]
@[simp] theorem Pkg.stepClock_vault : (s.stepClock m).vault = s.vault := by obtain ⟨c, h⟩ := s.stepClock_eq m; rw [h]

@[simp] theorem Pkg.setMode_spans : (s.setMode m reason).spans = s.spans := by simp [Pkg.setMode]
@[simp] theorem Pkg.setMode_trestles : (s.setMode m reason).trestles = s.trestles := by simp [Pkg.setMode]
@[simp] theorem Pkg.setMode_mode : (s.setMode m reason).mode = s.mode := by simp [Pkg.setMode]
@[simp] theorem Pkg.setMode_vault : (s.setMode m reason).vault = s.vault := by simp [Pkg.setMode]

/-- R294: the mode in effect and the reason, where they fit their fields. -/
theorem Pkg.setMode_modeNow (hm : m < 16) : (s.setMode m reason).modeNow = m := by
  rw [Pkg.setMode, Pkg.modeNow, Pkg.onEach_event_get, Pkg.bump_get, Pkg.setCnt_get, Pkg.get_put_apart _ _ (by decide),
    Pkg.get_put_same _ _ _ _ (by decide)]
  exact Nat.mod_eq_of_lt hm
theorem Pkg.setMode_reason (hr : reason < 32) : (s.setMode m reason).get 15 fReason = reason := by
  rw [Pkg.setMode, Pkg.onEach_event_get, Pkg.bump_get, Pkg.setCnt_get, Pkg.get_put_same _ _ _ _ (by decide)]
  exact Nat.mod_eq_of_lt hr

end

/-! ### The two ends of a span -/

/-- Spans join two different tiles, at ports 0 to 5 (R25). -/
theorem spanPeer_bounds {v : Variant} {t p d q : Nat} (h : spanPeer v t p = some (d, q)) : t < 7 ∧ p < 6 ∧ d < 7 ∧ q < 6 ∧ d ≠ t := by
  cases v <;> simp only [spanPeer] at h
  case ikd2 => cases h
  case ikd4 =>
    split at h
    · split at h
      · cases h; omega
      · split at h
        · cases h; omega
        · cases h
    · cases h
  case ikd8 =>
    split at h
    · cases h; omega
    · cases h

/-- The words and counters of the span ports of different tiles are different ones. -/
theorem spanAddr_ne {t p d q : Nat} (hp : p < 6) (hq : q < 6) (h : d ≠ t) {o : Nat} (ho : o < 0x1000) :
    pkgAddr d (o + q * 0x40) ≠ pkgAddr t (o + p * 0x40) := pkgAddr_die_ne (by omega) (by omega) h

/-- The word of a span port. -/
abbrev spanWord (t p : Nat) : Nat := pkgAddr t (0x100 + p * 0x40)

/-- One end of a span takes a state and what the hardware holds of it. -/
def Pkg.setEnd (s : Pkg) (t p state : Nat) (x : SpanSt) : Pkg := (s.put t (fSpanState.at p 0x40) state).setSpanSt t p x

theorem Touches.setEnd {p q : Pkg} {W C : List Nat} (h : Touches p q W C) {t n state : Nat} {x : SpanSt} (hm : spanWord t n ∈ W) :
    Touches p (q.setEnd t n state x) W C := (h.put (f := fSpanState.at n 0x40) hm).same rfl rfl rfl rfl

section
variable (s : Pkg) (t p state : Nat) (x : SpanSt)

theorem Pkg.setEnd_state_same {state : Nat} (h : state < 4) : (s.setEnd t p state x).spanState t p = state := by
  have hput := s.get_put_same t (fSpanState.at p 0x40) state (by decide : 5 < 32)
  exact hput.trans (Nat.mod_eq_of_lt h)

theorem Pkg.setEnd_state_ne {d q : Nat} (hp : p < 6) (hq : q < 6) (h : d ≠ t) : (s.setEnd t p state x).spanState d q = s.spanState d q :=
  s.get_put_ne (f := fSpanState.at p 0x40) (f' := fSpanState.at q 0x40) state (spanAddr_ne hp hq h (by decide : 0x100 < 0x1000))

@[simp] theorem Pkg.setEnd_spanSt_same : (s.setEnd t p state x).spanSt t p = x := SMap.get_set_same _ _ _ _

theorem Pkg.setEnd_spanSt_ne {d q : Nat} (hp : p < 6) (hq : q < 6) (h : d ≠ t) : (s.setEnd t p state x).spanSt d q = s.spanSt d q := by
  have hkey : d * 8 + q ≠ t * 8 + p := by omega
  exact SMap.get_set_ne _ _ _ _ hkey

/-- The number of the epoch is another word. -/
theorem Pkg.setEnd_epoch (hp : p < 6) (d : Nat) : (s.setEnd t p state x).get d fEpoch = s.get d fEpoch := by
  have hoff : 0x100 + p * 0x40 < 0x1000 := by omega
  refine s.get_put_ne (f := fSpanState.at p 0x40) (f' := fEpoch) state ?_
  show pkgAddr d 0x200010 ≠ pkgAddr t (0x100 + p * 0x40)
  unfold pkgAddr; omega

end

/-- Both ends of a span stand in this state, with what the hardware holds of them. -/
structure Pkg.EndsAt (s : Pkg) (t p d q state : Nat) (x y : SpanSt) : Prop where
  near   : s.spanState t p = state
  far    : s.spanState d q = state
  nearSt : s.spanSt t p = x
  farSt  : s.spanSt d q = y

theorem Pkg.endsAt_setEnd (s : Pkg) {t p d q state : Nat} (x y : SpanSt) (h : spanPeer s.variant t p = some (d, q)) (hs : state < 4) :
    ((s.setEnd t p state x).setEnd d q state y).EndsAt t p d q state x y := by
  obtain ⟨_, hp, _, hq, hne⟩ := spanPeer_bounds h
  refine ⟨?_, Pkg.setEnd_state_same _ _ _ _ hs, ?_, Pkg.setEnd_spanSt_same _ _ _ _ _⟩
  · rw [Pkg.setEnd_state_ne _ _ _ _ _ hq hp hne.symm, Pkg.setEnd_state_same _ _ _ _ hs]
  · rw [Pkg.setEnd_spanSt_ne _ _ _ _ _ hq hp hne.symm, Pkg.setEnd_spanSt_same]

theorem Pkg.EndsAt.of_same {s s' : Pkg} {t p d q state : Nat} {x y : SpanSt} (h : s.EndsAt t p d q state x y)
    (hw : s'.rd t (0x100 + p * 0x40) = s.rd t (0x100 + p * 0x40)) (hw' : s'.rd d (0x100 + q * 0x40) = s.rd d (0x100 + q * 0x40))
    (hs : s'.spans = s.spans) : s'.EndsAt t p d q state x y := by
  obtain ⟨hnear, hfar, hx, hy⟩ := h
  refine ⟨(congrArg (fieldGet · 5 4) hw).trans hnear, (congrArg (fieldGet · 5 4) hw').trans hfar, ?_, ?_⟩
  · rw [← hx, Pkg.spanSt, Pkg.spanSt, hs]
  · rw [← hy, Pkg.spanSt, Pkg.spanSt, hs]

theorem Pkg.EndsAt.finish {s : State} {t p d q state : Nat} {x y : SpanSt} (h : s.pkg.EndsAt t p d q state x y) :
    s.finish.pkg.EndsAt t p d q state x y :=
  h.of_same (State.finish_pkg_rd _ _ _) (State.finish_pkg_rd _ _ _) (State.finish_pkg_spans _)

theorem Pkg.bothEnds_eq {s : Pkg} {t p d q : Nat} (h : spanPeer s.variant t p = some (d, q)) (f : Nat → Nat → Pkg → Pkg) :
    s.bothEnds t p f = f d q (f t p s) := by simp only [Pkg.bothEnds, h]

theorem Pkg.spanThere_of_peer {s : Pkg} {t p d q : Nat} (h : spanPeer s.variant t p = some (d, q)) (ho : s.tileOn t = true) :
    s.spanThere t p = true := by simp [Pkg.spanThere, h, ho]

/-! ### The commands -/

section
variable {tile span d q : Nat} {s : Pkg}

/-- R28: a flit is replayed. -/
theorem flitCrcFail_up (at_ : Nat) (h : spanPeer s.variant tile span = some (d, q)) (ho : s.tileOn tile = true) (hu : s.spanState tile span = 2) :
    flitCrcFail tile span at_ s = (s.reach at_).bump tile (oSpanRetry + span * 0x40) := by
  have hup : s.spanUpAt tile span = true := beq_iff_eq.2 hu
  exact Pkg.when_pos _ _ (by rw [Pkg.spanThere_of_peer h ho, hup]; rfl)

/-- R28: a span that is down or trains goes on training. -/
theorem spanRetrain_eq (h : spanPeer s.variant tile span = some (d, q)) (ho : s.tileOn tile = true)
    (hs : s.spanState tile span = 3 ∨ s.spanState tile span = 1) :
    ∃ x y, spanRetrain tile span s = ((s.reachFrac ((s.spanSt tile span).mark + ns (ms 1))).setEnd tile span 1 x).setEnd d q 1 y := by
  have hguard : (s.spanThere tile span && (s.spanState tile span == 3 || s.spanState tile span == 1)) = true := by
    rcases hs with hs | hs <;> simp [Pkg.spanThere_of_peer h ho, hs]
  rw [spanRetrain, Pkg.when_pos _ _ hguard]
  dsimp only
  rw [Pkg.bothEnds_eq (s := s.reachFrac ((s.spanSt tile span).mark + ns (ms 1))) h]
  exact ⟨_, _, rfl⟩

/-- The choice of control spans is hidden state. -/
theorem Pkg.trainedCtrl_eq (s : Pkg) (t p : Nat) : ∃ c, s.trainedCtrl t p = { s with ctrl := c } := by
  unfold Pkg.trainedCtrl
  split
  · dsimp only
    split
    · exact ⟨_, rfl⟩
    · exact ⟨s.ctrl, rfl⟩
  · exact ⟨s.ctrl, rfl⟩

theorem Pkg.trainedCtrl_rd (s : Pkg) (t p d o : Nat) : (s.trainedCtrl t p).rd d o = s.rd d o := by obtain ⟨c, h⟩ := s.trainedCtrl_eq t p; rw [h]; rfl
theorem Pkg.trainedCtrl_spans (s : Pkg) (t p : Nat) : (s.trainedCtrl t p).spans = s.spans := by obtain ⟨c, h⟩ := s.trainedCtrl_eq t p; rw [h]

theorem Touches.trainedCtrl {p q : Pkg} {W C : List Nat} (h : Touches p q W C) (t n : Nat) : Touches p (q.trainedCtrl t n) W C := by
  obtain ⟨c, hc⟩ := q.trainedCtrl_eq t n; rw [hc]; exact h.same rfl rfl rfl rfl

/-- A span port takes traffic at once where it has never been down and its tile has taken no commit (R28). -/
def Pkg.endUp (s : Pkg) (t p : Nat) : SpanSt := { s.spanSt t p with inServ := s.get t fEpoch == 0 && !(s.spanSt t p).fell }

theorem Pkg.setEnd_endUp (s : Pkg) {t p d q : Nat} (state : Nat) (x : SpanSt) (hp : p < 6) (hq : q < 6) (h : d ≠ t) :
    (s.setEnd t p state x).endUp d q = s.endUp d q := by
  rw [Pkg.endUp, Pkg.endUp, Pkg.setEnd_spanSt_ne _ _ _ _ _ hp hq h, Pkg.setEnd_epoch _ _ _ _ _ hp]

/-- R28: a span comes up at both ends; then control spans are chosen. -/
theorem spanUp_eq (at_ : Nat) (h : spanPeer s.variant tile span = some (d, q)) (ho : s.tileOn tile = true) (hs : s.spanState tile span ≠ 2) :
    spanUp tile span at_ s = (((s.reach at_).setEnd tile span 2 (s.endUp tile span)).setEnd d q 2 (s.endUp d q)).trainedCtrl tile span := by
  obtain ⟨_, hp, _, hq, hne⟩ := spanPeer_bounds h
  have hguard : (s.spanThere tile span && !s.spanUpAt tile span) = true := by
    have hup : s.spanUpAt tile span = false := beq_eq_false_iff_ne.2 hs
    rw [Pkg.spanThere_of_peer h ho, hup]; rfl
  have hend : ∀ (p : Pkg) (t n : Nat), n < 6 → ((p.put t (fSpanState.at n 0x40) 2).setSpanSt t n
      ((p.put t (fSpanState.at n 0x40) 2).endUp t n)) = p.setEnd t n 2 (p.endUp t n) := fun p t n hn => by
    have hepoch := p.setEnd_epoch t n 2 (p.spanSt t n) hn t
    rw [Pkg.setEnd, Pkg.setSpanSt_get] at hepoch
    rw [Pkg.setEnd, Pkg.endUp, Pkg.endUp, hepoch]; rfl
  rw [spanUp, Pkg.when_pos _ _ hguard, Pkg.bothEnds_eq (s := s.reach at_) h]
  have hfar := (s.reach at_).setEnd_endUp 2 (s.endUp tile span) hp hq hne
  rw [← show (s.reach at_).endUp d q = s.endUp d q from rfl, ← hfar, ← hend _ d q hq]
  rw [← show (s.reach at_).endUp tile span = s.endUp tile span from rfl, ← hend _ tile span hp]
  rfl

end

/-- What a span going up or down does after its ends: it changes words of time paths and of the mode at most, and no span. -/
structure SpansKept (p q : Pkg) : Prop where
  touches  : Touches p q (pkgAddr 15 0x60000 :: (List.range 7).map (pkgAddr · 0x10000C)) [pkgAddr 15 oLastChange, pkgAddr 15 oTransitions]
  spans    : q.spans = p.spans
  trestles : q.trestles = p.trestles
  mode     : q.mode = p.mode

namespace SpansKept
variable {p q : Pkg}

theorem refl (p : Pkg) : SpansKept p p := ⟨Touches.refl _ _ _, rfl, rfl, rfl⟩

theorem trans {r : Pkg} (h : SpansKept p q) (h' : SpansKept q r) : SpansKept p r :=
  ⟨h.touches.trans h'.touches, h'.spans.trans h.spans, h'.trestles.trans h.trestles, h'.mode.trans h.mode⟩

theorem foldl {β : Type} {f : Pkg → β → Pkg} {l : List β} (h : SpansKept p q) (hf : ∀ s b, b ∈ l → SpansKept s (f s b)) :
    SpansKept p (l.foldl f q) := by
  induction l generalizing q with
  | nil => exact h
  | cons b l ih => exact ih (h.trans (hf q b (by simp))) (fun s c hc => hf s c (by simp [hc]))

theorem event (h : SpansKept p q) (t v : Nat) : SpansKept p (q.event t v) := ⟨h.touches.event, h.spans, h.trestles, h.mode⟩

theorem setRoute (h : SpansKept p q) (a b : Nat) (r : Route) : SpansKept p (q.setRoute a b r) :=
  ⟨h.touches.same rfl rfl rfl rfl, h.spans, h.trestles, h.mode⟩

theorem chooseCtrl (h : SpansKept p q) (a b : Nat) : SpansKept p (q.chooseCtrl a b) :=
  ⟨h.touches.same rfl rfl rfl rfl, h.spans, h.trestles, h.mode⟩

theorem setFrame (h : SpansKept p q) (i : Nat) (f : FrameRec) : SpansKept p (q.setFrame i f) :=
  ⟨h.touches.same rfl rfl rfl rfl, h.spans, h.trestles, h.mode⟩

theorem degrade (h : SpansKept p q) (reason : Nat) : SpansKept p (q.degrade reason) := by
  refine ⟨h.touches.degrade (by simp) (by simp) (by simp), ?_, ?_, ?_⟩ <;> unfold Pkg.degrade <;> split
  · rw [Pkg.setMode_spans, h.spans]
  · exact h.spans
  · rw [Pkg.setMode_trestles, h.trestles]
  · exact h.trestles
  · rw [Pkg.setMode_mode, h.mode]
  · exact h.mode

theorem moveRoutes (h : SpansKept p q) : SpansKept p q.moveRoutes := by
  refine h.foldl fun s ab _ => ?_
  obtain ⟨a, b⟩ := ab
  dsimp -zeta only
  extract_lets kept u
  have hu : SpansKept s u := by
    show SpansKept s (if _ then _ else _)
    split
    · exact (refl s).chooseCtrl a b
    · exact refl s
  split
  · split
    · exact hu
    · exact (hu.setRoute _ _ _).degrade 12
    · exact hu.setRoute _ _ _
  · exact hu

theorem moveCharges (h : SpansKept p q) : SpansKept p q.moveCharges := by
  refine h.foldl fun s e _ => ?_
  dsimp only
  split
  · exact refl s
  · split
    · exact refl s
    · exact (refl s).setFrame _ _

theorem showPaths (h : SpansKept p q) : SpansKept p q.showPaths := by
  refine h.foldl fun s t ht => ?_
  have ht7 : t ∈ List.range 7 := List.mem_of_mem_filter (List.mem_of_mem_filter ht)
  exact ⟨(Touches.refl _ _ _).put (List.mem_cons_of_mem _ (List.mem_map_of_mem ht7)), rfl, rfl, rfl⟩

end SpansKept

section
variable {tile span d q : Nat} {s : Pkg}

/-- One end of a span goes DOWN, out of service, and counts the transition (R28). -/
def Pkg.downEnd (s : Pkg) (t p : Nat) : Pkg :=
  ((s.put t (fSpanState.at p 0x40) 3).bump t (oSpanDownCnt + p * 0x40)).setSpanSt t p { inServ := false, fell := true, mark := s.now }

/-- R28, R29: both ends go down; with no cells in flight, routes, control spans and time paths are all that follows. -/
theorem spanDown_kept (at_ : Nat) (h : spanPeer s.variant tile span = some (d, q)) (ho : s.tileOn tile = true) (hs : s.spanState tile span = 2) :
    SpansKept (((s.reach at_).downEnd tile span).downEnd d q) (spanDown tile span [] at_ s) := by
  have hguard : (s.spanThere tile span && s.spanUpAt tile span) = true := by
    have hup : s.spanUpAt tile span = true := beq_iff_eq.2 hs
    rw [Pkg.spanThere_of_peer h ho, hup]; rfl
  rw [spanDown, Pkg.when_pos _ _ hguard, Pkg.bothEnds_eq (s := s.reach at_) h]
  refine SpansKept.showPaths (SpansKept.moveCharges (SpansKept.moveRoutes ?_))
  dsimp only
  split
  · exact ((SpansKept.refl _).event _ _).event _ _
  · exact SpansKept.refl _

theorem Pkg.downEnd_state (t p : Nat) (x : SpanSt) (t' p' : Nat) : (s.downEnd t p).spanState t' p' = (s.setEnd t p 3 x).spanState t' p' := by
  rw [Pkg.downEnd, Pkg.spanState, Pkg.setSpanSt_get, Pkg.bump_get]; rfl

theorem Pkg.downEnd_spanSt_same (t p : Nat) : (s.downEnd t p).spanSt t p = { inServ := false, fell := true, mark := s.now } := by
  rw [Pkg.downEnd, Pkg.spanSt, Pkg.setSpanSt, SMap.get_set_same]

theorem Pkg.downEnd_spanSt_ne {t p : Nat} (hp : p < 6) (hq : q < 6) (h : d ≠ t) : (s.downEnd t p).spanSt d q = s.spanSt d q := by
  have hkey : d * 8 + q ≠ t * 8 + p := by omega
  rw [Pkg.downEnd, Pkg.spanSt, Pkg.setSpanSt, SMap.get_set_ne _ _ _ _ hkey, Pkg.bump_spans, Pkg.put_spans]; rfl

/-- The two ends after a span went down. -/
theorem Pkg.endsAt_downEnd (h : spanPeer s.variant tile span = some (d, q)) :
    ((s.downEnd tile span).downEnd d q).EndsAt tile span d q 3 { inServ := false, fell := true, mark := s.now }
      { inServ := false, fell := true, mark := s.now } := by
  obtain ⟨_, hp, _, hq, hne⟩ := spanPeer_bounds h
  refine ⟨?_, ?_, ?_, ?_⟩
  · rw [Pkg.downEnd_state _ _ {}, Pkg.setEnd_state_ne _ _ _ _ _ hq hp hne.symm, Pkg.downEnd_state _ _ {}, Pkg.setEnd_state_same _ _ _ _ (by decide)]
  · rw [Pkg.downEnd_state _ _ {}, Pkg.setEnd_state_same _ _ _ _ (by decide)]
  · rw [Pkg.downEnd_spanSt_ne hq hp hne.symm, Pkg.downEnd_spanSt_same]
  · rw [Pkg.downEnd_spanSt_same]; rfl

theorem Pkg.cnt_downEnd_same (t p : Nat) : (s.downEnd t p).cnt t (oSpanDownCnt + p * 0x40) = s.cnt t (oSpanDownCnt + p * 0x40) + 1 := by
  rw [Pkg.downEnd, Pkg.setSpanSt_cnt, Pkg.cnt_bump_same, Pkg.put_cnt]

theorem Pkg.cnt_downEnd_ne {t p : Nat} (hp : span < 6) (hq : p < 6) (h : tile ≠ t) :
    (s.downEnd t p).cnt tile (oSpanDownCnt + span * 0x40) = s.cnt tile (oSpanDownCnt + span * 0x40) := by
  rw [Pkg.downEnd, Pkg.setSpanSt_cnt, Pkg.cnt_bump_ne _ (spanAddr_ne hq hp h (by decide : oSpanDownCnt < 0x1000)), Pkg.put_cnt]

/-- The words and counters of spans are none of those that SpansKept names. -/
theorem SpansKept.word {p r : Pkg} (h : SpansKept p r) {t n : Nat} (ht : t < 7) (hn : n < 6) : r.rd t (0x100 + n * 0x40) = p.rd t (0x100 + n * 0x40) := by
  have hmode : pkgAddr t (0x100 + n * 0x40) ≠ pkgAddr 15 0x60000 := pkgAddr_die_ne (by omega) (by decide) (by omega)
  have hpath : ∀ x, pkgAddr x 0x10000C ≠ pkgAddr t (0x100 + n * 0x40) := fun x => by
    rw [Ne, pkgAddr_inj (by decide) (by omega)]; omega
  exact h.touches.words _ _ (by simp [hmode, hpath])

theorem SpansKept.downCnt {p r : Pkg} (h : SpansKept p r) {t n : Nat} (ht : t < 7) (hn : n < 6) :
    r.cnt t (oSpanDownCnt + n * 0x40) = p.cnt t (oSpanDownCnt + n * 0x40) := by
  have hoff : oSpanDownCnt + n * 0x40 < 2 ^ 26 := by unfold oSpanDownCnt; omega
  have hsentinel : ∀ o < 2 ^ 26, pkgAddr t (oSpanDownCnt + n * 0x40) ≠ pkgAddr 15 o := fun o ho => pkgAddr_die_ne hoff ho (by omega)
  exact h.touches.counts _ _ (by simp [hsentinel oLastChange (by decide), hsentinel oTransitions (by decide)])

end

theorem Pkg.setTrestle_spans (s : Pkg) (t : Nat) (x : TrestleSt) : (s.setTrestle t x).spans = s.spans := (rfl)

section
variable {tile span d q at_ : Nat} {s : State}

theorem runs_flitCrcFail (h : spanPeer s.pkg.variant tile span = some (d, q)) (ho : s.pkg.tileOn tile = true) (hs : s.pkg.spanState tile span = 2) :
    Runs (.flitCrcFail tile span at_) s (fun t =>
      t.pkg.cnt tile (oSpanRetry + span * 0x40) = s.pkg.cnt tile (oSpanRetry + span * 0x40) + 1 ∧
      t.pkg.hidden = s.pkg.hidden ∧ Frame s t [] [pkgAddr tile (oSpanRetry + span * 0x40)]) := by
  have he := flitCrcFail_up at_ h ho hs
  refine runs_onPkg rfl ⟨?_, ?_, Touches.frame (f := flitCrcFail tile span at_) ?_⟩
  · rw [State.finish_pkg_cnt, State.map_pkg, he, Pkg.cnt_bump_same, Pkg.reach_cnt]
  · rw [State.finish_hidden, State.map_pkg, he, Pkg.bump_hidden, Pkg.reach_hidden]
  · rw [he]; exact (Touches.refl _ _ _).reach.bump (by simp)

theorem runs_spanDown (h : spanPeer s.pkg.variant tile span = some (d, q)) (ho : s.pkg.tileOn tile = true) (hs : s.pkg.spanState tile span = 2)
    (hw : s.noEthWaits) : Runs (.spanDown tile span [] at_) s (fun t =>
      (∃ m, t.pkg.EndsAt tile span d q 3 { inServ := false, fell := true, mark := m } { inServ := false, fell := true, mark := m }) ∧
      t.pkg.cnt tile (oSpanDownCnt + span * 0x40) = s.pkg.cnt tile (oSpanDownCnt + span * 0x40) + 1 ∧
      t.pkg.cnt d (oSpanDownCnt + q * 0x40) = s.pkg.cnt d (oSpanDownCnt + q * 0x40) + 1) := by
  obtain ⟨ht, hp, hd, hq, hne⟩ := spanPeer_bounds h
  have hk := spanDown_kept at_ h ho hs
  have hends : (spanDown tile span [] at_ s.pkg).EndsAt tile span d q 3 _ _ :=
    (Pkg.endsAt_downEnd (s := s.pkg.reach at_) h).of_same (hk.word ht hp) (hk.word hd hq) hk.spans
  have hready : ((spanDown tile span [] at_ s.pkg).trestle (spanDown tile span [] at_ s.pkg).steward).ready = [] := by
    unfold Pkg.trestle Pkg.steward
    rw [hk.trestles, hk.mode]; exact hw
  refine runs_onFlow rfl hready ⟨⟨_, Pkg.EndsAt.finish (hends.of_same ?_ ?_ ?_)⟩, ?_, ?_⟩
  · exact Pkg.setTrestle_rd _ _ _ _ _
  · exact Pkg.setTrestle_rd _ _ _ _ _
  · exact Pkg.setTrestle_spans _ _ _
  · rw [State.finish_pkg_cnt, State.map_pkg, Pkg.setTrestle_cnt, hk.downCnt ht hp, Pkg.cnt_downEnd_ne hp hq hne.symm, Pkg.cnt_downEnd_same, Pkg.reach_cnt]
  · rw [State.finish_pkg_cnt, State.map_pkg, Pkg.setTrestle_cnt, hk.downCnt hd hq, Pkg.cnt_downEnd_same, Pkg.cnt_downEnd_ne hq hp hne, Pkg.reach_cnt]

theorem runs_spanRetrain (h : spanPeer s.pkg.variant tile span = some (d, q)) (ho : s.pkg.tileOn tile = true)
    (hs : s.pkg.spanState tile span = 3 ∨ s.pkg.spanState tile span = 1) :
    Runs (.spanRetrain tile span) s (fun t =>
      t.pkg.spanState tile span = 1 ∧ t.pkg.spanState d q = 1 ∧ (s.pkg.spanSt tile span).mark + ns 1000000 ≤ t.pkg.now ∧
      Frame s t [spanWord tile span, spanWord d q] []) := by
  obtain ⟨x, y, he⟩ := spanRetrain_eq h ho hs
  have hends : (spanRetrain tile span s.pkg).EndsAt tile span d q 1 x y := he ▸ Pkg.endsAt_setEnd _ x y h (by decide)
  obtain ⟨hnear, hfar, _, _⟩ := Pkg.EndsAt.finish (s := s.map (spanRetrain tile span)) hends
  refine runs_onPkg rfl ⟨hnear, hfar, ?_, Touches.frame (f := spanRetrain tile span) ?_⟩
  · rw [State.finish_pkg_now, State.map_pkg, he]
    exact Nat.le_max_right s.pkg.now _
  · rw [he]; exact ((Touches.refl _ _ _).reachFrac.setEnd (by simp)).setEnd (by simp)

theorem runs_spanUp (h : spanPeer s.pkg.variant tile span = some (d, q)) (ho : s.pkg.tileOn tile = true) (hs : s.pkg.spanState tile span ≠ 2) :
    Runs (.spanUp tile span at_) s (fun t =>
      t.pkg.EndsAt tile span d q 2 (s.pkg.endUp tile span) (s.pkg.endUp d q) ∧ Frame s t [spanWord tile span, spanWord d q] []) := by
  obtain ⟨ht, hp, hd, hq, _⟩ := spanPeer_bounds h
  have he := spanUp_eq at_ h ho hs
  have hset := (s.pkg.reach at_).endsAt_setEnd (s.pkg.endUp tile span) (s.pkg.endUp d q) h (by decide : 2 < 4)
  refine runs_onPkg rfl ⟨Pkg.EndsAt.finish (s := s.map (spanUp tile span at_)) ?_, Touches.frame (f := spanUp tile span at_) ?_⟩
  · rw [State.map_pkg, he]; exact hset.of_same (Pkg.trainedCtrl_rd _ _ _ _ _) (Pkg.trainedCtrl_rd _ _ _ _ _) (Pkg.trainedCtrl_spans _ _ _)
  · rw [he]; exact (((Touches.refl _ _ _).reach.setEnd (by simp)).setEnd (by simp)).trainedCtrl _ _

end

/-- Settles O9: replay, DOWN, training and UP of a span, each by what it does at the two ends. -/
theorem spanEffects : Obligations.SpanEffects := by
  intro tile span d q at_ s h ho
  refine ⟨fun hs => ⟨runs_flitCrcFail h ho hs, fun hw => ?_⟩, fun hs => runs_spanRetrain h ho hs, fun hs => ?_⟩
  · obtain ⟨t, hrun, ⟨m, hnear, hfar, hnearSt, hfarSt⟩, hcnt, hcnt'⟩ := runs_spanDown (at_ := at_) h ho hs hw
    exact ⟨t, hrun, hnear, hfar, by rw [hnearSt], by rw [hfarSt], hcnt, hcnt'⟩
  · obtain ⟨t, hrun, ⟨hnear, hfar, hnearSt, hfarSt⟩, hframe⟩ := runs_spanUp (at_ := at_) h ho hs
    exact ⟨t, hrun, hnear, hfar, by rw [hnearSt]; rfl, by rw [hfarSt]; rfl, hframe⟩

end Sys2Proof.Machine
end

section
/-! PROOFS. Tethers (R31, R32): what O10 asks. -/
namespace Sys2Proof.Machine

/-! ### What the hardware holds of a tether -/

/-- A heartbeat slot of one direction (R32). -/
def TetherSt.slot (x : TetherSt) (toTile arrived : Bool) : TetherSt :=
  if toTile then { x with missTo := if arrived then 0 else x.missTo + 1, goodTo := if arrived then x.goodTo + 1 else 0 }
  else { x with missFrom := if arrived then 0 else x.missFrom + 1, goodFrom := if arrived then x.goodFrom + 1 else 0 }

/-- The tether is DOWN from this instant on. -/
def TetherSt.wentDown (x : TetherSt) (now : Nat) : TetherSt := { x with up := false, goodTo := 0, goodFrom := 0, mark := now }

@[simp] theorem Pkg.tetherSt_setTetherSt_same (s : Pkg) (t : Nat) (x : TetherSt) : (s.setTetherSt t x).tetherSt t = x := SMap.get_set_same _ _ _ _

theorem Pkg.tetherSt_setTetherSt_ne (s : Pkg) {t u : Nat} (x : TetherSt) (h : u ≠ t) : (s.setTetherSt t x).tetherSt u = s.tetherSt u :=
  SMap.get_set_ne _ _ _ _ h

theorem Touches.setTetherSt {p q : Pkg} {W C : List Nat} (h : Touches p q W C) {t : Nat} {x : TetherSt} : Touches p (q.setTetherSt t x) W C :=
  h.same rfl rfl rfl rfl

theorem Touches.carriedBy {p q : Pkg} {W C : List Nat} (h : Touches p q W C) (t : Nat) : Touches p { q with tether := t } W C := h.same rfl rfl rfl rfl

theorem State.finish_tetherSt (s : State) (t : Nat) : s.finish.pkg.tetherSt t = s.pkg.tetherSt t := by
  unfold Pkg.tetherSt; rw [State.finish_pkg_tethers]

theorem State.finish_tetherUp (s : State) (t : Nat) : s.finish.pkg.tetherUp t = s.pkg.tetherUp t := by
  unfold Pkg.tetherUp; rw [State.finish_tetherSt]

@[simp] theorem Pkg.setTrestle_tetherSt (s : Pkg) (t : Nat) (x : TrestleSt) (u : Nat) : (s.setTrestle t x).tetherSt u = s.tetherSt u := (rfl)
@[simp] theorem Pkg.setTrestle_tetherUp (s : Pkg) (t : Nat) (x : TrestleSt) (u : Nat) : (s.setTrestle t x).tetherUp u = s.tetherUp u := (rfl)
@[simp] theorem Pkg.setTrestle_tether (s : Pkg) (t : Nat) (x : TrestleSt) : (s.setTrestle t x).tether = s.tether := (rfl)

theorem tetherCount_le (v : Variant) : tetherCount v ≤ 2 := by unfold tetherCount; split <;> omega

theorem Pkg.tetherThere_lt {s : Pkg} {x : Nat} (h : s.tetherThere x = true) : x < 2 := by
  simp only [Pkg.tetherThere, Bool.and_eq_true, decide_eq_true_eq] at h
  have := tetherCount_le s.variant
  omega

theorem State.noEthWaits_of_kept {s : State} {p : Pkg} (hw : s.noEthWaits) (ht : p.trestles = s.pkg.trestles) (hm : p.mode = s.pkg.mode) :
    (p.trestle p.steward).ready = [] := by
  unfold Pkg.trestle Pkg.steward; rw [ht, hm]; exact hw

/-! ### A transition that the sentinel records alone (R32) -/

section
variable (s : Pkg) (reason : Nat)

@[simp] theorem Pkg.onEach_event_tethers (l : List Nat) (v : Nat) : (s.onEach l (fun t s => s.event t v)).tethers = s.tethers :=
  Pkg.onEach_same (f := fun t s => s.event t v) (·.tethers) (fun s t => s.event_tethers t v) l s

@[simp] theorem Pkg.degradeAlone_tethers : (s.degradeAlone reason).tethers = s.tethers := by
  rw [Pkg.degradeAlone, Pkg.onEach_event_tethers]; split <;> simp
@[simp] theorem Pkg.degradeAlone_trestles : (s.degradeAlone reason).trestles = s.trestles := by
  rw [Pkg.degradeAlone, Pkg.onEach_event_trestles]; split <;> simp
@[simp] theorem Pkg.degradeAlone_mode : (s.degradeAlone reason).mode = s.mode := by
  rw [Pkg.degradeAlone, Pkg.onEach_event_mode]; split <;> simp

theorem Pkg.degradeAlone_run (h : s.modeNow = mRun) (hr : reason < 32) :
    (s.degradeAlone reason).modeNow = mDegraded ∧ (s.degradeAlone reason).get 15 fReason = reason := by
  rw [Pkg.degradeAlone, Pkg.modeNow, Pkg.onEach_event_get, Pkg.onEach_event_get, if_pos (Or.inl h)]
  rw [Pkg.bump_get, Pkg.setCnt_get, Pkg.get_put_apart _ _ (by decide), Pkg.get_put_same _ _ _ _ (by decide), Pkg.bump_get, Pkg.setCnt_get,
    Pkg.get_put_same _ _ _ _ (by decide)]
  exact ⟨rfl, Nat.mod_eq_of_lt hr⟩

end

/-! ### The commands -/

section
variable {s : Pkg} {x : Nat}

theorem tetherHeartbeat_eq (toTile arrived : Bool) (at_ : Nat) (h : s.tetherThere x = true) :
    tetherHeartbeat x toTile arrived at_ s = (s.reach at_).setTetherSt x ((s.tetherSt x).slot toTile arrived) := by
  rw [tetherHeartbeat, Pkg.when_pos _ _ h]; rfl

/-- R32: the tether is DOWN; its traffic moves to the other one where that is UP, and else the package is degraded. -/
theorem tetherDown_eq (at_ : Nat) (h : s.tetherThere x = true) (hu : s.tetherUp x = true)
    (hm : 3 ≤ (s.tetherSt x).missTo ∨ 3 ≤ (s.tetherSt x).missFrom) :
    tetherDown x at_ s =
      let d := (s.reach at_).setTetherSt x ((s.tetherSt x).wentDown (s.reach at_).now)
      if 1 - x < tetherCount s.variant ∧ s.tetherUp (1 - x) = true then (if s.tether = x then { d with tether := 1 - x } else d)
      else d.degradeAlone 21 := by
  have hlt := Pkg.tetherThere_lt h
  have hother : ((s.reach at_).setTetherSt x ((s.tetherSt x).wentDown (s.reach at_).now)).tetherUp (1 - x) = s.tetherUp (1 - x) := by
    rw [Pkg.tetherUp, Pkg.tetherSt_setTetherSt_ne _ _ (by omega)]; rfl
  have hguard : (s.tetherThere x && s.tetherUp x && (decide (3 ≤ (s.tetherSt x).missTo) || decide (3 ≤ (s.tetherSt x).missFrom))) = true := by
    simp [h, hu, hm]
  rw [tetherDown, Pkg.when_pos _ _ hguard]
  show (if (decide (1 - x < tetherCount s.variant) && ((s.reach at_).setTetherSt x ((s.tetherSt x).wentDown (s.reach at_).now)).tetherUp (1 - x)) = true
    then _ else _) = _
  rw [hother]
  simp only [Bool.and_eq_true, decide_eq_true_eq]
  rfl

theorem tetherRetrain_eq (h : s.tetherThere x = true) (hu : s.tetherUp x = false) :
    tetherRetrain x s = (s.reachFrac ((s.tetherSt x).mark + ns (ms 1))).setTetherSt x
      { s.tetherSt x with mark := (s.reachFrac ((s.tetherSt x).mark + ns (ms 1))).now } := by
  rw [tetherRetrain, Pkg.when_pos _ _ (by simp [h, hu])]; rfl

/-- R32: the tether is UP, and carries the traffic where no other one does. -/
theorem tetherUp_eq (at_ : Nat) (h : s.tetherThere x = true) (hu : s.tetherUp x = false) (ht : 3 ≤ (s.tetherSt x).goodTo)
    (hf : 3 ≤ (s.tetherSt x).goodFrom) : ∃ c, (s.tetherUp (1 - x) = false → c = x) ∧
      tetherUp x at_ s = { (s.reach at_).setTetherSt x { s.tetherSt x with up := true } with tether := c } := by
  have hlt := Pkg.tetherThere_lt h
  have hother : ((s.reach at_).setTetherSt x { s.tetherSt x with up := true }).tetherUp (1 - x) = s.tetherUp (1 - x) := by
    rw [Pkg.tetherUp, Pkg.tetherSt_setTetherSt_ne _ _ (by omega)]; rfl
  rw [tetherUp, Pkg.when_pos _ _ (by simp [h, hu, ht, hf])]
  show ∃ c, _ ∧ (if (((s.reach at_).setTetherSt x { s.tetherSt x with up := true }).tetherUp (1 - x) && decide (1 - x < tetherCount s.variant)) = true
    then _ else _) = _
  rw [hother]
  split
  · next hc => exact ⟨s.tether, fun hno => (by rw [hno] at hc; cases hc), rfl⟩
  · exact ⟨x, fun _ => rfl, rfl⟩

end

section
variable {s : State} {x : Nat}

/-- A heartbeat slot changes what the hardware holds of the tether, and no word. -/
theorem runs_tetherHeartbeat (toTile arrived : Bool) (at_ : Nat) (h : s.pkg.tetherThere x = true) (hw : s.noEthWaits) :
    Runs (.tetherHeartbeat x toTile arrived at_) s (fun t => t.pkg.tetherSt x = (s.pkg.tetherSt x).slot toTile arrived ∧ Frame s t [] []) := by
  have he := tetherHeartbeat_eq toTile arrived at_ h
  refine runs_onFlow rfl ?_ ⟨?_, Touches.frame ?_⟩
  · rw [he]; exact State.noEthWaits_of_kept hw rfl rfl
  · rw [State.finish_tetherSt, State.map_pkg, Pkg.setTrestle_tetherSt, he, Pkg.tetherSt_setTetherSt_same]
  · rw [he]; exact (Touches.refl _ _ _).reach.setTetherSt.setTrestle

/-- The effect of TETHER_DOWN on the package. -/
theorem tetherDown_spec (at_ : Nat) (h : s.pkg.tetherThere x = true) (hu : s.pkg.tetherUp x = true)
    (hm : 3 ≤ (s.pkg.tetherSt x).missTo ∨ 3 ≤ (s.pkg.tetherSt x).missFrom) :
    let p := tetherDown x at_ s.pkg
    p.trestles = s.pkg.trestles ∧ p.mode = s.pkg.mode ∧ p.tetherUp x = false ∧
    (s.pkg.tether = x → s.pkg.tetherThere (1 - x) = true → s.pkg.tetherUp (1 - x) = true → p.tether = 1 - x ∧ Touches s.pkg p [] []) ∧
    (s.pkg.tetherUp (1 - x) = false → s.pkg.modeNow = mRun → p.modeNow = mDegraded ∧ p.get 15 fReason = 21) := by
  intro p
  have he : p = _ := tetherDown_eq at_ h hu hm
  generalize hd : (s.pkg.reach at_).setTetherSt x ((s.pkg.tetherSt x).wentDown (s.pkg.reach at_).now) = d at he
  have hdown : d.tetherUp x = false := by rw [← hd, Pkg.tetherUp, Pkg.tetherSt_setTetherSt_same]; rfl
  have htouch : Touches s.pkg d [] [] := by rw [← hd]; exact (Touches.refl _ _ _).reach.setTetherSt
  have htrestles : d.trestles = s.pkg.trestles := by rw [← hd]; rfl
  have hmode : d.mode = s.pkg.mode := by rw [← hd]; rfl
  have hnow : d.modeNow = s.pkg.modeNow := by rw [← hd]; rfl
  dsimp only at he
  by_cases hother : 1 - x < tetherCount s.pkg.variant ∧ s.pkg.tetherUp (1 - x) = true
  · rw [if_pos hother] at he
    by_cases hx : s.pkg.tether = x
    · rw [if_pos hx] at he
      rw [he]
      exact ⟨htrestles, hmode, hdown, fun _ _ _ => ⟨rfl, htouch.carriedBy _⟩, fun hf => by rw [hother.2] at hf; cases hf⟩
    · rw [if_neg hx] at he
      rw [he]
      exact ⟨htrestles, hmode, hdown, fun hx' => absurd hx' hx, fun hf => by rw [hother.2] at hf; cases hf⟩
  · rw [if_neg hother] at he
    rw [he]
    refine ⟨?_, ?_, ?_, fun _ hthere hup => ?_, fun _ hrun => ?_⟩
    · rw [Pkg.degradeAlone_trestles, htrestles]
    · rw [Pkg.degradeAlone_mode, hmode]
    · rw [Pkg.tetherUp, Pkg.tetherSt, Pkg.degradeAlone_tethers]; exact hdown
    · simp only [Pkg.tetherThere, Bool.and_eq_true, decide_eq_true_eq] at hthere
      exact absurd ⟨hthere.1, hup⟩ hother
    · exact d.degradeAlone_run 21 (by rw [hnow, hrun]) (by decide)

theorem runs_tetherDown (at_ : Nat) (h : s.pkg.tetherThere x = true) (hu : s.pkg.tetherUp x = true)
    (hm : 3 ≤ (s.pkg.tetherSt x).missTo ∨ 3 ≤ (s.pkg.tetherSt x).missFrom) (hw : s.noEthWaits) :
    Runs (.tetherDown x at_) s (fun t =>
      t.pkg.tetherUp x = false ∧
      (s.pkg.tether = x → s.pkg.tetherThere (1 - x) = true → s.pkg.tetherUp (1 - x) = true → t.pkg.tether = 1 - x ∧ Frame s t [] []) ∧
      (s.pkg.tetherUp (1 - x) = false → s.pkg.modeNow = mRun → t.pkg.modeNow = mDegraded ∧ t.pkg.get 15 fReason = 21)) := by
  obtain ⟨htrestles, hmode, hdown, hmoves, hdegrades⟩ := tetherDown_spec at_ h hu hm
  refine runs_onFlow rfl (State.noEthWaits_of_kept hw htrestles hmode) ⟨?_, fun hx hthere hup => ?_, fun hother hrun => ?_⟩
  · rw [State.finish_tetherUp, State.map_pkg, Pkg.setTrestle_tetherUp]; exact hdown
  · obtain ⟨htether, htouch⟩ := hmoves hx hthere hup
    exact ⟨by rw [State.finish_pkg_tether, State.map_pkg, Pkg.setTrestle_tether]; exact htether, Touches.frame htouch.setTrestle⟩
  · obtain ⟨hnow, hreason⟩ := hdegrades hother hrun
    rw [Pkg.modeNow, State.finish_pkg_get, State.finish_pkg_get, State.map_pkg, Pkg.setTrestle_get, Pkg.setTrestle_get]
    exact ⟨hnow, hreason⟩

theorem runs_tetherRetrain (h : s.pkg.tetherThere x = true) (hu : s.pkg.tetherUp x = false) :
    Runs (.tetherRetrain x) s (fun t =>
      t.pkg.tetherUp x = false ∧ (s.pkg.tetherSt x).mark + ns 1000000 ≤ t.pkg.now ∧ (t.pkg.tetherSt x).mark = t.pkg.now ∧ Frame s t [] []) := by
  have he := tetherRetrain_eq h hu
  refine runs_onPkg rfl ⟨?_, ?_, ?_, Touches.frame ?_⟩
  · rw [State.finish_tetherUp, State.map_pkg, he, Pkg.tetherUp, Pkg.tetherSt_setTetherSt_same]; exact hu
  · rw [State.finish_pkg_now, State.map_pkg, he, Pkg.setTetherSt_now]; exact Nat.le_max_right _ _
  · rw [State.finish_pkg_now, State.finish_tetherSt, State.map_pkg, he, Pkg.setTetherSt_now, Pkg.tetherSt_setTetherSt_same]
  · rw [he]; exact (Touches.refl _ _ _).reachFrac.setTetherSt

theorem runs_tetherUp (at_ : Nat) (h : s.pkg.tetherThere x = true) (hu : s.pkg.tetherUp x = false) (ht : 3 ≤ (s.pkg.tetherSt x).goodTo)
    (hf : 3 ≤ (s.pkg.tetherSt x).goodFrom) (hw : s.noEthWaits) :
    Runs (.tetherUp x at_) s (fun t =>
      t.pkg.tetherUp x = true ∧ (s.pkg.tetherUp (1 - x) = false → t.pkg.tether = x) ∧ Frame s t [] []) := by
  obtain ⟨c, hc, he⟩ := tetherUp_eq at_ h hu ht hf
  refine runs_onFlow rfl ?_ ⟨?_, fun hno => ?_, Touches.frame ?_⟩
  · rw [he]; exact State.noEthWaits_of_kept hw rfl rfl
  · rw [State.finish_tetherUp, State.map_pkg, Pkg.setTrestle_tetherUp, he]
    show (((s.pkg.reach at_).setTetherSt x { s.pkg.tetherSt x with up := true }).tetherSt x).up = true
    rw [Pkg.tetherSt_setTetherSt_same]
  · rw [State.finish_pkg_tether, State.map_pkg, Pkg.setTrestle_tether, he]; exact hc hno
  · rw [he]; exact ((Touches.refl _ _ _).reach.setTetherSt.carriedBy c).setTrestle

end

/-- Settles O10: heartbeat slots, and a tether going down, retraining and coming up. -/
theorem tetherEffects : Obligations.TetherEffects := by
  intro x at_ s h
  refine ⟨fun arrived hw => ⟨?_, ?_⟩, fun hu hm hw => runs_tetherDown at_ h hu hm hw,
    fun hu => ⟨runs_tetherRetrain h hu, fun ht hf hw => runs_tetherUp at_ h hu ht hf hw⟩⟩
  · obtain ⟨t, hrun, hslot, hframe⟩ := runs_tetherHeartbeat true arrived at_ h hw
    exact ⟨t, hrun, by rw [hslot]; rfl, by rw [hslot]; rfl, hframe⟩
  · obtain ⟨t, hrun, hslot, hframe⟩ := runs_tetherHeartbeat false arrived at_ h hw
    exact ⟨t, hrun, by rw [hslot]; rfl, by rw [hslot]; rfl, hframe⟩

end Sys2Proof.Machine
end

section
/-! PROOFS. Words outside a range, where a range is cleared or listed (R286). -/
namespace Sys2Proof.Machine

/-! ### Maps filtered by their keys -/

section
variable {α : Type} (p : Nat → Bool) (m : SMap α) {k : Nat}

theorem SMap.get_filter_of_pos (d : α) (h : p k = true) : SMap.get d (m.filter (fun e => p e.1)) k = SMap.get d m k := by
  induction m with
  | nil => rfl
  | cons e m ih =>
    obtain ⟨j, v⟩ := e
    by_cases hj : j = k
    · subst hj; simp [h, SMap.get]
    · cases hp : p j <;> simp [hp, SMap.get, hj, ih]

theorem SMap.filter_erase_of_neg (h : p k = false) : (SMap.erase k m).filter (fun e => p e.1) = m.filter (fun e => p e.1) := by
  induction m with
  | nil => rfl
  | cons e m ih =>
    obtain ⟨j, v⟩ := e
    by_cases hj : j = k
    · subst hj; simp [SMap.erase, h, ih]
    · simp [SMap.erase, hj, List.filter_cons, ih]

theorem SMap.filter_insertSorted_of_neg (v : α) (h : p k = false) :
    (SMap.insertSorted k v m).filter (fun e => p e.1) = m.filter (fun e => p e.1) := by
  induction m with
  | nil => simp [SMap.insertSorted, h]
  | cons e m ih =>
    obtain ⟨j, w⟩ := e
    by_cases hj : k < j
    · simp [SMap.insertSorted, hj, h]
    · simp [SMap.insertSorted, hj, List.filter_cons, ih]

/-- A write at a key that the filter drops does not show in what it keeps. -/
theorem SMap.filter_set_of_neg [DecidableEq α] (d v : α) (h : p k = false) :
    (SMap.set d m k v).filter (fun e => p e.1) = m.filter (fun e => p e.1) := by
  unfold SMap.set
  split
  · exact SMap.filter_erase_of_neg p m h
  · rw [SMap.filter_insertSorted_of_neg _ _ _ h, SMap.filter_erase_of_neg p m h]

end

/-! ### Cleared ranges -/

theorem Pkg.rd_clearWords (s : Pkg) {die lo hi d o : Nat} (h : ¬ (pkgAddr die lo ≤ pkgAddr d o ∧ pkgAddr d o < pkgAddr die hi)) :
    (s.clearWords die lo hi).rd d o = s.rd d o :=
  SMap.get_filter_of_pos (fun k => !(decide (pkgAddr die lo ≤ k) && decide (k < pkgAddr die hi))) s.regs _
    (by simp only [Bool.not_eq_true', Bool.and_eq_false_iff, decide_eq_false_iff_not]; omega)

/-- Clearing n addresses from an offset touches these addresses. -/
theorem Touches.clearWords {p q : Pkg} {W C : List Nat} (h : Touches p q W C) {die lo n : Nat} (hm : ∀ i < n, pkgAddr die (lo + i) ∈ W) :
    Touches p (q.clearWords die lo (lo + n)) W C := by
  refine h.trans ⟨fun d o hd => q.rd_clearWords fun hin => hd ?_, fun _ _ _ => rfl, rfl, rfl⟩
  have hi : pkgAddr d o - pkgAddr die lo < n := by unfold pkgAddr at hin ⊢; omega
  have he : pkgAddr die (lo + (pkgAddr d o - pkgAddr die lo)) = pkgAddr d o := by unfold pkgAddr at hin ⊢; omega
  exact he ▸ hm _ hi

/-! ### Listed ranges, and the associations in use -/

theorem Pkg.mem_listed {s : Pkg} {die lo hi o : Nat} (h : o ∈ s.listed die lo hi) : lo ≤ o ∧ o < hi := by
  simp only [Pkg.listed, List.mem_map, List.mem_filter, Bool.and_eq_true, decide_eq_true_eq] at h
  obtain ⟨e, ⟨_, hlo, hhi⟩, rfl⟩ := h
  unfold pkgAddr at *
  omega

theorem Pkg.listed_wr (s : Pkg) {die lo hi d o : Nat} (w : Word) (h : ¬ (pkgAddr die lo ≤ pkgAddr d o ∧ pkgAddr d o < pkgAddr die hi)) :
    (s.wr d o w).listed die lo hi = s.listed die lo hi :=
  congrArg (List.map _) (SMap.filter_set_of_neg (fun k => decide (pkgAddr die lo ≤ k) && decide (k < pkgAddr die hi)) s.regs _ w (by simpa using h))

/-- A word below the table of associations is none of them. -/
theorem Pkg.validSas_put (s : Pkg) (t : Nat) {f : Fld} (v : Nat) (h : f.off < 0x3900000) : (s.put t f v).validSas t = s.validSas t := by
  unfold Pkg.validSas
  rw [show (s.put t f v).listed t 0x3900000 0x3920800 = s.listed t 0x3900000 0x3920800 from
    s.listed_wr _ (by unfold pkgAddr; omega)]
  refine List.filter_congr fun o ho => ?_
  obtain ⟨hlo, _⟩ := Pkg.mem_listed ho
  rw [Pkg.on_put_apart _ _ (Or.inl (by simp only [fSaValid]; omega))]

theorem Pkg.validSas_raise (s : Pkg) (t : Nat) {f : Fld} (h : f.off < 0x3900000) : (s.raise t f).validSas t = s.validSas t := s.validSas_put t 1 h

end Sys2Proof.Machine
end

section
/-! PROOFS. Tamper events and the tamper level (R33, R284–R286, R306): what O41 asks. -/
namespace Sys2Proof.Machine

/-! ### A latched source (R284) -/

/-- A tamper source latches: TP_TIME with the first one, the bits of the source, and its count. -/
def Pkg.tamperLatched (s : Pkg) (source : Nat) : Pkg :=
  let s := if s.tampered then s else s.setCnt 15 0x50008 (BitVec.ofNat 64 (s.countNs 15))
  let s := (s.put 15 ⟨0x50004, source, source⟩ 1).put 15 ⟨0x50000, source + 1, source + 1⟩ 1
  if s.cnt 15 0x50028 = BitVec.allOnes 64 then s else s.bump 15 0x50028

section
variable {s : Pkg} {source : Nat}

/-- A latch is three updates: TP_TIME perhaps, the two bits, the count unless it is full. -/
theorem Pkg.tamperLatched_eq (h : s.cnt 15 0x50028 ≠ BitVec.allOnes 64) : ∃ b : Pkg, (b = s ∨ ∃ v, b = s.setCnt 15 0x50008 v) ∧
    s.tamperLatched source = ((b.put 15 ⟨0x50004, source, source⟩ 1).put 15 ⟨0x50000, source + 1, source + 1⟩ 1).bump 15 0x50028 := by
  unfold Pkg.tamperLatched
  dsimp only
  split
  · exact ⟨s, Or.inl rfl, if_neg h⟩
  · refine ⟨_, Or.inr ⟨_, rfl⟩, if_neg ?_⟩
    rw [Pkg.put_cnt, Pkg.put_cnt, Pkg.cnt_setCnt_off _ _ (by decide)]
    exact h

theorem Pkg.tamperLatched_spec (hs : source < 8) (h : s.cnt 15 0x50028 ≠ BitVec.allOnes 64) :
    (s.tamperLatched source).on 15 ⟨0x50004, source, source⟩ = true ∧ (s.tamperLatched source).on 15 ⟨0x50000, source + 1, source + 1⟩ = true ∧
    (s.tamperLatched source).on 15 fTpLine = s.on 15 fTpLine ∧ (s.tamperLatched source).cnt 15 0x50028 = s.cnt 15 0x50028 + 1 ∧
    (s.tamperLatched source).mode = s.mode ∧ (s.tamperLatched source).vault = s.vault ∧
    Touches s (s.tamperLatched source) [pkgAddr 15 0x50000, pkgAddr 15 0x50004] [pkgAddr 15 0x50008, pkgAddr 15 0x50028] := by
  obtain ⟨b, hb, he⟩ := Pkg.tamperLatched_eq (source := source) h
  have hline : b.on 15 fTpLine = s.on 15 fTpLine := by rcases hb with rfl | ⟨v, rfl⟩ <;> rfl
  have hcnt : b.cnt 15 0x50028 = s.cnt 15 0x50028 := by
    rcases hb with rfl | ⟨v, rfl⟩
    · rfl
    · exact Pkg.cnt_setCnt_off _ _ (by decide)
  have htouch : Touches s b [pkgAddr 15 0x50000, pkgAddr 15 0x50004] [pkgAddr 15 0x50008, pkgAddr 15 0x50028] := by
    rcases hb with rfl | ⟨v, rfl⟩
    · exact Touches.refl _ _ _
    · exact (Touches.refl _ _ _).setCnt (by simp)
  have hbit : ∀ n, 1 % 2 ^ (n + 1 - n) != 0 := fun n => by rw [Nat.add_sub_cancel_left]; rfl
  rw [he]
  refine ⟨?_, ?_, ?_, ?_, ?_, ?_, ((htouch.put (by simp)).put (by simp)).bump (by simp)⟩
  · rw [Pkg.bump_on, Pkg.on_put_apart _ _ (Or.inl (by simp)), Pkg.on_put_same _ _ _ _ (by dsimp only; omega)]; exact hbit _
  · rw [Pkg.bump_on, Pkg.on_put_same _ _ _ _ (by dsimp only; omega)]; exact hbit _
  · rw [Pkg.bump_on, Pkg.on_put_apart _ _ (Or.inr (Or.inr (by simp [fTpLine]))), Pkg.on_put_apart _ _ (Or.inl (by simp [fTpLine])), hline]
  · rw [Pkg.cnt_bump_same, Pkg.put_cnt, Pkg.put_cnt, hcnt]
  · rcases hb with rfl | ⟨v, rfl⟩ <;> simp
  · rcases hb with rfl | ⟨v, rfl⟩ <;> simp

end

/-! ### Zeroisation of the vault (R285, R286) -/

/-- The words of the sentinel at these offsets. -/
abbrev sentinelWords (l : List Nat) : List Nat := l.map (pkgAddr 15)

theorem mem_sentinelWords {l : List Nat} {o : Nat} : pkgAddr 15 o ∈ sentinelWords l ↔ o ∈ l :=
  List.mem_map_of_injective fun _ _ h => Nat.add_left_cancel h

/-- The words that zeroisation clears or writes beside the two flags of the line and the root. -/
def zeroisedOffs : List Nat :=
  0x10000 :: ((List.range 4096).map slotOff ++ (List.range 0x2000).map (oKyIn + ·) ++ (List.range 0x2000).map (oKyAttest + ·) ++
    (List.range 0x100).map (oKyOut + ·) ++ (List.range 16).map (oKyNonce + ·))

theorem mem_zeroisedOffs {o : Nat} : o ∈ zeroisedOffs ↔ o = 0x10000 ∨ (∃ k < 4096, slotOff k = o) ∨ (∃ i < 0x2000, oKyIn + i = o) ∨
    (∃ i < 0x2000, oKyAttest + i = o) ∨ (∃ i < 0x100, oKyOut + i = o) ∨ (∃ i < 16, oKyNonce + i = o) := by
  simp only [zeroisedOffs, List.mem_cons, List.mem_append, List.mem_map, List.mem_range, or_assoc]

theorem notMem_zeroisedOffs {o : Nat} (h : o < 0x10000 ∨ 0x20000 ≤ o) : o ∉ zeroisedOffs := by
  rw [mem_zeroisedOffs]
  simp only [slotOff, oKyIn, oKyAttest, oKyOut, oKyNonce]
  omega

/-- The slots in use become ZEROISED (R285). -/
def Pkg.zeroiseSlots (s : Pkg) (l : List Nat) : Pkg := l.foldl (fun s k => s.put 15 (fSlState k) 3) s

theorem Pkg.zeroiseSlots_state (s : Pkg) {l : List Nat} {k : Nat} (h : k ∈ l ∨ s.get 15 (fSlState k) = 3) :
    (s.zeroiseSlots l).get 15 (fSlState k) = 3 := by
  induction l generalizing s with
  | nil => exact h.resolve_left (by simp)
  | cons j l ih =>
    refine ih _ ?_
    by_cases hj : k = j
    · subst hj
      exact Or.inr (s.get_put_same 15 (fSlState k) 3 (by decide : 17 < 32))
    · have hoff : (fSlState k).off ≠ (fSlState j).off := by simp only [fSlState, slotOff]; omega
      rcases h with hm | hg
      · exact Or.inl ((List.mem_cons.1 hm).resolve_left hj)
      · exact Or.inr ((s.get_put_off 3 hoff).trans hg)

theorem Pkg.zeroiseSlots_same {α : Type} (π : Pkg → α) (hπ : ∀ (s : Pkg) (f : Fld), π (s.put 15 f 3) = π s) (s : Pkg) (l : List Nat) :
    π (s.zeroiseSlots l) = π s := Pkg.foldl_same π (fun s _ => hπ s _) l s

theorem Touches.zeroiseSlots {p q : Pkg} {W C : List Nat} (h : Touches p q W C) {l : List Nat} (hm : ∀ k ∈ l, pkgAddr 15 (slotOff k) ∈ W) :
    Touches p (q.zeroiseSlots l) W C := h.foldl fun _ k hk h' => h'.put (hm k hk)

/-- The slots that hold something. -/
def Pkg.usedSlots (s : Pkg) : List Nat := (List.range 4096).filter (fun k => s.rd 15 (slotOff k) != 0)

theorem Pkg.mem_usedSlots {s : Pkg} {k : Nat} : k ∈ s.usedSlots ↔ k < 4096 ∧ s.rd 15 (slotOff k) ≠ 0 := by
  rw [Pkg.usedSlots, List.mem_filter, List.mem_range, bne_iff_ne]

/-- The line is raised, the root locked, ZEROISED set (R285). -/
def Pkg.lineRaised (s : Pkg) : Pkg := ((s.raise 15 fTpLine).raise 15 fRootLocked).raise 15 fKyZeroised

/-- The slots and the keys are gone. -/
def Pkg.keysGone (s : Pkg) : Pkg := ((s.zeroiseSlots s.usedSlots).put 15 fSlotsUsed 4096).onVault (fun v => { v with keys := [], ctx4 := [] })

/-- The buffers of the vault are cleared (R286). -/
def Pkg.buffersCleared (s : Pkg) : Pkg :=
  (((s.clearWords 15 oKyIn (oKyIn + 0x2000)).clearWords 15 oKyAttest (oKyAttest + 0x2000)).clearWords 15 oKyOut (oKyOut + 0x100)).clearWords 15 oKyNonce
    (oKyNonce + 16)

section
variable {s : Pkg}

theorem Pkg.buffersCleared_vault (s : Pkg) : s.buffersCleared.vault = s.vault := (rfl)
theorem Pkg.buffersCleared_mode (s : Pkg) : s.buffersCleared.mode = s.mode := (rfl)
theorem Pkg.onVault_vault (s : Pkg) (f : VaultSt → VaultSt) : (s.onVault f).vault = f s.vault := (rfl)
theorem Pkg.onVault_mode (s : Pkg) (f : VaultSt → VaultSt) : (s.onVault f).mode = s.mode := (rfl)
theorem Pkg.onVault_get (s : Pkg) (f : VaultSt → VaultSt) (d : Nat) (g : Fld) : (s.onVault f).get d g = s.get d g := (rfl)
theorem Touches.onVault {p q : Pkg} {W C : List Nat} (h : Touches p q W C) (f : VaultSt → VaultSt) : Touches p (q.onVault f) W C := h.same rfl rfl rfl rfl

theorem Pkg.keysGone_vault (s : Pkg) : s.keysGone.vault = { s.vault with keys := [], ctx4 := [] } := by
  rw [Pkg.keysGone, Pkg.onVault_vault, Pkg.put_vault, Pkg.zeroiseSlots_same (·.vault) (fun s f => s.put_vault 15 f 3)]
theorem Pkg.keysGone_mode (s : Pkg) : s.keysGone.mode = s.mode := by
  rw [Pkg.keysGone, Pkg.onVault_mode, Pkg.put_mode, Pkg.zeroiseSlots_same (·.mode) (fun s f => s.put_mode 15 f 3)]
theorem Pkg.lineRaised_vault (s : Pkg) : s.lineRaised.vault = s.vault := by simp [Pkg.lineRaised]
theorem Pkg.lineRaised_mode (s : Pkg) : s.lineRaised.mode = s.mode := by simp [Pkg.lineRaised]

/-- With no command running, zeroisation is these three. -/
theorem Pkg.zeroiseVault_eq (h : s.vault.run = none) : s.zeroiseVault = s.lineRaised.keysGone.buffersCleared := by
  have hrun : s.lineRaised.keysGone.buffersCleared.vault.run = none := by
    rw [Pkg.buffersCleared_vault, Pkg.keysGone_vault, Pkg.lineRaised_vault]; exact h
  unfold Pkg.buffersCleared Pkg.keysGone Pkg.zeroiseSlots Pkg.usedSlots Pkg.lineRaised at hrun ⊢
  simp only [Pkg.zeroiseVault, hrun, Option.isSome_none, Bool.false_eq_true, if_false]

theorem Pkg.keysGone_touches (s : Pkg) : Touches s s.keysGone (sentinelWords zeroisedOffs) [] := by
  have hslots : ∀ k ∈ s.usedSlots, pkgAddr 15 (slotOff k) ∈ sentinelWords zeroisedOffs := fun k hk =>
    mem_sentinelWords.2 (mem_zeroisedOffs.2 (Or.inr (Or.inl ⟨k, (Pkg.mem_usedSlots.1 hk).1, rfl⟩)))
  have hcount : pkgAddr 15 fSlotsUsed.off ∈ sentinelWords zeroisedOffs := mem_sentinelWords.2 (mem_zeroisedOffs.2 (Or.inl rfl))
  exact (((Touches.refl _ _ _).zeroiseSlots hslots).put hcount).onVault _

theorem Touches.buffersCleared {p q : Pkg} {C : List Nat} (h : Touches p q (sentinelWords zeroisedOffs) C) :
    Touches p q.buffersCleared (sentinelWords zeroisedOffs) C := by
  refine (((h.clearWords fun i hi => ?_).clearWords fun i hi => ?_).clearWords fun i hi => ?_).clearWords fun i hi => ?_ <;>
    rw [mem_sentinelWords, mem_zeroisedOffs]
  · exact Or.inr (Or.inr (Or.inl ⟨i, hi, rfl⟩))
  · exact Or.inr (Or.inr (Or.inr (Or.inl ⟨i, hi, rfl⟩)))
  · exact Or.inr (Or.inr (Or.inr (Or.inr (Or.inl ⟨i, hi, rfl⟩))))
  · exact Or.inr (Or.inr (Or.inr (Or.inr (Or.inr ⟨i, hi, rfl⟩))))

/-- The buffers hold no slot. -/
theorem Pkg.buffersCleared_slot (s : Pkg) {k : Nat} (hk : k < 4096) : s.buffersCleared.get 15 (fSlState k) = s.get 15 (fSlState k) := by
  refine congrArg (fieldGet · 17 16) (?_ : s.buffersCleared.rd 15 (slotOff k) = s.rd 15 (slotOff k))
  unfold Pkg.buffersCleared
  rw [Pkg.rd_clearWords, Pkg.rd_clearWords, Pkg.rd_clearWords, Pkg.rd_clearWords] <;>
    simp only [pkgAddr, slotOff, oKyIn, oKyAttest, oKyOut, oKyNonce] <;> omega

theorem Pkg.zeroiseVault_touches (h : s.vault.run = none) :
    Touches s s.zeroiseVault (sentinelWords (0x50000 :: 0x70000 :: zeroisedOffs)) [] := by
  rw [Pkg.zeroiseVault_eq h]
  have hline : Touches s s.lineRaised (sentinelWords (0x50000 :: 0x70000 :: zeroisedOffs)) [] :=
    (((Touches.refl _ _ _).raise (mem_sentinelWords.2 (by simp [fTpLine]))).raise (mem_sentinelWords.2 (by simp [fRootLocked]))).raise
      (mem_sentinelWords.2 (by simp [fKyZeroised, zeroisedOffs]))
  refine hline.trans ((s.lineRaised.keysGone_touches.buffersCleared).mono ?_ (by simp))
  exact List.map_subset _ fun x hx => List.mem_cons_of_mem _ (List.mem_cons_of_mem _ hx)

/-- The flags of the line and of the root stand at the end as they were raised. -/
theorem Pkg.zeroiseVault_on (h : s.vault.run = none) {f : Fld} (hf : f.off < 0x10000 ∨ 0x20000 ≤ f.off) :
    s.zeroiseVault.on 15 f = s.lineRaised.on 15 f := by
  have hnot : pkgAddr 15 f.off ∉ sentinelWords zeroisedOffs := fun hm => notMem_zeroisedOffs hf (mem_sentinelWords.1 hm)
  rw [Pkg.zeroiseVault_eq h, Pkg.on, Pkg.get, s.lineRaised.keysGone_touches.buffersCleared.words 15 f.off hnot]; rfl

theorem Pkg.zeroiseVault_slots (h : s.vault.run = none) {k : Nat} (hk : k < 4096) (hu : s.rd 15 (slotOff k) ≠ 0) :
    s.zeroiseVault.get 15 (fSlState k) = 3 := by
  have hline : s.lineRaised.rd 15 (slotOff k) = s.rd 15 (slotOff k) := by
    have hoff : slotOff k ≠ 0x50000 ∧ slotOff k ≠ 0x70000 ∧ slotOff k ≠ 0x10000 := by unfold slotOff; omega
    obtain ⟨hline, hroot, hky⟩ := hoff
    rw [Pkg.lineRaised, Pkg.raise_rd, Pkg.rd_put_off _ _ hky, Pkg.raise_rd, Pkg.rd_put_off _ _ hroot, Pkg.raise_rd, Pkg.rd_put_off _ _ hline]
  have hused : k ∈ s.lineRaised.usedSlots := Pkg.mem_usedSlots.2 ⟨hk, by rwa [hline]⟩
  have hcount : (fSlState k).off ≠ fSlotsUsed.off := by simp only [fSlState, fSlotsUsed, slotOff]; omega
  rw [Pkg.zeroiseVault_eq h, Pkg.buffersCleared_slot _ hk, Pkg.keysGone, Pkg.onVault_get, Pkg.get_put_off _ _ hcount]
  exact s.lineRaised.zeroiseSlots_state (Or.inl hused)

theorem Pkg.zeroiseVault_keys (h : s.vault.run = none) : s.zeroiseVault.vault.keys = [] := by
  rw [Pkg.zeroiseVault_eq h, Pkg.buffersCleared_vault, Pkg.keysGone_vault]

theorem Pkg.zeroiseVault_mode (h : s.vault.run = none) : s.zeroiseVault.mode = s.mode := by
  rw [Pkg.zeroiseVault_eq h, Pkg.buffersCleared_mode, Pkg.keysGone_mode, Pkg.lineRaised_mode]

theorem Pkg.lineRaised_on (s : Pkg) : s.lineRaised.on 15 fTpLine = true ∧ s.lineRaised.on 15 fRootLocked = true := by
  rw [Pkg.lineRaised, Pkg.raise_on, Pkg.raise_on, Pkg.on_put_apart _ _ (by decide), Pkg.on_put_apart _ _ (by decide), Pkg.raise_on,
    Pkg.on_put_apart _ _ (by decide)]
  exact ⟨Pkg.on_raise_same _ _ _ (by decide) (by decide), Pkg.on_raise_same _ _ _ (by decide) (by decide)⟩

end

/-! ### QUARANTINE (R295, R306) -/

section
variable {s : Pkg}

theorem Touches.onMode {p q : Pkg} {W C : List Nat} (h : Touches p q W C) (f : ModeSt → ModeSt) : Touches p (q.onMode f) W C := h.same rfl rfl rfl rfl

theorem Pkg.enterQuarantine_spec (s : Pkg) : s.enterQuarantine.modeNow = mQuarantine ∧ s.enterQuarantine.get 15 fReason = 6 ∧
    s.enterQuarantine.vault = s.vault ∧
    Touches s s.enterQuarantine (sentinelWords [0x60000]) (sentinelWords [oLastChange, oTransitions]) := by
  rw [Pkg.enterQuarantine]
  refine ⟨Pkg.setMode_modeNow _ _ _ (by decide), Pkg.setMode_reason _ _ _ (by decide), ?_, ?_⟩
  · rw [Pkg.setMode_vault, Pkg.onMode_vault]
  · exact ((Touches.refl s _ _).onMode _).setMode (by simp) (by simp) (by simp)

/-- In a run mode a tamper event takes the package into QUARANTINE. -/
theorem Pkg.tamperMode_run (hl : s.life ≠ lScrapped) (hm : runMode s.modeNow = true) : s.tamperMode = s.enterQuarantine := by
  have hcases : s.modeNow = 5 ∨ s.modeNow = 6 ∨ s.modeNow = 7 := by
    simpa only [runMode, Bool.or_eq_true, beq_iff_eq, or_assoc] using hm
  unfold Pkg.tamperMode
  rcases hcases with h | h | h <;>
    simp [h, hl, mQuarantine, parkedMode, mWaking, mBoot, mActivating]

theorem Pkg.life_of_mode {p : Pkg} (h : p.mode = s.mode) : p.life = s.life := by unfold Pkg.life; rw [h]

end

/-! ### TAMPER_EVENT -/

section
variable {s : Pkg} {source at_ : Nat}

/-- A source that is enabled latches; but for BLANK the vault is zeroised and the mode answers. -/
theorem tamperEvent_eq (hs : source < 8) (hb : s.power.bat ≠ 0) (he : 4 ≤ source ∨ s.on 15 ⟨0x50010 + 4 * source, 0, 0⟩ = true) :
    tamperEvent source at_ s =
      let l := (s.reach at_).tamperLatched source
      if l.life = lBlank then l else (if l.on 15 fTpLine then l else l.zeroiseVault).tamperMode := by
  have hguard : (decide (source < 8) && s.power.bat != 0 && (decide (4 ≤ source) || s.on 15 ⟨0x50010 + 4 * source, 0, 0⟩)) = true := by
    simp [hs, hb, he]
  rw [tamperEvent, Pkg.when_pos _ _ hguard]
  rfl

/-- In BLANK the latch is all there is. -/
theorem tamperEvent_blank (hs : source < 8) (hb : s.power.bat ≠ 0) (he : 4 ≤ source ∨ s.on 15 ⟨0x50010 + 4 * source, 0, 0⟩ = true)
    (hc : s.cnt 15 0x50028 ≠ BitVec.allOnes 64) (hl : s.life = lBlank) : tamperEvent source at_ s = (s.reach at_).tamperLatched source := by
  obtain ⟨_, _, _, _, hmode, _⟩ := Pkg.tamperLatched_spec (s := s.reach at_) hs hc
  rw [tamperEvent_eq hs hb he]
  exact if_pos ((Pkg.life_of_mode (s := s) hmode).trans hl)

/-- In a run mode, with the line down, the vault is zeroised and the package enters QUARANTINE. -/
theorem tamperEvent_run (hs : source < 8) (hb : s.power.bat ≠ 0) (he : 4 ≤ source ∨ s.on 15 ⟨0x50010 + 4 * source, 0, 0⟩ = true)
    (hc : s.cnt 15 0x50028 ≠ BitVec.allOnes 64) (hblank : s.life ≠ lBlank) (hscrap : s.life ≠ lScrapped) (hm : runMode s.modeNow = true)
    (hline : s.on 15 fTpLine = false) (hrun : s.vault.run = none) :
    tamperEvent source at_ s = ((s.reach at_).tamperLatched source).zeroiseVault.enterQuarantine := by
  obtain ⟨_, _, hlatchLine, _, hmode, hvault, htouch⟩ := Pkg.tamperLatched_spec (s := s.reach at_) hs hc
  generalize hlatched : (s.reach at_).tamperLatched source = l at hlatchLine hmode hvault htouch
  have hrun' : l.vault.run = none := by rw [hvault]; exact hrun
  have hnow : l.zeroiseVault.modeNow = s.modeNow := by
    have hz := (Pkg.zeroiseVault_touches hrun').words 15 0x60000 fun h =>
      absurd (mem_sentinelWords.1 h) (by simp [notMem_zeroisedOffs (o := 0x60000) (by decide)])
    have hlat := htouch.words 15 0x60000 (by simp [pkgAddr])
    exact congrArg (fieldGet · 3 0) (hz.trans hlat)
  have hlife : l.life = s.life := Pkg.life_of_mode (s := s) hmode
  have hlifeZ : l.zeroiseVault.life = s.life := (Pkg.life_of_mode (Pkg.zeroiseVault_mode hrun')).trans hlife
  rw [tamperEvent_eq hs hb he, hlatched]
  dsimp only
  have hlineL : l.on 15 fTpLine = false := hlatchLine.trans hline
  rw [hlife, if_neg hblank, hlineL, if_neg Bool.false_ne_true]
  exact Pkg.tamperMode_run (by rw [hlifeZ]; exact hscrap) (by rw [hnow]; exact hm)

end

/-! ### TAMPER_LEVEL (R33, R97, R285, R286) -/

section
variable {s : Pkg} {tile : Nat}

/-- Steps that all leave a state leave it. -/
theorem foldl_eq_self {α β : Type} {f : α → β → α} {a : α} {l : List β} (h : ∀ b ∈ l, f a b = a) : l.foldl f a = a := by
  induction l with
  | nil => rfl
  | cons b l ih => rw [List.foldl_cons, h b (by simp), ih fun c hc => h c (by simp [hc])]

/-- With no frame under way there is none to abort. -/
theorem Pkg.abortProtected_none (h : ∀ p < 16, (s.port tile p).tx = none) : s.abortProtected tile = s :=
  foldl_eq_self fun p hp => by rw [h p (List.mem_range.1 hp)]

/-- A tile without associations zeroises its caches and its flags alone; the trestle's flag is on tiles 0 and 1. -/
theorem Pkg.zeroiseTile_eq (h : s.validSas tile = []) : s.zeroiseTile tile =
    (((s.setMacCache tile []).setTrCache tile []).raise tile fMsZeroised).when (decide (tile ≤ 1)) (fun s => s.raise tile fTrZeroised) := by
  have hsas : ((((s.setMacCache tile []).setTrCache tile []).raise tile fMsZeroised).when (decide (tile ≤ 1))
      (fun s => s.raise tile fTrZeroised)).validSas tile = [] := by
    unfold Pkg.when
    split
    · rw [Pkg.validSas_raise _ _ (by decide), Pkg.validSas_raise _ _ (by decide)]; exact h
    · rw [Pkg.validSas_raise _ _ (by decide)]; exact h
  unfold Pkg.when at hsas ⊢
  simp only [decide_eq_true_eq] at hsas ⊢
  simp only [Pkg.zeroiseTile, hsas, List.foldl_nil]

/-- The words of a tile that the level may change. -/
abbrev levelWords (tile : Nat) : List Nat := [pkgAddr tile fMsZeroised.off, pkgAddr tile fTrZeroised.off, pkgAddr tile 0x400008]

theorem Pkg.zeroiseTile_spec (h : s.validSas tile = []) : (s.zeroiseTile tile).macCache tile = [] ∧ (s.zeroiseTile tile).trCache tile = [] ∧
    (s.zeroiseTile tile).on tile fMsZeroised = true ∧ (s.zeroiseTile tile).sw = s.sw ∧ Touches s (s.zeroiseTile tile) (levelWords tile) [] := by
  rw [Pkg.zeroiseTile_eq h]
  have hcaches : Touches s ((s.setMacCache tile []).setTrCache tile []) (levelWords tile) [] := (Touches.refl _ _ _).same rfl rfl rfl rfl
  generalize hc : (s.setMacCache tile []).setTrCache tile [] = c at hcaches
  have hmac : c.macCache tile = [] := by rw [← hc, Pkg.macCache, Pkg.setTrCache_macKeys, Pkg.setMacCache, SMap.get_set_same]
  have htr : c.trCache tile = [] := by rw [← hc, Pkg.trCache, Pkg.setTrCache, SMap.get_set_same]
  have hsw : c.sw = s.sw := by rw [← hc]; rfl
  have hon : (c.raise tile fMsZeroised).on tile fMsZeroised = true := Pkg.on_raise_same _ _ _ (by decide) (by decide)
  have hraise : Touches s (c.raise tile fMsZeroised) (levelWords tile) [] := hcaches.raise (by simp)
  unfold Pkg.when
  split
  · exact ⟨hmac, htr, by rw [Pkg.raise_on, Pkg.on_put_apart _ _ (by decide)]; exact hon, hsw, hraise.raise (by simp)⟩
  · exact ⟨hmac, htr, hon, hsw, hraise⟩

/-- A tile that sees the level, without associations and without frames under way. -/
theorem tamperLevel_spec (at_ : Nat) (ho : s.tileOn tile = true) (hl : s.on 15 fTpLine = true) (hsas : s.validSas tile = [])
    (htx : ∀ p < 16, (s.port tile p).tx = none) :
    (tamperLevel tile at_ s).macCache tile = [] ∧ (tamperLevel tile at_ s).trCache tile = [] ∧ (tamperLevel tile at_ s).on tile fMsZeroised = true ∧
    (tamperLevel tile at_ s).on tile ⟨0x400008, 4, 4⟩ = true ∧ Touches s (tamperLevel tile at_ s) (levelWords tile) [] := by
  obtain ⟨hmac, htr, hon, hsw, htouch⟩ := Pkg.zeroiseTile_spec (s := s.reach at_) (tile := tile) hsas
  have htx' : ∀ p < 16, (((s.reach at_).zeroiseTile tile).port tile p).tx = none := fun p hp => by
    rw [Pkg.port, hsw]; exact htx p hp
  rw [tamperLevel, Pkg.when_pos _ _ (by rw [ho, hl]; rfl), Pkg.abortProtected_none htx']
  refine ⟨hmac, htr, ?_, Pkg.on_raise_same _ _ _ (by decide) (by decide), (Touches.refl _ _ _).reach.trans htouch |>.raise (by simp)⟩
  rw [Pkg.raise_on, Pkg.on_put_apart _ _ (by decide)]; exact hon

end

/-! ### The commands -/

section
variable {s : State} {source at_ : Nat}

theorem runs_tamperEvent_blank (hs : source < 8) (hb : s.pkg.power.bat ≠ 0) (he : 4 ≤ source ∨ s.pkg.on 15 ⟨0x50010 + 4 * source, 0, 0⟩ = true)
    (hc : s.pkg.cnt 15 0x50028 ≠ BitVec.allOnes 64) (hl : s.pkg.life = lBlank) : Runs (.tamperEvent source at_) s (fun t =>
      t.pkg.on 15 ⟨0x50004, source, source⟩ = true ∧ t.pkg.on 15 ⟨0x50000, source + 1, source + 1⟩ = true ∧
      t.pkg.cnt 15 0x50028 = s.pkg.cnt 15 0x50028 + 1 ∧
      Frame s t [pkgAddr 15 0x50000, pkgAddr 15 0x50004] [pkgAddr 15 0x50008, pkgAddr 15 0x50028]) := by
  obtain ⟨hlatch, hstatus, _, hcnt, _, _, htouch⟩ := Pkg.tamperLatched_spec (s := s.pkg.reach at_) hs hc
  have hp := tamperEvent_blank (at_ := at_) hs hb he hc hl
  refine runs_onPkg rfl ⟨?_, ?_, ?_, Touches.frame ?_⟩
  · rw [State.finish_pkg_on, State.map_pkg, hp]; exact hlatch
  · rw [State.finish_pkg_on, State.map_pkg, hp]; exact hstatus
  · rw [State.finish_pkg_cnt, State.map_pkg, hp]; exact hcnt
  · rw [hp]; exact (Touches.refl _ _ _).reach.trans htouch

/-- The words and counters of the sentinel that a tamper event in a run mode may change. -/
abbrev tamperOffs : List Nat := [0x50000, 0x50004, 0x70000, 0x10000, 0x60000] ++ (List.range 4096).map slotOff ++ (List.range 0x2000).map (oKyIn + ·) ++
  (List.range 0x2000).map (oKyAttest + ·) ++ (List.range 0x100).map (oKyOut + ·) ++ (List.range 16).map (oKyNonce + ·)

theorem mem_tamperOffs {o : Nat} : o ∈ tamperOffs ↔ o = 0x50000 ∨ o = 0x50004 ∨ o = 0x70000 ∨ o = 0x60000 ∨ o ∈ zeroisedOffs := by
  simp only [mem_zeroisedOffs, List.mem_append, List.mem_cons, List.mem_map, List.mem_range, List.not_mem_nil, or_false, or_assoc]
  rw [or_left_comm (a := o = 0x10000)]

theorem latchOffs_sub : [0x50000, 0x50004] ⊆ tamperOffs := by
  intro o ho
  rcases List.mem_cons.1 ho with h | h
  · exact mem_tamperOffs.2 (Or.inl h)
  · exact mem_tamperOffs.2 (Or.inr (Or.inl (List.mem_singleton.1 h)))

theorem zeroisedOffs_sub : 0x50000 :: 0x70000 :: zeroisedOffs ⊆ tamperOffs := by
  intro o ho
  rcases List.mem_cons.1 ho with h | h
  · exact mem_tamperOffs.2 (Or.inl h)
  · rcases List.mem_cons.1 h with h | h
    · exact mem_tamperOffs.2 (Or.inr (Or.inr (Or.inl h)))
    · exact mem_tamperOffs.2 (Or.inr (Or.inr (Or.inr (Or.inr h))))

theorem modeOffs_sub : [0x60000] ⊆ tamperOffs := fun _ ho =>
  mem_tamperOffs.2 (Or.inr (Or.inr (Or.inr (Or.inl (List.mem_singleton.1 ho)))))

theorem runs_tamperEvent_run (hs : source < 8) (hb : s.pkg.power.bat ≠ 0) (he : 4 ≤ source ∨ s.pkg.on 15 ⟨0x50010 + 4 * source, 0, 0⟩ = true)
    (hc : s.pkg.cnt 15 0x50028 ≠ BitVec.allOnes 64) (hblank : s.pkg.life ≠ lBlank) (hscrap : s.pkg.life ≠ lScrapped)
    (hm : runMode s.pkg.modeNow = true) (hline : s.pkg.on 15 fTpLine = false) (hrun : s.pkg.vault.run = none) :
    Runs (.tamperEvent source at_) s (fun t =>
      t.pkg.on 15 ⟨0x50004, source, source⟩ = true ∧ t.pkg.on 15 fTpLine = true ∧ t.pkg.on 15 fRootLocked = true ∧ t.pkg.vault.keys = [] ∧
      (∀ k < 4096, s.pkg.rd 15 (slotOff k) ≠ 0 → t.pkg.get 15 (fSlState k) = 3) ∧ t.pkg.modeNow = mQuarantine ∧ t.pkg.get 15 fReason = 6 ∧
      Frame s t (sentinelWords tamperOffs) (sentinelWords [0x50008, 0x50028, oLastChange, oTransitions])) := by
  obtain ⟨hlatch, _, _, _, _, hvault, htouchL⟩ := Pkg.tamperLatched_spec (s := s.pkg.reach at_) hs hc
  have hp := tamperEvent_run (at_ := at_) hs hb he hc hblank hscrap hm hline hrun
  generalize (s.pkg.reach at_).tamperLatched source = l at hlatch hvault htouchL hp
  have hrunL : l.vault.run = none := by rw [hvault]; exact hrun
  obtain ⟨hnow, hreason, hvaultQ, htouchQ⟩ := l.zeroiseVault.enterQuarantine_spec
  have hkept : ∀ o, o ≠ 0x60000 → l.zeroiseVault.enterQuarantine.rd 15 o = l.zeroiseVault.rd 15 o := fun o ho =>
    htouchQ.words 15 o fun h => ho (List.mem_singleton.1 (mem_sentinelWords.1 h))
  have hget : ∀ f : Fld, f.off ≠ 0x60000 → l.zeroiseVault.enterQuarantine.get 15 f = l.zeroiseVault.get 15 f := fun f hf => by
    rw [Pkg.get, hkept _ hf]; rfl
  have hon : ∀ f : Fld, f.off ≠ 0x60000 → l.zeroiseVault.enterQuarantine.on 15 f = l.zeroiseVault.on 15 f := fun f hf => by
    rw [Pkg.on, hget _ hf]; rfl
  obtain ⟨hlineUp, hroot⟩ := l.lineRaised_on
  refine runs_onPkg rfl ⟨?_, ?_, ?_, ?_, fun k hk hu => ?_, ?_, ?_, Touches.frame ?_⟩
  · have hz : l.zeroiseVault.rd 15 0x50004 = l.rd 15 0x50004 := (Pkg.zeroiseVault_touches hrunL).words 15 0x50004 fun h =>
      absurd (mem_sentinelWords.1 h) (by simp [notMem_zeroisedOffs (o := 0x50004) (by decide)])
    rw [State.finish_pkg_on, State.map_pkg, hp, hon _ (by simp), Pkg.on, Pkg.get, hz]; exact hlatch
  · rw [State.finish_pkg_on, State.map_pkg, hp, hon _ (by decide), Pkg.zeroiseVault_on hrunL (by decide)]; exact hlineUp
  · rw [State.finish_pkg_on, State.map_pkg, hp, hon _ (by decide), Pkg.zeroiseVault_on hrunL (by decide)]; exact hroot
  · rw [State.finish_pkg_vault, State.map_pkg, hp, hvaultQ]; exact Pkg.zeroiseVault_keys hrunL
  · have hoff : slotOff k ≠ 0x60000 ∧ slotOff k ≠ 0x50000 ∧ slotOff k ≠ 0x50004 := by unfold slotOff; omega
    obtain ⟨hquar, hstatus, hsource⟩ := hoff
    have hused : l.rd 15 (slotOff k) = s.pkg.rd 15 (slotOff k) := htouchL.words 15 (slotOff k) fun h =>
      absurd (mem_sentinelWords (l := [0x50000, 0x50004]) |>.1 h) (by simp [hstatus, hsource])
    rw [State.finish_pkg_get, State.map_pkg, hp, hget _ hquar]
    exact Pkg.zeroiseVault_slots hrunL hk (by rwa [hused])
  · rw [Pkg.modeNow, State.finish_pkg_get, State.map_pkg, hp]; exact hnow
  · rw [State.finish_pkg_get, State.map_pkg, hp]; exact hreason
  · rw [hp]
    exact (((Touches.refl _ _ _).reach.trans (htouchL.mono (List.map_subset _ latchOffs_sub) (by simp))).trans
      ((Pkg.zeroiseVault_touches hrunL).mono (List.map_subset _ zeroisedOffs_sub) (by simp))).trans
      (htouchQ.mono (List.map_subset _ modeOffs_sub) (by simp))

theorem runs_tamperLevel {tile : Nat} (ho : s.pkg.tileOn tile = true) (hl : s.pkg.on 15 fTpLine = true) (hsas : s.pkg.validSas tile = [])
    (htx : ∀ p < 16, (s.pkg.port tile p).tx = none) : Runs (.tamperLevel tile at_) s (fun t =>
      t.pkg.macCache tile = [] ∧ t.pkg.trCache tile = [] ∧ t.pkg.on tile fMsZeroised = true ∧ t.pkg.on tile ⟨0x400008, 4, 4⟩ = true ∧
      Frame s t (levelWords tile) []) := by
  obtain ⟨hmac, htr, hzeroised, hforced, htouch⟩ := tamperLevel_spec at_ ho hl hsas htx
  refine runs_onPkg rfl ⟨?_, ?_, ?_, ?_, Touches.frame htouch⟩
  · rw [Pkg.macCache, State.finish_pkg_macKeys]; exact hmac
  · rw [Pkg.trCache, State.finish_pkg_trKeys]; exact htr
  · rw [State.finish_pkg_on]; exact hzeroised
  · rw [State.finish_pkg_on]; exact hforced

end

/-- Settles O41: in BLANK a source only latches; in a run mode the vault is zeroised and the package enters QUARANTINE; a tile that sees the level
empties its caches. -/
theorem tamperEffects : Obligations.TamperEffects := by
  refine ⟨fun source at_ s hs hb he hc => ⟨runs_tamperEvent_blank hs hb he hc, ?_⟩, fun tile at_ s ho hl hsas htx => runs_tamperLevel ho hl hsas htx⟩
  intro hblank hscrap hm hline hrun
  exact runs_tamperEvent_run hs hb he hc hblank hscrap hm hline hrun

end Sys2Proof.Machine
end

section
/-! PROOFS. Shadow copies and staged writes (R14, R17, R57, R58, R64): what O15, O6 and O59 ask. -/
namespace Sys2Proof.Machine

/-! ### Maps: whether a key is listed -/

section
variable {α : Type} (m : SMap α) {k : Nat}

theorem SMap.has_insertSorted_same (k : Nat) (v : α) : SMap.has (SMap.insertSorted k v m) k = true := by
  induction m with
  | nil => simp [SMap.insertSorted, SMap.has]
  | cons e m ih =>
    obtain ⟨j, w⟩ := e
    by_cases hj : k < j <;> simp [SMap.insertSorted, SMap.has, hj, ih]

theorem SMap.has_filter_of_pos (p : Nat → Bool) (h : p k = true) : SMap.has (m.filter (fun e => p e.1)) k = SMap.has m k := by
  induction m with
  | nil => rfl
  | cons e m ih =>
    obtain ⟨j, v⟩ := e
    by_cases hj : j = k
    · subst hj; simp [h, SMap.has]
    · cases hp : p j <;> simp [hp, SMap.has, hj, ih]

theorem SMap.has_eq_false (h : ∀ e ∈ m, e.1 ≠ k) : SMap.has m k = false := by
  induction m with
  | nil => rfl
  | cons e m ih =>
    have hm := ih fun e he => h e (List.mem_cons_of_mem _ he)
    have he : e.1 ≠ k := h e List.mem_cons_self
    simp [SMap.has, he, hm]

end

/-! ### Shadow copies (R58) -/

/-- A word with some of its bits taken from another one. -/
abbrev withBits (m old new : Word) : Word := (old &&& ~~~ m) ||| (new &&& m)

theorem withBits_self (m w : Word) : withBits m w w = w := by
  unfold withBits
  rw [← BitVec.and_or_distrib_left, BitVec.or_comm]
  simp [-BitVec.reduceAllOnes]

theorem withBits_idem (m old new : Word) : withBits m old (new &&& m) = withBits m old new := by
  rw [withBits, BitVec.and_assoc, BitVec.and_self]

theorem withBits_and (m old new : Word) : withBits m old new &&& m = new &&& m := by
  refine BitVec.eq_of_getLsbD_eq fun i hi => ?_
  simp only [BitVec.getLsbD_and, BitVec.getLsbD_or, BitVec.getLsbD_not, hi, decide_true, Bool.true_and]
  cases old.getLsbD i <;> cases new.getLsbD i <;> cases m.getLsbD i <;> rfl

@[simp] theorem Pkg.rdShadow_wrShadow_same (s : Pkg) (d o : Nat) (w : Word) : (s.wrShadow d o w).rdShadow d o = w := by
  simp only [Pkg.rdShadow, Pkg.wrShadow, SMap.has_insertSorted_same, if_true, SMap.get_insertSorted_same]

/-- The shadow copy of a word depends on the shadows and on the word in effect. -/
theorem Pkg.rdShadow_congr {p q : Pkg} {d o : Nat} (hs : q.shadow = p.shadow) (hr : q.rd d o = p.rd d o) : q.rdShadow d o = p.rdShadow d o := by
  unfold Pkg.rdShadow; rw [hs, hr]

/-! ### The shadow copies of a die take effect (R58) -/

/-- One written shadow word of a die takes effect in its keystone bits. -/
def Pkg.takeShadow (s : Pkg) (die : Nat) (e : Nat × Word) : Pkg :=
  s.wr die (addrOff e.1) (withBits (keystoneMask die (addrOff e.1)) (s.rd die (addrOff e.1)) e.2)

/-- The written shadow words of a die. -/
def Pkg.shadowsOf (s : Pkg) (die : Nat) : SMap Word := s.shadow.filter (fun e => addrDie e.1 == die)

theorem Pkg.takeShadows_eq (s : Pkg) (die : Nat) : s.takeShadows die =
    { (s.shadowsOf die).foldl (fun s e => s.takeShadow die e) s with shadow := s.shadow.filter (fun e => addrDie e.1 != die) } := by
  have hshadow := Pkg.foldl_same (·.shadow) (f := fun s e => s.takeShadow die e) (fun _ _ => rfl) (s.shadowsOf die) s
  rw [← hshadow]
  rfl

theorem pkgAddr_addr {a die : Nat} (ha : a < 2 ^ 30) (hd : addrDie a = die) : pkgAddr die (addrOff a) = a := by
  subst hd; unfold pkgAddr addrDie addrOff; omega

section
variable {die off : Nat} {l : SMap Word}

/-- A listed word of the die takes its shadow's keystone bits, every other word stays. -/
theorem Pkg.rd_foldl_takeShadow (s : Pkg) (hl : ∀ e ∈ l, e.1 < 2 ^ 30 ∧ addrDie e.1 = die) (hn : (l.map Prod.fst).Nodup) :
    (l.foldl (fun s e => s.takeShadow die e) s).rd die off =
      if SMap.has l (pkgAddr die off) then withBits (keystoneMask die off) (s.rd die off) (SMap.get 0 l (pkgAddr die off)) else s.rd die off := by
  induction l generalizing s with
  | nil => rfl
  | cons e l ih =>
    obtain ⟨a, w⟩ := e
    obtain ⟨ha, hd⟩ := hl _ List.mem_cons_self
    rw [List.map_cons, List.nodup_cons] at hn
    obtain ⟨hnot, hn⟩ := hn
    rw [List.foldl_cons, ih _ (fun e he => hl e (List.mem_cons_of_mem _ he)) hn]
    have haddr : pkgAddr die (addrOff a) = a := pkgAddr_addr ha hd
    by_cases ho : addrOff a = off
    · have hk : a = pkgAddr die off := by rw [← haddr, ho]
      have hrest : SMap.has l (pkgAddr die off) = false := SMap.has_eq_false l fun e he hek => hnot (List.mem_map.2 ⟨e, he, hek.trans hk.symm⟩)
      have hrd : (s.takeShadow die (a, w)).rd die off = withBits (keystoneMask die off) (s.rd die off) w := by
        rw [Pkg.takeShadow, ho]; exact s.rd_wr_same _ _ _
      rw [hrest, hrd]
      simp only [SMap.has, SMap.get, hk, beq_self_eq_true, Bool.true_or, Bool.false_eq_true, if_true, if_false]
    · have hk : a ≠ pkgAddr die off := fun h => ho (Nat.add_left_cancel (haddr.trans h))
      have hrd : (s.takeShadow die (a, w)).rd die off = s.rd die off := s.rd_wr_off _ (fun h => ho h.symm)
      simp only [hrd, SMap.has, SMap.get, hk, beq_eq_false_iff_ne.2 hk, Bool.false_or, if_false]

/-- No word of another die changes. -/
theorem Pkg.rd_foldl_takeShadow_ne (s : Pkg) {d o : Nat} (ho : o < 2 ^ 26) (hne : d ≠ die) :
    (l.foldl (fun s e => s.takeShadow die e) s).rd d o = s.rd d o := by
  refine Pkg.foldl_same (·.rd d o) (fun s e => s.rd_wr_ne _ (pkgAddr_die_ne ho ?_ hne)) l s
  exact Nat.mod_lt _ (by decide)

end

/-- Settles O15: each listed shadow word of the die is taken once, and leaves the map of shadows with its die. -/
theorem shadowsTakeEffect : Obligations.ShadowsTakeEffect := by
  intro p die off hdie hoff hnodup hrange
  have hmine : ∀ e ∈ p.shadowsOf die, e.1 < 2 ^ 30 ∧ addrDie e.1 = die := fun e he => by
    rw [Pkg.shadowsOf, List.mem_filter, beq_iff_eq] at he
    exact ⟨hrange e he.1, he.2⟩
  have hsub : ((p.shadowsOf die).map Prod.fst).Nodup := hnodup.sublist (List.filter_sublist.map _)
  have hkey : (addrDie (pkgAddr die off) == die) = true := by rw [addrDie_pkgAddr hdie hoff]; exact beq_self_eq_true _
  have hgone : SMap.has (p.shadow.filter (fun e => addrDie e.1 != die)) (pkgAddr die off) = false := SMap.has_eq_false _ fun e he hk => by
    rw [List.mem_filter, hk, addrDie_pkgAddr hdie hoff] at he
    simp at he
  rw [Pkg.takeShadows_eq]
  refine ⟨?_, ?_, fun d o hd ho hne => ⟨Pkg.rd_foldl_takeShadow_ne p ho hne, ?_⟩⟩
  · refine (Pkg.rd_foldl_takeShadow p hmine hsub).trans ?_
    rw [Pkg.shadowsOf, SMap.has_filter_of_pos p.shadow (fun a => addrDie a == die) hkey, SMap.get_filter_of_pos (fun a => addrDie a == die) p.shadow 0 hkey,
      Pkg.rdShadow]
    split
    · rfl
    · exact (withBits_self _ _).symm
  · simp only [Pkg.rdShadow, hgone, Bool.false_eq_true, if_false]
  · have hother : (addrDie (pkgAddr d o) != die) = true := by rw [addrDie_pkgAddr hd ho]; simpa using hne
    have hrd := Pkg.rd_foldl_takeShadow_ne (l := p.shadowsOf die) p ho hne
    simp only [Pkg.rdShadow, SMap.has_filter_of_pos p.shadow (fun a => addrDie a != die) hother,
      SMap.get_filter_of_pos (fun a => addrDie a != die) p.shadow 0 hother]
    split
    · rfl
    · exact hrd

/-! ### Keystone writes (R14, R64) -/

/-- A merge of all four bytes of a keystone write puts its keystone bits into the shadow. -/
theorem Pkg.toShadow_eq (s : Pkg) {die off : Nat} (hd : die < 16) (ho : off < 2 ^ 26) (v : Word) :
    s.toShadow { addr := pkgAddr die off, value := v, be := 15 } = s.wrShadow die off (withBits (keystoneMask die off) (s.rdShadow die off) v) := by
  simp only [Pkg.toShadow, addrDie_pkgAddr hd ho, addrOff_pkgAddr die ho, byteMerge_all]

section
variable {s : Pkg} {die off : Nat} (v : Word)

/-- While its tile stages, a keystone write joins the staged writes. -/
theorem Pkg.writeShadow_staged (hd : die ≠ 15) (h : s.staging die = true) : s.writeShadow die off v 15 = s.setKsT die
    { s.ksT die with staged := (s.ksT die).staged ++ [{ addr := pkgAddr die off, value := v &&& s.rkBits die off, be := 15 }] } := by
  simp only [Pkg.writeShadow, hd, h, ne_eq, not_false_eq_true, and_self, if_true]

/-- Else the shadow copy takes it; the sentinel stages nothing. -/
theorem Pkg.writeShadow_taken (hd : die < 16) (ho : off < 2 ^ 26) (h : die = 15 ∨ s.staging die = false) : s.writeShadow die off v 15 =
    s.wrShadow die off (withBits (keystoneMask die off) (s.rdShadow die off) (v &&& s.rkBits die off)) := by
  have hstage : ¬ (die ≠ 15 ∧ s.staging die = true) := fun hs => h.elim hs.1 (fun hf => by simp [hf] at hs)
  simp only [Pkg.writeShadow, if_neg hstage, Pkg.toShadow_eq s hd ho]

end

theorem Touches.wrShadow {p q : Pkg} {W C : List Nat} (h : Touches p q W C) {d o : Nat} {w : Word} : Touches p (q.wrShadow d o w) W C :=
  h.same rfl rfl rfl rfl
theorem Touches.setKsT {p q : Pkg} {W C : List Nat} (h : Touches p q W C) {t : Nat} {x : KsTile} : Touches p (q.setKsT t x) W C :=
  h.same rfl rfl rfl rfl

@[simp] theorem Pkg.ksT_setKsT_same (s : Pkg) (t : Nat) (x : KsTile) : (s.setKsT t x).ksT t = x := SMap.get_set_same _ _ _ _

/-- No word in effect and no counter takes a keystone write. -/
theorem writeShadow_touches (s : Pkg) (die off : Nat) (v : Word) (be : Nat) : Touches s (s.writeShadow die off v be) [] [] :=
  (Touches.refl _ _ _).setKsT.ite (Touches.refl _ _ _).wrShadow

/-! ### A write of a word with keystone bits (R14, R56, R57, R64) -/

/-- What a write in shape does to the word in effect: a barred write of cold bits is recorded, the word takes the rest. -/
def Pkg.wordTaken (s : Pkg) (r : Req) (die off : Nat) (v : Word) : Pkg :=
  (s.coldChecked r die off v).plainWrite die off (s.promptBits die off) (s.delayedBits die off) v

/-- A write in shape: the word in effect takes its part, then the keystone bits are written. -/
theorem Pkg.writeWord_takes {s : Pkg} {die off : Nat} {v : Word} (r : Req) (h : s.takes die off v = true) : s.writeWord r die off v 15 =
    if s.rkBits die off = 0 then s.wordTaken r die off v else (s.wordTaken r die off v).writeShadow die off v 15 := by
  have hshut : (if s.coldOpen then 0 else coldBits die off) = s.shutBits die off := rfl
  have hcheck : (if (s.rd die off ^^^ v) &&& s.shutBits die off = 0 then s else s.cfgErr r die cColdWindow (pkgAddr die off)) =
    s.coldChecked r die off v := rfl
  simp only [Pkg.takes, hshut] at h
  simp only [Pkg.writeWord, beMask_all, BitVec.allOnes_and, BitVec.and_allOnes, coldBits_and_writableBits, h, hshut, hcheck, Bool.not_true,
    Bool.false_eq_true, if_false, Pkg.coldChecked_modeNow]
  rw [Pkg.wordTaken, ← s.promptBits_eq, Pkg.plainWrite, Pkg.coldChecked_rd]
  rfl

/-- A word without bits that a write sets or clears in effect is left as it is. -/
theorem Pkg.wordTaken_self (s : Pkg) (r : Req) {die off : Nat} (v : Word) (hw : writableBits die off = 0) (h1 : w1sBits die off = 0)
    (hc : w1cBits die off = 0) : s.wordTaken r die off v = s := by
  have hcold : coldBits die off = 0 := by rw [← coldBits_and_writableBits, hw]; simp
  have hshut : s.shutBits die off = 0 := by simp [Pkg.shutBits, hcold]
  have hprompt : s.promptBits die off = 0 := by simp [Pkg.promptBits, hw]
  have hdelayed : s.delayedBits die off = 0 := by simp [Pkg.delayedBits, hcold]
  simp [Pkg.wordTaken, Pkg.coldChecked, hshut, hprompt, hdelayed, Pkg.plainWrite, Pkg.wrUnless, Pkg.writeCold, Pkg.writeClear, h1, hc]

/-! ### KEYSTONE_WRITE (R64) -/

theorem Pkg.remember_staging (s : Pkg) (r : Req) (d o : Nat) (v : Word) (t : Nat) : (s.remember r d o v).staging t = s.staging t := by
  simp only [Pkg.staging, Pkg.ksState, Pkg.remember_get, Pkg.remember_on]

theorem Pkg.remember_ksT (s : Pkg) (r : Req) (d o : Nat) (v : Word) (t : Nat) : (s.remember r d o v).ksT t = s.ksT t := by
  simp only [Pkg.ksT, Pkg.remember_ksTile]

theorem Pkg.remember_rdShadow (s : Pkg) (r : Req) (d o : Nat) (v : Word) (d' o' : Nat) : (s.remember r d o v).rdShadow d' o' = s.rdShadow d' o' :=
  Pkg.rdShadow_congr (Pkg.remember_shadow _ _ _ _ _) (Pkg.remember_rd _ _ _ _ _ _ _)

theorem State.finish_rdShadow (s : State) (d o : Nat) : s.finish.pkg.rdShadow d o = s.pkg.rdShadow d o :=
  Pkg.rdShadow_congr (State.finish_pkg_shadow s) (State.finish_pkg_rd s d o)

theorem State.finish_ksT (s : State) (t : Nat) : s.finish.pkg.ksT t = s.pkg.ksT t := by
  unfold Pkg.ksT; rw [State.finish_pkg_ksTile]

section
variable {a : Acc} {tile off : Nat} {v : Word} {s : State}

/-- KEYSTONE_WRITE of a word with keystone bits is the write of the word. -/
theorem exec_keystoneWrite_keys (h : s.pkg.reaches a.req tile off v) (hk : s.pkg.rkBits tile off ≠ 0) :
    exec (.keystoneWrite a (pkgAddr tile off) v 15) s = exec (.registerWrite a (pkgAddr tile off) v 15) s := by
  obtain ⟨_, hd, ho, h4, _⟩ := h
  have ho4 : off - off % 4 = off := by omega
  have hkey : s.pkg.isKeystone (addrDie (pkgAddr tile off)) (addrOff (pkgAddr tile off)) 15 = true := by
    rw [addrDie_pkgAddr hd ho, addrOff_pkgAddr tile ho, Pkg.isKeystone, ho4, be15_mask]
    exact bne_iff_ne.2 hk
  show Host.Outcome.next (State.finish (if s.pkg.isKeystone _ _ 15 = true then _ else s)) = _
  rw [if_pos hkey]
  rfl

/-- The effect of KEYSTONE_WRITE on a word whose software bits are all keystone bits. -/
theorem exec_keystoneWrite_eq (h : s.pkg.reaches a.req tile off v) (hp : plainWord tile off = true) (hk : s.pkg.rkBits tile off ≠ 0)
    (hw : writableBits tile off = 0) (h1 : w1sBits tile off = 0) (hc : w1cBits tile off = 0)
    (ht : ((s.pkg.reach a.at_).remember a.req tile off v).takes tile off v = true) :
    exec (.keystoneWrite a (pkgAddr tile off) v 15) s =
      .next (s.map (fun _ => ((s.pkg.reach a.at_).remember a.req tile off v).writeShadow tile off v 15)).finish := by
  have hk' : ((s.pkg.reach a.at_).remember a.req tile off v).rkBits tile off ≠ 0 := by rw [Pkg.remember_rkBits]; exact hk
  rw [exec_keystoneWrite_keys h hk, exec_registerWrite_plain h hp]
  simp only [State.map, Pkg.writeWord_takes a.req ht, if_neg hk', Pkg.wordTaken_self _ a.req v hw h1 hc]

end

/-- Settles O6: the word in effect has no bit for the write, so all it does is `writeShadow`: into the shadow copy, or onto the staged writes. -/
theorem keystoneWriteEffect : Obligations.KeystoneWriteEffect := by
  intro a tile off v s h htile hp hk hkeys hw h1 hc ht
  have hexec := exec_keystoneWrite_eq h hp hk hw h1 hc ht
  generalize hpkg : (s.pkg.reach a.at_).remember a.req tile off v = p at ht hexec
  have hrk : p.rkBits tile off = s.pkg.rkBits tile off := by rw [← hpkg, Pkg.remember_rkBits]; rfl
  have hstage : p.staging tile = s.pkg.staging tile := by rw [← hpkg, Pkg.remember_staging]; rfl
  have hframe : Frame s (s.map (fun _ => p.writeShadow tile off v 15)).finish [] [] :=
    frame_remember (r := a.req) (n := a.at_) (die := tile) (off := off) (v := v) (f := fun _ => p.writeShadow tile off v 15)
      (by rw [hpkg]; exact writeShadow_touches _ _ _ _ _)
  obtain ⟨_, hd, ho, _⟩ := h
  refine ⟨fun hs => ⟨_, hexec, ?_, hframe⟩, fun hs => ⟨_, hexec, ?_, hframe⟩⟩
  · have hshadow : p.rdShadow tile off = s.pkg.rdShadow tile off := by rw [← hpkg, Pkg.remember_rdShadow]; rfl
    rw [State.finish_rdShadow, State.map_pkg, Pkg.writeShadow_taken v hd ho (Or.inr (hstage.trans hs)), Pkg.rdShadow_wrShadow_same, hrk, hkeys, hshadow]
    exact withBits_idem _ _ _
  · have hksT : p.ksT tile = s.pkg.ksT tile := by rw [← hpkg, Pkg.remember_ksT]; rfl
    rw [State.finish_ksT, State.map_pkg, Pkg.writeShadow_staged v htile (hstage.trans hs), Pkg.ksT_setKsT_same, hrk, hksT]

/-! ### Words without keystone bits (Table 0-4) -/

theorem maskOf_eq_zero {p : Field → Bool} {fs : List Field} (h : ∀ f ∈ fs, p f = false) : maskOf p fs = 0 := by
  refine BitVec.eq_of_getLsbD_eq fun i _ => ?_
  rw [maskOf_bit, List.any_eq_false.2 fun f hf => by simp [h f hf]]
  simp

/-- The commit's own status word has no keystone bits. -/
theorem keystoneMask_ksStatus {die : Nat} (h : die ≠ 15) : keystoneMask die 0x200030 = 0 := by
  have hw : wordFields die 0x200030 = wordFields 0 0x200030 := by simp [wordFields, sentinelDie, h]
  rw [keystoneMask, hw]
  decide +kernel

/-- Every word of the tables below the end of the rule bank holds keystone fields alone. -/
theorem tableWords_ruleBank : ∀ r ∈ tableWords, r.off < 0x3100000 → ∀ f ∈ r.fields, f.acc = .rk := by decide +kernel

theorem RegRow.off_le_of_hits {r : RegRow} {off : Nat} (h : r.hits off = true) : r.off ≤ off := by
  unfold RegRow.hits at h
  split at h <;> simp at h <;> omega

/-- A word of the rule bank holds keystone fields alone. -/
theorem wordFields_ruleBank {die off : Nat} (hd : die ≠ 15) (hlo : 0x3000000 ≤ off) (hhi : off < 0x3100000) : ∀ f ∈ wordFields die off, f.acc = .rk := by
  have hblock : tileBlock off = some .table := by
    unfold tileBlock
    repeat rw [if_neg (by omega)]
  simp only [wordFields, sentinelDie, if_neg hd, hblock, Option.elim, tileRows]
  cases hr : tableWords.find? (fun r => r.hits off) with
  | none => simp
  | some r => exact tableWords_ruleBank r (List.mem_of_find?_eq_some hr) (Nat.lt_of_le_of_lt (RegRow.off_le_of_hits (List.find?_some (p := fun r : RegRow => r.hits off) hr)) hhi)

/-! ### What a write in shape leaves of the hidden state (R14, R64) -/

section
variable (s : Pkg) (r : Req) (die off : Nat) (v : Word)

/-- A write of a word touches the words, the waiting cold bits and the MSI-X logic alone. -/
theorem Pkg.plainWrite_same {α : Type} (π : Pkg → α) (hw : ∀ (s : Pkg) rs, π { s with regs := rs } = π s)
    (hc : ∀ (s : Pkg) x, π { s with coldNext := x } = π s) (hm : ∀ (s : Pkg) m, π { s with msix := m } = π s) (prompt delayed : Word) :
    π (s.plainWrite die off prompt delayed v) = π s := by
  have hunless : ∀ (s : Pkg) (c : Prop) [Decidable c] (w : Word), π (s.wrUnless c die off w) = π s := fun s c _ w => by
    obtain ⟨rs, h⟩ := s.wrUnless_eq c die off w; rw [h, hw]
  have hcold : ∀ s : Pkg, π (s.writeCold die off delayed v) = π s := fun s => by
    obtain ⟨x, h⟩ := s.writeCold_eq die off delayed v; rw [h, hc]
  have hclear : ∀ (s : Pkg) (m c : Word), π (s.writeClear die off m c) = π s := fun s m c => by
    obtain ⟨x, h⟩ := s.writeClear_eq die off m c; rw [h, hm, hunless]
  exact (hclear _ _ _).trans ((hunless _ _ _).trans ((hcold _).trans (hunless _ _ _)))

theorem Pkg.cfgErr_hiddenKept (code addr : Nat) : (s.cfgErr r die code addr).shadow = s.shadow ∧ (s.cfgErr r die code addr).ksTile = s.ksTile := by
  simp only [Pkg.cfgErr]; split <;> simp

theorem Pkg.coldChecked_hiddenKept : (s.coldChecked r die off v).shadow = s.shadow ∧ (s.coldChecked r die off v).ksTile = s.ksTile := by
  unfold Pkg.coldChecked; split
  · exact ⟨rfl, rfl⟩
  · exact s.cfgErr_hiddenKept r die _ _

@[simp] theorem Pkg.wordTaken_ksTile : (s.wordTaken r die off v).ksTile = s.ksTile :=
  (Pkg.plainWrite_same _ die off v (·.ksTile) (fun _ _ => rfl) (fun _ _ => rfl) (fun _ _ => rfl) _ _).trans (s.coldChecked_hiddenKept r die off v).2

end

/-! ### The first configuration error (Tables 2-2 and 2-4) -/

/-- VALID and the code of the configuration error record of a die. -/
abbrev fCfgErrValid (die : Nat) : Fld := ⟨cfgErrOff die, 31, 31⟩
abbrev fCfgErrCode (die : Nat) : Fld := ⟨cfgErrOff die, 3, 0⟩

/-- The first configuration error of a die is kept with its code. -/
theorem Pkg.cfgErr_first (s : Pkg) (r : Req) {die code : Nat} (addr : Nat) (hc : code < 16) (h : s.on die (fCfgErrValid die) = false) :
    (s.cfgErr r die code addr).get die (fCfgErrCode die) = code ∧ (s.cfgErr r die code addr).on die (fCfgErrValid die) = true := by
  have hv : (s.bump die (cfgErrCnt die)).on die (fCfgErrValid die) = false := h
  simp only [Pkg.cfgErr, hv, Bool.false_eq_true, if_false]
  constructor
  · rw [Pkg.raise_get, Pkg.get_put_apart _ _ (Or.inr (by simp)), Pkg.get_put_apart _ _ (Or.inl (by simp)), Pkg.get_put_apart _ _ (Or.inr (by simp)),
      Pkg.get_put_apart _ _ (Or.inr (by simp)), Pkg.get_put_same _ _ _ _ (by simp)]
    exact Nat.mod_eq_of_lt hc
  · exact Pkg.on_raise_same _ _ _ (by simp) (by simp)

/-! ### COLD_WINDOW and OUT_OF_SHAPE (R56, R57) -/

section
variable {s : Pkg} {die off : Nat} {v : Word} (r : Req)

/-- In its keystone bits a word is treated after its part in effect has taken the write as before. -/
theorem Pkg.wordTaken_rkBits : (s.wordTaken r die off v).rkBits die off = s.rkBits die off := by
  by_cases hbank : die ≠ 15 ∧ 0x3000000 ≤ off ∧ off < 0x3100000
  · obtain ⟨hd, hlo, hhi⟩ := hbank
    have hfields := wordFields_ruleBank hd hlo hhi
    rw [Pkg.wordTaken_self]
    · exact maskOf_eq_zero fun f hf => by simp [hfields f hf]
    · exact maskOf_eq_zero fun f hf => by simp [hfields f hf]
    · exact maskOf_eq_zero fun f hf => by simp [hfields f hf]
  · rw [Pkg.rkBits, if_neg hbank, Pkg.rkBits, if_neg hbank]

/-- A write that would change shut cold bits touches the record beside the word; any other the word alone (R57). -/
theorem wordTaken_touches : Touches s (s.wordTaken r die off v)
    (if (s.rd die off ^^^ v) &&& s.shutBits die off = 0 then [pkgAddr die off] else pkgAddr die off :: cfgErrWords die)
    (if (s.rd die off ^^^ v) &&& s.shutBits die off = 0 then [] else [pkgAddr die (cfgErrCnt die)]) := by
  have hword := plainWrite_touches (s.coldChecked r die off v) die off (s.promptBits die off) (s.delayedBits die off) v
  rw [Pkg.wordTaken]
  by_cases hc : (s.rd die off ^^^ v) &&& s.shutBits die off = 0
  · rw [if_pos hc, if_pos hc]
    rwa [Pkg.coldChecked, if_pos hc] at hword ⊢
  · rw [if_neg hc, if_neg hc]
    rw [Pkg.coldChecked, if_neg hc] at hword ⊢
    exact ((cfgErr_touches s r die _ _).mono (by simp) (by simp)).trans (hword.mono (by simp) (by simp))

/-- The commit's own status word is not the one written, where that holds keystone bits. -/
theorem Pkg.wordTaken_staging (hd : die < 15) (ho : off < 2 ^ 26) (hk : keystoneMask die off ≠ 0) :
    (s.wordTaken r die off v).staging die = s.staging die := by
  have hoff : off ≠ 0x200030 := by rintro rfl; exact hk (keystoneMask_ksStatus (by omega))
  have hrd : (s.wordTaken r die off v).rd die 0x200030 = s.rd die 0x200030 := by
    refine (wordTaken_touches r).words die 0x200030 ?_
    have h15 : die ≠ 15 := by omega
    split <;> simp [pkgAddr, cfgErrOff, h15, Ne.symm hoff]
  simp only [Pkg.staging, Pkg.ksState, Pkg.on, Pkg.get, fKsState, fBankSync, hrd]

/-- The word in effect after the write (R14, R16, R17). -/
theorem Pkg.wordTaken_rd : (s.wordTaken r die off v).rd die off =
    (((s.rd die off &&& ~~~ s.promptBits die off) ||| (v &&& s.promptBits die off)) ||| (w1sBits die off &&& v)) &&&
      ~~~ (w1cBits die off &&& v &&& ~~~ s.setNow die off) := by
  rw [Pkg.wordTaken, Pkg.plainWrite_rd, Pkg.coldChecked_rd, Pkg.coldChecked_setNow]

end

/-- A configuration error has been recorded on a die: counted, and kept with its code where it is the first. -/
def CfgErrRecorded (p q : Pkg) (die code : Nat) : Prop :=
  q.cnt die (cfgErrCnt die) = p.cnt die (cfgErrCnt die) + 1 ∧
  (p.on die (fCfgErrValid die) = false → q.get die (fCfgErrCode die) = code ∧ q.on die (fCfgErrValid die) = true)

theorem Pkg.cfgErr_recorded (s : Pkg) (r : Req) {die code : Nat} (addr : Nat) (hc : code < 16) : CfgErrRecorded s (s.cfgErr r die code addr) die code :=
  ⟨s.cfgErr_cnt r die code addr, s.cfgErr_first r addr hc⟩

/-- A record stands while its word and its counter do. -/
theorem CfgErrRecorded.of_kept {p q p' q' : Pkg} {die code : Nat} {W C : List Nat} (h : CfgErrRecorded p q die code) (hp : Touches p' p [] [])
    (hqw : WordsKept q q' W) (hqc : CountsKept q q' C) (hw : pkgAddr die (cfgErrOff die) ∉ W) (hc : pkgAddr die (cfgErrCnt die) ∉ C) :
    CfgErrRecorded p' q' die code := by
  have hpw : p.rd die (cfgErrOff die) = p'.rd die (cfgErrOff die) := hp.words _ _ (by simp)
  have hqw : q'.rd die (cfgErrOff die) = q.rd die (cfgErrOff die) := hqw _ _ hw
  simpa only [CfgErrRecorded, Pkg.on, Pkg.get, hpw, hqw, hqc _ _ hc, hp.counts _ _ (List.not_mem_nil)] using h

theorem CfgErrRecorded.finish {p : Pkg} {s : State} {die code : Nat} (h : CfgErrRecorded p s.pkg die code) : CfgErrRecorded p s.finish.pkg die code :=
  h.of_kept (Touches.refl _ _ _) (WordsKept.of_eq [] (State.finish_pkg_rd s)) (CountsKept.of_eq [] (State.finish_pkg_cnt s)) (by simp) (by simp)

/-- Nothing that a requester's home die remembers is a word or a counter. -/
theorem remember_touches (s : Pkg) (n : Nat) (r : Req) (d o : Nat) (v : Word) : Touches s ((s.reach n).remember r d o v) [] [] :=
  ⟨fun _ _ _ => by simp, fun _ _ _ => by simp, by simp, by simp⟩

/-- What a write in shape does to a package. -/
def Pkg.wholeTaken (s : Pkg) (r : Req) (die off : Nat) (v : Word) : Pkg :=
  if s.rkBits die off = 0 then s.wordTaken r die off v else (s.wordTaken r die off v).writeShadow die off v 15

section
variable {s : Pkg} {die off : Nat} {v : Word} (r : Req)

theorem wholeTaken_touches : Touches (s.wordTaken r die off v) (s.wholeTaken r die off v) [] [] :=
  (Touches.refl _ _ _).ite (writeShadow_touches _ _ _ _ _)

theorem Pkg.wholeTaken_rd (d o : Nat) : (s.wholeTaken r die off v).rd d o = (s.wordTaken r die off v).rd d o :=
  (wholeTaken_touches r).words d o (by simp)

/-- R64: where nothing stages, the shadow copy has taken the keystone bits. -/
theorem Pkg.wholeTaken_rdShadow (hd : die < 16) (ho : off < 2 ^ 26) (hk : s.rkBits die off = keystoneMask die off)
    (h : die = 15 ∨ s.staging die = false) :
    (s.wholeTaken r die off v).rdShadow die off &&& keystoneMask die off = v &&& keystoneMask die off := by
  by_cases h0 : keystoneMask die off = 0
  · rw [h0]; simp
  · have hstage : die = 15 ∨ (s.wordTaken r die off v).staging die = false :=
      (em (die = 15)).imp_right fun hne => by
        rw [Pkg.wordTaken_staging r (by omega) ho h0]; exact h.resolve_left hne
    rw [Pkg.wholeTaken, if_neg (by rwa [hk]), Pkg.writeShadow_taken v hd ho hstage, Pkg.rdShadow_wrShadow_same, Pkg.wordTaken_rkBits, hk, withBits_idem,
      withBits_and]

/-- R64: where the tile stages, the keystone bits join the staged writes. -/
theorem Pkg.wholeTaken_staged (hd : die < 15) (ho : off < 2 ^ 26) (hk : s.rkBits die off = keystoneMask die off) (h0 : keystoneMask die off ≠ 0)
    (h : s.staging die = true) : ((s.wholeTaken r die off v).ksT die).staged =
      (s.ksT die).staged ++ [{ addr := pkgAddr die off, value := v &&& keystoneMask die off, be := 15 }] := by
  have hstage : (s.wordTaken r die off v).staging die = true := by rw [Pkg.wordTaken_staging r hd ho h0]; exact h
  have hksT : (s.wordTaken r die off v).ksT die = s.ksT die := by unfold Pkg.ksT; rw [Pkg.wordTaken_ksTile]
  rw [Pkg.wholeTaken, if_neg (by rwa [hk]), Pkg.writeShadow_staged v (by omega) hstage, Pkg.ksT_setKsT_same, Pkg.wordTaken_rkBits, hk, hksT]

/-- R57: a write that would change shut cold bits is recorded as COLD_WINDOW. -/
theorem Pkg.wordTaken_recorded (hc : (s.rd die off ^^^ v) &&& s.shutBits die off ≠ 0) :
    CfgErrRecorded s (s.wordTaken r die off v) die cColdWindow := by
  have hword := plainWrite_touches (s.coldChecked r die off v) die off (s.promptBits die off) (s.delayedBits die off) v
  rw [Pkg.wordTaken]
  rw [Pkg.coldChecked, if_neg hc] at hword ⊢
  have hne : pkgAddr die off ∉ cfgErrWords die := notMem_cfgErrWords_of_cold (Pkg.shutBits_ne hc)
  refine (s.cfgErr_recorded r (pkgAddr die off) (by decide)).of_kept (Touches.refl _ _ _) hword.words hword.counts (fun h => hne ?_) (by simp)
  rw [← List.mem_singleton.1 h]; simp

end

section
variable {a : Acc} {die off : Nat} {v : Word} {s : State}

/-- Out of shape (R56): the record, and nothing of the hidden state. -/
theorem registerWrite_discarded (h : s.pkg.reaches a.req die off v) (hp : plainWord die off = true)
    (ht : ((s.pkg.reach a.at_).remember a.req die off v).takes die off v = false) :
    Runs (.registerWrite a (pkgAddr die off) v 15) s (fun t => CfgErrRecorded s.pkg t.pkg die cOutOfShape ∧ t.pkg.shadow = s.pkg.shadow ∧
      t.pkg.ksT die = s.pkg.ksT die ∧ Frame s t (cfgErrWords die) [pkgAddr die (cfgErrCnt die)]) := by
  have hexec := exec_registerWrite_plain h hp
  have hrem := remember_touches s.pkg a.at_ a.req die off v
  have hshadow : ((s.pkg.reach a.at_).remember a.req die off v).shadow = s.pkg.shadow := by simp
  have hksTile : ((s.pkg.reach a.at_).remember a.req die off v).ksTile = s.pkg.ksTile := by simp
  simp only [State.map, Pkg.writeWord_outOfShape a.req ht] at hexec
  generalize (s.pkg.reach a.at_).remember a.req die off v = p at hexec hrem hshadow hksTile
  have hrec := (p.cfgErr_recorded a.req (die := die) (pkgAddr die off) (by decide : cOutOfShape < 16)).of_kept (W := []) (C := []) hrem
    (WordsKept.refl _ _) (CountsKept.refl _ _) (by simp) (by simp)
  obtain ⟨hs, hk⟩ := p.cfgErr_hiddenKept a.req die cOutOfShape (pkgAddr die off)
  refine ⟨_, hexec, hrec.finish (s := { s with pkg := _ }), ?_, ?_,
    Touches.frame (f := fun _ => p.cfgErr a.req die cOutOfShape (pkgAddr die off)) ((hrem.mono (by simp) (by simp)).trans (cfgErr_touches _ _ _ _ _))⟩
  · rw [State.finish_pkg_shadow, ← hshadow]; exact hs
  · rw [State.finish_ksT, Pkg.ksT, Pkg.ksT, ← hksTile, ← hk]

/-- In shape (R56): the effect of a write of a word. -/
theorem exec_registerWrite_takes (h : s.pkg.reaches a.req die off v) (hp : plainWord die off = true)
    (ht : ((s.pkg.reach a.at_).remember a.req die off v).takes die off v = true) : exec (.registerWrite a (pkgAddr die off) v 15) s =
      .next (s.map (fun _ => ((s.pkg.reach a.at_).remember a.req die off v).wholeTaken a.req die off v)).finish := by
  rw [exec_registerWrite_plain h hp]
  simp only [State.map, Pkg.writeWord_takes a.req ht, Pkg.wholeTaken]

end

/-- Settles O59: outside BOOT and PROVISION the cold bits are shut and the others prompt. In shape, a write that would change a shut bit is recorded, the
word takes its prompt bits, and the keystone bits are written; out of shape the record is all there is. -/
theorem coldWindow : Obligations.ColdWindow := by
  intro a die off v s h hp hboot hprov hk old live keys err changes recorded
  refine ⟨fun ht => ?_, registerWrite_discarded h hp⟩
  have hexec := exec_registerWrite_takes h hp ht
  have hrem := remember_touches s.pkg a.at_ a.req die off v
  generalize hpkg : (s.pkg.reach a.at_).remember a.req die off v = p at hexec hrem
  have hrd : p.rd die off = old := by simp [← hpkg, old]
  have hrk : p.rkBits die off = keystoneMask die off := by rw [← hpkg, Pkg.remember_rkBits]; exact hk
  have hstage : p.staging die = s.pkg.staging die := by rw [← hpkg, Pkg.remember_staging]; rfl
  have hksT : p.ksT die = s.pkg.ksT die := by rw [← hpkg, Pkg.remember_ksT]; rfl
  have hset : p.setNow die off = (s.pkg.reach a.at_).setNow die off := by rw [← hpkg, Pkg.remember_setNow]
  have hmode : p.modeNow = s.pkg.modeNow := by rw [← hpkg, Pkg.remember_modeNow]; rfl
  have hprompt : p.promptBits die off = live := by rw [Pkg.promptBits, hmode, if_neg hboot]
  have hshut : p.shutBits die off = coldBits die off := by simp [Pkg.shutBits, Pkg.coldOpen, hmode, hboot, hprov]
  have hword := wordTaken_touches (s := p) (die := die) (off := off) (v := v) a.req
  have hwhole := wholeTaken_touches (s := p) (die := die) (off := off) (v := v) a.req
  obtain ⟨_, hd, ho, _⟩ := h
  refine ⟨_, hexec, ?_, fun hs => ?_, fun hd15 hs h0 => ?_, fun hc => ⟨?_, ?_⟩, fun hc => ?_⟩
  · rw [State.finish_pkg_rd, State.map_pkg, Pkg.wholeTaken_rd, Pkg.wordTaken_rd, hrd, hprompt, hset]
  · rw [State.finish_rdShadow, State.map_pkg]
    exact Pkg.wholeTaken_rdShadow a.req hd ho hrk (by rwa [hstage])
  · rw [State.finish_ksT, State.map_pkg, Pkg.wholeTaken_staged a.req (by omega) ho hrk h0 (hstage.trans hs), hksT]
  · have hrec := Pkg.wordTaken_recorded (s := p) (die := die) (off := off) (v := v) a.req (by rw [hrd, hshut]; exact hc)
    exact (hrec.of_kept hrem hwhole.words hwhole.counts (by simp) (by simp)).finish (s := s.map _)
  · rw [hrd, hshut, if_neg hc, if_neg hc] at hword
    exact Touches.frame (f := fun _ => p.wholeTaken a.req die off v)
      ((hrem.mono (by simp) (by simp)).trans (hword.trans (hwhole.mono (by simp) (by simp))))
  · rw [hrd, hshut, if_pos (not_not.1 hc), if_pos (not_not.1 hc)] at hword
    exact Touches.frame (f := fun _ => p.wholeTaken a.req die off v)
      ((hrem.mono (by simp) (by simp)).trans (hword.trans (hwhole.mono (by simp) (by simp))))

end Sys2Proof.Machine
end

section
/-! PROOFS. The end of a step of a keystone commit, where nothing waits for it (R64, R211, R295, R398). -/
namespace Sys2Proof.Machine

/-! ### What waits for a commit -/

/-- Nothing of what a step of a commit may set going has changed: what waits at the ports, for a fallback or in the trestle, and the powered tiles. -/
structure Undisturbed (p q : Pkg) : Prop where
  variant  : q.variant = p.variant
  portQ    : q.portQ = p.portQ
  boot     : q.boot = p.boot
  trestles : q.trestles = p.trestles
  tilesOn  : q.get 15 fTilesOn = p.get 15 fTilesOn

/-- The word of the mode and the commit's status word of a die. -/
abbrev oModeWord : Nat := 0x60000
abbrev oKsStatus : Nat := 0x200030

namespace Undisturbed
variable {p q r : Pkg}

theorem refl (p : Pkg) : Undisturbed p p := ⟨rfl, rfl, rfl, rfl, rfl⟩

theorem trans (h : Undisturbed p q) (h' : Undisturbed q r) : Undisturbed p r :=
  ⟨h'.variant.trans h.variant, h'.portQ.trans h.portQ, h'.boot.trans h.boot, h'.trestles.trans h.trestles, h'.tilesOn.trans h.tilesOn⟩

/-- An update that leaves these parts and the words. -/
theorem same (h : Undisturbed p q) (hr : r.regs = q.regs) (hv : r.variant = q.variant) (hq : r.portQ = q.portQ) (hb : r.boot = q.boot)
    (ht : r.trestles = q.trestles) : Undisturbed p r :=
  h.trans ⟨hv, hq, hb, ht, by simp only [Pkg.get, Pkg.rd, hr, hv]⟩

theorem put (h : Undisturbed p q) {d : Nat} {f : Fld} {v : Nat} (hf : pkgAddr 15 oModeWord ≠ pkgAddr d f.off) : Undisturbed p (q.put d f v) :=
  h.trans ⟨rfl, rfl, rfl, rfl, q.get_put_ne v hf⟩

theorem raise (h : Undisturbed p q) {d : Nat} {f : Fld} (hf : pkgAddr 15 oModeWord ≠ pkgAddr d f.off) : Undisturbed p (q.raise d f) :=
  (h.put (v := 1) hf).same rfl rfl rfl rfl rfl

theorem tileOn (h : Undisturbed p q) (t : Nat) : q.tileOn t = p.tileOn t := by
  unfold Pkg.tileOn; rw [h.variant, h.tilesOn]

end Undisturbed

/-- A word of a tile is not the word of the mode. -/
theorem modeWord_ne {o : Nat} (ho : o % 0x4000000 ≠ oModeWord) (d : Nat) : pkgAddr 15 oModeWord ≠ pkgAddr d o := by
  simp only [pkgAddr, oModeWord] at *; omega

/-! ### The end of the step -/

/-- The machine rests with this package after a step that sets nothing going. -/
def State.restsAt (s : State) (q : Pkg) : State := (s.map (fun _ => q.setTrestle q.steward (q.trestle q.steward))).finish

section
variable (s : State) (q : Pkg)

@[simp] theorem State.restsAt_get (d : Nat) (f : Fld) : (s.restsAt q).pkg.get d f = q.get d f := State.finish_pkg_get _ d f
@[simp] theorem State.restsAt_on (d : Nat) (f : Fld) : (s.restsAt q).pkg.on d f = q.on d f := State.finish_pkg_on _ d f
@[simp] theorem State.restsAt_cnt (d o : Nat) : (s.restsAt q).pkg.cnt d o = q.cnt d o := State.finish_pkg_cnt _ d o
@[simp] theorem State.restsAt_variant : (s.restsAt q).pkg.variant = q.variant := State.finish_pkg_variant _
@[simp] theorem State.restsAt_now : (s.restsAt q).pkg.now = q.now := State.finish_pkg_now _
@[simp] theorem State.restsAt_ks : (s.restsAt q).pkg.ks = q.ks := State.finish_pkg_ks _
@[simp] theorem State.restsAt_ksT (t : Nat) : (s.restsAt q).pkg.ksT t = q.ksT t := State.finish_ksT _ t
@[simp] theorem State.restsAt_sw : (s.restsAt q).pkg.sw = q.sw := State.finish_pkg_sw _
@[simp] theorem State.restsAt_mode : (s.restsAt q).pkg.mode = q.mode := State.finish_pkg_mode _
@[simp] theorem State.restsAt_ref : (s.restsAt q).pkg.ref = q.ref := State.finish_pkg_ref _
@[simp] theorem State.restsAt_ksState (t : Nat) : (s.restsAt q).pkg.ksState t = q.ksState t := State.restsAt_get s q t fKsState
@[simp] theorem State.restsAt_modeNow : (s.restsAt q).pkg.modeNow = q.modeNow := State.restsAt_get s q 15 fMode

theorem Touches.rests {s : State} {q : Pkg} {W C : List Nat} (h : Touches s.pkg q W C) : Frame s (s.restsAt q) W C :=
  Touches.frame (f := fun _ => q.setTrestle q.steward (q.trestle q.steward)) h.setTrestle

end

/-- With nothing at its port a die serves nothing. -/
theorem State.drainPort_none {s : State} {d : Nat} (h : s.pkg.queueAt d = []) (n : Nat) : s.drainPort d n = s := by
  cases n with
  | zero => rfl
  | succ n => simp only [State.drainPort, h]

theorem State.drainPorts_none {s : State} (h : ∀ d, d < 7 → s.pkg.queueAt d = []) : s.drainPorts = s := by
  unfold State.drainPorts
  exact foldl_eq_self fun d hd => State.drainPort_none (h d (List.mem_range.1 hd)) _

/-- R295: a step that takes no tile out of service removes none. -/
theorem Pkg.withRemoval_none {s : Pkg} {f : Pkg → Pkg} (h : ∀ t, (f s).tileOn t = s.tileOn t) : s.withRemoval f = f s := by
  have hgone : s.powered.filter (fun t => !(f s).tileOn t) = [] := List.filter_eq_nil_iff.2 fun t ht => by
    simp [h, (List.mem_filter.1 ht).2]
  simp [Pkg.withRemoval, hgone]

section
variable {i : Instr} {s : State} {P : State → Prop} {f : Pkg → Pkg}

/-- A step of a commit that disturbs nothing, in a calm machine: its effect on the package is all that happens. -/
theorem runs_onKeystone (h : exec i s = .next (s.onKeystone f)) (hs : s.calm) (hu : Undisturbed s.pkg (f s.pkg))
    (he : ((f s.pkg).trestle (f s.pkg).steward).ready = []) (hp : P (s.restsAt (f s.pkg))) : Runs i s P := by
  obtain ⟨_, hports, hfall⟩ := hs
  have hremove : s.map (fun p => p.withRemoval f) = s.map f := by
    simp only [State.map, Pkg.withRemoval_none hu.tileOn]
  have hports' : ∀ d, d < 7 → (s.map f).pkg.queueAt d = [] := fun d hd => by
    rw [State.map_pkg, Pkg.queueAt, hu.portQ]; exact hports d hd
  have hfall' : (s.map f).fallIfWaiting = s.map f := by
    rw [State.fallIfWaiting, State.map_pkg, hu.boot, hfall]; rfl
  have hend : s.onKeystone f = s.restsAt (f s.pkg) := by
    rw [State.onKeystone, hremove, State.finishKeystone, State.drainPorts_none hports', hfall', State.finishFlow, State.restsAt, State.map_map]
    simp only [State.map, Pkg.flushEth_none _ _ he]
  exact ⟨_, h, hend ▸ hp⟩

/-- A step that leaves the steward where it is sets nothing going in the trestle. -/
theorem runs_onKeystone_kept (h : exec i s = .next (s.onKeystone f)) (hs : s.calm) (hu : Undisturbed s.pkg (f s.pkg))
    (hm : (f s.pkg).mode = s.pkg.mode) (hp : P (s.restsAt (f s.pkg))) : Runs i s P :=
  runs_onKeystone h hs hu (State.noEthWaits_of_kept hs.1 hu.trestles hm) hp

end

end Sys2Proof.Machine
end

section
/-! PROOFS. A commit's request, PREPARE and drain (R60–R62, R67): what O12 asks. -/
namespace Sys2Proof.Machine

/-! ### PREPARE on a tile (R61) -/

section
variable (s : Pkg) (t : Nat)

theorem Pkg.takePrepare_eq : s.takePrepare t =
    ((s.put t fKsState 1).setKsT t { s.ksT t with tc := s.ks.tc, epoch := s.ks.epoch, dec := none, held := none, drained := false }).onKs (fun k =>
      { k with answered := t :: k.answered, notReady := if s.on t fLocked then k.notReady else t :: k.notReady }) := by
  have hlocked : (s.put t fKsState 1).on t fLocked = s.on t fLocked := s.on_put_apart 1 (Or.inl (by decide))
  cases h : s.on t fLocked <;> simp only [Pkg.takePrepare, Pkg.onKs, Pkg.on, Pkg.get, Pkg.rd, Pkg.setKsT] at hlocked h ⊢ <;>
    simp only [hlocked, h] <;> rfl

@[simp] theorem Pkg.takePrepare_ks : (s.takePrepare t).ks =
    { s.ks with answered := t :: s.ks.answered, notReady := if s.on t fLocked then s.ks.notReady else t :: s.ks.notReady } := by
  rw [Pkg.takePrepare_eq]; rfl

@[simp] theorem Pkg.takePrepare_ksT : (s.takePrepare t).ksT t =
    { s.ksT t with tc := s.ks.tc, epoch := s.ks.epoch, dec := none, held := none, drained := false } := by
  rw [Pkg.takePrepare_eq]; exact Pkg.ksT_setKsT_same _ _ _

@[simp] theorem Pkg.takePrepare_ksState : (s.takePrepare t).ksState t = 1 := by
  rw [Pkg.takePrepare_eq]; exact s.get_put_same t fKsState 1 (by decide)

end

theorem Touches.onKs {p q : Pkg} {W C : List Nat} (h : Touches p q W C) {f : KsCoord → KsCoord} : Touches p (q.onKs f) W C := h.same rfl rfl rfl rfl
theorem Touches.reachCount {p q : Pkg} {W C : List Nat} (h : Touches p q W C) {d n : Nat} : Touches p (q.reachCount d n) W C := h.reachFrac
theorem Touches.raiseIf {p q : Pkg} {W C : List Nat} (h : Touches p q W C) {b : Bool} {d : Nat} {f : Fld} (hm : pkgAddr d f.off ∈ W) :
    Touches p (q.raiseIf b d f) W C := (h.raise hm).ite h
theorem Touches.takePrepare {p q : Pkg} {W C : List Nat} (h : Touches p q W C) {t : Nat} (hm : pkgAddr t oKsStatus ∈ W) : Touches p (q.takePrepare t) W C := by
  rw [Pkg.takePrepare_eq]; exact (h.put hm).setKsT.onKs

/-! ### The request (R60) -/

/-- The T_c of a request: the one asked for, or the least that KS_LEAD allows. -/
def Pkg.leastTc (s : Pkg) (tile : Nat) : Nat := s.countNs tile + us (s.get tile fKsLead)
def Pkg.askedTc (s : Pkg) (tile : Nat) (v : Word) : Nat := if v.getLsbD 1 then s.rd64 tile oKsAt else 0

/-- The commit that a request starts. -/
def Pkg.requested (s : Pkg) (tile : Nat) (v : Word) : Pkg :=
  (s.raiseIf (v.getLsbD 1 && decide (s.askedTc tile v < s.leastTc tile)) tile fKsAdjusted).onKs (fun _ =>
    { active := true, tile := tile, tc := max (s.askedTc tile v) (s.leastTc tile), epoch := ((s.rd tile 0x200010).toNat + 1) % 2 ^ 32, tiles := s.serving })

/-- The word of SI_KS_STATUS decides no tile's service. -/
theorem Pkg.serving_raiseIf (s : Pkg) (b : Bool) (d : Nat) : (s.raiseIf b d fKsAdjusted).serving = s.serving := by
  cases b with
  | false => rfl
  | true =>
    have hu : Undisturbed s (s.raise d fKsAdjusted) := (Undisturbed.refl s).raise (modeWord_ne (by decide) d)
    unfold Pkg.serving Pkg.inService
    simp only [Pkg.raiseIf, if_true, hu.tileOn]
    rfl

theorem ksRequestEff_granted {s : Pkg} {tile : Nat} {v : Word} (r : Req) (hgo : v.getLsbD 0 = true) (hst : tile = s.steward) (h0 : s.ksState tile = 0) :
    ksRequestEff r tile v s = (s.requested tile v).takePrepare tile := by
  have hep (b : Bool) : (s.raiseIf b tile fKsAdjusted).rd tile 0x200010 = s.rd tile 0x200010 := by
    cases b
    · rfl
    · exact s.rd_put_off 1 (by decide)
  simp only [ksRequestEff, hgo, h0, ne_eq, not_true_eq_false, if_false, Bool.true_eq_false, ← hst, Pkg.serving_raiseIf, hep]
  rfl

theorem ksRequestEff_busy {s : Pkg} {tile : Nat} {v : Word} (r : Req) (hgo : v.getLsbD 0 = true) (hst : tile = s.steward) (h0 : s.ksState tile ≠ 0) :
    ksRequestEff r tile v s = s.cfgErr r tile cKsBusy (pkgAddr tile 0x200020) := by
  simp only [ksRequestEff, hgo, h0, ne_eq, not_true_eq_false, not_false_eq_true, if_false, if_true, Bool.true_eq_false, ← hst]

/-- What a request reads is as before its write was remembered. -/
theorem Pkg.remember_countNs (s : Pkg) (r : Req) (d o : Nat) (v : Word) (t : Nat) : (s.remember r d o v).countNs t = s.countNs t := by
  simp only [Pkg.countNs, Pkg.count, Pkg.remember_now, Pkg.remember_clocks]

theorem Pkg.remember_steward (s : Pkg) (r : Req) (d o : Nat) (v : Word) : (s.remember r d o v).steward = s.steward := by
  rw [Pkg.steward, Pkg.remember_mode]; rfl

theorem Pkg.remember_serving (s : Pkg) (r : Req) (d o : Nat) (v : Word) : (s.remember r d o v).serving = s.serving := by
  have h : (s.remember r d o v).inService = s.inService := funext fun t => by
    simp only [Pkg.inService, Pkg.tileOn, Pkg.isLost, Pkg.remember_variant, Pkg.remember_get, Pkg.remember_mode]
  unfold Pkg.serving; rw [h]

theorem Pkg.cfgErr_ks (s : Pkg) (r : Req) (die code addr : Nat) : (s.cfgErr r die code addr).ks = s.ks := by
  simp only [Pkg.cfgErr]; split <;> simp

section
variable {a : Acc} {tile : Nat} {v : Word} {s : State}

theorem ksRequest_starts (h : s.pkg.reaches a.req tile 0x200020 v) (ht : tile < 7) (hgo : v.getLsbD 0 = true) (hst : tile = s.pkg.steward)
    (h0 : s.pkg.ksState tile = 0) : Runs (.ksRequest a tile v) s (fun t =>
        t.pkg.ks.active = true ∧ t.pkg.ks.tile = tile ∧ t.pkg.ks.dec = none ∧ t.pkg.ks.tiles = s.pkg.serving ∧
        t.pkg.ks.epoch = ((s.pkg.rd tile 0x200010).toNat + 1) % 2 ^ 32 ∧
        t.pkg.ks.tc = max (if v.getLsbD 1 then s.pkg.rd64 tile oKsAt else 0) ((s.pkg.reach a.at_).countNs tile + 1000 * s.pkg.get tile fKsLead) ∧
        t.pkg.ksState tile = 1 ∧ (t.pkg.ksT tile).tc = t.pkg.ks.tc ∧ Frame s t [pkgAddr tile 0x200030] []) := by
  have heff := ksRequestEff_granted (s := (s.pkg.reach a.at_).remember a.req tile 0x200020 v) (v := v) a.req hgo
    (hst.trans (Pkg.remember_steward (s.pkg.reach a.at_) _ _ _ _).symm) ((Pkg.remember_get ..).trans h0)
  refine runs_tileWrite h (by omega) (by decide) rfl (ksRequestEff a.req tile v) (writeTile_ksRequest _ _ _ _)
    ⟨?_, ?_, ?_, ?_, ?_, ?_, ?_, ?_, frame_remember (r := a.req) (n := a.at_) (die := tile) (off := 0x200020) (v := v) ?_⟩
  all_goals simp only [State.finish_pkg_ks, State.finish_ksT, State.finish_pkg_get, State.map_pkg, heff, Pkg.takePrepare_ks, Pkg.takePrepare_ksT, Pkg.ksState]
  · rfl
  · rfl
  · rfl
  · exact Pkg.remember_serving _ _ _ _ _
  · simp [Pkg.requested, Pkg.onKs]
  · simp [Pkg.requested, Pkg.onKs, Pkg.askedTc, Pkg.leastTc, Pkg.rd64, Pkg.remember_countNs, us, Nat.mul_comm]
  · exact Pkg.takePrepare_ksState _ _
  · exact ((Touches.refl _ _ _).raiseIf (by simp [fKsAdjusted])).onKs.takePrepare (by simp)

theorem ksRequest_busy (h : s.pkg.reaches a.req tile 0x200020 v) (ht : tile < 7) (hgo : v.getLsbD 0 = true) (hst : tile = s.pkg.steward)
    (h0 : s.pkg.ksState tile ≠ 0) : Runs (.ksRequest a tile v) s (fun t =>
        t.pkg.ks = s.pkg.ks ∧ t.pkg.cnt tile (cfgErrCnt tile) = s.pkg.cnt tile (cfgErrCnt tile) + 1 ∧
        Frame s t [pkgAddr tile (cfgErrOff tile), pkgAddr tile (cfgErrOff tile + 4)] [pkgAddr tile (cfgErrCnt tile)]) := by
  refine runs_tileWrite h (by omega) (by decide) rfl (ksRequestEff a.req tile v) (writeTile_ksRequest _ _ _ _) ?_
  have heff := ksRequestEff_busy (s := (s.pkg.reach a.at_).remember a.req tile 0x200020 v) (v := v) a.req hgo
    (hst.trans (Pkg.remember_steward (s.pkg.reach a.at_) _ _ _ _).symm) (by rw [Pkg.ksState, Pkg.remember_get]; exact h0)
  refine ⟨?_, ?_, frame_remember (r := a.req) (n := a.at_) (die := tile) (off := 0x200020) (v := v) (by rw [heff]; exact cfgErr_touches _ _ _ _ _)⟩
  · rw [State.finish_pkg_ks, State.map_pkg, heff, Pkg.cfgErr_ks]; simp
  · rw [State.finish_pkg_cnt, State.map_pkg, heff, Pkg.cfgErr_cnt]; simp

end

/-! ### PREPARE, the drain and DRAINED (R61, R62, R67) -/

/-- The drain's start on a tile: at T_c less the drain time, its state and the instant. -/
def Pkg.drainAtCount (s : Pkg) (tile : Nat) : Pkg := s.reachCount tile ((s.ksT tile).tc - us (s.get s.ks.tile fKsDrain))
def Pkg.startDrain (s : Pkg) (tile : Nat) : Pkg := (s.put tile fKsState 2).setKsT tile { s.ksT tile with drainAt := s.now }

section
variable {tile at_ : Nat} {s : State}

theorem prepare_taken (ha : s.pkg.ks.active = true) (hm : tile ∈ s.pkg.ks.tiles) (hn : tile ∉ s.pkg.ks.answered) (hin : s.pkg.inService tile = true)
    (hup : s.pkg.pairUp s.pkg.ks.tile tile = true) : Runs (.prepare tile at_) s (fun t =>
        t.pkg.ksState tile = 1 ∧ (t.pkg.ksT tile).tc = s.pkg.ks.tc ∧ (t.pkg.ksT tile).epoch = s.pkg.ks.epoch ∧ (t.pkg.ksT tile).dec = none ∧
        tile ∈ t.pkg.ks.answered ∧ (s.pkg.on tile fLocked = false → tile ∈ t.pkg.ks.notReady) ∧ Frame s t [pkgAddr tile 0x200030] []) := by
  have heff : prepare tile at_ s.pkg = (s.pkg.reach at_).takePrepare tile := Pkg.when_pos _ _ (by simp [ha, hm, hn, hin, hup])
  refine runs_onPkg rfl ⟨?_, ?_, ?_, ?_, ?_, fun hl => ?_, Touches.frame (by rw [heff]; exact (Touches.refl _ _ _).reach.takePrepare (by simp))⟩
  all_goals simp only [State.finish_pkg_ks, State.finish_ksT, State.finish_pkg_get, State.map_pkg, heff, Pkg.takePrepare_ks, Pkg.takePrepare_ksT, Pkg.ksState]
  · exact Pkg.takePrepare_ksState _ _
  · rfl
  · rfl
  · exact List.mem_cons_self
  · simp [hl]

theorem drainStart_drains (hin : s.pkg.inService tile = true) (h1 : s.pkg.ksState tile = 1) : Runs (.drainStart tile) s (fun t =>
        t.pkg.ksState tile = 2 ∧ (t.pkg.ksT tile).drainAt = t.pkg.now ∧
        t.pkg.now = (s.pkg.reachCount tile ((s.pkg.ksT tile).tc - 1000 * s.pkg.get s.pkg.ks.tile fKsDrain)).now ∧
        Frame s t [pkgAddr tile 0x200030] []) := by
  have heff : drainStart tile s.pkg = (s.pkg.drainAtCount tile).startDrain tile := Pkg.when_pos _ _ (by simp [hin, h1])
  have hframe : Touches s.pkg (drainStart tile s.pkg) [pkgAddr tile 0x200030] [] := by
    rw [heff]; exact ((Touches.refl _ _ _).reachCount.put (by simp [fKsState])).setKsT
  refine runs_onPkg rfl ⟨?_, ?_, ?_, hframe.frame⟩
  all_goals simp only [State.finish_ksT, State.finish_pkg_get, State.finish_pkg_now, State.map_pkg, heff, Pkg.ksState]
  · rw [Pkg.startDrain, Pkg.setKsT_get, Pkg.get_put_same _ _ _ _ (by decide)]; rfl
  · rw [Pkg.startDrain, Pkg.ksT_setKsT_same]; rfl
  · rw [Pkg.startDrain, Pkg.setKsT_now, Pkg.put_now, Pkg.drainAtCount, us, Nat.mul_comm]

theorem drainComplete_reports (hin : s.pkg.inService tile = true) (h2 : s.pkg.ksState tile = 2) (he : s.pkg.drainEmpty tile = true)
    (hd : (s.pkg.ksT tile).drained = false) : Runs (.drainComplete tile at_) s (fun t =>
        (t.pkg.ksT tile).drained = true ∧
        t.pkg.get tile fDrainMax = max (s.pkg.get tile fDrainMax) (min ((max s.pkg.now (ns at_) - (s.pkg.ksT tile).drainAt) / 65536) 65535) ∧
        Frame s t [pkgAddr tile 0x200048] []) := by
  have heff : drainComplete tile at_ s.pkg = _ := Pkg.when_pos _ _ (by simp [hin, h2, he, hd])
  refine runs_onPkg rfl ⟨?_, ?_, Touches.frame (by rw [heff]; exact ((Touches.refl _ _ _).reach.put (by simp [fDrainMax])).setKsT)⟩
  all_goals simp only [State.finish_ksT, State.finish_pkg_get, State.map_pkg, heff]
  · rw [Pkg.ksT_setKsT_same]
  · rw [Pkg.setKsT_get, Pkg.get_put_same _ _ _ _ (by decide)]
    have hold : s.pkg.get tile fDrainMax < 2 ^ 16 := fieldGet_lt _ _ _
    exact Nat.mod_eq_of_lt (max_lt hold (by simp [fDrainMax]))

end

/-! ### The coordinator's decision (R67, R69) -/

section
variable (s : Pkg) (d : Decision)

/-- No standby is in the commit that the coordinator must tell first. -/
def Pkg.coordAlone : Bool := match s.standby with | some b => !s.ks.tiles.contains b || b == s.ks.tile | none => true

theorem Pkg.ksDecide_eq : s.ksDecide d =
    if s.coordAlone then (s.setKsT s.ks.tile { s.ksT s.ks.tile with dec := some d }).onKs (fun k =>
      { k with dec := some d, lastSent := s.now, decAt := s.now, stdbyAck := s.coordAlone, acked := [k.tile] })
    else s.onKs (fun k => { k with dec := some d, lastSent := s.now, decAt := s.now, stdbyAck := s.coordAlone }) := rfl

/-- A decision: the standby is told first, or the coordinator takes it at once. -/
theorem Pkg.ksDecide_cases :
    s.ksDecide d = s.onKs (fun k => { k with dec := some d, lastSent := s.now, decAt := s.now, stdbyAck := false }) ∨
    s.ksDecide d = (s.setKsT s.ks.tile { s.ksT s.ks.tile with dec := some d }).onKs (fun k =>
      { k with dec := some d, lastSent := s.now, decAt := s.now, stdbyAck := true, acked := [k.tile] }) := by
  rcases halone : s.coordAlone
  · exact .inl (by rw [Pkg.ksDecide_eq, halone]; rfl)
  · exact .inr (by rw [Pkg.ksDecide_eq, halone]; rfl)

theorem Pkg.ksDecide_dec : (s.ksDecide d).ks.dec = some d := by obtain h | h := s.ksDecide_cases d <;> rw [h] <;> rfl
theorem Pkg.ksDecide_drained : (s.ksDecide d).ks.drained = s.ks.drained := by obtain h | h := s.ksDecide_cases d <;> rw [h] <;> rfl
theorem Pkg.ksDecide_mode : (s.ksDecide d).mode = s.mode := by obtain h | h := s.ksDecide_cases d <;> rw [h] <;> rfl
theorem Pkg.ksDecide_now : (s.ksDecide d).now = s.now := by obtain h | h := s.ksDecide_cases d <;> rw [h] <;> rfl

theorem ksDecide_touches : Touches s (s.ksDecide d) [] [] := by
  obtain h | h := s.ksDecide_cases d <;> rw [h]
  · exact (Touches.refl _ _ _).onKs
  · exact (Touches.refl _ _ _).setKsT.onKs

theorem ksDecide_undisturbed : Undisturbed s (s.ksDecide d) := by
  obtain h | h := s.ksDecide_cases d <;> rw [h] <;> exact (Undisturbed.refl s).same rfl rfl rfl rfl rfl

end

theorem KsCoord.allDrained_iff (k : KsCoord) : k.allDrained = true ↔ (∀ x ∈ k.tiles, x ∈ k.drained) ∧ k.notReady = [] := by
  simp [KsCoord.allDrained]

section
variable {tile at_ : Nat} {s : State}

/-- Of the last tile DRAINED makes the decision. -/
theorem drained_counted (ha : s.pkg.ks.active = true) (hm : tile ∈ s.pkg.ks.tiles) (hdec : s.pkg.ks.dec = none) (hd : (s.pkg.ksT tile).drained = true)
    (hn : tile ∉ s.pkg.ks.drained) (hup : s.pkg.pairUp s.pkg.ks.tile tile = true) (hs : s.calm)
    (hin : (s.pkg.reach at_).countNs s.pkg.ks.tile + 250 ≤ s.pkg.ks.tc) : Runs (.drained tile at_) s (fun t =>
        t.pkg.ks.drained = tile :: s.pkg.ks.drained ∧
        t.pkg.ks.dec = (if (∀ x ∈ s.pkg.ks.tiles, x = tile ∨ x ∈ s.pkg.ks.drained) ∧ s.pkg.ks.notReady = [] then some .confirm else none) ∧
        Frame s t [] []) := by
  have heff : drained tile at_ s.pkg = _ := Pkg.when_pos _ _ (by simp [ha, hm, hdec, hd, hn, hup, hin])
  have hcall : Touches s.pkg ((s.pkg.reach at_).onKs fun k => { k with drained := tile :: k.drained }) [] [] := (Touches.refl _ _ _).reach.onKs
  have hund : Undisturbed s.pkg ((s.pkg.reach at_).onKs fun k => { k with drained := tile :: k.drained }) :=
    (Undisturbed.refl _).same rfl rfl rfl rfl rfl
  have hmode : ((s.pkg.reach at_).onKs fun k => { k with drained := tile :: k.drained }).mode = s.pkg.mode := rfl
  have hks : ((s.pkg.reach at_).onKs fun k => { k with drained := tile :: k.drained }).ks = { s.pkg.ks with drained := tile :: s.pkg.ks.drained } := rfl
  generalize (s.pkg.reach at_).onKs (fun k => { k with drained := tile :: k.drained }) = p at heff hcall hund hmode hks
  have hall : p.ks.allDrained = true ↔ (∀ x ∈ s.pkg.ks.tiles, x = tile ∨ x ∈ s.pkg.ks.drained) ∧ s.pkg.ks.notReady = [] := by
    rw [KsCoord.allDrained_iff, hks]; simp
  by_cases hc : (∀ x ∈ s.pkg.ks.tiles, x = tile ∨ x ∈ s.pkg.ks.drained) ∧ s.pkg.ks.notReady = []
  · rw [if_pos (hall.2 hc)] at heff
    refine runs_onKeystone_kept rfl hs (heff ▸ hund.trans (ksDecide_undisturbed _ _)) (by rw [heff, Pkg.ksDecide_mode, hmode]) ?_
    rw [if_pos hc, heff]
    refine ⟨?_, ?_, (hcall.trans (ksDecide_touches _ _)).rests⟩
    · rw [State.restsAt_ks, Pkg.ksDecide_drained, hks]
    · rw [State.restsAt_ks, Pkg.ksDecide_dec]
  · rw [if_neg (fun h => hc (hall.1 h))] at heff
    refine runs_onKeystone_kept rfl hs (heff ▸ hund) (by rw [heff, hmode]) ?_
    rw [if_neg hc, heff]
    refine ⟨?_, ?_, hcall.rests⟩
    · rw [State.restsAt_ks, hks]
    · rw [State.restsAt_ks, hks]; exact hdec

/-- R67: one that comes too late counts for nothing. -/
theorem drained_late (hs : s.calm) (hlate : s.pkg.ks.tc < (s.pkg.reach at_).countNs s.pkg.ks.tile + 250) :
    Runs (.drained tile at_) s (fun t => t.pkg.ks = s.pkg.ks ∧ Frame s t [] []) := by
  have heff : drained tile at_ s.pkg = s.pkg.reach at_ := Pkg.when_neg _ _ (by
    have h : ¬ (s.pkg.reach at_).countNs s.pkg.ks.tile + 250 ≤ s.pkg.ks.tc := by omega
    simp [h])
  refine runs_onKeystone_kept rfl hs (heff ▸ (Undisturbed.refl _).same rfl rfl rfl rfl rfl) (by rw [heff]; rfl) ?_
  rw [heff]
  exact ⟨State.restsAt_ks _ _, (Touches.refl _ _ _).reach.rests⟩

end

/-- Settles O12: the request is `takePrepare` of a new sequencer, and each later step is its rule with its guard met. -/
theorem commitRequestAndDrain : Obligations.CommitRequestAndDrain := fun _ _ _ ht =>
  ⟨fun _ _ hr hgo hst => ⟨ksRequest_starts hr ht hgo hst, ksRequest_busy hr ht hgo hst⟩, prepare_taken, drainStart_drains, drainComplete_reports,
    fun ha hm hdec hd hn hup hs => ⟨drained_counted ha hm hdec hd hn hup hs, drained_late hs⟩⟩

end Sys2Proof.Machine
end

section
/-! PROOFS. A commit's decision on its way (R61, R67–R69): what O13 asks. -/
namespace Sys2Proof.Machine

/-! ### A decision on a tile (R64, R67–R69) -/

/-- A package with other records of the commit on its tiles and another state of the switch. -/
def Pkg.withHidden (s : Pkg) (m : SMap KsTile) (w : SwitchSt) : Pkg := { s with ksTile := m, sw := w }

section
variable (s : Pkg) (m : SMap KsTile) (w : SwitchSt)

@[simp] theorem Pkg.withHidden_get (d : Nat) (f : Fld) : (s.withHidden m w).get d f = s.get d f := rfl
@[simp] theorem Pkg.withHidden_on (d : Nat) (f : Fld) : (s.withHidden m w).on d f = s.on d f := rfl
@[simp] theorem Pkg.withHidden_cnt (d o : Nat) : (s.withHidden m w).cnt d o = s.cnt d o := rfl
@[simp] theorem Pkg.withHidden_ksState (t : Nat) : (s.withHidden m w).ksState t = s.ksState t := rfl
@[simp] theorem Pkg.withHidden_mode : (s.withHidden m w).mode = s.mode := rfl
@[simp] theorem Pkg.withHidden_ks : (s.withHidden m w).ks = s.ks := rfl

variable {m w} {p q : Pkg} {W C : List Nat}

theorem Touches.withHidden (h : Touches p q W C) : Touches p (q.withHidden m w) W C := h.same rfl rfl rfl rfl
theorem Undisturbed.withHidden (h : Undisturbed p q) : Undisturbed p (q.withHidden m w) := h.same rfl rfl rfl rfl rfl
theorem Undisturbed.setKsT (h : Undisturbed p q) {t : Nat} {x : KsTile} : Undisturbed p (q.setKsT t x) := h.same rfl rfl rfl rfl rfl
theorem Undisturbed.setCnt (h : Undisturbed p q) {d o : Nat} {v : Quad} : Undisturbed p (q.setCnt d o v) := h.same rfl rfl rfl rfl rfl
theorem Undisturbed.bump (h : Undisturbed p q) {d o : Nat} : Undisturbed p (q.bump d o) := h.setCnt
theorem Undisturbed.reach (h : Undisturbed p q) {n : Nat} : Undisturbed p (q.reach n) := h.same rfl rfl rfl rfl rfl

end

section
variable (s : Pkg) (t : Nat) (d : Decision)

/-- R69: the standby keeps the decision it is sent. -/
def Pkg.standbyHolds : Pkg := if s.standby = some t then s.setKsT t { s.ksT t with held := some d } else s

/-- Only the tile's record of the commit changes, and in it neither T_c nor the staged writes. -/
theorem Pkg.standbyHolds_eq : ∃ m, s.standbyHolds t d = s.withHidden m s.sw ∧
    ((s.standbyHolds t d).ksT t).staged = (s.ksT t).staged ∧ ((s.standbyHolds t d).ksT t).tc = (s.ksT t).tc := by
  unfold Pkg.standbyHolds
  split
  · exact ⟨_, rfl, by rw [Pkg.ksT_setKsT_same], by rw [Pkg.ksT_setKsT_same]⟩
  · exact ⟨_, rfl, rfl, rfl⟩

theorem Pkg.takeDecision_eq : s.takeDecision t d =
    if (s.standbyHolds t d).ksState t = 3 then ((s.standbyHolds t d).actOn t d).bump t oKsLate
    else if (s.standbyHolds t d).ksState t = 0 then s.standbyHolds t d
    else (s.standbyHolds t d).setKsT t { (s.standbyHolds t d).ksT t with dec := some d } := rfl

theorem Pkg.standbyHolds_ksState (u : Nat) : (s.standbyHolds t d).ksState u = s.ksState u := by
  obtain ⟨m, h, _⟩ := s.standbyHolds_eq t d; rw [h]; rfl

variable {s t}

/-- A decision that comes before T_c is kept for it. -/
theorem Pkg.takeDecision_early (h : s.ksState t = 1 ∨ s.ksState t = 2) :
    ∃ m, s.takeDecision t d = s.withHidden m s.sw ∧ ((s.takeDecision t d).ksT t).dec = some d := by
  have heff : s.takeDecision t d = (s.standbyHolds t d).setKsT t { (s.standbyHolds t d).ksT t with dec := some d } := by
    rw [Pkg.takeDecision_eq, Pkg.standbyHolds_ksState, if_neg (by omega), if_neg (by omega)]
  obtain ⟨m, hm, _⟩ := s.standbyHolds_eq t d
  refine ⟨(s.takeDecision t d).ksTile, ?_, by rw [heff, Pkg.ksT_setKsT_same]⟩
  rw [heff, hm]; rfl

/-- R68: a HELD tile acts on it at once. -/
theorem Pkg.takeDecision_late (h : s.ksState t = 3) : s.takeDecision t d = ((s.standbyHolds t d).actOn t d).bump t oKsLate := by
  rw [Pkg.takeDecision_eq, Pkg.standbyHolds_ksState, if_pos h]

/-- R64: with nothing staged nothing goes into the shadow. -/
theorem Pkg.applyStaged_none (h : (s.ksT t).staged = []) : ∃ m, s.applyStaged t = s.withHidden m s.sw := by
  unfold Pkg.applyStaged
  split
  · exact ⟨_, rfl⟩
  · simp only [h, List.foldl_nil]
    exact ⟨_, rfl⟩

/-- With no frame of the tile waiting for admission none goes to the parser. -/
theorem Pkg.readmit_none (h : ∀ w ∈ s.sw.waitIn, w.tile ≠ t) : ∃ w, s.readmit t = s.withHidden s.ksTile w := by
  have hnone : s.sw.waitIn.filter (fun w => w.tile == t) = [] := List.filter_eq_nil_iff.2 fun w hw => by simpa using h w hw
  simp only [Pkg.readmit, hnone, List.foldl_nil]
  exact ⟨_, rfl⟩

/-- R67: an abort on a tile, before its staged writes and the frames that wait. -/
def Pkg.abortedAt (s : Pkg) (t r : Nat) : Pkg :=
  (((((s.put t fKsState 0).raise t fKsAborted).put t fKsReason r).setCnt t oLastTc (BitVec.ofNat 64 (s.ksT t).tc)).bump t oKsAborts).setKsT t
    { s.ksT t with dec := none }

theorem Pkg.doAbort_idle (r : Nat) (hs : (s.ksT t).staged = []) (hw : ∀ w ∈ s.sw.waitIn, w.tile ≠ t) :
    ∃ m w, s.doAbort t r = (s.abortedAt t r).withHidden m w := by
  obtain ⟨m, hm⟩ := Pkg.applyStaged_none (s := s.abortedAt t r) (t := t) (by rw [Pkg.abortedAt, Pkg.ksT_setKsT_same]; exact hs)
  obtain ⟨w, hw⟩ := Pkg.readmit_none (s := (s.abortedAt t r).withHidden m (s.abortedAt t r).sw) (t := t) hw
  refine ⟨m, w, Eq.trans ?_ hw⟩
  rw [← hm]; rfl

theorem Touches.abortedAt {p q : Pkg} {W C : List Nat} (h : Touches p q W C) {t r : Nat} (hm : pkgAddr t oKsStatus ∈ W) (hl : pkgAddr t oLastTc ∈ C)
    (ha : pkgAddr t oKsAborts ∈ C) : Touches p (q.abortedAt t r) W C :=
  (((((h.put hm).raise hm).put hm).setCnt hl).bump ha).setKsT

theorem Undisturbed.abortedAt {p q : Pkg} (h : Undisturbed p q) (t r : Nat) : Undisturbed p (q.abortedAt t r) :=
  (((((h.put (modeWord_ne (by decide) t)).raise (modeWord_ne (by decide) t)).put (modeWord_ne (by decide) t)).setCnt).bump).setKsT

theorem Pkg.abortedAt_mode (s : Pkg) (t r : Nat) : (s.abortedAt t r).mode = s.mode := by simp [Pkg.abortedAt]

theorem Pkg.abortedAt_fields (s : Pkg) (t r : Nat) :
    (s.abortedAt t r).ksState t = 0 ∧ (s.abortedAt t r).on t fKsAborted = true ∧ (s.abortedAt t r).get t fKsReason = r % 16 ∧
    (s.abortedAt t r).cnt t oKsAborts = s.cnt t oKsAborts + 1 ∧ (s.abortedAt t r).cnt t oKsLate = s.cnt t oKsLate := by
  unfold Pkg.abortedAt
  refine ⟨?_, ?_, ?_, ?_, ?_⟩
  · simp only [Pkg.ksState, Pkg.setKsT_get, Pkg.bump_get, Pkg.setCnt_get]
    rw [Pkg.get_put_apart _ _ (Or.inr (by decide)), Pkg.raise_get, Pkg.get_put_apart _ _ (Or.inr (by decide)), Pkg.get_put_same _ _ _ _ (by decide), Nat.zero_mod]
  · simp only [Pkg.setKsT_on, Pkg.bump_on, Pkg.setCnt_on]
    rw [Pkg.on_put_apart _ _ (Or.inr (by decide)), Pkg.on_raise_same _ _ _ (by decide) (by decide)]
  · simp only [Pkg.setKsT_get, Pkg.bump_get, Pkg.setCnt_get]
    rw [Pkg.get_put_same _ _ _ _ (by decide)]; rfl
  · simp [oKsAborts, oLastTc]
  · simp [oKsAborts, oLastTc, oKsLate]

end

/-- An abort that every tile has acknowledged ends the sequence. -/
theorem Pkg.checkAborted_cases (s : Pkg) : s.checkAborted = s ∨ s.checkAborted = s.onKs (fun k => { k with active := false }) := by
  unfold Pkg.checkAborted
  split
  · split
    · exact .inr rfl
    · exact .inl rfl
  · exact .inl rfl

/-! ### The coordinator -/

theorem KsCoord.reason_eq (k : KsCoord) : k.reason = if ∃ x ∈ k.tiles, x ∉ k.answered then 3 else if k.notReady = [] then 1 else 2 := by
  have h : k.tiles.any (fun t => !k.answered.contains t) = true ↔ ∃ x ∈ k.tiles, x ∉ k.answered := by simp
  rw [KsCoord.reason, if_congr h rfl rfl]
  rcases hn : k.notReady with _ | ⟨x, l⟩ <;> simp

section
variable {tile at_ : Nat} {s : State}

theorem ksDeadline_aborts (ha : s.pkg.ks.active = true) (hs : s.calm) (hdec : s.pkg.ks.dec = none) : Runs .ksDeadline s (fun t =>
        t.pkg.ks.dec = some (.abort (if ∃ x ∈ s.pkg.ks.tiles, x ∉ s.pkg.ks.answered then 3 else if s.pkg.ks.notReady = [] then 1 else 2)) ∧
        t.pkg.now = (s.pkg.reachCount s.pkg.ks.tile (s.pkg.ks.tc - 250)).now ∧ Frame s t [] []) := by
  have heff : ksDeadline s.pkg = (s.pkg.reachCount s.pkg.ks.tile (s.pkg.ks.tc - 250)).ksDecide (.abort s.pkg.ks.reason) :=
    Pkg.when_pos _ _ (by simp [ha, hdec])
  have htouch : Touches s.pkg (s.pkg.reachCount s.pkg.ks.tile (s.pkg.ks.tc - 250)) [] [] := (Touches.refl _ _ _).reachCount
  have hund : Undisturbed s.pkg (s.pkg.reachCount s.pkg.ks.tile (s.pkg.ks.tc - 250)) := (Undisturbed.refl _).same rfl rfl rfl rfl rfl
  refine runs_onKeystone_kept rfl hs (heff ▸ hund.trans (ksDecide_undisturbed _ _)) (by rw [heff, Pkg.ksDecide_mode]; rfl) ?_
  rw [heff]
  refine ⟨?_, ?_, (htouch.trans (ksDecide_touches _ _)).rests⟩
  · rw [State.restsAt_ks, Pkg.ksDecide_dec, KsCoord.reason_eq]
  · rw [State.restsAt_now, Pkg.ksDecide_now]

theorem decisionRepeat_sends (ha : s.pkg.ks.active = true) (hdec : s.pkg.ks.dec ≠ none) (hn : ∃ x ∈ s.pkg.ks.tiles, x ∉ s.pkg.ks.acked) :
    Runs .decisionRepeat s (fun t =>
        s.pkg.ks.lastSent + ns 1000 ≤ t.pkg.now ∧ t.pkg.ks.lastSent = t.pkg.now ∧ t.pkg.ks.dec = s.pkg.ks.dec ∧ Frame s t [] []) := by
  have heff : decisionRepeat s.pkg = (s.pkg.reachFrac (s.pkg.ks.lastSent + ns 1000)).onKs
      (fun k => { k with lastSent := (s.pkg.reachFrac (s.pkg.ks.lastSent + ns 1000)).now }) :=
    Pkg.when_pos _ _ (by simpa [ha, Option.isSome_iff_ne_none, hdec] using hn)
  refine runs_onPkg rfl ⟨?_, ?_, ?_, Touches.frame (by rw [heff]; exact (Touches.refl _ _ _).reachFrac.onKs)⟩
  all_goals simp only [State.finish_pkg_ks, State.finish_pkg_now, State.map_pkg, heff, Pkg.onKs]
  · exact le_max_right _ _
  · rfl

section
variable {d : Decision} (hm : s.pkg.mayReceive tile = true) (hd : s.pkg.ks.dec = some d)
include hm hd

/-- The standby's acknowledgement counts for the coordinator too, which then takes the decision. -/
theorem decisionAck_standby (hs : s.calm) (hdec : (s.pkg.ksT tile).dec = some d) (hst : s.pkg.standby = some tile)
    (hack : s.pkg.ks.stdbyAck = false) (h12 : s.pkg.ksState s.pkg.ks.tile = 1 ∨ s.pkg.ksState s.pkg.ks.tile = 2) :
    Runs (.decisionAck tile at_) s (fun t =>
          t.pkg.ks.stdbyAck = true ∧ tile ∈ t.pkg.ks.acked ∧ s.pkg.ks.tile ∈ t.pkg.ks.acked ∧ (t.pkg.ksT s.pkg.ks.tile).dec = some d ∧
          Frame s t [] []) := by
  obtain ⟨p, hp⟩ : ∃ p, p = (s.pkg.reach at_).onKs (fun k =>
    { k with stdbyAck := true, acked := k.tile :: tile :: k.acked, lastSent := (s.pkg.reach at_).now }) := ⟨_, rfl⟩
  have heff : decisionAck tile at_ s.pkg = (p.takeDecision s.pkg.ks.tile d).checkAborted := by
    have hst' : ((s.pkg.reach at_).onKs (fun k => { k with acked := tile :: k.acked })).standby = some tile := hst
    have hack' : ((s.pkg.reach at_).onKs (fun k => { k with acked := tile :: k.acked })).ks.stdbyAck = false := hack
    rw [decisionAck, Pkg.when_pos _ _ (by simp [hm, hd, hdec])]
    simp only [hst', hack', Bool.not_false, and_self, if_true]
    simp only [Pkg.onKs, Pkg.reach_ks, hd, hp]
  have h12' : p.ksState s.pkg.ks.tile = 1 ∨ p.ksState s.pkg.ks.tile = 2 := by rw [hp]; exact h12
  obtain ⟨m, hq, hqd⟩ := Pkg.takeDecision_early d h12'
  have hall : Undisturbed s.pkg (decisionAck tile at_ s.pkg) ∧ Touches s.pkg (decisionAck tile at_ s.pkg) [] [] ∧
      (decisionAck tile at_ s.pkg).mode = s.pkg.mode ∧ (decisionAck tile at_ s.pkg).ks.stdbyAck = true ∧
      (decisionAck tile at_ s.pkg).ks.acked = s.pkg.ks.tile :: tile :: s.pkg.ks.acked ∧
      (decisionAck tile at_ s.pkg).ksT s.pkg.ks.tile = (p.takeDecision s.pkg.ks.tile d).ksT s.pkg.ks.tile := by
    rw [heff]
    obtain h | h := (p.takeDecision s.pkg.ks.tile d).checkAborted_cases <;> rw [h, hq, hp] <;>
      exact ⟨(Undisturbed.refl _).same rfl rfl rfl rfl rfl, (Touches.refl _ _ _).same rfl rfl rfl rfl, rfl, rfl, rfl, rfl⟩
  obtain ⟨hund, htouch, hmode, hsa, hacked, hksT⟩ := hall
  refine runs_onKeystone_kept rfl hs hund hmode ⟨?_, ?_, ?_, ?_, htouch.rests⟩
  · rw [State.restsAt_ks, hsa]
  · rw [State.restsAt_ks, hacked]; simp
  · rw [State.restsAt_ks, hacked]; simp
  · rw [State.restsAt_ksT, hksT, hqd]

/-- The guard of CONFIRM and ABORT passed: the tile takes the decision. -/
theorem confirm_takes (hc : d = .confirm) : confirm tile at_ s.pkg = (s.pkg.reach at_).takeDecision tile d := by
  subst hc
  exact Pkg.when_pos _ _ (by simp [hm, hd])

theorem abort_takes (hc : d ≠ .confirm) : abort tile at_ s.pkg = (s.pkg.reach at_).takeDecision tile d := by
  have hpos : abort tile at_ s.pkg = _ := Pkg.when_pos _ _ hm
  cases d with
  | confirm => exact absurd rfl hc
  | abort r => rw [hpos]; simp only [Pkg.reach_ks, hd]

end

/-- A decision before T_c is all that the command leaves. -/
theorem runs_decision_early {i : Instr} {f : Pkg → Pkg} {d : Decision} (h : exec i s = .next (s.onKeystone f)) (hs : s.calm)
    (hf : f s.pkg = (s.pkg.reach at_).takeDecision tile d) (h12 : s.pkg.ksState tile = 1 ∨ s.pkg.ksState tile = 2) :
    Runs i s (fun t => (t.pkg.ksT tile).dec = some d ∧ Frame s t [] []) := by
  obtain ⟨m, hq, hqd⟩ := Pkg.takeDecision_early (s := s.pkg.reach at_) d h12
  refine runs_onKeystone_kept h hs (by rw [hf, hq]; exact (Undisturbed.refl _).reach.withHidden) (by rw [hf, hq]; rfl) ⟨?_, ?_⟩
  · rw [State.restsAt_ksT, hf, hqd]
  · rw [hf, hq]; exact (Touches.refl _ _ _).reach.withHidden.rests

/-- An abort that reaches a HELD tile with nothing staged and no frame waiting. -/
theorem abort_held {r : Nat} (hs : s.calm) (hm : s.pkg.mayReceive tile = true) (hd : s.pkg.ks.dec = some (.abort r)) (h3 : s.pkg.ksState tile = 3)
    (hst : (s.pkg.ksT tile).staged = []) (hw : ∀ w ∈ s.pkg.sw.waitIn, w.tile ≠ tile) : Runs (.abort tile at_) s (fun t =>
          t.pkg.ksState tile = 0 ∧ t.pkg.on tile fKsAborted = true ∧ t.pkg.get tile fKsReason = r % 16 ∧
          t.pkg.cnt tile oKsAborts = s.pkg.cnt tile oKsAborts + 1 ∧ t.pkg.cnt tile oKsLate = s.pkg.cnt tile oKsLate + 1 ∧
          Frame s t [pkgAddr tile 0x200030] [pkgAddr tile oLastTc, pkgAddr tile oKsAborts, pkgAddr tile oKsLate]) := by
  obtain ⟨m, hq, hqs, _⟩ := (s.pkg.reach at_).standbyHolds_eq tile (.abort r)
  have hwait : ∀ w ∈ ((s.pkg.reach at_).standbyHolds tile (.abort r)).sw.waitIn, w.tile ≠ tile := by rw [hq]; exact hw
  obtain ⟨m', w, hab⟩ := Pkg.doAbort_idle r (hqs.trans hst) hwait
  have heff : abort tile at_ s.pkg = (((s.pkg.reach at_).standbyHolds tile (.abort r)).doAbort tile r).bump tile oKsLate := by
    rw [abort_takes hm hd (by simp), Pkg.takeDecision_late _ (by exact h3)]; rfl
  rw [hq] at hab heff
  have hp : Touches s.pkg ((s.pkg.reach at_).withHidden m (s.pkg.reach at_).sw) [] [] := (Touches.refl _ _ _).reach.withHidden
  have hu : Undisturbed s.pkg ((s.pkg.reach at_).withHidden m (s.pkg.reach at_).sw) := (Undisturbed.refl _).reach.withHidden
  have hmode : ((s.pkg.reach at_).withHidden m (s.pkg.reach at_).sw).mode = s.pkg.mode := rfl
  generalize (s.pkg.reach at_).withHidden m (s.pkg.reach at_).sw = p at hab heff hp hu hmode
  have hfields := p.abortedAt_fields tile r
  obtain ⟨h0, hon, hr, ha, hl⟩ := hfields
  rw [hab] at heff
  have hund : Undisturbed s.pkg (abort tile at_ s.pkg) := heff ▸ (hu.abortedAt tile r).withHidden.bump
  refine runs_onKeystone_kept rfl hs hund (by rw [heff, Pkg.bump_mode, Pkg.withHidden_mode, Pkg.abortedAt_mode, hmode]) ?_
  rw [heff]
  refine ⟨?_, ?_, ?_, ?_, ?_, (((hp.mono (by simp) (by simp)).abortedAt (by simp) (by simp) (by simp)).withHidden.bump (by simp)).rests⟩
  · rw [State.restsAt_ksState, Pkg.ksState, Pkg.bump_get, Pkg.withHidden_get]; exact h0
  · rw [State.restsAt_on, Pkg.bump_on, Pkg.withHidden_on, hon]
  · rw [State.restsAt_get, Pkg.bump_get, Pkg.withHidden_get, hr]
  · rw [State.restsAt_cnt, Pkg.cnt_bump_off _ (by decide), Pkg.withHidden_cnt, ha, hp.counts _ _ List.not_mem_nil]
  · rw [State.restsAt_cnt, Pkg.cnt_bump_same, Pkg.withHidden_cnt, hl, hp.counts _ _ List.not_mem_nil]

end

/-- Settles O13: the deadline and the repeat are their rules with the guard met, and a decision is `takeDecision` on the tile that it reaches. -/
theorem commitDecision : Obligations.CommitDecision := fun _ _ _ _ ha hs =>
  ⟨ksDeadline_aborts ha hs, decisionRepeat_sends ha, fun _ hm hd =>
    ⟨fun hdec _ => decisionAck_standby hm hd hs hdec, fun h12 =>
      ⟨fun hc => hc ▸ runs_decision_early rfl hs (confirm_takes hm hd hc) h12, fun hc => runs_decision_early rfl hs (abort_takes hm hd hc) h12⟩,
      fun _ h3 hd' hst hw => abort_held hs hm (hd' ▸ hd) h3 hst hw⟩⟩

end Sys2Proof.Machine
end

section
/-! PROOFS. What the switch and the trestle do at a commit and when a port is cut off leaves the commit itself alone (R58, R135, R180). -/
namespace Sys2Proof.Machine

/-- An offset that is neither the mode's word nor the commit's status word of any die. -/
def quiet (o : Nat) : Prop := o % 0x4000000 ≠ oModeWord ∧ o % 0x4000000 ≠ oKsStatus

/-- The commit, the mode, the frames that wait for admission and what waits for a commit have stayed. -/
structure Background (p q : Pkg) : Prop where
  undisturbed : Undisturbed p q
  mode   : q.mode = p.mode
  ks     : q.ks = p.ks
  ksTile : q.ksTile = p.ksTile
  ref    : q.ref = p.ref
  waitIn : q.sw.waitIn = p.sw.waitIn
  modeWord : q.rd 15 oModeWord = p.rd 15 oModeWord
  status : ∀ d, q.rd d oKsStatus = p.rd d oKsStatus

/-- Words away from these two have an offset apart from theirs modulo 16, or are no such word by their number. -/
theorem quiet_of_mod {o : Nat} (h : o % 16 ≠ 0) : quiet o := by
  simp only [quiet, oModeWord, oKsStatus]; omega

theorem quiet.modeWord_ne {o : Nat} (h : quiet o) (d : Nat) : pkgAddr 15 oModeWord ≠ pkgAddr d o := Sys2Proof.Machine.modeWord_ne h.1 d

theorem quiet.status_ne {o : Nat} (h : quiet o) (d e : Nat) : pkgAddr e oKsStatus ≠ pkgAddr d o := by
  obtain ⟨_, h⟩ := h
  simp only [pkgAddr, oKsStatus] at *; omega

namespace Background
variable {p q r : Pkg}

theorem refl (p : Pkg) : Background p p := ⟨.refl p, rfl, rfl, rfl, rfl, rfl, rfl, fun _ => rfl⟩

theorem trans (h : Background p q) (h' : Background q r) : Background p r :=
  ⟨h.undisturbed.trans h'.undisturbed, h'.mode.trans h.mode, h'.ks.trans h.ks, h'.ksTile.trans h.ksTile, h'.ref.trans h.ref, h'.waitIn.trans h.waitIn,
    h'.modeWord.trans h.modeWord, fun d => (h'.status d).trans (h.status d)⟩

/-! ### Updates -/

theorem onSw (h : Background p q) {f : SwitchSt → SwitchSt} (hf : ∀ w, (f w).waitIn = w.waitIn) : Background p (q.onSw f) :=
  h.trans ⟨(Undisturbed.refl q).same rfl rfl rfl rfl rfl, rfl, rfl, rfl, rfl, hf _, rfl, fun _ => rfl⟩

theorem emit (h : Background p q) {e : OutEv} : Background p (q.emit e) :=
  h.trans ⟨(Undisturbed.refl q).same rfl rfl rfl rfl rfl, rfl, rfl, rfl, rfl, rfl, rfl, fun _ => rfl⟩

theorem setCnt (h : Background p q) {d o : Nat} {v : Quad} : Background p (q.setCnt d o v) :=
  h.trans ⟨(Undisturbed.refl q).setCnt, rfl, rfl, rfl, rfl, rfl, rfl, fun _ => rfl⟩

theorem bump (h : Background p q) {d o : Nat} : Background p (q.bump d o) := h.setCnt
theorem add (h : Background p q) {d o n : Nat} : Background p (q.add d o n) := h.setCnt

theorem wr (h : Background p q) {d o : Nat} {w : Word} (ho : quiet o) : Background p (q.wr d o w) :=
  have hword : (q.wr d o w).rd 15 oModeWord = q.rd 15 oModeWord := q.rd_wr_ne w (ho.modeWord_ne d)
  h.trans ⟨⟨rfl, rfl, rfl, rfl, congrArg (fieldGet · _ _) hword⟩, rfl, rfl, rfl, rfl, rfl, hword, fun e => q.rd_wr_ne w (ho.status_ne d e)⟩

theorem put (h : Background p q) {d : Nat} {f : Fld} {v : Nat} (ho : quiet f.off) : Background p (q.put d f v) := h.wr ho

theorem ite (h : Background p q) {c : Prop} [Decidable c] (h' : Background p r) : Background p (if c then q else r) := by split <;> assumption

theorem foldl {β : Type} {f : Pkg → β → Pkg} {l : List β} (h : Background p q) (hf : ∀ s b, Background s (f s b)) : Background p (l.foldl f q) :=
  List.foldlRecOn l f h fun s hs b _ => hs.trans (hf s b)

/-! ### Parts of the switch -/

theorem setQst (h : Background p q) {t n c : Nat} {x : QueueSt} : Background p (q.setQst t n c x) := h.onSw fun _ => rfl
theorem setPort (h : Background p q) {t n : Nat} {x : PortSt} : Background p (q.setPort t n x) := h.onSw fun _ => rfl
theorem setQueue (h : Background p q) {t n c : Nat} {l : List Copy} : Background p (q.setQueue t n c l) := h.onSw fun _ => rfl
theorem setFrame (h : Background p q) {i : Nat} {f : FrameRec} : Background p (q.setFrame i f) := h.onSw fun _ => rfl
theorem setPool (h : Background p q) {t : Nat} {x : PoolUse} : Background p (q.setPool t x) := h.onSw fun _ => rfl
theorem setAcct (h : Background p q) {t n c : Nat} {x : AcctUse} : Background p (q.setAcct t n c x) := h.onSw fun _ => rfl
theorem setSpanShared (h : Background p q) {t n c v : Nat} : Background p (q.setSpanShared t n c v) := h.onSw fun _ => rfl
theorem setSpanMinUsed (h : Background p q) {t n c v : Nat} : Background p (q.setSpanMinUsed t n c v) := h.onSw fun _ => rfl
theorem setFrag (h : Background p q) {t i : Nat} {e : Option FragEntry} : Background p (q.setFrag t i e) := h.onSw fun _ => rfl
theorem setMeterSt (h : Background p q) {t i : Nat} {x : MeterSt} : Background p (q.setMeterSt t i x) := h.onSw fun _ => rfl
theorem setRecovSt (h : Background p q) {t i : Nat} {x : RecovSt} : Background p (q.setRecovSt t i x) := h.onSw fun _ => rfl
theorem discard (h : Background p q) {t code n : Nat} : Background p (q.discard t code n) := h.bump.bump

/-! ### Credits and timers of a queue -/

theorem settlePort (h : Background p q) (t n : Nat) : Background p (q.settlePort t n) := h.foldl fun s _ => (refl s).setQst
theorem emptyCredit (h : Background p q) {t n c : Nat} : Background p (q.emptyCredit t n c) := h.setQst.ite h
theorem wdUpdate (h : Background p q) {t n c : Nat} : Background p (q.wdUpdate t n c) := h.setQst.ite (h.setQst.ite h)

/-! ### Pause (R112) -/

theorem sendControl (h : Background p q) {t n : Nat} {e : OutEv} : Background p (q.sendControl t n e) := h.emit.bump.ite h.setPort
theorem sendPfc (h : Background p q) {t n c k : Nat} : Background p (q.sendPfc t n c k) := h.sendControl.setPort
theorem sendPause (h : Background p q) {t n k : Nat} : Background p (q.sendPause t n k) := h.sendControl.setPort
theorem flushControl (h : Background p q) {t n : Nat} : Background p (q.flushControl t n) := h.ite (h.setPort.foldl fun s _ => (refl s).emit.bump)

theorem setXoffBit (h : Background p q) {t n c : Nat} {b : Bool} : Background p (q.setXoffBit t n c b) :=
  h.put (quiet_of_mod (by simp only [fXoffTx, portFld]; omega))

theorem updXoff (h : Background p q) {t n c : Nat} : Background p (q.updXoff t n c) :=
  have hx {b : Bool} := h.setXoffBit (t := t) (n := n) (c := c) (b := b)
  (hx.ite (hx.sendPfc.ite (hx.sendPause.ite hx))).ite h |>.ite ((hx.ite (hx.sendPfc.ite (hx.sendPause.ite hx))).ite h)

/-! ### Frames that leave (R109, R119, R125) -/

theorem releaseCharge (h : Background p q) {t src : Nat} {c : Charge} : Background p (q.releaseCharge t src c) := by
  unfold Pkg.releaseCharge
  split
  · exact h.setAcct.setPool.updXoff
  · exact h.setPool
  · exact h.setPool
  · exact h.setSpanShared.setPool.setSpanMinUsed
  · exact h

theorem releaseFrame (h : Background p q) {i : Nat} : Background p (q.releaseFrame i) := ((h.foldl fun s _ => (refl s).releaseCharge).releaseCharge).setFrame

theorem recircMove (h : Background p q) {t i : Nat} : Background p (q.recircMove t i).1 := by
  unfold Pkg.recircMove
  dsimp only
  split
  · exact h
  · split
    · exact h.releaseFrame.setPool.setFrame
    · exact h

theorem recircFill (h : Background p q) {t : Nat} : Background p (q.recircFill t) := by
  refine List.foldlRecOn (motive := fun (x : Pkg × List Nat) => Background p x.1) _ _ h fun x hx r _ => ?_
  dsimp only
  split
  · exact hx
  · split
    · exact hx.recircMove
    · exact hx

theorem endFrame (h : Background p q) {i : Nat} : Background p (q.endFrame i) := h.releaseFrame.setFrame.recircFill.ite h.releaseFrame.setFrame

theorem dropRef (h : Background p q) {i : Nat} : Background p (q.dropRef i) := by
  unfold Pkg.dropRef
  dsimp only
  split
  · exact h.setFrame
  · split
    · exact h.endFrame.setFrame.ite h.endFrame.endFrame
    · exact h.endFrame

theorem freeCopy (h : Background p q) {c : Copy} : Background p (q.freeCopy c) :=
  have h' := h.setPool.ite (c := c.loc = .ovf) h
  h'.ite h'.dropRef

theorem flushQueue (h : Background p q) {t n c code : Nat} : Background p (q.flushQueue t n c code) :=
  (h.setQueue.foldl fun s _ => (refl s).discard.freeCopy).setQst.wdUpdate

theorem cutOff (h : Background p q) {t n : Nat} : Background p (q.cutOff t n) := by
  unfold Pkg.cutOff
  dsimp only
  rcases (q.port t n).tx with _ | x <;> rcases (q.port t n).susp with _ | y
  · exact h.setPort
  · exact h.setPort.discard.freeCopy
  · exact h.setPort.discard.freeCopy
  · exact h.setPort.discard.freeCopy.discard.freeCopy

/-! ### What a commit changes on a tile (R84, R112, R144, R149, R152, R157, R161, R166) -/

theorem capCredits (h : Background p q) {t : Nat} : Background p (q.capCredits t) :=
  h.foldl fun s _ => (refl s).foldl fun s _ => (refl s).setQst.ite (refl s)

theorem tsWord (h : Background p q) {d n a hi lo v : Nat} (ha : a % 16 ≠ 0) : Background p (q.put d (tsPort n a hi lo) v) :=
  h.put (quiet_of_mod (by simp only [tsPort]; omega))

theorem mergeStart (h : Background p q) {t n : Nat} : Background p (q.mergeStart t n) :=
  have hs := h.settlePort t n
  (hs.tsWord (by decide)).tsWord (by decide) |>.ite <| (hs.tsWord (by decide)).tsWord (by decide) |>.ite <|
    ((hs.tsWord (by decide)).tsWord (by decide)).setPort.ite hs

theorem splitTx (h : Background p q) {t n : Nat} {x : Tx} (hr : q.splitTx t n x = some r) : Background p r := by
  unfold Pkg.splitTx at hr
  dsimp only at hr
  split at hr
  · cases hr
  · cases hr; exact ((h.settlePort t n).setPort).bump.flushControl

theorem cutFragment (h : Background p q) {t n : Nat} : Background p (q.cutFragment t n) := by
  unfold Pkg.cutFragment
  split
  · next x _ =>
    refine h.ite ?_
    rcases hr : q.splitTx t n x with _ | r
    · exact h.ite h.bump.setPort
    · exact h.splitTx hr
  · exact h

theorem expireWindow (h : Background p q) {t n c : Nat} : Background p (q.expireWindow t n c) := h.flushQueue.emptyCredit.add.add

theorem applyGates (h : Background p q) {t n g e : Nat} {hold b : Bool} : Background p (q.applyGates t n g e hold b) := by
  have hs := (((h.settlePort t n).put (d := t) (f := fGates n) (v := g) (quiet_of_mod (by simp only [fGates]; omega))).tsWord (d := t) (n := n)
    (a := 0x14) (hi := 17) (lo := 8) (v := e) (by decide)).tsWord (d := t) (n := n) (a := 0x14) (hi := 18) (lo := 18) (v := bit hold) (by decide)
  exact (hs.foldl fun s _ => (refl s).expireWindow.ite (refl s)).cutFragment.foldl fun s _ => (refl s).wdUpdate

theorem gatesAtCommit (h : Background p q) {t : Nat} {l : List Nat} : Background p (q.gatesAtCommit t l) := by
  refine h.foldl fun s n => (refl s).ite ?_
  dsimp only
  refine ite ?_ (refl s).applyGates
  split
  · exact (refl s).applyGates
  · exact refl s

theorem pauseAtCommit (h : Background p q) {t : Nat} {l : List (Nat × Nat × Bool)} : Background p (q.pauseAtCommit t l) := by
  refine h.foldl fun s x => ?_
  obtain ⟨n, mask, held⟩ := x
  dsimp only
  refine foldl (ite (sendPause (foldl (refl s) ?_)) (ite (sendPause (foldl (refl s) ?_)) (foldl (refl s) ?_))) fun s _ => (refl s).updXoff
  all_goals exact fun s _ => (refl s).sendPfc.ite ((refl s).sendPfc.ite (refl s))

theorem fragFree (h : Background p q) {t i k : Nat} : Background p (q.fragFree t i k) := h.setFrag.bump.put (quiet_of_mod (by simp [fFragUsed]))

theorem fragFlush (h : Background p q) {t : Nat} : Background p (q.fragFlush t) :=
  (h.foldl fun s _ => (refl s).fragFree.ite (refl s)).ite h

theorem wrLive (h : Background p q) {t o : Nat} {w : Word} (ho : quiet o) : Background p (q.wrLive t o w) := by
  unfold Pkg.wrLive
  refine ite ?_ (h.wr ho)
  split
  · exact (h.wr ho).wr ho
  · exact h.wr ho

theorem e2eInit (h : Background p q) {t : Nat} {l : List Nat} : Background p (q.e2eInit t l) :=
  h.foldl fun s _ => (refl s).wrLive (quiet_of_mod (by simp only [e2eCtr]; omega))

theorem beforeCommit (h : Background p q) {t : Nat} : Background p (q.beforeCommit t).1 := h.foldl fun s n => (refl s).settlePort t n

theorem afterCommit (h : Background p q) {t : Nat} {old : OldEpoch} : Background p (q.afterCommit t old) := by
  have hgates := ((h.capCredits (t := t)).foldl (l := List.range 16) (f := fun s n => if s.hasPort t n then s.mergeStart t n else s)
    fun s _ => (refl s).mergeStart.ite (refl s)).gatesAtCommit (t := t) (l := old.gated)
  have hmeters := (hgates.pauseAtCommit (t := t) (l := old.pause)).foldl (l := old.meters) (f := fun s m => s.setMeterSt t m {})
    fun s _ => (refl s).setMeterSt
  exact (hmeters.foldl fun s _ => (refl s).bump.setRecovSt).fragFlush.e2eInit

end Background

end Sys2Proof.Machine
end

section
/-! PROOFS. A commit takes effect on a tile (R58, R61, R68): the part of O14 about T_c. -/
namespace Sys2Proof.Machine

namespace Background
variable {p q : Pkg}

/-! ### The shadows, routes and paths at a commit -/

/-- A tile's shadow leaves the commit's own status word, which has no keystone bits. -/
theorem takeShadow (h : Background p q) {t : Nat} (ht : t < 7) {e : Nat × Word} : Background p (q.takeShadow t e) := by
  have hoff : addrOff e.1 < 2 ^ 26 := Nat.mod_lt _ (by decide)
  have hword : (q.takeShadow t e).rd 15 oModeWord = q.rd 15 oModeWord := q.rd_wr_ne _ (pkgAddr_die_ne (by decide) hoff (by omega))
  refine h.trans ⟨⟨rfl, rfl, rfl, rfl, congrArg (fieldGet · _ _) hword⟩, rfl, rfl, rfl, rfl, rfl, hword, fun d => ?_⟩
  by_cases hd : pkgAddr d oKsStatus = pkgAddr t (addrOff e.1)
  · obtain ⟨rfl, ho⟩ := (pkgAddr_inj (by decide) hoff).1 hd
    rw [Pkg.takeShadow, ← ho, Pkg.rd_wr_same, keystoneMask_ksStatus (by omega)]
    simp [withBits]
  · exact q.rd_wr_ne _ hd

theorem takeShadows (h : Background p q) {t : Nat} (ht : t < 7) : Background p (q.takeShadows t) := by
  rw [Pkg.takeShadows_eq]
  exact (h.foldl fun s _ => (refl s).takeShadow ht).trans ⟨(Undisturbed.refl _).same rfl rfl rfl rfl rfl, rfl, rfl, rfl, rfl, rfl, rfl, fun _ => rfl⟩

theorem setSpanSt (h : Background p q) {t n : Nat} {x : SpanSt} : Background p (q.setSpanSt t n x) :=
  h.trans ⟨(Undisturbed.refl q).same rfl rfl rfl rfl rfl, rfl, rfl, rfl, rfl, rfl, rfl, fun _ => rfl⟩
theorem setRoute (h : Background p q) {a b : Nat} {r : Route} : Background p (q.setRoute a b r) :=
  h.trans ⟨(Undisturbed.refl q).same rfl rfl rfl rfl rfl, rfl, rfl, rfl, rfl, rfl, rfl, fun _ => rfl⟩
theorem chooseCtrl (h : Background p q) {a b : Nat} : Background p (q.chooseCtrl a b) :=
  h.trans ⟨(Undisturbed.refl q).same rfl rfl rfl rfl rfl, rfl, rfl, rfl, rfl, rfl, rfl, fun _ => rfl⟩

theorem recomputeRoutes (h : Background p q) {t : Nat} : Background p (q.recomputeRoutes t) := by
  refine (h.foldl fun s n => ?_).foldl fun s _ => (refl s).setRoute.chooseCtrl.ite (refl s)
  dsimp only
  split
  · exact (refl s).setSpanSt.setSpanSt
  · exact (refl s).setSpanSt

theorem showPaths (h : Background p q) : Background p q.showPaths := h.foldl fun s _ => (refl s).put ⟨by decide, by decide⟩

end Background

theorem Touches.setSpanSt {p q : Pkg} {W C : List Nat} (h : Touches p q W C) {t n : Nat} {x : SpanSt} : Touches p (q.setSpanSt t n x) W C :=
  h.same rfl rfl rfl rfl
theorem Touches.setRoute {p q : Pkg} {W C : List Nat} (h : Touches p q W C) {a b : Nat} {r : Route} : Touches p (q.setRoute a b r) W C :=
  h.same rfl rfl rfl rfl

theorem Touches.chooseCtrl {p q : Pkg} {W C : List Nat} (h : Touches p q W C) {a b : Nat} : Touches p (q.chooseCtrl a b) W C :=
  h.same rfl rfl rfl rfl

theorem recomputeRoutes_touches (s : Pkg) (t : Nat) : Touches s (s.recomputeRoutes t) [] [] := by
  refine ((Touches.refl _ _ _).foldl fun s n _ h => ?_).foldl fun s _ _ h => h.setRoute.chooseCtrl.ite h
  dsimp only
  split
  · exact h.setSpanSt.setSpanSt
  · exact h.setSpanSt

/-- The words of TM_STATUS. -/
abbrev pathWords : List Nat := (List.range 7).map (pkgAddr · fTimePath.off)

theorem showPaths_touches (s : Pkg) : Touches s s.showPaths pathWords [] :=
  (Touches.refl _ _ _).foldl fun _ _ ht h => h.put (List.mem_map_of_mem (List.mem_of_mem_filter (List.mem_of_mem_filter ht)))

/-! ### The new epoch on a tile (R58) -/

/-- The tile takes the epoch that PREPARE carried, is IDLE, and its bank copy starts. -/
def Pkg.takeEpoch (s : Pkg) (t : Nat) (k : KsTile) : Pkg :=
  let s := ((s.put t fEpoch k.epoch).put t fEpoch16 (k.epoch % 65536)).put t fKsState 0
  let s := ((s.put t fBankSync 1).setCnt t oLastTc (BitVec.ofNat 64 k.tc)).bump t oKsCommits
  s.setKsT t { s.ksT t with dec := none }

/-- A tile is in the new epoch: IDLE, its bank copy running. -/
structure InEpoch (s : Pkg) (t : Nat) (k : KsTile) : Prop where
  idle   : s.ksState t = 0
  epoch  : s.get t fEpoch = k.epoch % 2 ^ 32
  sync   : s.on t fBankSync = true
  lastTc : s.cnt t oLastTc = BitVec.ofNat 64 k.tc

theorem Pkg.takeEpoch_ks (s : Pkg) (t : Nat) (k : KsTile) : (s.takeEpoch t k).ks = s.ks := by simp [Pkg.takeEpoch]
theorem Pkg.takeEpoch_sw (s : Pkg) (t : Nat) (k : KsTile) : (s.takeEpoch t k).sw = s.sw := by simp [Pkg.takeEpoch]
theorem Pkg.takeEpoch_mode (s : Pkg) (t : Nat) (k : KsTile) : (s.takeEpoch t k).mode = s.mode := by simp [Pkg.takeEpoch]

theorem Pkg.takeEpoch_inEpoch (s : Pkg) (t : Nat) (k : KsTile) : InEpoch (s.takeEpoch t k) t k := by
  unfold Pkg.takeEpoch
  refine ⟨?_, ?_, ?_, ?_⟩
  · simp only [Pkg.ksState, Pkg.setKsT_get, Pkg.bump_get, Pkg.setCnt_get]
    rw [Pkg.get_put_apart _ _ (Or.inr (by decide)), Pkg.get_put_same _ _ _ _ (by decide), Nat.zero_mod]
  · simp only [Pkg.setKsT_get, Pkg.bump_get, Pkg.setCnt_get]
    rw [Pkg.get_put_apart _ _ (Or.inl (by decide)), Pkg.get_put_apart _ _ (Or.inl (by decide)), Pkg.get_put_apart _ _ (Or.inl (by decide)),
      Pkg.get_put_same _ _ _ _ (by decide)]
    rfl
  · simp only [Pkg.setKsT_on, Pkg.bump_on, Pkg.setCnt_on]
    rw [Pkg.on_put_same _ _ _ _ (by decide)]
    rfl
  · rw [Pkg.setKsT_cnt, Pkg.cnt_bump_off _ (by decide), Pkg.cnt_setCnt_same]

theorem Undisturbed.takeEpoch {p q : Pkg} (h : Undisturbed p q) (t : Nat) (k : KsTile) : Undisturbed p (q.takeEpoch t k) :=
  (((((h.put (modeWord_ne (by decide) t)).put (modeWord_ne (by decide) t)).put (modeWord_ne (by decide) t)).put (modeWord_ne (by decide) t)).setCnt).bump.setKsT

/-- What touches neither status nor epoch of a tile leaves it in its epoch. -/
theorem InEpoch.of_touches {p q : Pkg} {t : Nat} {k : KsTile} {W : List Nat} (h : InEpoch p t k) (hq : Touches p q W [])
    (h1 : pkgAddr t oKsStatus ∉ W) (h2 : pkgAddr t fEpoch.off ∉ W) : InEpoch q t k := by
  have hs : q.rd t 0x200030 = p.rd t 0x200030 := hq.words _ _ h1
  have he : q.rd t 0x200010 = p.rd t 0x200010 := hq.words _ _ h2
  have hc : q.cnt t oLastTc = p.cnt t oLastTc := hq.counts _ _ List.not_mem_nil
  obtain ⟨hidle, hepoch, hsync, hlast⟩ := h
  refine ⟨?_, ?_, ?_, hc.trans hlast⟩
  · simpa only [Pkg.ksState, Pkg.get, fKsState, hs] using hidle
  · simpa only [Pkg.get, fEpoch, he] using hepoch
  · simpa only [Pkg.on, Pkg.get, fBankSync, hs] using hsync

theorem InEpoch.raiseDone {p : Pkg} {t : Nat} {k : KsTile} (h : InEpoch p t k) : InEpoch (p.raise t fKsDone) t k :=
  ⟨by rw [Pkg.ksState, Pkg.raise_get, Pkg.get_put_apart _ _ (Or.inr (by decide))]; exact h.idle,
    by rw [Pkg.raise_get, Pkg.get_put_apart _ _ (Or.inl (by decide))]; exact h.epoch,
    by rw [Pkg.on, Pkg.raise_get, Pkg.get_put_apart _ _ (Or.inr (by decide))]; exact h.sync, h.lastTc⟩

theorem notMem_pathWords {t o : Nat} (h : o % 0x4000000 ≠ 0x10000C) : pkgAddr t o ∉ pathWords := by
  simp only [List.mem_map, not_exists, not_and, pkgAddr, fTimePath]; omega

/-- A tile's shadows and banks taken, before it enters the epoch. -/
def Pkg.shadowsTaken (s : Pkg) (t : Nat) : Pkg := (((s.beforeCommit t).1).takeShadows t).afterCommit t (s.beforeCommit t).2

theorem Background.shadowsTaken (s : Pkg) {t : Nat} (ht : t < 7) : Background s (s.shadowsTaken t) :=
  ((Background.refl s).beforeCommit.takeShadows ht).afterCommit

section
variable {s : Pkg} {t : Nat}

/-- The end of a commit on a tile: the coordinator's own goes on with the package (R32, R70), another one is done. -/
def Pkg.commitEnds (s : Pkg) (t : Nat) : Pkg :=
  if t = s.ks.tile then
    let s := if s.tetherUp s.steward && s.steward < tetherCount s.variant then { s with tether := s.steward } else s
    ((s.onKs (fun k => { k with done := t :: k.done })).modeAtCommit).checkDone
  else s.raise t fKsDone

theorem Pkg.doCommit_eq (s : Pkg) (t : Nat) :
    s.doCommit t = (((((s.shadowsTaken t).takeEpoch t (s.ksT t)).recomputeRoutes t).showPaths).readmit t).commitEnds t := by
  unfold Pkg.doCommit
  extract_lets k b s1 s2 s3 x s4 s5
  have h4 : s4 = (s.shadowsTaken t).takeEpoch t (s.ksT t) := rfl
  have h5 : s5 = ((s4.recomputeRoutes t).showPaths).readmit t := rfl
  rw [← h4, ← h5]
  rfl

/-- A commit on a tile that does not coordinate it, where no frame waits for admission. -/
theorem Pkg.doCommit_other (ht : t < 7) (hne : t ≠ s.ks.tile) (hw : ∀ w ∈ s.sw.waitIn, w.tile ≠ t) :
    ∃ m w, s.doCommit t = (((((s.shadowsTaken t).takeEpoch t (s.ksT t)).recomputeRoutes t).showPaths).withHidden m w).raise t fKsDone := by
  have h0 := Background.shadowsTaken s ht
  have hks : ((s.shadowsTaken t).takeEpoch t (s.ksT t)).ks = s.ks := ((s.shadowsTaken t).takeEpoch_ks t (s.ksT t)).trans h0.ks
  have hwait : ((s.shadowsTaken t).takeEpoch t (s.ksT t)).sw.waitIn = s.sw.waitIn :=
    (congrArg (·.waitIn) ((s.shadowsTaken t).takeEpoch_sw t (s.ksT t))).trans h0.waitIn
  have heff := s.doCommit_eq t
  generalize (s.shadowsTaken t).takeEpoch t (s.ksT t) = p at hks hwait heff ⊢
  have hb : Background p (p.recomputeRoutes t).showPaths := (Background.refl _).recomputeRoutes.showPaths
  obtain ⟨w, hr⟩ := Pkg.readmit_none (s := (p.recomputeRoutes t).showPaths) (t := t) (by rw [hb.waitIn, hwait]; exact hw)
  refine ⟨(p.recomputeRoutes t).showPaths.ksTile, w, ?_⟩
  rw [heff, hr, Pkg.commitEnds, if_neg (by rw [Pkg.withHidden_ks, hb.ks, hks]; exact hne)]

end

theorem Undisturbed.onKs {p q : Pkg} (h : Undisturbed p q) {f : KsCoord → KsCoord} : Undisturbed p (q.onKs f) := h.same rfl rfl rfl rfl rfl

/-! ### T_c on a tile (R58, R61, R68) -/

section
variable {tile : Nat} {s : State} (hin : s.pkg.inService tile = true) (h12 : s.pkg.ksState tile = 1 ∨ s.pkg.ksState tile = 2)
include hin h12

theorem ksCommit_reached : ksCommit tile s.pkg = match (s.pkg.ksT tile).dec with
    | some d => (s.pkg.reachCount tile (s.pkg.ksT tile).tc).actOn tile d
    | none => (s.pkg.reachCount tile (s.pkg.ksT tile).tc).put tile fKsState 3 :=
  Pkg.when_pos _ _ (by rcases h12 with h | h <;> simp [hin, h])

theorem ksCommit_held (hs : s.calm) (hd : (s.pkg.ksT tile).dec = none) : Runs (.ksCommit tile) s (fun t =>
        t.pkg.ksState tile = 3 ∧ t.pkg.now = (s.pkg.reachCount tile (s.pkg.ksT tile).tc).now ∧ Frame s t [pkgAddr tile 0x200030] []) := by
  have heff := ksCommit_reached hin h12
  rw [hd] at heff
  have hu : Undisturbed s.pkg (s.pkg.reachCount tile (s.pkg.ksT tile).tc) := (Undisturbed.refl _).same rfl rfl rfl rfl rfl
  refine runs_onKeystone_kept rfl hs (heff ▸ hu.put (modeWord_ne (by decide) tile)) (by rw [heff]; rfl) ?_
  rw [heff]
  refine ⟨?_, ?_, ((Touches.refl _ _ _).reachCount.put (by simp [fKsState])).rests⟩
  · rw [State.restsAt_ksState, Pkg.ksState, Pkg.get_put_same _ _ _ _ (by decide)]; rfl
  · rw [State.restsAt_now]; rfl

theorem ksCommit_commits (hs : s.calm) (ht : tile < 7) (hd : (s.pkg.ksT tile).dec = some .confirm) (hne : tile ≠ s.pkg.ks.tile)
    (hw : ∀ w ∈ s.pkg.sw.waitIn, w.tile ≠ tile) : Runs (.ksCommit tile) s (fun t =>
        t.pkg.ksState tile = 0 ∧ t.pkg.get tile fEpoch = (s.pkg.ksT tile).epoch % 2 ^ 32 ∧ t.pkg.on tile fBankSync = true ∧
        t.pkg.cnt tile oLastTc = BitVec.ofNat 64 (s.pkg.ksT tile).tc) := by
  have heff := ksCommit_reached hin h12
  rw [hd] at heff
  obtain ⟨m, w, hc⟩ := Pkg.doCommit_other (s := s.pkg.reachCount tile (s.pkg.ksT tile).tc) ht hne hw
  replace heff := heff.trans hc
  have hu : Undisturbed s.pkg (s.pkg.reachCount tile (s.pkg.ksT tile).tc) := (Undisturbed.refl _).same rfl rfl rfl rfl rfl
  have hb := Background.shadowsTaken (s.pkg.reachCount tile (s.pkg.ksT tile).tc) ht
  have hk : (s.pkg.reachCount tile (s.pkg.ksT tile).tc).ksT tile = s.pkg.ksT tile := rfl
  have hm : (s.pkg.reachCount tile (s.pkg.ksT tile).tc).mode = s.pkg.mode := rfl
  generalize s.pkg.reachCount tile (s.pkg.ksT tile).tc = p at heff hu hb hk hm
  rw [hk] at heff
  have hu' := (hu.trans hb.undisturbed).takeEpoch tile (s.pkg.ksT tile)
  have hm' : ((p.shadowsTaken tile).takeEpoch tile (s.pkg.ksT tile)).mode = s.pkg.mode := (Pkg.takeEpoch_mode _ _ _).trans (hb.mode.trans hm)
  have he := (p.shadowsTaken tile).takeEpoch_inEpoch tile (s.pkg.ksT tile)
  generalize (p.shadowsTaken tile).takeEpoch tile (s.pkg.ksT tile) = q at heff hu' hm' he
  have hpath : Background q (q.recomputeRoutes tile).showPaths := (Background.refl _).recomputeRoutes.showPaths
  have hpath' : Touches q (q.recomputeRoutes tile).showPaths pathWords [] :=
    ((recomputeRoutes_touches q tile).mono (by simp) (by simp)).trans (showPaths_touches _)
  have hund : Undisturbed s.pkg (ksCommit tile s.pkg) := heff ▸ (hu'.trans hpath.undisturbed).withHidden.raise (modeWord_ne (by decide) tile)
  have hmode : (ksCommit tile s.pkg).mode = s.pkg.mode := by rw [heff, Pkg.raise_mode, Pkg.withHidden_mode, hpath.mode, hm']
  have hfinal : InEpoch (ksCommit tile s.pkg) tile (s.pkg.ksT tile) :=
    heff ▸ (he.of_touches hpath'.withHidden (notMem_pathWords (by decide)) (notMem_pathWords (by decide))).raiseDone
  obtain ⟨hidle, hepoch, hsync, hlast⟩ := hfinal
  exact runs_onKeystone_kept rfl hs hund hmode ⟨by rw [State.restsAt_ksState, hidle], by rw [State.restsAt_get, hepoch],
    by rw [State.restsAt_on, hsync], by rw [State.restsAt_cnt, hlast]⟩

end

/-! ### The bank copy ends, and the commit's acknowledgements (R58, R64, R70) -/

section
variable {tile at_ : Nat} {s : State}

theorem bankCopyDone_clears (hs : s.calm) (hon : s.pkg.tileOn tile = true) (hb : s.pkg.on tile fBankSync = true)
    (hst : (s.pkg.ksT tile).staged = []) : Runs (.bankCopyDone tile at_) s (fun t =>
        t.pkg.on tile fBankSync = false ∧ t.pkg.ksState tile = s.pkg.ksState tile ∧ Frame s t [pkgAddr tile 0x200030] []) := by
  obtain ⟨m, hm⟩ := Pkg.applyStaged_none (s := (s.pkg.reach at_).put tile fBankSync 0) (t := tile) hst
  have heff : bankCopyDone tile at_ s.pkg = ((s.pkg.reach at_).put tile fBankSync 0).withHidden m ((s.pkg.reach at_).put tile fBankSync 0).sw :=
    by
    rw [bankCopyDone, Pkg.when_pos _ _ (by rw [hon, hb]; rfl), hm]
  have hu : Undisturbed s.pkg (bankCopyDone tile at_ s.pkg) := heff ▸ ((Undisturbed.refl _).reach.put (modeWord_ne (by decide) tile)).withHidden
  refine runs_onKeystone_kept rfl hs hu (by rw [heff]; rfl) ?_
  rw [heff]
  refine ⟨?_, ?_, ((Touches.refl _ _ _).reach.put (by simp [fBankSync])).withHidden.rests⟩
  · rw [State.restsAt_on, Pkg.withHidden_on, Pkg.on_put_same _ _ _ _ (by decide)]; rfl
  · rw [State.restsAt_ksState, Pkg.withHidden_ksState, Pkg.ksState, Pkg.get_put_apart _ _ (Or.inr (by decide))]; rfl

/-- R70: the last acknowledgement sets DONE on the coordinator and ends the sequence. -/
theorem Pkg.checkDone_eq {p : Pkg} (ha : p.ks.active = true) (hd : p.ks.dec = some .confirm) : p.checkDone =
    if ∀ x ∈ p.ks.tiles, x ∈ p.ks.done then (p.raise p.ks.tile fKsDone).onKs (fun k => { k with active := false }) else p := by
  have h : (p.ks.active = true ∧ p.ks.dec = some .confirm ∧ p.ks.tiles.all (fun t => p.ks.done.contains t) = true) ↔ ∀ x ∈ p.ks.tiles, x ∈ p.ks.done := by
    simp [ha, hd]
  exact if_congr h rfl rfl

theorem commitAck_counts (hs : s.calm) (ha : s.pkg.ks.active = true) (hm : tile ∈ s.pkg.ks.tiles) (h0 : s.pkg.ksState tile = 0)
    (hd : s.pkg.ks.dec = some .confirm) (he : s.pkg.get tile fEpoch = s.pkg.ks.epoch) (hup : s.pkg.pairUp s.pkg.ks.tile tile = true) :
    Runs (.commitAck tile at_) s (fun t =>
        (t.pkg.ks.active = false ↔ ∀ x ∈ s.pkg.ks.tiles, x = tile ∨ x ∈ s.pkg.ks.done) ∧
        (t.pkg.ks.active = false → t.pkg.on s.pkg.ks.tile fKsDone = true) ∧ Frame s t [pkgAddr s.pkg.ks.tile 0x200030] []) := by
  obtain ⟨p, hp⟩ : ∃ p, p = (s.pkg.reach at_).onKs (fun k => { k with done := tile :: k.done }) := ⟨_, rfl⟩
  have hdone : (∀ x ∈ p.ks.tiles, x ∈ p.ks.done) ↔ ∀ x ∈ s.pkg.ks.tiles, x = tile ∨ x ∈ s.pkg.ks.done := by rw [hp]; simp [Pkg.onKs]
  have htouch : Touches s.pkg p [pkgAddr s.pkg.ks.tile 0x200030] [] := hp ▸ (Touches.refl _ _ _).reach.onKs
  have hund : Undisturbed s.pkg p := hp ▸ (Undisturbed.refl _).reach.onKs
  have hmode : p.mode = s.pkg.mode := by rw [hp]; rfl
  have hks : p.ks.tile = s.pkg.ks.tile := by rw [hp]; rfl
  have hact : p.ks.active = true := by rw [hp]; exact ha
  have heff : commitAck tile at_ s.pkg = p.checkDone := by
    rw [hp]; exact Pkg.when_pos _ _ (by simp [ha, hm, h0, hd, he, hup])
  rw [Pkg.checkDone_eq hact (by rw [hp]; exact hd), if_congr hdone rfl rfl, hks] at heff
  by_cases hall : ∀ x ∈ s.pkg.ks.tiles, x = tile ∨ x ∈ s.pkg.ks.done
  · rw [if_pos hall] at heff
    have hu : Undisturbed s.pkg (commitAck tile at_ s.pkg) := heff ▸ (hund.raise (modeWord_ne (by decide) _)).onKs
    refine runs_onKeystone_kept rfl hs hu (by rw [heff]; exact hmode) ?_
    rw [heff]
    refine ⟨?_, fun _ => ?_, (htouch.raise (by simp [fKsDone])).onKs.rests⟩
    · rw [State.restsAt_ks]; exact iff_of_true rfl hall
    · rw [State.restsAt_on]; exact Pkg.on_raise_same p _ _ (by decide) (by decide)
  · rw [if_neg hall] at heff
    refine runs_onKeystone_kept rfl hs (heff ▸ hund) (by rw [heff]; exact hmode) ?_
    rw [heff]
    refine ⟨?_, fun h => ?_, htouch.rests⟩
    · rw [State.restsAt_ks, hact]; exact iff_of_false (by simp) hall
    · rw [State.restsAt_ks, hact] at h; cases h

end

end Sys2Proof.Machine
end

section
/-! PROOFS. A tile that is lost in a commit (R47, R68, R69, R180, R204, R297), and what O14 asks. -/
namespace Sys2Proof.Machine

/-! ### A mode transition -/

section
variable (s : Pkg) (m reason : Nat)

/-- A mode transition leaves what neither words, counters, clocks nor interrupts hold. -/
theorem Pkg.setMode_same {β : Type} (π : Pkg → β) (hclock : ∀ (s : Pkg) c, π { s with clocks := c } = π s)
    (hmsix : ∀ (s : Pkg) x, π { s with msix := x } = π s) (hword : ∀ (s : Pkg) d f v, π (s.put d f v) = π s)
    (hcnt : ∀ (s : Pkg) d o v, π (s.setCnt d o v) = π s) : π (s.setMode m reason) = π s := by
  obtain ⟨c, hc⟩ := s.stepClock_eq m
  refine (Pkg.onEach_same π (fun s t => hmsix s _) _ _).trans ?_
  rw [Pkg.bump, Pkg.add, hcnt, hcnt, hword, hword, hword, hc, hclock]

theorem Pkg.setMode_rd {d o : Nat} (h : pkgAddr d o ≠ pkgAddr 15 oModeWord) : (s.setMode m reason).rd d o = s.rd d o :=
  ((Touches.refl s [pkgAddr 15 oModeWord] [pkgAddr 15 oLastChange, pkgAddr 15 oTransitions]).setMode (by simp) (by simp) (by simp)).words d o (by simpa)

theorem Pkg.setMode_tilesOn : (s.setMode m reason).get 15 fTilesOn = s.get 15 fTilesOn := by
  obtain ⟨c, hc⟩ := s.stepClock_eq m
  rw [Pkg.setMode, Pkg.onEach_event_get, Pkg.bump_get, Pkg.setCnt_get, Pkg.get_put_apart _ _ (Or.inr (by decide)), Pkg.get_put_apart _ _ (Or.inr (by decide)),
    Pkg.get_put_apart _ _ (Or.inr (by decide)), hc]
  rfl

theorem Undisturbed.setMode {p q : Pkg} (h : Undisturbed p q) {m reason : Nat} : Undisturbed p (q.setMode m reason) :=
  h.trans ⟨q.setMode_same _ _ (·.variant) (fun _ _ => rfl) (fun _ _ => rfl) (fun _ _ _ _ => rfl) (fun _ _ _ _ => rfl),
    q.setMode_same _ _ (·.portQ) (fun _ _ => rfl) (fun _ _ => rfl) (fun _ _ _ _ => rfl) (fun _ _ _ _ => rfl),
    q.setMode_same _ _ (·.boot) (fun _ _ => rfl) (fun _ _ => rfl) (fun _ _ _ _ => rfl) (fun _ _ _ _ => rfl), q.setMode_trestles _ _, q.setMode_tilesOn _ _⟩

end

/-! ### A tile is declared lost (R47, R68, R297) -/

/-- A tile in service has been declared lost in RUN, with what its loss moves to tile 1. -/
structure DeclaredLost (p q : Pkg) (t : Nat) : Prop where
  undisturbed : Undisturbed p q
  lost    : q.mode.lost = t :: p.mode.lost
  steward : q.steward = if t = p.steward ∧ 2 ≤ p.variant.tiles ∧ t = 0 then 1 else p.steward
  ref     : q.ref = if t = p.ref ∧ 2 ≤ p.variant.tiles ∧ t = 0 then 1 else p.ref
  ks      : q.ks = p.ks
  ksTile  : q.ksTile = p.ksTile
  status  : ∀ d, q.rd d oKsStatus = p.rd d oKsStatus
  modeNow : q.modeNow = mDegraded
  reason  : q.get 15 fReason = 10

/-- The mode's part of the loss: the list of lost tiles, the time reference, steward and tether. -/
def Pkg.handOver (s : Pkg) (t : Nat) : Pkg :=
  let s := s.onMode (fun m => { m with lost := t :: m.lost })
  let s := if t = s.ref ∧ 2 ≤ s.variant.tiles ∧ t = 0 then { s with ref := 1 } else s
  if t = s.mode.steward ∧ 2 ≤ s.variant.tiles ∧ t = 0 then { s.onMode (fun m => { m with steward := 1 }) with tether := 1 } else s

section
variable {p : Pkg} {t : Nat}

theorem Pkg.refMoves (s : Pkg) (c : Prop) [Decidable c] : (if c then { s with ref := 1 } else s) = { s with ref := if c then 1 else s.ref } := by
  split <;> rfl

theorem Pkg.stewardMoves (s : Pkg) (c : Prop) [Decidable c] : (if c then { s.onMode (fun m => { m with steward := 1 }) with tether := 1 } else s) =
    { s with mode := { s.mode with steward := if c then 1 else s.mode.steward }, tether := if c then 1 else s.tether } := by
  split <;> rfl

theorem Pkg.declareLost_eq (h : p.isLost t = false) : p.declareLost t = (p.handOver t).degrade 10 := by
  unfold Pkg.declareLost
  rw [h]; rfl

/-- The hidden parts that a loss may hand over; nothing else of the package changes. -/
theorem Pkg.handOver_eq : ∃ x, p.handOver t = { p with
    ref := if t = p.ref ∧ 2 ≤ p.variant.tiles ∧ t = 0 then 1 else p.ref, tether := x
    mode := { p.mode with lost := t :: p.mode.lost, steward := if t = p.steward ∧ 2 ≤ p.variant.tiles ∧ t = 0 then 1 else p.steward } } := by
  refine ⟨if t = p.steward ∧ 2 ≤ p.variant.tiles ∧ t = 0 then 1 else p.tether, ?_⟩
  rw [Pkg.handOver, Pkg.refMoves, Pkg.stewardMoves]
  rfl

theorem Pkg.declareLost_declared (hin : p.inService t = true) (hm : p.modeNow = mRun) : DeclaredLost p (p.declareLost t) t := by
  have hlost : p.isLost t = false := by
    simp only [Pkg.inService, Bool.and_eq_true, Bool.not_eq_true'] at hin
    exact hin.2
  obtain ⟨x, hx⟩ := p.handOver_eq (t := t)
  have heff : p.declareLost t = (p.handOver t).setMode mDegraded 10 := by
    rw [Pkg.declareLost_eq hlost, Pkg.degrade, if_pos (Or.inl (by rw [hx]; exact hm))]
  have hu : Undisturbed p (p.handOver t) := by rw [hx]; exact (Undisturbed.refl p).same rfl rfl rfl rfl rfl
  rw [heff]
  refine ⟨hu.setMode, ?_, ?_, ?_, ?_, ?_, fun d => ?_, Pkg.setMode_modeNow _ _ _ (by decide), Pkg.setMode_reason _ _ _ (by decide)⟩
  · rw [Pkg.setMode_mode, hx]
  · rw [Pkg.steward, Pkg.setMode_mode, hx]
  · rw [(p.handOver t).setMode_same _ _ (·.ref) (fun _ _ => rfl) (fun _ _ => rfl) (fun _ _ _ _ => rfl) (fun _ _ _ _ => rfl), hx]
  · rw [(p.handOver t).setMode_same _ _ (·.ks) (fun _ _ => rfl) (fun _ _ => rfl) (fun _ _ _ _ => rfl) (fun _ _ _ _ => rfl), hx]
  · rw [(p.handOver t).setMode_same _ _ (·.ksTile) (fun _ _ => rfl) (fun _ _ => rfl) (fun _ _ _ _ => rfl) (fun _ _ _ _ => rfl), hx]
  · rw [Pkg.setMode_rd _ _ _ (by simp only [pkgAddr, oKsStatus, oModeWord]; omega), hx]; rfl

theorem declareLost_touches (p : Pkg) (t : Nat) :
    Touches p (p.declareLost t) [pkgAddr 15 0x60000] [pkgAddr 15 oLastChange, pkgAddr 15 oTransitions] := by
  cases hl : p.isLost t with
  | true =>
    have heff : p.declareLost t = p := if_pos hl
    rw [heff]; exact Touches.refl _ _ _
  | false =>
    obtain ⟨x, hx⟩ := p.handOver_eq (t := t)
    have hh : Touches p (p.handOver t) [pkgAddr 15 0x60000] [pkgAddr 15 oLastChange, pkgAddr 15 oTransitions] := by
      rw [hx]; exact (Touches.refl _ _ _).same rfl rfl rfl rfl
    rw [Pkg.declareLost_eq hl]; exact hh.degrade (by simp) (by simp) (by simp)

end

/-! ### The trestle moves (R180, R204) -/

/-- A generate counter has a number of 12 bits. -/
theorem Pkg.generateCounters_lt {s : Pkg} {t i : Nat} (h : i ∈ s.generateCounters t) : i < 4096 := by
  obtain ⟨w, _, rfl⟩ := List.mem_map.1 (List.mem_eraseDups.1 h)
  exact fieldGet_lt _ 19 8

theorem Background.setFv {p q : Pkg} (h : Background p q) {t i v : Nat} (hi : i < 4096) : Background p (q.setFv t i v) :=
  have hq (b : Nat) (hb : b ≤ 4) : quiet (fvOff i + b) := by simp only [quiet, fvOff, oModeWord, oKsStatus]; omega
  (h.wrLive (hq 0 (by decide))).wrLive (hq 4 (by decide))

theorem Background.skipCounters {p q : Pkg} (h : Background p q) {t : Nat} : Background p (q.skipCounters t) :=
  List.foldlRecOn _ _ h fun _ hs _ hi => hs.setFv (Pkg.generateCounters_lt hi)

theorem Background.trestleMoves {p q : Pkg} (h : Background p q) : Background p q.trestleMoves :=
  (h.foldl fun s _ => (refl s).cutOff.foldl fun s _ => (refl s).flushQueue.emptyCredit).skipCounters

theorem DeclaredLost.background {p q r : Pkg} {t : Nat} (h : DeclaredLost p q t) (hb : Background q r) : DeclaredLost p r t :=
  ⟨h.undisturbed.trans hb.undisturbed, by rw [hb.mode, h.lost], by rw [Pkg.steward, hb.mode]; exact h.steward, hb.ref.trans h.ref, hb.ks.trans h.ks,
    hb.ksTile.trans h.ksTile, fun d => (hb.status d).trans (h.status d), by rw [Pkg.modeNow, Pkg.get, ← h.modeNow]; exact congrArg (fieldGet · _ _) hb.modeWord,
    by rw [Pkg.get, ← h.reason]; exact congrArg (fieldGet · _ _) hb.modeWord⟩

theorem DeclaredLost.of_reach {p q : Pkg} {n t : Nat} (h : DeclaredLost (p.reach n) q t) : DeclaredLost p q t :=
  ⟨(Undisturbed.refl p).reach.trans h.undisturbed, h.lost, h.steward, h.ref, h.ks, h.ksTile, h.status, h.modeNow, h.reason⟩

section
variable {p : Pkg} {t : Nat}

theorem Pkg.loseTile_declared (hin : p.inService t = true) (hm : p.modeNow = mRun) : DeclaredLost p (p.loseTile t) t := by
  have hd := Pkg.declareLost_declared hin hm
  unfold Pkg.loseTile
  dsimp only
  split
  · exact hd
  · exact hd.background (Background.refl _).trestleMoves

/-- The loss of another tile than the steward's moves no trestle. -/
theorem Pkg.loseTile_other (hin : p.inService t = true) (hm : p.modeNow = mRun) (h : t ≠ p.steward) : p.loseTile t = p.declareLost t := by
  have hs := (Pkg.declareLost_declared hin hm).steward
  rw [if_neg fun hc => h hc.1] at hs
  exact if_pos hs

end

/-! ### The commit goes on without the tile (R68, R69) -/

/-- Only the commit, its status words and hidden parts that no command waits on have changed. -/
structure OnlyCommit (p q : Pkg) : Prop where
  undisturbed : Undisturbed p q
  mode : q.mode = p.mode
  ref  : q.ref = p.ref
  modeWord : q.rd 15 oModeWord = p.rd 15 oModeWord

namespace OnlyCommit
variable {p q : Pkg}

theorem refl (p : Pkg) : OnlyCommit p p := ⟨.refl p, rfl, rfl, rfl⟩
theorem onKs (h : OnlyCommit p q) {f : KsCoord → KsCoord} : OnlyCommit p (q.onKs f) := ⟨h.undisturbed.onKs, h.mode, h.ref, h.modeWord⟩
theorem withHidden (h : OnlyCommit p q) {m : SMap KsTile} {w : SwitchSt} : OnlyCommit p (q.withHidden m w) :=
  ⟨h.undisturbed.withHidden, h.mode, h.ref, h.modeWord⟩
theorem raiseDone (h : OnlyCommit p q) {d : Nat} : OnlyCommit p (q.raise d fKsDone) :=
  ⟨h.undisturbed.raise (modeWord_ne (by decide) d), h.mode, h.ref, (q.rd_put_ne 1 (modeWord_ne (by decide) d)).trans h.modeWord⟩
theorem checkDone (h : OnlyCommit p q) : OnlyCommit p q.checkDone := by unfold Pkg.checkDone; split; exacts [h.raiseDone.onKs, h]
theorem checkAborted (h : OnlyCommit p q) : OnlyCommit p q.checkAborted := by
  obtain h' | h' := q.checkAborted_cases <;> rw [h']
  · exact h
  · exact h.onKs

end OnlyCommit

/-- The sequencer at the end of a commit or abort has changed in nothing but whether it is active. -/
theorem Pkg.checkDone_ks (p : Pkg) : ∃ b, p.checkDone.ks = { p.ks with active := b } := by
  unfold Pkg.checkDone; split
  · exact ⟨false, rfl⟩
  · exact ⟨p.ks.active, rfl⟩

theorem Pkg.checkAborted_ks (p : Pkg) : ∃ b, p.checkAborted.ks = { p.ks with active := b } := by
  obtain h | h := p.checkAborted_cases <;> rw [h]
  · exact ⟨p.ks.active, rfl⟩
  · exact ⟨false, rfl⟩

theorem Pkg.checkAborted_ksT (p : Pkg) (t : Nat) : p.checkAborted.ksT t = p.ksT t := by
  obtain h | h := p.checkAborted_cases <;> rw [h]
  rfl

theorem checkDone_touches (p : Pkg) : Touches p p.checkDone [pkgAddr p.ks.tile oKsStatus] [] :=
  ((Touches.refl _ _ _).raise (by simp [fKsDone])).onKs.ite (Touches.refl _ _ _)

theorem checkAborted_touches (p : Pkg) : Touches p p.checkAborted [] [] := by
  obtain h | h := p.checkAborted_cases <;> rw [h]
  · exact Touches.refl _ _ _
  · exact (Touches.refl _ _ _).onKs

section
variable {p : Pkg} {t : Nat}

/-- A tile other than the coordinator's leaves a commit that is decided, where its acknowledgement was not awaited first. -/
theorem Pkg.ksDropTile_other (ha : p.ks.active = true) (hne : t ≠ p.ks.tile) (hdec : p.ks.dec ≠ none) (hst : p.ks.stdbyAck = true ∨ t ≠ 1) :
    p.ksDropTile t = (p.onKs (fun k => { k with tiles := k.tiles.filter (· != t) })).checkDone.checkAborted := by
  have h1 : ¬ (p.ks.dec.isSome = true ∧ (!p.ks.stdbyAck) = true ∧ t = 1) := by
    rintro ⟨_, h, h'⟩
    exact hst.elim (fun hs => by simp [hs] at h) (fun hn => hn h')
  have h2 : p.ks.dec.isNone = false := Option.isNone_eq_false_iff.2 (Option.isSome_iff_ne_none.2 hdec)
  unfold Pkg.ksDropTile
  simp only [ha, hne, Pkg.onKs, h1, h2, Bool.not_true, Bool.false_eq_true, if_false, false_and]

/-- The sequencer as the standby's tile takes it over (R69). -/
def Pkg.takenOver (p : Pkg) (t : Nat) (d : Decision) : Pkg :=
  (p.onKs (fun k => { k with tiles := k.tiles.filter (· != t) })).onKs
    (fun k => { k with tile := 1, dec := some d, stdbyAck := true, acked := [1], lastSent := p.now })

/-- R69: tile 1 goes on for a lost coordinator. -/
theorem Pkg.ksDropTile_coordinator (ha : p.ks.active = true) (he : t = p.ks.tile) (h1 : p.inService 1 = true) :
    p.ksDropTile t = ((p.takenOver t ((p.ksT 1).held.getD (.abort 3))).takeDecision 1 ((p.ksT 1).held.getD (.abort 3))).checkAborted := by
  have h1' : (p.onKs (fun k => { k with tiles := k.tiles.filter (· != t) })).inService 1 = true := h1
  unfold Pkg.ksDropTile
  simp only [ha, ← he, h1', Bool.not_true, Bool.false_eq_true, if_false, if_true]
  rfl

end

/-! ### TILE_LOST -/

theorem Pkg.inService_of {p q : Pkg} (h : Undisturbed p q) (t : Nat) : q.inService t = (p.tileOn t && !q.mode.lost.contains t) := by
  rw [Pkg.inService, Pkg.isLost, h.tileOn]

/-- What holds of a package that has lost a tile. -/
def LostTile (p q : Pkg) (t : Nat) : Prop :=
  q.inService t = false ∧ (t = 0 → 2 ≤ p.variant.tiles → p.steward = 0 → q.steward = 1) ∧ (t = 0 → 2 ≤ p.variant.tiles → p.ref = 0 → q.ref = 1) ∧
  q.modeNow = mDegraded ∧ q.get 15 fReason = 10

theorem DeclaredLost.lostTile {p q r : Pkg} {t : Nat} (h : DeclaredLost p q t) (hr : OnlyCommit q r) : LostTile p r t := by
  obtain ⟨hu, hlost, hst, href, _, _, _, hmode, hreason⟩ := h
  obtain ⟨hu', hm, hr, hw⟩ := hr
  refine ⟨?_, fun h0 h2 hs => ?_, fun h0 h2 hs => ?_, ?_, ?_⟩
  · rw [Pkg.inService_of hu', hm, hlost]; simp
  · rw [Pkg.steward, hm]; exact hst.trans (if_pos ⟨h0.trans hs.symm, h2, h0⟩)
  · exact (hr.trans href).trans (if_pos ⟨h0.trans hs.symm, h2, h0⟩)
  · rw [Pkg.modeNow, Pkg.get, ← hmode]; exact congrArg (fieldGet · _ _) hw
  · rw [Pkg.get, ← hreason]; exact congrArg (fieldGet · _ _) hw

theorem LostTile.rests {s : State} {q : Pkg} {t : Nat} (h : LostTile s.pkg q t) : LostTile s.pkg (s.restsAt q).pkg t := by
  obtain ⟨hin, hs, hr, hm, hreason⟩ := h
  refine ⟨?_, ?_, ?_, ?_, ?_⟩
  · simpa only [Pkg.inService, Pkg.tileOn, Pkg.isLost, State.restsAt_variant, State.restsAt_get, State.restsAt_mode] using hin
  · simpa only [Pkg.steward, State.restsAt_mode] using hs
  · simpa only [State.restsAt_ref] using hr
  · rw [State.restsAt_modeNow, hm]
  · rw [State.restsAt_get, hreason]

section
variable {tile at_ : Nat} {s : State}

theorem tileLost_loses (hin : s.pkg.inService tile = true) (hun : (s.pkg.reach at_).unanswering tile = true) :
    tileLost tile at_ s.pkg = ((s.pkg.reach at_).loseTile tile).ksDropTile tile :=
  Pkg.when_pos _ _ (by rw [hun, Bool.and_true]; exact hin)

/-- A lost tile sets nothing going, where no frame of either trestle waits. -/
theorem runs_tileLost {q : Pkg} {P : State → Prop} (hs : s.calm) (hr1 : (s.pkg.trestle 1).ready = []) (hd : DeclaredLost s.pkg q tile)
    (ho : OnlyCommit q (tileLost tile at_ s.pkg)) (hp : P (s.restsAt (tileLost tile at_ s.pkg))) : Runs (.tileLost tile at_) s P := by
  have hu := hd.undisturbed.trans ho.undisturbed
  refine runs_onKeystone rfl hs hu ?_ hp
  have hst : (tileLost tile at_ s.pkg).steward = 1 ∨ (tileLost tile at_ s.pkg).steward = s.pkg.steward := by
    rw [show (tileLost tile at_ s.pkg).steward = q.steward from congrArg (·.steward) ho.mode, hd.steward]
    split
    · exact .inl rfl
    · exact .inr rfl
  rw [Pkg.trestle, hu.trestles]
  rcases hst with h | h <;> rw [h]
  · exact hr1
  · exact hs.1

theorem unanswering_other (hun : (s.pkg.reach at_).unanswering tile = true) (hne : tile ≠ s.pkg.ks.tile) : s.pkg.ks.active = true ∧ s.pkg.ks.dec ≠ none := by
  simp only [Pkg.unanswering, Pkg.reach_ks, if_neg hne, Bool.and_eq_true] at hun
  obtain ⟨⟨ha, _⟩, ⟨hdec, _⟩, _⟩ := hun
  exact ⟨ha, by simpa [Option.isSome_iff_ne_none] using hdec⟩

section
variable (hs : s.calm) (hin : s.pkg.inService tile = true) (hm : s.pkg.modeNow = mRun) (hun : (s.pkg.reach at_).unanswering tile = true)
  (hr1 : (s.pkg.trestle 1).ready = [])
include hs hin hm hun hr1

theorem tileLost_other (hne : tile ≠ s.pkg.ks.tile) (hst : s.pkg.ks.stdbyAck = true ∨ tile ≠ 1) : Runs (.tileLost tile at_) s (fun t =>
        t.pkg.inService tile = false ∧ t.pkg.ks.tiles = s.pkg.ks.tiles.filter (· != tile) ∧ t.pkg.ks.dec = s.pkg.ks.dec ∧
        (tile = 0 → 2 ≤ s.pkg.variant.tiles → s.pkg.steward = 0 → t.pkg.steward = 1) ∧
        (tile = 0 → 2 ≤ s.pkg.variant.tiles → s.pkg.ref = 0 → t.pkg.ref = 1) ∧ t.pkg.modeNow = mDegraded ∧ t.pkg.get 15 fReason = 10 ∧
        (tile ≠ s.pkg.steward → Frame s t [pkgAddr 15 0x60000, pkgAddr s.pkg.ks.tile 0x200030] [pkgAddr 15 oLastChange, pkgAddr 15 oTransitions])) := by
  obtain ⟨ha, hdec⟩ := unanswering_other hun hne
  have hd : DeclaredLost s.pkg ((s.pkg.reach at_).loseTile tile) tile := (Pkg.loseTile_declared (p := s.pkg.reach at_) hin hm).of_reach
  have htouch (hst : tile ≠ s.pkg.steward) : Touches s.pkg ((s.pkg.reach at_).loseTile tile) [pkgAddr 15 0x60000, pkgAddr s.pkg.ks.tile 0x200030]
      [pkgAddr 15 oLastChange, pkgAddr 15 oTransitions] := by
    rw [Pkg.loseTile_other (p := s.pkg.reach at_) hin hm hst]
    exact (Touches.refl _ _ _).reach.trans ((declareLost_touches _ _).mono (by simp) (by simp))
  have heff := tileLost_loses hin hun
  generalize (s.pkg.reach at_).loseTile tile = q at hd htouch heff
  rw [Pkg.ksDropTile_other (by rw [hd.ks]; exact ha) (by rw [hd.ks]; exact hne) (by rw [hd.ks]; exact hdec) (by rw [hd.ks]; exact hst)] at heff
  have ho : OnlyCommit q (tileLost tile at_ s.pkg) := heff ▸ (OnlyCommit.refl q).onKs.checkDone.checkAborted
  obtain ⟨b, hb⟩ := (q.onKs (fun k => { k with tiles := k.tiles.filter (· != tile) })).checkDone_ks
  obtain ⟨b', hb'⟩ := (q.onKs (fun k => { k with tiles := k.tiles.filter (· != tile) })).checkDone.checkAborted_ks
  have hks : (tileLost tile at_ s.pkg).ks = { s.pkg.ks with tiles := s.pkg.ks.tiles.filter (· != tile), active := b' } := by
    rw [heff, hb', hb, ← hd.ks]; rfl
  obtain ⟨hin', hst', href', hmode', hreason'⟩ := (hd.lostTile ho).rests (s := s)
  refine runs_tileLost hs hr1 hd ho ⟨hin', ?_, ?_, hst', href', hmode', hreason', fun hst => ?_⟩
  · rw [State.restsAt_ks, hks]
  · rw [State.restsAt_ks, hks]
  · have hq : (q.onKs (fun k => { k with tiles := k.tiles.filter (· != tile) })).ks.tile = s.pkg.ks.tile := by rw [← hd.ks]; rfl
    rw [heff]
    exact ((htouch hst).onKs.trans (((checkDone_touches _).mono (by rw [hq]; simp) (by simp)).trans
      ((checkAborted_touches _).mono (by simp) (by simp)))).rests

theorem tileLost_coordinator (he : tile = s.pkg.ks.tile) (h1 : s.pkg.inService 1 = true) (hne : tile ≠ 1)
    (h12 : s.pkg.ksState 1 = 1 ∨ s.pkg.ksState 1 = 2) : Runs (.tileLost tile at_) s (fun t =>
        t.pkg.inService tile = false ∧ t.pkg.ks.tile = 1 ∧ t.pkg.ks.dec = some ((s.pkg.ksT 1).held.getD (.abort 3)) ∧
        (t.pkg.ksT 1).dec = t.pkg.ks.dec ∧
        (tile = 0 → 2 ≤ s.pkg.variant.tiles → s.pkg.steward = 0 → t.pkg.steward = 1) ∧
        (tile = 0 → 2 ≤ s.pkg.variant.tiles → s.pkg.ref = 0 → t.pkg.ref = 1) ∧ t.pkg.modeNow = mDegraded ∧ t.pkg.get 15 fReason = 10) := by
  have ha : s.pkg.ks.active = true := by
    simp only [Pkg.unanswering, Pkg.reach_ks, Bool.and_eq_true] at hun
    exact hun.1.1
  have hd : DeclaredLost s.pkg ((s.pkg.reach at_).loseTile tile) tile := (Pkg.loseTile_declared (p := s.pkg.reach at_) hin hm).of_reach
  have heff := tileLost_loses hin hun
  generalize (s.pkg.reach at_).loseTile tile = q at hd heff
  have h1' : q.inService 1 = true := by
    rw [Pkg.inService_of hd.undisturbed, hd.lost, List.contains_cons, beq_false_of_ne (Ne.symm hne)]
    exact h1
  have hheld : q.ksT 1 = s.pkg.ksT 1 := by rw [Pkg.ksT, hd.ksTile]; rfl
  rw [Pkg.ksDropTile_coordinator (by rw [hd.ks]; exact ha) (by rw [hd.ks]; exact he) h1', hheld] at heff
  generalize (s.pkg.ksT 1).held.getD (.abort 3) = d at heff ⊢
  have h12' : (q.takenOver tile d).ksState 1 = 1 ∨ (q.takenOver tile d).ksState 1 = 2 := by
    rw [show (q.takenOver tile d).ksState 1 = s.pkg.ksState 1 from congrArg (fieldGet · 1 0) (hd.status 1)]
    exact h12
  obtain ⟨m, hq, hqd⟩ := Pkg.takeDecision_early d h12'
  obtain ⟨b, hb⟩ := ((q.takenOver tile d).takeDecision 1 d).checkAborted_ks
  have hksT : (tileLost tile at_ s.pkg).ksT 1 = ((q.takenOver tile d).takeDecision 1 d).ksT 1 := by rw [heff, Pkg.checkAborted_ksT]
  have ho : OnlyCommit q (tileLost tile at_ s.pkg) := by
    rw [heff, hq]; exact (OnlyCommit.refl q).onKs.onKs.withHidden.checkAborted
  rw [hq, Pkg.withHidden_ks] at hb
  rw [hq] at heff
  have hks : (tileLost tile at_ s.pkg).ks.tile = 1 ∧ (tileLost tile at_ s.pkg).ks.dec = some d := by rw [heff, hb]; exact ⟨rfl, rfl⟩
  obtain ⟨hin', hst', href', hmode', hreason'⟩ := (hd.lostTile ho).rests (s := s)
  refine runs_tileLost hs hr1 hd ho ⟨hin', ?_, ?_, ?_, hst', href', hmode', hreason'⟩
  · rw [State.restsAt_ks, hks.1]
  · rw [State.restsAt_ks, hks.2]
  · rw [State.restsAt_ks, State.restsAt_ksT, hksT, hqd, hks.2]

end

/-- A tile that does not fail so is not lost. -/
theorem tileLost_answering (hs : s.calm) (hun : (s.pkg.reach at_).unanswering tile = false) : Runs (.tileLost tile at_) s (fun t =>
      t.pkg.inService tile = s.pkg.inService tile ∧ t.pkg.ks = s.pkg.ks ∧ Frame s t [] []) := by
  have heff : tileLost tile at_ s.pkg = s.pkg.reach at_ := Pkg.when_neg _ _ (by rw [hun, Bool.and_false])
  refine runs_onKeystone_kept rfl hs (heff ▸ (Undisturbed.refl _).reach) (by rw [heff]; rfl) ?_
  rw [heff]
  refine ⟨?_, State.restsAt_ks _ _, (Touches.refl _ _ _).reach.rests⟩
  simp only [Pkg.inService, Pkg.tileOn, Pkg.isLost, State.restsAt_variant, State.restsAt_get, State.restsAt_mode]
  rfl

end

/-- Settles O14: at T_c the tile's part of the commit, then the coordinator's counts, and a lost tile leaves the commit as its role asks. -/
theorem commitTakesEffect : Obligations.CommitTakesEffect := fun _ _ _ ht hs =>
  ⟨fun hin h12 => ⟨ksCommit_held hin h12 hs, ksCommit_commits hin h12 hs ht⟩, bankCopyDone_clears hs, commitAck_counts hs,
    fun hin hm hun hr1 => ⟨tileLost_other hs hin hm hun hr1, tileLost_coordinator hs hin hm hun hr1⟩, tileLost_answering hs⟩

end Sys2Proof.Machine
end

section
/-! PROOFS. A frame that overruns its account (R72, R111, R114): O16 fails, as the writers' give-back of its clock is undone with it. -/
namespace Sys2Proof.Machine

/-! ### A good frame that its account cannot hold -/

section
variable {s : Pkg} {t p : Nat} {f : RxFrame}

/-- A good frame that is no MAC control frame enters, where MACsec is off. -/
theorem Pkg.receiveMac_good (count : Nat) (h : s.macFault t p f = 0) (hb : beAt f.bytes 12 2 ≠ 0x8808) (hs : ¬ (p < 16 ∧ s.on t (fRxMsEnable p) = true)) :
    s.receiveMac t p f count = s.enter t p (arrivalClass p f) (cellsOf (f.bytes.length + 4)) f.bytes false 0 f.tsReq false count := by
  simp only [Pkg.receiveMac, h, if_neg hb, if_neg hs]

/-- The frame that does not fit is discarded from the package as it was before its port's turn. -/
theorem Pkg.enter_overrun {c n count : Nat} {bytes : List Byte} {secured tsReq bad : Bool} {sc : Nat}
    (h : (s.takeTurn t p c n).drawable t p c n = none) : s.enter t p c n bytes secured sc tsReq bad count = s.discard t 19 p := by
  have hdraw : (s.takeTurn t p c n).drawCells t p c n = none := by rw [Pkg.drawCells, h]
  rw [Pkg.enter, hdraw]

/-- FRAME_RECEIVE of a whole frame is the MAC's. -/
theorem frameReceive_express (at_ : Nat) (hin : s.inService t = true) (hp : s.hasPort t p = true) (hl : s.linkUp t p = true)
    (hm : macPort t p = true) (he : f.part = .express) :
    frameReceive t p f at_ s = (s.reach at_).receiveMac t p f ((s.reach at_).count t) := by
  rw [frameReceive, Pkg.when_pos _ _ (by rw [hin, hp, hl]; rfl), Pkg.receiveMerge, he]
  simp only [hm, if_true, ite_self]

end

/-- A good frame that overruns its account leaves the switch as it was before its port's turn. -/
theorem frameReceive_overrun {tile port at_ : Nat} {f : RxFrame} {s : State} (hin : s.pkg.inService tile = true) (hp : s.pkg.hasPort tile port = true)
    (hl : s.pkg.linkUp tile port = true) (hm : macPort tile port = true) (he : f.part = .express) (hw : s.noEthWaits)
    (hf : s.pkg.macFault tile port f = 0) (hb : beAt f.bytes 12 2 ≠ 0x8808) (hs : s.pkg.on tile (fRxMsEnable port) = false)
    (hnone : ((s.pkg.reach at_).takeTurn tile port (arrivalClass port f) (cellsOf (f.bytes.length + 4))).drawable tile port (arrivalClass port f)
      (cellsOf (f.bytes.length + 4)) = none) :
    Runs (.frameReceive tile port f at_) s (fun t => t.pkg.sw = s.pkg.sw) := by
  have heff : frameReceive tile port f at_ s.pkg = (s.pkg.reach at_).discard tile 19 port := by
    rw [frameReceive_express at_ hin hp hl hm he, Pkg.receiveMac_good (s := s.pkg.reach at_) _ hf hb fun h => by simp [hs] at h, Pkg.enter_overrun hnone]
  have hback : Background (s.pkg.reach at_) ((s.pkg.reach at_).discard tile 19 port) := (Background.refl _).discard
  refine runs_onFlow rfl (State.noEthWaits_of_kept hw (by rw [heff]; exact hback.undisturbed.trestles) (by rw [heff]; exact hback.mode)) ?_
  refine (State.restsAt_sw s (frameReceive tile port f at_ s.pkg)).trans ?_
  rw [heff]; rfl

/-! ### The counterexample to O16

Port 1 of tile 0 has drawn the only shared cell of this clock, for frame 7, and may draw from its headroom instead. Port 0, which is ahead of port 1 in
the rotation, receives a frame of two cells and has no minimum and no headroom: with the cell that port 1 would give back it still lacks one. -/

/-- Frame 7 holds the shared cell. -/
def cellOfPort1 : FrameRec := { cells := 1, refs := 1, charge := { kind := .account, port := 1, tc := 0, shared := 1 } }

/-- An LO-IKD8 in RUN with port 0 of tile 0 up: its class 0 may take 100 shared cells of a pool of one. -/
def onePortUp : Pkg :=
  let p : Pkg := { variant := .ikd8 }
  let p := (p.put 15 fMode mRun).put 15 fTilesOn 127
  let p := ((p.put 0 (fPresent 0) 1).put 0 (fLinkUp 0) 1).put 0 (fMaxFrame 0) 1518
  ((p.put 0 (fMax 0 0) 100).put 0 fShared 1).put 0 (fHeadroom 1 0) 1

def shortPool : State :=
  { pkg := onePortUp.onSw (fun w => { w with nextId := 8, frames := [(7, cellOfPort1)], acct := [(qKey 0 1 0, ⟨0, 1, 0⟩)], pool := [(0, { shared := 1 })],
                                             draws := [(0, { drew := [(1, 7)] })] })
    mem := {}, pending := [] }

def twoCells : RxFrame := { bytes := List.replicate 300 0 }

/-- The frame passes the MAC and overruns its account, with port 1's cell given back and before. -/
theorem shortPool_overruns : shortPool.pkg.inService 0 = true ∧ shortPool.pkg.hasPort 0 0 = true ∧ shortPool.pkg.linkUp 0 0 = true ∧
    shortPool.noEthWaits ∧ shortPool.pkg.macFault 0 0 twoCells = 0 ∧ beAt twoCells.bytes 12 2 ≠ 0x8808 ∧ shortPool.pkg.on 0 (fRxMsEnable 0) = false ∧
    (∀ e ∈ ((shortPool.pkg.reach 0).drawTurn 0).drew, (shortPool.pkg.frame e.2).charge.port < 28) ∧
    ((shortPool.pkg.reach 0).takeTurn 0 0 (arrivalClass 0 twoCells) (cellsOf (twoCells.bytes.length + 4))).drawable 0 0 (arrivalClass 0 twoCells)
      (cellsOf (twoCells.bytes.length + 4)) = none := by decide +kernel

/-- In its turn port 0 takes the shared cell from port 1's account. -/
theorem shortPool_givesBack : (shortPool.pkg.acct 0 1 0).shared = 1 ∧
    (((shortPool.pkg.reach 0).takeTurn 0 0 (arrivalClass 0 twoCells) (cellsOf (twoCells.bytes.length + 4))).acct 0 1 0).shared = 0 := by decide +kernel

/-- Refutes O16: of a frame that overruns its account the statement says that the switch is left as the writers' give-back of this clock leaves it
(`takeTurn`), and the model discards the frame from the switch as it was before. In `shortPool` port 1 keeps the shared cell that it would give back. -/
theorem not_frameReceiveEffects : ¬ Obligations.FrameReceiveEffects := by
  intro h
  obtain ⟨hin, hp, hl, hw, hf, hb, hs, hports, hnone⟩ := shortPool_overruns
  obtain ⟨hwhole, -, -⟩ := h 0 0 0 twoCells shortPool (by decide) (by decide) hin hp hl (by decide) hw
  obtain ⟨-, hgood⟩ := hwhole fun _ => rfl
  obtain ⟨hoverrun, -⟩ := hgood hf hb (fun _ => hs) hports
  obtain ⟨t, ht, -, -, hturn, -⟩ := hoverrun hnone
  obtain ⟨t', ht', hkept⟩ := frameReceive_overrun hin hp hl (by decide) rfl hw hf hb hs hnone
  obtain rfl : t = t' := by rw [ht] at ht'; injection ht'
  have hsw : ((shortPool.pkg.reach 0).takeTurn 0 0 (arrivalClass 0 twoCells) (cellsOf (twoCells.bytes.length + 4))).sw = shortPool.pkg.sw :=
    hturn.symm.trans hkept
  obtain ⟨hone, hzero⟩ := shortPool_givesBack
  rw [Pkg.acct, hsw] at hzero
  exact absurd (hone.symm.trans hzero) (by decide)

end Sys2Proof.Machine
end

section
/-! PROOFS. The connection table (R99, R102, R103): what a slot reads after its words are written, and after a connection is added or freed. -/
namespace Sys2Proof.Machine

/-! ### Words written in a row -/

/-- The first n words of a row of offsets are written. -/
def Pkg.wrAll (s : Pkg) (t : Nat) (off : Nat → Nat) (f : Nat → Word) (n : Nat) : Pkg := (List.range n).foldl (fun s w => s.wr t (off w) (f w)) s

section
variable {s p q : Pkg} {t n : Nat} {off : Nat → Nat} {f : Nat → Word} {W C : List Nat}

theorem Pkg.wrAll_succ : s.wrAll t off f (n + 1) = (s.wrAll t off f n).wr t (off n) (f n) := by
  simp [Pkg.wrAll, List.range_succ]

/-- A row of writes changes only the words. -/
theorem Pkg.wrAll_eq : ∃ rs, s.wrAll t off f n = { s with regs := rs } :=
  List.foldlRecOn (motive := fun q => ∃ rs, q = { s with regs := rs }) _ _ ⟨_, rfl⟩ fun _ ⟨_, h⟩ _ _ => ⟨_, by rw [h]; rfl⟩

theorem Pkg.rd_wrAll_ne {o : Nat} (h : ∀ w < n, o ≠ off w) : (s.wrAll t off f n).rd t o = s.rd t o := by
  induction n with
  | zero => rfl
  | succ n ih => rw [Pkg.wrAll_succ, Pkg.rd_wr_off _ _ (h n n.lt_succ_self), ih fun w hw => h w (hw.trans n.lt_succ_self)]

theorem Pkg.rd_wrAll_same (hi : Function.Injective off) {w : Nat} (hw : w < n) : (s.wrAll t off f n).rd t (off w) = f w := by
  induction n with
  | zero => omega
  | succ n ih =>
    rw [Pkg.wrAll_succ]
    obtain rfl | hne := eq_or_ne w n
    · exact Pkg.rd_wr_same _ _ _ _
    · rw [Pkg.rd_wr_off _ _ fun h => hne (hi h), ih (by omega)]

theorem Touches.wrAll (h : Touches p q W C) (hm : ∀ w < n, pkgAddr t (off w) ∈ W) : Touches p (q.wrAll t off f n) W C :=
  h.foldl fun _ w hw hs => hs.wr (hm w (List.mem_range.1 hw))

end

/-! ### Words of a slot (Table 3-12) -/

/-- The offset of word w of slot i. -/
def ctOff (i w : Nat) : Nat := 0x3200000 + i * 32 + w * 4

theorem ctOff_injective (i : Nat) : Function.Injective (ctOff i) := fun w v h => by simp only [ctOff] at h; omega

theorem ctOff_ne {i j w v : Nat} (h : j ≠ i) (hw : w < 8) (hv : v < 8) : ctOff j w ≠ ctOff i v := by simp only [ctOff]; omega

/-- The package addresses of a slot's words. -/
def slotWords (t i : Nat) : List Nat := (List.range 8).map (fun w => pkgAddr t (0x3200000 + i * 32 + w * 4))

theorem mem_slotWords {t i w : Nat} (hw : w < 8) : pkgAddr t (ctOff i w) ∈ slotWords t i := List.mem_map.2 ⟨w, List.mem_range.2 hw, rfl⟩

section
variable {s p q : Pkg} {t i j : Nat} {f : Nat → Word} {W C : List Nat}

theorem Pkg.ctWord_setCtWord (s : Pkg) (t i j : Nat) (v : Word) {w x : Nat} (hw : w < 8) (hx : x < 8) :
    (s.setCtWord t i w v).ctWord t j x = if j = i ∧ x = w then v else s.ctWord t j x := by
  split
  · next h => obtain ⟨rfl, rfl⟩ := h; exact s.rd_wr_same t _ v
  · next h => exact s.rd_wr_off v (by omega)

theorem Touches.setCtWord (h : Touches p q W C) {w : Nat} {v : Word} (hw : w < 8) (hm : slotWords t i ⊆ W) : Touches p (q.setCtWord t i w v) W C :=
  h.wr (hm (mem_slotWords hw))

theorem Pkg.ctWord_wrAll_same {w : Nat} (hw : w < 8) : (s.wrAll t (ctOff i) f 8).ctWord t i w = f w := Pkg.rd_wrAll_same (ctOff_injective i) hw

theorem Pkg.ctWord_wrAll_ne {w : Nat} (h : j ≠ i) (hw : w < 8) : (s.wrAll t (ctOff i) f 8).ctWord t j w = s.ctWord t j w :=
  Pkg.rd_wrAll_ne fun _ hv => ctOff_ne h hw hv

/-- The slots lie above the registers. -/
theorem Pkg.rd_wrAll_register {o : Nat} (h : o < 0x3200000) : (s.wrAll t (ctOff i) f 8).rd t o = s.rd t o :=
  Pkg.rd_wrAll_ne fun w _ => by simp only [ctOff]; omega

theorem Pkg.ctWord_put_register {g : Fld} {v w : Nat} (h : g.off < 0x3200000) : (s.put t g v).ctWord t i w = s.ctWord t i w :=
  s.rd_put_off v (by omega)

/-- A slot is judged by its last two words and its neighbour's. -/
theorem Pkg.ctValid_false (h : s.ctWord t i 7 = 0) : s.ctValid t i = false := by
  simp [Pkg.ctValid, Pkg.ctBit, h, fieldGet]

theorem Pkg.bump_ctValid (s : Pkg) (d o t i : Nat) : (s.bump d o).ctValid t i = s.ctValid t i := rfl

theorem State.finish_ctWord (s : State) (t i w : Nat) : s.finish.pkg.ctWord t i w = s.pkg.ctWord t i w := State.finish_pkg_rd s _ _

theorem State.finish_ctValid (s : State) (t i : Nat) : s.finish.pkg.ctValid t i = s.pkg.ctValid t i := by
  simp only [Pkg.ctValid, Pkg.ctEven, Pkg.ctBit, Pkg.ctV6, State.finish_ctWord]

/-! ### Freeing a connection -/

/-- The words of a connection cleared: those of its slot, and for IPv6 those of the even half. -/
def Pkg.slotsCleared (s : Pkg) (t i : Nat) : Pkg :=
  (if s.ctV6 t i then s.wrAll t (ctOff (i - 1)) (fun _ => 0) 8 else s).wrAll t (ctOff i) (fun _ => 0) 8

theorem Pkg.ctClear_eq (s : Pkg) (t i : Nat) :
    s.ctClear t i = (s.slotsCleared t i).put t fCtUsed ((s.slotsCleared t i).get t fCtUsed - (if s.ctV6 t i then 2 else 1)) := rfl

theorem Pkg.slotsCleared_register {o : Nat} (h : o < 0x3200000) : (s.slotsCleared t i).rd t o = s.rd t o := by
  rw [Pkg.slotsCleared, Pkg.rd_wrAll_register h]
  split
  · exact Pkg.rd_wrAll_register h
  · rfl

theorem Pkg.ctClear_ctValid (s : Pkg) (t i : Nat) : (s.ctClear t i).ctValid t i = false := by
  refine Pkg.ctValid_false ?_
  rw [Pkg.ctClear_eq, Pkg.ctWord_put_register (by decide)]
  exact Pkg.ctWord_wrAll_same (by decide)

/-- CT_USED counts the slots that come free. -/
theorem Pkg.ctClear_used (s : Pkg) (t i : Nat) : (s.ctClear t i).get t fCtUsed = s.get t fCtUsed - (if s.ctV6 t i then 2 else 1) := by
  have hold : (s.slotsCleared t i).get t fCtUsed = s.get t fCtUsed := congrArg (fieldGet · _ _) (Pkg.slotsCleared_register (by decide))
  rw [Pkg.ctClear_eq, hold, Pkg.get_put_same _ _ _ _ (by decide)]
  exact Nat.mod_eq_of_lt (Nat.lt_of_le_of_lt (Nat.sub_le _ _) (fieldGet_lt _ _ _))

theorem Touches.ctClear (h : Touches p q W C) (hu : pkgAddr t 0x400014 ∈ W) (hi : slotWords t i ⊆ W)
    (h6 : q.ctV6 t i = true → slotWords t (i - 1) ⊆ W) : Touches p (q.ctClear t i) W C := by
  rw [Pkg.ctClear_eq]
  refine Touches.put (Touches.wrAll ?_ fun w hw => hi (mem_slotWords hw)) hu
  split
  · next hv => exact h.wrAll fun w hw => h6 hv (mem_slotWords hw)
  · exact h

theorem Pkg.ctClear_regs (s : Pkg) (t i : Nat) : ∃ rs, s.ctClear t i = { s with regs := rs } := by
  obtain ⟨rs, h⟩ : ∃ rs, s.slotsCleared t i = { s with regs := rs } := by
    rw [Pkg.slotsCleared]
    split
    · obtain ⟨r, h⟩ := Pkg.wrAll_eq (s := s) (t := t) (off := ctOff (i - 1)) (f := fun _ => 0) (n := 8)
      rw [h]; exact Pkg.wrAll_eq
    · exact Pkg.wrAll_eq
  exact ⟨_, by rw [Pkg.ctClear_eq, h]; rfl⟩

theorem Pkg.ctClear_cnt (s : Pkg) (t i d o : Nat) : (s.ctClear t i).cnt d o = s.cnt d o := by
  obtain ⟨rs, h⟩ := s.ctClear_regs t i; rw [h]; rfl

end

end Sys2Proof.Machine
end

section
/-! PROOFS. The aging engine and the expiry of fragment entries (R83, R100): what O19 asks. -/
namespace Sys2Proof.Machine

/-! ### A visit of the aging engine (R100) -/

section
variable {s : Pkg} {tile n i : Nat}

/-- The slot that a visit of slot n mod 65,536 judges: the odd half of an IPv6 pair in place of its even half. -/
def Pkg.visited (s : Pkg) (tile n : Nat) : Nat := if s.ctEven tile (n % 65536) then n % 65536 + 1 else n % 65536

theorem Pkg.visited_eq (hv : s.ctValid tile i = true) (hi : i = n % 65536 ∨ (i = n % 65536 + 1 ∧ s.ctEven tile (n % 65536) = true)) :
    s.visited tile n = i := by
  obtain rfl | ⟨rfl, he⟩ := hi
  · have hodd : s.ctEven tile (n % 65536) = false := by simp only [Pkg.ctValid] at hv; simp_all
    rw [Pkg.visited, hodd]; rfl
  · rw [Pkg.visited, he]; rfl

/-- How long the connection of slot i has been idle at the visit, modulo the 2⁵² ns that LAST_SEEN spans. -/
def Pkg.idleAt (s : Pkg) (tile n i : Nat) : Nat := (n * 1000 + 2 ^ 52 - (s.ctWord tile i 4).toNat * 2 ^ 20) % 2 ^ 52

/-- How long it may be idle in its state. -/
def Pkg.idleLimit (s : Pkg) (tile i : Nat) : Nat := s.ctTimeout tile (fieldGet (s.ctWord tile i 3) 7 0) (s.ctState tile i) * 1000000000

/-- The connection of a slot never ages. -/
abbrev Pkg.ctStatic (s : Pkg) (tile i : Nat) : Prop := fieldGet (s.ctWord tile i 3) 20 20 = 1

/-- STATIC is one bit. -/
theorem Pkg.ctStatic_iff (s : Pkg) (tile i : Nat) : ¬ s.ctStatic tile i ↔ fieldGet (s.ctWord tile i 3) 20 20 = 0 := by
  have h := fieldGet_lt (s.ctWord tile i 3) 20 20
  simp only [Pkg.ctStatic]; omega

theorem ctAging_eq (ho : s.tileOn tile = true) (hv : s.ctValid tile i = true) (hi : s.visited tile n = i) : ctAging tile n s =
    if ¬ s.ctStatic tile i ∧ s.idleLimit tile i < s.idleAt tile n i then ((s.reach (us n)).ctClear tile i).bump tile 0x400248 else s.reach (us n) := by
  subst hi
  rw [ctAging, Pkg.when_pos _ _ ho]
  exact if_congr ⟨fun ⟨_, hs, hd⟩ => ⟨(s.ctStatic_iff _ _).2 hs, hd⟩, fun ⟨hs, hd⟩ => ⟨hv, (s.ctStatic_iff _ _).1 hs, hd⟩⟩ rfl rfl

end

section
variable {s : State} {tile n i : Nat} (ho : s.pkg.tileOn tile = true) (hv : s.pkg.ctValid tile i = true) (hi : s.pkg.visited tile n = i)
include ho hv hi

/-- The words that the freed connection leaves. -/
def Pkg.agedWords (s : Pkg) (tile i : Nat) : List Nat :=
  pkgAddr tile 0x400014 :: slotWords tile i ++ (if s.ctV6 tile i then slotWords tile (i - 1) else [])

theorem ctAging_frees (hs : ¬ s.pkg.ctStatic tile i) (hd : s.pkg.idleLimit tile i < s.pkg.idleAt tile n i) : Runs (.ctAging tile n) s (fun t =>
    t.pkg.ctValid tile i = false ∧ t.pkg.cnt tile 0x400248 = s.pkg.cnt tile 0x400248 + 1 ∧
    t.pkg.get tile fCtUsed = s.pkg.get tile fCtUsed - (if s.pkg.ctV6 tile i then 2 else 1) ∧
    Frame s t (s.pkg.agedWords tile i) [pkgAddr tile 0x400248]) := by
  have heff : ctAging tile n s.pkg = ((s.pkg.reach (us n)).ctClear tile i).bump tile 0x400248 := by rw [ctAging_eq ho hv hi, if_pos ⟨hs, hd⟩]
  refine runs_onPkg rfl ⟨?_, ?_, ?_, Touches.frame ?_⟩
  · rw [State.finish_ctValid, State.map_pkg, heff, Pkg.bump_ctValid, Pkg.ctClear_ctValid]
  · rw [State.finish_pkg_cnt, State.map_pkg, heff, Pkg.cnt_bump_same, Pkg.ctClear_cnt, Pkg.reach_cnt]
  · rw [State.finish_pkg_get, State.map_pkg, heff, Pkg.bump_get, Pkg.ctClear_used]; rfl
  · rw [heff]
    refine (Touches.ctClear (Touches.refl _ _ _).reach ?_ ?_ fun h6 => ?_).bump (by simp)
    · simp [Pkg.agedWords]
    · simp [Pkg.agedWords]
    · have h6' : s.pkg.ctV6 tile i = true := h6
      simp [Pkg.agedWords, h6']

theorem ctAging_leaves (h : s.pkg.ctStatic tile i ∨ s.pkg.idleAt tile n i ≤ s.pkg.idleLimit tile i) : Runs (.ctAging tile n) s (fun t =>
    t.pkg.now = max s.pkg.now (ns (n * 1000)) ∧ t.pkg.hidden = s.pkg.hidden ∧ Frame s t [] []) := by
  have heff : ctAging tile n s.pkg = s.pkg.reach (us n) := by
    rw [ctAging_eq ho hv hi, if_neg fun ⟨hs, hd⟩ => h.elim hs (Nat.not_le_of_lt hd)]
  refine runs_onPkg rfl ⟨?_, ?_, Touches.frame ?_⟩
  · rw [State.finish_pkg_now, State.map_pkg, heff]; rfl
  · rw [State.finish_hidden, State.map_pkg, heff, Pkg.reach_hidden]
  · rw [heff]; exact (Touches.refl _ _ _).reach

end

/-! ### The expiry of a fragment entry (R83) -/

theorem fragExpire_eq {s : Pkg} {tile idx : Nat} {e : FragEntry} (ho : s.tileOn tile = true) (he : s.fragEntry tile idx = some e) :
    fragExpire tile idx s = (s.reachFrac (e.born + ns (us (s.get tile fLifeUs)))).fragFree tile idx 2 := by
  rw [fragExpire, if_pos ho, he]

theorem Pkg.fragFree_entry (s : Pkg) (t i k : Nat) : (s.fragFree t i k).fragEntry t i = none :=
  show SMap.get none (SMap.set none s.sw.frags (t * 1024 + i) none) (t * 1024 + i) = none from SMap.get_set_same _ _ _ _

theorem Pkg.fragFree_cnt (s : Pkg) (t i k : Nat) : (s.fragFree t i k).cnt t (oFrag k) = s.cnt t (oFrag k) + 1 := by
  rw [Pkg.fragFree, Pkg.put_cnt, Pkg.cnt_bump_same]; rfl

theorem Pkg.fragFree_used (s : Pkg) (t i k : Nat) : (s.fragFree t i k).get t fFragUsed = s.get t fFragUsed - 1 := by
  rw [Pkg.fragFree, Pkg.get_put_same _ _ _ _ (by decide)]
  exact Nat.mod_eq_of_lt (Nat.lt_of_le_of_lt (Nat.sub_le _ _) (fieldGet_lt _ _ _))

theorem Touches.fragFree {p q : Pkg} {W C : List Nat} (h : Touches p q W C) {t i k : Nat} (hw : pkgAddr t 0x400014 ∈ W) (hc : pkgAddr t (oFrag k) ∈ C) :
    Touches p (q.fragFree t i k) W C :=
  ((h.same (r := q.setFrag t i none) rfl rfl rfl rfl).bump hc).put hw

theorem fragExpire_frees {s : State} {tile idx : Nat} {e : FragEntry} (ho : s.pkg.tileOn tile = true) (he : s.pkg.fragEntry tile idx = some e) :
    Runs (.fragExpire tile idx) s (fun t =>
      t.pkg.fragEntry tile idx = none ∧ t.pkg.cnt tile (oFrag 2) = s.pkg.cnt tile (oFrag 2) + 1 ∧
      t.pkg.get tile fFragUsed = s.pkg.get tile fFragUsed - 1 ∧ e.born + ns (1000 * s.pkg.get tile fLifeUs) ≤ t.pkg.now ∧
      Frame s t [pkgAddr tile 0x400014] [pkgAddr tile (oFrag 2)]) := by
  have heff := fragExpire_eq ho he
  refine runs_onPkg rfl ⟨?_, ?_, ?_, ?_, Touches.frame ?_⟩
  · rw [Pkg.fragEntry, State.finish_pkg_sw, State.map_pkg, heff]; exact Pkg.fragFree_entry _ _ _ _
  · rw [State.finish_pkg_cnt, State.map_pkg, heff, Pkg.fragFree_cnt, Pkg.reachFrac_cnt]
  · rw [State.finish_pkg_get, State.map_pkg, heff, Pkg.fragFree_used, Pkg.reachFrac_get]
  · rw [State.finish_pkg_now, State.map_pkg, heff, Nat.mul_comm]
    exact le_max_right _ _
  · rw [heff]; exact (Touches.refl _ _ _).reachFrac.fragFree (by simp) (by simp)

/-- Settles O19: a visit of the aging engine judges the slot it visits, or the odd half of its pair, and frees it or leaves it; an entry of the fragment
table is freed at the end of its life. -/
theorem agingAndFragments : Obligations.AgingAndFragments :=
  ⟨fun _ _ _ _ ho hv hi => ⟨ctAging_frees ho hv (Pkg.visited_eq hv hi), ctAging_leaves ho hv (Pkg.visited_eq hv hi)⟩, fun _ _ _ _ => fragExpire_frees⟩

end Sys2Proof.Machine
end

section
/-! PROOFS. The commands of the connection table (R102, R103): what O18 asks. -/
namespace Sys2Proof.Machine

/-! ### Adding a connection (R102) -/

/-- The fields of a key fit the words that hold them. -/
structure ConnKey.Fits (k : ConnKey) : Prop where
  src   : k.src < if k.v6 then 2 ^ 128 else 2 ^ 32
  dst   : k.dst < if k.v6 then 2 ^ 128 else 2 ^ 32
  sport : k.sport < 2 ^ 16
  dport : k.dport < 2 ^ 16
  proto : k.proto < 2 ^ 8
  vid   : k.vid < 2 ^ 12

/-- Four words as a number fit 128 bits. -/
theorem Pkg.ctData4_lt (s : Pkg) (t d : Nat) : s.ctData4 t d < 2 ^ 128 := by
  simp only [Pkg.ctData4]
  have := fun i => (s.ctData t i).isLt
  have h0 := this d; have h1 := this (d + 1); have h2 := this (d + 2); have h3 := this (d + 3)
  omega

theorem Pkg.ctDataKey_fits (s : Pkg) (t : Nat) : (s.ctDataKey t).Fits := by
  have haddr (b : Bool) {x y : Nat} (hx : x < 2 ^ 128) (hy : y < 2 ^ 32) : (if b then x else y) < if b then 2 ^ 128 else 2 ^ 32 := by
    cases b <;> assumption
  exact ⟨haddr _ (s.ctData4_lt t 8) (s.ctData t 0).isLt, haddr _ (s.ctData4_lt t 12) (s.ctData t 1).isLt, fieldGet_lt _ _ _, fieldGet_lt _ _ _,
    fieldGet_lt _ _ _, fieldGet_lt _ _ _⟩

/-- The address words of a key in slot i, or in the even half of an IPv6 pair. -/
def Pkg.addrsPut (s : Pkg) (t i : Nat) (k : ConnKey) : Pkg :=
  if k.v6 then s.wrAll t (ctOff (i - 1)) (fun w => BitVec.ofNat 32 ((words4 k.src ++ words4 k.dst).getD w 0)) 8
  else (s.setCtWord t i 0 (BitVec.ofNat 32 k.src)).setCtWord t i 1 (BitVec.ofNat 32 k.dst)

/-- The other words of a slot. -/
def Pkg.fieldsPut (s : Pkg) (t i : Nat) (w2 w3 seen w7 : Word) : Pkg :=
  (((((s.setCtWord t i 2 w2).setCtWord t i 3 w3).setCtWord t i 4 seen).setCtWord t i 5 0).setCtWord t i 6 0).setCtWord t i 7 w7

/-- Word 3 of a slot: protocol, zones, state, V6 and STATIC. -/
def ConnKey.word3 (k : ConnKey) (ini rsp st : Nat) (static : Bool) : Nat :=
  k.proto + ini * 256 + rsp * 4096 + st * 65536 + bit k.v6 * 2 ^ 19 + bit static * 2 ^ 20

section
variable {s p q : Pkg} {t i j w : Nat} {k : ConnKey} {W C : List Nat}

theorem Pkg.setCtWord_seenNow (s : Pkg) (t i w : Nat) (v : Word) (u : Nat) : (s.setCtWord t i w v).seenNow u = s.seenNow u := (rfl)

theorem Pkg.addrsPut_regs (s : Pkg) (t i : Nat) (k : ConnKey) : ∃ rs, s.addrsPut t i k = { s with regs := rs } := by
  unfold Pkg.addrsPut
  split
  · exact Pkg.wrAll_eq
  · exact ⟨_, rfl⟩

theorem Pkg.addrsPut_seenNow (s : Pkg) (t i : Nat) (k : ConnKey) (u : Nat) : (s.addrsPut t i k).seenNow u = s.seenNow u := by
  obtain ⟨rs, h⟩ := s.addrsPut_regs t i k; rw [h]; rfl

/-- The connection's words. -/
def Pkg.connPut (s : Pkg) (t i : Nat) (k : ConnKey) (ini rsp st : Nat) (static : Bool) : Pkg :=
  (s.addrsPut t i k).fieldsPut t i (BitVec.ofNat 32 (k.sport + k.dport * 65536)) (BitVec.ofNat 32 (k.word3 ini rsp st static))
    (BitVec.ofNat 32 (s.seenNow t)) (BitVec.ofNat 32 (k.vid + 2 ^ 31))

theorem Pkg.ctFill_eq (s : Pkg) (t i : Nat) (k : ConnKey) (ini rsp st : Nat) (static : Bool) : s.ctFill t i k ini rsp st static =
    ((s.connPut t i k ini rsp st static).put t fCtUsed ((s.connPut t i k ini rsp st static).get t fCtUsed + (if k.v6 then 2 else 1))).onSw
      (fun w => { w with ctFin := SMap.set 0 w.ctFin (t * 65536 + i) 0 }) := by
  simp only [Pkg.connPut, ← Pkg.addrsPut_seenNow s t i k t, Pkg.ctFill, Pkg.setCtWord_seenNow]
  rfl

theorem Pkg.onSw_ctWord (s : Pkg) (f : SwitchSt → SwitchSt) (t i w : Nat) : (s.onSw f).ctWord t i w = s.ctWord t i w := (rfl)

theorem Pkg.ctWord_ctFill {ini rsp st : Nat} {static : Bool} :
    (s.ctFill t i k ini rsp st static).ctWord t j w = (s.connPut t i k ini rsp st static).ctWord t j w := by
  rw [Pkg.ctFill_eq, Pkg.onSw_ctWord]
  exact Pkg.ctWord_put_register (by decide)

theorem Pkg.ctWord_fieldsPut (hw : w < 8) (w2 w3 seen w7 : Word) : (s.fieldsPut t i w2 w3 seen w7).ctWord t j w =
    if j = i ∧ 2 ≤ w then [w2, w3, seen, 0, 0, w7].getD (w - 2) 0 else s.ctWord t j w := by
  unfold Pkg.fieldsPut
  by_cases hj : j = i
  · interval_cases w <;> simp [Pkg.ctWord_setCtWord, hj]
  · simp [Pkg.ctWord_setCtWord, hj, hw]

/-- A slot apart from those that are filled keeps its words. -/
theorem Pkg.ctWord_addrsPut_ne (hw : w < 8) (h : j ≠ i) (h6 : k.v6 = true → j ≠ i - 1) : (s.addrsPut t i k).ctWord t j w = s.ctWord t j w := by
  unfold Pkg.addrsPut
  split
  · next hv => exact Pkg.ctWord_wrAll_ne (h6 hv) hw
  · simp [Pkg.ctWord_setCtWord, h, hw]

/-- The words of the connection's own slot. -/
theorem Pkg.ctFill_field {ini rsp st : Nat} {static : Bool} (hw : w < 8) (h2 : 2 ≤ w) : (s.ctFill t i k ini rsp st static).ctWord t i w =
    [BitVec.ofNat 32 (k.sport + k.dport * 65536), BitVec.ofNat 32 (k.word3 ini rsp st static), BitVec.ofNat 32 (s.seenNow t), 0, 0,
      BitVec.ofNat 32 (k.vid + 2 ^ 31)].getD (w - 2) 0 := by
  rw [Pkg.ctWord_ctFill, Pkg.connPut, Pkg.ctWord_fieldsPut hw, if_pos ⟨rfl, h2⟩]

theorem Pkg.ctFill_other {ini rsp st : Nat} {static : Bool} (hw : w < 8) (h : j ≠ i) (h6 : k.v6 = true → j ≠ i - 1) :
    (s.ctFill t i k ini rsp st static).ctWord t j w = s.ctWord t j w := by
  rw [Pkg.ctWord_ctFill, Pkg.connPut, Pkg.ctWord_fieldsPut hw, if_neg fun he => h he.1, Pkg.ctWord_addrsPut_ne hw h h6]

/-- Slot i, with the even half of its pair for IPv6, spells this key (Table 3-12, R102), with word 3 as given. -/
structure Pkg.Holds (s : Pkg) (t i : Nat) (k : ConnKey) (w3 : Nat) : Prop where
  addr4 : k.v6 = false → s.ctWord t i 0 = BitVec.ofNat 32 k.src ∧ s.ctWord t i 1 = BitVec.ofNat 32 k.dst
  addr6 : k.v6 = true → ∀ w < 8, s.ctWord t (i - 1) w = BitVec.ofNat 32 ((words4 k.src ++ words4 k.dst).getD w 0)
  ports : s.ctWord t i 2 = BitVec.ofNat 32 (k.sport + k.dport * 65536)
  word3 : s.ctWord t i 3 = BitVec.ofNat 32 w3
  vid   : s.ctWord t i 7 = BitVec.ofNat 32 (k.vid + 2 ^ 31)

theorem Pkg.ctFill_holds {ini rsp st : Nat} {static : Bool} (h6 : k.v6 = true → i - 1 ≠ i) :
    (s.ctFill t i k ini rsp st static).Holds t i k (k.word3 ini rsp st static) where
  addr4 h4 := by simp [Pkg.ctWord_ctFill, Pkg.connPut, Pkg.ctWord_fieldsPut, Pkg.addrsPut, h4, Pkg.ctWord_setCtWord]
  addr6 hv w hw := by
    rw [Pkg.ctWord_ctFill, Pkg.connPut, Pkg.ctWord_fieldsPut hw, if_neg fun h => h6 hv h.1, Pkg.addrsPut, if_pos hv, Pkg.ctWord_wrAll_same hw]
  ports := Pkg.ctFill_field (by decide) (by decide)
  word3 := Pkg.ctFill_field (by decide) (by decide)
  vid := Pkg.ctFill_field (by decide) (by decide)

/-- Four words spell a 128-bit number. -/
theorem Pkg.ct4_of_words {a : Nat} (ha : a < 2 ^ 128) (h : ∀ n < 4, s.ctWord t i (w + n) = BitVec.ofNat 32 ((words4 a).getD n 0)) : s.ct4 t i w = a := by
  have h0 : s.ctWord t i w = BitVec.ofNat 32 (a / 2 ^ 96 % 2 ^ 32) := h 0 (by decide)
  rw [Pkg.ct4, h0, h 1 (by decide), h 2 (by decide), h 3 (by decide)]
  simp only [words4, List.getD_cons_succ, List.getD_cons_zero, BitVec.toNat_ofNat]
  omega

/-- Word 3 spells the protocol and V6. -/
theorem ConnKey.word3_fields (hk : k.Fits) {ini rsp st : Nat} (static : Bool) (hi : ini < 16) (hr : rsp < 16) (hs : st < 8) :
    fieldGet (BitVec.ofNat 32 (k.word3 ini rsp st static)) 7 0 = k.proto ∧ fieldGet (BitVec.ofNat 32 (k.word3 ini rsp st static)) 19 19 = bit k.v6 := by
  have h6 := bit_lt k.v6
  have hst := bit_lt static
  have hp := hk.proto
  have hw : (BitVec.ofNat 32 (k.word3 ini rsp st static)).toNat = k.word3 ini rsp st static := by
    rw [BitVec.toNat_ofNat]
    refine Nat.mod_eq_of_lt ?_
    simp only [ConnKey.word3]; omega
  rw [fieldGet_eq, fieldGet_eq, hw, ConnKey.word3]
  omega

/-- The key of a slot that spells it. -/
theorem Pkg.Holds.key {w3 : Nat} (h : s.Holds t i k w3) (hk : k.Fits) (hp : fieldGet (BitVec.ofNat 32 w3) 7 0 = k.proto)
    (h6 : fieldGet (BitVec.ofNat 32 w3) 19 19 = bit k.v6) : s.ctKeyAt t i = k := by
  obtain ⟨src, dst, sport, dport, proto, vid⟩ := hk
  have hbit : s.ctV6 t i = k.v6 := by
    rw [Pkg.ctV6, h.word3, h6]
    cases k.v6 <;> rfl
  have haddr : (if k.v6 then s.ct4 t (i - 1) 0 else (s.ctWord t i 0).toNat) = k.src ∧
      (if k.v6 then s.ct4 t (i - 1) 4 else (s.ctWord t i 1).toNat) = k.dst := by
    rcases hv : k.v6 with _ | _
    · obtain ⟨h0, h1⟩ := h.addr4 hv
      simp only [hv, Bool.false_eq_true, if_false] at src dst ⊢
      rw [h0, h1, BitVec.toNat_ofNat, BitVec.toNat_ofNat]
      exact ⟨Nat.mod_eq_of_lt src, Nat.mod_eq_of_lt dst⟩
    · simp only [hv, if_true] at src dst ⊢
      refine ⟨Pkg.ct4_of_words src fun n hn => ?_, Pkg.ct4_of_words dst fun n hn => ?_⟩ <;> rw [h.addr6 hv _ (by omega)] <;>
        interval_cases n <;> rfl
  have hports : fieldGet (s.ctWord t i 2) 15 0 = k.sport ∧ fieldGet (s.ctWord t i 2) 31 16 = k.dport := by
    rw [h.ports, fieldGet_eq, fieldGet_eq, BitVec.toNat_ofNat]; omega
  have hvid : fieldGet (s.ctWord t i 7) 11 0 = k.vid := by
    rw [h.vid, fieldGet_eq, BitVec.toNat_ofNat]; omega
  rw [Pkg.ctKeyAt, hbit, haddr.1, haddr.2, hports.1, hports.2, hvid, h.word3, hp]

/-- A slot whose word 7 is VALID holds a connection, unless it is the even half of a pair. -/
theorem Pkg.Holds.valid {w3 : Nat} (h : s.Holds t i k w3) (hk : k.vid < 2 ^ 12) (he : s.ctEven t i = false) : s.ctValid t i = true := by
  have hbit : s.ctBit t i = true := by
    rw [Pkg.ctBit, h.vid, fieldGet_eq, BitVec.toNat_ofNat, beq_iff_eq]; omega
  rw [Pkg.ctValid, hbit, he]; rfl

/-- A connection takes a place that is no even half of a pair. -/
theorem Pkg.ctPlace_spec (h : s.ctPlace t k = some i) : s.ctEven t i = false ∧ (k.v6 = true → i % 2 = 1) := by
  unfold Pkg.ctPlace at h
  split at h
  · obtain ⟨hp, hm⟩ := And.intro (List.find?_some h) (List.mem_of_find?_eq_some h)
    simp only [Pkg.ctFree, Bool.and_eq_true, Bool.not_eq_true'] at hp
    exact ⟨hp.1.2, fun _ => by simpa using (List.mem_filter.1 hm).2⟩
  · next h6 =>
    have hp := List.find?_some h
    simp only [Pkg.ctFree, Bool.and_eq_true, Bool.not_eq_true'] at hp
    exact ⟨hp.2, fun hv => absurd hv h6⟩

/-- No even half before, no even half after. -/
theorem Pkg.ctFill_even {ini rsp st : Nat} {static : Bool} (he : s.ctEven t i = false) (h6 : k.v6 = true → i % 2 = 1) :
    (s.ctFill t i k ini rsp st static).ctEven t i = false := by
  rcases hv : k.v6 with _ | _
  · have hnext {w : Nat} (hw : w < 8) : (s.ctFill t i k ini rsp st static).ctWord t (i + 1) w = s.ctWord t (i + 1) w :=
      Pkg.ctFill_other hw (by omega) fun h => by simp [hv] at h
    rw [← he]
    simp only [Pkg.ctEven, Pkg.ctBit, Pkg.ctV6, hnext (show 7 < 8 by decide), hnext (show 3 < 8 by decide)]
  · simp [Pkg.ctEven, h6 hv]

theorem Touches.onSw (h : Touches p q W C) {f : SwitchSt → SwitchSt} : Touches p (q.onSw f) W C := h.same rfl rfl rfl rfl

theorem Touches.ctFill {ini rsp st : Nat} {static : Bool} (h : Touches p q W C) (hu : pkgAddr t 0x400014 ∈ W) (hi : slotWords t i ⊆ W)
    (h6 : slotWords t (i - 1) ⊆ W) : Touches p (q.ctFill t i k ini rsp st static) W C := by
  have hset {q' : Pkg} (h' : Touches p q' W C) {w : Nat} (hw : w < 8) (v : Word) := h'.setCtWord (v := v) hw hi
  have haddr : Touches p (q.addrsPut t i k) W C := by
    unfold Pkg.addrsPut
    split
    · exact h.wrAll fun w hw => h6 (mem_slotWords hw)
    · exact hset (hset h (by decide) _) (by decide) _
  have hconn : Touches p (q.connPut t i k ini rsp st static) W C := by
    unfold Pkg.connPut Pkg.fieldsPut
    exact hset (hset (hset (hset (hset (hset haddr (by decide) _) (by decide) _) (by decide) _) (by decide) _) (by decide) _) (by decide) _
  rw [Pkg.ctFill_eq]
  exact (hconn.put hu).onSw

end

end Sys2Proof.Machine
end

section
/-! PROOFS. INSERT, DELETE and LOOKUP at the command port (R103): O18. -/
namespace Sys2Proof.Machine

/-! ### The result word (Table 3-13) -/

section
variable {s p q : Pkg} {t code slot : Nat} {W C : List Nat}

/-- The offset of PR_CT_RESULT. -/
abbrev oCtResult : Nat := 0x400064

theorem Pkg.ctResult_code (hc : code < 8) : (s.ctResult t code slot).get t ⟨oCtResult, 2, 0⟩ = code := by
  rw [Pkg.ctResult, Pkg.raise_get, Pkg.get_put_apart _ _ (Or.inr (by decide)), Pkg.get_put_apart _ _ (Or.inr (by decide)),
    Pkg.get_put_same _ _ _ _ (by decide)]
  exact Nat.mod_eq_of_lt hc

theorem Pkg.ctResult_done : (s.ctResult t code slot).on t ⟨oCtResult, 31, 31⟩ = true := Pkg.on_raise_same _ _ _ (by decide) (by decide)

theorem Pkg.rd_ctResult {o : Nat} (h : o ≠ oCtResult) : (s.ctResult t code slot).rd t o = s.rd t o := by
  rw [Pkg.ctResult, Pkg.raise_rd, Pkg.rd_put_off _ _ h, Pkg.rd_put_off _ _ h, Pkg.rd_put_off _ _ h]

theorem Pkg.ctWord_ctResult (i w : Nat) : (s.ctResult t code slot).ctWord t i w = s.ctWord t i w := Pkg.rd_ctResult (by simp only [oCtResult]; omega)

theorem Pkg.ctEven_ctResult (i : Nat) : (s.ctResult t code slot).ctEven t i = s.ctEven t i := by
  simp only [Pkg.ctEven, Pkg.ctBit, Pkg.ctV6, Pkg.ctWord_ctResult]

theorem Pkg.ctValid_ctResult (i : Nat) : (s.ctResult t code slot).ctValid t i = s.ctValid t i := by
  simp only [Pkg.ctValid, Pkg.ctBit, Pkg.ctEven_ctResult, Pkg.ctWord_ctResult]

/-- A slot's key is read from the table's words. -/
theorem Pkg.ctKeyAt_congr (h : ∀ i w, p.ctWord t i w = q.ctWord t i w) (i : Nat) : p.ctKeyAt t i = q.ctKeyAt t i := by
  have hwords : p.ctWord t = q.ctWord t := funext fun i => funext (h i)
  unfold Pkg.ctKeyAt Pkg.ct4 Pkg.ctV6
  rw [hwords]

theorem Pkg.ctKeyAt_ctResult (i : Nat) : (s.ctResult t code slot).ctKeyAt t i = s.ctKeyAt t i := Pkg.ctKeyAt_congr Pkg.ctWord_ctResult i

theorem Touches.ctResult (h : Touches p q W C) (hm : pkgAddr t oCtResult ∈ W) : Touches p (q.ctResult t code slot) W C := ((h.put hm).put hm).raise hm

end

/-! ### What a command does, by what the table holds -/

section
variable {s : Pkg} {r : Req} {tile i : Nat}

theorem ctInsertEff_exists (hst : fieldGet (s.ctData tile 3) 18 16 < 4) (hf : s.ctFind tile (s.ctDataKey tile) = some i) :
    ctInsertEff r tile s = s.ctResult tile 1 (ctSlotOf (s.ctDataKey tile).v6 i) := by
  simp only [ctInsertEff, if_neg (Nat.not_le_of_lt hst), hf]

theorem ctInsertEff_full (hst : fieldGet (s.ctData tile 3) 18 16 < 4) (hf : s.ctFind tile (s.ctDataKey tile) = none)
    (hp : s.ctPlace tile (s.ctDataKey tile) = none) : ctInsertEff r tile s = s.ctResult tile 2 (s.get tile ⟨oCtResult, 18, 3⟩) := by
  simp only [ctInsertEff, if_neg (Nat.not_le_of_lt hst), hf, hp]

/-- The connection that the data registers describe, in slot i. -/
def Pkg.ctAdded (s : Pkg) (tile i : Nat) : Pkg :=
  s.ctFill tile i (s.ctDataKey tile) (fieldGet (s.ctData tile 3) 11 8) (fieldGet (s.ctData tile 3) 15 12) (fieldGet (s.ctData tile 3) 18 16)
    (fieldGet (s.ctData tile 3) 20 20 == 1)

theorem ctInsertEff_adds (hst : fieldGet (s.ctData tile 3) 18 16 < 4) (hf : s.ctFind tile (s.ctDataKey tile) = none)
    (hp : s.ctPlace tile (s.ctDataKey tile) = some i) :
    ctInsertEff r tile s = (s.ctAdded tile i).ctResult tile 0 (ctSlotOf (s.ctDataKey tile).v6 i) := by
  simp only [ctInsertEff, if_neg (Nat.not_le_of_lt hst), hf, hp]
  rfl

theorem ctDeleteEff_found (hf : s.ctFind tile (s.ctDataKey tile) = some i) :
    ctDeleteEff tile s = (s.ctClear tile i).ctResult tile 0 (ctSlotOf (s.ctDataKey tile).v6 i) := by
  simp only [ctDeleteEff, hf]

theorem ctDeleteEff_missing (hf : s.ctFind tile (s.ctDataKey tile) = none) :
    ctDeleteEff tile s = s.ctResult tile 3 (s.get tile ⟨oCtResult, 18, 3⟩) := by
  simp only [ctDeleteEff, hf]

/-- The data registers after a LOOKUP: the words of the slot, and for IPv6 those of the even half. -/
def Pkg.ctCopied (s : Pkg) (tile i : Nat) : Pkg :=
  let q := s.wrAll tile (fun w => 0x400020 + 4 * w) (fun w => s.ctWord tile i w) 8
  if (s.ctDataKey tile).v6 then q.wrAll tile (fun w => 0x400020 + 4 * (8 + w)) (fun w => s.ctWord tile (i - 1) w) 8 else q

theorem ctLookupEff_found (hf : s.ctFind tile (s.ctDataKey tile) = some i) :
    ctLookupEff tile s = (s.ctCopied tile i).ctResult tile 0 (ctSlotOf (s.ctDataKey tile).v6 i) := by
  simp only [ctLookupEff, hf]
  rfl

theorem ctLookupEff_missing (hf : s.ctFind tile (s.ctDataKey tile) = none) :
    ctLookupEff tile s = s.ctResult tile 3 (s.get tile ⟨oCtResult, 18, 3⟩) := by
  simp only [ctLookupEff, hf]

/-- The connection added by INSERT. -/
theorem Pkg.ctAdded_spec (hp : s.ctPlace tile (s.ctDataKey tile) = some i) :
    (s.ctAdded tile i).ctValid tile i = true ∧ (s.ctAdded tile i).ctKeyAt tile i = s.ctDataKey tile ∧
    (s.ctAdded tile i).ctWord tile i 4 = BitVec.ofNat 32 (s.seenNow tile) ∧ (s.ctAdded tile i).ctWord tile i 5 = 0 ∧
    (s.ctAdded tile i).ctWord tile i 6 = 0 := by
  obtain ⟨heven, hodd⟩ := Pkg.ctPlace_spec hp
  have hfits := s.ctDataKey_fits tile
  have hholds : (s.ctAdded tile i).Holds tile i _ _ := Pkg.ctFill_holds fun h6 => by have := hodd h6; omega
  obtain ⟨hproto, hv6⟩ := ConnKey.word3_fields hfits (fieldGet (s.ctData tile 3) 20 20 == 1) (fieldGet_lt _ 11 8) (fieldGet_lt _ 15 12)
    (fieldGet_lt (s.ctData tile 3) 18 16)
  exact ⟨hholds.valid hfits.vid (Pkg.ctFill_even heven hodd), hholds.key hfits hproto hv6, Pkg.ctFill_field (by decide) (by decide),
    Pkg.ctFill_field (by decide) (by decide), Pkg.ctFill_field (by decide) (by decide)⟩

/-- The data registers hold the entry's words. -/
theorem Pkg.ctCopied_low {w : Nat} (hw : w < 8) : (s.ctCopied tile i).ctData tile w = s.ctWord tile i w := by
  have hlow : (s.wrAll tile (fun w => 0x400020 + 4 * w) (fun w => s.ctWord tile i w) 8).ctData tile w = s.ctWord tile i w :=
    Pkg.rd_wrAll_same (off := fun w => 0x400020 + 4 * w) (fun a b h => by simp only at h; omega) hw
  unfold Pkg.ctCopied
  dsimp only
  split
  · exact (Pkg.rd_wrAll_ne fun v _ => by omega).trans hlow
  · exact hlow

theorem Pkg.ctCopied_high {w : Nat} (h6 : (s.ctDataKey tile).v6 = true) (hw : w < 8) :
    (s.ctCopied tile i).ctData tile (8 + w) = s.ctWord tile (i - 1) w := by
  rw [Pkg.ctCopied, if_pos h6]
  exact Pkg.rd_wrAll_same (off := fun w => 0x400020 + 4 * (8 + w)) (fun a b h => by simp only at h; omega) hw

theorem Touches.ctCopied {p q : Pkg} {W C : List Nat} (h : Touches p q W C) (hm : ∀ w < 16, pkgAddr tile (0x400020 + 4 * w) ∈ W) :
    Touches p (q.ctCopied tile i) W C := by
  have hlow := h.wrAll (t := tile) (off := fun w => 0x400020 + 4 * w) (f := fun w => q.ctWord tile i w) (n := 8) fun w hw => hm w (by omega)
  unfold Pkg.ctCopied
  dsimp only
  split
  · exact hlow.wrAll fun w hw => hm (8 + w) (by omega)
  · exact hlow

end

/-! ### The table as the home die remembers the write -/

section
variable (s : Pkg) (r : Req) (n d o : Nat) (v : Word) (t : Nat)

theorem Pkg.remembered_eq : ∃ now out reqs turn, (s.reach n).remember r d o v = { s with now := now, out := out, reqs := reqs, portTurn := turn } := by
  obtain ⟨x, k, y, h⟩ := (s.reach n).remember_eq r d o v
  exact ⟨_, _, _, _, by rw [h]; rfl⟩

theorem Pkg.remember_ctDataKey : ((s.reach n).remember r d o v).ctDataKey t = s.ctDataKey t := by
  obtain ⟨_, _, _, _, h⟩ := s.remembered_eq r n d o v; rw [h]; rfl

theorem Pkg.remember_ctFind (k : ConnKey) : ((s.reach n).remember r d o v).ctFind t k = s.ctFind t k := by
  obtain ⟨_, _, _, _, h⟩ := s.remembered_eq r n d o v; rw [h]; rfl

theorem Pkg.remember_ctPlace (k : ConnKey) : ((s.reach n).remember r d o v).ctPlace t k = s.ctPlace t k := by
  obtain ⟨_, _, _, _, h⟩ := s.remembered_eq r n d o v; rw [h]; rfl

theorem Pkg.remember_ctWord (i w : Nat) : ((s.reach n).remember r d o v).ctWord t i w = s.ctWord t i w := by
  obtain ⟨_, _, _, _, h⟩ := s.remembered_eq r n d o v; rw [h]; rfl

theorem Pkg.remember_ctData (w : Nat) : ((s.reach n).remember r d o v).ctData t w = s.ctData t w := by
  obtain ⟨_, _, _, _, h⟩ := s.remembered_eq r n d o v; rw [h]; rfl

theorem Pkg.remember_seenNow : ((s.reach n).remember r d o v).seenNow t = (s.reach n).seenNow t := by
  simp only [Pkg.seenNow, Pkg.remember_countNs]

end

theorem State.finish_ctKeyAt (s : State) (t i : Nat) : s.finish.pkg.ctKeyAt t i = s.pkg.ctKeyAt t i := Pkg.ctKeyAt_congr (s.finish_ctWord t) i

theorem State.finish_ctData (s : State) (t w : Nat) : s.finish.pkg.ctData t w = s.pkg.ctData t w := State.finish_pkg_rd s _ _

/-! ### The commands -/

section
variable {s : State} {a : Acc} {tile i : Nat} {v : Word}

/-- The package as a command of the port finds it. -/
abbrev State.atPort (s : State) (a : Acc) (tile : Nat) (v : Word) : Pkg := (s.pkg.reach a.at_).remember a.req tile 0x400060 v

/-- A command that only answers. -/
theorem ctAnswer {f : Pkg → Pkg} {code slot : Nat} (hc : code < 8) (he : f s.pkg = (s.atPort a tile v).ctResult tile code slot) :
    (s.map f).finish.pkg.get tile ⟨0x400064, 2, 0⟩ = code ∧ (s.map f).finish.pkg.on tile ⟨0x400064, 31, 31⟩ = true ∧
    Frame s (s.map f).finish [pkgAddr tile 0x400064] [] := by
  refine ⟨?_, ?_, frame_remember (r := a.req) (n := a.at_) (die := tile) (off := 0x400060) (v := v) ?_⟩
  · rw [State.finish_pkg_get, State.map_pkg, he]; exact Pkg.ctResult_code hc
  · rw [State.finish_pkg_on, State.map_pkg, he]; exact Pkg.ctResult_done
  · rw [he]; exact (Touches.refl _ _ _).ctResult (by simp)

theorem ctInsert_exists (h : s.pkg.reaches a.req tile 0x400060 1) (ht : tile < 7) (hst : fieldGet (s.pkg.ctData tile 3) 18 16 < 4)
    (hf : s.pkg.ctFind tile (s.pkg.ctDataKey tile) = some i) : Runs (.ctInsert a tile) s (fun t =>
      t.pkg.get tile ⟨0x400064, 2, 0⟩ = 1 ∧ t.pkg.on tile ⟨0x400064, 31, 31⟩ = true ∧ Frame s t [pkgAddr tile 0x400064] []) :=
  runs_tileWrite h (by omega) (by decide) rfl (ctInsertEff a.req tile) (writeTile_ctInsert _ _ _) <| ctAnswer (by decide) <|
    ctInsertEff_exists (by rwa [Pkg.remember_ctData]) (by rwa [Pkg.remember_ctDataKey, Pkg.remember_ctFind])

theorem ctInsert_full (h : s.pkg.reaches a.req tile 0x400060 1) (ht : tile < 7) (hst : fieldGet (s.pkg.ctData tile 3) 18 16 < 4)
    (hf : s.pkg.ctFind tile (s.pkg.ctDataKey tile) = none) (hp : s.pkg.ctPlace tile (s.pkg.ctDataKey tile) = none) :
    Runs (.ctInsert a tile) s (fun t =>
      t.pkg.get tile ⟨0x400064, 2, 0⟩ = 2 ∧ t.pkg.on tile ⟨0x400064, 31, 31⟩ = true ∧ Frame s t [pkgAddr tile 0x400064] []) :=
  runs_tileWrite h (by omega) (by decide) rfl (ctInsertEff a.req tile) (writeTile_ctInsert _ _ _) <| ctAnswer (by decide) <|
    ctInsertEff_full (by rwa [Pkg.remember_ctData]) (by rwa [Pkg.remember_ctDataKey, Pkg.remember_ctFind])
      (by rwa [Pkg.remember_ctDataKey, Pkg.remember_ctPlace])

/-- The words of a connection's slot and of the slot before it, with the command port's result and CT_USED. -/
abbrev connWords (tile i : Nat) : List Nat := [pkgAddr tile 0x400064, pkgAddr tile 0x400014] ++ slotWords tile i ++ slotWords tile (i - 1)

theorem slotWords_sub_connWords (tile i : Nat) : slotWords tile i ⊆ connWords tile i := fun _ h => List.mem_append_left _ (List.mem_append_right _ h)

theorem slotWords_pred_sub_connWords (tile i : Nat) : slotWords tile (i - 1) ⊆ connWords tile i := fun _ h => List.mem_append_right _ h

theorem ctInsert_adds (h : s.pkg.reaches a.req tile 0x400060 1) (ht : tile < 7) (hst : fieldGet (s.pkg.ctData tile 3) 18 16 < 4)
    (hf : s.pkg.ctFind tile (s.pkg.ctDataKey tile) = none) (hp : s.pkg.ctPlace tile (s.pkg.ctDataKey tile) = some i) :
    Runs (.ctInsert a tile) s (fun t =>
      t.pkg.get tile ⟨0x400064, 2, 0⟩ = 0 ∧ t.pkg.on tile ⟨0x400064, 31, 31⟩ = true ∧
      t.pkg.ctValid tile i = true ∧ t.pkg.ctKeyAt tile i = s.pkg.ctDataKey tile ∧
      t.pkg.ctWord tile i 4 = BitVec.ofNat 32 ((s.pkg.reach a.at_).seenNow tile) ∧ t.pkg.ctWord tile i 5 = 0 ∧ t.pkg.ctWord tile i 6 = 0 ∧
      Frame s t (connWords tile i) []) := by
  have hplace : (s.atPort a tile 1).ctPlace tile ((s.atPort a tile 1).ctDataKey tile) = some i := by rwa [Pkg.remember_ctDataKey, Pkg.remember_ctPlace]
  have heff := ctInsertEff_adds (s := s.atPort a tile 1) (r := a.req) (by rwa [Pkg.remember_ctData])
    (by rwa [Pkg.remember_ctDataKey, Pkg.remember_ctFind]) hplace
  obtain ⟨hvalid, hkey, hseen, hini, hrsp⟩ := Pkg.ctAdded_spec hplace
  refine runs_tileWrite h (by omega) (by decide) rfl (ctInsertEff a.req tile) (writeTile_ctInsert _ _ _) ⟨?_, ?_, ?_, ?_, ?_, ?_, ?_,
    frame_remember (r := a.req) (n := a.at_) (die := tile) (off := 0x400060) (v := 1) ?_⟩
  · rw [State.finish_pkg_get, State.map_pkg, heff]; exact Pkg.ctResult_code (by decide)
  · rw [State.finish_pkg_on, State.map_pkg, heff]; exact Pkg.ctResult_done
  · rw [State.finish_ctValid, State.map_pkg, heff, Pkg.ctValid_ctResult, hvalid]
  · rw [State.finish_ctKeyAt, State.map_pkg, heff, Pkg.ctKeyAt_ctResult, hkey, Pkg.remember_ctDataKey]
  · rw [State.finish_ctWord, State.map_pkg, heff, Pkg.ctWord_ctResult, hseen, Pkg.remember_seenNow]
  · rw [State.finish_ctWord, State.map_pkg, heff, Pkg.ctWord_ctResult, hini]
  · rw [State.finish_ctWord, State.map_pkg, heff, Pkg.ctWord_ctResult, hrsp]
  · rw [heff]; exact ((Touches.refl _ _ _).ctFill (by simp) (slotWords_sub_connWords _ _) (slotWords_pred_sub_connWords _ _)).ctResult (by simp)

theorem ctDelete_found (h : s.pkg.reaches a.req tile 0x400060 2) (ht : tile < 7) (hf : s.pkg.ctFind tile (s.pkg.ctDataKey tile) = some i) :
    Runs (.ctDelete a tile) s (fun t =>
      t.pkg.get tile ⟨0x400064, 2, 0⟩ = 0 ∧ t.pkg.ctValid tile i = false ∧ Frame s t (connWords tile i) []) := by
  have heff := ctDeleteEff_found (s := s.atPort a tile 2) (tile := tile) (by rwa [Pkg.remember_ctDataKey, Pkg.remember_ctFind])
  refine runs_tileWrite h (by omega) (by decide) rfl (ctDeleteEff tile) (writeTile_ctDelete _ _ _) ⟨?_, ?_,
    frame_remember (r := a.req) (n := a.at_) (die := tile) (off := 0x400060) (v := 2) ?_⟩
  · rw [State.finish_pkg_get, State.map_pkg, heff]; exact Pkg.ctResult_code (by decide)
  · rw [State.finish_ctValid, State.map_pkg, heff, Pkg.ctValid_ctResult, Pkg.ctClear_ctValid]
  · rw [heff]; exact ((Touches.refl _ _ _).ctClear (by simp) (slotWords_sub_connWords _ _) fun _ => slotWords_pred_sub_connWords _ _).ctResult (by simp)

theorem ctDelete_missing (h : s.pkg.reaches a.req tile 0x400060 2) (ht : tile < 7) (hf : s.pkg.ctFind tile (s.pkg.ctDataKey tile) = none) :
    Runs (.ctDelete a tile) s (fun t => t.pkg.get tile ⟨0x400064, 2, 0⟩ = 3 ∧ Frame s t [pkgAddr tile 0x400064] []) :=
  have heff := ctDeleteEff_missing (s := s.atPort a tile 2) (by rwa [Pkg.remember_ctDataKey, Pkg.remember_ctFind])
  have ⟨hcode, _, hframe⟩ := ctAnswer (f := fun p => ctDeleteEff tile ((p.reach a.at_).remember a.req tile 0x400060 2)) (by decide) heff
  runs_tileWrite h (by omega) (by decide) rfl (ctDeleteEff tile) (writeTile_ctDelete _ _ _) ⟨hcode, hframe⟩

theorem ctLookup_found (h : s.pkg.reaches a.req tile 0x400060 3) (ht : tile < 7) (hf : s.pkg.ctFind tile (s.pkg.ctDataKey tile) = some i) :
    Runs (.ctLookup a tile) s (fun t =>
      t.pkg.get tile ⟨0x400064, 2, 0⟩ = 0 ∧ (∀ w < 8, t.pkg.ctData tile w = s.pkg.ctWord tile i w) ∧
      ((s.pkg.ctDataKey tile).v6 = true → ∀ w < 8, t.pkg.ctData tile (8 + w) = s.pkg.ctWord tile (i - 1) w) ∧
      Frame s t (pkgAddr tile 0x400064 :: (List.range 16).map (fun w => pkgAddr tile (0x400020 + 4 * w))) []) := by
  have heff := ctLookupEff_found (s := s.atPort a tile 3) (tile := tile) (by rwa [Pkg.remember_ctDataKey, Pkg.remember_ctFind])
  have hdata {w : Nat} (hw : w < 16) : (ctLookupEff tile (s.atPort a tile 3)).ctData tile w = ((s.atPort a tile 3).ctCopied tile i).ctData tile w := by
    rw [heff]; exact Pkg.rd_ctResult (by simp only [oCtResult]; omega)
  refine runs_tileWrite h (by omega) (by decide) rfl (ctLookupEff tile) (writeTile_ctLookup _ _ _) ⟨?_, fun w hw => ?_, fun h6 w hw => ?_,
    frame_remember (r := a.req) (n := a.at_) (die := tile) (off := 0x400060) (v := 3) ?_⟩
  · rw [State.finish_pkg_get, State.map_pkg, heff]; exact Pkg.ctResult_code (by decide)
  · rw [State.finish_ctData, State.map_pkg, hdata (by omega), Pkg.ctCopied_low hw, Pkg.remember_ctWord]
  · rw [State.finish_ctData, State.map_pkg, hdata (by omega), Pkg.ctCopied_high (by rwa [Pkg.remember_ctDataKey]) hw, Pkg.remember_ctWord]
  · rw [heff]
    exact ((Touches.refl _ _ _).ctCopied fun w hw => List.mem_cons_of_mem _ (List.mem_map.2 ⟨w, List.mem_range.2 hw, rfl⟩)).ctResult (by simp)

theorem ctLookup_missing (h : s.pkg.reaches a.req tile 0x400060 3) (ht : tile < 7) (hf : s.pkg.ctFind tile (s.pkg.ctDataKey tile) = none) :
    Runs (.ctLookup a tile) s (fun t => t.pkg.get tile ⟨0x400064, 2, 0⟩ = 3 ∧ Frame s t [pkgAddr tile 0x400064] []) :=
  have heff := ctLookupEff_missing (s := s.atPort a tile 3) (by rwa [Pkg.remember_ctDataKey, Pkg.remember_ctFind])
  have ⟨hcode, _, hframe⟩ := ctAnswer (f := fun p => ctLookupEff tile ((p.reach a.at_).remember a.req tile 0x400060 3)) (by decide) heff
  runs_tileWrite h (by omega) (by decide) rfl (ctLookupEff tile) (writeTile_ctLookup _ _ _) ⟨hcode, hframe⟩

end

/-- Settles O18: each command is its effect on the table as the home die remembers the write, split by what the table finds for the key. -/
theorem connectionCommands : Obligations.ConnectionCommands := fun _ _ _ ht =>
  ⟨fun h hst => ⟨fun _ => ctInsert_exists h ht hst, ctInsert_full h ht hst, fun _ => ctInsert_adds h ht hst⟩,
    fun h => ⟨fun _ => ctDelete_found h ht, ctDelete_missing h ht⟩, fun h => ⟨fun _ => ctLookup_found h ht, ctLookup_missing h ht⟩⟩

end Sys2Proof.Machine
end

section
/-! PROOFS. The cells that go back when a copy's reference goes (R109, R112, R119): what O17 asks of a discarded copy. -/
namespace Sys2Proof.Machine

/-! ### Charges that go back -/

/-- From p to q cells went back: at most these words and counters changed, and the frames, the recirculation lists and the waiting copies stayed. -/
structure Gives (p q : Pkg) (W C : List Nat) : Prop where
  touches : Touches p q W C
  frames  : q.sw.frames = p.sw.frames
  recirc  : q.sw.recirc = p.sw.recirc
  waiting : q.sw.waiting = p.sw.waiting

/-- The XOFF word and the pause counter of a charge's account on tile t are among these (R112). -/
def Charge.Within (c : Charge) (t : Nat) (W C : List Nat) : Prop :=
  c.kind = .account → pkgAddr t (fXoffTx c.port).off ∈ W ∧ pkgAddr t (oPauseTx c.port) ∈ C

namespace Gives
variable {p q r : Pkg} {W C : List Nat}

theorem refl (p : Pkg) (W C : List Nat) : Gives p p W C := ⟨.refl p W C, rfl, rfl, rfl⟩

theorem onSw (h : Gives p q W C) {f : SwitchSt → SwitchSt} (hf : ∀ w, ((f w).frames, (f w).recirc, (f w).waiting) = (w.frames, w.recirc, w.waiting)) :
    Gives p (q.onSw f) W C := by
  have hq := hf q.sw
  simp only [Prod.mk.injEq] at hq
  obtain ⟨hframes, hrecirc, hwaiting⟩ := hq
  exact ⟨h.touches.onSw, hframes.trans h.frames, hrecirc.trans h.recirc, hwaiting.trans h.waiting⟩

theorem emit (h : Gives p q W C) {e : OutEv} : Gives p (q.emit e) W C := ⟨h.touches.same rfl rfl rfl rfl, h.frames, h.recirc, h.waiting⟩
theorem bump (h : Gives p q W C) {d o : Nat} (hm : pkgAddr d o ∈ C) : Gives p (q.bump d o) W C := ⟨h.touches.bump hm, h.frames, h.recirc, h.waiting⟩
theorem put (h : Gives p q W C) {d : Nat} {f : Fld} {v : Nat} (hm : pkgAddr d f.off ∈ W) : Gives p (q.put d f v) W C :=
  ⟨h.touches.put hm, h.frames, h.recirc, h.waiting⟩
theorem ite (h : Gives p q W C) {c : Prop} [Decidable c] (h' : Gives p r W C) : Gives p (if c then q else r) W C := by split <;> assumption

theorem setPort (h : Gives p q W C) {t n : Nat} {x : PortSt} : Gives p (q.setPort t n x) W C := h.onSw fun _ => rfl
theorem setPool (h : Gives p q W C) {t : Nat} {x : PoolUse} : Gives p (q.setPool t x) W C := h.onSw fun _ => rfl
theorem setAcct (h : Gives p q W C) {t n c : Nat} {x : AcctUse} : Gives p (q.setAcct t n c x) W C := h.onSw fun _ => rfl
theorem setSpanShared (h : Gives p q W C) {t n c v : Nat} : Gives p (q.setSpanShared t n c v) W C := h.onSw fun _ => rfl
theorem setSpanMinUsed (h : Gives p q W C) {t n c v : Nat} : Gives p (q.setSpanMinUsed t n c v) W C := h.onSw fun _ => rfl

/-! The XOFF of an account (R112). -/

theorem sendControl (h : Gives p q W C) {t n : Nat} {e : OutEv} (hc : pkgAddr t (oPauseTx n) ∈ C) : Gives p (q.sendControl t n e) W C :=
  (h.emit.bump hc).ite h.setPort
theorem sendPfc (h : Gives p q W C) {t n c k : Nat} (hc : pkgAddr t (oPauseTx n) ∈ C) : Gives p (q.sendPfc t n c k) W C := (h.sendControl hc).setPort
theorem sendPause (h : Gives p q W C) {t n k : Nat} (hc : pkgAddr t (oPauseTx n) ∈ C) : Gives p (q.sendPause t n k) W C := (h.sendControl hc).setPort

theorem updXoff (h : Gives p q W C) {t n c : Nat} (hw : pkgAddr t (fXoffTx n).off ∈ W) (hc : pkgAddr t (oPauseTx n) ∈ C) :
    Gives p (q.updXoff t n c) W C :=
  have hbit {b : Bool} : Gives p (q.setXoffBit t n c b) W C := h.put hw
  (hbit.ite ((hbit.sendPfc hc).ite ((hbit.sendPause hc).ite hbit))).ite h |>.ite ((hbit.ite ((hbit.sendPfc hc).ite ((hbit.sendPause hc).ite hbit))).ite h)

theorem releaseCharge (h : Gives p q W C) {t src : Nat} {c : Charge} (hm : c.Within t W C) : Gives p (q.releaseCharge t src c) W C := by
  unfold Pkg.releaseCharge
  split
  · next hk => obtain ⟨hw, hc⟩ := hm hk; exact h.setAcct.setPool.updXoff hw hc
  · exact h.setPool
  · exact h.setPool
  · exact h.setSpanShared.setPool.setSpanMinUsed
  · exact h

end Gives

/-! ### Frames whose charges go back or move -/

/-- The XOFF words and pause counters of all of a frame's charges are among these. -/
def FrameRec.Within (f : FrameRec) (W C : List Nat) : Prop := ∀ c ∈ f.charge :: f.before, c.Within f.tile W C

/-- From p to q these frames gave cells back or moved them to the recirculation account, and the charges they hold still may go back. -/
structure Moves (p q : Pkg) (ids W C : List Nat) : Prop where
  touches : Touches p q W C
  recirc  : q.sw.recirc = p.sw.recirc
  waiting : q.sw.waiting = p.sw.waiting
  within  : ∀ i ∈ ids, (q.frame i).Within W C

theorem Pkg.frame_setFrame (s : Pkg) (i j : Nat) (f : FrameRec) : (s.setFrame i f).frame j = if j = i then f else s.frame j :=
  SMap.get_set ({} : FrameRec) s.sw.frames i j f

/-- A charge of another kind than an account's sends no pause. -/
theorem Charge.within_of_kind {c : Charge} (h : c.kind ≠ .account) (t : Nat) (W C : List Nat) : c.Within t W C := fun hk => absurd hk h

namespace Moves
variable {p q r : Pkg} {ids W C : List Nat} {i t : Nat}

theorem gives (h : Moves p q ids W C) (h' : Gives q r W C) : Moves p r ids W C :=
  ⟨h.touches.trans h'.touches, h'.recirc.trans h.recirc, h'.waiting.trans h.waiting, fun i hi => by
    rw [Pkg.frame, h'.frames]; exact h.within i hi⟩

theorem setFrame (h : Moves p q ids W C) {f : FrameRec} (hf : f.Within W C) : Moves p (q.setFrame i f) ids W C :=
  ⟨h.touches.onSw, h.recirc, h.waiting, fun j hj => by
    rw [Pkg.frame_setFrame]; split
    · exact hf
    · exact h.within j hj⟩

theorem releaseFrame (h : Moves p q ids W C) (hi : i ∈ ids) : Moves p (q.releaseFrame i) ids W C := by
  have hin := h.within i hi
  have hbefore : Moves p ((q.frame i).before.foldl (fun s c => s.releaseCharge (q.frame i).tile (q.frame i).src c) q) ids W C :=
    List.foldlRecOn (motive := fun s => Moves p s ids W C) _ _ h fun s hs c hc => hs.gives ((Gives.refl s W C).releaseCharge (hin c (by simp [hc])))
  refine (hbefore.gives ((Gives.refl _ W C).releaseCharge (hin _ (by simp)))).setFrame fun c hc => ?_
  obtain rfl : c = {} := by simpa using hc
  exact Charge.within_of_kind (by decide) _ _ _

theorem recircMove (h : Moves p q ids W C) (hi : i ∈ ids) : Moves p (q.recircMove t i).1 ids W C := by
  unfold Pkg.recircMove
  dsimp only
  split
  · exact h
  · split
    · have hfree : Moves p _ ids W C := (h.releaseFrame hi).gives ((Gives.refl _ W C).setPool (t := t)
        (x := { (q.releaseFrame i).pool t with recirc := ((q.releaseFrame i).pool t).recirc + (q.frame i).cells }))
      refine hfree.setFrame fun c hc => ?_
      rcases List.mem_cons.1 hc with rfl | hc
      · exact Charge.within_of_kind (by simp) _ _ _
      · exact hfree.within i hi c (List.mem_cons_of_mem _ hc)
    · exact h

theorem recircFill (h : Moves p q ids W C) (hr : ∀ r ∈ p.sw.recirc, r.frame ∈ ids) : Moves p (q.recircFill t) ids W C := by
  refine List.foldlRecOn (motive := fun (x : Pkg × List Nat) => Moves p x.1 ids W C) _ _ h fun x hx r hmem => ?_
  have hin : r.frame ∈ ids := hr r (h.recirc ▸ (List.mem_filter.1 hmem).1)
  dsimp only
  split
  · exact hx
  · split
    · exact hx.recircMove hin
    · exact hx

theorem endFrame (h : Moves p q ids W C) (hi : i ∈ ids) (hr : (q.frame i).charge.kind = .recirc → ∀ r ∈ p.sw.recirc, r.frame ∈ ids) :
    Moves p (q.endFrame i) ids W C := by
  have hgone : Moves p ((q.releaseFrame i).setFrame i {}) ids W C := (h.releaseFrame hi).setFrame fun c hc => by
    obtain rfl : c = {} := by simpa using hc
    exact Charge.within_of_kind (by decide) _ _ _
  unfold Pkg.endFrame
  dsimp only
  split
  · next hk => exact hgone.recircFill (hr hk)
  · exact hgone

/-- A reference to a frame that has crossed goes. -/
theorem dropRef (h : Moves p q ids W C) (hi : i ∈ ids) (hr : (q.frame i).charge.kind = .recirc → ∀ r ∈ p.sw.recirc, r.frame ∈ ids)
    (hup : (q.frame i).up = none) : Moves p (q.dropRef i) ids W C := by
  unfold Pkg.dropRef
  dsimp only
  rw [hup]
  split
  · exact h.setFrame (h.within i hi)
  · exact h.endFrame hi hr

end Moves

/-- The frames whose charges may go back with the last reference to this one. -/
def Pkg.freed (s : Pkg) (id : Nat) : List Nat := id :: if (s.frame id).charge.kind = .recirc then s.sw.recirc.map (·.frame) else []

/-- The words and counters that the statement names hold those of every frame that may give cells back. -/
theorem Pkg.freed_within {s : Pkg} {id i : Nat} (hi : i ∈ s.freed id) : (s.frame i).Within (s.xoffWords id) (s.pauseCounts id) := fun c hc _ =>
  have hmem : ((s.frame i).tile, c) ∈ s.charges id := List.mem_flatMap.2 ⟨i, hi, List.mem_map.2 ⟨c, hc, rfl⟩⟩
  ⟨List.mem_map.2 ⟨_, hmem, rfl⟩, List.mem_map.2 ⟨_, hmem, rfl⟩⟩

/-- What goes with a reference to a frame that has crossed, from a package with the frames and recirculation lists of p. -/
theorem Pkg.dropRef_moves {p s : Pkg} {id : Nat} (hf : s.sw.frames = p.sw.frames) (hr : s.sw.recirc = p.sw.recirc) (hup : (p.frame id).up = none) :
    Moves s (s.dropRef id) (p.freed id) (p.xoffWords id) (p.pauseCounts id) := by
  have hframe (i : Nat) : s.frame i = p.frame i := by rw [Pkg.frame, hf]; rfl
  refine Moves.dropRef ⟨.refl _ _ _, rfl, rfl, fun i hi => ?_⟩ (by simp [Pkg.freed]) (fun hk r hm => ?_) (by rw [hframe, hup])
  · rw [hframe]; exact Pkg.freed_within hi
  · rw [hframe] at hk
    rw [hr] at hm
    simp only [Pkg.freed, if_pos hk]
    exact List.mem_cons_of_mem _ (List.mem_map.2 ⟨r, hm, rfl⟩)

end Sys2Proof.Machine
end

section
/-! PROOFS. A waiting copy is discarded, or joins its queue (R110, R121, R135): the part of O17 about ENQUEUE. -/
namespace Sys2Proof.Machine

/-! ### The end of a step that gives cells back -/

theorem Background.reach {p q : Pkg} (h : Background p q) {n : Nat} : Background p (q.reach n) :=
  h.trans ⟨(Undisturbed.refl q).same rfl rfl rfl rfl rfl, rfl, rfl, rfl, rfl, rfl, rfl, fun _ => rfl⟩

/-- A step of the switch that leaves the trestle alone, with what it makes of the package. -/
theorem runs_rests {i : Instr} {s : State} {P : State → Prop} {f : Pkg → Pkg} {q : Pkg} (h : exec i s = .next (s.onFlow f)) (he : f s.pkg = q)
    (hback : Background s.pkg q) (hw : s.noEthWaits) (hp : P (s.restsAt q)) : Runs i s P := by
  subst he
  exact runs_onFlow h (State.noEthWaits_of_kept hw hback.undisturbed.trestles hback.mode) hp

theorem State.restsAt_queue (s : State) (q : Pkg) (t n c : Nat) : (s.restsAt q).pkg.queue t n c = q.queue t n c := by
  rw [Pkg.queue, State.restsAt_sw]; rfl

section
variable {p q : Pkg} {W C : List Nat}

theorem Touches.unwait (h : Touches p q W C) {id : Nat} : Touches p (q.unwait id) W C := h.onSw
theorem Touches.setQueue (h : Touches p q W C) {t n c : Nat} {l : List Copy} : Touches p (q.setQueue t n c l) W C := h.onSw
theorem Touches.setQst (h : Touches p q W C) {t n c : Nat} {x : QueueSt} : Touches p (q.setQst t n c x) W C := h.onSw
theorem Touches.settleQ (h : Touches p q W C) {t n c : Nat} : Touches p (q.settleQ t n c) W C := h.setQst
theorem Background.unwait (h : Background p q) {id : Nat} : Background p (q.unwait id) := h.onSw fun _ => rfl

end

/-! ### The copy is discarded (R121, R135) -/

theorem Pkg.unwait_frames (s : Pkg) (id : Nat) : (s.unwait id).sw.frames = s.sw.frames := (rfl)
theorem Pkg.unwait_cnt (s : Pkg) (id d o : Nat) : (s.unwait id).cnt d o = s.cnt d o := (rfl)
theorem Pkg.unwait_recirc (s : Pkg) (id : Nat) : (s.unwait id).sw.recirc = s.sw.recirc := (rfl)

theorem Pkg.unwait_gone (s : Pkg) (id : Nat) : ∀ x ∈ (s.unwait id).sw.waiting, x.id ≠ id := fun x hx => by
  simpa using (List.mem_filter.1 hx).2

/-- The counter of LINK_DOWN or STALL_FLUSH is no port's TX_DISC and no port's count of pause frames. -/
theorem oDisc_apart {code : Nat} (h : code = 18 ∨ code = 20) (d d' n : Nat) :
    pkgAddr d (oDisc code) ≠ pkgAddr d' (oTxDisc n) ∧ pkgAddr d (oDisc code) ≠ pkgAddr d' (oPauseTx n) := by
  simp only [pkgAddr, oDisc, oTxDisc, oPauseTx]
  omega

section
variable {s : Pkg} {c : Copy} {code : Nat}

theorem Pkg.dropWaiting_eq (h : code = 18 ∨ code = 20) : s.dropWaiting c code = ((s.discard c.tile code c.port).unwait c.id).dropRef c.frame := by
  rw [Pkg.dropWaiting, if_neg (by omega)]

theorem Pkg.discard_egress (h : code = 18 ∨ code = 20) (t n : Nat) : s.discard t code n = (s.bump t (oDisc code)).bump t (oTxDisc n) := by
  rw [Pkg.discard, if_neg (by omega)]

theorem Pkg.discard_sw (s : Pkg) (t code n : Nat) : (s.discard t code n).sw = s.sw := (rfl)

/-- What goes back with the reference of a discarded copy. -/
theorem Pkg.dropWaiting_moves (h : code = 18 ∨ code = 20) (hup : (s.frame c.frame).up = none) :
    Moves ((s.discard c.tile code c.port).unwait c.id) (s.dropWaiting c code) (s.freed c.frame) (s.xoffWords c.frame) (s.pauseCounts c.frame) := by
  rw [Pkg.dropWaiting_eq h]
  have hsw := s.discard_sw c.tile code c.port
  exact Pkg.dropRef_moves ((Pkg.unwait_frames _ _).trans (congrArg SwitchSt.frames hsw))
    ((Pkg.unwait_recirc _ _).trans (congrArg SwitchSt.recirc hsw)) hup

theorem Pkg.dropWaiting_gone (h : code = 18 ∨ code = 20) (hup : (s.frame c.frame).up = none) : ∀ x ∈ (s.dropWaiting c code).sw.waiting, x.id ≠ c.id := by
  rw [(Pkg.dropWaiting_moves h hup).waiting]
  exact Pkg.unwait_gone _ _

theorem Pkg.dropWaiting_counted (h : code = 18 ∨ code = 20) (hup : (s.frame c.frame).up = none) :
    (s.dropWaiting c code).cnt c.tile (oDisc code) = s.cnt c.tile (oDisc code) + 1 := by
  have hpause : pkgAddr c.tile (oDisc code) ∉ s.pauseCounts c.frame := fun hm => by
    obtain ⟨e, -, he⟩ := List.mem_map.1 hm
    exact (oDisc_apart h c.tile e.1 e.2.port).2 he.symm
  calc (s.dropWaiting c code).cnt c.tile (oDisc code)
    _ = (s.discard c.tile code c.port).cnt c.tile (oDisc code) :=
        ((Pkg.dropWaiting_moves h hup).touches.counts _ _ hpause).trans (Pkg.unwait_cnt ..)
    _ = (s.bump c.tile (oDisc code)).cnt c.tile (oDisc code) := by rw [Pkg.discard_egress h, Pkg.cnt_bump_ne _ (oDisc_apart h _ _ _).1]
    _ = s.cnt c.tile (oDisc code) + 1 := Pkg.cnt_bump_same _ _ _

theorem Pkg.dropWaiting_touches (h : code = 18 ∨ code = 20) (hup : (s.frame c.frame).up = none) : Touches s (s.dropWaiting c code) (s.xoffWords c.frame)
    ([pkgAddr c.tile (oDisc code), pkgAddr c.tile (oTxDisc c.port)] ++ s.pauseCounts c.frame) := by
  have hcounted : Touches s (s.discard c.tile code c.port) (s.xoffWords c.frame)
      ([pkgAddr c.tile (oDisc code), pkgAddr c.tile (oTxDisc c.port)] ++ s.pauseCounts c.frame) := by
    rw [Pkg.discard_egress h]
    exact ((Touches.refl s _ _).bump (by simp)).bump (by simp)
  exact hcounted.unwait.trans ((Pkg.dropWaiting_moves h hup).touches.mono (fun _ hx => hx) fun _ hx => List.mem_append_right _ hx)

theorem Background.dropWaiting {p q : Pkg} (h : Background p q) (hcode : code = 18 ∨ code = 20) : Background p (q.dropWaiting c code) := by
  rw [Pkg.dropWaiting_eq hcode]
  exact h.discard.unwait.dropRef

end

/-! ### ENQUEUE, case by case (R110) -/

/-- What becomes of a waiting copy whose turn it may be: the body of ENQUEUE. -/
def Pkg.offer (s : Pkg) (tile : Nat) (c : Copy) : Pkg :=
  if c.bad && !s.cuts c then (s.unwait c.id).dropRef c.frame
  else if !s.linkUp tile c.port then (if c.mc then s else s.dropWaiting c 18)
  else if s.ctrlPortDown tile c.port c.edited.bytes then (s.dropWaiting c 18).bump tile oTxNoSa
  else if s.stalledQ tile c.port c.q then s.dropWaiting c 20
  else if s.windowFresh tile c.q && s.atLimit tile c.port c.q then s.dropWaiting c 19
  else if !s.firstWaiting c || s.queueFull tile c.port c.q c.cells then s
  else
    let r := (s.tookSpan c).recoverCopy c
    if !r.2 then r.1.dropWaiting c 13
    else
      let q := r.1.settleQ tile c.port c.q
      let q := if s.cuts c then (q.bump tile oCutThrough).bump tile (oCut c.port) else q
      (q.unwait c.id).joinQueue { c with cut := s.cuts c, rcvy := if q.bypassed c then none else c.rcvy }

section
variable {p s : Pkg} {tile id at_ : Nat} {c : Copy}

theorem enqueue_eq (hc : p.waitingCopy id = some c) (ht : c.tile = tile) (hin : p.inService tile = true) (hx : p.crossed c = true) :
    enqueue tile id at_ p = (p.reach at_).offer tile c := by
  have hc' : (p.reach at_).waitingCopy id = some c := hc
  have hturn : (c.tile == tile && (p.reach at_).inService tile && (p.reach at_).crossed c) = true := by
    rw [ht, beq_self_eq_true]
    exact Bool.and_eq_true_iff.2 ⟨hin, hx⟩
  rw [enqueue, hc']
  exact Pkg.when_pos _ _ hturn

theorem Pkg.offer_linkDown (hbad : c.bad = false) (hl : s.linkUp tile c.port = false) (hmc : c.mc = false) : s.offer tile c = s.dropWaiting c 18 := by
  simp [Pkg.offer, hbad, hl, hmc]

theorem Pkg.offer_stalled (hbad : c.bad = false) (hl : s.linkUp tile c.port = true) (hctrl : s.ctrlPortDown tile c.port c.edited.bytes = false)
    (hst : s.stalledQ tile c.port c.q = true) : s.offer tile c = s.dropWaiting c 20 := by
  simp [Pkg.offer, hbad, hl, hctrl, hst]

/-- The queue with its credit settled, and the copy counted where it is cut through. -/
def Pkg.readied (s : Pkg) (tile : Nat) (c : Copy) : Pkg :=
  let q := (s.tookSpan c).settleQ tile c.port c.q
  if s.cuts c then (q.bump tile oCutThrough).bump tile (oCut c.port) else q

/-- The copy stands at the end of its queue. -/
def Pkg.joined (s : Pkg) (tile : Nat) (c : Copy) : Pkg := ((s.readied tile c).unwait c.id).joinQueue { c with cut := s.cuts c }

theorem Pkg.offer_joins (hbad : c.bad = false) (hl : s.linkUp tile c.port = true) (hctrl : s.ctrlPortDown tile c.port c.edited.bytes = false)
    (hst : s.stalledQ tile c.port c.q = false) (hlim : s.atLimit tile c.port c.q = false) (hfirst : s.firstWaiting c = true) (hr : c.rcvy = none) :
    s.offer tile c = s.joined tile c := by
  have hrec (q : Pkg) : q.recoverCopy c = (q, true) := by rw [Pkg.recoverCopy, hr]
  simp [Pkg.offer, Pkg.joined, Pkg.readied, Pkg.queueFull, hbad, hl, hctrl, hst, hlim, hfirst, hrec, hr]

/-! ### The copy joins its queue (R110) -/

/-- Only the queue's own state changes with its credit, its spill state and its watchdog. -/
theorem Pkg.wdUpdate_eq (s : Pkg) (t n q : Nat) : ∃ m, s.wdUpdate t n q = s.onSw fun w => { w with queueSt := m } := by
  unfold Pkg.wdUpdate
  dsimp only
  split
  · exact ⟨_, rfl⟩
  · split
    · exact ⟨_, rfl⟩
    · exact ⟨s.sw.queueSt, rfl⟩

/-- The copy as it stands in its queue. -/
def Pkg.placed (s : Pkg) (c : Copy) : Copy :=
  let mir : Bool := match c.kind with | .mirror _ => true | _ => false
  { c with enq := s.now, loc := if (s.qst c.tile c.port c.q).spilled && s.maySpill c.tile c.port c.q && !mir then .toSpill else .chip }

/-- The queue becomes SPILLED as its on-chip depth reaches SPILL_AT (R122). -/
def Pkg.noteDepth (s : Pkg) (t n q : Nat) : Pkg :=
  if s.maySpill t n q && decide (s.get t (fSpillAt n q) ≤ s.depthChip t n q) then s.setQst t n q { s.qst t n q with spilled := true } else s

theorem Pkg.noteDepth_eq (s : Pkg) (t n q : Nat) : ∃ m, s.noteDepth t n q = s.onSw fun w => { w with queueSt := m } := by
  unfold Pkg.noteDepth
  split
  · exact ⟨_, rfl⟩
  · exact ⟨s.sw.queueSt, rfl⟩

theorem Pkg.joinQueue_placed (s : Pkg) (c : Copy) : s.joinQueue c =
    ((s.setQueue c.tile c.port c.q (s.queue c.tile c.port c.q ++ [s.placed c])).noteDepth c.tile c.port c.q).wdUpdate c.tile c.port c.q := (rfl)

theorem Pkg.joinQueue_eq (s : Pkg) (c : Copy) :
    ∃ m, s.joinQueue c = (s.setQueue c.tile c.port c.q (s.queue c.tile c.port c.q ++ [s.placed c])).onSw fun w => { w with queueSt := m } := by
  obtain ⟨l, hl⟩ := (s.setQueue c.tile c.port c.q (s.queue c.tile c.port c.q ++ [s.placed c])).noteDepth_eq c.tile c.port c.q
  obtain ⟨m, hm⟩ := Pkg.wdUpdate_eq ((s.setQueue c.tile c.port c.q (s.queue c.tile c.port c.q ++ [s.placed c])).noteDepth c.tile c.port c.q)
    c.tile c.port c.q
  exact ⟨m, by rw [Pkg.joinQueue_placed, hm, hl]; rfl⟩

theorem Pkg.joinQueue_queue (s : Pkg) (c : Copy) : (s.joinQueue c).queue c.tile c.port c.q = s.queue c.tile c.port c.q ++ [s.placed c] := by
  obtain ⟨m, h⟩ := s.joinQueue_eq c
  rw [h]
  exact SMap.get_set_same _ _ _ _

theorem Pkg.joinQueue_waiting (s : Pkg) (c : Copy) : (s.joinQueue c).sw.waiting = s.sw.waiting := by
  obtain ⟨m, h⟩ := s.joinQueue_eq c
  rw [h]; rfl

theorem Touches.joinQueue {q : Pkg} {W C : List Nat} (h : Touches p q W C) : Touches p (q.joinQueue c) W C := by
  obtain ⟨m, he⟩ := q.joinQueue_eq c
  rw [he]; exact h.setQueue.onSw

theorem Background.joinQueue {q : Pkg} (h : Background p q) : Background p (q.joinQueue c) := by
  obtain ⟨m, he⟩ := q.joinQueue_eq c
  rw [he]; exact h.setQueue.onSw fun _ => rfl

theorem Pkg.tookSpan_eq (s : Pkg) (c : Copy) : ∃ m, s.tookSpan c = s.onSw fun w => { w with spanTurn := m } := by
  unfold Pkg.tookSpan
  split
  · exact ⟨_, rfl⟩
  · exact ⟨s.sw.spanTurn, rfl⟩

theorem Pkg.readied_now (s : Pkg) (tile : Nat) (c : Copy) : (s.readied tile c).now = s.now := by
  obtain ⟨m, h⟩ := s.tookSpan_eq c
  rw [Pkg.readied, h]
  split
  · rw [Pkg.bump_now, Pkg.bump_now]; rfl
  · rfl

theorem Pkg.readied_queue (s : Pkg) (tile : Nat) (c : Copy) (t n q : Nat) : (s.readied tile c).queue t n q = s.queue t n q := by
  obtain ⟨m, h⟩ := s.tookSpan_eq c
  rw [Pkg.readied, h]
  split
  · rw [Pkg.queue, Pkg.bump_sw, Pkg.bump_sw]; rfl
  · rfl

theorem Touches.readied {q : Pkg} {W C : List Nat} (h : Touches p q W C) (h1 : pkgAddr tile oCutThrough ∈ C) (h2 : pkgAddr tile (oCut c.port) ∈ C) :
    Touches p (q.readied tile c) W C := by
  obtain ⟨m, he⟩ := q.tookSpan_eq c
  unfold Pkg.readied
  rw [he]
  have hset : Touches p ((q.onSw fun w => { w with spanTurn := m }).settleQ tile c.port c.q) W C := h.onSw.settleQ
  exact ((hset.bump h1).bump h2).ite hset

theorem Background.readied {q : Pkg} (h : Background p q) : Background p (q.readied tile c) := by
  obtain ⟨m, he⟩ := q.tookSpan_eq c
  have hq : Background p (q.onSw fun w => { w with spanTurn := m }) := h.onSw fun _ => rfl
  unfold Pkg.readied
  rw [he]; exact hq.setQst.bump.bump.ite hq.setQst

theorem Pkg.joined_queue (s : Pkg) (c : Copy) : ∃ c', (s.joined c.tile c).queue c.tile c.port c.q = s.queue c.tile c.port c.q ++ [c'] ∧ c'.id = c.id ∧
    c'.frame = c.frame ∧ c'.bytes = c.bytes ∧ c'.enq = s.now := by
  refine ⟨((s.readied c.tile c).unwait c.id).placed { c with cut := s.cuts c }, (Pkg.joinQueue_queue _ _).trans ?_, rfl, rfl, rfl, s.readied_now c.tile c⟩
  exact congrArg (· ++ _) (s.readied_queue c.tile c c.tile c.port c.q)

theorem Pkg.joined_gone (s : Pkg) (tile : Nat) (c : Copy) : ∀ x ∈ (s.joined tile c).sw.waiting, x.id ≠ c.id := by
  rw [Pkg.joined, Pkg.joinQueue_waiting]
  exact Pkg.unwait_gone _ _

theorem Touches.joined {q : Pkg} {W C : List Nat} (h : Touches p q W C) (h1 : pkgAddr tile oCutThrough ∈ C) (h2 : pkgAddr tile (oCut c.port) ∈ C) :
    Touches p (q.joined tile c) W C := (h.readied h1 h2).unwait.joinQueue

theorem Background.joined {q : Pkg} (h : Background p q) : Background p (q.joined tile c) := h.readied.unwait.joinQueue

end

/-! ### ENQUEUE as the statement has it -/

section
variable {s : State} {tile id at_ : Nat} {c : Copy}

/-- An ENQUEUE that discards the copy as LINK_DOWN or STALL_FLUSH. -/
theorem enqueue_discards {code : Nat} (heff : enqueue tile id at_ s.pkg = (s.pkg.reach at_).dropWaiting c code) (hcode : code = 18 ∨ code = 20)
    (ht : c.tile = tile) (hid : c.id = id) (hw : s.noEthWaits) (hup : (s.pkg.frame c.frame).up = none) :
    Runs (.enqueue tile id at_) s (fun t =>
      (∀ x ∈ t.pkg.sw.waiting, x.id ≠ id) ∧ t.pkg.cnt tile (oDisc code) = s.pkg.cnt tile (oDisc code) + 1 ∧
      Frame s t (s.pkg.xoffWords c.frame) ([pkgAddr tile (oDisc code), pkgAddr tile (oTxDisc c.port)] ++ s.pkg.pauseCounts c.frame)) := by
  subst ht hid
  have hup' : ((s.pkg.reach at_).frame c.frame).up = none := hup
  refine runs_rests rfl heff ((Background.refl _).reach.dropWaiting hcode) hw ⟨fun x hx => ?_, ?_, ?_⟩
  · rw [State.restsAt_sw] at hx
    exact Pkg.dropWaiting_gone hcode hup' x hx
  · exact (State.restsAt_cnt s _ _ _).trans (Pkg.dropWaiting_counted hcode hup')
  · exact ((Touches.refl s.pkg _ _).reach.trans (Pkg.dropWaiting_touches hcode hup')).rests

/-- An ENQUEUE after which the copy stands at the end of its queue. -/
theorem enqueue_joins (heff : enqueue tile id at_ s.pkg = (s.pkg.reach at_).joined tile c) (ht : c.tile = tile) (hid : c.id = id) (hw : s.noEthWaits) :
    Runs (.enqueue tile id at_) s (fun t =>
      (∀ x ∈ t.pkg.sw.waiting, x.id ≠ id) ∧
      (∃ c', t.pkg.queue tile c.port c.q = s.pkg.queue tile c.port c.q ++ [c'] ∧ c'.id = id ∧ c'.frame = c.frame ∧ c'.bytes = c.bytes ∧
        c'.enq = max s.pkg.now (ns at_)) ∧
      Frame s t [] [pkgAddr tile oCutThrough, pkgAddr tile (oCut c.port)]) := by
  subst ht hid
  refine runs_rests rfl heff (Background.refl _).reach.joined hw ⟨fun x hx => ?_, ?_, ?_⟩
  · rw [State.restsAt_sw] at hx
    exact Pkg.joined_gone _ _ _ x hx
  · rw [State.restsAt_queue]
    exact Pkg.joined_queue (s.pkg.reach at_) c
  · exact ((Touches.refl s.pkg _ _).reach.joined (by simp) (by simp)).rests

end

/-- ENQUEUE of a copy that waits first for its queue. -/
theorem enqueue_settles {s : State} {tile id at_ : Nat} {c : Copy} (hc : s.pkg.waitingCopy id = some c) (ht : c.tile = tile)
    (hin : s.pkg.inService tile = true) (hfirst : s.pkg.firstWaiting c = true) (hx : s.pkg.crossed c = true) (hbad : c.bad = false) (hw : s.noEthWaits)
    (hup : (s.pkg.frame c.frame).up = none) :
    (s.pkg.linkUp tile c.port = false → c.mc = false →
      Runs (.enqueue tile id at_) s (fun t =>
        (∀ x ∈ t.pkg.sw.waiting, x.id ≠ id) ∧ t.pkg.cnt tile (oDisc 18) = s.pkg.cnt tile (oDisc 18) + 1 ∧
        Frame s t (s.pkg.xoffWords c.frame) ([pkgAddr tile (oDisc 18), pkgAddr tile (oTxDisc c.port)] ++ s.pkg.pauseCounts c.frame))) ∧
    (s.pkg.linkUp tile c.port = true → s.pkg.ctrlPortDown tile c.port c.edited.bytes = false →
      (s.pkg.stalledQ tile c.port c.q = true →
        Runs (.enqueue tile id at_) s (fun t =>
          (∀ x ∈ t.pkg.sw.waiting, x.id ≠ id) ∧ t.pkg.cnt tile (oDisc 20) = s.pkg.cnt tile (oDisc 20) + 1 ∧
          Frame s t (s.pkg.xoffWords c.frame) ([pkgAddr tile (oDisc 20), pkgAddr tile (oTxDisc c.port)] ++ s.pkg.pauseCounts c.frame))) ∧
      (s.pkg.stalledQ tile c.port c.q = false → s.pkg.atLimit tile c.port c.q = false → c.rcvy = none →
        Runs (.enqueue tile id at_) s (fun t =>
          (∀ x ∈ t.pkg.sw.waiting, x.id ≠ id) ∧
          (∃ c', t.pkg.queue tile c.port c.q = s.pkg.queue tile c.port c.q ++ [c'] ∧ c'.id = id ∧ c'.frame = c.frame ∧ c'.bytes = c.bytes ∧
            c'.enq = max s.pkg.now (ns at_)) ∧
          Frame s t [] [pkgAddr tile oCutThrough, pkgAddr tile (oCut c.port)]))) := by
  have hid : c.id = id := by simpa using List.find?_some hc
  have heff := enqueue_eq (at_ := at_) hc ht hin hx
  refine ⟨fun hl hmc => ?_, fun hl hctrl => ⟨fun hst => ?_, fun hst hlim hr => ?_⟩⟩
  · exact enqueue_discards (heff.trans (Pkg.offer_linkDown hbad hl hmc)) (.inl rfl) ht hid hw hup
  · exact enqueue_discards (heff.trans (Pkg.offer_stalled hbad hl hctrl hst)) (.inr rfl) ht hid hw hup
  · exact enqueue_joins (heff.trans (Pkg.offer_joins hbad hl hctrl hst hlim hfirst hr)) ht hid hw

end Sys2Proof.Machine
end

section
/-! PROOFS. The second pass of a frame that the parser traps (R81, R95, R118), and O17 as a whole. -/
namespace Sys2Proof.Machine

/-! ### The parser reads its tile's image alone (R76, R77) -/

section
variable {p q : Pkg} {t : Nat}

theorem Pkg.edge_congr (h : ∀ o, q.rd t o = p.rd t o) (base v n : Nat) : q.edge t base v n = p.edge t base v n := by
  induction n generalizing base with
  | zero => rfl
  | succ n ih => simp only [Pkg.edge, h, ih]

theorem Pkg.parseFrom_congr (h : ∀ o, q.rd t o = p.rd t o) (bs : List Byte) (limit node off via : Nat) (ip : Option IpCtx) (acc : Parse) (fuel : Nat) :
    q.parseFrom t bs limit node off via ip acc fuel = p.parseFrom t bs limit node off via ip acc fuel := by
  have hnode (n : Nat) : q.node t n = p.node t n := by simp only [Pkg.node, h]
  induction fuel generalizing node off via ip acc with
  | zero => rfl
  | succ fuel ih => simp only [Pkg.parseFrom, hnode, Pkg.edge_congr h, ih]

/-- A frame is parsed alike where the image and its onion depth are the same. -/
theorem Pkg.parse_congr (h : ∀ o, q.rd t o = p.rd t o) (hs : q.sw.shape = p.sw.shape) (bs : List Byte) : q.parse t bs = p.parse t bs := by
  rw [Pkg.parse, hs]; exact Pkg.parseFrom_congr h ..

end

/-! ### A frame that is trapped (R81) -/

section
variable {p s : Pkg} {t : Nat} {x : PipeIn} {r : Recirc}

theorem Pkg.countVerdict_eq (s : Pkg) (t : Nat) (f : Parse) : ∃ k, s.countVerdict t f = { s with ctr := k } := by
  unfold Pkg.countVerdict
  dsimp only
  split
  · exact ⟨_, rfl⟩
  · exact ⟨_, rfl⟩

theorem Pkg.fragLookup_none {f : Parse} (h : f.frag = none) : s.fragLookup t f = (s, f, none) := by
  unfold Pkg.fragLookup
  split
  · next hfrag => rw [h] at hfrag; cases hfrag
  · rfl

/-- In its second pass a frame whose verdict's action is TRAP leaves a copy for port 20 alone. -/
theorem Pkg.process_trap (h1 : x.pass = 1) (hf : (s.parse x.tile x.bytes).frag = none)
    (ha : s.verdictAct x.tile (s.parse x.tile x.bytes).verdict = 1) :
    s.process x = (s.countVerdict x.tile (s.parse x.tile x.bytes)).trapCopy x (s.parse x.tile x.bytes) x.info.tc := by
  obtain ⟨k, hk⟩ := s.countVerdict_eq x.tile (s.parse x.tile x.bytes)
  have hact : (s.countVerdict x.tile (s.parse x.tile x.bytes)).verdictAct x.tile (s.parse x.tile x.bytes).verdict = 1 := by rw [hk]; exact ha
  have hpass : ¬ (x.pass = 0 ∧ s.on x.tile (fMirRxEn x.inPort) = true ∧ (!x.bad) = true) := by omega
  simp only [Pkg.process, if_neg hpass, Pkg.fragLookup_none hf, hact]

/-! ### The copy and the references (R81, R130) -/

/-- The verdict counters of a parse (R81). -/
def Parse.counters (t : Nat) (f : Parse) : List Nat := [pkgAddr t (0x400100 + 8 * f.verdict), pkgAddr t (0x400140 + 8 * f.reason)]

theorem Touches.countVerdict {q : Pkg} {W : List Nat} {f : Parse} (h : Touches p q W (f.counters t)) :
    Touches p (q.countVerdict t f) W (f.counters t) := by
  have hv : Touches p (q.bump t (0x400100 + 8 * f.verdict)) W (f.counters t) := h.bump (by simp [Parse.counters])
  exact (hv.bump (by simp [Parse.counters])).ite hv

theorem Background.countVerdict {q : Pkg} {f : Parse} (h : Background p q) : Background p (q.countVerdict t f) := h.bump.bump.ite h.bump

/-- A new copy concerns the switch's own state alone, and there not what waits to enter. -/
theorem Pkg.addCopy_eq (s : Pkg) (c : Copy) : ∃ n l m, s.addCopy c = s.onSw fun w => { w with nextId := n, waiting := l, frames := m } := ⟨_, _, _, rfl⟩

theorem Touches.addCopy {q : Pkg} {W C : List Nat} {c : Copy} (h : Touches p q W C) : Touches p (q.addCopy c) W C := by
  obtain ⟨n, l, m, he⟩ := q.addCopy_eq c
  rw [he]; exact h.onSw

theorem Background.addCopy {q : Pkg} {c : Copy} (h : Background p q) : Background p (q.addCopy c) := by
  obtain ⟨n, l, m, he⟩ := q.addCopy_eq c
  rw [he]; exact h.onSw fun _ => rfl

theorem Pkg.addCopy_waiting (s : Pkg) (c : Copy) :
    (s.addCopy c).sw.waiting = s.sw.waiting ++ [{ c with id := s.sw.nextId, born := s.now }] := (rfl)
theorem Pkg.addCopy_recirc (s : Pkg) (c : Copy) : (s.addCopy c).sw.recirc = s.sw.recirc := (rfl)

/-- The frame has one reference more. -/
theorem Pkg.addCopy_refs (s : Pkg) (c : Copy) : ((s.addCopy c).frame c.frame).refs = (s.frame c.frame).refs + 1 :=
  congrArg FrameRec.refs ((Pkg.frame_setFrame ..).trans (if_pos rfl))

/-- A frame that another copy refers to keeps its cells. -/
theorem Pkg.dropRef_shared {id : Nat} (h : 1 < (s.frame id).refs) : s.dropRef id = s.setFrame id { s.frame id with refs := (s.frame id).refs - 1 } :=
  if_pos h

/-! ### The second pass (R95, R118) -/

/-- The frame as it enters the pipeline again. -/
def Recirc.again (r : Recirc) : PipeIn :=
  { tile := r.tile, frame := r.frame, bytes := r.bytes, info := r.info, pass := 1, passTag := r.tag, bad := r.bad }

/-- The frame has left its recirculation list. -/
def Pkg.taken (s : Pkg) (r : Recirc) : Pkg := s.onSw fun w => { w with recirc := w.recirc.filter (fun x => x.frame != r.frame) }

theorem Pkg.secondPass_eq (s : Pkg) (r : Recirc) : s.secondPass r = ((s.taken r).process r.again).dropRef r.frame := (rfl)
theorem Pkg.taken_parse (s : Pkg) (r : Recirc) (t : Nat) (bs : List Byte) : (s.taken r).parse t bs = s.parse t bs :=
  have hrd (o : Nat) : (s.taken r).rd t o = s.rd t o := (rfl)
  Pkg.parse_congr hrd (rfl) bs
theorem Pkg.taken_waiting (s : Pkg) (r : Recirc) : (s.taken r).sw.waiting = s.sw.waiting := (rfl)
theorem Pkg.taken_frames (s : Pkg) (r : Recirc) : (s.taken r).sw.frames = s.sw.frames := (rfl)
theorem Pkg.taken_verdictAct (s : Pkg) (r : Recirc) (t v : Nat) : (s.taken r).verdictAct t v = s.verdictAct t v := (rfl)

/-- The tile has trapped the recirculated frame: its list has lost it, its verdict is counted and its copy waits. -/
def Pkg.trapped (s : Pkg) (r : Recirc) : Pkg :=
  ((s.taken r).countVerdict r.tile (s.parse r.tile r.bytes)).trapCopy r.again (s.parse r.tile r.bytes) r.info.tc

theorem Pkg.secondPass_trap (hf : (s.parse r.tile r.bytes).frag = none) (ha : s.verdictAct r.tile (s.parse r.tile r.bytes).verdict = 1) :
    s.secondPass r = (s.trapped r).dropRef r.frame := by
  have hparse : (s.taken r).parse r.again.tile r.again.bytes = s.parse r.tile r.bytes := s.taken_parse r _ _
  rw [Pkg.secondPass_eq, Pkg.process_trap rfl (by rw [hparse, hf]) (by rw [hparse, Pkg.taken_verdictAct]; exact ha), hparse]
  rfl

theorem Pkg.countVerdict_sw (s : Pkg) (t : Nat) (f : Parse) : (s.countVerdict t f).sw = s.sw := by
  obtain ⟨k, hk⟩ := s.countVerdict_eq t f
  rw [hk]

theorem Pkg.trapped_recirc (s : Pkg) (r : Recirc) : (s.trapped r).sw.recirc = s.sw.recirc.filter (fun x => x.frame != r.frame) :=
  (Pkg.addCopy_recirc _ _).trans (congrArg SwitchSt.recirc (Pkg.countVerdict_sw ..))

/-- The trap copy waits behind the copies that waited before. -/
theorem Pkg.trapped_waiting (s : Pkg) (r : Recirc) : ∃ c, (s.trapped r).sw.waiting = s.sw.waiting ++ [c] ∧ c.tile = r.tile ∧ c.port = 20 ∧
    c.kind = .trap ∧ c.frame = r.frame ∧ c.bytes = r.bytes :=
  ⟨_, (Pkg.addCopy_waiting _ _).trans (congrArg (· ++ _) ((congrArg SwitchSt.waiting (Pkg.countVerdict_sw ..)).trans (s.taken_waiting r))), rfl, rfl, rfl, rfl, rfl⟩

theorem Pkg.trapped_refs (s : Pkg) (r : Recirc) : ((s.trapped r).frame r.frame).refs = (s.frame r.frame).refs + 1 := by
  have hframe : ((s.taken r).countVerdict r.tile (s.parse r.tile r.bytes)).frame r.frame = s.frame r.frame := by
    rw [Pkg.frame, Pkg.countVerdict_sw, Pkg.taken_frames, Pkg.frame]
  rw [← hframe]
  exact Pkg.addCopy_refs _ _

theorem Touches.trapped {q : Pkg} {W : List Nat} (h : Touches p q W ((q.parse r.tile r.bytes).counters r.tile)) :
    Touches p (q.trapped r) W ((q.parse r.tile r.bytes).counters r.tile) :=
  have htaken : Touches p (q.taken r) W ((q.parse r.tile r.bytes).counters r.tile) := h.onSw
  htaken.countVerdict.addCopy

theorem Background.trapped {q : Pkg} (h : Background p q) : Background p (q.trapped r) :=
  have htaken : Background p (q.taken r) := h.onSw fun _ => rfl
  htaken.countVerdict.addCopy

end

/-! ### RECIRCULATION_PASS as the statement has it -/

theorem Pkg.setFrame_recirc (s : Pkg) (i : Nat) (f : FrameRec) : (s.setFrame i f).sw.recirc = s.sw.recirc := (rfl)
theorem Pkg.setFrame_waiting (s : Pkg) (i : Nat) (f : FrameRec) : (s.setFrame i f).sw.waiting = s.sw.waiting := (rfl)

section
variable {s : State} {tile at_ : Nat} {r : Recirc} {l : List Recirc}

theorem recirculationPass_eq {p : Pkg} (hin : p.inService tile = true) (hks : p.ksState tile ≠ 3) (hr : p.recircReady tile = r :: l) :
    recirculationPass tile at_ p = (p.reach at_).secondPass r := by
  have hr' : (p.reach at_).recircReady tile = r :: l := hr
  have hopen : (p.inService tile && p.ksState tile != 3) = true := Bool.and_eq_true_iff.2 ⟨hin, bne_iff_ne.2 hks⟩
  rw [recirculationPass, Pkg.when_pos _ _ hopen, hr']

theorem Pkg.reach_parse (p : Pkg) (n t : Nat) (bs : List Byte) : (p.reach n).parse t bs = p.parse t bs :=
  have hrd (o : Nat) : (p.reach n).rd t o = p.rd t o := (rfl)
  Pkg.parse_congr hrd (rfl) bs

/-- A trapped second pass leaves the copy with the frame's cells: the reference of the list goes, the copy's stays. -/
theorem secondPass_leaves {p : Pkg} (hrefs : 1 ≤ (p.frame r.frame).refs) (hf : (p.parse r.tile r.bytes).frag = none)
    (ha : p.verdictAct r.tile (p.parse r.tile r.bytes).verdict = 1) : ∃ f, p.secondPass r = (p.trapped r).setFrame r.frame f := by
  have hshared : 1 < ((p.trapped r).frame r.frame).refs := by
    rw [Pkg.trapped_refs]; exact Nat.lt_succ_of_le hrefs
  exact ⟨_, (Pkg.secondPass_trap hf ha).trans (Pkg.dropRef_shared hshared)⟩

/-- A second pass that the parser traps. -/
theorem recirculationPass_traps (hin : s.pkg.inService tile = true) (hks : s.pkg.ksState tile ≠ 3) (hw : s.noEthWaits)
    (hr : s.pkg.recircReady tile = r :: l) (hrefs : 1 ≤ (s.pkg.frame r.frame).refs) (hf : (s.pkg.parse tile r.bytes).frag = none)
    (ha : s.pkg.verdictAct tile (s.pkg.parse tile r.bytes).verdict = 1) :
    Runs (.recirculationPass tile at_) s (fun t =>
      t.pkg.sw.recirc = s.pkg.sw.recirc.filter (fun x => x.frame != r.frame) ∧
      (∃ c, t.pkg.sw.waiting = s.pkg.sw.waiting ++ [c] ∧ c.tile = tile ∧ c.port = 20 ∧ c.kind = .trap ∧ c.frame = r.frame ∧ c.bytes = r.bytes) ∧
      WordsKept s.pkg t.pkg []) := by
  obtain rfl : r.tile = tile := by
    have hready : r ∈ s.pkg.recircReady tile := hr ▸ List.mem_cons_self
    obtain ⟨ht, -⟩ := Bool.and_eq_true_iff.1 (List.mem_filter.1 hready).2
    exact eq_of_beq ht
  have hparse := s.pkg.reach_parse at_ r.tile r.bytes
  obtain ⟨f, hpass⟩ := secondPass_leaves (p := s.pkg.reach at_) hrefs (by rw [hparse, hf]) (by rw [hparse]; exact ha)
  refine runs_rests rfl ((recirculationPass_eq hin hks hr).trans hpass) (Background.refl _).reach.trapped.setFrame hw ?_
  rw [State.restsAt_sw, Pkg.setFrame_recirc, Pkg.setFrame_waiting]
  refine ⟨(s.pkg.reach at_).trapped_recirc r, (s.pkg.reach at_).trapped_waiting r, ?_⟩
  have htrap : Touches s.pkg ((s.pkg.reach at_).trapped r) [] _ := (Touches.refl s.pkg _ _).reach.trapped
  have hkept : Touches s.pkg (((s.pkg.reach at_).trapped r).setFrame r.frame f) [] _ := htrap.onSw
  obtain ⟨hwords, -⟩ := hkept.rests
  exact hwords

end

/-- Settles O17: the second pass is trapped case by case of the pipeline, and a waiting copy is discarded or joins its queue; what goes back with its
reference is within the charges of its frame. -/
theorem recirculationAndEnqueue : Obligations.RecirculationAndEnqueue := by
  unfold Obligations.RecirculationAndEnqueue
  refine ⟨fun tile at_ r l s hin hks hw hr hrefs hf ha => recirculationPass_traps hin hks hw hr hrefs hf ha, ?_⟩
  intro tile id at_ c s hc ht hin hfirst hx hbad hw hup
  exact enqueue_settles hc ht hin hfirst hx hbad hw hup

end Sys2Proof.Machine
end

section
/-! PROOFS. Credit for a frame that crosses (R119, R125): O20 fails where the list of frames has one number twice. -/
namespace Sys2Proof.Machine

/-! ### The counterexample to O20

Frame 8 crosses from tile 0 to tile 1 and needs one credit, which the span minimum of tile 1 holds. Number 8 stands twice in the list of frames: a read of
frame 8 finds the first entry, which is empty, so no charge of a span is among the charges that may go back with frame 7; the search for the frame that needs
credit finds the second entry. As the credit is granted, frame 7 on tile 0 frees a recirculation cell; frame 8, which now reads as the frame that crossed, waits
for one there and moves to that account, and its span credit goes back. -/

/-- An LO-IKD8 in RUN with a span between tiles 0 and 1 in service; tile 1 keeps four cells of span minimum, tile 0 four for recirculation. -/
def oneSpanUp : Pkg :=
  let p : Pkg := { variant := .ikd8 }
  let p := (p.put 15 fMode mRun).put 15 fTilesOn 127
  let p := (((p.put 0 (fSpanState.at 0 0x40) 2).put 1 (fSpanState.at 5 0x40) 2).setSpanSt 0 0 { inServ := true }).setSpanSt 1 5 { inServ := true }
  (p.put 1 (fSpanMin 5 0) 4).put 0 fRecircRsv 4

/-- Frame 7 on tile 0: its cell is on the recirculation account. -/
def recirculated : FrameRec := { cells := 1, refs := 1, charge := { kind := .recirc, min := 1 } }

/-- Frame 8 on tile 1, which frame 7 crosses to. -/
def crossing : FrameRec := { tile := 1, cells := 1, refs := 1, charge := { kind := .span, port := 5 }, up := some 7 }

def numberTwice : State :=
  { pkg := oneSpanUp.onSw (fun w => { w with
      nextId := 9
      frames := [(7, recirculated), (8, {}), (8, crossing)]
      pool := [(0, { recirc := 1 })]
      recirc := [{ tile := 0, frame := 8, bytes := [], tag := 0, info := {} }] })
    mem := {}, pending := [] }

/-- The grant finds what the statement asks of it. -/
theorem numberTwice_meets : numberTwice.pkg.inService 1 = true ∧ numberTwice.pkg.inService 0 = true ∧ numberTwice.pkg.pairUp 1 0 = true ∧
    numberTwice.pkg.needsCredit 1 0 0 = some (8, crossing) ∧ (numberTwice.pkg.frame 7).up = none ∧
    (∀ c ∈ numberTwice.pkg.charges 7, c.2.kind ≠ .span) ∧
    (∀ c ∈ numberTwice.pkg.sw.waiting, c.frame = 8 → numberTwice.pkg.queueFull 1 c.port c.q c.cells = false) ∧ numberTwice.noEthWaits ∧
    min 1 (crossing.cells - crossing.got) - min (min 1 (crossing.cells - crossing.got))
      (numberTwice.pkg.get 1 (fSpanMin crossing.charge.port 0) - numberTwice.pkg.spanMinUsed 1 crossing.charge.port 0) ≤ numberTwice.pkg.freeShared 1 := by
  decide +kernel

/-- By the statement one cell of the span minimum would be in use after the grant. -/
theorem numberTwice_asked : numberTwice.pkg.spanMinUsed 1 crossing.charge.port 0 + min (min 1 (crossing.cells - crossing.got))
    (numberTwice.pkg.get 1 (fSpanMin crossing.charge.port 0) - numberTwice.pkg.spanMinUsed 1 crossing.charge.port 0) = 1 := by decide +kernel

/-- No cell of the span minimum is in use after the grant. -/
theorem numberTwice_granted : (numberTwice.onFlow (spanCreditGrant 1 0 0 1 0)).pkg.spanMinUsed 1 crossing.charge.port 0 = 0 := by decide +kernel

/-- Refutes O20: the statement bars span charges from what goes back with the source tile's frame only as frames read by number, and does not ask that a
number stands once in the list of frames. In `numberTwice` the credit drawn from the span minimum is given back by the same grant. -/
theorem not_crossAndTransmit : ¬ Obligations.CrossAndTransmit := by
  intro h
  obtain ⟨hcross, -⟩ := h
  obtain ⟨hin, hsrc, hup, hneeds, hcrossed, hspan, hroom, hw, hfree⟩ := numberTwice_meets
  obtain ⟨t, ht, -, -, hmin, -⟩ :=
    hcross 1 0 0 1 0 8 7 crossing numberTwice hin hsrc hup (by decide) hneeds rfl (by decide) hcrossed rfl hspan hroom hw hfree
  have hgrant : exec (.spanCreditGrant 1 0 0 1 0) numberTwice = .next (numberTwice.onFlow (spanCreditGrant 1 0 0 1 0)) := rfl
  obtain rfl : numberTwice.onFlow (spanCreditGrant 1 0 0 1 0) = t := by
    rw [hgrant] at ht
    injection ht
  rw [numberTwice_granted, numberTwice_asked] at hmin
  exact absurd hmin (by decide)

end Sys2Proof.Machine
end

section
/-! PROOFS. What leaves the switch as cells go back (R109, R112, R119): the queues, the frames in transmission, and every word but the XOFF bits of a port. -/
namespace Sys2Proof.Machine

/-! ### A port's status word (Table 4-8) -/

/-- The word of LINK_UP, PAUSED_RX, XOFF_TX and STALLED of port n. -/
abbrev oPortStatus (n : Nat) : Nat := (fXoffTx n).off

/-- Past the offsets of a row of a register table. -/
def RegRow.stop (r : RegRow) : Nat := match r.dims with | [] => r.off + 1 | (s, n) :: _ => r.off + s * n

theorem RegRow.hits_lt {r : RegRow} {off : Nat} (h : r.hits off = true) (hs : ∀ e ∈ r.dims, 0 < e.1) : off < r.stop := by
  obtain ⟨base, dims, fields⟩ := r
  rcases dims with _ | ⟨⟨s, n⟩, _ | ⟨⟨s2, n2⟩, l⟩⟩
  · have heq : off = base := by simpa [RegRow.hits] using h
    simp only [RegRow.stop]; omega
  all_goals
    have hlt : (off - base) / s < n := by simp [RegRow.hits] at h; tauto
    have hs0 : 0 < s := hs _ List.mem_cons_self
    have hmul : off - base < s * n := by rw [Nat.mul_comm]; exact (Nat.div_lt_iff_lt_mul hs0).1 hlt
    simp only [RegRow.stop]; omega

/-- The rows of the table memories end within a die. -/
theorem tableWords_within : ∀ r ∈ tableWords, r.stop ≤ 2 ^ 26 ∧ ∀ e ∈ r.dims, 0 < e.1 := by decide +kernel

/-- An offset beyond a die names no word of a tile. -/
theorem wordReset_beyond (v : Variant) {d o : Nat} (hd : d ≠ 15) (ho : 2 ^ 26 ≤ o) : wordReset v d o = 0 := by
  have hblock : tileBlock o = some .table := by
    unfold tileBlock
    iterate 18 rw [if_neg (by omega)]
  have hrow : tableWords.find? (fun r => r.hits o) = none := List.find?_eq_none.2 fun r hr hhit => by
    obtain ⟨hstop, hpos⟩ := tableWords_within r hr
    have := RegRow.hits_lt hhit hpos
    omega
  have hfields : wordFields d o = [] := by
    simp only [wordFields, sentinelDie, if_neg hd, hblock, Option.elim_some, tileRows, hrow]
  have hhead : headroomInternal o = false := by
    have : ¬ o < 0x813800 := by omega
    simp [headroomInternal, this]
  rw [wordReset, if_neg (by omega), sentinelDie, if_neg hd, if_neg (by omega), if_neg (by omega), hhead, if_neg (by decide), if_neg (by omega), hfields]
  rfl

/-- The fields of a port's status word reset to 0 (Table 4-8). -/
theorem fieldsReset_portStatus : ∀ n < 28, fieldsReset (wordFields 0 (oPortStatus n)) = 0 := by decide +kernel

theorem wordReset_portStatus (v : Variant) {d n : Nat} (hd : d ≠ 15) (hn : n < 28) : wordReset v d (oPortStatus n) = 0 := by
  have hfields : wordFields d (oPortStatus n) = wordFields 0 (oPortStatus n) := by simp [wordFields, sentinelDie, hd]
  have hoff : oPortStatus n = 0x81000C + n * 0x200 := by simp only [oPortStatus, fXoffTx, portFld]; omega
  have hhead : headroomInternal (oPortStatus n) = false := by
    have : (oPortStatus n - 0x810000) % 0x200 = 0xC := by omega
    simp [headroomInternal, this]
  rw [wordReset, if_neg (by omega), sentinelDie, if_neg hd, if_neg (by omega), if_neg (by omega), hhead, if_neg (by decide), if_neg (by omega), hfields,
    fieldsReset_portStatus n hn]

/-- A word that two names have is the same word, where it resets alike under both. -/
theorem Pkg.rd_alias {s : Pkg} {d o d' o' : Nat} (ha : pkgAddr d' o' = pkgAddr d o) (hr : wordReset s.variant d' o' = wordReset s.variant d o) :
    s.rd d' o' = s.rd d o := by rw [Pkg.rd, Pkg.rd, ha, hr]
theorem Pkg.wr_alias {s : Pkg} {d o d' o' : Nat} (w : Word) (ha : pkgAddr d' o' = pkgAddr d o) (hr : wordReset s.variant d' o' = wordReset s.variant d o) :
    s.wr d' o' w = s.wr d o w := by rw [Pkg.wr, Pkg.wr, ha, hr]

/-- A field of a port's status word other than XOFF_TX. -/
structure StatusFld (n : Nat) (f : Fld) : Prop where
  off : f.off = oPortStatus n
  bits : f.hi < 16 ∨ 23 < f.lo

/-- A write of XOFF_TX, whatever tile and port are named, leaves the other fields of a tile's ports. -/
theorem Pkg.get_put_xoff (s : Pkg) {t n : Nat} {f : Fld} (t' n' v : Nat) (ht : t < 7) (hn : n < 28) (hf : StatusFld n f) :
    (s.put t' (fXoffTx n') v).get t f = s.get t f := by
  obtain ⟨hoff, hbits⟩ := hf
  by_cases ha : pkgAddr t' (oPortStatus n') = pkgAddr t (oPortStatus n)
  · have hoffs : oPortStatus n = 0x81000C + n * 0x200 ∧ oPortStatus n' = 0x81000C + n' * 0x200 := by
      constructor <;> (simp only [oPortStatus, fXoffTx, portFld]; omega)
    have hdie : t' ≠ 15 := by simp only [pkgAddr] at ha; omega
    have hreset : wordReset s.variant t' (oPortStatus n') = wordReset s.variant t (oPortStatus n) := by
      rw [wordReset_portStatus _ (by omega) hn]
      by_cases hn' : n' < 28
      · exact wordReset_portStatus _ hdie hn'
      · refine wordReset_beyond _ hdie ?_
        simp only [pkgAddr] at ha; omega
    have hput : s.put t' (fXoffTx n') v = s.put t (fXoffTx n) v := by
      rw [Pkg.put, Pkg.put, Pkg.rd_alias ha hreset, Pkg.wr_alias _ ha hreset]; rfl
    rw [hput]
    exact s.get_put_beside v hoff (hbits.symm)
  · exact s.get_put_ne v (by rw [hoff]; exact Ne.symm ha)

/-! ### What stays as cells go back -/

/-- From p to q cells went back: the clock, the queues and the frames under way stood, and of the words only XOFF bits changed. -/
structure Frees (p q : Pkg) : Prop where
  now    : q.now = p.now
  queues : q.sw.queues = p.sw.queues
  tx     : ∀ t n, (q.port t n).tx = (p.port t n).tx
  susp   : ∀ t n, (q.port t n).susp = (p.port t n).susp
  words  : ∀ d o, o % 0x200 ≠ 0xC → q.rd d o = p.rd d o
  status : ∀ t n f, t < 7 → n < 28 → StatusFld n f → q.get t f = p.get t f
  stalls : ∀ d n, q.cnt d (oStalls n) = p.cnt d (oStalls n)

theorem Pkg.port_setPort (s : Pkg) (t n : Nat) (x : PortSt) (t' n' : Nat) :
    (s.setPort t n x).port t' n' = if pKey t' n' = pKey t n then x else s.port t' n' := SMap.get_set ({} : PortSt) s.sw.ports (pKey t n) (pKey t' n') x

theorem Pkg.port_setPort_same (s : Pkg) (t n : Nat) (x : PortSt) : (s.setPort t n x).port t n = x := by rw [Pkg.port_setPort, if_pos rfl]

theorem Pkg.queue_setQueue_same (s : Pkg) (t n c : Nat) (l : List Copy) : (s.setQueue t n c l).queue t n c = l := SMap.get_set_same _ _ _ _

/-- A 64-bit counter that is no STALLS of a port. -/
theorem Pkg.stalls_bump (s : Pkg) {d o : Nat} (ho : o % 0x200 ≠ 0x160) (d' n : Nat) : (s.bump d o).cnt d' (oStalls n) = s.cnt d' (oStalls n) :=
  s.cnt_bump_ne (by simp only [pkgAddr, oStalls]; omega)

namespace Frees
variable {p q r : Pkg} {t n c i : Nat}

theorem refl (p : Pkg) : Frees p p := ⟨rfl, rfl, fun _ _ => rfl, fun _ _ => rfl, fun _ _ _ => rfl, fun _ _ _ _ _ _ => rfl, fun _ _ => rfl⟩

theorem trans (h : Frees p q) (h' : Frees q r) : Frees p r :=
  ⟨h'.now.trans h.now, h'.queues.trans h.queues, fun t n => (h'.tx t n).trans (h.tx t n), fun t n => (h'.susp t n).trans (h.susp t n),
    fun d o ho => (h'.words d o ho).trans (h.words d o ho), fun t n f ht hn hf => (h'.status t n f ht hn hf).trans (h.status t n f ht hn hf),
    fun d n => (h'.stalls d n).trans (h.stalls d n)⟩

theorem ite (h : Frees p q) {b : Prop} [Decidable b] (h' : Frees p r) : Frees p (if b then q else r) := by split <;> assumption

theorem foldl {β : Type} {f : Pkg → β → Pkg} {l : List β} (h : Frees p q) (hf : ∀ s b, Frees s (f s b)) : Frees p (l.foldl f q) :=
  List.foldlRecOn l f h fun s hs b _ => hs.trans (hf s b)

theorem queue (h : Frees p q) (t n c : Nat) : q.queue t n c = p.queue t n c := by rw [Pkg.queue, h.queues]; rfl

/-! #### Updates -/

theorem onSw (h : Frees p q) {f : SwitchSt → SwitchSt} (hf : ∀ w, ((f w).queues, (f w).ports) = (w.queues, w.ports)) : Frees p (q.onSw f) := by
  have hq := hf q.sw
  simp only [Prod.mk.injEq] at hq
  obtain ⟨hqueues, hports⟩ := hq
  have hport (t n : Nat) : (q.onSw f).port t n = q.port t n := by rw [Pkg.port, Pkg.onSw, hports]; rfl
  exact h.trans ⟨rfl, hqueues, fun t n => by rw [hport], fun t n => by rw [hport], fun _ _ _ => rfl, fun _ _ _ _ _ _ => rfl, fun _ _ => rfl⟩

/-- A port's other state changes: neither its frame in transmission nor a preempted one. -/
theorem setPort (h : Frees p q) {x : PortSt} (htx : x.tx = (q.port t n).tx) (hsusp : x.susp = (q.port t n).susp) : Frees p (q.setPort t n x) := by
  have hkey {t' n' : Nat} (hk : pKey t' n' = pKey t n) : q.port t' n' = q.port t n := by rw [Pkg.port, hk]; rfl
  refine h.trans ⟨rfl, rfl, fun t' n' => ?_, fun t' n' => ?_, fun _ _ _ => rfl, fun _ _ _ _ _ _ => rfl, fun _ _ => rfl⟩ <;> rw [Pkg.port_setPort]
  · split
    · next hk => rw [htx, hkey hk]
    · rfl
  · split
    · next hk => rw [hsusp, hkey hk]
    · rfl

theorem emit (h : Frees p q) {e : OutEv} : Frees p (q.emit e) :=
  h.trans ⟨rfl, rfl, fun _ _ => rfl, fun _ _ => rfl, fun _ _ _ => rfl, fun _ _ _ _ _ _ => rfl, fun _ _ => rfl⟩

theorem bump (h : Frees p q) {d o : Nat} (ho : o % 0x200 ≠ 0x160) : Frees p (q.bump d o) :=
  h.trans ⟨rfl, rfl, fun _ _ => rfl, fun _ _ => rfl, fun _ _ _ => rfl, fun _ _ _ _ _ _ => rfl, q.stalls_bump ho⟩

theorem setXoffBit (h : Frees p q) {b : Bool} : Frees p (q.setXoffBit t n c b) := by
  refine h.trans ⟨rfl, rfl, fun _ _ => rfl, fun _ _ => rfl, fun d o ho => ?_, fun _ _ f ht hn hf => q.get_put_xoff _ _ _ ht hn hf, fun _ _ => rfl⟩
  refine q.rd_put_ne _ ?_
  simp only [pkgAddr, fXoffTx, portFld]; omega

theorem setPool (h : Frees p q) {x : PoolUse} : Frees p (q.setPool t x) := h.onSw fun _ => rfl
theorem setAcct (h : Frees p q) {x : AcctUse} : Frees p (q.setAcct t n c x) := h.onSw fun _ => rfl
theorem setSpanShared (h : Frees p q) {v : Nat} : Frees p (q.setSpanShared t n c v) := h.onSw fun _ => rfl
theorem setSpanMinUsed (h : Frees p q) {v : Nat} : Frees p (q.setSpanMinUsed t n c v) := h.onSw fun _ => rfl
theorem setFrame (h : Frees p q) {f : FrameRec} : Frees p (q.setFrame i f) := h.onSw fun _ => rfl
theorem setQst (h : Frees p q) {x : QueueSt} : Frees p (q.setQst t n c x) := h.onSw fun _ => rfl

/-! #### Pause (R112) -/

theorem oPauseTx_mod (n : Nat) : oPauseTx n % 0x200 ≠ 0x160 := by simp only [oPauseTx]; omega

theorem sendControl (h : Frees p q) {e : OutEv} : Frees p (q.sendControl t n e) := (h.emit.bump (oPauseTx_mod n)).ite (h.setPort rfl rfl)
theorem sendPfc (h : Frees p q) {k : Nat} : Frees p (q.sendPfc t n c k) := h.sendControl.setPort rfl rfl
theorem sendPause (h : Frees p q) {k : Nat} : Frees p (q.sendPause t n k) := h.sendControl.setPort rfl rfl

theorem updXoff (h : Frees p q) : Frees p (q.updXoff t n c) :=
  have hx {b : Bool} : Frees p (q.setXoffBit t n c b) := h.setXoffBit
  (hx.ite (hx.sendPfc.ite (hx.sendPause.ite hx))).ite h |>.ite ((hx.ite (hx.sendPfc.ite (hx.sendPause.ite hx))).ite h)

/-! #### Frames and copies (R109, R119, R125, R130) -/

theorem releaseCharge (h : Frees p q) {src : Nat} {x : Charge} : Frees p (q.releaseCharge t src x) := by
  unfold Pkg.releaseCharge
  split
  · exact h.setAcct.setPool.updXoff
  · exact h.setPool
  · exact h.setPool
  · exact h.setSpanShared.setPool.setSpanMinUsed
  · exact h

theorem releaseFrame (h : Frees p q) : Frees p (q.releaseFrame i) := ((h.foldl fun s _ => (refl s).releaseCharge).releaseCharge).setFrame

theorem recircMove (h : Frees p q) : Frees p (q.recircMove t i).1 := by
  unfold Pkg.recircMove
  dsimp only
  split
  · exact h
  · split
    · exact h.releaseFrame.setPool.setFrame
    · exact h

theorem recircFill (h : Frees p q) : Frees p (q.recircFill t) := by
  refine List.foldlRecOn (motive := fun (x : Pkg × List Nat) => Frees p x.1) _ _ h fun x hx r _ => ?_
  dsimp only
  split
  · exact hx
  · split
    · exact hx.recircMove
    · exact hx

theorem endFrame (h : Frees p q) : Frees p (q.endFrame i) := h.releaseFrame.setFrame.recircFill.ite h.releaseFrame.setFrame

theorem dropRef (h : Frees p q) : Frees p (q.dropRef i) := by
  unfold Pkg.dropRef
  dsimp only
  split
  · exact h.setFrame
  · split
    · exact h.endFrame.setFrame.ite h.endFrame.endFrame
    · exact h.endFrame

theorem freeCopy (h : Frees p q) {x : Copy} : Frees p (q.freeCopy x) :=
  have h' := h.setPool.ite (b := x.loc = .ovf) h
  h'.ite h'.dropRef

/-- A discard with a reason whose counter is no STALLS. -/
theorem discard (h : Frees p q) {code : Nat} (hc : oDisc code % 0x200 ≠ 0x160) : Frees p (q.discard t code n) := by
  refine (h.bump hc).bump ?_
  split <;> (simp only [oRxDisc, oTxDisc]; omega)

/-! #### Credits and timers of a queue -/

theorem settleQ (h : Frees p q) : Frees p (q.settleQ t n c) := h.setQst
theorem settlePort (h : Frees p q) : Frees p (q.settlePort t n) := h.foldl fun s _ => (refl s).settleQ
theorem emptyCredit (h : Frees p q) : Frees p (q.emptyCredit t n c) := h.setQst.ite h
theorem wdUpdate (h : Frees p q) : Frees p (q.wdUpdate t n c) := h.setQst.ite (h.setQst.ite h)
theorem unspill (h : Frees p q) : Frees p (q.unspill t n c) := h.ite h.setQst
theorem emptied (h : Frees p q) : Frees p (q.emptied t n c) := (h.setQst.ite h).emptyCredit

/-- A queue that is flushed is empty, and its frames give their cells back (R121, R135). -/
theorem flushQueue (t n c : Nat) (s : Pkg) {code : Nat} (hc : oDisc code % 0x200 ≠ 0x160) : Frees (s.setQueue t n c []) (s.flushQueue t n c code) :=
  ((refl _).foldl fun s _ => ((refl s).discard hc).freeCopy).setQst.wdUpdate

end Frees

theorem Pkg.queue_flushQueue (s : Pkg) (t n c : Nat) {code : Nat} (hc : oDisc code % 0x200 ≠ 0x160) : (s.flushQueue t n c code).queue t n c = [] := by
  rw [(Frees.flushQueue t n c s hc).queue, Pkg.queue_setQueue_same]

/-! ### Counters that no pause counts -/

/-- What goes back with a frame counts pause frames alone. -/
theorem notMem_pauseCounts {s : Pkg} {id d o : Nat} (ho : o % 0x200 ≠ 0x150) : pkgAddr d o ∉ s.pauseCounts id := fun hm => by
  obtain ⟨e, -, he⟩ := List.mem_map.1 hm
  simp only [pkgAddr, oPauseTx] at he
  omega

end Sys2Proof.Machine
end

section
/-! PROOFS. Pause frames, received pauses and the watchdog (R112, R113, R121): what O21 asks. -/
namespace Sys2Proof.Machine

/-! ### One bit of an eight-bit field -/

/-- A bit that is set is cleared by taking its weight off: the other bits stay. -/
theorem testBit_sub_two_pow {v q : Nat} (h : v.testBit q = true) (i : Nat) : (v - 2 ^ q).testBit i = (v.testBit i && decide (i ≠ q)) := by
  induction q generalizing v i with
  | zero =>
    have hodd : v % 2 = 1 := by simpa [Nat.testBit_zero] using h
    cases i with
    | zero => simp only [Nat.testBit_zero]; simp; omega
    | succ i =>
      have hhalf : (v - 2 ^ 0) / 2 = v / 2 := by omega
      simp only [Nat.testBit_add_one, hhalf]; simp
  | succ q ih =>
    rw [Nat.testBit_add_one] at h
    cases i with
    | zero =>
      have hle := Nat.ge_two_pow_of_testBit h
      have hpar : (v - 2 ^ (q + 1)) % 2 = v % 2 := by rw [Nat.pow_succ]; omega
      simp only [Nat.testBit_zero, hpar]; simp
    | succ i =>
      have hhalf : (v - 2 ^ (q + 1)) / 2 = v / 2 - 2 ^ q := by rw [Nat.pow_succ]; omega
      simp only [Nat.testBit_add_one, hhalf, ih h]
      simp

/-- A bit of a number set or cleared, as `Pkg.setBit8` does it. -/
theorem testBit_withBit (v q : Nat) (b : Bool) (i : Nat) :
    (if b then Nat.lor v (2 ^ q) else v - (if v.testBit q then 2 ^ q else 0)).testBit i = if i = q then b else v.testBit i := by
  cases b with
  | true =>
    have hor : (v ||| 2 ^ q).testBit i = if i = q then true else v.testBit i := by
      rw [Nat.testBit_or, Nat.testBit_two_pow]
      by_cases hi : i = q
      · simp [hi]
      · simp [hi, Ne.symm hi]
    exact hor
  | false =>
    by_cases hset : v.testBit q = true
    · simp only [hset, Bool.false_eq_true, if_false, if_true, testBit_sub_two_pow hset]
      by_cases hi : i = q <;> simp [hi]
    · by_cases hi : i = q <;> simp [hi, hset]

theorem Pkg.setBit8_testBit (s : Pkg) (t : Nat) {f : Fld} {q : Nat} (b : Bool) (hhi : f.hi < 32) (hw : f.hi + 1 - f.lo = 8) (hq : q < 8) (i : Nat) :
    ((s.setBit8 t f q b).get t f).testBit i = if i = q then b else (s.get t f).testBit i := by
  have hlt : s.get t f < 2 ^ 8 := hw ▸ fieldGet_lt _ _ _
  rw [Pkg.setBit8, Pkg.get_put_same _ _ _ _ hhi, hw, Nat.testBit_mod_two_pow, testBit_withBit]
  by_cases h8 : i < 8
  · simp [h8]
  · have hout : (s.get t f).testBit i = false := Nat.testBit_lt_two_pow (hlt.trans_le (Nat.pow_le_pow_right (by decide) (by omega)))
    have hi : i ≠ q := by omega
    simp [h8, hi, hout]

/-! ### A pause of a queue (R113) -/

section
variable {p q : Pkg} {W C : List Nat} {t n c : Nat}

theorem Touches.setPort (h : Touches p q W C) {x : PortSt} : Touches p (q.setPort t n x) W C := h.onSw
theorem Touches.wdUpdate (h : Touches p q W C) : Touches p (q.wdUpdate t n c) W C := h.setQst.ite (h.setQst.ite h)
theorem Touches.setBit8 (h : Touches p q W C) {f : Fld} {b : Bool} (hm : pkgAddr t f.off ∈ W) : Touches p (q.setBit8 t f c b) W C := h.put hm

/-- What changes no word leaves every field. -/
theorem Touches.get_eq (h : Touches p q [] C) (d : Nat) (f : Fld) : q.get d f = p.get d f :=
  congrArg (fieldGet · f.hi f.lo) (h.words d f.off List.not_mem_nil)

end

section
variable (s : Pkg) (t p q k i : Nat)

theorem Pkg.wdUpdate_get (d : Nat) (f : Fld) : (s.wdUpdate t p q).get d f = s.get d f := ((Touches.refl s [] []).wdUpdate).get_eq d f
theorem Pkg.setQst_get (x : QueueSt) (d : Nat) (f : Fld) : (s.setQst t p q x).get d f = s.get d f := (rfl)
theorem Pkg.settleQ_get (d : Nat) (f : Fld) : (s.settleQ t p q).get d f = s.get d f := (rfl)

theorem Pkg.setBit8_get_apart {f f' : Fld} (b : Bool) (h : f'.off ≠ f.off ∨ f.hi < f'.lo ∨ f'.hi < f.lo) : (s.setBit8 t f q b).get t f' = s.get t f' :=
  s.get_put_apart _ h

variable {q}

/-- A bit of PAUSED_RX or STALLED as it is set or cleared. -/
theorem Pkg.setBit8_paused (b : Bool) (hq : q < 8) : (s.setBit8 t (fPausedRx p) q b).pausedQ t p i = if i = q then b else s.pausedQ t p i :=
  s.setBit8_testBit t b (Nat.lt_of_sub_eq_succ rfl) rfl hq i
theorem Pkg.setBit8_stalled (b : Bool) (hq : q < 8) : (s.setBit8 t (fStalled p) q b).stalledQ t p i = if i = q then b else s.stalledQ t p i :=
  s.setBit8_testBit t b (Nat.lt_of_sub_eq_succ rfl) rfl hq i

theorem Pkg.settleQ_paused : (s.settleQ t p q).pausedQ t p i = s.pausedQ t p i := (rfl)

theorem Pkg.liftPause_paused (hq : q < 8) : (s.liftPause t p q).pausedQ t p i = if i = q then false else s.pausedQ t p i := by
  rw [Pkg.liftPause, Pkg.pausedQ, Pkg.wdUpdate_get, Pkg.setQst_get, Pkg.setBit8_get_apart _ _ _ _ (Or.inr (Or.inr (by simp [fPausedRx, fStalled, portFld])))]
  exact ((s.settleQ t p q).setBit8_paused t p i false hq).trans (by rw [Pkg.settleQ_paused])

theorem Pkg.liftPause_stalled (hq : q < 8) : (s.liftPause t p q).stalledQ t p q = false := by
  rw [Pkg.liftPause, Pkg.stalledQ, Pkg.wdUpdate_get, Pkg.setQst_get]
  exact (Pkg.setBit8_stalled _ t p q false hq).trans (if_pos rfl)

theorem Pkg.liftPause_now : (s.liftPause t p q).now = s.now := ((Frees.refl _).wdUpdate (t := t) (n := p) (c := q)).now

theorem Pkg.takePause_paused (hq : q < 8) : (s.takePause t p q k).pausedQ t p i = if i = q then k != 0 else s.pausedQ t p i := by
  by_cases hk : k = 0
  · rw [Pkg.takePause, if_pos hk, Pkg.liftPause_paused _ _ _ _ hq, hk]; rfl
  · rw [Pkg.takePause, if_neg hk, Pkg.pausedQ, Pkg.wdUpdate_get, Pkg.setQst_get, bne_iff_ne.2 hk]
    exact ((s.settleQ t p q).setBit8_paused t p i true hq).trans (by rw [Pkg.settleQ_paused])

end

section
variable {p q : Pkg} {W C : List Nat} {t n c k : Nat}

theorem Touches.liftPause (h : Touches p q W C) (hm : pkgAddr t (fPausedRx n).off ∈ W) : Touches p (q.liftPause t n c) W C := by
  have hm' : pkgAddr t (fStalled n).off ∈ W := hm
  unfold Pkg.liftPause
  exact (((h.settleQ.setBit8 hm).setBit8 hm').setQst).wdUpdate

theorem Touches.takePause (h : Touches p q W C) (hm : pkgAddr t (fPausedRx n).off ∈ W) : Touches p (q.takePause t n c k) W C := by
  unfold Pkg.takePause
  exact (h.liftPause hm).ite (((h.settleQ.setBit8 hm).setQst).wdUpdate)

end

/-! ### PFC and pause frames received (R113) -/

/-- The named queues of a list take their pause, each its quanta. -/
def Pkg.pauseEach (s : Pkg) (t p : Nat) (named : Nat → Bool) (quanta : Nat → Nat) (l : List Nat) : Pkg :=
  l.foldl (fun s q => if named q then s.takePause t p q (quanta q) else s) s

section
variable {s : Pkg} {t p : Nat} {named : Nat → Bool} {quanta : Nat → Nat} {l : List Nat}

theorem Pkg.pauseEach_paused (hl : ∀ q ∈ l, q < 8) (i : Nat) :
    (s.pauseEach t p named quanta l).pausedQ t p i = if i ∈ l ∧ named i then quanta i != 0 else s.pausedQ t p i := by
  induction l generalizing s with
  | nil => simp [Pkg.pauseEach]
  | cons q l ih =>
    have hstep : (if named q then s.takePause t p q (quanta q) else s).pausedQ t p i =
        if i = q ∧ named i then quanta i != 0 else s.pausedQ t p i := by
      by_cases hn : named q
      · rw [if_pos hn, Pkg.takePause_paused _ _ _ _ _ (hl q List.mem_cons_self)]
        by_cases hi : i = q
        · simp [hi, hn]
        · simp [hi]
      · have hno : ¬ (i = q ∧ named i = true) := fun ⟨hi, h⟩ => hn (hi ▸ h)
        rw [if_neg hn, if_neg hno]
    rw [Pkg.pauseEach, List.foldl_cons]
    refine (ih fun q hq => hl q (List.mem_cons_of_mem _ hq)).trans ?_
    rw [hstep]
    by_cases hn : named i
    · by_cases hi : i = q
      · simp [hi, hi ▸ hn]
      · simp [hi, hn]
    · simp [hn]

theorem Touches.pauseEach {p₀ q₀ : Pkg} {W C : List Nat} (h : Touches p₀ q₀ W C) (hm : pkgAddr t (fPausedRx p).off ∈ W) :
    Touches p₀ (q₀.pauseEach t p named quanta l) W C := h.foldl fun _ _ _ h => (h.takePause hm).ite h

/-- PFC_RX is no field of the word that a pause changes. -/
theorem Pkg.takePause_pfcRx (s : Pkg) (t p q k : Nat) : (s.takePause t p q k).get t (fPfcRx p) = s.get t (fPfcRx p) := by
  have h : Touches s (s.takePause t p q k) [pkgAddr t (fPausedRx p).off] [] := (Touches.refl _ _ _).takePause (by simp)
  exact congrArg (fieldGet · _ _) (h.words t (fPfcRx p).off (by simp [pkgAddr, fPfcRx, fPausedRx, portFld]))

theorem Pkg.takePfc_eq (s : Pkg) (t p enable : Nat) (k : List Nat) : s.takePfc t p enable k =
    (s.bump t (oPauseRx p)).pauseEach t p (fun q => enable.testBit q && (s.get t (fPfcRx p)).testBit q) (k.getD · 0) (List.range 8) := by
  have hfold (l : List Nat) (x : Pkg) (hx : x.get t (fPfcRx p) = s.get t (fPfcRx p)) :
      l.foldl (fun s q => if enable.testBit q && (s.get t (fPfcRx p)).testBit q then s.takePause t p q (k.getD q 0) else s) x =
        x.pauseEach t p (fun q => enable.testBit q && (s.get t (fPfcRx p)).testBit q) (k.getD · 0) l := by
    induction l generalizing x with
    | nil => rw [Pkg.pauseEach, List.foldl_nil, List.foldl_nil]
    | cons q l ih =>
      rw [Pkg.pauseEach, List.foldl_cons, List.foldl_cons, hx]
      refine ih _ ?_
      split
      · rw [Pkg.takePause_pfcRx, hx]
      · exact hx
  exact hfold _ _ (Pkg.bump_get ..)

theorem Pkg.takePause8_eq (s : Pkg) (t p k : Nat) :
    s.takePause8 t p k = (s.bump t (oPauseRx p)).pauseEach t p (fun _ => s.on t (fPauseRx p)) (fun _ => k) (List.range 8) := by
  have hon : (s.bump t (oPauseRx p)).on t (fPauseRx p) = s.on t (fPauseRx p) := Pkg.bump_on ..
  rw [Pkg.takePause8, hon, Pkg.pauseEach]
  cases s.on t (fPauseRx p)
  · rw [if_neg Bool.false_ne_true]
    exact (foldl_eq_self fun _ _ => if_neg Bool.false_ne_true).symm
  · simp only [if_true]

end

/-- A command whose effect on the package is to make it q. -/
theorem runs_becomes {i : Instr} {s : State} {P : State → Prop} {f : Pkg → Pkg} {q : Pkg} (h : exec i s = .next (s.onPkg f)) (he : f s.pkg = q)
    (hp : P (s.map fun _ => q).finish) : Runs i s P := by
  subst he; exact runs_onPkg h hp

/-- The frame of a command that makes the package q. -/
theorem Touches.finishes {s : State} {q : Pkg} {W C : List Nat} (h : Touches s.pkg q W C) : Frame s (s.map fun _ => q).finish W C :=
  Touches.frame (f := fun _ => q) h

section
variable {s : State} {q : Pkg}

theorem State.finish_pausedQ (s : State) (t p c : Nat) : s.finish.pkg.pausedQ t p c = s.pkg.pausedQ t p c := by rw [Pkg.pausedQ, State.finish_pkg_get]; rfl
theorem State.finish_stalledQ (s : State) (t p c : Nat) : s.finish.pkg.stalledQ t p c = s.pkg.stalledQ t p c := by rw [Pkg.stalledQ, State.finish_pkg_get]; rfl
theorem State.finish_port (s : State) (t p : Nat) : s.finish.pkg.port t p = s.pkg.port t p := by rw [Pkg.port, State.finish_pkg_sw]; rfl

variable {i : Instr} {f : Pkg → Pkg} {tile port at_ : Nat} {named : Nat → Bool} {quanta : Nat → Nat}

/-- A received pause is counted, and each queue it names is paused or, with quanta 0, released. -/
theorem runs_pauses (h : exec i s = .next (s.onPkg f))
    (he : f s.pkg = ((s.pkg.reach at_).bump tile (oPauseRx port)).pauseEach tile port named quanta (List.range 8)) :
    Runs i s (fun t =>
      (∀ q < 8, t.pkg.pausedQ tile port q = if named q then quanta q != 0 else s.pkg.pausedQ tile port q) ∧
      t.pkg.cnt tile (oPauseRx port) = s.pkg.cnt tile (oPauseRx port) + 1 ∧
      Frame s t [pkgAddr tile (fPausedRx port).off] [pkgAddr tile (oPauseRx port)]) := by
  refine runs_becomes h he ⟨fun q hq => ?_, ?_, ?_⟩
  · have hmem : (q ∈ List.range 8 ∧ named q = true) ↔ named q = true := by simp [hq]
    rw [State.finish_pausedQ, State.map_pkg, Pkg.pauseEach_paused (fun _ h => List.mem_range.1 h)]
    exact if_congr hmem rfl rfl
  · have hkept : Touches ((s.pkg.reach at_).bump tile (oPauseRx port)) (((s.pkg.reach at_).bump tile (oPauseRx port)).pauseEach tile port named quanta
        (List.range 8)) [pkgAddr tile (fPausedRx port).off] [] := (Touches.refl _ _ _).pauseEach (by simp)
    rw [State.finish_pkg_cnt, State.map_pkg, hkept.counts _ _ List.not_mem_nil, Pkg.cnt_bump_same]
    rfl
  · exact (((Touches.refl s.pkg _ _).reach.bump (by simp)).pauseEach (by simp)).finishes

end

section
variable {s : State} {tile port : Nat} (hon : s.pkg.tileOn tile = true) (hm : macPort tile port = true) (hp : s.pkg.hasPort tile port = true)
  (hl : s.pkg.linkUp tile port = true)
include hon hm hp hl

theorem pfcReceive_pauses (at_ enable : Nat) (quanta : List Nat) : Runs (.pfcReceive tile port enable quanta at_) s (fun t =>
      (∀ q < 8, t.pkg.pausedQ tile port q = (if enable.testBit q && (s.pkg.get tile (fPfcRx port)).testBit q then quanta.getD q 0 != 0
        else s.pkg.pausedQ tile port q)) ∧
      t.pkg.cnt tile (oPauseRx port) = s.pkg.cnt tile (oPauseRx port) + 1 ∧
      Frame s t [pkgAddr tile (fPausedRx port).off] [pkgAddr tile (oPauseRx port)]) := by
  have heff : pfcReceive tile port enable quanta at_ s.pkg = (s.pkg.reach at_).takePfc tile port enable quanta :=
    Pkg.when_pos _ _ (by rw [hon, hm, hp, hl]; rfl)
  exact runs_pauses rfl (heff.trans (Pkg.takePfc_eq ..))

theorem pauseReceive_pauses (at_ quanta : Nat) : Runs (.pauseReceive tile port quanta at_) s (fun t =>
      (∀ q < 8, t.pkg.pausedQ tile port q = (if s.pkg.on tile (fPauseRx port) then quanta != 0 else s.pkg.pausedQ tile port q)) ∧
      t.pkg.cnt tile (oPauseRx port) = s.pkg.cnt tile (oPauseRx port) + 1 ∧
      Frame s t [pkgAddr tile (fPausedRx port).off] [pkgAddr tile (oPauseRx port)]) := by
  have heff : pauseReceive tile port quanta at_ s.pkg = (s.pkg.reach at_).takePause8 tile port quanta :=
    Pkg.when_pos _ _ (by rw [hon, hm, hp, hl]; rfl)
  exact runs_pauses rfl (heff.trans (Pkg.takePause8_eq ..))

end

/-! ### PFC and pause repeated (R112) -/

/-- A MAC control frame goes to the peer, at once or after the frame in transmission, and the port notes when. -/
def Pkg.announce (s : Pkg) (t n c : Nat) (e : OutEv) : Pkg := (s.sendControl t n e).noteSent t n c

section
variable (s : Pkg) (t n c : Nat) (e : OutEv)

theorem Pkg.sendControl_now : (s.sendControl t n e).now = s.now := by unfold Pkg.sendControl; split <;> rfl

theorem Pkg.noteSent_out : (s.noteSent t n c).out = s.out := (rfl)
theorem Pkg.noteSent_cnt (d o : Nat) : (s.noteSent t n c).cnt d o = s.cnt d o := (rfl)

theorem Pkg.announce_now : (s.announce t n c e).now = s.now := s.sendControl_now t n e

theorem Pkg.announce_sent : SMap.get 0 ((s.announce t n c e).port t n).pauseSent c = s.now := by
  rw [Pkg.announce, Pkg.noteSent, Pkg.port_setPort_same, SMap.get_set_same, Pkg.sendControl_now]

variable {s t n}

theorem Pkg.sendControl_idle (h : (s.port t n).tx = none) : s.sendControl t n e = (s.emit e).bump t (oPauseTx n) := by
  rw [Pkg.sendControl, h]; rfl

theorem Pkg.sendControl_busy (h : (s.port t n).tx ≠ none) :
    s.sendControl t n e = s.setPort t n { s.port t n with control := (s.port t n).control ++ [e] } := by
  obtain ⟨x, hx⟩ := Option.ne_none_iff_exists'.1 h
  rw [Pkg.sendControl, hx]; rfl

theorem Pkg.announce_control (h : (s.port t n).tx ≠ none) : ((s.announce t n c e).port t n).control = (s.port t n).control ++ [e] := by
  rw [Pkg.announce, Pkg.noteSent, Pkg.port_setPort_same, Pkg.sendControl_busy e h, Pkg.port_setPort_same]

end

section
variable {p q : Pkg} {W C : List Nat} {t n c : Nat} {e : OutEv}

theorem Touches.noteSent (h : Touches p q W C) : Touches p (q.noteSent t n c) W C := h.setPort

theorem Touches.emit (h : Touches p q W C) : Touches p (q.emit e) W C := h.same rfl rfl rfl rfl

theorem Touches.announce (h : Touches p q W C) (hm : pkgAddr t (oPauseTx n) ∈ C) : Touches p (q.announce t n c e) W C :=
  ((h.emit.bump hm).ite h.setPort).noteSent

theorem Touches.announce_busy (h : Touches p q W C) (hb : (q.port t n).tx ≠ none) : Touches p (q.announce t n c e) W C := by
  rw [Pkg.announce, Pkg.sendControl_busy e hb]
  exact h.setPort.noteSent

end

/-- Of the steps of a fold one alone does something. -/
theorem foldl_one {α β : Type} {f : α → β → α} {l : List β} {a : α} {b : β} (hb : b ∈ l) (hn : l.Nodup) (hbefore : ∀ x ∈ l, x ≠ b → f a x = a)
    (hafter : ∀ x ∈ l, x ≠ b → f (f a b) x = f a b) : l.foldl f a = f a b := by
  obtain ⟨l₁, l₂, rfl⟩ := List.append_of_mem hb
  have hne (x : β) (hx : x ∈ l₁ ∨ x ∈ l₂) : x ≠ b := by
    rintro rfl
    rw [List.nodup_middle, List.nodup_cons, List.mem_append] at hn
    exact hn.1 hx
  rw [List.foldl_append, foldl_eq_self fun x hx => hbefore x (by simp [hx]) (hne x (.inl hx)), List.foldl_cons,
    foldl_eq_self fun x hx => hafter x (by simp [hx]) (hne x (.inr hx))]

theorem Pkg.pauseHeld_congr {p q : Pkg} (h : ∀ d f, q.get d f = p.get d f) (t n : Nat) : q.pauseHeld t n = p.pauseHeld t n := by
  simp only [Pkg.pauseHeld, Pkg.on, Pkg.holdsXoff, Pkg.pfcClass, Pkg.windowFresh, Pkg.classType, h]

/-- The PFC frame for one class at full quanta. -/
def Pkg.pfcXoff (s : Pkg) (t n c : Nat) : OutEv :=
  .pfc t n (s.portMac t n) (2 ^ c) ((List.range 8).map (fun i => if i = c then 0xFFFF else 0))

/-- The pause frame at full quanta. -/
def Pkg.pauseXoff (s : Pkg) (t n : Nat) : OutEv := .pause t n (s.portMac t n) 0xFFFF

section
variable {s : State} {tile port at_ c : Nat} {e : OutEv}

/-- A refresh that sends one frame. -/
theorem pauseRefresh_sends (heff : pauseRefresh tile port at_ s.pkg = (s.pkg.reach at_).announce tile port c e) :
    Runs (.pauseRefresh tile port at_) s (fun t =>
      SMap.get 0 (t.pkg.port tile port).pauseSent c = t.pkg.now ∧
      ((s.pkg.port tile port).tx = none → (s.pkg.out ++ [e]) <+: t.pkg.out ∧
        t.pkg.cnt tile (oPauseTx port) = s.pkg.cnt tile (oPauseTx port) + 1 ∧ Frame s t [] [pkgAddr tile (oPauseTx port)]) ∧
      ((s.pkg.port tile port).tx ≠ none → (t.pkg.port tile port).control = (s.pkg.port tile port).control ++ [e] ∧ Frame s t [] [])) := by
  refine runs_becomes rfl heff ⟨?_, fun hidle => ⟨?_, ?_, ?_⟩, fun hbusy => ⟨?_, ?_⟩⟩
  · rw [State.finish_port, State.finish_pkg_now, State.map_pkg, Pkg.announce_sent, Pkg.announce_now]
  · refine List.IsPrefix.trans ?_ (State.out_prefix_finish _)
    rw [State.map_pkg, Pkg.announce, Pkg.sendControl_idle (s := s.pkg.reach at_) e hidle, Pkg.noteSent_out, Pkg.bump_out]
    exact List.prefix_rfl
  · rw [State.finish_pkg_cnt, State.map_pkg, Pkg.announce, Pkg.sendControl_idle (s := s.pkg.reach at_) e hidle, Pkg.noteSent_cnt, Pkg.cnt_bump_same]
    rfl
  · exact ((Touches.refl s.pkg _ _).reach.announce (by simp)).finishes
  · rw [State.finish_port, State.map_pkg, Pkg.announce_control (s := s.pkg.reach at_) c e hbusy]
    rfl
  · exact ((Touches.refl s.pkg _ _).reach.announce_busy hbusy).finishes

variable (hon : s.pkg.tileOn tile = true) (hm : macPort tile port = true) (hl : s.pkg.linkUp tile port = true)
include hon hm hl

/-- The classes that send PFC repeat it, and then the port its pause. -/
theorem pauseRefresh_eq : pauseRefresh tile port at_ s.pkg =
    (let p := (List.range 8).foldl (fun p c =>
      if p.holdsXoff tile port c && p.pfcClass tile port c && !p.windowFresh tile c && p.refreshDue tile port c then p.sendPfc tile port c 0xFFFF else p)
      (s.pkg.reach at_)
    if p.pauseHeld tile port && p.refreshDue tile port 8 then p.sendPause tile port 0xFFFF else p) :=
  Pkg.when_pos _ _ (by rw [hon, hm, hl]; rfl)

theorem pauseRefresh_pause (hno : ∀ c < 8, (s.pkg.holdsXoff tile port c && s.pkg.pfcClass tile port c) = false) (hheld : s.pkg.pauseHeld tile port = true)
    (hdue : (s.pkg.reach at_).refreshDue tile port 8 = true) :
    pauseRefresh tile port at_ s.pkg = (s.pkg.reach at_).announce tile port 8 (s.pkg.pauseXoff tile port) := by
  have hquiet (x : Nat) (hx : x ∈ List.range 8) : ((s.pkg.reach at_).holdsXoff tile port x && (s.pkg.reach at_).pfcClass tile port x) = false :=
    hno x (List.mem_range.1 hx)
  have hheld' : (s.pkg.reach at_).pauseHeld tile port = true := hheld
  rw [pauseRefresh_eq hon hm hl, foldl_eq_self fun x hx => by rw [hquiet x hx]; rfl]
  simp only [hheld', hdue, Bool.and_self, if_true]
  rfl

theorem pauseRefresh_pfc (hc : c < 8) (hone : ∀ x < 8, (s.pkg.holdsXoff tile port x && s.pkg.pfcClass tile port x) = decide (x = c))
    (hheld : s.pkg.pauseHeld tile port = false) (hfresh : s.pkg.windowFresh tile c = false) (hdue : (s.pkg.reach at_).refreshDue tile port c = true) :
    pauseRefresh tile port at_ s.pkg = (s.pkg.reach at_).announce tile port c (s.pkg.pfcXoff tile port c) := by
  have hkept : Touches s.pkg ((s.pkg.reach at_).announce tile port c (s.pkg.pfcXoff tile port c)) [] [pkgAddr tile (oPauseTx port)] :=
    (Touches.refl _ _ _).reach.announce (by simp)
  have hsent : (s.pkg.reach at_).sendPfc tile port c 0xFFFF = (s.pkg.reach at_).announce tile port c (s.pkg.pfcXoff tile port c) := rfl
  have hother (p : Pkg) (hp : ∀ d f, p.get d f = s.pkg.get d f) (x : Nat) (hx : x ∈ List.range 8) (hne : x ≠ c) :
      (p.holdsXoff tile port x && p.pfcClass tile port x) = false := by
    have h := hone x (List.mem_range.1 hx)
    rw [decide_eq_false hne] at h
    simpa only [Pkg.holdsXoff, Pkg.pfcClass, hp] using h
  have hmine : ((s.pkg.reach at_).holdsXoff tile port c && (s.pkg.reach at_).pfcClass tile port c && !(s.pkg.reach at_).windowFresh tile c &&
      (s.pkg.reach at_).refreshDue tile port c) = true := by
    have h : ((s.pkg.reach at_).holdsXoff tile port c && (s.pkg.reach at_).pfcClass tile port c) = true := (hone c hc).trans (decide_eq_true rfl)
    have hf : (s.pkg.reach at_).windowFresh tile c = false := hfresh
    rw [h, hf, hdue]; rfl
  rw [pauseRefresh_eq hon hm hl, foldl_one (List.mem_range.2 hc) List.nodup_range]
  · simp only [hmine, if_true, hsent, Pkg.pauseHeld_congr hkept.get_eq, hheld, Bool.false_and, Bool.false_eq_true, if_false]
  · intro x hx hne
    rw [hother (s.pkg.reach at_) (fun _ _ => rfl) x hx hne]; rfl
  · intro x hx hne
    rw [hmine, if_pos rfl, hsent, hother _ hkept.get_eq x hx hne]; rfl

end

/-! ### A pause runs out (R113, R121) -/

section
variable {s : State} {tile port queue : Nat}

theorem pauseExpire_releases (hon : s.pkg.tileOn tile = true) (hq : queue < 8) (hp : s.pkg.pausedQ tile port queue = true) :
    Runs (.pauseExpire tile port queue) s (fun t =>
      t.pkg.pausedQ tile port queue = false ∧ t.pkg.stalledQ tile port queue = false ∧ (s.pkg.qst tile port queue).paused ≤ t.pkg.now ∧
      Frame s t [pkgAddr tile (fPausedRx port).off] []) := by
  have heff : pauseExpire tile port queue s.pkg = (s.pkg.reachFrac (s.pkg.qst tile port queue).paused).liftPause tile port queue :=
    Pkg.when_pos _ _ (by rw [hon, hp]; rfl)
  refine runs_becomes rfl heff ⟨?_, ?_, ?_, ?_⟩
  · rw [State.finish_pausedQ, State.map_pkg, Pkg.liftPause_paused _ _ _ _ hq, if_pos rfl]
  · rw [State.finish_stalledQ, State.map_pkg, Pkg.liftPause_stalled _ _ _ hq]
  · rw [State.finish_pkg_now, State.map_pkg, Pkg.liftPause_now]
    exact le_max_right _ _
  · exact ((Touches.refl s.pkg _ _).reachFrac.liftPause (by simp)).finishes

end

/-! ### The watchdog (R121, R249) -/

theorem Frees.rxLost {p q : Pkg} (h : Frees p q) {t c : Nat} : Frees p (q.rxLost t c) :=
  h.trans ⟨rfl, rfl, fun _ _ => rfl, fun _ _ => rfl, fun _ _ _ => rfl, fun _ _ _ _ _ _ => rfl, fun _ _ => rfl⟩

theorem Frees.flushHead {p q : Pkg} (h : Frees p q) {t n c code : Nat} (hc : oDisc code % 0x200 ≠ 0x160) : Frees p (q.flushHead t n c code) := by
  unfold Pkg.flushHead
  refine Frees.foldl (Frees.rxLost (Frees.onSw h ?_)) fun x d => ?_
  · exact fun _ => rfl
  · dsimp only
    split
    · exact ((Frees.refl x).discard hc).dropRef
    · exact (Frees.refl x).discard hc

namespace Background
variable {p q : Pkg} {t n c : Nat}

theorem reachFrac (h : Background p q) : Background p (q.reachFrac n) :=
  h.trans ⟨(Undisturbed.refl q).same rfl rfl rfl rfl rfl, rfl, rfl, rfl, rfl, rfl, rfl, fun _ => rfl⟩

theorem raise (h : Background p q) {d : Nat} {f : Fld} (ho : quiet f.off) : Background p (q.raise d f) :=
  (h.put (v := 1) ho).trans ⟨(Undisturbed.refl _).same rfl rfl rfl rfl rfl, rfl, rfl, rfl, rfl, rfl, rfl, fun _ => rfl⟩

theorem rxLost (h : Background p q) : Background p (q.rxLost t c) :=
  h.trans ⟨(Undisturbed.refl q).same rfl rfl rfl rfl rfl, rfl, rfl, rfl, rfl, rfl, rfl, fun _ => rfl⟩

theorem flushHead (h : Background p q) {code : Nat} : Background p (q.flushHead t n c code) := by
  unfold Pkg.flushHead
  refine foldl (rxLost (onSw h fun _ => rfl)) fun x d => ?_
  dsimp only
  split
  · exact (refl x).discard.dropRef
  · exact (refl x).discard

end Background

/-- The stall stands in the registers: the queue's bit, the port's count and its event bit. -/
def Pkg.stallNoted (s : Pkg) (t n c : Nat) : Pkg :=
  (((s.reachFrac (s.stallAt t n c)).setBit8 t (fStalled n) c true).bump t (oStalls n)).raise t ⟨0x800020, n, n⟩

/-- A stalled queue is flushed, with the frames that wait at its head. -/
def Pkg.stallFlush (s : Pkg) (t n c : Nat) : Pkg :=
  ((((s.settleQ t n c).flushHead t n c 20).flushQueue t n c 20).emptyCredit t n c).wdUpdate t n c

section
variable (s : Pkg) (t n c : Nat)

/-- The flush gives cells back, and between empties the queue. -/
theorem Pkg.stallFlush_frees : ∃ m, Frees s m ∧ Frees (m.setQueue t n c []) (s.stallFlush t n c) :=
  ⟨(s.settleQ t n c).flushHead t n c 20, (Frees.refl s).settleQ.flushHead (by decide), (Frees.flushQueue t n c _ (by decide)).emptyCredit.wdUpdate⟩

theorem Pkg.stallFlush_queue : (s.stallFlush t n c).queue t n c = [] := by
  obtain ⟨m, -, h⟩ := s.stallFlush_frees t n c
  rw [h.queue, Pkg.queue_setQueue_same]

theorem Pkg.stallFlush_now : (s.stallFlush t n c).now = s.now := by
  obtain ⟨m, hm, h⟩ := s.stallFlush_frees t n c
  exact h.now.trans hm.now

theorem Pkg.stallFlush_stalls : (s.stallFlush t n c).cnt t (oStalls n) = s.cnt t (oStalls n) := by
  obtain ⟨m, hm, h⟩ := s.stallFlush_frees t n c
  exact (h.stalls t n).trans (hm.stalls t n)

theorem Pkg.stallFlush_event (f : Fld) (hf : f.off % 0x200 ≠ 0xC) : (s.stallFlush t n c).on t f = s.on t f := by
  obtain ⟨m, hm, h⟩ := s.stallFlush_frees t n c
  have hword : (s.stallFlush t n c).rd t f.off = s.rd t f.off := (h.words t f.off hf).trans (hm.words t f.off hf)
  rw [Pkg.on, Pkg.get, hword]; rfl

variable {t n c}

theorem Pkg.stallFlush_stalled (ht : t < 7) (hn : n < 28) : (s.stallFlush t n c).stalledQ t n c = s.stalledQ t n c := by
  obtain ⟨m, hm, h⟩ := s.stallFlush_frees t n c
  have hfld : StatusFld n (fStalled n) := ⟨rfl, .inr (Nat.lt_of_sub_eq_succ rfl)⟩
  have hget : (s.stallFlush t n c).get t (fStalled n) = s.get t (fStalled n) := (h.status t n _ ht hn hfld).trans (hm.status t n _ ht hn hfld)
  rw [Pkg.stalledQ, hget]; rfl

theorem Pkg.stallNoted_stalled (hc : c < 8) : (s.stallNoted t n c).stalledQ t n c = true := by
  have hapart : (fStalled n).off ≠ 0x800020 := by simp only [fStalled, portFld]; omega
  rw [Pkg.stallNoted, Pkg.stalledQ, Pkg.raise_get, Pkg.get_put_off _ _ hapart, Pkg.bump_get]
  exact (Pkg.setBit8_stalled _ t n c true hc).trans (if_pos rfl)

theorem Pkg.stallNoted_stalls : (s.stallNoted t n c).cnt t (oStalls n) = s.cnt t (oStalls n) + 1 := by
  rw [Pkg.stallNoted, Pkg.raise_cnt, Pkg.cnt_bump_same]; rfl

theorem Background.stalls {p q : Pkg} (h : Background p q) : Background p ((q.stallNoted t n c).stallFlush t n c) :=
  have hword : quiet (fStalled n).off := quiet_of_mod (by simp only [fStalled, portFld]; omega)
  have hnoted : Background p (q.stallNoted t n c) := ((h.reachFrac.put hword).bump).raise (show quiet 0x800020 from ⟨by decide, by decide⟩)
  (hnoted.setQst.flushHead.flushQueue.emptyCredit).wdUpdate

end

section
variable {s : State} {tile port queue : Nat}

/-- A pause that ends by the stall's instant wins. -/
theorem watchdogStall_late (hne : port ≠ 16) (hle : (s.pkg.qst tile port queue).paused ≤ s.pkg.stallAt tile port queue) (hw : s.noEthWaits) :
    Runs (.watchdogStall tile port queue) s (fun t => t.pkg.queue tile port queue = s.pkg.queue tile port queue ∧ Frame s t [] []) := by
  have hguard : (port == 16 || decide (s.pkg.stallAt tile port queue < (s.pkg.qst tile port queue).paused)) = false := by
    rw [beq_eq_false_iff_ne.2 hne, decide_eq_false (Nat.not_lt.2 hle)]; rfl
  have heff : watchdogStall tile port queue s.pkg = s.pkg := Pkg.when_neg _ _ (by rw [hguard, Bool.and_false])
  exact runs_rests rfl heff (Background.refl _) hw ⟨State.restsAt_queue .., (Touches.refl _ _ _).rests⟩

theorem watchdogStall_stalls (ht : tile < 7) (hn : port < 28) (hq : queue < 8) (hon : s.pkg.tileOn tile = true) (hen : s.pkg.on tile fWdEnable = true)
    (hsince : (s.pkg.qst tile port queue).wdSince ≠ 0) (hst : s.pkg.stalledQ tile port queue = false) (hw : s.noEthWaits)
    (hheld : port = 16 ∨ s.pkg.stallAt tile port queue < (s.pkg.qst tile port queue).paused) :
    Runs (.watchdogStall tile port queue) s (fun t =>
      t.pkg.stalledQ tile port queue = true ∧ t.pkg.queue tile port queue = [] ∧ t.pkg.on tile ⟨0x800020, port, port⟩ = true ∧
      t.pkg.cnt tile (oStalls port) = s.pkg.cnt tile (oStalls port) + 1 ∧
      (s.pkg.qst tile port queue).wdSince - 1 + ns (1000000 * s.pkg.get tile fStallMs) ≤ t.pkg.now) := by
  have hguard : (port == 16 || decide (s.pkg.stallAt tile port queue < (s.pkg.qst tile port queue).paused)) = true := by simpa using hheld
  have heff : watchdogStall tile port queue s.pkg = (s.pkg.stallNoted tile port queue).stallFlush tile port queue :=
    Pkg.when_pos _ _ (by rw [hguard, hon, hen, hst, bne_iff_ne.2 hsince]; rfl)
  refine runs_rests rfl heff (Background.refl _).stalls hw ⟨?_, ?_, ?_, ?_, ?_⟩
  · rw [Pkg.stalledQ, State.restsAt_get]
    exact (Pkg.stallFlush_stalled _ ht hn).trans (Pkg.stallNoted_stalled _ hq)
  · rw [State.restsAt_queue, Pkg.stallFlush_queue]
  · rw [State.restsAt_on, Pkg.stallFlush_event _ _ _ _ _ (show 0x800020 % 0x200 ≠ 0xC by decide), Pkg.stallNoted, Pkg.on_raise_same _ _ _ (by simp only; omega) (Nat.le_refl _)]
  · rw [State.restsAt_cnt, Pkg.stallFlush_stalls, Pkg.stallNoted_stalls]
  · have hat : s.pkg.stallAt tile port queue = (s.pkg.qst tile port queue).wdSince - 1 + ns (1000000 * s.pkg.get tile fStallMs) := by
      rw [Pkg.stallAt, ms, Nat.mul_comm]
    rw [State.restsAt_now, Pkg.stallFlush_now, ← hat]
    exact le_max_right _ _

end

/-- Settles O21: a refresh is one `announce`, received pauses are `pauseEach` over the queues they name, and a stall is noted before what the queue holds
goes back, which no status bit but XOFF follows. -/
theorem pauseAndWatchdog : Obligations.PauseAndWatchdog := by
  unfold Obligations.PauseAndWatchdog
  refine ⟨fun tile port at_ s _ _ hon hm hp hl => ⟨fun hno hheld hdue => ?_, fun c hc hone hheld hfresh hdue => ?_, fun enable quanta => ?_, fun quanta => ?_⟩,
    fun tile port queue s ht hn hq hon => ⟨?_, ?_, ?_⟩⟩
  · exact pauseRefresh_sends (pauseRefresh_pause hon hm hl hno hheld hdue)
  · exact pauseRefresh_sends (pauseRefresh_pfc hon hm hl hc hone hheld hfresh hdue)
  · exact pfcReceive_pauses hon hm hp hl at_ enable quanta
  · exact pauseReceive_pauses hon hm hp hl at_ quanta
  · exact pauseExpire_releases hon hq
  · exact watchdogStall_late
  · exact watchdogStall_stalls ht hn hq hon

end Sys2Proof.Machine
end

section
/-! PROOFS. Overflow memory, the multicast hold and the shapers (R122–R124, R131, R144, R145): what O22 asks. -/
namespace Sys2Proof.Machine

section
variable {p q : Pkg} {W C : List Nat} {t n c : Nat}

theorem Touches.setPool (h : Touches p q W C) {x : PoolUse} : Touches p (q.setPool t x) W C := h.onSw
theorem Touches.emptyCredit (h : Touches p q W C) : Touches p (q.emptyCredit t n c) W C := h.setQst.ite h
theorem Touches.emptied (h : Touches p q W C) : Touches p (q.emptied t n c) W C := (h.setQst.ite h).emptyCredit
theorem Touches.unspill (h : Touches p q W C) : Touches p (q.unspill t n c) W C := h.ite h.setQst

/-- A discard at egress counts on the tile and the port. -/
theorem Touches.discard {code : Nat} (h : Touches p q W C) (hcode : 9 < code ∧ code ≠ 19) (ht : pkgAddr t (oDisc code) ∈ C) (hn : pkgAddr t (oTxDisc n) ∈ C) :
    Touches p (q.discard t code n) W C := by
  rw [Pkg.discard, if_neg (by omega)]
  exact (h.bump ht).bump hn

theorem Background.settleQ (h : Background p q) : Background p (q.settleQ t n c) := h.setQst
theorem Background.emptied (h : Background p q) : Background p (q.emptied t n c) := (h.setQst.ite h).emptyCredit
theorem Background.unspill (h : Background p q) : Background p (q.unspill t n c) := h.ite h.setQst

theorem State.restsAt_pool (s : State) (q : Pkg) (t : Nat) : (s.restsAt q).pkg.pool t = q.pool t := by rw [Pkg.pool, State.restsAt_sw]; rfl

theorem Pkg.pool_setPool_same (s : Pkg) (t : Nat) (x : PoolUse) : (s.setPool t x).pool t = x := SMap.get_set_same _ _ _ _

theorem Frees.unwait {i : Nat} (h : Frees p q) : Frees p (q.unwait i) := h.onSw fun _ => rfl

/-- A discard's counter on the tile is no port's counter. -/
theorem Pkg.discard_counted (s : Pkg) {t code n : Nat} (hcode : code < 32) : (s.discard t code n).cnt t (oDisc code) = s.cnt t (oDisc code) + 1 := by
  rw [Pkg.discard, Pkg.cnt_bump_ne _ ?_, Pkg.cnt_bump_same]
  split <;> (simp only [pkgAddr, oDisc, oTxDisc, oRxDisc]; omega)

/-- And it is counted on the egress port. -/
theorem Pkg.discard_port (s : Pkg) {t code n : Nat} (hegress : 9 < code ∧ code ≠ 19) (hcode : code < 32) :
    (s.discard t code n).cnt t (oTxDisc n) = s.cnt t (oTxDisc n) + 1 := by
  rw [Pkg.discard, if_neg (by omega), Pkg.cnt_bump_same, Pkg.cnt_bump_ne _ (by simp only [pkgAddr, oDisc, oTxDisc]; omega)]

end

/-! ### A frame goes to overflow memory (R122, R124) -/

section
variable (s : Pkg) (t n c : Nat) (x : Copy)

/-- The place of the first copy of a number changes. -/
def Pkg.moveCopy (loc : Loc) : Pkg :=
  s.setQueue t n c (replaceFirst (fun d => d.id == x.id) (fun d => { d with loc := loc }) (s.queue t n c))

/-- The frame lies in overflow memory and is counted; its on-chip cells are still charged. -/
def Pkg.spillWritten : Pkg :=
  let m := s.moveCopy t n c x .ovf
  ((m.setPool t { m.pool t with ovf := (m.pool t).ovf + x.cells }).bump t oSpillFrames).bump t (oSpilled n)

theorem Pkg.spillWritten_frees : Frees (s.moveCopy t n c x .ovf) (s.spillWritten t n c x) :=
  (((Frees.refl _).setPool).bump (by simp only [oSpillFrames]; omega)).bump (by simp only [oSpilled]; omega)

theorem Pkg.spillWritten_frames : (s.spillWritten t n c x).sw.frames = s.sw.frames := (rfl)
theorem Pkg.spillWritten_recirc : (s.spillWritten t n c x).sw.recirc = s.sw.recirc := (rfl)

theorem oSpillFrames_ne_oSpilled : pkgAddr t oSpillFrames ≠ pkgAddr t (oSpilled n) := by simp only [pkgAddr, oSpillFrames, oSpilled]; omega

theorem Pkg.spillWritten_cnt_tile : (s.spillWritten t n c x).cnt t oSpillFrames = s.cnt t oSpillFrames + 1 := by
  rw [Pkg.spillWritten, Pkg.cnt_bump_ne _ (oSpillFrames_ne_oSpilled t n), Pkg.cnt_bump_same]; rfl

theorem Pkg.spillWritten_cnt_port : (s.spillWritten t n c x).cnt t (oSpilled n) = s.cnt t (oSpilled n) + 1 := by
  rw [Pkg.spillWritten, Pkg.cnt_bump_same, Pkg.cnt_bump_ne _ (oSpillFrames_ne_oSpilled t n).symm]; rfl

theorem Pkg.spillWritten_touches {W C : List Nat} (ht : pkgAddr t oSpillFrames ∈ C) (hn : pkgAddr t (oSpilled n) ∈ C) :
    Touches s (s.spillWritten t n c x) W C := (((Touches.refl s W C).setQueue.setPool).bump ht).bump hn

end

section
variable {s : State} {tile port queue at_ : Nat} {c : Copy}

theorem spillWriteDone_spills (hon : s.pkg.tileOn tile = true) (hw : s.noEthWaits)
    (hfirst : (s.pkg.queue tile port queue).find? (fun c => c.loc == .toSpill) = some c) (hroom : s.pkg.ovfRoom tile port queue c.cells = true)
    (hmay : s.pkg.maySpill tile port queue = true) (hup : (s.pkg.frame c.frame).up = none) :
    Runs (.spillWriteDone tile port queue at_) s (fun t =>
      t.pkg.queue tile port queue = replaceFirst (fun d => d.id == c.id) (fun d => { d with loc := .ovf }) (s.pkg.queue tile port queue) ∧
      t.pkg.cnt tile oSpillFrames = s.pkg.cnt tile oSpillFrames + 1 ∧ t.pkg.cnt tile (oSpilled port) = s.pkg.cnt tile (oSpilled port) + 1 ∧
      Frame s t (s.pkg.xoffWords c.frame) ([pkgAddr tile oSpillFrames, pkgAddr tile (oSpilled port)] ++ s.pkg.pauseCounts c.frame)) := by
  have hguard : (!s.pkg.maySpill tile port queue || !s.pkg.ovfRoom tile port queue c.cells || !s.pkg.crossedWhole c) = false := by
    rw [hmay, hroom, Pkg.crossedWhole, hup]; rfl
  have heff : spillWriteDone tile port queue at_ s.pkg = ((s.pkg.reach at_).spillWritten tile port queue c).dropRef c.frame := by
    refine (Pkg.when_pos _ _ hon).trans ?_
    have hf : ((s.pkg.reach at_).queue tile port queue).find? (fun c => c.loc == .toSpill) = some c := hfirst
    dsimp only
    rw [hf]
    exact if_neg (by rw [Bool.not_eq_true]; exact hguard)
  have hmoves := Pkg.dropRef_moves (p := s.pkg) (Pkg.spillWritten_frames (s.pkg.reach at_) tile port queue c)
    (Pkg.spillWritten_recirc (s.pkg.reach at_) tile port queue c) hup
  have hback : Background s.pkg (((s.pkg.reach at_).spillWritten tile port queue c).dropRef c.frame) :=
    (((Background.refl _).reach.setQueue.setPool.bump).bump).dropRef
  refine runs_rests rfl heff hback hw ⟨?_, ?_, ?_, ?_⟩
  · rw [State.restsAt_queue, (Pkg.spillWritten_frees _ _ _ _ _).dropRef.queue]
    exact Pkg.queue_setQueue_same _ _ _ _ _
  · rw [State.restsAt_cnt]
    exact (hmoves.touches.counts _ _ (notMem_pauseCounts (by simp only [oSpillFrames]; omega))).trans (Pkg.spillWritten_cnt_tile _ _ _ _ _)
  · rw [State.restsAt_cnt]
    exact (hmoves.touches.counts _ _ (notMem_pauseCounts (by simp only [oSpilled]; omega))).trans (Pkg.spillWritten_cnt_port _ _ _ _ _)
  · exact ((Touches.refl s.pkg _ _).reach.trans ((Pkg.spillWritten_touches _ _ _ _ _ (by simp) (by simp)).trans
      (hmoves.touches.mono (fun _ hx => hx) fun _ hx => List.mem_append_right _ hx))).rests

/-! ### A frame comes back (R123) -/

/-- The overflow cells of a frame are free again. -/
def Pkg.ovfFreed (s : Pkg) (t : Nat) (c : Copy) : Pkg := s.setPool t { s.pool t with ovf := (s.pool t).ovf - c.cells }

/-- A frame with an uncorrectable cell leaves its queue and is counted. -/
def Pkg.lostBack (s : Pkg) (t n q : Nat) (c : Copy) : Pkg :=
  let m := s.settleQ t n q
  (m.setQueue t n q ((m.queue t n q).filter (fun d => d.id != c.id))).discard t 22 n

/-- What follows the loss: the queue's marks, its credit and its timer. -/
def Pkg.readOff (s : Pkg) (t n q : Nat) : Pkg := ((s.unspill t n q).emptied t n q).wdUpdate t n q

theorem overflowReadback_eq (hon : s.pkg.tileOn tile = true) (hfirst : (s.pkg.queue tile port queue).find? (fun c => c.loc == .ovf) = some c)
    (hbuf : ((List.range 8).map (fun q => cellsIn (s.pkg.queue tile port q) (fun l => l == .back))).sum = 0) (ok : Bool) :
    overflowReadback tile port queue ok at_ s.pkg = if ok then ((s.pkg.reach at_).ovfFreed tile c).moveCopy tile port queue c .back
      else (((s.pkg.reach at_).ovfFreed tile c).lostBack tile port queue c).readOff tile port queue := by
  refine (Pkg.when_pos _ _ hon).trans ?_
  have hf : ((s.pkg.reach at_).queue tile port queue).find? (fun c => c.loc == .ovf) = some c := hfirst
  have hb : ((List.range 8).map (fun q => cellsIn ((s.pkg.reach at_).queue tile port q) (fun l => l == .back))).sum = 0 := hbuf
  dsimp only
  rw [hf, hb]
  exact if_neg (fun h => h.1 rfl)

theorem overflowReadback_returns (heff : overflowReadback tile port queue true at_ s.pkg = ((s.pkg.reach at_).ovfFreed tile c).moveCopy tile port queue c .back)
    (hw : s.noEthWaits) :
    Runs (.overflowReadback tile port queue true at_) s (fun t =>
      t.pkg.queue tile port queue = replaceFirst (fun d => d.id == c.id) (fun d => { d with loc := .back }) (s.pkg.queue tile port queue) ∧
      (t.pkg.pool tile).ovf = (s.pkg.pool tile).ovf - c.cells ∧ Frame s t [] []) := by
  refine runs_rests rfl heff (Background.refl _).reach.setPool.setQueue hw ⟨?_, ?_, (Touches.refl _ _ _).reach.setPool.setQueue.rests⟩
  · rw [State.restsAt_queue]
    exact Pkg.queue_setQueue_same _ _ _ _ _
  · rw [State.restsAt_pool]
    exact congrArg PoolUse.ovf (Pkg.pool_setPool_same _ _ _)

theorem Pkg.lostBack_queue (s : Pkg) (t n q : Nat) (c : Copy) : (s.lostBack t n q c).queue t n q = (s.queue t n q).filter (fun d => d.id != c.id) :=
  Pkg.queue_setQueue_same _ _ _ _ _

theorem Pkg.lostBack_pool (s : Pkg) (t n q : Nat) (c : Copy) : (s.lostBack t n q c).pool t = s.pool t := (rfl)

theorem Pkg.readOff_frees (s : Pkg) (t n q : Nat) : Frees s (s.readOff t n q) := (Frees.refl s).unspill.emptied.wdUpdate
theorem Touches.readOff {p q : Pkg} {W C : List Nat} {t n c : Nat} (h : Touches p q W C) : Touches p (q.readOff t n c) W C := h.unspill.emptied.wdUpdate
theorem Background.readOff {p q : Pkg} {t n c : Nat} (h : Background p q) : Background p (q.readOff t n c) := h.unspill.emptied.wdUpdate

theorem Pkg.emptyCredit_pool (s : Pkg) (t n q d : Nat) : (s.emptyCredit t n q).pool d = s.pool d := by unfold Pkg.emptyCredit; split <;> rfl

theorem Pkg.readOff_pool (s : Pkg) (t n q d : Nat) : (s.readOff t n q).pool d = s.pool d := by
  have hunspill : (s.unspill t n q).pool d = s.pool d := by unfold Pkg.unspill; split <;> rfl
  have hempty (p : Pkg) : (p.emptied t n q).pool d = p.pool d := by
    rw [Pkg.emptied, Pkg.emptyCredit_pool]; split <;> rfl
  have hwd (p : Pkg) : (p.wdUpdate t n q).pool d = p.pool d := by
    unfold Pkg.wdUpdate; dsimp only; split
    · rfl
    · split <;> rfl
  rw [Pkg.readOff, hwd, hempty, hunspill]

theorem overflowReadback_loses
    (heff : overflowReadback tile port queue false at_ s.pkg = (((s.pkg.reach at_).ovfFreed tile c).lostBack tile port queue c).readOff tile port queue)
    (hw : s.noEthWaits) :
    Runs (.overflowReadback tile port queue false at_) s (fun t =>
      t.pkg.queue tile port queue = (s.pkg.queue tile port queue).filter (fun d => d.id != c.id) ∧
      t.pkg.cnt tile (oDisc 22) = s.pkg.cnt tile (oDisc 22) + 1 ∧ t.pkg.cnt tile (oTxDisc port) = s.pkg.cnt tile (oTxDisc port) + 1 ∧
      (t.pkg.pool tile).ovf = (s.pkg.pool tile).ovf - c.cells ∧ Frame s t [] [pkgAddr tile (oDisc 22), pkgAddr tile (oTxDisc port)]) := by
  have hkeeps (q : Pkg) (d o : Nat) : (q.readOff tile port queue).cnt d o = q.cnt d o :=
    (Touches.refl q [] []).readOff.counts d o List.not_mem_nil
  have hloses {W : List Nat} : Touches s.pkg (((s.pkg.reach at_).ovfFreed tile c).lostBack tile port queue c) W
      [pkgAddr tile (oDisc 22), pkgAddr tile (oTxDisc port)] :=
    (Touches.refl s.pkg _ _).reach.setPool.settleQ.setQueue.discard (by decide) (by simp) (by simp)
  refine runs_rests rfl heff (Background.refl _).reach.setPool.settleQ.setQueue.discard.readOff hw ⟨?_, ?_, ?_, ?_, hloses.readOff.rests⟩
  · rw [State.restsAt_queue, (Pkg.readOff_frees _ _ _ _).queue, Pkg.lostBack_queue]
    rfl
  · rw [State.restsAt_cnt, hkeeps, Pkg.lostBack, Pkg.discard_counted _ (by decide)]
    rfl
  · rw [State.restsAt_cnt, hkeeps, Pkg.lostBack, Pkg.discard_port _ (by decide) (by decide)]
    rfl
  · rw [State.restsAt_pool, Pkg.readOff_pool, Pkg.lostBack_pool]
    exact congrArg PoolUse.ovf (Pkg.pool_setPool_same _ _ _)

end

/-! ### The multicast hold (R131) -/

section
variable {s : State} {tile id : Nat} {c : Copy}

theorem Pkg.mcLost_frames (p : Pkg) (t i : Nat) : (p.mcLost t i).sw.frames = p.sw.frames := by unfold Pkg.mcLost; dsimp only; split <;> rfl
theorem Pkg.mcLost_recirc (p : Pkg) (t i : Nat) : (p.mcLost t i).sw.recirc = p.sw.recirc := by unfold Pkg.mcLost; dsimp only; split <;> rfl
theorem Pkg.mcLost_now (p : Pkg) (t i : Nat) : (p.mcLost t i).now = p.now := by unfold Pkg.mcLost; dsimp only; split <;> rfl
theorem Touches.mcLost {p q : Pkg} {W C : List Nat} {t i : Nat} (h : Touches p q W C) (hm : pkgAddr t oMcPartial ∈ C) : Touches p (q.mcLost t i) W C :=
  h.ite (h.bump hm).onSw
theorem Background.mcLost {p q : Pkg} {t i : Nat} (h : Background p q) : Background p (q.mcLost t i) := h.ite (h.bump.onSw fun _ => rfl)

/-- The copy is lost to its frame, counted and no longer waits; its cells have not gone back. -/
def Pkg.holdEnded (s : Pkg) (t : Nat) (c : Copy) : Pkg := (((s.mcLost t c.frame).discard c.tile 16 c.port).unwait c.id)

theorem Pkg.holdEnded_frames (p : Pkg) : (p.holdEnded tile c).sw.frames = p.sw.frames :=
  (Pkg.unwait_frames _ _).trans ((congrArg SwitchSt.frames (Pkg.discard_sw ..)).trans (Pkg.mcLost_frames ..))
theorem Pkg.holdEnded_recirc (p : Pkg) : (p.holdEnded tile c).sw.recirc = p.sw.recirc :=
  (Pkg.unwait_recirc _ _).trans ((congrArg SwitchSt.recirc (Pkg.discard_sw ..)).trans (Pkg.mcLost_recirc ..))
theorem Pkg.holdEnded_touches {W C : List Nat} (p : Pkg) (hp : pkgAddr tile oMcPartial ∈ C) (ht : pkgAddr c.tile (oDisc 16) ∈ C)
    (hn : pkgAddr c.tile (oTxDisc c.port) ∈ C) : Touches p (p.holdEnded tile c) W C :=
  (((Touches.refl p W C).mcLost hp).discard (by decide) ht hn).unwait
theorem Pkg.holdEnded_now (p : Pkg) : (p.holdEnded tile c).now = p.now := by
  have hgone : Frees (p.mcLost tile c.frame) (p.holdEnded tile c) := ((Frees.refl _).discard (code := 16) (by decide)).unwait
  rw [hgone.now, Pkg.mcLost_now]

theorem Pkg.holdEnded_counted (p : Pkg) : (p.holdEnded c.tile c).cnt c.tile (oDisc 16) = p.cnt c.tile (oDisc 16) + 1 := by
  have hapart : pkgAddr c.tile (oDisc 16) ∉ [pkgAddr c.tile oMcPartial] := by simp only [pkgAddr, oDisc, oMcPartial, List.mem_singleton]; omega
  calc (p.holdEnded c.tile c).cnt c.tile (oDisc 16)
    _ = (p.mcLost c.tile c.frame).cnt c.tile (oDisc 16) + 1 := (Pkg.unwait_cnt ..).trans (Pkg.discard_counted _ (by decide))
    _ = p.cnt c.tile (oDisc 16) + 1 := by
      rw [((Touches.refl p [] [pkgAddr c.tile oMcPartial]).mcLost (by simp)).counts _ _ hapart]

theorem mcHoldExpire_drops (hc : s.pkg.waitingCopy id = some c) (ht : c.tile = tile) (hmc : c.mc = true) (hw : s.noEthWaits)
    (hup : (s.pkg.frame c.frame).up = none) :
    Runs (.mcHoldExpire tile id) s (fun t =>
      (∀ x ∈ t.pkg.sw.waiting, x.id ≠ id) ∧ t.pkg.cnt tile (oDisc 16) = s.pkg.cnt tile (oDisc 16) + 1 ∧
      c.born + ns (1000 * s.pkg.get (c.info.gin / 32) fHoldUs) ≤ t.pkg.now ∧
      Frame s t (s.pkg.xoffWords c.frame) ([pkgAddr tile (oDisc 16), pkgAddr tile (oTxDisc c.port), pkgAddr tile oMcPartial] ++ s.pkg.pauseCounts c.frame)) := by
  have hid : c.id = id := by simpa using List.find?_some hc
  subst ht hid
  let held := s.pkg.reachFrac (c.born + ns (us (s.pkg.get (c.info.gin / 32) fHoldUs)))
  have heff : mcHoldExpire c.tile c.id s.pkg = (held.holdEnded c.tile c).dropRef c.frame := by
    rw [mcHoldExpire, hc]
    exact Pkg.when_pos _ _ (by rw [hmc, beq_self_eq_true]; rfl)
  have hmoves := Pkg.dropRef_moves (p := s.pkg) (Pkg.holdEnded_frames (tile := c.tile) (c := c) held) (Pkg.holdEnded_recirc held) hup
  refine runs_rests rfl heff ((Background.refl _).reachFrac.mcLost.discard.unwait.dropRef) hw ⟨fun x hx => ?_, ?_, ?_, ?_⟩
  · rw [State.restsAt_sw, hmoves.waiting] at hx
    exact Pkg.unwait_gone _ _ x hx
  · rw [State.restsAt_cnt, hmoves.touches.counts _ _ (notMem_pauseCounts (by simp only [oDisc]; omega)), Pkg.holdEnded_counted]
    rfl
  · rw [State.restsAt_now, (Frees.refl _).dropRef.now, Pkg.holdEnded_now, Nat.mul_comm 1000]
    exact le_max_right _ _
  · exact ((Touches.refl s.pkg _ _).reachFrac.trans ((Pkg.holdEnded_touches held (by simp) (by simp) (by simp)).trans
      (hmoves.touches.mono (fun _ hx => hx) fun _ hx => List.mem_append_right _ hx))).rests

end

/-! ### The shapers (R144, R145) -/

/-- The credit of a queue grows at its rate until its burst: one of shaper 1, or one of shaper 2 that neither sends nor is held. -/
structure Pkg.Rises (s : Pkg) (t n q : Nat) : Prop where
  rate : s.get t (fRate n q) ≠ 0
  still : s.sending t n q = false
  shaped : s.get t (fShaper n q) = 1 ∨ (s.get t (fShaper n q) = 2 ∧ s.gateBit t n q = true ∧ s.pausedQ t n q = false ∧ s.heldQ t n q = false)

theorem Pkg.Rises.congr {p q : Pkg} {t n c : Nat} (h : p.Rises t n c) (hw : ∀ d f, q.get d f = p.get d f) (hs : q.sw.ports = p.sw.ports) : q.Rises t n c := by
  obtain ⟨hrate, hstill, hshaped⟩ := h
  have hport : q.port t n = p.port t n := by rw [Pkg.port, hs]; rfl
  have hgate : q.gateBit t n c = p.gateBit t n c := by rw [Pkg.gateBit, hw]; rfl
  have hpaused : q.pausedQ t n c = p.pausedQ t n c := by rw [Pkg.pausedQ, hw]; rfl
  have hheld : q.heldQ t n c = p.heldQ t n c := by simp only [Pkg.heldQ, Pkg.on, Pkg.preemptable, Pkg.mmActive, hw]
  refine ⟨by rwa [hw], ?_, ?_⟩
  · rw [Pkg.sending, hport]; exact hstill
  · rwa [hw, hgate, hpaused, hheld]

/-- Credit that has grown long enough is not negative. -/
theorem Pkg.creditNow_nonneg {p : Pkg} {t n c : Nat} (h : p.Rises t n c)
    (hgrown : 0 ≤ (p.qst t n c).credit + ((p.now - (p.qst t n c).credAt : Nat) : Int) * (p.get t (fRate n c) : Int)) : 0 ≤ p.creditNow t n c := by
  obtain ⟨hrate, hstill, hone | ⟨htwo, hgate, hpaused, hheld⟩⟩ := h
  · have hburst (b u : Nat) : (0 : Int) ≤ (b : Int) * u := Int.mul_nonneg (Int.natCast_nonneg b) (Int.natCast_nonneg u)
    simp only [Pkg.creditNow, hone, Int.natCast_eq_zero, hrate, if_false]
    rw [le_min_iff]
    exact ⟨hgrown, hburst _ _⟩
  · simp only [Pkg.creditNow, htwo, Int.natCast_eq_zero, hrate, hstill, hgate, hpaused, hheld, Bool.not_true, Bool.or_self, Bool.false_eq_true, if_false]
    split
    · split
      · exact le_min le_rfl hgrown
      · omega
    · exact hgrown

theorem le_ceilDiv_mul (a : Nat) {b : Nat} (h : b ≠ 0) : a ≤ ceilDiv a b * b := by
  have hdiv := Nat.div_add_mod (a + b - 1) b
  have hlt := Nat.mod_lt (a + b - 1) (Nat.pos_of_ne_zero h)
  rw [ceilDiv, if_neg h, Nat.mul_comm]
  omega

theorem Pkg.settleQ_qst (s : Pkg) (t n q : Nat) : (s.settleQ t n q).qst t n q = { s.qst t n q with credit := s.creditNow t n q, credAt := s.now } :=
  SMap.get_set_same _ _ _ _

/-- From a credit that is not negative the queue's credit is not negative. -/
theorem Pkg.creditNow_nonneg_of_credit {p : Pkg} {t n c : Nat} (h : p.Rises t n c) (hc : 0 ≤ (p.qst t n c).credit) : 0 ≤ p.creditNow t n c :=
  creditNow_nonneg h (Int.add_nonneg hc (Int.mul_nonneg (Int.natCast_nonneg _) (Int.natCast_nonneg _)))

/-- The package when the credit of a queue has risen back to 0 (R145). -/
def Pkg.creditRisen (s : Pkg) (t n q : Nat) : Pkg :=
  let m := s.settleQ t n q
  m.reachFrac (m.now + ceilDiv (-(m.qst t n q).credit).toNat (s.get t (fRate n q)))

theorem Pkg.creditRisen_nonneg {p : Pkg} {t n c : Nat} (h : p.Rises t n c) : 0 ≤ (p.creditRisen t n c).creditNow t n c := by
  refine creditNow_nonneg (h.congr (fun _ _ => rfl) rfl) ?_
  have hqst : (p.creditRisen t n c).qst t n c = (p.settleQ t n c).qst t n c := rfl
  have hrate : (p.creditRisen t n c).get t (fRate n c) = p.get t (fRate n c) := rfl
  have hnow : (p.creditRisen t n c).now = p.now + ceilDiv (-p.creditNow t n c).toNat (p.get t (fRate n c)) := by
    have hm : (p.creditRisen t n c).now = max p.now (p.now + ceilDiv (-((p.settleQ t n c).qst t n c).credit).toNat (p.get t (fRate n c))) := rfl
    rw [hm, Pkg.settleQ_qst, Nat.max_eq_right (Nat.le_add_right _ _)]
  rw [hrate, hnow, hqst, Pkg.settleQ_qst, Nat.add_sub_cancel_left]
  have hwait := le_ceilDiv_mul (-p.creditNow t n c).toNat h.rate
  have hint : ((-p.creditNow t n c).toNat : Int) ≤ (ceilDiv (-p.creditNow t n c).toNat (p.get t (fRate n c)) : Int) * (p.get t (fRate n c) : Int) := by
    exact_mod_cast hwait
  dsimp only
  omega

/-- A queue whose credit is not negative passes the shaper at the end of the step. -/
theorem State.finish_shaperOk {u : State} {t n c : Nat} (h : u.pkg.Rises t n c) (hc : 0 ≤ (u.pkg.qst t n c).credit) :
    u.finish.pkg.shaperOk t n c = true := by
  have hqst : u.finish.pkg.qst t n c = u.pkg.qst t n c := by rw [Pkg.qst, State.finish_pkg_sw]; rfl
  have hend : u.finish.pkg.Rises t n c := h.congr (State.finish_pkg_get u) (congrArg SwitchSt.ports (State.finish_pkg_sw u))
  rw [Pkg.shaperOk, decide_eq_true (Pkg.creditNow_nonneg_of_credit hend (by rwa [hqst])), Bool.or_true]

theorem shaperEligible_passes {s : State} {tile port queue : Nat} (hin : s.pkg.inService tile = true) (hp : s.pkg.hasPort tile port = true)
    (hneg : s.pkg.creditNow tile port queue < 0) (h : s.pkg.Rises tile port queue) :
    Runs (.shaperEligible tile port queue) s (fun t => t.pkg.shaperOk tile port queue = true ∧ Frame s t [] []) := by
  have hshaper : s.pkg.get tile (fShaper port queue) ≠ 0 := by
    rcases h.shaped with hone | ⟨htwo, -⟩ <;> omega
  have heff : shaperEligible tile port queue s.pkg = (s.pkg.creditRisen tile port queue).settleQ tile port queue :=
    Pkg.when_pos _ _ (by simp [hin, hp, hshaper, h.rate, hneg, h.still])
  refine runs_becomes rfl heff ⟨State.finish_shaperOk ?_ ?_, (Touches.refl s.pkg [] []).settleQ.reachFrac.settleQ.finishes⟩
  · exact h.congr (fun _ _ => rfl) rfl
  · rw [State.map_pkg, Pkg.settleQ_qst]
    exact Pkg.creditRisen_nonneg h

/-- Settles O22: a spill is one write to overflow memory and one reference that goes, a readback moves its copy or drops it, and a credit that has risen for the
ceiling of its lack over the rate is not negative. -/
theorem overflowHoldAndShapers : Obligations.OverflowHoldAndShapers := by
  unfold Obligations.OverflowHoldAndShapers
  refine ⟨fun tile port queue at_ c s _ _ _ hon hw => ⟨?_, fun hfirst hbuf => ⟨?_, ?_⟩⟩, fun tile id c s => mcHoldExpire_drops,
    fun tile port queue s hin hp hrate hneg hstill hshaped => shaperEligible_passes hin hp hneg ⟨hrate, hstill, hshaped⟩⟩
  · exact spillWriteDone_spills hon hw
  · exact overflowReadback_returns (overflowReadback_eq hon hfirst hbuf true) hw
  · exact overflowReadback_loses (overflowReadback_eq hon hfirst hbuf false) hw

end Sys2Proof.Machine
end

section
/-! PROOFS. Links, merge verification and gate entries (R135, R148, R152, R159): what O23 asks. -/
namespace Sys2Proof.Machine

/-! ### The link goes down (R135) -/

section
variable {p q : Pkg} {t n c : Nat}

/-- A port without link: nothing in transmission and nothing preempted. -/
structure Pkg.Dark (s : Pkg) (t n : Nat) : Prop where
  link : s.on t (fLinkUp n) = false
  tx   : (s.port t n).tx = none
  susp : (s.port t n).susp = none

theorem fLinkUp_status (n : Nat) : StatusFld n (fLinkUp n) := ⟨rfl, .inl (show 0 < 16 by decide)⟩

theorem Frees.dark (hf : Frees p q) (ht : t < 7) (hn : n < 28) (h : p.Dark t n) : q.Dark t n := by
  obtain ⟨hlink, htx, hsusp⟩ := h
  exact ⟨by rw [Pkg.on, hf.status t n _ ht hn (fLinkUp_status n)]; exact hlink, (hf.tx t n).trans htx, (hf.susp t n).trans hsusp⟩

/-- What a port with its link down has discarded goes back. -/
theorem Pkg.cutOff_frees (s : Pkg) (t n : Nat) :
    Frees (s.setPort t n { s.port t n with tx := none, susp := none, control := [] }) (s.cutOff t n) := by
  have hgo {r : Pkg} {x : Tx} (h : Frees (s.setPort t n { s.port t n with tx := none, susp := none, control := [] }) r) :
      Frees (s.setPort t n { s.port t n with tx := none, susp := none, control := [] }) ((r.discard t 18 n).freeCopy x.copy) :=
    (h.discard (by decide)).freeCopy
  unfold Pkg.cutOff
  dsimp only
  split <;> split
  · exact hgo (hgo (.refl _))
  · exact hgo (.refl _)
  · exact hgo (.refl _)
  · exact .refl _

theorem Pkg.cutOff_dark (s : Pkg) (ht : t < 7) (hn : n < 28) (hlink : s.on t (fLinkUp n) = false) : (s.cutOff t n).Dark t n := by
  refine (s.cutOff_frees t n).dark ht hn ⟨hlink, ?_, ?_⟩ <;> rw [Pkg.port_setPort_same]

/-- A queue of a port without link is flushed. -/
def Pkg.flushDark (s : Pkg) (t n c : Nat) : Pkg := (s.flushQueue t n c 18).emptyCredit t n c

theorem Pkg.flushDark_frees (s : Pkg) (t n c : Nat) : Frees (s.setQueue t n c []) (s.flushDark t n c) := (Frees.flushQueue t n c s (by decide)).emptyCredit

theorem Pkg.Dark.flushDark (h : p.Dark t n) (ht : t < 7) (hn : n < 28) (c : Nat) : (p.flushDark t n c).Dark t n :=
  (p.flushDark_frees t n c).dark ht hn ⟨h.link, h.tx, h.susp⟩

theorem Pkg.queue_setQueue_nil (s : Pkg) (t n c c' : Nat) (h : c' = c ∨ s.queue t n c' = []) : (s.setQueue t n c []).queue t n c' = [] := by
  have hset : (s.setQueue t n c []).queue t n c' = if qKey t n c' = qKey t n c then [] else s.queue t n c' :=
    SMap.get_set ([] : List Copy) s.sw.queues (qKey t n c) (qKey t n c') []
  rw [hset]
  split
  · rfl
  · next hk => exact h.resolve_left fun he => hk (by rw [he])

/-- A flush empties its queue and leaves an empty one empty. -/
theorem Pkg.queue_flushDark (s : Pkg) (t n c c' : Nat) (h : c' = c ∨ s.queue t n c' = []) : (s.flushDark t n c).queue t n c' = [] := by
  rw [(s.flushDark_frees t n c).queue]
  exact s.queue_setQueue_nil t n c c' h

/-- After the flushes of some queues these are empty, and those that were. -/
theorem Pkg.queues_flushDark (l : List Nat) (s : Pkg) (c' : Nat) (h : c' ∈ l ∨ s.queue t n c' = []) :
    (l.foldl (fun s c => s.flushDark t n c) s).queue t n c' = [] := by
  induction l generalizing s with
  | nil => exact h.resolve_left List.not_mem_nil
  | cons c l ih =>
    refine ih _ ?_
    rcases h with hm | he
    · rcases List.mem_cons.1 hm with heq | hm
      · exact .inr (s.queue_flushDark t n c c' (.inl heq))
      · exact .inl hm
    · exact .inr (s.queue_flushDark t n c c' (.inr he))

/-- The port's eight queues are flushed with what is in transmission. -/
def Pkg.darken (s : Pkg) (t n : Nat) : Pkg := (List.range 8).foldl (fun s c => s.flushDark t n c) (s.cutOff t n)

theorem Pkg.darken_dark (s : Pkg) (ht : t < 7) (hn : n < 28) (hlink : s.on t (fLinkUp n) = false) : (s.darken t n).Dark t n :=
  List.foldlRecOn (motive := fun s => Pkg.Dark s t n) _ _ (s.cutOff_dark ht hn hlink) fun _ h c _ => h.flushDark ht hn c

theorem Pkg.darken_queue (s : Pkg) (t n : Nat) {c : Nat} (hc : c < 8) : (s.darken t n).queue t n c = [] :=
  queues_flushDark _ _ _ (.inl (List.mem_range.2 hc))

theorem Background.darken (h : Background p q) : Background p (q.darken t n) := h.cutOff.foldl fun s _ => (refl s).flushQueue.emptyCredit

theorem Background.dropAssembly (h : Background p q) : Background p (q.dropAssembly t n) := by
  unfold Pkg.dropAssembly; split
  · exact h.add.setPort
  · exact h

/-! ### The merge sublayer of a port (R152) -/

theorem Touches.settlePort {W C : List Nat} (h : Touches p q W C) : Touches p (q.settlePort t n) W C := h.foldl fun _ _ _ h => h.settleQ

/-- The merge sublayer rests: neither active nor verified. -/
def Pkg.mergeOff (s : Pkg) (t n : Nat) : Pkg := ((s.settlePort t n).put t (fMmActive n) 0).put t (fVerify n) 0

theorem Pkg.mergeStart_dark (hm : macPort t n = true) (h : p.on t (fLinkUp n) = false) : p.mergeStart t n = p.mergeOff t n := by
  have hup : p.linkUp t n = false := by rw [Pkg.linkUp, hm, h]; rfl
  rw [Pkg.mergeStart, hup, Bool.and_false]
  rfl

theorem Pkg.mergeOff_sw (s : Pkg) (t n : Nat) : (s.mergeOff t n).sw = (s.settlePort t n).sw := (rfl)
theorem Pkg.mergeOff_verify (s : Pkg) (t n : Nat) : (s.mergeOff t n).get t (fVerify n) = 0 := Pkg.get_put_same _ _ _ _ (show 21 < 32 by decide)
theorem Pkg.mergeOff_active (s : Pkg) (t n : Nat) : (s.mergeOff t n).on t (fMmActive n) = false := by
  rw [Pkg.mergeOff, Pkg.on_put_apart _ _ (.inr (.inr (show 19 < 20 by decide))), Pkg.on_put_same _ _ _ _ (show 19 < 32 by decide)]; rfl

/-- The words of the merge sublayer are not the port's status. -/
theorem fLinkUp_off (n n' : Nat) : (fLinkUp n).off ≠ (fVerify n').off := by simp only [fLinkUp, portFld, fVerify, tsPort]; omega

/-- And so the rest of the merge sublayer leaves the link. -/
theorem Pkg.mergeOff_link (s : Pkg) (t n : Nat) : (s.mergeOff t n).on t (fLinkUp n) = s.on t (fLinkUp n) := by
  rw [Pkg.mergeOff, Pkg.on_put_apart _ _ (.inl (fLinkUp_off n n)), Pkg.on_put_apart _ _ (.inl (show (fLinkUp n).off ≠ (fMmActive n).off from fLinkUp_off n n))]
  exact congrArg (· != 0) (((Touches.refl s [] []).settlePort).get_eq t (fLinkUp n))

end

section
variable {s : State} {tile port at_ : Nat}

/-- The package when a link has gone down: the port is flushed, then its merge sublayer rests. -/
def Pkg.linkLost (s : Pkg) (t n : Nat) : Pkg := ((((s.dropAssembly t n).settlePort t n).put t (fLinkUp n) 0).darken t n)

theorem Pkg.linkLost_dark (p : Pkg) (ht : tile < 7) (hn : port < 28) : (p.linkLost tile port).Dark tile port := by
  refine Pkg.darken_dark _ ht hn ?_
  rw [Pkg.on_put_same _ _ _ _ (show 0 < 32 by decide)]
  rfl

theorem Background.linkLost {p q : Pkg} {t n : Nat} (h : Background p q) : Background p (q.linkLost t n) :=
  ((h.dropAssembly.settlePort t n).put (quiet_of_mod (by simp only [fLinkUp, portFld]; omega))).darken

theorem linkDown_darkens (ht : tile < 7) (hn : port < 28) (hon : s.pkg.tileOn tile = true) (hm : macPort tile port = true)
    (hp : s.pkg.hasPort tile port = true) (hl : s.pkg.on tile (fLinkUp port) = true) (hw : s.noEthWaits) : Runs (.linkDown tile port at_) s (fun t =>
      t.pkg.on tile (fLinkUp port) = false ∧ (t.pkg.port tile port).tx = none ∧ (t.pkg.port tile port).susp = none ∧
      (∀ q < 8, t.pkg.queue tile port q = []) ∧ t.pkg.get tile (fVerify port) = 0 ∧ t.pkg.on tile (fMmActive port) = false) := by
  have hdark := (s.pkg.reach at_).linkLost_dark ht hn
  have heff : linkDown tile port at_ s.pkg = (((s.pkg.reach at_).linkLost tile port).mergeOff tile port).put tile (fVerify port) 0 := by
    rw [← Pkg.mergeStart_dark hm hdark.link]
    exact Pkg.when_pos _ _ (by rw [hon, hm, hp, hl]; rfl)
  obtain ⟨-, htx, hsusp⟩ := ((Frees.refl _).settlePort (t := tile) (n := port)).dark ht hn hdark
  refine runs_rests rfl heff ?_ hw ⟨?_, ?_, ?_, fun q hq => ?_, ?_, ?_⟩
  · exact (((Background.refl _).reach.linkLost.settlePort tile port).tsWord (by decide)).tsWord (by decide) |>.tsWord (by decide)
  · rw [State.restsAt_on, Pkg.on_put_apart _ _ (.inl (fLinkUp_off _ _)), Pkg.mergeOff_link, hdark.link]
  · rw [Pkg.port, State.restsAt_sw, Pkg.put_sw, Pkg.mergeOff_sw]; exact htx
  · rw [Pkg.port, State.restsAt_sw, Pkg.put_sw, Pkg.mergeOff_sw]; exact hsusp
  · rw [Pkg.queue, State.restsAt_sw, Pkg.put_sw, Pkg.mergeOff_sw, (Frees.refl _).settlePort.queues]
    exact Pkg.darken_queue _ _ _ hq
  · rw [State.restsAt_get]
    exact Pkg.get_put_same _ _ _ _ (show 21 < 32 by decide)
  · rw [State.restsAt_on, Pkg.on_put_apart _ _ (.inr (.inr (show 19 < 20 by decide))), Pkg.mergeOff_active]

/-! ### The link comes up (R135) -/

/-- The port has its link, before the merge sublayer starts. -/
def Pkg.linkFound (s : Pkg) (t n mbps : Nat) : Pkg :=
  let m := (s.settlePort t n).put t (fLinkUp n) 1
  if m.get t (fPortMode n) = 1 then m.setPort t n { m.port t n with mbps := if mbps = 100 then 100 else 1000 } else m

theorem Touches.mergeStart {p q : Pkg} {W C : List Nat} {t n : Nat} (h : Touches p q W C) (hm : pkgAddr t (fVerify n).off ∈ W) :
    Touches p (q.mergeStart t n) W C := by
  have hactive : pkgAddr t (fMmActive n).off ∈ W := hm
  have hput {v w : Nat} : Touches p (((q.settlePort t n).put t (fMmActive n) v).put t (fVerify n) w) W C := (h.settlePort.put hactive).put hm
  exact hput.ite (hput.ite (hput.setPort.ite h.settlePort))

theorem Pkg.settlePort_port (p : Pkg) (t n d m : Nat) : (p.settlePort t n).port d m = p.port d m :=
  List.foldlRecOn (motive := fun x => Pkg.port x d m = p.port d m) _ _ rfl fun _ h _ _ => h

theorem Pkg.put_port (p : Pkg) (d : Nat) (f : Fld) (v t n : Nat) : (p.put d f v).port t n = p.port t n := (rfl)

theorem Pkg.mergeStart_mbps (p : Pkg) (t n : Nat) : ((p.mergeStart t n).port t n).mbps = (p.port t n).mbps := by
  unfold Pkg.mergeStart
  dsimp only
  split
  · rw [Pkg.put_port, Pkg.put_port, Pkg.settlePort_port]
  · split
    · rw [Pkg.put_port, Pkg.put_port, Pkg.settlePort_port]
    · split
      · have hmbps : ((p.settlePort t n).port t n).mbps = (p.port t n).mbps := by rw [Pkg.settlePort_port]
        rw [Pkg.port_setPort_same]
        exact hmbps
      · rw [Pkg.settlePort_port]

theorem Pkg.setPort_on (p : Pkg) (t n : Nat) (x : PortSt) (d : Nat) (f : Fld) : (p.setPort t n x).on d f = p.on d f := (rfl)

theorem Pkg.linkFound_link (p : Pkg) (t n mbps : Nat) : (p.linkFound t n mbps).on t (fLinkUp n) = true := by
  have hput : ((p.settlePort t n).put t (fLinkUp n) 1).on t (fLinkUp n) = true := by rw [Pkg.on_put_same _ _ _ _ (show 0 < 32 by decide)]; rfl
  unfold Pkg.linkFound
  dsimp only
  split
  · rw [Pkg.setPort_on, hput]
  · exact hput

theorem Pkg.linkFound_mbps (p : Pkg) (t n mbps : Nat) (h : p.get t (fPortMode n) = 1) :
    ((p.linkFound t n mbps).port t n).mbps = if mbps = 100 then 100 else 1000 := by
  have hmode : ((p.settlePort t n).put t (fLinkUp n) 1).get t (fPortMode n) = 1 := by
    rw [Pkg.get_put_off _ _ (by simp only [fPortMode, fLinkUp, portFld]; omega), ((Touches.refl p [] []).settlePort).get_eq, h]
  rw [Pkg.linkFound, if_pos hmode, Pkg.port_setPort_same]

theorem Touches.linkFound {p q : Pkg} {W C : List Nat} {t n mbps : Nat} (h : Touches p q W C) (hm : pkgAddr t (fLinkUp n).off ∈ W) :
    Touches p (q.linkFound t n mbps) W C := (h.settlePort.put hm).setPort.ite (h.settlePort.put hm)

theorem linkUp_lights (hon : s.pkg.tileOn tile = true) (hm : macPort tile port = true) (hp : s.pkg.hasPort tile port = true) (mbps : Nat)
    (hl : s.pkg.on tile (fLinkUp port) = false) : Runs (.linkUp tile port mbps at_) s (fun t =>
      t.pkg.on tile (fLinkUp port) = true ∧
      (s.pkg.get tile (fPortMode port) = 1 → (t.pkg.port tile port).mbps = if mbps = 100 then 100 else 1000) ∧
      Frame s t [pkgAddr tile (fLinkUp port).off, pkgAddr tile (fVerify port).off] []) := by
  have heff : linkUp tile port mbps at_ s.pkg = ((s.pkg.reach at_).linkFound tile port mbps).mergeStart tile port :=
    Pkg.when_pos _ _ (by rw [hon, hm, hp, hl]; rfl)
  refine runs_becomes rfl heff ⟨?_, fun hmode => ?_, ?_⟩
  · have hword : pkgAddr tile (fLinkUp port).off ∉ [pkgAddr tile (fVerify port).off] := by
      simp only [pkgAddr, fLinkUp, portFld, fVerify, tsPort, List.mem_singleton]; omega
    rw [State.finish_pkg_on, State.map_pkg, Pkg.on, Pkg.get, ((Touches.refl _ _ []).mergeStart (List.mem_singleton.2 rfl)).words _ _ hword]
    exact Pkg.linkFound_link _ _ _ _
  · rw [State.finish_port, State.map_pkg, Pkg.mergeStart_mbps]
    exact Pkg.linkFound_mbps _ _ _ _ hmode
  · exact (((Touches.refl s.pkg _ _).reach.linkFound (by simp)).mergeStart (by simp)).finishes

/-! ### A verification attempt ends (R152) -/

/-- The peer has answered: the merge is verified and active. -/
def Pkg.verified (s : Pkg) (t n : Nat) : Pkg := ((s.settlePort t n).put t (fVerify n) 2).put t (fMmActive n) 1

/-- One attempt more has failed. -/
def Pkg.attempted (s : Pkg) (t n : Nat) : Pkg := s.setPort t n { s.port t n with attempts := (s.port t n).attempts + 1, triedAt := s.now }

theorem mergeVerify_eq (hn : port < 16) (hin : s.pkg.inService tile = true) (hp : s.pkg.hasPort tile port = true) (hl : s.pkg.linkUp tile port = true)
    (hen : s.pkg.on tile (fMergeEn port) = true) (hdis : s.pkg.on tile (fVerifyDis port) = false) (hv : s.pkg.get tile (fVerify port) = 1)
    (hdue : (s.pkg.port tile port).attempts = 0 ∨ (s.pkg.port tile port).triedAt + ns 10000000 ≤ max s.pkg.now (ns at_)) (ok : Bool) :
    mergeVerify tile port ok at_ s.pkg = if ok then (s.pkg.reach at_).verified tile port
      else if 3 ≤ (s.pkg.port tile port).attempts + 1 then ((s.pkg.reach at_).attempted tile port).put tile (fVerify port) 3
      else (s.pkg.reach at_).attempted tile port := by
  have hdue' : ((s.pkg.port tile port).attempts == 0 || decide ((s.pkg.port tile port).triedAt + ns (ms 10) ≤ (s.pkg.reach at_).now)) = true := by
    rw [Bool.or_eq_true, beq_iff_eq, decide_eq_true_eq]
    exact hdue
  exact Pkg.when_pos _ _ (by rw [hin, hp, hl, hen, hdis, hv, decide_eq_true hn, hdue']; rfl)

theorem mergeVerify_answered (heff : mergeVerify tile port true at_ s.pkg = (s.pkg.reach at_).verified tile port) :
    Runs (.mergeVerify tile port true at_) s (fun t =>
      (t.pkg.get tile (fVerify port) = 2 ∧ t.pkg.on tile (fMmActive port) = true) ∧ Frame s t [pkgAddr tile (fVerify port).off] []) := by
  have hactive : pkgAddr tile (fMmActive port).off ∈ [pkgAddr tile (fVerify port).off] := List.mem_singleton.2 rfl
  refine runs_becomes rfl heff ⟨⟨?_, ?_⟩, ?_⟩
  · rw [State.finish_pkg_get, State.map_pkg, Pkg.verified, Pkg.get_put_beside (f := fMmActive port) (f' := fVerify port) _ _ rfl (.inl (show 19 < 20 by decide)),
      Pkg.get_put_same _ _ _ _ (show 21 < 32 by decide)]
    rfl
  · rw [State.finish_pkg_on, State.map_pkg, Pkg.verified, Pkg.on_put_same _ _ _ _ (show 19 < 32 by decide)]
    rfl
  · exact (((Touches.refl s.pkg _ _).reach.settlePort.put (List.mem_singleton.2 rfl)).put hactive).finishes

theorem Pkg.attempted_count (p : Pkg) (t n : Nat) : ((p.attempted t n).port t n).attempts = (p.port t n).attempts + 1 := by
  rw [Pkg.attempted, Pkg.port_setPort_same]

theorem Pkg.attempted_get (p : Pkg) (t n d : Nat) (f : Fld) : (p.attempted t n).get d f = p.get d f := (rfl)

theorem mergeVerify_fails (hv : s.pkg.get tile (fVerify port) = 1)
    (heff : mergeVerify tile port false at_ s.pkg = if 3 ≤ (s.pkg.port tile port).attempts + 1
      then ((s.pkg.reach at_).attempted tile port).put tile (fVerify port) 3 else (s.pkg.reach at_).attempted tile port) :
    Runs (.mergeVerify tile port false at_) s (fun t =>
      ((t.pkg.port tile port).attempts = (s.pkg.port tile port).attempts + 1 ∧
        t.pkg.get tile (fVerify port) = if (s.pkg.port tile port).attempts < 2 then 1 else 3) ∧ Frame s t [pkgAddr tile (fVerify port).off] []) := by
  have htouch : Touches s.pkg ((s.pkg.reach at_).attempted tile port) [pkgAddr tile (fVerify port).off] [] := (Touches.refl s.pkg _ _).reach.setPort
  by_cases hthird : 3 ≤ (s.pkg.port tile port).attempts + 1
  · rw [if_pos hthird] at heff
    refine runs_becomes rfl heff ⟨⟨?_, ?_⟩, (htouch.put (List.mem_singleton.2 rfl)).finishes⟩
    · rw [State.finish_port, State.map_pkg, Pkg.put_port, Pkg.attempted_count]
      rfl
    · rw [State.finish_pkg_get, State.map_pkg, Pkg.get_put_same _ _ _ _ (show 21 < 32 by decide), if_neg (by omega)]
      rfl
  · rw [if_neg hthird] at heff
    refine runs_becomes rfl heff ⟨⟨?_, ?_⟩, htouch.finishes⟩
    · rw [State.finish_port, State.map_pkg, Pkg.attempted_count]
      rfl
    · rw [State.finish_pkg_get, State.map_pkg, Pkg.attempted_get, if_pos (by omega)]
      exact hv

/-! ### An entry of a gate control list starts (R148, R154) -/

/-- The gates of an entry, its number and its hold. -/
def Pkg.gatesSet (s : Pkg) (t n gates entry : Nat) (hold : Bool) : Pkg :=
  (((s.settlePort t n).put t (fGates n) gates).put t (fGclEntry n) entry).put t (fHold n) (bit hold)

/-- What the new gates mean for the frame in transmission and for the timers of the queues. -/
def Pkg.gatesTaken (s : Pkg) (t n : Nat) : Pkg := (List.range 8).foldl (fun s q => s.wdUpdate t n q) (s.cutFragment t n)

/-- The gates of a port, the number of its entry and its hold are one word. -/
theorem fGates_off (n : Nat) : (fGates n).off = (fHold n).off := by simp only [fGates, fHold, tsPort]; omega

theorem Touches.gatesSet {p q : Pkg} {W C : List Nat} {t n gates entry : Nat} {hold : Bool} (h : Touches p q W C) (hm : pkgAddr t (fGates n).off ∈ W) :
    Touches p (q.gatesSet t n gates entry hold) W C := by
  have hhold : pkgAddr t (fHold n).off ∈ W := fGates_off n ▸ hm
  have hentry : pkgAddr t (fGclEntry n).off ∈ W := hhold
  exact ((h.settlePort.put hm).put hentry).put hhold

theorem Touches.flushControl {p q : Pkg} {W C : List Nat} {t n : Nat} (h : Touches p q W C) (hm : pkgAddr t (oPauseTx n) ∈ C) :
    Touches p (q.flushControl t n) W C := h.ite (h.setPort.foldl fun _ _ _ h => h.emit.bump hm)

theorem Touches.cutFragment {p q : Pkg} {W C : List Nat} {t n : Nat} (h : Touches p q W C) (hf : pkgAddr t (oFragTx n) ∈ C)
    (ho : pkgAddr t (oHoldOverrun n) ∈ C) (hp : pkgAddr t (oPauseTx n) ∈ C) : Touches p (q.cutFragment t n) W C := by
  unfold Pkg.cutFragment
  split
  · next x _ =>
    refine h.ite ?_
    unfold Pkg.splitTx
    dsimp only
    split
    · exact h.ite (h.bump ho).setPort
    · exact (h.settlePort.setPort.bump hf).flushControl hp
  · exact h

theorem Touches.gatesTaken {p q : Pkg} {W C : List Nat} {t n : Nat} (h : Touches p q W C) (hf : pkgAddr t (oFragTx n) ∈ C)
    (ho : pkgAddr t (oHoldOverrun n) ∈ C) (hp : pkgAddr t (oPauseTx n) ∈ C) : Touches p (q.gatesTaken t n) W C :=
  (h.cutFragment hf ho hp).foldl fun _ _ _ h => h.wdUpdate

section
variable (p : Pkg) (t n gates entry : Nat) (hold : Bool)

theorem Pkg.gatesTaken_get (d : Nat) (f : Fld) : (p.gatesTaken t n).get d f = p.get d f :=
  (((Touches.refl p [] [pkgAddr t (oFragTx n), pkgAddr t (oHoldOverrun n), pkgAddr t (oPauseTx n)]).gatesTaken (by simp) (by simp) (by simp))).get_eq d f

theorem Pkg.gatesSet_gates : (p.gatesSet t n gates entry hold).get t (fGates n) = gates % 256 := by
  rw [Pkg.gatesSet, Pkg.get_put_beside (f := fHold n) (f' := fGates n) _ _ (fGates_off n) (.inr (show 7 < 18 by decide)),
    Pkg.get_put_beside (f := fGclEntry n) (f' := fGates n) _ _ (fGates_off n) (.inr (show 7 < 8 by decide)), Pkg.get_put_same _ _ _ _ (show 7 < 32 by decide)]
  rfl

theorem Pkg.gatesSet_entry : (p.gatesSet t n gates entry hold).get t (fGclEntry n) = entry % 1024 := by
  rw [Pkg.gatesSet, Pkg.get_put_beside (f := fHold n) (f' := fGclEntry n) _ _ rfl (.inr (show 17 < 18 by decide)),
    Pkg.get_put_same _ _ _ _ (show 17 < 32 by decide)]
  rfl

theorem Pkg.gatesSet_hold : (p.gatesSet t n gates entry hold).on t (fHold n) = hold := by
  rw [Pkg.gatesSet, Pkg.on_put_same _ _ _ _ (show 18 < 32 by decide)]
  cases hold <;> rfl

theorem Pkg.gatesSet_windowFresh (c : Nat) : (p.gatesSet t n gates entry hold).windowFresh t c = p.windowFresh t c := by
  have hword : pkgAddr t 0xC00000 ∉ [pkgAddr t (fGates n).off] := by simp only [pkgAddr, fGates, List.mem_singleton]; omega
  rw [Pkg.windowFresh, Pkg.classType, Pkg.get, ((Touches.refl p _ []).gatesSet (List.mem_singleton.2 rfl)).words _ _ hword]
  rfl

/-- Where no class is WINDOW-FRESH no window closes on a frame. -/
theorem Pkg.applyGates_eq (h : ∀ c < 8, p.windowFresh t c = false) : p.applyGates t n gates entry hold true = (p.gatesSet t n gates entry hold).gatesTaken t n := by
  refine congrArg (Pkg.gatesTaken · t n) (foldl_eq_self fun c hc => if_neg ?_)
  have hfresh : (p.gatesSet t n gates entry hold).windowFresh t c = false := (p.gatesSet_windowFresh t n gates entry hold c).trans (h c (List.mem_range.1 hc))
  have hset : ((((p.settlePort t n).put t (fGates n) gates).put t (fGclEntry n) entry).put t (fHold n) (bit hold)).windowFresh t c = false := hfresh
  rw [hset]
  simp

end

theorem gclEntryStart_applies {x : GateSpan} (hn : port < 16) (hin : s.pkg.inService tile = true) (hp : s.pkg.hasPort tile port = true)
    (hen : s.pkg.on tile (fGateEn port) = true) (hx : ((s.pkg.reach at_).gateList tile port).now ((s.pkg.reach at_).count tile) = some x)
    (hfresh : ∀ q < 8, s.pkg.windowFresh tile q = false) :
    Runs (.gclEntryStart tile port at_) s (fun t =>
      t.pkg.get tile (fGates port) = x.gates % 256 ∧ t.pkg.get tile (fGclEntry port) = x.idx % 1024 ∧
      t.pkg.on tile (fHold port) = (if x.op = 1 then true else if x.op = 2 then false else s.pkg.on tile (fHold port)) ∧
      Frame s t [pkgAddr tile (fGates port).off] [pkgAddr tile (oFragTx port), pkgAddr tile (oHoldOverrun port), pkgAddr tile (oPauseTx port)]) := by
  have heff : gclEntryStart tile port at_ s.pkg = ((s.pkg.reach at_).gatesSet tile port x.gates x.idx
      (if x.op = 1 then true else if x.op = 2 then false else s.pkg.on tile (fHold port))).gatesTaken tile port := by
    rw [← Pkg.applyGates_eq (s.pkg.reach at_) tile port x.gates x.idx _ hfresh]
    refine (Pkg.when_pos _ _ (by rw [hin, hp, hen, decide_eq_true hn]; rfl)).trans ?_
    dsimp only
    rw [hx]
    rfl
  refine runs_becomes rfl heff ⟨?_, ?_, ?_, ?_⟩
  · rw [State.finish_pkg_get, State.map_pkg, Pkg.gatesTaken_get, Pkg.gatesSet_gates]
  · rw [State.finish_pkg_get, State.map_pkg, Pkg.gatesTaken_get, Pkg.gatesSet_entry]
  · rw [State.finish_pkg_on, State.map_pkg, Pkg.on, Pkg.gatesTaken_get]
    exact Pkg.gatesSet_hold _ _ _ _ _ _
  · exact (((Touches.refl s.pkg _ _).reach.gatesSet (by simp)).gatesTaken (by simp) (by simp) (by simp)).finishes

/-! ### An entry of a stream gate starts (R159) -/

theorem streamGateEntry_waits {gate : Nat} (hin : s.pkg.inService tile = true) (hg : gate < 64) (hon : fieldGet (s.pkg.sgHead tile gate 0) 31 31 = 1) :
    Runs (.streamGateEntry tile gate at_) s (fun t => t.pkg.now = max s.pkg.now (ns at_) ∧ t.pkg.hidden = s.pkg.hidden ∧ Frame s t [] []) := by
  have heff : streamGateEntry tile gate at_ s.pkg = s.pkg.reach at_ := if_pos ⟨hin, hg, hon⟩
  refine runs_becomes rfl heff ⟨?_, ?_, (Touches.refl s.pkg [] []).reach.finishes⟩
  · rw [State.finish_pkg_now]
    rfl
  · rw [State.finish_hidden]
    rfl

end

/-- Settles O23: a link that goes down leaves its port dark through all that is flushed, a link that comes up and a verification write the port's two status
words alone, and an entry's gates, number and hold are one word that the cut of a fragment leaves. -/
theorem linksAndGates : Obligations.LinksAndGates := by
  unfold Obligations.LinksAndGates
  refine ⟨fun tile port at_ s ht hn hon hm hp => ⟨fun hl hw => ?_, fun mbps hl => ?_⟩,
    fun tile port at_ ok s _ hn hin hp hl hen hdis hv hdue => ?_, fun tile port at_ x s _ hn hin hp hen hx hfresh => ?_,
    fun tile gate at_ s hin hg hopen => ?_⟩
  · exact linkDown_darkens ht hn hon hm hp hl hw
  · exact linkUp_lights hon hm hp mbps hl
  · have heff := mergeVerify_eq hn hin hp hl hen hdis hv hdue ok
    cases ok with
    | true =>
      obtain ⟨t, hrun, hdone, hframe⟩ := mergeVerify_answered heff
      exact ⟨t, hrun, fun _ => hdone, fun hno => absurd hno (by decide), hframe⟩
    | false =>
      obtain ⟨t, hrun, hdone, hframe⟩ := mergeVerify_fails hv heff
      exact ⟨t, hrun, fun hno => absurd hno (by decide), fun _ => hdone, hframe⟩
  · exact gclEntryStart_applies hn hin hp hen hx hfresh
  · exact streamGateEntry_waits hin hg hopen

end Sys2Proof.Machine
end

section
/-! PROOFS. Recovery functions and generators that start fresh, the transmit timestamps, the gPTP controls and the sampler: what O24 asks (R164, R166, R170,
R172, R173). -/
namespace Sys2Proof.Machine

/-! ### A recovery function starts fresh (R166) -/

section
variable {s : State} {tile fn : Nat}

theorem Touches.setRecovSt {p q : Pkg} {W C : List Nat} (h : Touches p q W C) {t r : Nat} {x : RecovSt} : Touches p (q.setRecovSt t r x) W C := h.onSw

theorem State.finish_recovSt (s : State) (t r : Nat) : s.finish.pkg.recovSt t r = s.pkg.recovSt t r := by rw [Pkg.recovSt, State.finish_pkg_sw]; rfl

theorem Pkg.recovSt_setRecovSt_same (s : Pkg) (t r : Nat) (x : RecovSt) : (s.setRecovSt t r x).recovSt t r = x := SMap.get_set_same _ _ _ _

theorem frerReset_startsFresh (hon : s.pkg.tileOn tile = true) (hvalid : fieldGet (s.pkg.recovWord tile fn 0) 31 31 = 1)
    (hused : (s.pkg.recovSt tile fn).fresh = false) :
    Runs (.frerReset tile fn) s (fun t =>
      t.pkg.recovSt tile fn = {} ∧ t.pkg.cnt tile (oRecov fn 6) = s.pkg.cnt tile (oRecov fn 6) + 1 ∧
      (s.pkg.recovSt tile fn).passAt + ns (1000000 * fieldGet (s.pkg.recovWord tile fn 1) 15 0) ≤ t.pkg.now ∧
      Frame s t [] [pkgAddr tile (oRecov fn 6)]) := by
  have heff : frerReset tile fn s.pkg =
      ((s.pkg.reachFrac ((s.pkg.recovSt tile fn).passAt + ns (ms (fieldGet (s.pkg.recovWord tile fn 1) 15 0)))).bump tile (oRecov fn 6)).setRecovSt
        tile fn {} := Pkg.when_pos _ _ (by rw [hon, hvalid, hused]; rfl)
  refine runs_becomes rfl heff ⟨?_, ?_, ?_, ?_⟩
  · rw [State.finish_recovSt, State.map_pkg, Pkg.recovSt_setRecovSt_same]
  · rw [State.finish_pkg_cnt, State.map_pkg, Pkg.setRecovSt, Pkg.onSw_cnt, Pkg.cnt_bump_same, Pkg.reachFrac_cnt]
  · rw [State.finish_pkg_now, State.map_pkg, Pkg.setRecovSt, Pkg.onSw_now, Pkg.bump_now, Pkg.reachFrac_now, ms, Nat.mul_comm 1000000]
    exact Nat.le_max_right _ _
  · exact (((Touches.refl s.pkg _ _).reachFrac.bump (List.mem_singleton.2 rfl)).setRecovSt).finishes

end

/-! ### Commands that write a word of a tile (R164, R172) -/

/-- The package as a write of a word finds it at its target. -/
abbrev State.remembered (s : State) (a : Acc) (tile off : Nat) (v : Word) : Pkg := (s.pkg.reach a.at_).remember a.req tile off v

theorem State.remembered_ref (s : State) (a : Acc) (tile off : Nat) (v : Word) : (s.remembered a tile off v).ref = s.pkg.ref := Pkg.remember_ref ..

/-- A write command of a tile's word whose write makes the package q, with the frame of what q touches. -/
theorem runs_writeBecomes {i : Instr} {s : State} {a : Acc} {tile off : Nat} {v : Word} {P : State → Prop} {q : Pkg} {W C : List Nat}
    (h : s.pkg.reaches a.req tile off v) (ht : tile < 7) (hu : off ≠ 0x2100004) (he : exec i s = .next (s.regWrite a tile off v).finish)
    (hq : (s.remembered a tile off v).writeTile a.req tile off v 15 = q) (hW : Touches (s.remembered a tile off v) q W C)
    (hp : Frame s (s.map fun _ => q).finish W C → P (s.map fun _ => q).finish) : Runs i s P :=
  runs_tileWrite h (by omega) hu he (fun _ => q) hq (hp (frame_remember hW))

section
variable {s : State} {a : Acc} {tile : Nat} {v : Word}

theorem genReset_zeroes (h : s.pkg.reaches a.req tile 0xC00240 v) (ht : tile < 7) :
    Runs (.genReset a tile v) s (fun t =>
      t.pkg.get tile ⟨0x3670000 + 4 * fieldGet v 7 0, 15, 0⟩ = 0 ∧ Frame s t [pkgAddr tile (0x3670000 + 4 * fieldGet v 7 0)] []) := by
  refine runs_writeBecomes h ht (by decide) rfl (writeTile_genReset _ _ _ _) ((Touches.refl _ _ _).put (List.mem_singleton.2 rfl)) fun hframe => ⟨?_, hframe⟩
  rw [State.finish_pkg_get, State.map_pkg, genResetEff, Pkg.get_put_same _ _ _ _ (show 15 < 32 by decide)]
  exact Nat.zero_mod _

theorem rateAdjEff_sets {s : Pkg} (r : Req) (href : tile = s.ref) (hv : (sgn32 v).natAbs ≤ 2147483) : rateAdjEff r tile v s = s.wr tile oRateAdj v :=
  (if_neg (not_not.2 href)).trans (if_neg (Nat.not_lt.2 hv))

theorem rateAdj_sets (h : s.pkg.reaches a.req tile 0x100100 v) (ht : tile < 7) (href : tile = s.pkg.ref) (hv : (sgn32 v).natAbs ≤ 2147483) :
    Runs (.rateAdj a tile v) s (fun t => t.pkg.rd tile oRateAdj = v ∧ Frame s t [pkgAddr tile oRateAdj] []) := by
  have heff := rateAdjEff_sets (s := s.remembered a tile 0x100100 v) a.req (href.trans (s.remembered_ref a tile 0x100100 v).symm) hv
  refine runs_writeBecomes h ht (by decide) rfl ((writeTile_rateAdj _ _ _ _).trans heff) ((Touches.refl _ _ _).wr (List.mem_singleton.2 rfl))
    fun hframe => ⟨?_, hframe⟩
  rw [State.finish_pkg_rd, State.map_pkg, Pkg.rd_wr_same]

theorem rateAdj_elsewhere (h : s.pkg.reaches a.req tile 0x100100 v) (ht : tile < 7) (href : tile ≠ s.pkg.ref) :
    Runs (.rateAdj a tile v) s (fun t => Frame s t [] []) :=
  runs_writeBecomes h ht (by decide) rfl ((writeTile_rateAdj _ _ _ _).trans (if_pos (by rwa [State.remembered_ref]))) (Touches.refl _ _ _) id

end

/-! ### The pending correction (R172) -/

theorem Pkg.phaseNow_congr {p q : Pkg} {t : Nat} (hsw : q.sw = p.sw) (hnow : q.now = p.now) (hslew : q.get t fSlew = p.get t fSlew) :
    q.phaseNow t = p.phaseNow t := by simp only [Pkg.phaseNow, hsw, hnow, hslew]

theorem State.finish_phaseNow (s : State) (t : Nat) : s.finish.pkg.phaseNow t = s.pkg.phaseNow t :=
  Pkg.phaseNow_congr (State.finish_pkg_sw s) (State.finish_pkg_now s) (State.finish_pkg_get s t fSlew)

/-- A correction brought up to date at this instant has absorbed nothing since. -/
theorem Pkg.phaseNow_upToDate {s : Pkg} (h : s.sw.phaseAt = s.now) (t : Nat) : s.phaseNow t = s.sw.phase := by
  simp only [Pkg.phaseNow, h, Nat.sub_self, Nat.zero_mul, Nat.zero_div]
  split <;> omega

theorem Pkg.settlePhase_phaseNow (s : Pkg) (t : Nat) : s.settlePhase.phaseNow t = s.phaseNow s.ref := Pkg.phaseNow_upToDate (s := s.settlePhase) rfl t

theorem Pkg.settlePhase_shows (s : Pkg) : s.settlePhase.rd s.ref oPhasePend = toWord (s.phaseNow s.ref / 65536) := Pkg.rd_wr_same _ _ _ _

theorem Touches.settlePhase {p q : Pkg} {W C : List Nat} (h : Touches p q W C) (hm : pkgAddr q.ref oPhasePend ∈ W) : Touches p q.settlePhase W C :=
  h.onSw.wr hm

/-- The pending correction is brought up to date and becomes v. -/
def Pkg.phaseSet (s : Pkg) (v : Int) : Pkg := (s.settlePhase.onSw (fun w => { w with phase := v })).settlePhase

theorem Pkg.phaseSet_phaseNow (s : Pkg) (v : Int) (t : Nat) : (s.phaseSet v).phaseNow t = v :=
  (Pkg.settlePhase_phaseNow _ _).trans (Pkg.phaseNow_upToDate rfl _)

theorem Pkg.phaseSet_shows (s : Pkg) (v : Int) : (s.phaseSet v).rd s.ref oPhasePend = toWord (v / 65536) :=
  (Pkg.settlePhase_shows (s.settlePhase.onSw (fun w => { w with phase := v }))).trans (by rw [Pkg.phaseNow_upToDate rfl]; rfl)

theorem Touches.phaseSet {p q : Pkg} {W C : List Nat} (h : Touches p q W C) (hm : pkgAddr q.ref oPhasePend ∈ W) (v : Int) :
    Touches p (q.phaseSet v) W C :=
  (h.settlePhase hm).onSw.settlePhase hm

theorem phaseAdjEff_adds {s : Pkg} {tile : Nat} {v : Word} (r : Req) (href : tile = s.ref)
    (hv : (s.phaseNow tile + sgn32 v * 65536).natAbs ≤ 65536000000000) :
    phaseAdjEff r tile v s = s.phaseSet (s.phaseNow tile + sgn32 v * 65536) := by
  subst href
  exact (if_neg (not_not.2 rfl)).trans (if_neg (Nat.not_lt.2 hv))

section
variable {s : State} {a : Acc} {tile : Nat} {v : Word}

theorem State.remembered_phaseNow (s : State) (a : Acc) (tile off : Nat) (v : Word) (t : Nat) :
    (s.remembered a tile off v).phaseNow t = (s.pkg.reach a.at_).phaseNow t :=
  Pkg.phaseNow_congr (Pkg.remember_sw ..) (Pkg.remember_now ..) (Pkg.remember_get ..)

theorem phaseAdj_adds (h : s.pkg.reaches a.req tile 0x100104 v) (ht : tile < 7) (href : tile = s.pkg.ref)
    (hv : ((s.pkg.reach a.at_).phaseNow tile + sgn32 v * 65536).natAbs ≤ 65536000000000) :
    Runs (.phaseAdj a tile v) s (fun t =>
      t.pkg.phaseNow tile = (s.pkg.reach a.at_).phaseNow tile + sgn32 v * 65536 ∧
      t.pkg.rd tile oPhasePend = toWord (t.pkg.phaseNow tile / 65536) ∧ Frame s t [pkgAddr tile oPhasePend] []) := by
  have hph := s.remembered_phaseNow a tile 0x100104 v tile
  have href' := href.trans (s.remembered_ref a tile 0x100104 v).symm
  rw [← hph] at hv ⊢
  refine runs_writeBecomes h ht (by decide) rfl ((writeTile_phaseAdj _ _ _ _).trans (phaseAdjEff_adds a.req href' hv))
    ((Touches.refl _ _ _).phaseSet (List.mem_singleton.2 (by rw [← href'])) _) fun hframe => ⟨?_, ?_, hframe⟩
  · rw [State.finish_phaseNow, State.map_pkg, Pkg.phaseSet_phaseNow]
  · rw [State.finish_phaseNow, State.finish_pkg_rd, State.map_pkg, Pkg.phaseSet_phaseNow]
    exact (congrArg (Pkg.rd _ · oPhasePend) href').trans (Pkg.phaseSet_shows _ _)

theorem phaseAdj_elsewhere (h : s.pkg.reaches a.req tile 0x100104 v) (ht : tile < 7) (href : tile ≠ s.pkg.ref) :
    Runs (.phaseAdj a tile v) s (fun t => Frame s t [] []) :=
  runs_writeBecomes h ht (by decide) rfl ((writeTile_phaseAdj _ _ _ _).trans (if_pos (by rwa [State.remembered_ref]))) (Touches.refl _ _ _) id

end

/-! ### The transmit timestamps (R170) -/

section
variable {tile : Nat} {x : TxStamp} {l : List TxStamp}

/-- TM_TXTS_INFO as its read answers a stamp (R170). -/
def TxStamp.info (x : TxStamp) : Word :=
  BitVec.ofNat 32 (x.seqId % 65536 + (x.msgType % 16) * 2 ^ 16 + (x.port % 16) * 2 ^ 20 + (x.domain % 128) * 2 ^ 24 + 2 ^ 31)

/-- The stamp x has left the FIFO, which holds l, and its time is latched. -/
def Pkg.stampTaken (s : Pkg) (t : Nat) (x : TxStamp) (l : List TxStamp) : Pkg :=
  ((s.onSw (fun w => { w with stamps := SMap.set [] w.stamps t l })).setCnt t oTxtsNs (BitVec.ofNat 64 (x.time / 65536))).put t fTxtsFrac (x.time % 65536)

theorem Pkg.popStamp_cons {s : Pkg} (h : SMap.get [] s.sw.stamps tile = x :: l) : s.popStamp tile = (s.stampTaken tile x l, x.info) := by
  rw [Pkg.popStamp, h]
  rfl

theorem Pkg.stampTaken_stamps (s : Pkg) : SMap.get [] (s.stampTaken tile x l).sw.stamps tile = l := SMap.get_set_same _ _ _ _

theorem Pkg.stampTaken_ns (s : Pkg) : (s.stampTaken tile x l).cnt tile oTxtsNs = BitVec.ofNat 64 (x.time / 65536) := by
  rw [Pkg.stampTaken, Pkg.put_cnt, Pkg.cnt_setCnt_same]

theorem Pkg.stampTaken_frac (s : Pkg) : (s.stampTaken tile x l).get tile fTxtsFrac = x.time % 65536 := by
  rw [Pkg.stampTaken, Pkg.get_put_same _ _ _ _ (by decide)]
  exact Nat.mod_mod _ _

theorem Touches.stampTaken {p q : Pkg} {W C : List Nat} (h : Touches p q W C) (hw : pkgAddr tile fTxtsFrac.off ∈ W) (hc : pkgAddr tile oTxtsNs ∈ C) :
    Touches p (q.stampTaken tile x l) W C := (h.onSw.setCnt hc).put hw

theorem Pkg.readAt_txtsInfo (s : Pkg) (r : Req) (h : tile ≠ 15) : s.readAt r tile oTxtsInfo = s.popStamp tile := by
  simp [Pkg.readAt, h, podCommand, oTxtsInfo]

theorem exec_txtsPop_readReaches {a : Acc} {s : State} (h : s.pkg.readReaches a.req tile oTxtsInfo) :
    exec (.txtsPop a tile) s = .next (s.map (fun p => (p.reach a.at_).serveRead a.req (pkgAddr tile oTxtsInfo) .returns)).finish := by
  have ⟨_, hd, ho, _⟩ := h
  have hread : s.regRead a tile oTxtsInfo = (s.map (fun p => p.reach a.at_)).access a.req (pkgAddr tile oTxtsInfo) (.read .returns) := if_pos ⟨hd, ho⟩
  show Host.Outcome.next (s.regRead a tile oTxtsInfo).finish = _
  rw [hread, State.access_readReaches (s := s.map (fun p => p.reach a.at_)) (Pkg.readReaches_reach h a.at_), State.map_map]

theorem txtsPop_pops {a : Acc} {s : State} (ht : tile < 7) (hl : s.pkg.leaves a.req) (he : s.pkg.accessErr a.req (pkgAddr tile oTxtsInfo) = 0)
    (hq : s.pkg.queueAt tile = []) (hx : SMap.get [] s.pkg.sw.stamps tile = x :: l) :
    Runs (.txtsPop a tile) s (fun t =>
      (s.pkg.out ++ [.reply a.req (pkgAddr tile oTxtsInfo) x.info]) <+: t.pkg.out ∧ SMap.get [] t.pkg.sw.stamps tile = l ∧
      t.pkg.cnt tile oTxtsNs = BitVec.ofNat 64 (x.time / 65536) ∧ t.pkg.get tile fTxtsFrac = x.time % 65536 ∧
      Frame s t [pkgAddr tile fTxtsFrac.off] [pkgAddr tile oTxtsNs]) := by
  have hreach : s.pkg.readReaches a.req tile oTxtsInfo := ⟨hl, by omega, by decide, by decide, by simp [isFence, oTxtsInfo, oSgFence, oSgFenceWait], he, hq⟩
  have hread := (Pkg.readAt_txtsInfo ((s.pkg.reach a.at_).tookTurn tile a.req) a.req (by omega)).trans (Pkg.popStamp_cons hx)
  obtain ⟨more, hserve⟩ := Pkg.serveRead_returns (s.pkg.reach a.at_) a.req (by omega) (by decide) hread
  refine ⟨_, exec_txtsPop_readReaches hreach, List.IsPrefix.trans ?_ (State.out_prefix_finish _), ?_, ?_, ?_, Touches.frame ?_⟩
  · rw [State.map_pkg, hserve]
    exact ⟨more, by simp [Pkg.emitAll, Pkg.stampTaken, Pkg.tookTurn]⟩
  · rw [State.finish_pkg_sw, State.map_pkg, hserve, Pkg.emitAll_sw, Pkg.stampTaken_stamps]
  · rw [State.finish_pkg_cnt, State.map_pkg, hserve, Pkg.emitAll_cnt, Pkg.stampTaken_ns]
  · rw [State.finish_pkg_get, State.map_pkg, hserve, Pkg.emitAll_get, Pkg.stampTaken_frac]
  · rw [hserve]
    have hturn : Touches s.pkg ((s.pkg.reach a.at_).tookTurn tile a.req) [pkgAddr tile fTxtsFrac.off] [pkgAddr tile oTxtsNs] :=
      (Touches.refl s.pkg _ _).same rfl rfl rfl rfl
    exact (hturn.stampTaken (List.mem_singleton.2 rfl) (List.mem_singleton.2 rfl)).same rfl rfl rfl rfl

end

/-! ### The sampler (R173) -/

/-- The sampler of a tile has one queue selected. -/
def Pkg.SelectsOnly (s : Pkg) (t p q : Nat) : Prop := ∀ x < 28, ∀ y < 8, (s.get t (fSampSel x)).testBit y = decide (x = p ∧ y = q)

/-- The offset of word w of record i of the sampler's ring (Table 5-5). -/
def sampOff (i w : Nat) : Nat := 0x3680000 + 32 * i + 4 * w

theorem sampOff_injective (i : Nat) : Function.Injective (sampOff i) := fun w v h => by simp only [sampOff] at h; omega

/-- The records lie above the registers. -/
theorem le_sampOff (i w : Nat) : 0x3680000 ≤ sampOff i w := by simp only [sampOff]; omega

/-- The words that the next record is written to. -/
def Pkg.sampWords (s : Pkg) (t : Nat) : List Nat := pkgAddr t fSampProd.off :: (List.range 5).map (fun w => pkgAddr t (sampOff (s.get t fSampProd) w))

/-- The word of a record that names its queue. -/
def Pkg.sampledQueue (s : Pkg) (t p q : Nat) : Word :=
  BitVec.ofNat 32 (p + q * 32 + s.depthChip t p q % 2 ^ 15 * 256 + bit (s.qst t p q).spilled * 2 ^ 23)

section
variable {s : Pkg} {t p q time : Nat}

theorem Pkg.sampledQueue_port (hp : p < 28) : fieldGet (s.sampledQueue t p q) 4 0 = p := by
  rw [Pkg.sampledQueue, fieldGet_eq, BitVec.toNat_ofNat]; omega

theorem Pkg.sampledQueue_queue (hp : p < 28) (hq : q < 8) : fieldGet (s.sampledQueue t p q) 7 5 = q := by
  rw [Pkg.sampledQueue, fieldGet_eq, BitVec.toNat_ofNat]; omega

/-- A record is five words in a row, of which the first is the time and the third names the queue; then the producer advances. -/
theorem Pkg.sampleRecord_eq (s : Pkg) (t p q time : Nat) : ∃ w₁ w₃ w₄, s.sampleRecord t p q time =
    (s.wrAll t (sampOff (s.get t fSampProd)) ([BitVec.ofNat 32 time, w₁, s.sampledQueue t p q, w₃, w₄].getD · 0) 5).put t fSampProd
      ((s.get t fSampProd + 1) % 4096) := ⟨_, _, _, rfl⟩

theorem Pkg.sampleRecord_prod : (s.sampleRecord t p q time).get t fSampProd = (s.get t fSampProd + 1) % 4096 := by
  obtain ⟨w₁, w₃, w₄, heq⟩ := s.sampleRecord_eq t p q time
  rw [heq, Pkg.get_put_same _ _ _ _ (by decide)]
  exact Nat.mod_mod _ _

theorem sampOff_ne_prod (i w : Nat) : sampOff i w ≠ fSampProd.off := by have := le_sampOff i w; simp only [fSampProd]; omega

theorem Pkg.sampleRecord_time : (s.sampleRecord t p q time).rd t (sampOff (s.get t fSampProd) 0) = BitVec.ofNat 32 time := by
  obtain ⟨w₁, w₃, w₄, heq⟩ := s.sampleRecord_eq t p q time
  rw [heq, Pkg.rd_put_off _ _ (sampOff_ne_prod _ _), Pkg.rd_wrAll_same (sampOff_injective _) (by decide)]
  rfl

theorem Pkg.sampleRecord_queue : (s.sampleRecord t p q time).rd t (sampOff (s.get t fSampProd) 2) = s.sampledQueue t p q := by
  obtain ⟨w₁, w₃, w₄, heq⟩ := s.sampleRecord_eq t p q time
  rw [heq, Pkg.rd_put_off _ _ (sampOff_ne_prod _ _), Pkg.rd_wrAll_same (sampOff_injective _) (by decide)]
  rfl

theorem Pkg.sampleRecord_register {o : Nat} (ho : o < 0x3680000) (hp : o ≠ fSampProd.off) : (s.sampleRecord t p q time).rd t o = s.rd t o := by
  obtain ⟨w₁, w₃, w₄, heq⟩ := s.sampleRecord_eq t p q time
  rw [heq, Pkg.rd_put_off _ _ hp, Pkg.rd_wrAll_ne fun w _ => (Nat.lt_of_lt_of_le ho (le_sampOff _ w)).ne]

theorem Touches.sampleRecord {u : Pkg} {W C : List Nat} (h : Touches u s W C) (hW : s.sampWords t ⊆ W) : Touches u (s.sampleRecord t p q time) W C := by
  obtain ⟨w₁, w₃, w₄, heq⟩ := s.sampleRecord_eq t p q time
  rw [heq]
  exact (h.wrAll fun w hw => hW (List.mem_cons_of_mem _ (List.mem_map.2 ⟨w, List.mem_range.2 hw, rfl⟩))).put (hW List.mem_cons_self)

theorem Pkg.SelectsOnly.sampleRecord (h : s.SelectsOnly t p q) : (s.sampleRecord t p q time).SelectsOnly t p q := fun x hx y hy => by
  rw [Pkg.get, Pkg.sampleRecord_register (by simp only [fSampSel]; omega) (by simp only [fSampSel, fSampProd]; omega)]
  exact h x hx y hy

/-- SAMPLE comes to a queue. -/
def Pkg.sampleAt (time t p : Nat) (s : Pkg) (q : Nat) : Pkg := if (s.get t (fSampSel p)).testBit q then s.sampleQueue t p q time else s

/-- SAMPLE comes to a port: its queues in turn. -/
def Pkg.samplePort (time t : Nat) (s : Pkg) (p : Nat) : Pkg := (List.range 8).foldl (Pkg.sampleAt time t p) s

theorem sample_eq {n : Nat} (hin : s.inService t = true) (hen : s.on t fSampEn = true) :
    sample t n s = (List.range 28).foldl (Pkg.samplePort (n * s.get t fSampInterval) t) (s.reach (n * s.get t fSampInterval)) :=
  Pkg.when_pos _ _ (by rw [hin, hen]; rfl)

theorem Pkg.SelectsOnly.sampleAt_ne (h : s.SelectsOnly t p q) {x y : Nat} (hx : x < 28) (hy : y < 8) (hne : ¬ (x = p ∧ y = q)) :
    Pkg.sampleAt time t x s y = s := if_neg (by rw [h x hx y hy, decide_eq_true_iff]; exact hne)

theorem Pkg.SelectsOnly.samplePort_ne (h : s.SelectsOnly t p q) {x : Nat} (hx : x < 28) (hne : x ≠ p) : Pkg.samplePort time t s x = s :=
  foldl_eq_self fun _ hy => h.sampleAt_ne hx (List.mem_range.1 hy) fun he => hne he.1

section
variable (h : s.SelectsOnly t p q) (hp : p < 28) (hq : q < 8) (hroom : (s.get t fSampProd + 1) % 4096 ≠ s.get t fSampCons)
include h hp hq hroom

theorem Pkg.SelectsOnly.sampleAt_self : Pkg.sampleAt time t p s q = s.sampleRecord t p q time :=
  (if_pos (by rw [h p hp q hq]; exact decide_eq_true ⟨rfl, rfl⟩)).trans (if_pos (by simpa using hroom))

theorem Pkg.SelectsOnly.samplePort_self : Pkg.samplePort time t s p = s.sampleRecord t p q time := by
  have hself := h.sampleAt_self hp hq hroom (time := time)
  refine (foldl_one (List.mem_range.2 hq) List.nodup_range (fun y hy hne => ?_) fun y hy hne => ?_).trans hself
  · exact h.sampleAt_ne hp (List.mem_range.1 hy) fun he => hne he.2
  · rw [hself]; exact h.sampleRecord.sampleAt_ne hp (List.mem_range.1 hy) fun he => hne he.2

/-- With one queue selected and room in the ring, the record is all there is. -/
theorem Pkg.SelectsOnly.samplePorts : (List.range 28).foldl (Pkg.samplePort time t) s = s.sampleRecord t p q time := by
  have hself := h.samplePort_self hp hq hroom (time := time)
  refine (foldl_one (List.mem_range.2 hp) List.nodup_range (fun x hx hne => ?_) fun x hx hne => ?_).trans hself
  · exact h.samplePort_ne (List.mem_range.1 hx) hne
  · rw [hself]; exact h.sampleRecord.samplePort_ne (List.mem_range.1 hx) hne

end

end

theorem sample_writesRecord {s : State} {tile n p q : Nat} (hin : s.pkg.inService tile = true) (hen : s.pkg.on tile fSampEn = true) (hp : p < 28)
    (hq : q < 8) (hsel : s.pkg.SelectsOnly tile p q) (hroom : (s.pkg.get tile fSampProd + 1) % 4096 ≠ s.pkg.get tile fSampCons) :
    Runs (.sample tile n) s (fun t =>
      t.pkg.get tile fSampProd = (s.pkg.get tile fSampProd + 1) % 4096 ∧
      t.pkg.rd tile (sampOff (s.pkg.get tile fSampProd) 0) = BitVec.ofNat 32 (n * s.pkg.get tile fSampInterval) ∧
      fieldGet (t.pkg.rd tile (sampOff (s.pkg.get tile fSampProd) 2)) 4 0 = p ∧ fieldGet (t.pkg.rd tile (sampOff (s.pkg.get tile fSampProd) 2)) 7 5 = q ∧
      Frame s t (s.pkg.sampWords tile) []) := by
  have heff : sample tile n s.pkg = (s.pkg.reach (n * s.pkg.get tile fSampInterval)).sampleRecord tile p q (n * s.pkg.get tile fSampInterval) :=
    (sample_eq hin hen).trans (Pkg.SelectsOnly.samplePorts (s := s.pkg.reach _) hsel hp hq hroom)
  have hqueue : ((s.pkg.reach (n * s.pkg.get tile fSampInterval)).sampleRecord tile p q (n * s.pkg.get tile fSampInterval)).rd tile
      (sampOff (s.pkg.get tile fSampProd) 2) = (s.pkg.reach (n * s.pkg.get tile fSampInterval)).sampledQueue tile p q := Pkg.sampleRecord_queue
  refine runs_becomes rfl heff ⟨?_, ?_, ?_, ?_, ?_⟩
  · rw [State.finish_pkg_get, State.map_pkg]; exact Pkg.sampleRecord_prod
  · rw [State.finish_pkg_rd, State.map_pkg]; exact Pkg.sampleRecord_time
  · rw [State.finish_pkg_rd, State.map_pkg, hqueue]; exact Pkg.sampledQueue_port hp
  · rw [State.finish_pkg_rd, State.map_pkg, hqueue]; exact Pkg.sampledQueue_queue hp hq
  · exact ((Touches.refl s.pkg _ _).reach.sampleRecord (List.Subset.refl _)).finishes

/-- Settles O24: each reset, read and write by the law of its effect; of the sampler's turns through the queues the one selected alone writes. -/
theorem timeControlsAndSampler : Obligations.TimeControlsAndSampler := by
  unfold Obligations.TimeControlsAndSampler
  refine ⟨fun tile fn s hon _ hvalid hused => frerReset_startsFresh hon hvalid hused, fun a tile v s ht => ⟨fun h => genReset_zeroes h ht,
    fun x l hl he hq hx => txtsPop_pops ht hl he hq hx, fun h => ⟨rateAdj_sets h ht, rateAdj_elsewhere h ht⟩,
    fun h => ⟨phaseAdj_adds h ht, phaseAdj_elsewhere h ht⟩⟩, fun tile n p q s hin hen hp hq hsel hroom => ?_⟩
  obtain ⟨t, hrun, hprod, htime, hport, hqueue, hframe⟩ := sample_writesRecord (n := n) hin hen hp hq hsel hroom
  rw [sampOff, Nat.add_right_comm] at hport hqueue
  exact ⟨t, hrun, hprod, htime, hport, hqueue, hframe⟩

end Sys2Proof.Machine
end

section
/-! PROOFS. The transmit buffers of the sentinel's bus controllers, the trestle at its end, and the way to it (R31, R35, R182–R184, R209): what O25 to O28
share. -/
namespace Sys2Proof.Machine

/-! ### What the end of a command leaves -/

section
variable (s : State)

theorem State.finish_busQueue (b : Nat) : s.finish.pkg.busQueue b = s.pkg.busQueue b := by rw [Pkg.busQueue, State.finish_pkg_bus]; rfl
theorem State.finish_creditsOwed (b : Nat) : s.finish.pkg.creditsOwed b = s.pkg.creditsOwed b := by rw [Pkg.creditsOwed, State.finish_pkg_bus]; rfl
theorem State.finish_creditsUsed (b : Nat) : s.finish.pkg.creditsUsed b = s.pkg.creditsUsed b := by rw [Pkg.creditsUsed, State.finish_pkg_bus]; rfl
theorem State.finish_latest (b n : Nat) : s.finish.pkg.latest b n = s.pkg.latest b n := by rw [Pkg.latest, State.finish_pkg_bus]; rfl
theorem State.finish_trestle (t : Nat) : s.finish.pkg.trestle t = s.pkg.trestle t := by rw [Pkg.trestle, State.finish_pkg_trestles]; rfl

/-- What a command sends is still there at its end. -/
theorem State.out_prefix_becomes {q : Pkg} {l : List OutEv} (h : q.out = s.pkg.out ++ l) : (s.pkg.out ++ l) <+: (s.map fun _ => q).finish.pkg.out :=
  h ▸ State.out_prefix_finish (s.map fun _ => q)

end

/-! ### Buffers (R184, R209) -/

section
variable {p q s : Pkg} {W C : List Nat} {b : Nat} {l : List Posted}

theorem Touches.onBus (h : Touches p q W C) {f : BusSt → BusSt} : Touches p (q.onBus f) W C := h.same rfl rfl rfl rfl
theorem Touches.setCreditsOwed (h : Touches p q W C) {v : Nat} : Touches p (q.setCreditsOwed b v) W C := h.onBus
theorem Touches.setCreditsUsed (h : Touches p q W C) {v : Nat} : Touches p (q.setCreditsUsed b v) W C := h.onBus
theorem Touches.setLatest (h : Touches p q W C) {n : Nat} {v : Option Posted} : Touches p (q.setLatest b n v) W C := h.onBus

/-- A CAN buffer shows its fill in TXQ_USED. -/
theorem Touches.setBusQueue (h : Touches p q W C) (hm : b < 12 → pkgAddr 15 (fTxqUsed b).off ∈ W) : Touches p (q.setBusQueue b l) W C := by
  unfold Pkg.setBusQueue
  dsimp only
  split
  · next hb => exact h.onBus.put (hm hb)
  · exact h.onBus

/-- A buffer set anew concerns the buffers and the fill shown. -/
theorem Pkg.setBusQueue_eq (s : Pkg) (b : Nat) (l : List Posted) :
    ∃ rs, s.setBusQueue b l = { s with regs := rs, bus := { s.bus with queues := SMap.set [] s.bus.queues b l } } := by
  unfold Pkg.setBusQueue
  dsimp only
  split
  · exact ⟨_, rfl⟩
  · exact ⟨s.regs, rfl⟩

theorem Pkg.busQueue_setBusQueue_same : (s.setBusQueue b l).busQueue b = l := by
  obtain ⟨rs, h⟩ := s.setBusQueue_eq b l
  rw [h]; exact SMap.get_set_same _ _ _ _

theorem Pkg.setBusQueue_out : (s.setBusQueue b l).out = s.out := by obtain ⟨rs, h⟩ := s.setBusQueue_eq b l; rw [h]
theorem Pkg.setBusQueue_now : (s.setBusQueue b l).now = s.now := by obtain ⟨rs, h⟩ := s.setBusQueue_eq b l; rw [h]
theorem Pkg.setBusQueue_cnt (d o : Nat) : (s.setBusQueue b l).cnt d o = s.cnt d o := by obtain ⟨rs, h⟩ := s.setBusQueue_eq b l; rw [h]; rfl
theorem Pkg.setBusQueue_mode : (s.setBusQueue b l).mode = s.mode := by obtain ⟨rs, h⟩ := s.setBusQueue_eq b l; rw [h]
theorem Pkg.setBusQueue_creditsOwed (n : Nat) : (s.setBusQueue b l).creditsOwed n = s.creditsOwed n := by
  obtain ⟨rs, h⟩ := s.setBusQueue_eq b l; rw [h]; rfl

theorem Pkg.creditsOwed_setCreditsOwed_same (s : Pkg) (b v : Nat) : (s.setCreditsOwed b v).creditsOwed b = v := SMap.get_set_same _ _ _ _
theorem Pkg.creditsUsed_setCreditsUsed_same (s : Pkg) (b v : Nat) : (s.setCreditsUsed b v).creditsUsed b = v := SMap.get_set_same _ _ _ _
theorem Pkg.latest_setLatest_same (s : Pkg) (b n : Nat) (v : Option Posted) : (s.setLatest b n v).latest b n = v := SMap.get_set_same _ _ _ _
theorem Pkg.trestle_setTrestle_same (s : Pkg) (t : Nat) (x : TrestleSt) : (s.setTrestle t x).trestle t = x := SMap.get_set_same _ _ _ _

/-- A buffer whose message of this number has left holds none of the number. -/
theorem filter_id_ne {n : Nat} {x : Posted} (hx : x ∈ l.filter (fun y => y.id != n)) : x.id ≠ n := by
  simpa using (List.mem_filter.1 hx).2

end

/-! ### A CAN channel begins a message, or takes one back (R184) -/

/-- What a buffer holds, whether begun or not: the numbers and the messages. -/
def postedOf (l : List Posted) : List (Nat × Msg) := l.map fun e => (e.id, e.msg)

theorem postedOf_map {l : List Posted} {f : Posted → Posted} (hid : ∀ e, (f e).id = e.id) (hmsg : ∀ e, (f e).msg = e.msg) :
    postedOf (l.map f) = postedOf l := by
  rw [postedOf, List.map_map]
  exact List.map_congr_left fun e _ => by rw [Function.comp, hid, hmsg]

theorem ids_of_postedOf {l l' : List Posted} (h : postedOf l = postedOf l') {n : Nat} (hn : ∀ x ∈ l', x.id ≠ n) : ∀ x ∈ l, x.id ≠ n := fun x hx he => by
  have hmem : (x.id, x.msg) ∈ postedOf l' := h ▸ List.mem_map.2 ⟨x, hx, rfl⟩
  obtain ⟨y, hy, hxy⟩ := List.mem_map.1 hmem
  exact hn y hy ((congrArg Prod.fst hxy).trans he)

theorem msgs_of_postedOf {l l' : List Posted} (h : postedOf l = postedOf l') : l.map (·.msg) = l'.map (·.msg) := by
  simpa [postedOf, Function.comp_def] using congrArg (List.map Prod.snd) h

/-- From p to q a message of CAN channel c was begun or taken back: of the state its buffer alone is concerned, and that holds what it held. -/
structure Requeues (c : Nat) (p q : Pkg) : Prop where
  form    : ∃ rs x, q = { p with regs := rs, bus := { p.bus with queues := x } }
  touches : Touches p q [pkgAddr 15 (fTxqUsed c).off] []
  holds   : postedOf (q.busQueue c) = postedOf (p.busQueue c)

namespace Requeues
variable {c : Nat} {p q r : Pkg}

theorem refl (c : Nat) (p : Pkg) : Requeues c p p := ⟨⟨p.regs, p.bus.queues, rfl⟩, .refl _ _ _, rfl⟩

theorem trans (h : Requeues c p q) (h' : Requeues c q r) : Requeues c p r := by
  obtain ⟨rs, x, rfl⟩ := h.form
  obtain ⟨rs', x', hr⟩ := h'.form
  exact ⟨⟨rs', x', hr⟩, h.touches.trans h'.touches, h'.holds.trans h.holds⟩

theorem set {l : List Posted} (h : postedOf l = postedOf (p.busQueue c)) : Requeues c p (p.setBusQueue c l) := by
  refine ⟨?_, (Touches.refl _ _ _).setBusQueue fun _ => List.mem_singleton.2 rfl, by rw [Pkg.busQueue_setBusQueue_same, h]⟩
  obtain ⟨rs, he⟩ := p.setBusQueue_eq c l
  exact ⟨rs, _, he⟩

theorem canBack (c : Nat) (p : Pkg) : Requeues c p (p.canBack c) := set (postedOf_map (fun _ => rfl) fun _ => rfl)

theorem canKick (c : Nat) (p : Pkg) : Requeues c p (p.canKick c) := by
  unfold Pkg.canKick
  dsimp only
  split
  · exact refl c p
  · split
    · exact refl c p
    · refine set (postedOf_map (fun x => ?_) fun x => ?_) <;> split <;> rfl

theorem cnt (h : Requeues c p q) (d o : Nat) : q.cnt d o = p.cnt d o := h.touches.counts d o List.not_mem_nil
theorem get (h : Requeues c p q) {f : Fld} (hf : f.off ≠ (fTxqUsed c).off) : q.get 15 f = p.get 15 f :=
  congrArg (fieldGet · f.hi f.lo) (h.touches.words 15 f.off (by simpa [pkgAddr] using hf))
theorem out (h : Requeues c p q) : q.out = p.out := by obtain ⟨rs, x, rfl⟩ := h.form; rfl
theorem trestle (h : Requeues c p q) (t : Nat) : q.trestle t = p.trestle t := by obtain ⟨rs, x, rfl⟩ := h.form; rfl
theorem creditsOwed (h : Requeues c p q) (b : Nat) : q.creditsOwed b = p.creditsOwed b := by obtain ⟨rs, x, rfl⟩ := h.form; rfl
theorem busStamp (h : Requeues c p q) (n : Nat) : q.busStamp n = p.busStamp n := by obtain ⟨rs, x, rfl⟩ := h.form; rfl

end Requeues

/-! ### The way between the sentinel and a tile (R31, R35) -/

/-- A word that says which way is open: the status of a span port, and the mode's with the powered tiles. -/
def wayWord (o : Nat) : Prop := o % 0x4000000 < 0x260 ∨ o % 0x4000000 = 0x60000

/-- From p to q no link, no tile and no mode changed. -/
structure SameWays (p q : Pkg) : Prop where
  variant : q.variant = p.variant
  mode    : q.mode = p.mode
  boot    : q.boot = p.boot
  tether  : q.tether = p.tether
  tethers : q.tethers = p.tethers
  routes  : q.routes = p.routes
  spans   : q.spans = p.spans
  words   : ∀ d o, o < 0x4000000 → wayWord o → q.rd d o = p.rd d o

namespace SameWays
variable {p q r : Pkg}

theorem refl (p : Pkg) : SameWays p p := ⟨rfl, rfl, rfl, rfl, rfl, rfl, rfl, fun _ _ _ _ => rfl⟩

theorem trans (h : SameWays p q) (h' : SameWays q r) : SameWays p r :=
  ⟨h'.variant.trans h.variant, h'.mode.trans h.mode, h'.boot.trans h.boot, h'.tether.trans h.tether, h'.tethers.trans h.tethers,
    h'.routes.trans h.routes, h'.spans.trans h.spans, fun d o ho hw => (h'.words d o ho hw).trans (h.words d o ho hw)⟩

/-- A write of another word. -/
theorem wr (h : SameWays p q) {d o : Nat} {w : Word} (ho : ¬ wayWord o) : SameWays p (q.wr d o w) :=
  h.trans ⟨rfl, rfl, rfl, rfl, rfl, rfl, rfl, fun d' o' _ hw => q.rd_wr_ne w fun he => by
    simp only [wayWord, pkgAddr] at ho hw he; omega⟩
theorem put (h : SameWays p q) {d : Nat} {f : Fld} {v : Nat} (ho : ¬ wayWord f.off) : SameWays p (q.put d f v) := h.wr ho
theorem putIf (h : SameWays p q) {b : Bool} {d : Nat} {f : Fld} {v : Nat} (ho : ¬ wayWord f.off) : SameWays p (q.putIf b d f v) := by
  cases b
  · exact h
  · exact h.put ho
theorem bump (h : SameWays p q) {d o : Nat} : SameWays p (q.bump d o) := h.trans ⟨rfl, rfl, rfl, rfl, rfl, rfl, rfl, fun _ _ _ _ => rfl⟩
theorem reach (h : SameWays p q) {n : Nat} : SameWays p (q.reach n) := h.trans ⟨rfl, rfl, rfl, rfl, rfl, rfl, rfl, fun _ _ _ _ => rfl⟩
theorem setTrestle (h : SameWays p q) {t : Nat} {x : TrestleSt} : SameWays p (q.setTrestle t x) :=
  h.trans ⟨rfl, rfl, rfl, rfl, rfl, rfl, rfl, fun _ _ _ _ => rfl⟩

theorem tileOn (h : SameWays p q) (t : Nat) : q.tileOn t = p.tileOn t := by
  simp only [Pkg.tileOn, Pkg.get, h.variant, h.words 15 fTilesOn.off (by decide) (Or.inr rfl)]
theorem isLost (h : SameWays p q) (t : Nat) : q.isLost t = p.isLost t := by rw [Pkg.isLost, h.mode]; rfl
theorem inService (h : SameWays p q) (t : Nat) : q.inService t = p.inService t := by rw [Pkg.inService, h.tileOn, h.isLost]; rfl
theorem steward (h : SameWays p q) : q.steward = p.steward := congrArg ModeSt.steward h.mode

theorem pausing (h : SameWays p q) : q.pausing = p.pausing := by
  have hmode : q.modeNow = p.modeNow := congrArg (fieldGet · 3 0) (h.words 15 fMode.off (by decide) (Or.inr rfl))
  rw [Pkg.pausing, hmode, h.boot]; rfl

theorem spanUpAt (h : SameWays p q) (t : Nat) {n : Nat} (hn : n < 6) : q.spanUpAt t n = p.spanUpAt t n := by
  have hoff : (fSpanState.at n 0x40).off < 0x260 := by simp only [Fld.at, fSpanState]; omega
  have hword := h.words t (fSpanState.at n 0x40).off (by omega) (Or.inl (by omega))
  simp only [Pkg.spanUpAt, Pkg.spanState, Pkg.get, hword]

theorem servPorts (h : SameWays p q) (a b : Nat) : q.servPorts a b = p.servPorts a b := by
  have hup : q.upPorts a b = p.upPorts a b := by
    rw [Pkg.upPorts, Pkg.upPorts, h.variant]
    exact List.filter_congr fun n hn => h.spanUpAt a (List.mem_range.1 (List.mem_filter.1 hn).1)
  simp only [Pkg.servPorts, hup, Pkg.spanSt, h.spans]

theorem pairUp (h : SameWays p q) (a b : Nat) : q.pairUp a b = p.pairUp a b := by
  simp only [Pkg.pairUp, Pkg.routeOf, h.routes, h.servPorts]

theorem tetherTile (h : SameWays p q) : q.tetherTile = p.tetherTile := by
  have hserves (t : Nat) : q.tetherServes t = p.tetherServes t := by
    rw [Pkg.tetherServes, h.variant, Pkg.tetherUp, Pkg.tetherSt, h.tethers, h.isLost]; rfl
  rw [Pkg.tetherTile, h.tether, hserves, hserves]; rfl

/-- The same way leads from one die to another. -/
theorem pathUp (h : SameWays p q) (a b : Nat) : q.pathUp a b = p.pathUp a b := by
  simp only [Pkg.pathUp, h.tetherTile, h.tileOn, h.isLost, h.pairUp]

end SameWays

theorem Requeues.sameWays {c : Nat} {p q : Pkg} (h : Requeues c p q) (hc : c < 12) : SameWays p q := by
  obtain ⟨rs, x, he⟩ := h.form
  refine ⟨by rw [he], by rw [he], by rw [he], by rw [he], by rw [he], by rw [he], by rw [he], fun d o ho hw => h.touches.words d o ?_⟩
  simp only [List.mem_singleton, pkgAddr, fTxqUsed, canOff, wayWord] at hw ⊢
  omega

end Sys2Proof.Machine
end

section
/-! PROOFS. Frames and errors on the sentinel's buses, transmission, bus-off and recovery (R182–R184): what O25 asks. -/
namespace Sys2Proof.Machine

/-! ### A message reaches the active trestle (R178, R183) -/

/-- The trestle with one more message from its channel. -/
def TrestleSt.arrived (x : TrestleSt) (m : Msg) : TrestleSt := { x with inq := SMap.set [] x.inq m.src (SMap.get [] x.inq m.src ++ [m]) }

theorem TrestleSt.arrived_inq (x : TrestleSt) (m : Msg) : SMap.get [] (x.arrived m).inq m.src = SMap.get [] x.inq m.src ++ [m] := SMap.get_set_same _ _ _ _

section
variable {p q : Pkg} {m : Msg} {s : State} {bm : BusMsg} {start at_ : Nat}

/-- With the way to the steward's tile open and no pause, the message is in the trestle. -/
theorem Pkg.toTrestle_arrives (hw : SameWays p q) (ht : ∀ t, q.trestle t = p.trestle t) (hup : p.pathUp 15 p.steward = true)
    (hin : p.inService p.steward = true) (hp : p.pausing = false) :
    q.toTrestle m = q.setTrestle p.steward ((p.trestle p.steward).arrived m) := by
  have hopen : ¬ ((!q.pathUp 15 p.steward) = true ∨ (!q.inService p.steward) = true) := by simp [hw.pathUp, hw.inService, hup, hin]
  simp only [Pkg.toTrestle, hw.pausing, hp, hw.steward, Bool.false_eq_true, false_and, if_false, if_neg hopen, ht]
  rfl

/-- The messages of a channel after one has arrived and the command has ended. -/
theorem State.arrived_inq (s : State) {r : Pkg} {t : Nat} {x : TrestleSt} (m : Msg) (hr : r.trestle t = x.arrived m) :
    SMap.get [] ((s.map fun _ => r).finish.pkg.trestle t).inq m.src = SMap.get [] x.inq m.src ++ [m] := by
  rw [State.finish_trestle, State.map_pkg, hr, TrestleSt.arrived_inq]

end

/-! ### CAN: error counters and error state (R184) -/

section
variable {p q s : Pkg} {c : Nat} {f : Fld} {W C : List Nat}

/-- The error state is put by the counters, where the channel is neither off the bus nor asleep. -/
theorem Pkg.canGrade_eq (s : Pkg) (c : Nat) : s.canGrade c =
    s.putIf (decide (s.get 15 (fCanState c) < 2)) 15 (fCanState c) (bit (128 ≤ s.get 15 (fCanTec c) || 128 ≤ s.get 15 (fCanRec c))) := by
  simp only [Pkg.canGrade, Pkg.putIf, decide_eq_true_eq]

theorem Touches.canGrade (h : Touches p q W C) (hm : pkgAddr 15 (fCanState c).off ∈ W) : Touches p (q.canGrade c) W C := by
  rw [Pkg.canGrade_eq]; exact h.putIf hm

theorem Pkg.canGrade_form (s : Pkg) (c : Nat) : ∃ rs, s.canGrade c = { s with regs := rs } := by
  unfold Pkg.canGrade
  split
  · exact ⟨_, rfl⟩
  · exact ⟨s.regs, rfl⟩

theorem Pkg.canGrade_cnt (d o : Nat) : (s.canGrade c).cnt d o = s.cnt d o := by obtain ⟨rs, h⟩ := s.canGrade_form c; rw [h]; rfl
theorem Pkg.canGrade_trestle (t : Nat) : (s.canGrade c).trestle t = s.trestle t := by obtain ⟨rs, h⟩ := s.canGrade_form c; rw [h]; rfl
theorem Pkg.canGrade_busStamp (n : Nat) : (s.canGrade c).busStamp n = s.busStamp n := by obtain ⟨rs, h⟩ := s.canGrade_form c; rw [h]; rfl
theorem Pkg.canGrade_bus : (s.canGrade c).bus = s.bus := by obtain ⟨rs, h⟩ := s.canGrade_form c; rw [h]
theorem Pkg.canGrade_out : (s.canGrade c).out = s.out := by obtain ⟨rs, h⟩ := s.canGrade_form c; rw [h]

/-- The fields apart from the error state, such as the error counters, stay. -/
theorem Pkg.canGrade_get (hf : f.off ≠ (fCanState c).off ∨ 17 < f.lo ∨ f.hi < 16) : (s.canGrade c).get 15 f = s.get 15 f := by
  rw [Pkg.canGrade_eq, Pkg.putIf]
  split
  · exact s.get_put_apart _ hf
  · rfl

/-- No word of a CAN channel says which way is open. -/
theorem canOff_notWay {c o : Nat} (hc : c < 12) (ho : o < 0x100) : ¬ wayWord (canOff c o) := by
  simp only [wayWord, canOff]; omega

theorem SameWays.canGrade (h : SameWays p q) (hc : c < 12) : SameWays p (q.canGrade c) := by
  rw [Pkg.canGrade_eq]; exact h.putIf (canOff_notWay hc (by decide))

/-- The channel has its error state graded and goes for the bus anew. -/
def Pkg.canAnew (s : Pkg) (c : Nat) : Pkg := ((s.canGrade c).canBack c).canKick c

theorem Pkg.canAnew_requeues (s : Pkg) (c : Nat) : Requeues c (s.canGrade c) (s.canAnew c) := (Requeues.canBack c _).trans (Requeues.canKick c _)

/-- The words and the counter that a CAN event moves: the one of the error counters and the error state, and the buffer's fill. -/
abbrev canWords (c : Nat) (f : Fld) : List Nat := [pkgAddr 15 f.off, pkgAddr 15 (fCanState c).off, pkgAddr 15 (fTxqUsed c).off]

theorem Requeues.among (h : Requeues c p q) : Touches p q (canWords c f) C := h.touches.mono (by simp) (by simp)

end

/-! ### CAN: errors (R182) -/

section
variable {s : State} {c at_ : Nat} {f : Fld} {v : Nat}

/-- An error counted, with the error counter it moves. -/
def Pkg.canErred (s : Pkg) (c : Nat) (f : Fld) (v : Nat) : Pkg := ((s.bump 15 (oCanErr c)).put 15 f v).canAnew c

theorem Pkg.canError_receiver (s : Pkg) (c k : Nat) : s.canError c k false = s.canErred c (fCanRec c) (min 255 (s.get 15 (fCanRec c) + 1)) := (rfl)

theorem Pkg.canError_transmitter (s : Pkg) (c : Nat) {k : Nat} (hk : k ≠ 3) :
    s.canError c k true = s.canErred c (fCanTec c) (min 255 (s.get 15 (fCanTec c) + 8)) := by
  simp only [Pkg.canError, if_true, hk, false_and, if_false, beq_false_of_ne hk, Bool.false_and, Bool.false_eq_true]
  rfl

/-- An error on a channel that listens, told by the error counter it moves. -/
theorem busFrameError_counts {e : BusErr} (hc : e.bus < 12) (hl : s.pkg.canListens e.bus = true)
    (he : (s.pkg.reach at_).canError e.bus e.kind e.tx = (s.pkg.reach at_).canErred e.bus f v) (hf : f.off = (fCanState e.bus).off) (hhi : f.hi < 16)
    (hv : v < 2 ^ (f.hi + 1 - f.lo)) : Runs (.busFrameError e at_) s (fun t =>
      t.pkg.get 15 f = v ∧ t.pkg.cnt 15 (oCanErr e.bus) = s.pkg.cnt 15 (oCanErr e.bus) + 1 ∧ Frame s t (canWords e.bus f) [pkgAddr 15 (oCanErr e.bus)]) := by
  have heff : busFrameError e at_ s.pkg = (s.pkg.reach at_).canErred e.bus f v := by
    rw [busFrameError, if_pos hc]
    exact (Pkg.when_pos _ _ hl).trans he
  have hanew := (((s.pkg.reach at_).bump 15 (oCanErr e.bus)).put 15 f v).canAnew_requeues e.bus
  refine runs_becomes rfl heff ⟨?_, ?_, Touches.finishes ?_⟩
  · rw [State.finish_pkg_get, State.map_pkg, Pkg.canErred, hanew.get (by rw [hf]; simp [fCanState, fTxqUsed, canOff]),
      Pkg.canGrade_get (Or.inr (Or.inr hhi)), Pkg.get_put_same _ _ _ _ (by omega), Nat.mod_eq_of_lt hv]
  · rw [State.finish_pkg_cnt, State.map_pkg, Pkg.canErred, hanew.cnt, Pkg.canGrade_cnt, Pkg.put_cnt, Pkg.cnt_bump_same, Pkg.reach_cnt]
  · exact ((((Touches.refl _ _ _).reach.bump (by simp)).put (by simp)).canGrade (by simp)).trans hanew.among

end

/-! ### LIN and FlexRay: errors (R182) -/

/-- A missing response and a checksum error have a counter each. -/
def linErrorCounter (e : BusErr) : Nat := if e.kind = 0 then oLinNoResponse (e.bus - 16) else oLinChecksum (e.bus - 16)

theorem busFrameError_lin {s : State} {e : BusErr} {at_ : Nat} (h16 : 16 ≤ e.bus) (h22 : e.bus < 22) (hl : s.pkg.linUp (e.bus - 16) = true) :
    Runs (.busFrameError e at_) s (fun t =>
      t.pkg.cnt 15 (linErrorCounter e) = s.pkg.cnt 15 (linErrorCounter e) + 1 ∧ Frame s t [] [pkgAddr 15 (linErrorCounter e)]) := by
  have heff : busFrameError e at_ s.pkg = (s.pkg.reach at_).bump 15 (linErrorCounter e) := by
    rw [busFrameError, if_neg (by omega), if_pos ⟨h16, h22⟩]
    exact Pkg.when_pos _ _ hl
  refine runs_becomes rfl heff ⟨?_, ((Touches.refl _ _ _).reach.bump (List.mem_singleton.2 rfl)).finishes⟩
  rw [State.finish_pkg_cnt, State.map_pkg, Pkg.cnt_bump_same, Pkg.reach_cnt]

theorem busFrameError_flexray {s : State} {e : BusErr} {at_ : Nat} (hb : e.bus = 24 ∨ e.bus = 25) (hen : s.pkg.on 15 fFrEnable = true) :
    Runs (.busFrameError e at_) s (fun t =>
      t.pkg.cnt 15 oFrSyntax = s.pkg.cnt 15 oFrSyntax + 1 ∧ Frame s t [] [pkgAddr 15 oFrSyntax]) := by
  have heff : busFrameError e at_ s.pkg = (s.pkg.reach at_).bump 15 oFrSyntax := by
    rw [busFrameError, if_neg (by omega), if_neg (by omega), if_pos hb]
    exact Pkg.when_pos _ _ hen
  refine runs_becomes rfl heff ⟨?_, ((Touches.refl _ _ _).reach.bump (List.mem_singleton.2 rfl)).finishes⟩
  rw [State.finish_pkg_cnt, State.map_pkg, Pkg.cnt_bump_same, Pkg.reach_cnt]

/-! ### Reception (R182, R183) -/

/-- REC after a good frame (ISO 11898-1). -/
def Pkg.recAfter (s : Pkg) (c : Nat) : Nat := if 127 < s.get 15 (fCanRec c) then 127 else s.get 15 (fCanRec c) - 1

theorem Pkg.recAfter_lt (s : Pkg) (c : Nat) : s.recAfter c < 256 := by
  have hlt : s.get 15 (fCanRec c) < 256 := fieldGet_lt _ _ _
  unfold Pkg.recAfter
  split <;> omega

/-- A good frame on a CAN channel: it is counted, and the error counter and the error state follow. -/
def Pkg.canHeard (s : Pkg) (c : Nat) : Pkg := ((s.bump 15 (oCanRx c)).put 15 (fCanRec c) (s.recAfter c)).canGrade c

section
variable {p q s : Pkg} {c : Nat} {W C : List Nat}

theorem SameWays.canHeard (h : SameWays p q) (hc : c < 12) : SameWays p (q.canHeard c) := (h.bump.put (canOff_notWay hc (by decide))).canGrade hc

theorem Pkg.canHeard_rec (s : Pkg) (c : Nat) : (s.canHeard c).get 15 (fCanRec c) = s.recAfter c := by
  rw [Pkg.canHeard, Pkg.canGrade_get (Or.inr (Or.inr (show 15 < 16 by decide))), Pkg.get_put_same _ _ _ _ (show 15 < 32 by decide)]
  exact Nat.mod_eq_of_lt (s.recAfter_lt c)

theorem Pkg.canHeard_cnt (s : Pkg) (c : Nat) : (s.canHeard c).cnt 15 (oCanRx c) = s.cnt 15 (oCanRx c) + 1 := by
  rw [Pkg.canHeard, Pkg.canGrade_cnt, Pkg.put_cnt, Pkg.cnt_bump_same]

theorem Pkg.canHeard_ring (s : Pkg) (c : Nat) : (s.canHeard c).get 15 (fRing c) = s.get 15 (fRing c) := by
  rw [Pkg.canHeard, Pkg.canGrade_get (Or.inl (by simp only [fRing, nmOff, fCanState, canOff]; omega)),
    Pkg.get_put_off _ _ (by simp only [fRing, nmOff, fCanRec, canOff]; omega), Pkg.bump_get]

theorem Touches.canHeard (h : Touches p q W C) (hw : pkgAddr 15 (fCanRec c).off ∈ W) (hc : pkgAddr 15 (oCanRx c) ∈ C) :
    Touches p (q.canHeard c) W C := ((h.bump hc).put hw).canGrade hw

/-- While the channel prepares no sleep, the message goes on to the trestle, and the channel goes for the bus anew. -/
theorem Pkg.canReceive_eq {m : BusMsg} {start : Nat} (hr : s.get 15 (fRing c) ≠ rPrepare) :
    s.canReceive c m start = (((s.canHeard c).canBack c).toTrestle (toMsg m (s.busStamp start))).canKick c := by
  have hring : ¬ ((s.canHeard c).get 15 (fRing c) = rPrepare ∧ (s.canHeard c).on 15 (fRxAborts c) = true) := by
    rw [Pkg.canHeard_ring]; exact fun h => hr h.1
  have hstamp : (s.canHeard c).busStamp start = s.busStamp start := Pkg.canGrade_busStamp start
  rw [← hstamp]
  exact congrArg (fun x : Pkg => ((x.canBack c).toTrestle (toMsg m (x.busStamp start))).canKick c) (if_neg hring)

end

section
variable {s : State} {m : BusMsg} {start at_ : Nat} (hup : s.pkg.pathUp 15 s.pkg.steward = true) (hin : s.pkg.inService s.pkg.steward = true)
  (hp : s.pkg.pausing = false)
include hup hin hp

theorem busFrameRx_can (hc : m.bus < 12) (hl : s.pkg.canListens m.bus = true) (hr : s.pkg.get 15 (fRing m.bus) ≠ rPrepare) :
    Runs (.busFrameRx m false ⟨start, at_⟩) s (fun t =>
      SMap.get [] (t.pkg.trestle s.pkg.steward).inq m.bus = SMap.get [] (s.pkg.trestle s.pkg.steward).inq m.bus ++ [toMsg m (s.pkg.busStamp start)] ∧
      t.pkg.cnt 15 (oCanRx m.bus) = s.pkg.cnt 15 (oCanRx m.bus) + 1 ∧
      t.pkg.get 15 (fCanRec m.bus) = s.pkg.recAfter m.bus ∧ Frame s t (canWords m.bus (fCanRec m.bus)) [pkgAddr 15 (oCanRx m.bus)]) := by
  have hback := Requeues.canBack m.bus ((s.pkg.reach at_).canHeard m.bus)
  have harr := Pkg.toTrestle_arrives (m := toMsg m (s.pkg.busStamp start)) (((SameWays.refl _).reach.canHeard hc).trans (hback.sameWays hc))
    (fun t => (hback.trestle t).trans (Pkg.canGrade_trestle t)) hup hin hp
  have heff : busFrameRx m false start at_ s.pkg =
      ((((s.pkg.reach at_).canHeard m.bus).canBack m.bus).setTrestle s.pkg.steward
        ((s.pkg.trestle s.pkg.steward).arrived (toMsg m (s.pkg.busStamp start)))).canKick m.bus := by
    rw [← harr, busFrameRx, if_pos hc]
    exact (Pkg.when_pos _ _ hl).trans (Pkg.canReceive_eq hr)
  have hkick := Requeues.canKick m.bus ((((s.pkg.reach at_).canHeard m.bus).canBack m.bus).setTrestle s.pkg.steward
    ((s.pkg.trestle s.pkg.steward).arrived (toMsg m (s.pkg.busStamp start))))
  have hfill : (fCanRec m.bus).off ≠ (fTxqUsed m.bus).off := by simp [fCanRec, fTxqUsed, canOff]
  refine runs_becomes rfl heff ⟨s.arrived_inq (toMsg m _) ((hkick.trestle _).trans (Pkg.trestle_setTrestle_same _ _ _)), ?_, ?_, Touches.finishes ?_⟩
  · rw [State.finish_pkg_cnt, State.map_pkg, hkick.cnt, Pkg.setTrestle_cnt, hback.cnt, Pkg.canHeard_cnt, Pkg.reach_cnt]
  · rw [State.finish_pkg_get, State.map_pkg, hkick.get hfill, Pkg.setTrestle_get, hback.get hfill, Pkg.canHeard_rec]
    rfl
  · have hheard : Touches s.pkg ((s.pkg.reach at_).canHeard m.bus) (canWords m.bus (fCanRec m.bus)) [pkgAddr 15 (oCanRx m.bus)] :=
      (Touches.refl _ _ _).reach.canHeard (by simp) (by simp)
    exact (hheard.trans hback.among).setTrestle.trans hkick.among

theorem busFrameRx_lin (h16 : 16 ≤ m.bus) (h22 : m.bus < 22) (hl : s.pkg.linUp (m.bus - 16) = true)
    (hv : fieldGet (s.pkg.linFrame (m.bus - 16) m.id) 31 31 = 1) (hs : fieldGet (s.pkg.linFrame (m.bus - 16) m.id) 6 6 = 1) :
    Runs (.busFrameRx m false ⟨start, at_⟩) s (fun t =>
      SMap.get [] (t.pkg.trestle s.pkg.steward).inq m.bus = SMap.get [] (s.pkg.trestle s.pkg.steward).inq m.bus ++ [toMsg m (s.pkg.busStamp start)] ∧
      t.pkg.get 15 (fLinLastId (m.bus - 16)) = m.id % 64 ∧
      Frame s t [pkgAddr 15 (fLinLastId (m.bus - 16)).off] [pkgAddr 15 (oLinRx (m.bus - 16))]) := by
  have hnot : ¬ wayWord (fLinLastId (m.bus - 16)).off := by simp only [wayWord, fLinLastId, linOff]; omega
  have harr := Pkg.toTrestle_arrives (m := toMsg m (s.pkg.busStamp start))
    ((((SameWays.refl s.pkg).reach (n := at_)).put (v := m.id % 64) (d := 15) hnot).bump (d := 15) (o := oLinRx (m.bus - 16))) (fun _ => rfl)
    hup hin hp
  have heff := calc busFrameRx m false start at_ s.pkg
    _ = (((s.pkg.reach at_).put 15 (fLinLastId (m.bus - 16)) (m.id % 64)).bump 15 (oLinRx (m.bus - 16))).toTrestle (toMsg m (s.pkg.busStamp start)) := by
      rw [busFrameRx, if_neg (by omega), if_pos (And.intro h16 h22)]
      refine (Pkg.when_pos _ _ hl).trans ?_
      exact if_pos (And.intro hv hs)
    _ = _ := harr
  refine runs_becomes rfl heff ⟨s.arrived_inq (toMsg m _) (Pkg.trestle_setTrestle_same _ _ _), ?_, Touches.finishes ?_⟩
  · rw [State.finish_pkg_get, State.map_pkg, Pkg.setTrestle_get, Pkg.bump_get, Pkg.get_put_same _ _ _ _ (show 13 < 32 by decide)]
    exact Nat.mod_mod _ _
  · exact (((Touches.refl _ _ _).reach.put (List.mem_singleton.2 rfl)).bump (List.mem_singleton.2 rfl)).setTrestle

theorem busFrameRx_flexray (hb : m.bus = 24 ∨ m.bus = 25) (hen : s.pkg.on 15 fFrEnable = true)
    (hpoc : s.pkg.get 15 fFrPoc = 3 ∨ s.pkg.get 15 fFrPoc = 4) :
    Runs (.busFrameRx m false ⟨start, at_⟩) s (fun t =>
      SMap.get [] (t.pkg.trestle s.pkg.steward).inq m.bus = SMap.get [] (s.pkg.trestle s.pkg.steward).inq m.bus ++ [toMsg m (s.pkg.busStamp start)] ∧
      t.pkg.cnt 15 oFrRx = s.pkg.cnt 15 oFrRx + 1 ∧ Frame s t [] [pkgAddr 15 oFrRx]) := by
  have harr := Pkg.toTrestle_arrives (m := toMsg m (s.pkg.busStamp start)) (((SameWays.refl s.pkg).reach (n := at_)).bump (d := 15) (o := oFrRx))
    (fun _ => rfl) hup hin hp
  have hopen : (!false && (s.pkg.reach at_).on 15 fFrEnable && ((s.pkg.reach at_).get 15 fFrPoc == 3 || (s.pkg.reach at_).get 15 fFrPoc == 4)) = true := by
    simp [hen, hpoc]
  have heff := calc busFrameRx m false start at_ s.pkg
    _ = ((s.pkg.reach at_).bump 15 oFrRx).toTrestle (toMsg m (s.pkg.busStamp start)) := by
      rw [busFrameRx, if_neg (by omega), if_neg (by omega), if_pos hb]
      exact Pkg.when_pos _ _ hopen
    _ = _ := harr
  refine runs_becomes rfl heff ⟨s.arrived_inq (toMsg m _) (Pkg.trestle_setTrestle_same _ _ _), ?_,
    ((Touches.refl _ _ _).reach.bump (List.mem_singleton.2 rfl)).setTrestle.finishes⟩
  rw [State.finish_pkg_cnt, State.map_pkg, Pkg.setTrestle_cnt, Pkg.cnt_bump_same, Pkg.reach_cnt]

end

/-! ### CAN: transmission, bus-off, recovery (R184) -/

section
variable {s : State} {c at_ : Nat} {e : Posted}

/-- TEC after a frame sent, and the error state that follows. -/
def Pkg.canEased (s : Pkg) (c : Nat) : Pkg := (s.put 15 (fCanTec c) (s.get 15 (fCanTec c) - 1)).canGrade c

theorem Pkg.canEased_tec (s : Pkg) (c : Nat) : (s.canEased c).get 15 (fCanTec c) = s.get 15 (fCanTec c) - 1 := by
  have hlt : s.get 15 (fCanTec c) < 256 := fieldGet_lt _ _ _
  rw [Pkg.canEased, Pkg.canGrade_get (Or.inr (Or.inr (show 7 < 16 by decide))), Pkg.get_put_same _ _ _ _ (show 7 < 32 by decide)]
  exact Nat.mod_eq_of_lt (show _ < 256 by omega)

/-- The message in transmission is on the bus and out of its buffer; its credit is free. -/
def Pkg.canSent (s : Pkg) (c : Nat) (e : Posted) : Pkg :=
  let q := s.setBusQueue c ((s.busQueue c).filter fun x => x.id != e.id)
  ((q.setCreditsOwed c (q.creditsOwed c + 1)).bump 15 (oCanTx c)).emit (.bus (e.msg.toBus c))

section
variable {p q : Pkg} {W C : List Nat}

theorem Pkg.canSent_gone (s : Pkg) (c : Nat) (e : Posted) : ∀ x ∈ (s.canSent c e).busQueue c, x.id ≠ e.id := fun x hx => by
  have hqueue : (s.canSent c e).busQueue c = (s.busQueue c).filter fun x => x.id != e.id := Pkg.busQueue_setBusQueue_same
  exact filter_id_ne (hqueue ▸ hx)

theorem Pkg.canSent_out (s : Pkg) (c : Nat) (e : Posted) : (s.canSent c e).out = s.out ++ [.bus (e.msg.toBus c)] :=
  congrArg (· ++ _) Pkg.setBusQueue_out

theorem Pkg.canSent_credit (s : Pkg) (c : Nat) (e : Posted) : (s.canSent c e).creditsOwed c = s.creditsOwed c + 1 :=
  (Pkg.creditsOwed_setCreditsOwed_same _ _ _).trans (congrArg (· + 1) (Pkg.setBusQueue_creditsOwed c))

theorem Pkg.canSent_cnt (s : Pkg) (c : Nat) (e : Posted) : (s.canSent c e).cnt 15 (oCanTx c) = s.cnt 15 (oCanTx c) + 1 := by
  have hqueue := s.setBusQueue_cnt (b := c) (l := (s.busQueue c).filter fun x => x.id != e.id) 15 (oCanTx c)
  rw [Pkg.canSent, Pkg.emit_cnt, Pkg.cnt_bump_same, ← hqueue]
  rfl

theorem Touches.canSent (h : Touches p q W C) (hw : pkgAddr 15 (fTxqUsed c).off ∈ W) (hc : pkgAddr 15 (oCanTx c) ∈ C) :
    Touches p (q.canSent c e) W C := ((h.setBusQueue fun _ => hw).setCreditsOwed.bump hc).emit

/-- The error counters are not concerned. -/
theorem Pkg.canSent_tec (s : Pkg) (c : Nat) (e : Posted) : (s.canSent c e).get 15 (fCanTec c) = s.get 15 (fCanTec c) := by
  have hsent : Touches s (s.canSent c e) [pkgAddr 15 (fTxqUsed c).off] [pkgAddr 15 (oCanTx c)] := (Touches.refl _ _ _).canSent (by simp) (by simp)
  exact congrArg (fieldGet · 7 0) (hsent.words 15 (fCanTec c).off (by simp [pkgAddr, fCanTec, fTxqUsed, canOff]))

end

theorem canTxDone_eq {p : Pkg} (hc : c < 12) (hs : p.canSends c = true) (he : (p.busQueue c).find? (·.started) = some e) :
    canTxDone c at_ p = (((p.reach at_).canEased c).canSent c e).canKick c := by
  have hbus : ((p.reach at_).canEased c).bus = p.bus := Pkg.canGrade_bus
  have hfind : (((p.reach at_).canEased c).busQueue c).find? (·.started) = some e := by rw [Pkg.busQueue, hbus]; exact he
  have hsend : (decide (c < 12) && p.canSends c) = true := Bool.and_eq_true_iff.2 ⟨decide_eq_true hc, hs⟩
  rw [canTxDone, Pkg.when_pos _ _ hsend]
  change (match (((p.reach at_).canEased c).busQueue c).find? (·.started) with | some e => _ | none => _) = _
  rw [hfind]
  rfl

theorem canTxDone_sends (hc : c < 12) (hs : s.pkg.canSends c = true) (he : (s.pkg.busQueue c).find? (·.started) = some e) :
    Runs (.canTxDone c at_) s (fun t =>
      (∀ x ∈ t.pkg.busQueue c, x.id ≠ e.id) ∧ (s.pkg.out ++ [.bus (e.msg.toBus c)]) <+: t.pkg.out ∧
      t.pkg.creditsOwed c = s.pkg.creditsOwed c + 1 ∧ t.pkg.get 15 (fCanTec c) = s.pkg.get 15 (fCanTec c) - 1 ∧
      t.pkg.cnt 15 (oCanTx c) = s.pkg.cnt 15 (oCanTx c) + 1 ∧ Frame s t (canWords c (fCanTec c)) [pkgAddr 15 (oCanTx c)]) := by
  have hkick := Requeues.canKick c (((s.pkg.reach at_).canEased c).canSent c e)
  have hfill : (fCanTec c).off ≠ (fTxqUsed c).off := by simp [fCanTec, fTxqUsed, canOff]
  refine runs_becomes rfl (canTxDone_eq hc hs he) ⟨?_, s.out_prefix_becomes ?_, ?_, ?_, ?_, Touches.finishes ?_⟩
  · rw [State.finish_busQueue, State.map_pkg]
    exact ids_of_postedOf hkick.holds (Pkg.canSent_gone _ c e)
  · rw [hkick.out, Pkg.canSent_out, Pkg.canEased, Pkg.canGrade_out, Pkg.put_out, Pkg.reach_out]
  · rw [State.finish_creditsOwed, State.map_pkg, hkick.creditsOwed, Pkg.canSent_credit, Pkg.creditsOwed, Pkg.canEased, Pkg.canGrade_bus]
    rfl
  · rw [State.finish_pkg_get, State.map_pkg, hkick.get hfill, Pkg.canSent_tec, Pkg.canEased_tec, Pkg.reach_get]
  · rw [State.finish_pkg_cnt, State.map_pkg, hkick.cnt, Pkg.canSent_cnt, Pkg.canEased, Pkg.canGrade_cnt, Pkg.put_cnt, Pkg.reach_cnt]
  · exact ((((Touches.refl _ _ _).reach.put (by simp)).canGrade (by simp)).canSent (by simp) (by simp)).trans hkick.among

theorem canBusOff_keeps (hc : c < 12) (hl : s.pkg.canListens c = true) :
    Runs (.canBusOff c at_) s (fun t =>
      t.pkg.get 15 (fCanState c) = 2 ∧ (t.pkg.busQueue c).map (·.msg) = (s.pkg.busQueue c).map (·.msg) ∧
      t.pkg.cnt 15 (oCanBusoff c) = s.pkg.cnt 15 (oCanBusoff c) + 1 ∧
      Frame s t [pkgAddr 15 (fCanState c).off, pkgAddr 15 (fTxqUsed c).off] [pkgAddr 15 (oCanBusoff c)]) := by
  have hback := Requeues.canBack c (s.pkg.reach at_)
  have heff : canBusOff c at_ s.pkg = (((s.pkg.reach at_).canBack c).put 15 (fCanState c) 2).bump 15 (oCanBusoff c) :=
    Pkg.when_pos _ _ (Bool.and_eq_true_iff.2 ⟨decide_eq_true hc, hl⟩)
  refine runs_becomes rfl heff ⟨?_, ?_, ?_, Touches.finishes ?_⟩
  · rw [State.finish_pkg_get, State.map_pkg, Pkg.bump_get, Pkg.get_put_same _ _ _ _ (show 17 < 32 by decide)]
    rfl
  · rw [State.finish_busQueue]
    exact msgs_of_postedOf hback.holds
  · rw [State.finish_pkg_cnt, State.map_pkg, Pkg.cnt_bump_same, Pkg.put_cnt, hback.cnt, Pkg.reach_cnt]
  · exact (((Touches.refl _ _ _).reach.trans (hback.touches.mono (by simp) (by simp))).put (by simp)).bump (by simp)

/-- A controller that has left bus-off: error active, both error counters 0. -/
def Pkg.canFresh (s : Pkg) (c : Nat) : Pkg := ((s.put 15 (fCanState c) 0).put 15 (fCanTec c) 0).put 15 (fCanRec c) 0

theorem Pkg.canRejoin_off {p : Pkg} (h : p.get 15 (fCanState c) = 2) : p.canRejoin c = (p.canFresh c).canKick c := if_pos h

/-- The words that a controller's way back changes. -/
abbrev rejoinWords (c : Nat) : List Nat :=
  [pkgAddr 15 (fCanTec c).off, pkgAddr 15 (fCanRec c).off, pkgAddr 15 (fCanState c).off, pkgAddr 15 (fTxqUsed c).off]

/-- What holds once a controller has rejoined its bus. -/
theorem Pkg.canRejoin_active {p : Pkg} (h : p.get 15 (fCanState c) = 2) :
    (p.canRejoin c).get 15 (fCanState c) = 0 ∧ (p.canRejoin c).get 15 (fCanTec c) = 0 ∧ (p.canRejoin c).get 15 (fCanRec c) = 0 ∧
      Touches p (p.canRejoin c) (rejoinWords c) [] := by
  have hkick := Requeues.canKick c (p.canFresh c)
  have hoff : canOff c 0x18 ≠ (fTxqUsed c).off := by simp [fTxqUsed, canOff]
  rw [Pkg.canRejoin_off h]
  refine ⟨?_, ?_, ?_, ((((Touches.refl _ _ _).put (by simp)).put (by simp)).put (by simp)).trans (hkick.touches.mono (by simp) (by simp))⟩
  · rw [hkick.get hoff, Pkg.canFresh, Pkg.get_put_beside (f := fCanRec c) (f' := fCanState c) _ _ rfl (Or.inl (show 15 < 16 by decide)),
      Pkg.get_put_beside (f := fCanTec c) (f' := fCanState c) _ _ rfl (Or.inl (show 7 < 16 by decide)),
      Pkg.get_put_same _ _ _ _ (show 17 < 32 by decide), Nat.zero_mod]
  · rw [hkick.get hoff, Pkg.canFresh, Pkg.get_put_beside (f := fCanRec c) (f' := fCanTec c) _ _ rfl (Or.inr (show 7 < 8 by decide)),
      Pkg.get_put_same _ _ _ _ (show 7 < 32 by decide), Nat.zero_mod]
  · rw [hkick.get hoff, Pkg.canFresh, Pkg.get_put_same _ _ _ _ (show 15 < 32 by decide), Nat.zero_mod]

/-- RECOVER as the effect on the package (R184). -/
theorem recover_eq {a : Acc} {v : Word} (hc : c < 12) (hv : v.getLsbD 0 = true) :
    exec (.recover a c v) s = .next (s.regWrite a 15 (0x40014 + 0x100 * c) v).finish ∧
      (s.remembered a 15 (0x40014 + 0x100 * c) v).writeSentinel a.req (0x40014 + 0x100 * c) v 15 =
        (s.remembered a 15 (0x40014 + 0x100 * c) v).canRejoin c := by
  refine ⟨?_, (writeSentinel_recover _ _ _ hc).trans (if_pos hv)⟩
  have hwrite : s.regWriteIf (decide (c < 12)) a 15 (0x40014 + 0x100 * c) v = s.regWrite a 15 (0x40014 + 0x100 * c) v := by
    simp [State.regWriteIf, hc]
  rw [← hwrite]
  rfl

theorem recover_rejoins {a : Acc} {v : Word} (hc : c < 12) (ho : s.pkg.get 15 (fCanState c) = 2) (h : s.pkg.reaches a.req 15 (0x40014 + 0x100 * c) v)
    (hv : v.getLsbD 0 = true) : Runs (.recover a c v) s (fun t =>
      t.pkg.get 15 (fCanState c) = 0 ∧ t.pkg.get 15 (fCanTec c) = 0 ∧ t.pkg.get 15 (fCanRec c) = 0 ∧ Frame s t (rejoinWords c) []) := by
  obtain ⟨hexec, heff⟩ := recover_eq (s := s) (a := a) hc hv
  obtain ⟨hstate, htec, hrec, htouch⟩ := Pkg.canRejoin_active (p := s.remembered a 15 (0x40014 + 0x100 * c) v)
    ((Pkg.remember_get ..).trans ho)
  refine runs_sentinelWrite h (by omega) hexec (fun _ => (s.remembered a 15 (0x40014 + 0x100 * c) v).canRejoin c) heff ⟨?_, ?_, ?_, frame_remember htouch⟩
  all_goals rw [State.finish_pkg_get, State.map_pkg]
  · exact hstate
  · exact htec
  · exact hrec

theorem canAutoRecover_rejoins (hc : c < 12) (ho : s.pkg.get 15 (fCanState c) = 2) (ha : s.pkg.on 15 (fCanAuto c) = true) :
    Runs (.canAutoRecover c at_) s (fun t =>
      t.pkg.get 15 (fCanState c) = 0 ∧ t.pkg.get 15 (fCanTec c) = 0 ∧ t.pkg.get 15 (fCanRec c) = 0 ∧ Frame s t (rejoinWords c) []) := by
  obtain ⟨hstate, htec, hrec, htouch⟩ := Pkg.canRejoin_active (p := s.pkg.reach at_) ho
  have heff : canAutoRecover c at_ s.pkg = (s.pkg.reach at_).canRejoin c := Pkg.when_pos _ _ (Bool.and_eq_true_iff.2 ⟨decide_eq_true hc, ha⟩)
  refine runs_becomes rfl heff ⟨?_, ?_, ?_, ((Touches.refl _ _ _).reach.trans htouch).finishes⟩
  all_goals rw [State.finish_pkg_get, State.map_pkg]
  · exact hstate
  · exact htec
  · exact hrec

end

/-- Settles O25: a frame by the kind of its bus, an error by the counter it moves, a CAN channel's transmission and bus-off by what its buffer holds. -/
theorem busFramesAndErrors : Obligations.BusFramesAndErrors := by
  unfold Obligations.BusFramesAndErrors
  refine ⟨fun m start at_ s hup hin hp => ⟨busFrameRx_can hup hin hp, busFrameRx_lin hup hin hp, busFrameRx_flexray hup hin hp⟩,
    fun e at_ s => ⟨fun hc hl => ⟨fun hrx => ?_, fun htx hk => ?_⟩, busFrameError_lin, busFrameError_flexray⟩,
    fun c at_ s hc => ⟨fun e => canTxDone_sends hc, canBusOff_keeps hc, fun ho => ⟨canAutoRecover_rejoins hc ho, fun a v => recover_rejoins hc ho⟩⟩⟩
  · exact busFrameError_counts hc hl (by rw [hrx, Pkg.canError_receiver]; rfl) rfl (show 15 < 16 by decide) (show _ < 256 by omega)
  · exact busFrameError_counts hc hl (by rw [htx, Pkg.canError_transmitter _ _ hk]; rfl) rfl (show 7 < 16 by decide) (show _ < 256 by omega)

end Sys2Proof.Machine
end

section
/-! PROOFS. Credits, lifetimes and the slots of LIN and FlexRay (R181, R209, R210, R216): what O28 asks. -/
namespace Sys2Proof.Machine

/-! ### Credits (R209) -/

theorem busCreditReturn_returns {s : State} {buf : BusBuf} {at_ : Nat} (hup : s.pkg.pathUp 15 s.pkg.steward = true)
    (ho : s.pkg.creditsOwed (bufQueue buf) ≠ 0) : Runs (.busCreditReturn buf at_) s (fun t =>
      t.pkg.creditsOwed (bufQueue buf) = s.pkg.creditsOwed (bufQueue buf) - 1 ∧ t.pkg.creditsUsed (bufQueue buf) = s.pkg.creditsUsed (bufQueue buf) - 1 ∧
      Frame s t [] []) := by
  have heff : busCreditReturn buf at_ s.pkg = ((s.pkg.reach at_).setCreditsOwed (bufQueue buf) (s.pkg.creditsOwed (bufQueue buf) - 1)).setCreditsUsed
      (bufQueue buf) (s.pkg.creditsUsed (bufQueue buf) - 1) := Pkg.when_pos _ _ (Bool.and_eq_true_iff.2 ⟨hup, bne_iff_ne.2 ho⟩)
  refine runs_becomes rfl heff ⟨?_, ?_, (Touches.refl _ _ _).reach.setCreditsOwed.setCreditsUsed.finishes⟩
  · rw [State.finish_creditsOwed]
    exact Pkg.creditsOwed_setCreditsOwed_same _ _ _
  · rw [State.finish_creditsUsed, State.map_pkg, Pkg.creditsUsed_setCreditsUsed_same]

/-! ### Lifetimes (R210, R212) -/

section
variable {p q : Pkg} {buf : BusBuf} {idx l : Nat} {e : Posted}

/-- An expiry concerns counters alone. -/
theorem Pkg.countExpired_form (s : Pkg) (bus : Nat) : ∃ k, s.countExpired bus = { s with ctr := k } := by
  unfold Pkg.countExpired
  dsimp only
  split
  · exact ⟨_, rfl⟩
  · split
    · exact ⟨_, rfl⟩
    · exact ⟨_, rfl⟩

/-- A counter of discards is none of the sentinel's two counters of expiries. -/
theorem Pkg.countExpired_counts (s : Pkg) (bus : Nat) :
    (s.countExpired bus).cnt s.steward (oTrDisc tTxExpired) = s.cnt s.steward (oTrDisc tTxExpired) + 1 := by
  have hdisc : (s.trDisc s.steward tTxExpired).cnt s.steward (oTrDisc tTxExpired) = s.cnt s.steward (oTrDisc tTxExpired) + 1 := Pkg.cnt_bump_same _ _ _
  unfold Pkg.countExpired
  dsimp only
  split
  · rw [Pkg.cnt_bump_ne _ (by simp only [pkgAddr, oTrDisc, tTxExpired, oCanExpired, canOff]; omega), hdisc]
  · split
    · rw [Pkg.cnt_bump_ne _ (by simp only [pkgAddr, oTrDisc, tTxExpired, oFrExpired]; omega), hdisc]
    · exact hdisc

/-- A queued message has left its buffer at the end of its life; its credit is free and the expiry is counted. -/
def Pkg.queueExpired (s : Pkg) (buf : BusBuf) (idx l : Nat) : Pkg :=
  let q := (s.reachFrac l).setBusQueue (bufQueue buf) ((s.busQueue (bufQueue buf)).filter fun x => x.id != idx)
  (q.setCreditsOwed (bufQueue buf) (q.creditsOwed (bufQueue buf) + 1)).countExpired buf.bus

theorem txExpired_queued {held : Bool} (hq : (if held && decide (buf.bus < 12) then p.canBack buf.bus else p) = q)
    (he : (q.busQueue (bufQueue buf)).find? (fun e => e.id == idx && !e.started) = some e) (hl : e.life = some l) :
    txExpired buf idx held p = q.queueExpired buf idx l := by
  obtain ⟨id, msg, life, started⟩ := e
  subst hl
  simp only [txExpired, hq, he]
  rfl

theorem Pkg.queueExpired_leaves (s : Pkg) (buf : BusBuf) (idx l : Nat) :
    (∀ x ∈ (s.queueExpired buf idx l).busQueue (bufQueue buf), x.id ≠ idx) ∧
      (s.queueExpired buf idx l).creditsOwed (bufQueue buf) = s.creditsOwed (bufQueue buf) + 1 ∧ l ≤ (s.queueExpired buf idx l).now ∧
      (s.queueExpired buf idx l).cnt s.steward (oTrDisc tTxExpired) = s.cnt s.steward (oTrDisc tTxExpired) + 1 := by
  set q := (s.reachFrac l).setBusQueue (bufQueue buf) ((s.busQueue (bufQueue buf)).filter fun x => x.id != idx) with hq
  set r := q.setCreditsOwed (bufQueue buf) (q.creditsOwed (bufQueue buf) + 1) with hr
  have hqueue : q.busQueue (bufQueue buf) = (s.busQueue (bufQueue buf)).filter fun x => x.id != idx := Pkg.busQueue_setBusQueue_same
  have howed : q.creditsOwed (bufQueue buf) = s.creditsOwed (bufQueue buf) := Pkg.setBusQueue_creditsOwed _
  have hsteward : r.steward = s.steward := congrArg ModeSt.steward Pkg.setBusQueue_mode
  have hcnt : r.cnt s.steward (oTrDisc tTxExpired) = s.cnt s.steward (oTrDisc tTxExpired) := Pkg.setBusQueue_cnt _ _
  have hnow : r.now = max s.now l := Pkg.setBusQueue_now
  have hcount := r.countExpired_counts buf.bus
  rw [hsteward, hcnt] at hcount
  refine ⟨?_, ?_, ?_, hcount⟩ <;> obtain ⟨k, hk⟩ := r.countExpired_form buf.bus <;> rw [show s.queueExpired buf idx l = _ from hk]
  · exact fun x hx => filter_id_ne (hqueue ▸ hx)
  · exact (Pkg.creditsOwed_setCreditsOwed_same _ _ _).trans (congrArg (· + 1) howed)
  · exact hnow ▸ Nat.le_max_right _ _

/-- A latest value at the end of its life. -/
theorem txExpired_latest (hf : (p.busQueue (bufQueue buf)).find? (fun e => e.id == idx && !e.started) = none) (he : p.latest buf.bus buf.slot = some e)
    (hid : e.id = idx) (hl : e.life = some l) (hs : e.started = false) :
    txExpired buf idx false p = ((p.reachFrac l).setLatest buf.bus buf.slot none).countExpired buf.bus := by
  obtain ⟨id, msg, life, started⟩ := e
  subst hl hs hid
  simp only [txExpired, Bool.false_and, Bool.false_eq_true, if_false, hf, he, if_true]

/-- With what was begun taken back, a message of this number has not started. -/
theorem Pkg.canBack_find (s : Pkg) {c : Nat} (he : (s.busQueue c).find? (fun e => e.id == idx) = some e) :
    ((s.canBack c).busQueue c).find? (fun e => e.id == idx && !e.started) = some { e with started := false } := by
  have hqueue : (s.canBack c).busQueue c = (s.busQueue c).map fun x => { x with started := false } := Pkg.busQueue_setBusQueue_same
  rw [hqueue, List.find?_map]
  simp [he]

end

section
variable {s : State} {buf : BusBuf} {idx l : Nat} {e : Posted}

/-- What the end of the command leaves of a queued message that has expired. -/
theorem runs_queueExpired {held : Bool} {q : Pkg} (he : txExpired buf idx held s.pkg = q.queueExpired buf idx l) (hm : q.mode = s.pkg.mode)
    (ho : q.creditsOwed (bufQueue buf) = s.pkg.creditsOwed (bufQueue buf)) (hc : ∀ d o, q.cnt d o = s.pkg.cnt d o) :
    Runs (.txExpired buf ⟨idx, held⟩) s (fun t =>
      (∀ x ∈ t.pkg.busQueue (bufQueue buf), x.id ≠ idx) ∧ t.pkg.creditsOwed (bufQueue buf) = s.pkg.creditsOwed (bufQueue buf) + 1 ∧ l ≤ t.pkg.now ∧
      t.pkg.cnt s.pkg.steward (oTrDisc tTxExpired) = s.pkg.cnt s.pkg.steward (oTrDisc tTxExpired) + 1) := by
  obtain ⟨hgone, howed, hnow, hcnt⟩ := q.queueExpired_leaves buf idx l
  have hsteward : q.steward = s.pkg.steward := congrArg ModeSt.steward hm
  rw [ho] at howed
  rw [hsteward, hc] at hcnt
  refine runs_becomes rfl he ⟨?_, ?_, ?_, ?_⟩
  · rw [State.finish_busQueue]; exact hgone
  · rw [State.finish_creditsOwed]; exact howed
  · rw [State.finish_pkg_now]; exact hnow
  · rw [State.finish_pkg_cnt]; exact hcnt

/-- On CAN, while another node's frame holds the bus (R210). -/
theorem txExpired_held (hl : e.life = some l) (hb : buf.bus < 12) (he : (s.pkg.busQueue buf.bus).find? (fun e => e.id == idx) = some e) :
    Runs (.txExpired buf ⟨idx, true⟩) s (fun t =>
      (∀ x ∈ t.pkg.busQueue buf.bus, x.id ≠ idx) ∧ t.pkg.creditsOwed buf.bus = s.pkg.creditsOwed buf.bus + 1 ∧ l ≤ t.pkg.now ∧
      t.pkg.cnt s.pkg.steward (oTrDisc tTxExpired) = s.pkg.cnt s.pkg.steward (oTrDisc tTxExpired) + 1) := by
  have hqueue : bufQueue buf = buf.bus := if_neg (by omega)
  have hback := Requeues.canBack buf.bus s.pkg
  have heff := txExpired_queued (buf := buf) (held := true) (if_pos (by simp [hb])) (by rw [hqueue]; exact s.pkg.canBack_find he)
    (show ({ e with started := false } : Posted).life = some l from hl)
  have hmode : (s.pkg.canBack buf.bus).mode = s.pkg.mode := Pkg.setBusQueue_mode
  simpa only [hqueue] using runs_queueExpired heff hmode (hback.creditsOwed _) hback.cnt

theorem txExpired_waiting (hl : e.life = some l) (he : (s.pkg.busQueue (bufQueue buf)).find? (fun e => e.id == idx && !e.started) = some e) :
    Runs (.txExpired buf ⟨idx, false⟩) s (fun t =>
      (∀ x ∈ t.pkg.busQueue (bufQueue buf), x.id ≠ idx) ∧ t.pkg.creditsOwed (bufQueue buf) = s.pkg.creditsOwed (bufQueue buf) + 1 ∧ l ≤ t.pkg.now ∧
      t.pkg.cnt s.pkg.steward (oTrDisc tTxExpired) = s.pkg.cnt s.pkg.steward (oTrDisc tTxExpired) + 1) :=
  runs_queueExpired (txExpired_queued rfl he hl) rfl rfl fun _ _ => rfl

theorem txExpired_value (hl : e.life = some l) (hs : e.started = false) (hid : e.id = idx)
    (hf : (s.pkg.busQueue (bufQueue buf)).find? (fun e => e.id == idx && !e.started) = none) (he : s.pkg.latest buf.bus buf.slot = some e) :
    Runs (.txExpired buf ⟨idx, false⟩) s (fun t => t.pkg.latest buf.bus buf.slot = none ∧ l ≤ t.pkg.now ∧
        t.pkg.cnt s.pkg.steward (oTrDisc tTxExpired) = s.pkg.cnt s.pkg.steward (oTrDisc tTxExpired) + 1) := by
  set q := (s.pkg.reachFrac l).setLatest buf.bus buf.slot none
  obtain ⟨k, hk⟩ := q.countExpired_form buf.bus
  refine runs_becomes rfl (txExpired_latest hf he hid hl hs) ⟨?_, ?_, ?_⟩
  · rw [State.finish_latest, State.map_pkg, hk]
    exact Pkg.latest_setLatest_same _ _ _ _
  · rw [State.finish_pkg_now, State.map_pkg, hk]
    exact Nat.le_max_right _ _
  · rw [State.finish_pkg_cnt]
    exact q.countExpired_counts buf.bus

end

/-! ### LIN (R216) -/

section
variable {p q s : Pkg} {c id : Nat} {e : Posted} {W C : List Nat}

/-- The value goes out on the bus. -/
def Pkg.linSent (s : Pkg) (c id : Nat) (e : Posted) : Pkg :=
  ((s.setLatest (16 + c) (id % 64) (some { e with started := true })).bump 15 (oLinTx c)).emit (.bus (e.msg.toBus (16 + c)))

theorem Pkg.linRespond_sends (hoff : c ∉ s.bus.linOff) (he : s.latest (16 + c) (id % 64) = some e) : s.linRespond c id = s.linSent c id e := by
  have hon : s.bus.linOff.contains c = false := by simpa using hoff
  simp only [Pkg.linRespond, hon, Bool.false_eq_true, if_false, he]
  rfl

/-- A response sends a value or nothing. -/
theorem Pkg.linRespond_cases (s : Pkg) (c id : Nat) : s.linRespond c id = s ∨ ∃ e, s.linRespond c id = s.linSent c id e := by
  unfold Pkg.linRespond
  split
  · next e _ => exact Or.inr ⟨e, rfl⟩
  · exact Or.inl rfl

theorem Touches.linRespond (h : Touches p q W C) (hm : pkgAddr 15 (oLinTx c) ∈ C) : Touches p (q.linRespond c id) W C := by
  rcases q.linRespond_cases c id with he | ⟨e, he⟩ <;> rw [he]
  · exact h
  · exact (h.setLatest.bump hm).emit

theorem Pkg.linRespond_linPos (s : Pkg) (c id : Nat) : (s.linRespond c id).bus.linPos = s.bus.linPos := by
  rcases s.linRespond_cases c id with he | ⟨e, he⟩ <;> rw [he]
  rfl

/-- A header on the bus: its frame ID is kept. -/
def Pkg.linHeard (s : Pkg) (c id : Nat) : Pkg := s.put 15 (fLinLastId c) (id % 64)

theorem Pkg.linHeader_published (hv : fieldGet (s.linFrame c id) 31 31 = 1) (hp : fieldGet (s.linFrame c id) 5 5 = 1) :
    s.linHeader c id = (s.linHeard c id).linRespond c id := if_pos ⟨hv, hp⟩

theorem Pkg.linHeader_cases (s : Pkg) (c id : Nat) : s.linHeader c id = s.linHeard c id ∨ s.linHeader c id = (s.linHeard c id).linRespond c id :=
  (ite_eq_or_eq ..).symm

theorem Touches.linHeader (h : Touches p q W C) (hw : pkgAddr 15 (fLinLastId c).off ∈ W) (hm : pkgAddr 15 (oLinTx c) ∈ C) :
    Touches p (q.linHeader c id) W C := by
  have hheard : Touches p (q.linHeard c id) W C := h.put hw
  rcases q.linHeader_cases c id with he | he <;> rw [he]
  · exact hheard
  · exact hheard.linRespond hm

theorem Pkg.linHeader_linPos (s : Pkg) (c id : Nat) : (s.linHeader c id).bus.linPos = s.bus.linPos := by
  rcases s.linHeader_cases c id with he | he <;> rw [he]
  · rfl
  · exact Pkg.linRespond_linPos _ _ _

theorem Pkg.linHeader_lastId (s : Pkg) (c id : Nat) : (s.linHeader c id).get 15 (fLinLastId c) = id % 64 := by
  have hheard : (s.linHeard c id).get 15 (fLinLastId c) = id % 64 := (Pkg.get_put_same _ _ _ _ (show 13 < 32 by decide)).trans (Nat.mod_mod _ _)
  rcases s.linHeader_cases c id with he | he <;> rw [he]
  · exact hheard
  · have hrespond : Touches (s.linHeard c id) ((s.linHeard c id).linRespond c id) [] [pkgAddr 15 (oLinTx c)] :=
      (Touches.refl _ _ _).linRespond (List.mem_singleton.2 rfl)
    rw [hrespond.get_eq, hheard]

end

section
variable {s : State} {c at_ : Nat} {w : Word}

/-- The schedule has moved on from entry w: back to the first where w is the last. -/
def Pkg.linNext (s : Pkg) (c : Nat) (w : Word) : Pkg :=
  s.onBus fun b => { b with linPos := SMap.set 0 b.linPos c (if fieldGet w 30 30 = 1 then 0 else (SMap.get 0 s.bus.linPos c + 1) % 64) }

theorem linScheduleSlot_eq (hc : c < 6) (hup : s.pkg.linUp c = true) (hcmd : s.pkg.on 15 (fLinCommander c) = true)
    (hw : s.pkg.rd 15 (0x46000 + 0x100 * c + 4 * SMap.get 0 s.pkg.bus.linPos c) = w) (hv : fieldGet w 31 31 = 1) (hoff : c ∉ s.pkg.bus.linOff) :
    linScheduleSlot c at_ s.pkg = ((s.pkg.reach at_).linNext c w).linHeader c (fieldGet w 5 0) := by
  have hopen : (decide (c < 6) && s.pkg.linUp c && s.pkg.on 15 (fLinCommander c)) = true := by simp [hc, hup, hcmd]
  have hword : (s.pkg.reach at_).rd 15 (0x46000 + 0x100 * c + 4 * SMap.get 0 (s.pkg.reach at_).bus.linPos c) = w := hw
  rw [linScheduleSlot, Pkg.when_pos _ _ hopen]
  simp only [hword, hv, and_true, true_and]
  exact if_pos (by simpa [Pkg.onBus] using hoff)

theorem linScheduleSlot_sends (hc : c < 6) (hup : s.pkg.linUp c = true) (hcmd : s.pkg.on 15 (fLinCommander c) = true)
    (hw : s.pkg.rd 15 (0x46000 + 0x100 * c + 4 * SMap.get 0 s.pkg.bus.linPos c) = w) (hv : fieldGet w 31 31 = 1) (hoff : c ∉ s.pkg.bus.linOff) :
    Runs (.linScheduleSlot c at_) s (fun t =>
      t.pkg.get 15 (fLinLastId c) = fieldGet w 5 0 ∧
      SMap.get 0 t.pkg.bus.linPos c = (if fieldGet w 30 30 = 1 then 0 else (SMap.get 0 s.pkg.bus.linPos c + 1) % 64) ∧
      (∀ e, fieldGet (s.pkg.linFrame c (fieldGet w 5 0)) 31 31 = 1 → fieldGet (s.pkg.linFrame c (fieldGet w 5 0)) 5 5 = 1 →
        s.pkg.latest (16 + c) (fieldGet w 5 0) = some e →
        (s.pkg.out ++ [.bus (e.msg.toBus (16 + c))]) <+: t.pkg.out ∧ t.pkg.cnt 15 (oLinTx c) = s.pkg.cnt 15 (oLinTx c) + 1) ∧
      Frame s t [pkgAddr 15 (fLinLastId c).off] [pkgAddr 15 (oLinTx c)]) := by
  have hid : fieldGet w 5 0 % 64 = fieldGet w 5 0 := Nat.mod_eq_of_lt (fieldGet_lt w 5 0)
  refine runs_becomes rfl (linScheduleSlot_eq hc hup hcmd hw hv hoff) ⟨?_, ?_, fun e hvalid hpub he => ?_, Touches.finishes ?_⟩
  · rw [State.finish_pkg_get, State.map_pkg, Pkg.linHeader_lastId, hid]
  · rw [State.finish_pkg_bus, State.map_pkg, Pkg.linHeader_linPos]
    exact SMap.get_set_same _ _ _ _
  · have hheader : ((s.pkg.reach at_).linNext c w).linHeader c (fieldGet w 5 0) =
        (((s.pkg.reach at_).linNext c w).linHeard c (fieldGet w 5 0)).linSent c (fieldGet w 5 0) e :=
      (Pkg.linHeader_published (s := (s.pkg.reach at_).linNext c w) hvalid hpub).trans
        (Pkg.linRespond_sends (s := ((s.pkg.reach at_).linNext c w).linHeard c _) hoff (by rw [hid]; exact he))
    rw [hheader]
    refine ⟨s.out_prefix_becomes rfl, ?_⟩
    rw [State.finish_pkg_cnt, State.map_pkg, Pkg.linSent, Pkg.emit_cnt, Pkg.cnt_bump_same]
    rfl
  · have hnext : Touches s.pkg ((s.pkg.reach at_).linNext c w) [pkgAddr 15 (fLinLastId c).off] [pkgAddr 15 (oLinTx c)] :=
      (Touches.refl _ _ _).reach.onBus
    exact hnext.linHeader (List.mem_singleton.2 rfl) (List.mem_singleton.2 rfl)

end

/-! ### FlexRay (R181, R209, R210) -/

section
variable {s : State} {at_ : Nat}

/-- The value of a static slot has been sent on this channel. -/
def Pkg.frSent (s : Pkg) (bus slot : Nat) (e : Posted) : Pkg :=
  ((s.setLatest bus slot (some { e with started := true })).bump 15 oFrTx).emit (.bus (e.msg.toBus bus))

theorem Pkg.frStatic_sends {p : Pkg} {bus slot cycle : Nat} {e : Posted} (he : p.latest bus slot = some e) (hc : inCycle e.msg cycle = true) :
    p.frStatic bus slot cycle = p.frSent bus slot e := by
  simp only [Pkg.frStatic, he, hc, if_true]
  rfl

theorem flexraySlot_static {slot cycle : Nat} {e : Posted} (hen : s.pkg.on 15 fFrEnable = true) (hpoc : s.pkg.get 15 fFrPoc = 3)
    (hA : s.pkg.on 15 fFrChA = true) (he : s.pkg.latest 24 slot = some e) (hc : inCycle e.msg cycle = true) :
    Runs (.flexraySlot true false slot cycle false at_) s (fun t =>
      (s.pkg.out ++ [.bus (e.msg.toBus 24)]) <+: t.pkg.out ∧ t.pkg.cnt 15 oFrTx = s.pkg.cnt 15 oFrTx + 1 ∧ t.pkg.get 15 fFrCycle = cycle % 64 ∧
      Frame s t [pkgAddr 15 fFrCycle.off] [pkgAddr 15 oFrTx]) := by
  have hopen : (s.pkg.on 15 fFrEnable && s.pkg.get 15 fFrPoc == 3) = true := by simp [hen, hpoc]
  have hA' : (s.pkg.reach at_).on 15 fFrChA = true := hA
  have heff : flexraySlot true false slot cycle false at_ s.pkg = ((s.pkg.reach at_).put 15 fFrCycle (cycle % 64)).frSent 24 slot e := by
    rw [flexraySlot, Pkg.when_pos _ _ hopen]
    simp only [hA', Bool.true_and, Bool.false_and, Bool.false_eq_true, if_false, if_true]
    exact Pkg.frStatic_sends he hc
  refine runs_becomes rfl heff ⟨s.out_prefix_becomes rfl, ?_, ?_, ?_⟩
  · rw [State.finish_pkg_cnt, State.map_pkg, Pkg.frSent, Pkg.emit_cnt, Pkg.cnt_bump_same]
    rfl
  · rw [State.finish_pkg_get]
    exact (Pkg.get_put_same (s.pkg.reach at_) 15 fFrCycle _ (by decide)).trans (Nat.mod_mod _ _)
  · exact (((Touches.refl _ _ _).reach.put (List.mem_singleton.2 rfl)).setLatest.bump (List.mem_singleton.2 rfl)).emit.finishes

theorem flexrayPocChange_follows {poc : Nat} (hen : s.pkg.on 15 fFrEnable = true) (hp : poc ≤ 5) :
    Runs (.flexrayPocChange poc at_) s (fun t => t.pkg.get 15 fFrPoc = poc ∧ Frame s t [pkgAddr 15 fFrPoc.off] []) := by
  have heff : flexrayPocChange poc at_ s.pkg = (s.pkg.reach at_).put 15 fFrPoc poc := Pkg.when_pos _ _ (by simp [hen, hp])
  refine runs_becomes rfl heff ⟨?_, ((Touches.refl _ _ _).reach.put (List.mem_singleton.2 rfl)).finishes⟩
  rw [State.finish_pkg_get, State.map_pkg, Pkg.get_put_same _ _ _ _ (by decide)]
  exact Nat.mod_eq_of_lt (show poc < 8 by omega)

end

/-- Settles O28: the expiries by what holds the message, a schedule slot by the entry it reaches. -/
theorem slotsCreditsAndLifetimes : Obligations.SlotsCreditsAndLifetimes := by
  unfold Obligations.SlotsCreditsAndLifetimes
  refine ⟨fun _ _ _ => busCreditReturn_returns, fun buf idx l e s hl _ hb he => txExpired_held hl hb he,
    fun buf idx l e s hl hs hid => ⟨txExpired_waiting hl, txExpired_value hl hs hid⟩, fun _ _ _ _ => linScheduleSlot_sends,
    fun _ _ _ _ _ => flexraySlot_static, fun _ _ _ => flexrayPocChange_follows⟩

end Sys2Proof.Machine
end

section
/-! PROOFS. What the trestle takes in: messages, ACF frames, and the frames it fills (R185–R191, R197, R198): what O26 asks. -/
namespace Sys2Proof.Machine

/-! ### The end of a step of the trestle (R211) -/

section
variable {s : State} {q : Pkg}

@[simp] theorem State.restsAt_rd (s : State) (q : Pkg) (d o : Nat) : (s.restsAt q).pkg.rd d o = q.rd d o := State.finish_pkg_rd _ d o
theorem State.restsAt_trestle (s : State) (q : Pkg) (t : Nat) : (s.restsAt q).pkg.trestle t = q.trestle t := by
  rw [State.restsAt, State.finish_trestle, State.map_pkg, Pkg.trestle_setTrestle_self]

theorem State.restsAt_latest (s : State) (q : Pkg) (b n : Nat) : (s.restsAt q).pkg.latest b n = q.latest b n := State.finish_latest ..

theorem Pkg.trActive_steward {p : Pkg} {t : Nat} (h : p.trActive t = true) : t = p.steward ∧ p.inService t = true := by
  obtain ⟨ht, hin⟩ := Bool.and_eq_true_iff.1 h
  exact ⟨eq_of_beq ht, hin⟩

/-- A step of a trestle that leaves no frame of the active one waiting for credit, with what it makes of the package. -/
theorem runs_restsAt {i : Instr} {P : State → Prop} {f : Pkg → Pkg} (h : exec i s = .next (s.onFlow f)) (he : f s.pkg = q)
    (hr : (q.trestle q.steward).ready = []) (hp : P (s.restsAt q)) : Runs i s P := by
  subst he; exact runs_onFlow h hr hp

/-- A step of the active trestle that keeps its frames for the switch, of which none waits. -/
theorem runs_keepsReady {i : Instr} {P : State → Prop} {f : Pkg → Pkg} {t : Nat} (hact : s.pkg.trActive t = true) (hw : s.noEthWaits)
    (h : exec i s = .next (s.onFlow f)) (he : f s.pkg = q) (hm : q.mode = s.pkg.mode) (hr : (q.trestle t).ready = (s.pkg.trestle t).ready)
    (hp : P (s.restsAt q)) : Runs i s P := by
  obtain ⟨ht, -⟩ := Pkg.trActive_steward hact
  refine runs_restsAt h he ?_ hp
  rw [show q.steward = t from (congrArg ModeSt.steward hm).trans ht.symm, hr, ht]
  exact hw

end

/-! ### Routes by the words of a tile (R186, R192) -/

section
variable {p q : Pkg} {t : Nat} (h : ∀ o, q.rd t o = p.rd t o)
include h

theorem Pkg.snapshot_congr (i : Nat) : q.snapshot t i = p.snapshot t i := by
  have hstrm (k : Nat) : q.strmSnap t k = p.strmSnap t k := by
    have hword : q.strmWord t k = p.strmWord t k := funext fun w => h _
    simp only [Pkg.strmSnap, hword, Pkg.get, h]
  simp only [Pkg.snapshot, Pkg.words, hstrm, Pkg.get, h]
  congr

/-- A chain is the same where the tile's words are. -/
theorem Pkg.chainFrom_congr (n i : Nat) : q.chainFrom t n i = p.chainFrom t n i := by
  induction n generalizing i with
  | zero => rfl
  | succ n ih =>
    simp only [Pkg.chainFrom, Pkg.snapshot_congr h, Pkg.get, Pkg.routeValid, h, ih]
    congr

end

/-! ### The input stage (R185, R190, R191) -/

/-- The next message leaves what else waits as it is. -/
theorem TrestleSt.pick_ready {x y : TrestleSt} {m : Msg} (h : x.pick = some (m, y)) : y.ready = x.ready := by
  unfold TrestleSt.pick at h
  split at h
  · cases h; rfl
  · split at h
    · cases h; rfl
    · cases h

/-- The message is out of its queue, which leaves x, and counted. -/
def Pkg.picked (s : Pkg) (t at_ : Nat) (x : TrestleSt) : Pkg := ((s.reach at_).setTrestle t x).bump t oMsgIn

section
variable {p q s : Pkg} {t at_ i : Nat} {m : Msg} {x : TrestleSt} {W C : List Nat}

theorem Pkg.picked_rd (s : Pkg) (t at_ : Nat) (x : TrestleSt) (d o : Nat) : (s.picked t at_ x).rd d o = s.rd d o := (rfl)
theorem Pkg.picked_trestle (s : Pkg) (t at_ : Nat) (x : TrestleSt) : (s.picked t at_ x).trestle t = x := Pkg.trestle_setTrestle_same _ _ _
theorem Pkg.picked_cnt (s : Pkg) (t at_ : Nat) (x : TrestleSt) : (s.picked t at_ x).cnt t oMsgIn = s.cnt t oMsgIn + 1 := Pkg.cnt_bump_same _ _ _
theorem Pkg.picked_srcPermitted (s : Pkg) (t at_ : Nat) (x : TrestleSt) (m : Msg) : (s.picked t at_ x).srcPermitted t m = s.srcPermitted t m := (rfl)

theorem Touches.picked (h : Touches p q W C) (hm : pkgAddr t oMsgIn ∈ C) : Touches p (q.picked t at_ x) W C := h.reach.setTrestle.bump hm
theorem Touches.trDisc (h : Touches p q W C) {code : Nat} (hm : pkgAddr t (oTrDisc code) ∈ C) : Touches p (q.trDisc t code) W C := h.bump hm

theorem Pkg.trDisc_trestle (s : Pkg) (t code u : Nat) : (s.trDisc t code).trestle u = s.trestle u := (rfl)
theorem Pkg.trDisc_get (s : Pkg) (t code d : Nat) (f : Fld) : (s.trDisc t code).get d f = s.get d f := (rfl)
theorem Pkg.trDisc_mode (s : Pkg) (t code : Nat) : (s.trDisc t code).mode = s.mode := (rfl)

/-- A discard counts, beside the messages taken. -/
theorem Pkg.trDisc_picked {code : Nat} (hcode : code < 32) :
    ((s.picked t at_ x).trDisc t code).cnt t (oTrDisc code) = s.cnt t (oTrDisc code) + 1 := by
  rw [Pkg.trDisc, Pkg.cnt_bump_same, Pkg.picked, Pkg.cnt_bump_off _ (by simp only [oTrDisc, oMsgIn]; omega)]
  rfl

theorem Pkg.cnt_trDisc_msgIn {code : Nat} (hcode : code < 32) : (s.trDisc t code).cnt t oMsgIn = s.cnt t oMsgIn :=
  s.cnt_bump_off (by simp only [oTrDisc, oMsgIn]; omega)

theorem trestleInput_eq (hact : p.trActive t = true) (hadm : p.admits t = true) (hroom : (p.trestle t).engine.length < 512)
    (hpick : (p.trestle t).pick = some (m, x)) : trestleInput t at_ p = ((p.reach at_).setTrestle t x).inputStage t m := by
  have hopen : (p.trActive t && (p.admits t || (p.draining t && !(p.trestle t).acf.isEmpty)) && decide ((p.trestle t).engine.length < 512)) = true := by
    simp [hact, hadm, hroom]
  have hpick' : ((p.reach at_).trestle t).pick = some (m, x) := hpick
  rw [trestleInput, Pkg.when_pos _ _ hopen, hpick']

theorem Pkg.inputStage_denied (hd : s.srcPermitted t m = false) :
    ((s.reach at_).setTrestle t x).inputStage t m = (s.picked t at_ x).trDisc t tSrcDeny := by
  have hdeny : (!(s.picked t at_ x).srcPermitted t m) = true := by rw [Pkg.picked_srcPermitted, hd]; rfl
  exact if_pos hdeny

theorem Pkg.inputStage_permitted (hd : s.srcPermitted t m = true) : ¬ (!(s.picked t at_ x).srcPermitted t m) = true := by
  rw [Pkg.picked_srcPermitted, hd]; decide

theorem Pkg.inputStage_unrouted (hd : s.srcPermitted t m = true) (hr : s.routeOfMsg t m = none) :
    ((s.reach at_).setTrestle t x).inputStage t m = ((s.picked t at_ x).recordMiss t m).trDisc t tNoRoute := by
  have hroute : (s.picked t at_ x).routeOfMsg t m = none := hr
  refine (if_neg (Pkg.inputStage_permitted hd)).trans ?_
  rw [← Pkg.picked, hroute]

/-- The message waits for the engine, with the snapshot of its chain. -/
theorem Pkg.inputStage_verifies {h : RouteSnap} {l : List RouteSnap} {cut : Bool} (hd : s.srcPermitted t m = true) (hr : s.routeOfMsg t m = some i)
    (hf : m.fmt ≠ 2) (hc : s.chainFrom t 16 i = (h :: l, cut)) (hv : h.fld 7 17 12 ≠ 0) :
    ((s.reach at_).setTrestle t x).inputStage t m =
      (s.picked t at_ x).setTrestle t { (s.picked t at_ x).trestle t with engine := ((s.picked t at_ x).trestle t).engine ++ [.verify m (h :: l) cut] } := by
  have hroute : (s.picked t at_ x).routeOfMsg t m = some i := hr
  have hchain : (s.picked t at_ x).chainFrom t 16 i = (h :: l, cut) := (Pkg.chainFrom_congr (s.picked_rd t at_ x t) 16 i).trans hc
  refine (if_neg (Pkg.inputStage_permitted hd)).trans ?_
  rw [← Pkg.picked, hroute]
  simp only [hf, false_and, if_false, hchain, hv]

/-! ### The first miss (R191) -/

theorem Pkg.wr_form (s : Pkg) (d o : Nat) (w : Word) : ∃ rs, s.wr d o w = { s with regs := rs } := ⟨_, rfl⟩
theorem Pkg.raise_form (s : Pkg) (d : Nat) (f : Fld) : ∃ rs ss, s.raise d f = { s with regs := rs, sets := ss } := ⟨_, _, rfl⟩

theorem Pkg.add_form (s : Pkg) (d o n : Nat) : ∃ k, s.add d o n = { s with ctr := k } := ⟨_, rfl⟩

/-- A miss is recorded in words alone. -/
theorem Pkg.recordMiss_form (s : Pkg) (t : Nat) (m : Msg) : ∃ rs ss, s.recordMiss t m = { s with regs := rs, sets := ss } := by
  unfold Pkg.recordMiss
  split
  · exact ⟨s.regs, s.sets, rfl⟩
  · obtain ⟨r₁, hkey⟩ := s.wr_form t oMissKey (BitVec.ofNat 32 (m.key0 m.id))
    obtain ⟨r₂, hsrc⟩ := (s.wr t oMissKey (BitVec.ofNat 32 (m.key0 m.id))).wr_form t oMissSrc (BitVec.ofNat 32 m.key1)
    obtain ⟨rs, ss, hraise⟩ := Pkg.raise_form ((s.wr t oMissKey (BitVec.ofNat 32 (m.key0 m.id))).wr t oMissSrc (BitVec.ofNat 32 m.key1)) t ⟨oMissSrc, 31, 31⟩
    rw [hraise, hsrc, hkey]
    exact ⟨rs, ss, rfl⟩

theorem Pkg.recordMiss_recorded (s : Pkg) (t : Nat) (m : Msg) : fieldGet ((s.recordMiss t m).rd t oMissSrc) 31 31 = 1 := by
  unfold Pkg.recordMiss
  split
  · assumption
  · rw [Pkg.raise_rd, Pkg.rd_put_same _ t ⟨oMissSrc, 31, 31⟩, fieldGet_fieldSet_same _ _ (by decide)]
    rfl

theorem Touches.recordMiss (h : Touches p q W C) (hk : pkgAddr t oMissKey ∈ W) (hs : pkgAddr t oMissSrc ∈ W) : Touches p (q.recordMiss t m) W C :=
  h.ite (((h.wr hk).wr hs).raise hs)

end

section
variable {s : State} {tile at_ i : Nat} {m : Msg} {x : TrestleSt} (hact : s.pkg.trActive tile = true) (hadm : s.pkg.admits tile = true)
  (hroom : (s.pkg.trestle tile).engine.length < 512) (hpick : (s.pkg.trestle tile).pick = some (m, x)) (hw : s.noEthWaits)
include hact hadm hroom hpick hw

/-- TRESTLE_INPUT with what the stage makes of the message, where the trestle's frames for the switch stay those of x. -/
theorem runs_trestleInput {q : Pkg} {P : State → Prop} (he : ((s.pkg.reach at_).setTrestle tile x).inputStage tile m = q) (hm : q.mode = s.pkg.mode)
    (hr : (q.trestle tile).ready = x.ready) (hp : P (s.restsAt q)) : Runs (.trestleInput tile at_) s P :=
  runs_keepsReady hact hw rfl ((trestleInput_eq hact hadm hroom hpick).trans he) hm (hr.trans (TrestleSt.pick_ready hpick)) hp

theorem trestleInput_denied (hd : s.pkg.srcPermitted tile m = false) : Runs (.trestleInput tile at_) s (fun t =>
      t.pkg.cnt tile (oTrDisc tSrcDeny) = s.pkg.cnt tile (oTrDisc tSrcDeny) + 1 ∧ t.pkg.cnt tile oMsgIn = s.pkg.cnt tile oMsgIn + 1 ∧
      t.pkg.trestle tile = x ∧ Frame s t [] [pkgAddr tile (oTrDisc tSrcDeny), pkgAddr tile oMsgIn]) := by
  have htrestle : ((s.pkg.picked tile at_ x).trDisc tile tSrcDeny).trestle tile = x :=
    (Pkg.trDisc_trestle ..).trans (s.pkg.picked_trestle tile at_ x)
  refine runs_trestleInput hact hadm hroom hpick hw (Pkg.inputStage_denied hd) (Pkg.trDisc_mode ..) (by rw [htrestle]) ⟨?_, ?_, ?_, Touches.rests ?_⟩
  · rw [State.restsAt_cnt, Pkg.trDisc_picked (by decide)]
  · rw [State.restsAt_cnt, Pkg.cnt_trDisc_msgIn (by decide), Pkg.picked_cnt]
  · rw [State.restsAt_trestle, htrestle]
  · exact ((Touches.refl _ _ _).picked (by simp)).trDisc (by simp)

theorem trestleInput_unrouted (hd : s.pkg.srcPermitted tile m = true) (hr : s.pkg.routeOfMsg tile m = none) :
    Runs (.trestleInput tile at_) s (fun t =>
        t.pkg.cnt tile (oTrDisc tNoRoute) = s.pkg.cnt tile (oTrDisc tNoRoute) + 1 ∧ fieldGet (t.pkg.rd tile oMissSrc) 31 31 = 1 ∧
        t.pkg.trestle tile = x ∧ Frame s t [pkgAddr tile oMissKey, pkgAddr tile oMissSrc] [pkgAddr tile (oTrDisc tNoRoute), pkgAddr tile oMsgIn]) := by
  obtain ⟨rs, ss, hform⟩ := (s.pkg.picked tile at_ x).recordMiss_form tile m
  have htrestle : (((s.pkg.picked tile at_ x).recordMiss tile m).trDisc tile tNoRoute).trestle tile = x := by
    rw [Pkg.trDisc_trestle, hform]; exact s.pkg.picked_trestle tile at_ x
  have hcnt : (((s.pkg.picked tile at_ x).recordMiss tile m).trDisc tile tNoRoute).cnt tile (oTrDisc tNoRoute) =
      s.pkg.cnt tile (oTrDisc tNoRoute) + 1 := by
    rw [hform]; exact Pkg.trDisc_picked (s := s.pkg) (at_ := at_) (x := x) (by decide)
  refine runs_trestleInput hact hadm hroom hpick hw (Pkg.inputStage_unrouted hd hr) (by rw [Pkg.trDisc_mode, hform]; rfl)
    (by rw [htrestle]) ⟨?_, ?_, ?_, Touches.rests ?_⟩
  · rw [State.restsAt_cnt, hcnt]
  · rw [State.restsAt_rd]; exact Pkg.recordMiss_recorded _ _ _
  · rw [State.restsAt_trestle, htrestle]
  · exact (((Touches.refl _ _ _).picked (by simp)).recordMiss (by simp) (by simp)).trDisc (by simp)

theorem trestleInput_verifies {h : RouteSnap} {l : List RouteSnap} {cut : Bool} (hd : s.pkg.srcPermitted tile m = true)
    (hr : s.pkg.routeOfMsg tile m = some i) (hf : m.fmt ≠ 2) (hc : s.pkg.chainFrom tile 16 i = (h :: l, cut)) (hv : h.fld 7 17 12 ≠ 0) :
    Runs (.trestleInput tile at_) s (fun t =>
          (t.pkg.trestle tile).engine = x.engine ++ [.verify m (h :: l) cut] ∧ t.pkg.cnt tile oMsgIn = s.pkg.cnt tile oMsgIn + 1 ∧
          Frame s t [] [pkgAddr tile oMsgIn]) := by
  have hstage := Pkg.inputStage_verifies (at_ := at_) (x := x) hd hr hf hc hv
  rw [Pkg.picked_trestle] at hstage
  refine runs_trestleInput hact hadm hroom hpick hw hstage rfl (by rw [Pkg.trestle_setTrestle_same]) ⟨?_, ?_, Touches.rests ?_⟩
  · rw [State.restsAt_trestle, Pkg.trestle_setTrestle_same]
  · rw [State.restsAt_cnt, Pkg.setTrestle_cnt, Pkg.picked_cnt]
  · exact ((Touches.refl _ _ _).picked (by simp)).setTrestle

end

/-! ### ACF frames (R179, R187, R188, R198) -/

section
variable {p q s : Pkg} {t i seq : Nat} {d : Delivered} {W C : List Nat}

/-- The first frame for port 21 is taken from what was delivered. -/
def Pkg.acfGone (s : Pkg) (t at_ : Nat) : Pkg := (s.reach at_).onSw fun w => { w with got := dropFirst (fun x => x.tile == t && x.port == 21) w.got }

theorem Pkg.acfGone_got (s : Pkg) (t at_ : Nat) : (s.acfGone t at_).sw.got = dropFirst (fun x => x.tile == t && x.port == 21) s.sw.got := (rfl)
theorem Pkg.acfGone_trestle (s : Pkg) (t at_ u : Nat) : (s.acfGone t at_).trestle u = s.trestle u := (rfl)
theorem Pkg.acfGone_cnt (s : Pkg) (t at_ d o : Nat) : (s.acfGone t at_).cnt d o = s.cnt d o := (rfl)
theorem Pkg.acfGone_get (s : Pkg) (t at_ d : Nat) (f : Fld) : (s.acfGone t at_).get d f = s.get d f := (rfl)
theorem Pkg.acfGone_rxStream (s : Pkg) (t at_ sid : Nat) : (s.acfGone t at_).rxStream t sid = s.rxStream t sid := (rfl)
theorem Touches.acfGone (h : Touches p q W C) {at_ : Nat} : Touches p (q.acfGone t at_) W C := h.reach.onSw

theorem acfFrame_standby {at_ : Nat} (hd : p.sw.got.find? (fun d => d.tile == t && d.port == 21) = some d) (hin : p.inService t = true)
    (ht : t ≠ p.steward) : acfFrame t at_ p = (p.acfGone t at_).bump t oStandbyRx := by
  have hfind : (p.reach at_).sw.got.find? (fun d => d.tile == t && d.port == 21) = some d := hd
  have hserv : ¬ (!(p.reach at_).inService t) = true := by rw [show (p.reach at_).inService t = true from hin]; decide
  have hother : t ≠ (p.reach at_).steward := ht
  rw [acfFrame, hfind]
  simp only [if_neg hserv, if_pos hother]
  rfl

/-- The active trestle takes a frame once the bus messages and the frame before are taken, with room for its jobs. -/
theorem acfFrame_active {at_ : Nat} (hd : p.sw.got.find? (fun d => d.tile == t && d.port == 21) = some d) (hin : p.inService t = true)
    (ht : t = p.steward) (hadm : p.admits t = true) (hacf : (p.trestle t).acf = []) (hinq : (p.trestle t).inq = [])
    (hroom : (p.trestle t).engine.length ≤ 384) : acfFrame t at_ p = (p.acfGone t at_).acfTake t d.bytes d.at_ := by
  have hfind : (p.reach at_).sw.got.find? (fun d => d.tile == t && d.port == 21) = some d := hd
  have hserv : ¬ (!(p.reach at_).inService t) = true := by rw [show (p.reach at_).inService t = true from hin]; decide
  have hself : ¬ t ≠ (p.reach at_).steward := not_not.2 ht
  have hidle : (p.reach at_).admits t = true ∧ ((p.reach at_).trestle t).acf.isEmpty = true ∧ ((p.reach at_).trestle t).inq.isEmpty = true ∧
      ((p.reach at_).trestle t).engine.length ≤ 384 := ⟨hadm, List.isEmpty_iff.2 hacf, List.isEmpty_iff.2 hinq, hroom⟩
  rw [acfFrame, hfind]
  simp only [if_neg hserv, if_neg hself, if_pos hidle]
  rfl

theorem Pkg.acfTake_malformed {bs : List Byte} {n : Nat} (h : avtpHeader bs (12 + 4 * tagCount bs 8 12) = none) :
    s.acfTake t bs n = s.trDisc t tAcfMalformed := by rw [Pkg.acfTake, h]

/-- What a frame of a stream in use counts: a gap, items unknown, and a fault in the items. -/
def Pkg.acfCounted (s : Pkg) (t i seq unknown : Nat) (bad : Bool) : Pkg :=
  let q := (s.countGap t i seq).add t (oTrDisc tAcfUnknown) unknown
  if bad then q.trDisc t tAcfMalformed else q

theorem Pkg.acfTake_stream {bs b : List Byte} {n sid : Nat} (h : avtpHeader bs (12 + 4 * tagCount bs 8 12) = some (sid, seq, b))
    (hs : s.rxStream t sid = some i) : ∃ q unknown bad, q = s.acfCounted t i seq unknown bad ∧ s.acfTake t bs n = q.setTrestle t
      { q.trestle t with acf := (acfItems (s.get t fXlType) b.length b).1.map (fun m => { m with stream := i, stamp := n / 65536 }) } := by
  refine ⟨_, (acfItems (s.get t fXlType) b.length b).2.1, (acfItems (s.get t fXlType) b.length b).2.2, rfl, ?_⟩
  rw [Pkg.acfTake, h]
  simp only [hs]
  rfl

theorem Pkg.trDisc_form (s : Pkg) (t code : Nat) : ∃ k, s.trDisc t code = { s with ctr := k } := ⟨_, rfl⟩
theorem Pkg.put_form (s : Pkg) (d : Nat) (f : Fld) (v : Nat) : ∃ rs, s.put d f v = { s with regs := rs } := ⟨_, rfl⟩

/-- A gap concerns a count and the stream's word. -/
theorem Pkg.countGap_form (s : Pkg) (t i seq : Nat) : ∃ rs k, s.countGap t i seq = { s with regs := rs, ctr := k } := by
  have hcount : ∃ k, (if s.on t (fRxInit i) then s else s.add t oSeqGap ((seq + 256 - s.get t (fRxSeq i)) % 256)) = { s with ctr := k } := by
    split
    · exact ⟨s.ctr, rfl⟩
    · exact s.add_form ..
  obtain ⟨k, hcount⟩ := hcount
  obtain ⟨r₁, hinit⟩ := Pkg.put_form { s with ctr := k } t (fRxInit i) 0
  obtain ⟨r₂, hseq⟩ := Pkg.put_form { s with regs := r₁, ctr := k } t (fRxSeq i) ((seq + 1) % 256)
  simp only [Pkg.countGap, hcount, hinit, hseq]
  exact ⟨r₂, k, rfl⟩

theorem Pkg.acfCounted_form (s : Pkg) (t i seq unknown : Nat) (bad : Bool) : ∃ rs k, s.acfCounted t i seq unknown bad = { s with regs := rs, ctr := k } := by
  obtain ⟨rs, k, hgap⟩ := s.countGap_form t i seq
  obtain ⟨k₁, hadd⟩ := Pkg.add_form { s with regs := rs, ctr := k } t (oTrDisc tAcfUnknown) unknown
  rw [Pkg.acfCounted, hgap, hadd]
  cases bad
  · exact ⟨rs, k₁, rfl⟩
  · obtain ⟨k₂, hdisc⟩ := Pkg.trDisc_form { s with regs := rs, ctr := k₁ } t tAcfMalformed
    exact ⟨rs, k₂, hdisc⟩

theorem Pkg.countGap_rxSeq (s : Pkg) (t i seq : Nat) : (s.countGap t i seq).get t (fRxSeq i) = (seq + 1) % 256 :=
  (Pkg.get_put_same _ _ _ _ (show 15 < 32 by decide)).trans (Nat.mod_mod _ _)

theorem Pkg.acfCounted_rxSeq (s : Pkg) (t i seq unknown : Nat) (bad : Bool) : (s.acfCounted t i seq unknown bad).get t (fRxSeq i) = (seq + 1) % 256 := by
  have hgap := s.countGap_rxSeq t i seq
  rw [Pkg.acfCounted]
  cases bad
  · exact (Pkg.add_get ..).trans hgap
  · exact (Pkg.trDisc_get ..).trans ((Pkg.add_get ..).trans hgap)

theorem Touches.acfCounted (h : Touches p q W C) {unknown : Nat} {bad : Bool} (hw : pkgAddr t (strmState i) ∈ W) (hg : pkgAddr t oSeqGap ∈ C)
    (hu : pkgAddr t (oTrDisc tAcfUnknown) ∈ C) (hm : pkgAddr t (oTrDisc tAcfMalformed) ∈ C) :
    Touches p (q.acfCounted t i seq unknown bad) W C := by
  have hgap : Touches p (q.countGap t i seq) W C := ((h.ite (h.add hg)).put hw).put hw
  exact ((hgap.add hu).trDisc hm).ite (hgap.add hu)

end

section
variable {s : State} {tile at_ : Nat} {d : Delivered} (hd : s.pkg.sw.got.find? (fun d => d.tile == tile && d.port == 21) = some d)
  (hin : s.pkg.inService tile = true) (hw : s.noEthWaits)
include hd hin hw

theorem acfFrame_unprocessed (ht : tile ≠ s.pkg.steward) : Runs (.acfFrame tile at_) s (fun t =>
      t.pkg.cnt tile oStandbyRx = s.pkg.cnt tile oStandbyRx + 1 ∧
      t.pkg.sw.got = dropFirst (fun x => x.tile == tile && x.port == 21) s.pkg.sw.got ∧ Frame s t [] [pkgAddr tile oStandbyRx]) := by
  refine runs_restsAt rfl (acfFrame_standby hd hin ht) hw ⟨?_, ?_, (((Touches.refl _ _ _).acfGone).bump (List.mem_singleton.2 rfl)).rests⟩
  · rw [State.restsAt_cnt, Pkg.cnt_bump_same, Pkg.acfGone_cnt]
  · rw [State.restsAt_sw, Pkg.bump_sw, Pkg.acfGone_got]

variable (ht : tile = s.pkg.steward) (hadm : s.pkg.admits tile = true) (hacf : (s.pkg.trestle tile).acf = []) (hinq : (s.pkg.trestle tile).inq = [])
  (hroom : (s.pkg.trestle tile).engine.length ≤ 384)
include ht hadm hacf hinq hroom

theorem acfFrame_malformed (hb : avtpHeader d.bytes (12 + 4 * tagCount d.bytes 8 12) = none) : Runs (.acfFrame tile at_) s (fun t =>
        t.pkg.cnt tile (oTrDisc tAcfMalformed) = s.pkg.cnt tile (oTrDisc tAcfMalformed) + 1 ∧ (t.pkg.trestle tile).acf = [] ∧
        t.pkg.sw.got = dropFirst (fun x => x.tile == tile && x.port == 21) s.pkg.sw.got ∧ Frame s t [] [pkgAddr tile (oTrDisc tAcfMalformed)]) := by
  refine runs_restsAt rfl ((acfFrame_active hd hin ht hadm hacf hinq hroom).trans (Pkg.acfTake_malformed hb)) hw
    ⟨?_, ?_, ?_, ((Touches.refl _ _ _).acfGone.trDisc (List.mem_singleton.2 rfl)).rests⟩
  · rw [State.restsAt_cnt, Pkg.trDisc, Pkg.cnt_bump_same, Pkg.acfGone_cnt]
  · rw [State.restsAt_trestle, Pkg.trDisc_trestle, Pkg.acfGone_trestle, hacf]
  · rw [State.restsAt_sw, Pkg.trDisc, Pkg.bump_sw, Pkg.acfGone_got]

theorem acfFrame_takes {sid seq i : Nat} {b : List Byte} (hb : avtpHeader d.bytes (12 + 4 * tagCount d.bytes 8 12) = some (sid, seq, b))
    (hi : s.pkg.rxStream tile sid = some i) : Runs (.acfFrame tile at_) s (fun t =>
          (t.pkg.trestle tile).acf = (acfItems (s.pkg.get tile fXlType) b.length b).1.map (fun m => { m with stream := i, stamp := d.at_ / 65536 }) ∧
          t.pkg.get tile (fRxSeq i) = (seq + 1) % 256 ∧ t.pkg.sw.got = dropFirst (fun x => x.tile == tile && x.port == 21) s.pkg.sw.got ∧
          Frame s t [pkgAddr tile (strmState i)] [pkgAddr tile oSeqGap, pkgAddr tile (oTrDisc tAcfUnknown), pkgAddr tile (oTrDisc tAcfMalformed)]) := by
  obtain ⟨q, unknown, bad, hq, htake⟩ := Pkg.acfTake_stream (n := d.at_) hb ((s.pkg.acfGone_rxStream tile at_ sid).trans hi)
  obtain ⟨rs, k, hform⟩ := (s.pkg.acfGone tile at_).acfCounted_form tile i seq unknown bad
  have htrestle : q.trestle tile = s.pkg.trestle tile := by rw [hq, hform]; rfl
  have hsteward : q.steward = tile := by rw [hq, hform, ht]; rfl
  have hgot : q.sw = (s.pkg.acfGone tile at_).sw := by rw [hq, hform]
  refine runs_restsAt rfl ((acfFrame_active hd hin ht hadm hacf hinq hroom).trans htake) ?_ ⟨?_, ?_, ?_, Touches.rests ?_⟩
  · rw [show (q.setTrestle tile _).steward = tile from hsteward, Pkg.trestle_setTrestle_same, htrestle, ht]
    exact hw
  · rw [State.restsAt_trestle, Pkg.trestle_setTrestle_same, Pkg.acfGone_get]
  · rw [State.restsAt_get, Pkg.setTrestle_get, hq, Pkg.acfCounted_rxSeq]
  · rw [State.restsAt_sw]
    exact (congrArg SwitchSt.got hgot).trans (Pkg.acfGone_got ..)
  · rw [hq]
    exact ((Touches.refl _ _ _).acfGone.acfCounted (by simp) (by simp) (by simp) (by simp)).setTrestle

end

/-! ### A frame being filled is sent (R197, R211) -/

section
variable {p q s : Pkg} {t i : Nat} {f : AcfOut} {b : Batch} {W C : List Nat}

/-- The package with other trestles. -/
def Pkg.withTrestles (s : Pkg) (m : SMap TrestleSt) : Pkg := { s with trestles := m }

theorem Pkg.withTrestles_stopped (s : Pkg) (m : SMap TrestleSt) (t p : Nat) : (s.withTrestles m).creditStopped t p = s.creditStopped t p := (rfl)
theorem Pkg.withTrestles_get (s : Pkg) (m : SMap TrestleSt) (d : Nat) (f : Fld) : (s.withTrestles m).get d f = s.get d f := (rfl)
theorem Touches.withTrestles (h : Touches p q W C) {m : SMap TrestleSt} : Touches p (q.withTrestles m) W C := h.same rfl rfl rfl rfl

/-- While credit stops port 21, the one frame that is ready stays. -/
theorem Pkg.flushEth_stopped (h : s.creditStopped t 21 = true) (hr : (s.trestle t).ready = [f]) :
    ∃ m, s.flushEth t = s.withTrestles m ∧ (s.withTrestles m).trestle t = s.trestle t := by
  have hstop : (s.setTrestle t { s.trestle t with ready := [] }).creditStopped t 21 = true := h
  have hself : ({ s.trestle t with ready := [] ++ [f] } : TrestleSt) = s.trestle t := by rw [List.nil_append, ← hr]
  have heq : s.flushEth t = (s.setTrestle t { s.trestle t with ready := [] }).setTrestle t (s.trestle t) := by
    rw [Pkg.flushEth, hr]
    simp only [List.foldl_cons, List.foldl_nil, if_pos hstop, Pkg.trestle_setTrestle_same]
    exact congrArg _ hself
  exact ⟨_, heq, Pkg.trestle_setTrestle_same _ _ _⟩

/-- A trestle step after which one frame of the active trestle waits while credit stops port 21. -/
theorem runs_waits {s : State} {i : Instr} {P : State → Prop} {g : Pkg → Pkg} {q : Pkg} (h : exec i s = .next (s.onFlow g)) (he : g s.pkg = q)
    (ht : q.steward = t) (hr : (q.trestle t).ready = [f]) (hstop : q.creditStopped t 21 = true)
    (hp : ∀ m, (q.withTrestles m).trestle t = q.trestle t → P (s.map fun _ => q.withTrestles m).finish) : Runs i s P := by
  obtain ⟨m, hm, hkept⟩ := Pkg.flushEth_stopped hstop hr
  exact runs_becomes h (by rw [← hm, ← he, ← ht, ← he]) (hp m hkept)

/-- The frame made of a batch, with the sequence number of its stream (R197). -/
def Pkg.acfOut (s : Pkg) (t i : Nat) (b : Batch) : AcfOut :=
  let k := b.strm
  let tagged : Bool := k.fld 3 31 31 == 1
  let tag := if tagged then some (k.fld 3 30 28 * 8192 + k.fld 3 27 16) else none
  { bytes := acfFrameBytes (k.fld 2 31 0 * 65536 + k.fld 3 15 0) k.mac tag (k.fld 4 2 2 == 1) (s.get t (fTxSeq i))
      (k.fld 0 31 0 * 2 ^ 32 + k.fld 1 31 0) (b.msgs.flatMap (acfEncode k.xl k.mtv))
    tc := if tagged then k.fld 3 30 28 else 0
    count := b.msgs.length }

/-- The frame of the stream leaves what is being filled and is ready, with the next sequence number. -/
def Pkg.batchClosed (s : Pkg) (t i : Nat) (f : AcfOut) : Pkg :=
  (s.setTrestle t { s.trestle t with batches := SMap.erase i (s.trestle t).batches, ready := (s.trestle t).ready ++ [f] }).put t (fTxSeq i)
    ((s.get t (fTxSeq i) + 1) % 256)

theorem Pkg.closeBatch_eq (hb : (s.trestle t).batches.find? (fun b => b.1 == i) = some (i, b)) :
    s.closeBatch t i = (s.batchClosed t i (s.acfOut t i b)).flushEth t := by
  rw [Pkg.closeBatch, hb]
  rfl

theorem Pkg.batchClosed_trestle (s : Pkg) (t i : Nat) (f : AcfOut) : (s.batchClosed t i f).trestle t =
    { s.trestle t with batches := SMap.erase i (s.trestle t).batches, ready := (s.trestle t).ready ++ [f] } := Pkg.trestle_setTrestle_same _ _ _

theorem Pkg.batchClosed_txSeq (s : Pkg) (t i : Nat) (f : AcfOut) : (s.batchClosed t i f).get t (fTxSeq i) = (s.get t (fTxSeq i) + 1) % 256 :=
  (Pkg.get_put_same _ _ _ _ (show 7 < 32 by decide)).trans (Nat.mod_mod _ _)

theorem Touches.batchClosed (h : Touches p q W C) (hm : pkgAddr t (strmState i) ∈ W) : Touches p (q.batchClosed t i f) W C := h.setTrestle.put hm

/-- The words of the streams lie above those of the ports. -/
theorem Pkg.batchClosed_stopped (h : s.creditStopped t 21 = true) : (s.batchClosed t i f).creditStopped t 21 = true := by
  have hoff : (fXoffTx 21).off ≠ (fTxSeq i).off := by simp only [fXoffTx, portFld, fTxSeq, strmState]; omega
  have hget : (s.batchClosed t i f).get t (fXoffTx 21) = s.get t (fXoffTx 21) := Pkg.get_put_off _ _ hoff
  rw [Pkg.creditStopped, hget]
  exact h

/-- The batch is sent once its wait is over. -/
def Pkg.batchSent (s : Pkg) (t i : Nat) (b : Batch) : Pkg := (s.reachFrac (b.start + ns (us b.strm.waitUs))).batchClosed t i (s.acfOut t i b)

theorem Pkg.batchSent_steward (s : Pkg) (t i : Nat) (b : Batch) (m : SMap TrestleSt) : ((s.batchSent t i b).withTrestles m).steward = s.steward := (rfl)
theorem Pkg.batchSent_txSeq (s : Pkg) (t i : Nat) (b : Batch) : (s.batchSent t i b).get t (fTxSeq i) = (s.get t (fTxSeq i) + 1) % 256 :=
  (s.reachFrac _).batchClosed_txSeq t i _
theorem Pkg.batchSent_now (s : Pkg) (t i : Nat) (b : Batch) (m : SMap TrestleSt) :
    b.start + ns (1000 * b.strm.waitUs) ≤ ((s.batchSent t i b).withTrestles m).now := by
  rw [Nat.mul_comm]
  exact Nat.le_max_right s.now (b.start + ns (us b.strm.waitUs))
theorem Pkg.batchSent_trestle (hr : (s.trestle t).ready = []) :
    (s.batchSent t i b).trestle t = { s.trestle t with batches := SMap.erase i (s.trestle t).batches, ready := [s.acfOut t i b] } := by
  rw [Pkg.batchSent, Pkg.batchClosed_trestle, show (s.reachFrac _).trestle t = s.trestle t from rfl, hr, List.nil_append]

theorem acfBatchSend_eq (hb : (s.trestle t).batches.find? (fun b => b.1 == i) = some (i, b)) (hact : s.trActive t = true) :
    acfBatchSend t i s = (s.batchSent t i b).flushEth t := by
  rw [acfBatchSend, hb]
  exact (Pkg.when_pos _ _ hact).trans (Pkg.closeBatch_eq (s := s.reachFrac (b.start + ns (us b.strm.waitUs))) hb)

end

theorem acfBatchSend_waits {s : State} {tile i : Nat} {b : Batch} (hb : (s.pkg.trestle tile).batches.find? (fun b => b.1 == i) = some (i, b))
    (hact : s.pkg.trActive tile = true) (hstop : s.pkg.creditStopped tile 21 = true) (hw : s.noEthWaits) :
    Runs (.acfBatchSend tile i) s (fun t =>
      (∃ f, (t.pkg.trestle tile).ready = [f] ∧ f.count = b.msgs.length) ∧ (t.pkg.trestle tile).batches = SMap.erase i (s.pkg.trestle tile).batches ∧
      t.pkg.get tile (fTxSeq i) = (s.pkg.get tile (fTxSeq i) + 1) % 256 ∧
      b.start + ns (1000 * b.strm.waitUs) ≤ t.pkg.now ∧ Frame s t [pkgAddr tile (strmState i)] []) := by
  obtain ⟨ht, -⟩ := Pkg.trActive_steward hact
  have hsent := Pkg.batchSent_trestle (i := i) (b := b) (show (s.pkg.trestle tile).ready = [] from ht ▸ hw)
  have hstopped : (s.pkg.batchSent tile i b).creditStopped tile 21 = true := Pkg.batchClosed_stopped hstop
  obtain ⟨m, hm, hkept⟩ := Pkg.flushEth_stopped hstopped (congrArg TrestleSt.ready hsent)
  have hready := hkept.trans hsent
  have hsteward := (s.pkg.batchSent_steward tile i b m).trans ht.symm
  have hsend := (acfBatchSend_eq hb hact).trans hm
  have hone := congrArg TrestleSt.ready hready
  refine runs_waits (g := acfBatchSend tile i) rfl hsend hsteward hone ((Pkg.withTrestles_stopped ..).trans hstopped) fun n hn => ?_
  have htrestle := hn.trans hready
  refine ⟨⟨s.pkg.acfOut tile i b, ?_, rfl⟩, ?_, ?_, ?_, Touches.finishes ?_⟩
  · rw [State.finish_trestle]; exact congrArg TrestleSt.ready htrestle
  · rw [State.finish_trestle]; exact congrArg TrestleSt.batches htrestle
  · rw [State.finish_pkg_get]; exact ((Pkg.withTrestles_get ..).trans (Pkg.withTrestles_get ..)).trans (s.pkg.batchSent_txSeq ..)
  · rw [State.finish_pkg_now]; exact Pkg.batchSent_now ..
  · exact ((Touches.refl _ _ _).reachFrac.batchClosed (List.mem_singleton.2 rfl)).withTrestles.withTrestles

/-- Settles O26: each input stage as a step of the active trestle, with the frame of what it writes; a frame sent waits as it is while port 21 is stopped. -/
theorem trestleInputs : Obligations.TrestleInputs := by
  unfold Obligations.TrestleInputs
  refine ⟨fun tile at_ m x s hact hadm hroom hpick _ _ hw => ⟨trestleInput_denied hact hadm hroom hpick hw, fun hd =>
      ⟨trestleInput_unrouted hact hadm hroom hpick hw hd, fun i h l cut => trestleInput_verifies hact hadm hroom hpick hw hd⟩⟩,
    fun tile at_ d s hd hin hw => ⟨acfFrame_unprocessed hd hin hw, fun ht hadm hacf hinq hroom =>
      ⟨acfFrame_malformed hd hin hw ht hadm hacf hinq hroom, fun sid seq b i => acfFrame_takes hd hin hw ht hadm hacf hinq hroom⟩⟩,
    fun tile i b s => acfBatchSend_waits⟩

end Sys2Proof.Machine
end

section
/-! PROOFS. The authentication engine: freshness counters, verification, the outputs it secures (R193, R199–R202, R204, R209): what O27 asks. -/
namespace Sys2Proof.Machine

/-! ### Live words and freshness counters (R204, Table 6-14) -/

section
variable {p q s : Pkg} {t o i v : Nat} {w : Word} {W C : List Nat}

/-- The standby is on tile 1, where the active steward is on tile 0. -/
theorem Pkg.standby_eq_some {b : Nat} (h : s.standby = some b) : b = 1 ∧ s.steward = 0 := by
  unfold Pkg.standby at h
  split at h
  · next hs => exact ⟨(Option.some.inj h).symm, hs.1⟩
  · cases h

theorem Pkg.wrLive_form (s : Pkg) (t o : Nat) (w : Word) : ∃ rs, s.wrLive t o w = { s with regs := rs } := by
  unfold Pkg.wrLive
  dsimp only
  split
  · split
    · exact ⟨_, rfl⟩
    · exact ⟨_, rfl⟩
  · exact ⟨_, rfl⟩

/-- A live word is written on its tile and at most on tile 1. -/
theorem Touches.wrLive (h : Touches p q W C) (hm : ∀ d, d = t ∨ d = 1 → pkgAddr d o ∈ W) : Touches p (q.wrLive t o w) W C := by
  unfold Pkg.wrLive
  refine (Touches.ite ?_ (h.wr (hm t (.inl rfl))))
  split
  · next b hb => exact (h.wr (hm t (.inl rfl))).wr (hm b (.inr (Pkg.standby_eq_some hb).1))
  · exact h.wr (hm t (.inl rfl))

theorem Pkg.rd_wrLive_same : (s.wrLive t o w).rd t o = w := by
  unfold Pkg.wrLive
  dsimp only
  split
  · next hs =>
    split
    · next b hb =>
      obtain ⟨rfl, hzero⟩ := Pkg.standby_eq_some hb
      rw [Pkg.rd_wr_ne _ _ (by simp only [pkgAddr]; omega), Pkg.rd_wr_same]
    · exact s.rd_wr_same t o w
  · exact s.rd_wr_same t o w

/-- The words that a freshness counter has on the tiles of the active and the standby steward. -/
def fvWords (i : Nat) : List Nat := [0, 1].flatMap (fun d => [pkgAddr d (fvOff i), pkgAddr d (fvOff i + 4)])

theorem mem_fvWords {d : Nat} (hd : d ≤ 1) : pkgAddr d (fvOff i) ∈ fvWords i ∧ pkgAddr d (fvOff i + 4) ∈ fvWords i := by
  obtain rfl | rfl : d = 0 ∨ d = 1 := by omega
  · simp [fvWords]
  · simp [fvWords]

theorem Pkg.setFv_form (s : Pkg) (t i v : Nat) : ∃ rs, s.setFv t i v = { s with regs := rs } := by
  obtain ⟨r₁, hlow⟩ := s.wrLive_form t (fvOff i) (BitVec.ofNat 32 v)
  obtain ⟨r₂, hhigh⟩ := Pkg.wrLive_form { s with regs := r₁ } t (fvOff i + 4) (BitVec.ofNat 32 (v / 2 ^ 32))
  rw [Pkg.setFv, hlow, hhigh]
  exact ⟨r₂, rfl⟩

theorem Touches.setFv (h : Touches p q (fvWords i) C) (ht : t ≤ 1) : Touches p (q.setFv t i v) (fvWords i) C := by
  have hle {d : Nat} (hd : d = t ∨ d = 1) : d ≤ 1 := by omega
  exact (h.wrLive fun d hd => (mem_fvWords (hle hd)).1).wrLive fun d hd => (mem_fvWords (hle hd)).2

/-- A freshness counter set reads as it was set. -/
theorem Pkg.fv_setFv (ht : t ≤ 1) (hv : v < 2 ^ 64) : (s.setFv t i v).fv t i = v := by
  have hlow : (s.setFv t i v).rd t (fvOff i) = BitVec.ofNat 32 v := by
    have htouch : Touches (s.wrLive t (fvOff i) (BitVec.ofNat 32 v)) (s.setFv t i v) [pkgAddr t (fvOff i + 4), pkgAddr 1 (fvOff i + 4)] [] :=
      (Touches.refl _ _ _).wrLive fun d hd => by obtain rfl | rfl := hd <;> simp
    rw [htouch.words t (fvOff i) (by simp only [List.mem_cons, List.not_mem_nil, or_false, not_or, pkgAddr, fvOff]; omega)]
    exact Pkg.rd_wrLive_same
  have hhigh : (s.setFv t i v).rd t (fvOff i + 4) = BitVec.ofNat 32 (v / 2 ^ 32) := Pkg.rd_wrLive_same
  rw [Pkg.fv, Pkg.rd64, hlow, hhigh, BitVec.toNat_ofNat, BitVec.toNat_ofNat]
  omega

/-- No freshness counter is a word of the sentinel. -/
theorem Pkg.setFv_get_sentinel (ht : t ≤ 1) (hi : i < 4096) (f : Fld) : (s.setFv t i v).get 15 f = s.get 15 f := by
  refine congrArg (fieldGet · f.hi f.lo) ((((Touches.refl s (fvWords i) []).setFv ht)).words 15 f.off ?_)
  simp only [fvWords, List.flatMap_cons, List.flatMap_nil, List.append_nil, List.cons_append, List.nil_append, List.mem_cons, List.not_mem_nil, or_false,
    not_or, pkgAddr, fvOff]
  omega

theorem SameWays.wrLive (h : SameWays p q) (ho : ¬ wayWord o) : SameWays p (q.wrLive t o w) := by
  unfold Pkg.wrLive
  dsimp only
  split
  · split
    · exact (h.wr ho).wr ho
    · exact h.wr ho
  · exact h.wr ho

theorem SameWays.setFv (h : SameWays p q) (hi : i < 4096) : SameWays p (q.setFv t i v) :=
  (h.wrLive (by simp only [wayWord, fvOff]; omega)).wrLive (by simp only [wayWord, fvOff]; omega)

theorem apFv_lt (w : List Word) : apFv w < 4096 := fieldGet_lt _ 19 8

end

/-! ### A freshness value is taken and counted (R200, R201) -/

/-- The freshness counter i has the value v, and the use is counted at o. -/
def Pkg.fvTaken (s : Pkg) (t i v o : Nat) : Pkg := (s.setFv t i v).bump t o

section
variable {p q s : Pkg} {t i v o : Nat} {W C : List Nat}

theorem Pkg.fvTaken_form (s : Pkg) (t i v o : Nat) : ∃ rs k, s.fvTaken t i v o = { s with regs := rs, ctr := k } := by
  obtain ⟨rs, h⟩ := s.setFv_form t i v
  rw [Pkg.fvTaken, h]
  exact ⟨rs, _, rfl⟩
theorem Pkg.fvTaken_trestle (s : Pkg) (t i v o u : Nat) : (s.fvTaken t i v o).trestle u = s.trestle u := by
  obtain ⟨rs, k, h⟩ := s.fvTaken_form t i v o
  rw [h]; rfl
theorem Pkg.fvTaken_mode (s : Pkg) (t i v o : Nat) : (s.fvTaken t i v o).mode = s.mode := by
  obtain ⟨rs, k, h⟩ := s.fvTaken_form t i v o
  rw [h]
theorem Pkg.fvTaken_fv (ht : t ≤ 1) (hv : v < 2 ^ 64) : (s.fvTaken t i v o).fv t i = v := Pkg.fv_setFv ht hv
theorem Pkg.fvTaken_cnt (s : Pkg) (t i v o : Nat) : (s.fvTaken t i v o).cnt t o = s.cnt t o + 1 := by
  obtain ⟨rs, h⟩ := s.setFv_form t i v
  rw [Pkg.fvTaken, Pkg.cnt_bump_same, h]; rfl

theorem Touches.fvTaken (h : Touches p q (fvWords i) C) (ht : t ≤ 1) (ho : pkgAddr t o ∈ C) : Touches p (q.fvTaken t i v o) (fvWords i) C :=
  (h.setFv ht).bump ho
theorem SameWays.fvTaken (h : SameWays p q) (hi : i < 4096) : SameWays p (q.fvTaken t i v o) := (h.setFv hi).bump

/-- Where no word changed, no freshness counter did. -/
theorem Touches.fv_eq (h : Touches p q [] C) (t i : Nat) : q.fv t i = p.fv t i := by
  rw [Pkg.fv, Pkg.rd64, h.words t _ List.not_mem_nil, h.words t _ List.not_mem_nil]; rfl

theorem State.restsAt_fv (s : State) (q : Pkg) (t i : Nat) : (s.restsAt q).pkg.fv t i = q.fv t i := by
  rw [Pkg.fv, Pkg.rd64, State.restsAt_rd, State.restsAt_rd]; rfl

end

/-! ### Outputs that must be secured (R185, R193, R201, R202) -/

/-- The discards and the count an output may cause before it is secured. -/
def outputCounts (t : Nat) : List Nat := [pkgAddr t oMoveShort, pkgAddr t (oTrDisc tOutFormat), pkgAddr t (oTrDisc tChainLong)]

/-- From p to q, beside counts, jobs joined the engine's queue of tile t. -/
structure QueuesJobs (t : Nat) (p q : Pkg) : Prop where
  mode    : q.mode = p.mode
  jobs    : ∃ gs, (q.trestle t).engine = (p.trestle t).engine ++ gs
  ready   : (q.trestle t).ready = (p.trestle t).ready
  touches : Touches p q [] (outputCounts t)

namespace QueuesJobs
variable {p q r : Pkg} {t : Nat}

theorem refl (t : Nat) (p : Pkg) : QueuesJobs t p p := ⟨rfl, ⟨[], (List.append_nil _).symm⟩, rfl, .refl _ _ _⟩

theorem trans (h : QueuesJobs t p q) (h' : QueuesJobs t q r) : QueuesJobs t p r := by
  obtain ⟨gs, hgs⟩ := h.jobs
  obtain ⟨gs', hgs'⟩ := h'.jobs
  exact ⟨h'.mode.trans h.mode, ⟨gs ++ gs', by rw [hgs', hgs, List.append_assoc]⟩, h'.ready.trans h.ready, h.touches.trans h'.touches⟩

theorem add (h : QueuesJobs t p q) {o n : Nat} (hm : pkgAddr t o ∈ outputCounts t) : QueuesJobs t p (q.add t o n) :=
  h.trans ⟨rfl, ⟨[], (List.append_nil _).symm⟩, rfl, (Touches.refl _ _ _).add hm⟩

theorem trDisc (h : QueuesJobs t p q) {code : Nat} (hm : pkgAddr t (oTrDisc code) ∈ outputCounts t) : QueuesJobs t p (q.trDisc t code) := h.add hm

theorem push (h : QueuesJobs t p q) (j : EngJob) : QueuesJobs t p (q.setTrestle t { q.trestle t with engine := (q.trestle t).engine ++ [j] }) :=
  h.trans ⟨rfl, ⟨[j], by rw [Pkg.trestle_setTrestle_same]⟩, by rw [Pkg.trestle_setTrestle_same],
    (Touches.refl _ _ _).setTrestle⟩

end QueuesJobs

section
variable {s : Pkg} {t : Nat} {m : Msg} {r : RouteSnap} {chain : List RouteSnap} {cut : Bool}

/-- An output being built counts the moves that ran short. -/
theorem Pkg.buildOut_counts (s : Pkg) (t : Nat) (m : Msg) (r : RouteSnap) : ∃ n, (s.buildOut t m r).1 = s.add t oMoveShort n := by
  unfold Pkg.buildOut
  dsimp only
  split
  · exact ⟨_, rfl⟩
  · split
    · exact ⟨_, rfl⟩
    · exact ⟨_, rfl⟩

/-- An output to be secured, without E2E protection, waits for the engine, or is discarded as OUT_FORMAT. -/
theorem Pkg.oneOutput_queuesJobs (hg : r.fld 7 23 18 ≠ 0) (he : r.fld 8 19 10 = 0) : QueuesJobs t s (s.oneOutput t m r) := by
  obtain ⟨n, hn⟩ := s.buildOut_counts t m r
  have hbuilt : QueuesJobs t s (s.buildOut t m r).1 := by rw [hn]; exact (QueuesJobs.refl t s).add (by simp [outputCounts])
  unfold Pkg.oneOutput
  split
  · next q hq => rw [hq] at hbuilt; exact hbuilt.trDisc (by simp [outputCounts])
  · next q o hq =>
    rw [hq] at hbuilt
    have hprotect : q.e2eProtect t r o = (q, o) := if_pos (.inl he)
    simp only [hprotect, if_neg hg]
    exact hbuilt.push _

/-- So are all outputs of a chain. -/
theorem Pkg.outputs_queuesJobs (hchk : ∀ r ∈ chain, r.fld 7 23 18 ≠ 0 ∧ r.fld 8 9 0 = 0 ∧ r.fld 8 19 10 = 0) :
    QueuesJobs t s (s.outputs t m chain cut) := by
  cases chain with
  | nil => exact .refl t s
  | cons h l =>
    have hpass : s.e2eCheck t h m = (s, true) := if_pos (.inl (hchk h List.mem_cons_self).2.1)
    have hall : QueuesJobs t s ((h :: l).foldl (fun s r => s.oneOutput t m r) s) :=
      List.foldlRecOn _ _ (.refl t s) fun q hq r hr => hq.trans (Pkg.oneOutput_queuesJobs (hchk r hr).1 (hchk r hr).2.2)
    simp only [Pkg.outputs, hpass]
    split
    · exact hall.trDisc (by simp [outputCounts])
    · exact hall

/-- Outputs of a verified message go ahead of the jobs that wait. -/
theorem Pkg.outputsFirst_engine (hchk : ∀ r ∈ chain, r.fld 7 23 18 ≠ 0 ∧ r.fld 8 9 0 = 0 ∧ r.fld 8 19 10 = 0) :
    (s.outputsFirst t m chain cut).mode = s.mode ∧ (∃ gs, ((s.outputsFirst t m chain cut).trestle t).engine = gs ++ (s.trestle t).engine) ∧
    ((s.outputsFirst t m chain cut).trestle t).ready = (s.trestle t).ready ∧ Touches s (s.outputsFirst t m chain cut) [] (outputCounts t) := by
  have h := Pkg.outputs_queuesJobs (s := s.setTrestle t { s.trestle t with engine := [] }) (t := t) (m := m) (cut := cut) hchk
  refine ⟨h.mode, ⟨_, congrArg TrestleSt.engine (Pkg.trestle_setTrestle_same ..)⟩, ?_, ?_⟩
  · have hready := h.ready
    rw [Pkg.trestle_setTrestle_same] at hready
    exact (congrArg TrestleSt.ready (Pkg.trestle_setTrestle_same ..)).trans hready
  · exact ((Touches.refl s _ _).setTrestle.trans h.touches).setTrestle

end

/-! ### The job at the head of the engine's queue (R199–R201) -/

/-- The engine has taken the job at its head. -/
def Pkg.jobTaken (s : Pkg) (t at_ : Nat) : Pkg := (s.reach at_).popEngine t

section
variable {p q s : Pkg} {t at_ : Nat} {k : List Byte} {w : List Word} {m : Msg} {chain : List RouteSnap} {cut : Bool} {W C : List Nat}

theorem Pkg.jobTaken_trestle (s : Pkg) (t at_ : Nat) : (s.jobTaken t at_).trestle t = { s.trestle t with engine := (s.trestle t).engine.drop 1 } :=
  Pkg.trestle_setTrestle_same _ _ _
theorem Pkg.jobTaken_ready (s : Pkg) (t at_ : Nat) : ((s.jobTaken t at_).trestle t).ready = (s.trestle t).ready := by rw [Pkg.jobTaken_trestle]
theorem Pkg.jobTaken_cnt (s : Pkg) (t at_ d o : Nat) : (s.jobTaken t at_).cnt d o = s.cnt d o := (rfl)
theorem Pkg.reach_trKey (s : Pkg) (n t i : Nat) (g : Bool) : (s.reach n).trKey t i g = s.trKey t i g := (rfl)
theorem Touches.jobTaken (h : Touches p q W C) : Touches p (q.jobTaken t at_) W C := h.reach.setTrestle
theorem SameWays.jobTaken (h : SameWays p q) : SameWays p (q.jobTaken t at_) := h.reach.setTrestle

/-- The engine verifies the message at its head with its key. -/
theorem authVerify_eq {h : RouteSnap} {l : List RouteSnap} {js : List EngJob} (hact : p.trActive t = true)
    (hj : (p.trestle t).engine = .verify m (h :: l) cut :: js) (hv : apValid h.authV = true) (hk : p.trKey t (apSlot h.authV) false = .key k) :
    authVerify t at_ p = (p.jobTaken t at_).verifyWith t k h.authV m (h :: l) cut := by
  have hj' : ((p.reach at_).trestle t).engine = .verify m (h :: l) cut :: js := hj
  rw [authVerify, Pkg.when_pos _ _ hact, hj']
  simp only [hv, Bool.not_true, Bool.false_eq_true, if_false, Pkg.reach_trKey, hk]
  rfl

/-- The engine secures the output at its head with its key. -/
theorem authGenerate_eq {o : Msg} {r : RouteSnap} {js : List EngJob} (hact : p.trActive t = true)
    (hj : (p.trestle t).engine = .generate o r :: js) (hv : apValid r.authG = true) (hk : p.trKey t (apSlot r.authG) true = .key k) :
    authGenerate t at_ p = (p.jobTaken t at_).generateWith t k o r := by
  have hj' : ((p.reach at_).trestle t).engine = .generate o r :: js := hj
  rw [authGenerate, Pkg.when_pos _ _ hact, hj']
  simp only [hv, Bool.not_true, Bool.false_eq_true, if_false, Pkg.reach_trKey, hk]
  rfl

end

/-- The freshness value a message is taken to have. -/
def Pkg.fvReceived (s : Pkg) (t : Nat) (w : List Word) (m : Msg) : Nat :=
  fvCandidate (s.fv t (apFv w)) (apTfv w) (beAt m.payload (apAuthentic w m.payload.length) (apTfv w))

/-- The code of a message is the one its key gives. -/
def codeFits (k : List Byte) (w : List Word) (m : Msg) (fv : Nat) : Prop :=
  apCode k w (m.payload.take (apAuthentic w m.payload.length)) fv = sliceBytes m.payload (apAuthentic w m.payload.length + apTfv w) (apMac w)

section
variable {s : Pkg} {t : Nat} {k : List Byte} {w : List Word} {m : Msg} {chain : List RouteSnap} {cut : Bool} (hfit : apFits w m.payload.length = true)
include hfit

theorem Pkg.verifyWith_outside (hwin : apWindow w < s.fvReceived t w m - s.fv t (apFv w)) : s.verifyWith t k w m chain cut = s.trDisc t tAuthFv := by
  have hpast : 2 ^ 64 ≤ s.fvReceived t w m ∨ apWindow w < s.fvReceived t w m - s.fv t (apFv w) := .inr hwin
  exact (if_neg (by rw [hfit]; decide)).trans (if_pos hpast)

variable (hlt : s.fvReceived t w m < 2 ^ 64) (hwin : s.fvReceived t w m - s.fv t (apFv w) ≤ apWindow w)
include hlt hwin

theorem Pkg.verifyWith_inside : s.verifyWith t k w m chain cut =
    if apCode k w (m.payload.take (apAuthentic w m.payload.length)) (s.fvReceived t w m) ≠
      sliceBytes m.payload (apAuthentic w m.payload.length + apTfv w) (apMac w) then s.trDisc t tAuthMac
    else (s.fvTaken t (apFv w) (s.fvReceived t w m) oAuthVerified).outputsFirst t m chain cut := by
  have hinside : ¬ (2 ^ 64 ≤ s.fvReceived t w m ∨ apWindow w < s.fvReceived t w m - s.fv t (apFv w)) := by omega
  exact (if_neg (by rw [hfit]; decide)).trans (if_neg hinside)

theorem Pkg.verifyWith_forged (hcode : ¬ codeFits k w m (s.fvReceived t w m)) : s.verifyWith t k w m chain cut = s.trDisc t tAuthMac :=
  (Pkg.verifyWith_inside hfit hlt hwin).trans (if_pos hcode)

theorem Pkg.verifyWith_genuine (hcode : codeFits k w m (s.fvReceived t w m)) :
    s.verifyWith t k w m chain cut = (s.fvTaken t (apFv w) (s.fvReceived t w m) oAuthVerified).outputsFirst t m chain cut :=
  (Pkg.verifyWith_inside hfit hlt hwin).trans (if_neg (not_not.2 hcode))

end

/-! ### Delivery to a LIN channel (R209) -/

section
variable {s : Pkg} {t b slot n lifeMs : Nat} {m : Msg} {r : RouteSnap}

/-- A message posted as the latest value of one buffer: of what it does beside, two counts alone. -/
theorem Pkg.postLatest_one (s : Pkg) (t b slot : Nat) (m : Msg) (lifeMs : Nat) : ∃ e x k, e.started = false ∧ e.msg = m ∧
    SMap.get none x.latest (latestKey b slot) = some e ∧ s.postLatest t [b] slot m lifeMs = { s with bus := x, ctr := k } := by
  unfold Pkg.postLatest
  dsimp only
  split
  · exact ⟨(s.posted m lifeMs).2, _, _, rfl, rfl, Pkg.latest_setLatest_same (s.posted m lifeMs).1 b slot _, rfl⟩
  · exact ⟨(s.posted m lifeMs).2, _, _, rfl, rfl, Pkg.latest_setLatest_same (s.posted m lifeMs).1 b slot _, rfl⟩

theorem Touches.postLatest {p q : Pkg} {W C : List Nat} (h : Touches p q W C) (hr : pkgAddr t (oTrDisc tTxReplaced) ∈ C) (ho : pkgAddr t oMsgOut ∈ C) :
    Touches p (q.postLatest t [b] slot m lifeMs) W C := by
  have hset : Touches p ((q.posted m lifeMs).1.setLatest b slot (some (q.posted m lifeMs).2)) W C := h.onBus.setLatest
  exact ((hset.trDisc hr).ite hset).bump ho

theorem Pkg.deliverOut_lin (hlo : 16 ≤ r.dst) (hhi : r.dst < 22) (hpath : s.pathUp t 15 = true) (hup : s.linUp (r.dst - 16) = true) :
    s.deliverOut t m r = s.postLatest t [r.dst] (m.id % 64) m (r.fld 4 31 24) := by
  rw [Pkg.deliverOut, if_neg (by omega), Pkg.post, if_neg (by rw [hpath]; decide), if_neg (by omega), if_pos (by omega), if_pos hup]

end

/-! ### The engine's steps -/

theorem Pkg.jobTaken_engine {p : Pkg} {t at_ : Nat} {j : EngJob} {js : List EngJob} (hj : (p.trestle t).engine = j :: js) :
    ((p.jobTaken t at_).trestle t).engine = js := by
  rw [Pkg.jobTaken_trestle]
  exact congrArg (List.drop 1) hj

section
variable {s : State} {tile at_ : Nat} {k : List Byte} {m : Msg} {h : RouteSnap} {l : List RouteSnap} {cut : Bool} {js : List EngJob}
  (htile : tile ≤ 1) (hact : s.pkg.trActive tile = true) (hw : s.noEthWaits) (hj : (s.pkg.trestle tile).engine = .verify m (h :: l) cut :: js)
  (hv : apValid h.authV = true) (hk : s.pkg.trKey tile (apSlot h.authV) false = .key k) (hfit : apFits h.authV m.payload.length = true)

include hact hw hj hv hk

/-- A message the engine discards. -/
theorem authVerify_discards {code : Nat}
    (hd : (s.pkg.jobTaken tile at_).verifyWith tile k h.authV m (h :: l) cut = (s.pkg.jobTaken tile at_).trDisc tile code) :
    Runs (.authVerify tile at_) s (fun t => t.pkg.cnt tile (oTrDisc code) = s.pkg.cnt tile (oTrDisc code) + 1 ∧ (t.pkg.trestle tile).engine = js ∧
      Frame s t [] [pkgAddr tile (oTrDisc code)]) := by
  have htrestle := (s.pkg.jobTaken tile at_).trDisc_trestle tile code tile
  refine runs_keepsReady hact hw rfl ((authVerify_eq hact hj hv hk).trans hd) (Pkg.trDisc_mode ..) ?_ ⟨?_, ?_, Touches.rests ?_⟩
  · rw [htrestle, Pkg.jobTaken_ready]
  · rw [State.restsAt_cnt, Pkg.trDisc, Pkg.cnt_bump_same, Pkg.jobTaken_cnt]
  · rw [State.restsAt_trestle, htrestle, Pkg.jobTaken_engine hj]
  · exact (Touches.refl _ _ _).jobTaken.trDisc (List.mem_singleton.2 rfl)

include hfit

theorem authVerify_outside (hwin : apWindow h.authV < s.pkg.fvReceived tile h.authV m - s.pkg.fv tile (apFv h.authV)) :
    Runs (.authVerify tile at_) s (fun t =>
        t.pkg.cnt tile (oTrDisc tAuthFv) = s.pkg.cnt tile (oTrDisc tAuthFv) + 1 ∧ (t.pkg.trestle tile).engine = js ∧
        Frame s t [] [pkgAddr tile (oTrDisc tAuthFv)]) :=
  authVerify_discards hact hw hj hv hk (Pkg.verifyWith_outside hfit hwin)

variable (hlt : s.pkg.fvReceived tile h.authV m < 2 ^ 64)
  (hwin : s.pkg.fvReceived tile h.authV m - s.pkg.fv tile (apFv h.authV) ≤ apWindow h.authV)
include hlt hwin

theorem authVerify_forged (hcode : ¬ codeFits k h.authV m (s.pkg.fvReceived tile h.authV m)) :
    Runs (.authVerify tile at_) s (fun t =>
          t.pkg.cnt tile (oTrDisc tAuthMac) = s.pkg.cnt tile (oTrDisc tAuthMac) + 1 ∧ (t.pkg.trestle tile).engine = js ∧
          Frame s t [] [pkgAddr tile (oTrDisc tAuthMac)]) :=
  authVerify_discards hact hw hj hv hk (Pkg.verifyWith_forged hfit hlt hwin hcode)

include htile

theorem authVerify_genuine (hcode : codeFits k h.authV m (s.pkg.fvReceived tile h.authV m))
    (hchk : ∀ r ∈ h :: l, r.fld 7 23 18 ≠ 0 ∧ r.fld 8 9 0 = 0 ∧ r.fld 8 19 10 = 0) : Runs (.authVerify tile at_) s (fun t =>
            t.pkg.fv tile (apFv h.authV) = s.pkg.fvReceived tile h.authV m ∧ t.pkg.cnt tile oAuthVerified = s.pkg.cnt tile oAuthVerified + 1 ∧
            (∃ gs, (t.pkg.trestle tile).engine = gs ++ js) ∧ Frame s t (fvWords (apFv h.authV))
              [pkgAddr tile oAuthVerified, pkgAddr tile oMoveShort, pkgAddr tile (oTrDisc tOutFormat), pkgAddr tile (oTrDisc tChainLong)]) := by
  let p := s.pkg.jobTaken tile at_
  let q := p.fvTaken tile (apFv h.authV) (p.fvReceived tile h.authV m) oAuthVerified
  have htrestle : q.trestle tile = p.trestle tile := Pkg.fvTaken_trestle ..
  obtain ⟨hmode, ⟨gs, hgs⟩, hready, houtputs⟩ := Pkg.outputsFirst_engine (s := q) (t := tile) (m := m) (cut := cut) hchk
  refine runs_keepsReady hact hw rfl ((authVerify_eq hact hj hv hk).trans (Pkg.verifyWith_genuine hfit hlt hwin hcode)) ?_ ?_
    ⟨?_, ?_, ⟨gs, ?_⟩, Touches.rests ?_⟩
  · exact hmode.trans (Pkg.fvTaken_mode ..)
  · rw [hready, htrestle, Pkg.jobTaken_ready]
  · rw [State.restsAt_fv, houtputs.fv_eq]
    exact Pkg.fvTaken_fv htile hlt
  · rw [State.restsAt_cnt, houtputs.counts tile oAuthVerified (by simp [outputCounts, pkgAddr, oAuthVerified, oMoveShort, oTrDisc, tOutFormat, tChainLong])]
    exact Pkg.fvTaken_cnt ..
  · rw [State.restsAt_trestle, hgs, htrestle, Pkg.jobTaken_engine hj]
  · have htaken := (Touches.refl s.pkg (fvWords (apFv h.authV)) (pkgAddr tile oAuthVerified :: outputCounts tile)).jobTaken (t := tile) (at_ := at_)
    exact (htaken.fvTaken htile List.mem_cons_self).trans (houtputs.mono (List.nil_subset _) (List.subset_cons_self _ _))

end

/-- The output with its code, as the engine secures it. -/
def Pkg.secured (s : Pkg) (t : Nat) (k : List Byte) (o : Msg) (w : List Word) : Msg :=
  { o with payload := writeWithin o.payload (apAuthentic w o.payload.length) (beBytes (apTfv w) (s.fv t (apFv w) + 1) ++
      apCode k w (o.payload.take (apAuthentic w o.payload.length)) (s.fv t (apFv w) + 1)) }

theorem Pkg.generateWith_lin {s : Pkg} {t : Nat} {k : List Byte} {o : Msg} {r : RouteSnap} (hfit : apFits r.authG o.payload.length = true)
    (hlt : s.fv t (apFv r.authG) + 1 < 2 ^ 64) (hlo : 16 ≤ r.dst) (hhi : r.dst < 22) (ht : t ≤ 1) (hpath : s.pathUp t 15 = true)
    (hup : s.linUp (r.dst - 16) = true) : s.generateWith t k o r = (s.fvTaken t (apFv r.authG) (s.fv t (apFv r.authG) + 1) oAuthGenerated).postLatest t
      [r.dst] (o.id % 64) (s.secured t k o r.authG) (r.fld 4 31 24) := by
  have hpath' : (s.fvTaken t (apFv r.authG) (s.fv t (apFv r.authG) + 1) oAuthGenerated).pathUp t 15 = true :=
    ((SameWays.fvTaken (.refl s) (apFv_lt _)).pathUp t 15).trans hpath
  have hup' : (s.fvTaken t (apFv r.authG) (s.fv t (apFv r.authG) + 1) oAuthGenerated).linUp (r.dst - 16) = true := by
    rw [← hup, Pkg.linUp, Pkg.on, Pkg.fvTaken, Pkg.bump_get, Pkg.bump_get, Pkg.setFv_get_sentinel ht (apFv_lt _), Pkg.setFv_get_sentinel ht (apFv_lt _)]
    rfl
  refine (if_neg (by rw [hfit]; decide)).trans ((if_neg (Nat.not_le.2 hlt)).trans ?_)
  exact Pkg.deliverOut_lin hlo hhi hpath' hup'

theorem authGenerate_secures {s : State} {tile at_ : Nat} {k : List Byte} {o : Msg} {r : RouteSnap} {js : List EngJob} (htile : tile ≤ 1)
    (hact : s.pkg.trActive tile = true) (hw : s.noEthWaits) (hj : (s.pkg.trestle tile).engine = .generate o r :: js) (hv : apValid r.authG = true)
    (hk : s.pkg.trKey tile (apSlot r.authG) true = .key k) (hfit : apFits r.authG o.payload.length = true)
    (hlt : s.pkg.fv tile (apFv r.authG) + 1 < 2 ^ 64) (hlo : 16 ≤ r.dst) (hhi : r.dst < 22) (hpath : s.pkg.pathUp tile 15 = true)
    (hup : s.pkg.linUp (r.dst - 16) = true) : Runs (.authGenerate tile at_) s (fun t =>
        t.pkg.fv tile (apFv r.authG) = s.pkg.fv tile (apFv r.authG) + 1 ∧ t.pkg.cnt tile oAuthGenerated = s.pkg.cnt tile oAuthGenerated + 1 ∧
        (t.pkg.trestle tile).engine = js ∧
        (∃ e, t.pkg.latest r.dst (o.id % 64) = some e ∧ e.started = false ∧ e.msg.payload = (s.pkg.secured tile k o r.authG).payload) ∧
        Frame s t (fvWords (apFv r.authG)) [pkgAddr tile oAuthGenerated, pkgAddr tile (oTrDisc tTxReplaced), pkgAddr tile oMsgOut]) := by
  let p := s.pkg.jobTaken tile at_
  let q := p.fvTaken tile (apFv r.authG) (p.fv tile (apFv r.authG) + 1) oAuthGenerated
  have htrestle : q.trestle tile = p.trestle tile := Pkg.fvTaken_trestle ..
  have hmode : q.mode = p.mode := Pkg.fvTaken_mode ..
  have hpath' : p.pathUp tile 15 = true := ((SameWays.refl s.pkg).jobTaken.pathUp tile 15).trans hpath
  have hpost : authGenerate tile at_ s.pkg = q.postLatest tile [r.dst] (o.id % 64) (p.secured tile k o r.authG) (r.fld 4 31 24) :=
    (authGenerate_eq hact hj hv hk).trans (Pkg.generateWith_lin hfit hlt hlo hhi htile hpath' hup)
  obtain ⟨e, x, n, hstarted, hmsg, hlatest, hform⟩ := q.postLatest_one tile r.dst (o.id % 64) (p.secured tile k o r.authG) (r.fld 4 31 24)
  have hposted : Touches q (q.postLatest tile [r.dst] (o.id % 64) (p.secured tile k o r.authG) (r.fld 4 31 24)) []
      [pkgAddr tile (oTrDisc tTxReplaced), pkgAddr tile oMsgOut] := (Touches.refl _ _ _).postLatest (by simp) (by simp)
  refine runs_keepsReady hact hw rfl hpost ?_ ?_ ⟨?_, ?_, ?_, ⟨e, ?_, hstarted, congrArg Msg.payload hmsg⟩, Touches.rests ?_⟩
  · rw [hform]
    exact hmode
  · rw [hform]
    exact (congrArg TrestleSt.ready htrestle).trans (Pkg.jobTaken_ready ..)
  · rw [State.restsAt_fv, hposted.fv_eq]
    exact Pkg.fvTaken_fv htile hlt
  · rw [State.restsAt_cnt, hposted.counts tile oAuthGenerated (by simp [pkgAddr, oAuthGenerated, oTrDisc, tTxReplaced, oMsgOut])]
    exact Pkg.fvTaken_cnt ..
  · rw [State.restsAt_trestle, hform]
    exact (congrArg TrestleSt.engine htrestle).trans (Pkg.jobTaken_engine hj)
  · rw [State.restsAt_latest, hform]
    exact hlatest
  · have htaken := (Touches.refl s.pkg (fvWords (apFv r.authG)) [pkgAddr tile oAuthGenerated, pkgAddr tile (oTrDisc tTxReplaced),
      pkgAddr tile oMsgOut]).jobTaken (t := tile) (at_ := at_)
    exact (htaken.fvTaken htile List.mem_cons_self).trans (hposted.mono (List.nil_subset _) (List.subset_cons_self _ _))

/-- Settles O27: the engine's job by its equation in each outcome; a freshness value taken is then read back, and what follows it moves no word. -/
theorem authenticationEngine : Obligations.AuthenticationEngine := by
  unfold Obligations.AuthenticationEngine
  refine fun tile at_ k s htile hact hw => ⟨fun m h l cut js hj hv hk hfit =>
    ⟨fun hlt hwin => ⟨authVerify_forged hact hw hj hv hk hfit hlt hwin, authVerify_genuine htile hact hw hj hv hk hfit hlt hwin⟩,
      authVerify_outside hact hw hj hv hk hfit⟩,
    fun o r js hj hv hk hfit hlt hlo hhi hpath hup => authGenerate_secures htile hact hw hj hv hk hfit hlt hlo hhi hpath hup⟩

end Sys2Proof.Machine
end

section
/-! PROOFS. The endpoint's link, its configuration, and the unmasking of an MSI-X vector (R218, R220, R224, R235): what O30 asks. -/
namespace Sys2Proof.Machine

/-! ### The MSI-X logic sends (R235) -/

/-- The sum of the powers 2ᵛ over the v below n that pass a test has just those bits. -/
theorem powersBelow_testBit (p : Nat → Bool) (n v : Nat) :
    (((List.range n).filter p).foldl (fun a v => a + 2 ^ v) 0).testBit v = (decide (v < n) && p v) ∧
      ((List.range n).filter p).foldl (fun a v => a + 2 ^ v) 0 < 2 ^ n := by
  induction n with
  | zero => simp
  | succ n ih =>
    obtain ⟨hbit, hlt⟩ := ih
    rw [List.range_succ, List.filter_append, List.foldl_append]
    generalize ((List.range n).filter p).foldl (fun a v => a + 2 ^ v) 0 = x at hbit hlt
    cases hp : p n with
    | false =>
      have hne : v = n → p v = false := by rintro rfl; exact hp
      simp only [List.filter_cons, hp, List.filter_nil, List.foldl_nil, Bool.false_eq_true, if_false]
      refine ⟨?_, by omega⟩
      rw [hbit]
      rcases Nat.lt_trichotomy v n with h | h | h
      · simp [h, Nat.lt_succ_of_lt h]
      · simp [h, hp]
      · simp [show ¬ v < n by omega, show ¬ v < n + 1 by omega]
    | true =>
      simp only [List.filter_cons, hp, List.filter_nil, List.foldl_cons, List.foldl_nil, if_true]
      refine ⟨?_, by omega⟩
      rcases Nat.lt_trichotomy v n with h | h | h
      · rw [Nat.add_comm, Nat.testBit_two_pow_add_gt h, hbit]
        simp [h, Nat.lt_succ_of_lt h]
      · subst h
        rw [Nat.add_comm, Nat.testBit_two_pow_add_eq, Nat.testBit_lt_two_pow hlt]
        simp [hp]
      · rw [Nat.testBit_lt_two_pow (Nat.lt_of_lt_of_le (show x + 2 ^ n < 2 ^ (n + 1) by omega) (Nat.pow_le_pow_right (by decide) h))]
        simp [show ¬ v < n + 1 by omega]

section
variable {s : Pkg} {t v : Nat}

theorem Pkg.vecCauses_bit (hv : v < 32) : (s.vecCauses t).getLsbD v = s.vecCause t v := by
  rw [Pkg.vecCauses, BitVec.getLsbD_ofNat, (powersBelow_testBit _ 32 v).1]
  simp [hv]

theorem Pkg.vecMask_bit (hv : v < 32) : (s.vecMask t).getLsbD v = s.vecMasked t v := by
  rw [Pkg.vecMask, BitVec.getLsbD_ofNat, (powersBelow_testBit _ 32 v).1]
  simp [hv]

/-- A pending vector that is unmasked and whose cause holds sends its message. -/
theorem Pkg.settleTile_sends (hv : v < 32) (hm : s.vecMasked t v = false) (hp : (SMap.get {} s.msix t).pending.getLsbD v = true)
    (hc : s.vecCause t v = true) : s.vecMessage t v ∈ (s.settleTile t).out := by
  refine List.mem_append_right _ (List.mem_map_of_mem (List.mem_filter.2 ⟨List.mem_range.2 hv, ?_⟩))
  simp only [BitVec.getLsbD_and, BitVec.getLsbD_or, BitVec.getLsbD_not, Pkg.vecCauses_bit hv, Pkg.vecMask_bit hv, hm, hp, hc, hv]
  simp

theorem Pkg.out_prefix_settleTiles (s : Pkg) (l : List Nat) : s.out <+: (l.foldl Pkg.settleTile s).out := by
  induction l generalizing s with
  | nil => exact List.prefix_rfl
  | cons u l ih => exact (List.prefix_append _ _).trans (ih (s.settleTile u))

/-- The logic of one endpoint leaves the other endpoints' alone. -/
theorem Pkg.settleTiles_sends {l : List Nat} (ht : t ∈ l) (hv : v < 32) (hm : s.vecMasked t v = false)
    (hp : (SMap.get {} s.msix t).pending.getLsbD v = true) (hc : s.vecCause t v = true) : s.vecMessage t v ∈ (l.foldl Pkg.settleTile s).out := by
  induction l generalizing s with
  | nil => exact absurd ht List.not_mem_nil
  | cons u l ih =>
    by_cases hu : t = u
    · subst hu
      exact (Pkg.out_prefix_settleTiles _ l).subset (Pkg.settleTile_sends hv hm hp hc)
    · have hmsix : SMap.get {} (s.settleTile u).msix t = SMap.get {} s.msix t := SMap.get_set_ne _ _ _ _ hu
      exact ih (s := s.settleTile u) ((List.mem_cons.1 ht).resolve_left hu) hm (by rw [hmsix]; exact hp) hc

theorem Pkg.settle_sends (ht : t < 7) (hon : s.tileOn t = true) (hv : v < 32) (hm : s.vecMasked t v = false)
    (hp : (SMap.get {} s.msix t).pending.getLsbD v = true) (hc : s.vecCause t v = true) : s.vecMessage t v ∈ s.settle.out :=
  Pkg.settleTiles_sends (List.mem_filter.2 ⟨List.mem_range.2 ht, hon⟩) hv hm hp hc

end

/-! ### A write of a vector's mask (R235) -/

/-- The word of a vector's mask: the one writable bit MASK, live, of any value (R235). -/
theorem wordFields_msixMask {t v : Nat} (ht : t ≠ 15) (hv : v < 32) :
    wordFields t (msixOff v + 12) = [⟨"MASK", 0, 0, .rw, 0x1, .live, none⟩] := by
  have hcopy : ∀ v < 32, wordFields 0 (msixOff v + 12) = [⟨"MASK", 0, 0, .rw, 0x1, .live, none⟩] := by decide +kernel
  have hw : wordFields t (msixOff v + 12) = wordFields 0 (msixOff v + 12) := by simp [wordFields, sentinelDie, ht]
  rw [hw, hcopy v hv]

theorem tileBlock_msixMask {v : Nat} (hv : v < 32) : tileBlock (msixOff v + 12) = some .hb := by
  unfold msixOff tileBlock
  repeat rw [if_neg (by omega)]
  exact if_pos (by omega)

theorem plainWord_msixMask {t v : Nat} (ht : t ≠ 15) (hv : v < 32) : plainWord t (msixOff v + 12) = true := by
  have hpod : podCommand (msixOff v + 12) = none := by
    unfold msixOff podCommand
    repeat rw [if_neg (by omega)]
  have hmirror : mirroredWord (msixOff v + 12) = false := by simp [mirroredWord, msixOff]; omega
  simp only [plainWord, if_neg ht, hpod, tileBlock_msixMask hv, hmirror]
  simp [msixOff]
  omega

section
variable {s : Pkg} {die off : Nat} {v : Word} (r : Req)

/-- A word whose software bits are plain and live takes the value in them (R14, R17). -/
theorem Pkg.wordTaken_live (hcold : coldBits die off = 0) (h1 : w1sBits die off = 0) (hc : w1cBits die off = 0) :
    s.wordTaken r die off v = s.wrUnless (writableBits die off = 0) die off ((s.rd die off &&& ~~~ writableBits die off) ||| (v &&& writableBits die off)) := by
  have hshut : s.shutBits die off = 0 := by simp [Pkg.shutBits, hcold]
  have hprompt : s.promptBits die off = writableBits die off := by simp [Pkg.promptBits, hcold]
  have hdelayed : s.delayedBits die off = 0 := by simp [Pkg.delayedBits, hcold]
  simp [Pkg.wordTaken, Pkg.coldChecked, hshut, hprompt, hdelayed, Pkg.plainWrite, Pkg.wrUnless, Pkg.writeCold, Pkg.writeClear, h1, hc]

end

/-- The mask of a vector is cleared. -/
def Pkg.unmasked (s : Pkg) (t v : Nat) : Pkg := s.wr t (msixOff v + 12) (s.rd t (msixOff v + 12) &&& ~~~ 1)

section
variable {s : Pkg} {t v : Nat}

/-- No value of the word is out of shape (R56). -/
theorem Pkg.inShape_msixMask (ht : t ≠ 15) (hv : v < 32) (w m : Word) : s.inShape t (msixOff v + 12) w m = true := by
  have hbridge : s.hbShape t (msixOff v + 12) w = true := if_neg (by unfold msixOff; omega)
  have hshape : s.tileShape t (msixOff v + 12) w = true := by
    unfold Pkg.tileShape
    repeat rw [if_neg (by unfold msixOff; omega)]
    rw [tileBlock_msixMask hv]
    exact hbridge
  simp [Pkg.inShape, wordFields_msixMask ht hv, ht, hshape]

theorem Pkg.writeTile_unmask (ht : t ≠ 15) (hv : v < 32) (r : Req) : s.writeTile r t (msixOff v + 12) 0 15 = s.unmasked t v := by
  have hfields := wordFields_msixMask ht hv
  have hrk : s.rkBits t (msixOff v + 12) = 0 := by
    rw [Pkg.rkBits, if_neg (by unfold msixOff; omega), keystoneMask, hfields]; decide
  have hwritable : writableBits t (msixOff v + 12) = 1 := by simp [writableBits, hfields, maskOf]; decide
  have hcold : coldBits t (msixOff v + 12) = 0 := by rw [coldBits, hfields]; decide
  have hw1s : w1sBits t (msixOff v + 12) = 0 := by rw [w1sBits, hfields]; decide
  have hw1c : w1cBits t (msixOff v + 12) = 0 := by rw [w1cBits, hfields]; decide
  have hzero : ∀ w : Word, w ||| (0 &&& 1) = w := fun w => by simp
  rw [writeTile_plain ht (plainWord_msixMask ht hv), Pkg.writeWord_takes r (Pkg.inShape_msixMask ht hv ..), if_pos hrk,
    Pkg.wordTaken_live r hcold hw1s hw1c, hwritable, Pkg.wrUnless, if_neg (by decide), hzero, Pkg.unmasked]

theorem Touches.unmasked {p q : Pkg} {W C : List Nat} (h : Touches p q W C) (hm : pkgAddr t (msixOff v + 12) ∈ W) : Touches p (q.unmasked t v) W C := h.wr hm

theorem Pkg.unmasked_sameWays (hv : v < 32) : SameWays s (s.unmasked t v) :=
  (SameWays.refl s).wr (by unfold wayWord msixOff; omega)

theorem Pkg.vecMasked_unmasked : (s.unmasked t v).vecMasked t v = false := by
  rw [Pkg.vecMasked, Pkg.unmasked, Pkg.rd_wr_same, BitVec.getLsbD_and]
  simp

theorem Pkg.vecMessage_unmasked : (s.unmasked t v).vecMessage t v = s.vecMessage t v := by
  simp [Pkg.vecMessage, Pkg.unmasked, Pkg.rd64, Pkg.rd_wr_off]

/-- No mask is the cause of a vector (Table 7-7). -/
theorem Pkg.vecCause_unmasked (hv : v < 32) (u c : Nat) : (s.unmasked t v).vecCause u c = s.vecCause u c := by
  have hways := Pkg.unmasked_sameWays (s := s) (t := t) hv
  have hrd : ∀ d o, o < 0x1801000 ∨ (0x1801200 ≤ o ∧ o < 2 ^ 26) → (s.unmasked t v).rd d o = s.rd d o := fun d o ho =>
    s.rd_wr_ne _ fun he => by unfold pkgAddr msixOff at he; omega
  have hsteward : (s.unmasked t v).steward = s.steward := rfl
  have hcen : (s.unmasked t v).cenReq = s.cenReq := rfl
  have hsw : (s.unmasked t v).sw = s.sw := rfl
  have hrange : List.range 4 = [0, 1, 2, 3] := rfl
  unfold Pkg.vecCause
  split <;> simp (disch := omega) only [Pkg.on, Pkg.get, fMerrValid, hrange, List.any_cons, hrd, hways.pathUp, hsteward, hcen, hsw] <;> rfl

end

section
variable {s : State} {a : Acc} {tile vec : Nat}

/-- MSIX_UNMASK that reaches its vector (R235). -/
theorem msixUnmask_unmasks (ht : tile < 7) (hv : vec < 32) (h : s.pkg.reaches a.req tile (msixOff vec + 12) 0) :
    Runs (.msixUnmask a tile vec) s (fun t =>
      t.pkg.vecMasked tile vec = false ∧ Frame s t [pkgAddr tile (msixOff vec + 12)] [] ∧
      (s.pkg.tileOn tile = true → (SMap.get {} s.pkg.msix tile).pending.getLsbD vec = true → s.pkg.vecCause tile vec = true →
        s.pkg.vecMessage tile vec ∈ t.pkg.out)) := by
  have hexec : exec (.msixUnmask a tile vec) s = .next (s.regWrite a tile (msixOff vec + 12) 0).finish := by
    show Host.Outcome.next (s.regWriteIf (decide (vec < 32)) a tile (msixOff vec + 12) 0).finish = _
    rw [State.regWriteIf, if_pos (decide_eq_true hv)]
  refine runs_tileWrite h (by omega) (by unfold msixOff; omega) hexec (·.unmasked tile vec) (Pkg.writeTile_unmask (by omega) hv a.req)
    ⟨?_, frame_remember (r := a.req) (n := a.at_) ((Touches.refl _ _ _).unmasked (List.mem_singleton.2 rfl)), fun hon hpend hcause => ?_⟩
  · rw [Pkg.vecMasked, State.finish_pkg_rd]
    exact Pkg.vecMasked_unmasked
  · obtain ⟨x, k, q, hrem⟩ := (s.pkg.reach a.at_).remember_eq a.req tile (msixOff vec + 12) 0
    generalize hp : (s.pkg.reach a.at_).remember a.req tile (msixOff vec + 12) 0 = p at hrem
    have hmsg : p.vecMessage tile vec = s.pkg.vecMessage tile vec := by rw [hrem]; rfl
    rw [← hmsg, ← Pkg.vecMessage_unmasked]
    show _ ∈ (((s.pkg.reach a.at_).remember a.req tile (msixOff vec + 12) 0).unmasked tile vec).settle.out
    rw [hp]
    refine Pkg.settle_sends ht ?_ hv Pkg.vecMasked_unmasked ?_ ?_
    · rw [(Pkg.unmasked_sameWays hv).tileOn, hrem]; exact hon
    · rw [hrem]; exact hpend
    · rw [Pkg.vecCause_unmasked hv, hrem]; exact hcause

end

/-! ### The bridge's state beside its registers -/

@[simp] theorem Pkg.bridge_setBridge_same (s : Pkg) (t : Nat) (x : BridgeSt) : (s.setBridge t x).bridge t = x := SMap.get_set_same _ _ _ _

theorem State.finish_bridge (s : State) (t : Nat) : s.finish.pkg.bridge t = s.pkg.bridge t := by rw [Pkg.bridge, State.finish_pkg_bridges]; rfl

theorem Touches.setBridge {p q : Pkg} {W C : List Nat} (h : Touches p q W C) {t : Nat} {x : BridgeSt} : Touches p (q.setBridge t x) W C :=
  h.same rfl rfl rfl rfl

/-! ### The link (R220) -/

/-- The link of an endpoint has come up. -/
def Pkg.linkRaised (s : Pkg) (t speed width : Nat) : Pkg := ((s.put t fHbLink 1).put t fHbSpeed speed).put t fHbWidth width

/-- What a configuration write sets in HB_LINK (R218). -/
def Pkg.configured (s : Pkg) (t : Nat) (bme : Bool) (mps mrrs : Nat) : Pkg := ((s.put t fHbBme (bit bme)).put t fHbMps mps).put t fHbMrrs mrrs

section
variable (s : Pkg) (t : Nat)

theorem Pkg.linkRaised_on (speed width : Nat) : (s.linkRaised t speed width).on t fHbLink = true := by
  rw [Pkg.linkRaised, Pkg.on_put_apart _ _ (.inr (by decide)), Pkg.on_put_apart _ _ (.inr (by decide)), Pkg.on_put_same _ _ _ _ (by decide)]
  rfl

theorem Pkg.linkRaised_speed {speed : Nat} (width : Nat) (h : speed ≤ 4) : (s.linkRaised t speed width).get t fHbSpeed = speed := by
  rw [Pkg.linkRaised, Pkg.get_put_apart _ _ (.inr (by decide)), Pkg.get_put_same _ _ _ _ (by decide)]
  exact Nat.mod_eq_of_lt (show speed < 8 by omega)

theorem Pkg.linkRaised_width (speed : Nat) {width : Nat} (h : width ≤ 4) : (s.linkRaised t speed width).get t fHbWidth = width := by
  rw [Pkg.linkRaised, Pkg.get_put_same _ _ _ _ (by decide)]
  exact Nat.mod_eq_of_lt (show width < 8 by omega)

theorem Pkg.configured_bme (bme : Bool) (mps mrrs : Nat) : (s.configured t bme mps mrrs).on t fHbBme = bme := by
  rw [Pkg.configured, Pkg.on_put_apart _ _ (.inr (by decide)), Pkg.on_put_apart _ _ (.inr (by decide)), Pkg.on_put_same _ _ _ _ (by decide)]
  cases bme <;> rfl

theorem Pkg.configured_mps (bme : Bool) {mps : Nat} (mrrs : Nat) (h : mps ≤ 2) : (s.configured t bme mps mrrs).get t fHbMps = mps := by
  rw [Pkg.configured, Pkg.get_put_apart _ _ (.inr (by decide)), Pkg.get_put_same _ _ _ _ (by decide)]
  exact Nat.mod_eq_of_lt (show mps < 4 by omega)

theorem Pkg.configured_mrrs (bme : Bool) (mps : Nat) {mrrs : Nat} (h : mrrs ≤ 5) : (s.configured t bme mps mrrs).get t fHbMrrs = mrrs := by
  rw [Pkg.configured, Pkg.get_put_same _ _ _ _ (by decide)]
  exact Nat.mod_eq_of_lt (show mrrs < 8 by omega)

/-- A bit that hardware sets leaves the fields of another word of its die. -/
theorem Pkg.on_raise_off {d : Nat} {f f' : Fld} (h : f'.off ≠ f.off) : (s.raise d f).on d f' = s.on d f' := s.on_put_apart 1 (.inl h)

variable {p q : Pkg} {W C : List Nat} {t}

theorem Touches.linkRaised (h : Touches p q W C) {speed width : Nat} (hm : pkgAddr t fHbLink.off ∈ W) : Touches p (q.linkRaised t speed width) W C :=
  ((h.put hm).put (f := fHbSpeed) hm).put (f := fHbWidth) hm

theorem Touches.configured (h : Touches p q W C) {bme : Bool} {mps mrrs : Nat} (hm : pkgAddr t fHbLink.off ∈ W) :
    Touches p (q.configured t bme mps mrrs) W C := ((h.put (f := fHbBme) hm).put (f := fHbMps) hm).put (f := fHbMrrs) hm

end

section
variable {s : State} {tile at_ : Nat} (hon : s.pkg.tileOn tile = true)
include hon

theorem pcieLinkUp_sets {speed width : Nat} (hdown : s.pkg.on tile fHbLink = false) (hlo : 1 ≤ speed) (hhi : speed ≤ 4)
    (hw : width = 1 ∨ width = 2 ∨ width = 4) : Runs (.pcieLinkUp tile speed width at_) s (fun t =>
      t.pkg.on tile fHbLink = true ∧ t.pkg.get tile fHbSpeed = speed ∧ t.pkg.get tile fHbWidth = width ∧ Frame s t [pkgAddr tile fHbLink.off] []) := by
  have heff : pcieLinkUp tile speed width at_ s.pkg = (s.pkg.reach at_).linkRaised tile speed width := by
    refine Pkg.when_pos _ _ ?_
    simpa [hon, hdown, hlo, hhi, or_assoc] using hw
  refine runs_becomes rfl heff ⟨?_, ?_, ?_, ((Touches.refl _ _ _).reach.linkRaised (List.mem_singleton.2 rfl)).finishes⟩
  · rw [State.finish_pkg_on]; exact Pkg.linkRaised_on ..
  · rw [State.finish_pkg_get]; exact Pkg.linkRaised_speed _ _ _ hhi
  · rw [State.finish_pkg_get]; exact Pkg.linkRaised_width _ _ _ (by omega)

theorem pcieLinkDown_sets (hup : s.pkg.on tile fHbLink = true) : Runs (.pcieLinkDown tile at_) s (fun t =>
      t.pkg.on tile fHbLink = false ∧ t.pkg.on tile (fHbCause 5) = true ∧ Frame s t [pkgAddr tile fHbLink.off, pkgAddr tile (fHbCause 5).off] []) := by
  have heff : pcieLinkDown tile at_ s.pkg = ((s.pkg.reach at_).put tile fHbLink 0).raise tile (fHbCause 5) :=
    Pkg.when_pos _ _ (Bool.and_eq_true_iff.2 ⟨hon, hup⟩)
  refine runs_becomes rfl heff ⟨?_, ?_, Touches.finishes ?_⟩
  · rw [State.finish_pkg_on]
    exact (Pkg.on_raise_off _ (by decide)).trans (Pkg.on_put_same _ _ _ _ (by decide))
  · rw [State.finish_pkg_on]
    exact Pkg.on_raise_same _ _ _ (by decide) (by decide)
  · exact ((Touches.refl _ _ _).reach.put List.mem_cons_self).raise (List.mem_cons_of_mem _ (List.mem_singleton.2 rfl))

/-! ### The endpoint's configuration (R218, R224) -/

/-- A completion timeout that the endpoint supports is taken; another changes nothing. -/
theorem pcieConfigWrite_eq {bme : Bool} {mps mrrs us : Nat} (hup : s.pkg.on tile fHbLink = true) (hm : mps ≤ 2) (hr : mrrs ≤ 5) :
    pcieConfigWrite tile bme mps mrrs us at_ s.pkg = if cplRange us then
        ((s.pkg.reach at_).configured tile bme mps mrrs).setBridge tile { s.pkg.bridge tile with cplUs := us }
      else (s.pkg.reach at_).configured tile bme mps mrrs := by
  refine Pkg.when_pos _ _ ?_
  simp [hon, hup, hm, hr]

theorem pcieConfigWrite_sets {bme : Bool} {mps mrrs us : Nat} (hup : s.pkg.on tile fHbLink = true) (hm : mps ≤ 2) (hr : mrrs ≤ 5) :
    Runs (.pcieConfigWrite tile bme mps mrrs us at_) s (fun t =>
      t.pkg.on tile fHbBme = bme ∧ t.pkg.get tile fHbMps = mps ∧ t.pkg.get tile fHbMrrs = mrrs ∧
      (t.pkg.bridge tile).cplUs = (if cplRange us then us else (s.pkg.bridge tile).cplUs) ∧ Frame s t [pkgAddr tile fHbLink.off] []) := by
  have htouch : Touches s.pkg ((s.pkg.reach at_).configured tile bme mps mrrs) [pkgAddr tile fHbLink.off] [] :=
    (Touches.refl _ _ _).reach.configured (List.mem_singleton.2 rfl)
  have hbme := (s.pkg.reach at_).configured_bme tile bme mps mrrs
  have hmps := (s.pkg.reach at_).configured_mps tile bme mrrs hm
  have hmrrs := (s.pkg.reach at_).configured_mrrs tile bme mps hr
  refine runs_becomes rfl (pcieConfigWrite_eq hon hup hm hr) ?_
  simp only [State.finish_pkg_on, State.finish_pkg_get, State.finish_bridge, State.map_pkg]
  split
  · exact ⟨hbme, hmps, hmrrs, congrArg BridgeSt.cplUs (Pkg.bridge_setBridge_same ..), htouch.setBridge.finishes⟩
  · exact ⟨hbme, hmps, hmrrs, rfl, htouch.finishes⟩

end

/-- Settles O30: unmasking a vector writes its mask alone, and the MSI-X logic then sends what is due; each event of the link by what it sets. -/
theorem endpointControls : Obligations.EndpointControls := by
  unfold Obligations.EndpointControls
  exact ⟨fun _ _ _ _ ht hv h => msixUnmask_unmasks ht hv h, fun _ _ _ hon =>
    ⟨fun _ _ hdown hlo hhi hw => pcieLinkUp_sets hon hdown hlo hhi hw,
      fun hup => ⟨pcieLinkDown_sets hon hup, fun _ _ _ _ hm hr => pcieConfigWrite_sets hon hup hm hr⟩⟩⟩

end Sys2Proof.Machine
end

section
/-! PROOFS. Runs of bytes at ascending addresses: in a byte memory, in one piece at the host, and by their addresses (R226, R227). -/
namespace Sys2Proof.Machine

/-! ### Runs of bytes in a memory -/

theorem cellKey_inj {u t b a : Nat} (hb : b < 2 ^ 40) (ha : a < 2 ^ 40) : cellKey u b = cellKey t a ↔ u = t ∧ b = a := by
  unfold cellKey; omega

/-- A byte read after a run of bytes has been written: the run's, where it lies in it. -/
theorem Mem.get_write {m : Mem} {t a u b : Nat} {bs : List Byte} (ha : a + bs.length ≤ 2 ^ 40) (hb : b < 2 ^ 40) :
    (m.write t a bs).get u b = if u = t ∧ a ≤ b ∧ b < a + bs.length then bs.getD (b - a) 0 else m.get u b := by
  induction bs generalizing m a with
  | nil => rw [Mem.write, if_neg (by simp only [List.length_nil]; omega)]
  | cons x bs ih =>
    simp only [List.length_cons] at ha ⊢
    rw [Mem.write, ih (by omega), Mem.get_set]
    simp only [cellKey_inj hb (show a < 2 ^ 40 by omega)]
    by_cases hu : u = t
    · rcases Nat.lt_trichotomy b a with h | h | h
      · rw [if_neg (by omega), if_neg (by omega), if_neg (by omega)]
      · subst h
        rw [if_neg (by omega), if_pos ⟨hu, rfl⟩, if_pos ⟨hu, Nat.le_refl _, by omega⟩, Nat.sub_self, List.getD_cons_zero]
      · have hsub : b - a = (b - (a + 1)) + 1 := by omega
        rw [if_neg (show ¬ (u = t ∧ b = a) by omega), hsub, List.getD_cons_succ]
        exact if_congr (by omega) rfl rfl
    · simp only [hu, false_and, if_false]

/-- Stores in ascending order from an address are a run of bytes written. -/
theorem foldl_stores_write {data : List Byte} {t a : Nat} {f : Mem → (Option Nat × Byte) × Bool → Mem}
    (hf : ∀ m b, ∀ i < data.length, f m ((some (a + i), b), true) = m.set t (a + i) b) (m : Mem) :
    ((((List.range data.length).map (fun i => some (a + i))).zip data).zip (data.map (fun _ => true))).foldl f m = m.write t a data := by
  induction data generalizing a m with
  | nil => rfl
  | cons x data ih =>
    have hstep : ∀ m b, ∀ i < data.length, f m ((some (a + 1 + i), b), true) = m.set t (a + 1 + i) b := fun m b i hi => by
      have h := hf m b (i + 1) (Nat.succ_lt_succ hi)
      rwa [show a + (i + 1) = a + 1 + i by omega] at h
    have hmap : (List.range data.length).map (fun i => some (a + (i + 1))) = (List.range data.length).map (fun i => some (a + 1 + i)) :=
      List.map_congr_left fun i _ => by rw [show a + (i + 1) = a + 1 + i by omega]
    rw [List.length_cons, List.range_succ_eq_map, List.map_cons, List.map_map, List.map_cons, List.zip_cons_cons, List.zip_cons_cons, List.foldl_cons,
      hf m x 0 (Nat.succ_pos _), Mem.write, ← ih hstep, ← hmap]
    rfl

/-! ### Consecutive addresses -/

/-- n addresses from a. -/
def addrsFrom (a n : Nat) : List Nat := (List.range n).map (fun i => a + i)

/-- The bytes of a list by their addresses from a. -/
def bytesFrom (a : Nat) (data : List Byte) : List (Nat × Byte) := (List.range data.length).map (fun i => (a + i, data.getD i 0))

section
variable {a n : Nat} {data : List Byte}

/-- Without lane reordering an access takes its bytes in the order of their addresses (Table 7-2). -/
theorem laneMap_plain (a n : Nat) : laneMap 0 a n = addrsFrom a n := rfl

theorem addrsFrom_succ (a n : Nat) : addrsFrom a (n + 1) = addrsFrom a n ++ [a + n] := by
  rw [addrsFrom, List.range_succ, List.map_append]; rfl

theorem mem_addrsFrom {x : Nat} : x ∈ addrsFrom a n ↔ a ≤ x ∧ x < a + n := by
  simp only [addrsFrom, List.mem_map, List.mem_range]
  exact ⟨by rintro ⟨i, hi, rfl⟩; omega, fun h => ⟨x - a, by omega, by omega⟩⟩

theorem insertAsc_last {x : Nat} {l : List Nat} (h : ∀ b ∈ l, b < x) : insertAsc x l = l ++ [x] := by
  induction l with
  | nil => rfl
  | cons b l ih =>
    have hb : b < x := h b List.mem_cons_self
    rw [insertAsc, if_neg (by omega), if_neg (by omega), ih fun c hc => h c (List.mem_cons_of_mem _ hc), List.cons_append]

/-- Consecutive addresses are in ascending order already. -/
theorem sortAsc_addrsFrom (a n : Nat) : sortAsc (addrsFrom a n) = addrsFrom a n := by
  induction n with
  | zero => rfl
  | succ n ih =>
    rw [sortAsc] at ih
    rw [addrsFrom_succ, sortAsc, List.foldl_append, ih]
    exact insertAsc_last fun b hb => (mem_addrsFrom.1 hb).2

/-- The next address of a piece joins it, but at a multiple of the cut (R227). -/
theorem piecesOf_joins {cut b m : Nat} {l : List Nat} (h : piecesOf cut l = [(b, m)]) (hc : (b + m) % cut ≠ 0) :
    piecesOf cut (l ++ [b + m]) = [(b, m + 1)] := by
  rw [piecesOf, List.reverse_eq_iff] at h
  rw [piecesOf, List.foldl_append, h]
  simp [hc]

/-- Consecutive addresses within one interval of the cut are one piece. -/
theorem piecesOf_addrsFrom {cut : Nat} (hn : 0 < n) (h : a % cut + n ≤ cut) : piecesOf cut (addrsFrom a n) = [(a, n)] := by
  induction n with
  | zero => omega
  | succ n ih =>
    rcases Nat.eq_zero_or_pos n with rfl | hpos
    · rfl
    · have hmod : (a + n) % cut = a % cut + n := by
        rw [Nat.add_mod, Nat.mod_eq_of_lt (show n < cut by omega), Nat.mod_eq_of_lt (by omega)]
      rw [addrsFrom_succ]
      exact piecesOf_joins (ih hpos (by omega)) (by omega)

theorem bytesFrom_addrs (a : Nat) (data : List Byte) : (bytesFrom a data).map (·.1) = addrsFrom a data.length := by
  rw [bytesFrom, List.map_map]; rfl

/-- A byte is found by its address. -/
theorem byteAt_bytesFrom {i : Nat} (hi : i < data.length) : byteAt (bytesFrom a data) (a + i) = data.getD i 0 := by
  unfold byteAt
  cases h : (bytesFrom a data).find? (fun e => e.1 == a + i) with
  | none => exact absurd (List.find?_eq_none.1 h (a + i, data.getD i 0) (List.mem_map.2 ⟨i, List.mem_range.2 hi, rfl⟩)) (by simp)
  | some e =>
    obtain ⟨j, -, rfl⟩ := List.mem_map.1 (List.mem_of_find?_eq_some h)
    have hkey : a + j = a + i := by simpa using List.find?_some h
    rw [Nat.add_left_cancel hkey]
    rfl

/-- All bytes of a run, found by their addresses, are the run. -/
theorem map_byteAt_bytesFrom (a : Nat) (data : List Byte) : (addrsFrom a data.length).map (byteAt (bytesFrom a data)) = data := by
  refine List.ext_getElem (by simp [addrsFrom]) fun i hi hd => ?_
  simp only [addrsFrom, List.getElem_map, List.getElem_range]
  rw [byteAt_bytesFrom hd, List.getD_eq_getElem _ _ hd]

end

end Sys2Proof.Machine
end

section
/-! PROOFS. The host bridge: accesses through BAR2 and through outbound windows, completions, timeouts, prefetched bytes (R222, R224, R227–R229, R233):
what O29 asks. -/
namespace Sys2Proof.Machine

@[simp] theorem Pkg.reach_tileOn (s : Pkg) (n t : Nat) : (s.reach n).tileOn t = s.tileOn t := rfl

/-! ### BAR2 (R222, R229) -/

section
variable {s : Pkg} {t w off n : Nat}

/-- A window covers no offset below its base. -/
theorem Pkg.inWindow_base (h : s.inWindow t off = some w) : fieldGet (s.rd t (0x1800200 + 16 * w)) 13 0 * 4096 ≤ off := by
  have hcovers := List.find?_some h
  simp only [Bool.and_eq_true, decide_eq_true_eq] at hcovers
  exact hcovers.1.2

/-- The offsets of one window map to local addresses one after another. -/
theorem Pkg.inLocal_add (h : s.inWindow t off = some w) (i : Nat) : s.inLocal t w (off + i) = s.inLocal t w off + i := by
  have hbase := Pkg.inWindow_base h
  unfold Pkg.inLocal
  omega

/-- An access within one window without lane reordering. -/
theorem Pkg.bar2Map_window (hn : 0 < n) (hw : ∀ i < n, s.inWindow t (off + i) = some w) (hl : s.inLanes t w = 0) :
    s.bar2Map t off n = (List.range n).map (fun i => some (s.inLocal t w off + i)) := by
  refine List.map_congr_left fun i hi => ?_
  have hi := List.mem_range.1 hi
  have hplace : (addrsFrom off n).getD i 0 = off + i := by simp [addrsFrom, hi]
  rw [hw i hi, Option.map_some, hl, laneMap_plain, hplace, Pkg.inLocal_add (off := off) (hw 0 hn)]

/-- Such an access counts nothing. -/
theorem Pkg.bar2Count_window (hn : 0 < n) (hw : ∀ i < n, s.inWindow t (off + i) = some w) (hl : s.inLanes t w = 0) : s.bar2Count t off n = s := by
  have hall : ((List.range n).map (fun i => some (s.inLocal t w off + i))).any Option.isNone = false := by simp
  have hfirst : s.inWindow t off = some w := hw 0 hn
  simp only [Pkg.bar2Count, hfirst, hl, Pkg.laneCount, laneUnaligned]
  simp [Pkg.bar2Map_window hn hw hl]

/-- A byte that no window covers is counted once for its access. -/
theorem Pkg.bar2Count_nowhere (hw : s.inWindow t off = none) : s.bar2Count t off 1 = (s.bump t oHbInNoWin).raise t (fHbCause 0) := by
  simp [Pkg.bar2Count, Pkg.bar2Map, hw]

/-- Where no read of BAR0 waits, the completion leaves at once (R229). -/
theorem Pkg.bar2Reply_atOnce (hheld : (s.reqSt { die := t, agent := 1 }).held = []) (hq : s.queueAt t = []) (d : List Byte) :
    s.bar2Reply t d = s.emit (.bar2Completion t d) := by
  simp [Pkg.bar2Reply, hheld, hq]

end

section
variable {s : State} {tile off at_ : Nat} {data : List Byte}

/-- A local address with a byte behind it lies within the cells of its tile. -/
theorem Pkg.local_byte_lt {p : Pkg} {t a : Nat} (h : p.local t a = .byte) : a < 2 ^ 40 := by
  by_contra hge
  unfold Pkg.local at h
  rw [if_neg (by omega), if_neg (by omega), if_neg (by omega)] at h
  split at h <;> cases h

theorem runs_bar2Access {write poisoned : Bool} {len : Nat} {be : List Bool} {q : State} {P : State → Prop}
    (h : bar2Access tile write off len data be poisoned at_ s = q) (hp : P q.finish) :
    Runs (.bar2Access tile write off len data be poisoned at_) s P := by
  subst h; exact ⟨_, rfl, hp⟩

section
variable (hon : s.pkg.tileOn tile = true) (hlink : s.pkg.on tile fHbLink = true)
include hon hlink

theorem bar2Access_poisoned (be : List Bool) (hn : 0 < data.length) :
    bar2Access tile true off 0 data be true at_ s = { s with pkg := ((s.pkg.reach at_).bump tile oHbInPoisoned).raise tile (fHbCause 4) } := by
  simp [bar2Access, hon, hlink, hn]

/-- A write within one window without lane reordering stores its bytes from the local address of the first (R222). -/
theorem bar2Access_writes {w : Nat} (hn : 0 < data.length) (hbar : off + data.length ≤ 2 ^ 26)
    (hw : ∀ i < data.length, s.pkg.inWindow tile (off + i) = some w ∧ s.pkg.local tile (s.pkg.inLocal tile w off + i) = .byte)
    (hl : s.pkg.inLanes tile w = 0) : bar2Access tile true off 0 data (data.map (fun _ => true)) false at_ s =
      { s with pkg := s.pkg.reach at_, mem := s.mem.write tile (s.pkg.inLocal tile w off) data } := by
  have hmap : (s.pkg.reach at_).bar2Map tile off data.length = _ := Pkg.bar2Map_window hn (fun i hi => (hw i hi).1) hl
  have hcount : (s.pkg.reach at_).bar2Count tile off data.length = _ := Pkg.bar2Count_window hn (fun i hi => (hw i hi).1) hl
  have hlocal : ∀ i < data.length, (s.pkg.reach at_).local tile ((s.pkg.reach at_).inLocal tile w off + i) = .byte := fun i hi => (hw i hi).2
  have hin : inBar 2 off data.length = true := decide_eq_true hbar
  simp only [bar2Access, if_true, Pkg.reach_tileOn, Pkg.reach_on, hon, hlink, hn, hin, hmap, hcount, decide_true, Bool.and_self, Bool.not_true, Bool.and_false,
    Bool.false_eq_true, if_false]
  refine congrArg (State.mk (s.pkg.reach at_) · s.pending) (foldl_stores_write (fun m b i hi => ?_) s.mem)
  simp [hlocal i hi]

/-- A read of one byte answers it (R222). -/
theorem bar2Access_reads {w : Nat} (hbar : off + 1 ≤ 2 ^ 26) (hw : s.pkg.inWindow tile off = some w)
    (hbyte : s.pkg.local tile (s.pkg.inLocal tile w off) = .byte) (hl : s.pkg.inLanes tile w = 0)
    (hheld : (s.pkg.reqSt { die := tile, agent := 1 }).held = []) (hq : s.pkg.queueAt tile = []) :
    bar2Access tile false off 1 [] [] false at_ s =
      { s with pkg := (s.pkg.reach at_).emit (.bar2Completion tile [s.mem.get tile (s.pkg.inLocal tile w off)]) } := by
  have hfirst : ∀ i < 1, (s.pkg.reach at_).inWindow tile (off + i) = some w := fun i hi => by rw [Nat.lt_one_iff.1 hi]; exact hw
  have hmap : (s.pkg.reach at_).bar2Map tile off 1 = _ := Pkg.bar2Map_window Nat.one_pos hfirst hl
  have hcount : (s.pkg.reach at_).bar2Count tile off 1 = _ := Pkg.bar2Count_window Nat.one_pos hfirst hl
  have hlocal : (s.pkg.reach at_).local tile ((s.pkg.reach at_).inLocal tile w off) = .byte := hbyte
  have hin : inBar 2 off 1 = true := decide_eq_true hbar
  have hreply : ∀ d, (s.pkg.reach at_).bar2Reply tile d = _ := Pkg.bar2Reply_atOnce (s := s.pkg.reach at_) hheld hq
  simp [bar2Access, hon, hlink, hin, hmap, hcount, hlocal, hreply]
  rfl

/-- A byte that no window covers reads 0xFF (R222). -/
theorem bar2Access_nowhere (hbar : off + 1 ≤ 2 ^ 26) (hw : s.pkg.inWindow tile off = none)
    (hheld : (s.pkg.reqSt { die := tile, agent := 1 }).held = []) (hq : s.pkg.queueAt tile = []) :
    bar2Access tile false off 1 [] [] false at_ s =
      { s with pkg := (((s.pkg.reach at_).bump tile oHbInNoWin).raise tile (fHbCause 0)).emit (.bar2Completion tile [0xFF#8]) } := by
  have hmap : (s.pkg.reach at_).bar2Map tile off 1 = [none] := by
    have hw' : (s.pkg.reach at_).inWindow tile off = none := hw
    simp [Pkg.bar2Map, hw']
  have hcount : (s.pkg.reach at_).bar2Count tile off 1 = _ := Pkg.bar2Count_nowhere hw
  have hin : inBar 2 off 1 = true := decide_eq_true hbar
  have hreply : ∀ d, (((s.pkg.reach at_).bump tile oHbInNoWin).raise tile (fHbCause 0)).bar2Reply tile d = _ := Pkg.bar2Reply_atOnce hheld hq
  simp [bar2Access, hon, hlink, hin, hmap, hcount, hreply]

/-! BAR2_ACCESS, by what its effect makes of the machine. -/

theorem bar2Access_discards (be : List Bool) (hn : 0 < data.length) : Runs (.bar2Access tile true off 0 data be true at_) s (fun t =>
      t.pkg.cnt tile oHbInPoisoned = s.pkg.cnt tile oHbInPoisoned + 1 ∧ t.pkg.on tile (fHbCause 4) = true ∧
      Frame s t [pkgAddr tile (fHbCause 4).off] [pkgAddr tile oHbInPoisoned]) := by
  refine runs_bar2Access (bar2Access_poisoned hon hlink be hn) ⟨?_, ?_, Touches.finishes
    (((Touches.refl _ _ _).reach.bump (List.mem_singleton.2 rfl)).raise (List.mem_singleton.2 rfl))⟩
  · rw [State.finish_pkg_cnt]; exact Pkg.cnt_bump_same (s.pkg.reach at_) tile oHbInPoisoned
  · rw [State.finish_pkg_on]; exact Pkg.on_raise_same _ _ _ (by decide) (by decide)

theorem bar2Access_stores {w : Nat} (hset : s.settled) (hn : 0 < data.length) (hbar : off + data.length ≤ 2 ^ 26)
    (hw : ∀ i < data.length, s.pkg.inWindow tile (off + i) = some w ∧ s.pkg.local tile (s.pkg.inLocal tile w off + i) = .byte)
    (hl : s.pkg.inLanes tile w = 0) : Runs (.bar2Access tile true off 0 data (data.map (fun _ => true)) false at_) s (fun t =>
      (∀ i < data.length, t.mem.get tile (s.pkg.inLocal tile w off + i) = data.getD i 0) ∧
      (∀ u b, b < 2 ^ 40 → ¬ (u = tile ∧ s.pkg.inLocal tile w off ≤ b ∧ b < s.pkg.inLocal tile w off + data.length) → t.mem.get u b = s.mem.get u b) ∧
      WordsKept s.pkg t.pkg [] ∧ CountsKept s.pkg t.pkg [] ∧ t.pending = s.pending) := by
  have hend : s.pkg.inLocal tile w off + (data.length - 1) < 2 ^ 40 := Pkg.local_byte_lt (hw _ (by omega)).2
  have hmem := State.finish_mem_same { s with pkg := s.pkg.reach at_, mem := s.mem.write tile (s.pkg.inLocal tile w off) data } hset
  refine runs_bar2Access (bar2Access_writes hon hlink hn hbar hw hl) ⟨fun i hi => ?_, fun u b hb hout => ?_,
    .of_eq _ fun d o => State.finish_pkg_rd _ d o, .of_eq _ fun d o => State.finish_pkg_cnt _ d o, rfl⟩
  · rw [hmem, Mem.get_write (by omega) (by omega), if_pos ⟨rfl, by omega, by omega⟩, Nat.add_sub_cancel_left]
  · rw [hmem, Mem.get_write (by omega) hb, if_neg hout]

theorem bar2Access_answers {w : Nat} (hbar : off + 1 ≤ 2 ^ 26) (hw : s.pkg.inWindow tile off = some w)
    (hbyte : s.pkg.local tile (s.pkg.inLocal tile w off) = .byte) (hl : s.pkg.inLanes tile w = 0)
    (hheld : (s.pkg.reqSt { die := tile, agent := 1 }).held = []) (hq : s.pkg.queueAt tile = []) :
    Runs (.bar2Access tile false off 1 [] [] false at_) s (fun t =>
      (s.pkg.out ++ [.bar2Completion tile [s.mem.get tile (s.pkg.inLocal tile w off)]]) <+: t.pkg.out ∧ Frame s t [] []) :=
  runs_bar2Access (bar2Access_reads hon hlink hbar hw hbyte hl hheld hq) ⟨s.out_prefix_becomes rfl, (Touches.refl _ _ _).reach.emit.finishes⟩

theorem bar2Access_misses (hbar : off + 1 ≤ 2 ^ 26) (hw : s.pkg.inWindow tile off = none)
    (hheld : (s.pkg.reqSt { die := tile, agent := 1 }).held = []) (hq : s.pkg.queueAt tile = []) :
    Runs (.bar2Access tile false off 1 [] [] false at_) s (fun t =>
      (s.pkg.out ++ [.bar2Completion tile [0xFF#8]]) <+: t.pkg.out ∧ t.pkg.cnt tile oHbInNoWin = s.pkg.cnt tile oHbInNoWin + 1 ∧
      t.pkg.on tile (fHbCause 0) = true ∧ Frame s t [pkgAddr tile (fHbCause 0).off] [pkgAddr tile oHbInNoWin]) := by
  refine runs_bar2Access (bar2Access_nowhere hon hlink hbar hw hheld hq) ⟨s.out_prefix_becomes rfl, ?_, ?_, Touches.finishes
    (((Touches.refl _ _ _).reach.bump (List.mem_singleton.2 rfl)).raise (List.mem_singleton.2 rfl)).emit⟩
  · rw [State.finish_pkg_cnt]; exact Pkg.cnt_bump_same (s.pkg.reach at_) tile oHbInNoWin
  · rw [State.finish_pkg_on]; exact Pkg.on_raise_same ((s.pkg.reach at_).bump tile oHbInNoWin) _ _ (by decide) (by decide)

end
end

/-! ### What an outbound access that fails does (R224, R340) -/

section
variable {s : Pkg} {t n st agent : Nat}

/-- A failed access concerns what leaves, the clusters and the channels alone. -/
theorem Pkg.outFault_form (s : Pkg) (t : Nat) (who : OutReq) (n st : Nat) :
    ∃ o c d, s.outFault t who n st = { s with out := o, clusters := c, dma := d } := by
  cases who with
  | core a =>
    simp only [Pkg.outFault]
    split <;> split
    all_goals exact ⟨_, _, _, rfl⟩
  | dma ch => exact ⟨_, _, _, rfl⟩

theorem Touches.outFault {p q : Pkg} {W C : List Nat} (h : Touches p q W C) {who : OutReq} : Touches p (q.outFault t who n st) W C := by
  obtain ⟨o, c, d, he⟩ := q.outFault_form t who n st
  rw [he]; exact h.same rfl rfl rfl rfl

theorem Pkg.outFault_cnt (s : Pkg) (who : OutReq) (d o : Nat) : (s.outFault t who n st).cnt d o = s.cnt d o := by
  obtain ⟨_, _, _, h⟩ := s.outFault_form t who n st; rw [h]; rfl
theorem Pkg.outFault_on (s : Pkg) (who : OutReq) (d : Nat) (f : Fld) : (s.outFault t who n st).on d f = s.on d f := by
  obtain ⟨_, _, _, h⟩ := s.outFault_form t who n st; rw [h]; rfl
theorem Pkg.outFault_now (s : Pkg) (who : OutReq) : (s.outFault t who n st).now = s.now := by
  obtain ⟨_, _, _, h⟩ := s.outFault_form t who n st; rw [h]
theorem Pkg.outFault_bridge (s : Pkg) (who : OutReq) (u : Nat) : (s.outFault t who n st).bridge u = s.bridge u := by
  obtain ⟨_, _, _, h⟩ := s.outFault_form t who n st; rw [h]; rfl

/-- The access faults that the lockstep cluster of a tile receives at its next round boundary (R340). -/
def Pkg.accessFaults (s : Pkg) (t : Nat) : Nat := (SMap.get {} s.clusters t).faults

/-- Core 0 is the tile's lockstep cluster. -/
theorem Pkg.outFault_faults (s : Pkg) : (s.outFault t (.core agent) n st).accessFaults t = s.accessFaults t + if agent = 0 then 1 else 0 := by
  by_cases ha : agent = 0 <;> by_cases hn : n = 0 <;> simp [Pkg.outFault, Pkg.accessFaults, Pkg.deliverRead, ha, hn]

/-- A load of n bytes answers all ones. -/
theorem Pkg.outFault_out (s : Pkg) : (s.outFault t (.core agent) n st).out =
    s.out ++ if n = 0 then [] else [.outboundData t (.core agent) (some (List.replicate n 0xFF#8))] := by
  by_cases ha : agent = 0 <;> by_cases hn : n = 0 <;> simp [Pkg.outFault, Pkg.deliverRead, Pkg.emit, ha, hn]

end

theorem State.finish_accessFaults (s : State) (t : Nat) : s.finish.pkg.accessFaults t = s.pkg.accessFaults t := by
  rw [Pkg.accessFaults, State.finish_pkg_clusters]; rfl

/-! ### An access that is refused (R224) -/

theorem outboundAccess_refused {s : State} {tile w off at_ agent : Nat} {data : List Byte} {be : List Bool} (hon : s.pkg.tileOn tile = true) (hw : w < 16)
    (hn : 0 < data.length) (href : s.pkg.outRefused tile w off data.length = true) (write : Bool) :
    Runs (.outboundAccess tile (.core agent) write w off data.length data be at_) s (fun t =>
      (s.pkg.out ++ (if write then [] else [.outboundData tile (.core agent) (some (List.replicate data.length 0xFF#8))])) <+: t.pkg.out ∧
      t.pkg.accessFaults tile = s.pkg.accessFaults tile + (if agent = 0 then 1 else 0) ∧
      t.pkg.cnt tile oHbOutNoWin = s.pkg.cnt tile oHbOutNoWin + 1 ∧ t.pkg.on tile (fHbCause 1) = true ∧
      Frame s t [pkgAddr tile (fHbCause 1).off] [pkgAddr tile oHbOutNoWin]) := by
  have heff : outboundAccess tile (.core agent) write w off data.length data be at_ s.pkg =
      ((s.pkg.reach at_).countNoWin tile).outFault tile (.core agent) (if write then 0 else data.length) 3 := by
    have hlen : (if write = true then data.length else data.length) = data.length := ite_self _
    have href' : (s.pkg.reach at_).outRefused tile w off data.length = true := href
    rw [outboundAccess]
    simp only [hlen]
    rw [Pkg.when_pos _ _ (by simp [hon, hw, hn]), if_pos href']
  refine runs_becomes rfl heff ⟨s.out_prefix_becomes ?_, ?_, ?_, ?_, ?_⟩
  · rw [Pkg.outFault_out]
    cases write
    · exact congrArg (s.pkg.out ++ ·) (if_neg hn.ne')
    · rfl
  · rw [State.finish_accessFaults, State.map_pkg, Pkg.outFault_faults]; rfl
  · rw [State.finish_pkg_cnt, State.map_pkg, Pkg.outFault_cnt]
    exact Pkg.cnt_bump_same (s.pkg.reach at_) tile oHbOutNoWin
  · rw [State.finish_pkg_on, State.map_pkg, Pkg.outFault_on]
    exact Pkg.on_raise_same _ _ _ (by decide) (by decide)
  · exact Touches.finishes (((Touches.refl _ _ _).reach.bump (List.mem_singleton.2 rfl)).raise (List.mem_singleton.2 rfl)).outFault

/-! ### A write through a window that takes it (R224–R228, R233) -/

/-- A package with other bridges. -/
def Pkg.withBridges (s : Pkg) (b : SMap BridgeSt) : Pkg := { s with bridges := b }

@[simp] theorem Pkg.withBridges_cnt (s : Pkg) (b : SMap BridgeSt) (d o : Nat) : (s.withBridges b).cnt d o = s.cnt d o := rfl

theorem Touches.withBridges {p q : Pkg} {W C : List Nat} (h : Touches p q W C) {b : SMap BridgeSt} : Touches p (q.withBridges b) W C :=
  h.same rfl rfl rfl rfl

/-- A write discards prefetched bytes, which it counts, and marks reads on their way. -/
theorem Pkg.pfWritten_form (s : Pkg) (t : Nat) (l : List Nat) : ∃ b n, s.pfWritten t l = (s.add t oHbPfDiscard n).withBridges b := ⟨_, _, rfl⟩

section
variable {s : Pkg} {t w off n : Nat} {data : List Byte}

/-- A write of every byte without lane reordering places its bytes one after another. -/
theorem placed_plain (a : Nat) (data : List Byte) :
    (((laneMap 0 a data.length).zip data).zip (data.map (fun _ => true))).filterMap (fun e => if e.2 then some e.1 else none) = bytesFrom a data := by
  have hzip : ((laneMap 0 a data.length).zip data).zip (data.map (fun _ => true)) = (bytesFrom a data).map (fun e => (e, true)) := by
    refine List.ext_getElem (by simp [laneMap_plain, addrsFrom, bytesFrom]) fun i hi hd => ?_
    have hi' : i < data.length := by simpa [bytesFrom] using hd
    simp [laneMap_plain, addrsFrom, bytesFrom, hi']
  rw [hzip, List.filterMap_map]
  exact List.filterMap_some

/-- Bytes within one payload leave as one write (R227). -/
theorem Pkg.sendPieces_one {a : Nat} (ns : Bool) (hn : 0 < data.length) (h : a % s.mps t + data.length ≤ s.mps t) :
    s.sendPieces t ns (bytesFrom a data) = (s.emit (.tlpWrite t a ns data)).bump t oHbCutPieces := by
  have hpieces : piecesOf (s.mps t) (sortAsc ((bytesFrom a data).map (·.1))) = [(a, data.length)] := by
    rw [bytesFrom_addrs, sortAsc_addrsFrom, piecesOf_addrsFrom hn h]
  have hbytes : (List.range data.length).map (fun i => byteAt (bytesFrom a data) (a + i)) = data := by
    have h := map_byteAt_bytesFrom a data
    rwa [addrsFrom, List.map_map] at h
  simp only [Pkg.sendPieces, hpieces, List.foldl_cons, List.foldl_nil, hbytes]
  rfl

theorem Pkg.bridgeWrite_one (hl : s.outLanes t w = 0) (hn : 0 < data.length) (h : (s.outHost t w + off) % s.mps t + data.length ≤ s.mps t) :
    s.bridgeWrite t w off data (data.map (fun _ => true)) =
      ((s.emit (.tlpWrite t (s.outHost t w + off) (s.outNoSnoop t w) data)).bump t oHbCutPieces).pfWritten t (addrsFrom (s.outHost t w + off) data.length) := by
  have hlane : s.laneCount t 0 (s.outHost t w + off) data.length = s := rfl
  simp only [Pkg.bridgeWrite, hl, hlane, placed_plain, bytesFrom_addrs, Pkg.sendPieces_one _ hn h]

end

theorem outboundAccess_writes {s : State} {tile w off at_ agent : Nat} {data : List Byte} (hon : s.pkg.tileOn tile = true) (hw : w < 16)
    (hn : 0 < data.length) (href : s.pkg.outRefused tile w off data.length = false) (hl : s.pkg.outLanes tile w = 0)
    (hpiece : (s.pkg.outHost tile w + off) % s.pkg.mps tile + data.length ≤ s.pkg.mps tile) :
    Runs (.outboundAccess tile (.core agent) true w off data.length data (data.map (fun _ => true)) at_) s (fun t =>
      (s.pkg.out ++ [.tlpWrite tile (s.pkg.outHost tile w + off) (s.pkg.outNoSnoop tile w) data]) <+: t.pkg.out ∧
      t.pkg.cnt tile oHbCutPieces = s.pkg.cnt tile oHbCutPieces + 1 ∧ Frame s t [] [pkgAddr tile oHbCutPieces, pkgAddr tile oHbPfDiscard]) := by
  have htake : outboundAccess tile (.core agent) true w off data.length data (data.map (fun _ => true)) at_ s.pkg =
      (s.pkg.reach at_).bridgeWrite tile w off data (data.map (fun _ => true)) := by
    have href' : (s.pkg.reach at_).outRefused tile w off data.length = false := href
    rw [outboundAccess]
    simp only [if_true]
    rw [Pkg.when_pos _ _ (by simp [hon, hw, hn]), if_neg (by simp [href'])]
  obtain ⟨b, m, hform⟩ := Pkg.pfWritten_form (((s.pkg.reach at_).emit (.tlpWrite tile (s.pkg.outHost tile w + off) (s.pkg.outNoSnoop tile w) data)).bump tile
    oHbCutPieces) tile (addrsFrom (s.pkg.outHost tile w + off) data.length)
  have heff := htake.trans ((Pkg.bridgeWrite_one (s := s.pkg.reach at_) hl hn hpiece).trans hform)
  refine runs_becomes rfl heff ⟨s.out_prefix_becomes rfl, ?_, Touches.finishes ?_⟩
  · rw [State.finish_pkg_cnt, State.map_pkg, Pkg.withBridges_cnt, Pkg.cnt_add_off _ _ (by decide), Pkg.cnt_bump_same]
    rfl
  · exact ((Touches.refl _ _ _).reach.emit.bump List.mem_cons_self).add (List.mem_cons_of_mem _ (List.mem_singleton.2 rfl)) |>.withBridges

/-! ### Read pieces that leave (R220, R227, R231) -/

section
variable {s : Pkg} {b : BridgeSt} {t a n : Nat} {r : OutRead}

theorem BridgeSt.nextRead_none (h : ∀ r ∈ b.reads, r.todo = []) : b.nextRead = none := by
  refine (congrArg (List.foldl _ none) (List.filter_eq_nil_iff.2 fun i _ => ?_)).trans rfl
  cases hr : b.reads[i]? with
  | none => simp
  | some r => simp [h r (List.mem_of_getElem? hr)]

theorem BridgeSt.nextRead_one (h : b.reads = [r]) (ht : r.todo ≠ []) : b.nextRead = some 0 := by
  simp [BridgeSt.nextRead, h, ht, List.range_succ]

/-- Where no request is outstanding every tag is free. -/
theorem BridgeSt.freeTag_next (h : ∀ r ∈ b.reads, r.live = []) : b.freeTag = b.nextTag % 1024 := by
  have hused : b.reads.flatMap (fun r => r.live.map (·.tag)) = [] := List.flatMap_eq_nil_iff.2 fun r hr => by rw [h r hr]; rfl
  rw [BridgeSt.freeTag, hused]
  simp [tagFrom]

theorem Pkg.issueReads_none (h : (s.bridge t).nextRead = none) (k : Nat) : s.issueReads k t = s := by
  cases k with
  | zero => rfl
  | succ k => simp [Pkg.issueReads, h]

/-- Nothing to issue. -/
theorem Pkg.issueAll_none (h : (s.bridge t).reads = []) : s.issueAll t = s :=
  Pkg.issueReads_none (BridgeSt.nextRead_none (by simp [h])) _

/-- The one piece of the one read leaves under the next tag. -/
theorem Pkg.issueAll_one (hr : (s.bridge t).reads = [r]) (hlive : r.live = []) (htodo : r.todo = [(a, n)]) : ∃ bs, s.issueAll t =
    ((s.emit (.tlpRead t a n ((s.bridge t).nextTag % 1024) r.noSnoop)).bump t oHbCutPieces).withBridges bs := by
  have hnext : (s.bridge t).nextRead = some 0 := BridgeSt.nextRead_one hr (by simp [htodo])
  have htag : (s.bridge t).freeTag = (s.bridge t).nextTag % 1024 := BridgeSt.freeTag_next (by simp [hr, hlive])
  have hfew : ¬ 256 ≤ (s.bridge t).live := by simp [BridgeSt.live, hr, hlive]
  have hstep : s.issueAll t = Pkg.issueReads 511 ((s.sendRead t r.who r.noSnoop (a, n)).setBridge t { (s.sendRead t r.who r.noSnoop (a, n)).bridge t with
      reads := [{ r with todo := [], live := [{ tag := (s.bridge t).nextTag % 1024, addr := a, len := n, sent := s.now }] }] }) t := by
    show Pkg.issueReads (511 + 1) s t = _
    rw [Pkg.issueReads]
    simp only [if_neg hfew, hnext, hr, htodo, hlive, htag, List.getElem?_cons_zero, List.nil_append, List.set_cons_zero]
  rw [hstep, Pkg.issueReads_none (BridgeSt.nextRead_none (by simp))]
  simp only [Pkg.sendRead, htag]
  exact ⟨_, rfl⟩

end

/-! ### A read through a window that takes it (R224–R228, R233) -/

section
variable {s : Pkg} {t w off n : Nat}

/-- A window without prefetching, where nothing is prefetched, serves no byte and fetches what is asked for (R233). -/
theorem Pkg.planRead_plain (who : OutReq) (hl : s.outLanes t w = 0) (hpre : s.outPrefetch t w = false) (hpf : (s.bridge t).pf = []) :
    ∃ bs m, s.planRead t who w off n = ((s.add t oHbPfDiscard m).withBridges bs,
      { host := s.outHost t w + off, map := addrsFrom (s.outHost t w + off) n, served := [], fetch := addrsFrom (s.outHost t w + off) n }) ∧
      (SMap.get {} bs t).reads = (s.bridge t).reads ∧ (SMap.get {} bs t).nextTag = (s.bridge t).nextTag := by
  have hlane : s.laneCount t 0 (s.outHost t w + off) n = s := rfl
  have hpf' : (SMap.get {} s.bridges t).pf = [] := hpf
  simp only [Pkg.planRead, hl, hlane, hpre, laneMap_plain]
  refine ⟨_, _, Prod.ext rfl ?_, ?_, ?_⟩
  · simp only [Pkg.pfKeep, Pkg.bridge, Pkg.setBridge, hpf']
    simp [sortAsc_addrsFrom]
  · simp [Pkg.pfKeep, Pkg.bridge, Pkg.setBridge, hpf']
  · simp [Pkg.pfKeep, Pkg.bridge, Pkg.setBridge, hpf']

/-- Such a read within one read request is issued as that one request (R227). -/
theorem Pkg.bridgeRead_one (who : OutReq) (hl : s.outLanes t w = 0) (hpre : s.outPrefetch t w = false) (hreads : (s.bridge t).reads = [])
    (hpf : (s.bridge t).pf = []) (hn : 0 < n) (h : (s.outHost t w + off) % min 4096 (s.mrrs t) + n ≤ min 4096 (s.mrrs t)) :
    ∃ bs m, s.bridgeRead t who w off n = (((s.add t oHbPfDiscard m).emit (.tlpRead t (s.outHost t w + off) n ((s.bridge t).nextTag % 1024)
      (s.outNoSnoop t w))).bump t oHbCutPieces).withBridges bs := by
  obtain ⟨bs, m, hplan, hsame, htag⟩ := Pkg.planRead_plain (off := off) (n := n) who hl hpre hpf
  generalize hq : (s.add t oHbPfDiscard m).withBridges bs = q at hplan
  let p : ReadPlan := { host := s.outHost t w + off, map := addrsFrom (s.outHost t w + off) n, served := [], fetch := addrsFrom (s.outHost t w + off) n }
  let r : OutRead := { who := who, host := p.host, map := p.map, keep := q.outPrefetch t w, noSnoop := q.outNoSnoop t w, todo := q.readPieces t p }
  have hwant : p.want ≠ [] := by
    have hall : p.want = addrsFrom (s.outHost t w + off) n := by simp [ReadPlan.want, p]
    rw [hall]
    exact List.ne_nil_of_mem (mem_addrsFrom.2 ⟨Nat.le_refl _, by omega⟩)
  have hpieces : r.todo = [(s.outHost t w + off, n)] := by
    show piecesOf (min 4096 (q.mrrs t)) _ = _
    rw [← hq]
    exact piecesOf_addrsFrom hn h
  have hnone : (q.bridge t).reads = [] := by rw [← hq]; exact hsame.trans hreads
  have hread : s.bridgeRead t who w off n = (q.setBridge t { q.bridge t with reads := [r] }).issueAll t := by
    simp only [Pkg.bridgeRead, hplan]
    rw [if_neg (by simpa [p] using hwant), hnone]
    rfl
  obtain ⟨bs', hissue⟩ := Pkg.issueAll_one (s := q.setBridge t { q.bridge t with reads := [r] }) (t := t) (congrArg BridgeSt.reads (Pkg.bridge_setBridge_same ..))
    rfl hpieces
  refine ⟨bs', m, hread.trans (hissue.trans ?_)⟩
  have htag' : (q.bridge t).nextTag = (s.bridge t).nextTag := by rw [← hq]; exact htag
  have hsnoop : r.noSnoop = s.outNoSnoop t w := by show q.outNoSnoop t w = _; rw [← hq]; rfl
  rw [Pkg.bridge_setBridge_same, hsnoop]
  simp only [htag']
  rw [← hq]
  rfl

end

theorem outboundAccess_reads {s : State} {tile w off at_ agent n : Nat} (hon : s.pkg.tileOn tile = true) (hw : w < 16) (hn : 0 < n)
    (href : s.pkg.outRefused tile w off n = false) (hl : s.pkg.outLanes tile w = 0) (hpre : s.pkg.outPrefetch tile w = false)
    (hreads : (s.pkg.bridge tile).reads = []) (hpf : (s.pkg.bridge tile).pf = [])
    (hpiece : (s.pkg.outHost tile w + off) % min 4096 (s.pkg.mrrs tile) + n ≤ min 4096 (s.pkg.mrrs tile)) :
    Runs (.outboundAccess tile (.core agent) false w off n [] [] at_) s (fun t =>
      (s.pkg.out ++ [.tlpRead tile (s.pkg.outHost tile w + off) n ((s.pkg.bridge tile).nextTag % 1024) (s.pkg.outNoSnoop tile w)]) <+: t.pkg.out ∧
      t.pkg.cnt tile oHbCutPieces = s.pkg.cnt tile oHbCutPieces + 1 ∧ Frame s t [] [pkgAddr tile oHbCutPieces, pkgAddr tile oHbPfDiscard]) := by
  have htake : outboundAccess tile (.core agent) false w off n [] [] at_ s.pkg = (s.pkg.reach at_).bridgeRead tile (.core agent) w off n := by
    have href' : (s.pkg.reach at_).outRefused tile w off n = false := href
    rw [outboundAccess]
    simp only [Bool.false_eq_true, if_false]
    rw [Pkg.when_pos _ _ (by simp [hon, hw, hn]), if_neg (by simp [href'])]
  obtain ⟨bs, m, hread⟩ := Pkg.bridgeRead_one (s := s.pkg.reach at_) (.core agent) hl hpre hreads hpf hn hpiece
  refine runs_becomes rfl (htake.trans hread) ⟨s.out_prefix_becomes rfl, ?_, Touches.finishes ?_⟩
  · rw [State.finish_pkg_cnt, State.map_pkg, Pkg.withBridges_cnt, Pkg.cnt_bump_same, Pkg.emit_cnt, Pkg.cnt_add_off _ _ (by decide)]
    rfl
  · exact ((Touches.refl _ _ _).reach.add (List.mem_cons_of_mem _ (List.mem_singleton.2 rfl))).emit.bump List.mem_cons_self |>.withBridges

/-! ### Reads that end (R224, R228) -/

section
variable {s : Pkg} {t off cause : Nat} {r : OutRead} {p : LivePiece}

/-- The one read has failed and is over: nobody gets its bytes any more. -/
theorem Pkg.finishReads_failed (hr : (s.bridge t).reads = [r]) (htodo : r.todo = []) (hlive : r.live = []) (hf : r.failed = true) :
    s.finishReads t = s.setBridge t { s.bridge t with reads := [] } := by
  simp [Pkg.finishReads, hr, htodo, hlive, hf]

/-- The one read has all its bytes and fetched no others: they go to its requester. -/
theorem Pkg.finishReads_whole (hr : (s.bridge t).reads = [r]) (htodo : r.todo = []) (hlive : r.live = []) (hf : r.failed = false)
    (hall : r.data.filter (fun e => !r.map.contains e.1) = []) : s.finishReads t =
      (((s.setBridge t { s.bridge t with reads := [] }).deliverRead t r.who (some (r.map.map (byteAt r.data)))).add t oHbPfBytes 0).add t oHbPfDiscard 0 := by
  simp only [Pkg.finishReads, hr, List.filter_cons, htodo, hlive, List.isEmpty_nil, Bool.and_self, if_true, List.filter_nil, Bool.not_true, Bool.false_eq_true,
    if_false, List.foldl_cons, List.foldl_nil, hf, hall]
  rfl

/-- A read of which a piece has failed: it waits for nothing but its other pieces. -/
def OutRead.failedWhole (r : OutRead) : OutRead := { r with failed := true, todo := [], data := [], live := [] }

/-- The only piece of the one read fails (R228). -/
theorem Pkg.failRead_one (hr : (s.bridge t).reads = [r]) (hlive : r.live = [p]) (hf : r.failed = false) : s.failRead t p.tag off cause =
    (((s.setBridge t { s.bridge t with reads := [r.failedWhole] }).bump t off).raise t (fHbCause cause)).outFault t r.who r.map.length 1 := by
  simp [Pkg.failRead, hr, hlive, hf, mapIf, OutRead.failedWhole]

/-- Then the read is over. -/
theorem Pkg.failRead_ends (hr : (s.bridge t).reads = [r]) (hlive : r.live = [p]) (hf : r.failed = false) :
    ((s.failRead t p.tag off cause).finishReads t).issueAll t =
      (s.failRead t p.tag off cause).setBridge t { (s.failRead t p.tag off cause).bridge t with reads := [] } := by
  have hreads : ((s.failRead t p.tag off cause).bridge t).reads = [r.failedWhole] := by
    rw [Pkg.failRead_one hr hlive hf, Pkg.outFault_bridge]
    exact congrArg BridgeSt.reads (Pkg.bridge_setBridge_same ..)
  rw [Pkg.finishReads_failed hreads rfl rfl rfl, Pkg.issueAll_none (congrArg BridgeSt.reads (Pkg.bridge_setBridge_same ..))]

end

/-- A completion for the tag of a piece in flight is taken while the link is up. -/
theorem outboundCompletion_taken {s : State} {tile : Nat} {r : OutRead} {p : LivePiece} (hreads : (s.pkg.bridge tile).reads = [r]) (hlive : r.live = [p])
    (hon : s.pkg.tileOn tile = true) (hlink : s.pkg.on tile fHbLink = true) :
    (s.pkg.tileOn tile && s.pkg.on tile fHbLink && (s.pkg.bridge tile).reads.any (fun r => r.live.any (fun q => q.tag == p.tag))) = true := by
  simp [hon, hlink, hreads, hlive]

section
variable {s : State} {tile at_ agent : Nat} {r : OutRead} {p : LivePiece} (hreads : (s.pkg.bridge tile).reads = [r]) (hwho : r.who = .core agent)
  (hlive : r.live = [p]) (hf : r.failed = false)
include hreads hwho hlive hf

/-- A command with which the one read of a tile fails at an instant: all ones and an access fault (R224). -/
theorem runs_failsRead {i : Instr} {f : Pkg → Pkg} {n off cause : Nat} (hmap : r.map ≠ []) (hcause : cause < 32) (h : exec i s = .next (s.onPkg f))
    (he : f s.pkg = (((s.pkg.reachFrac n).failRead tile p.tag off cause).finishReads tile).issueAll tile) : Runs i s (fun t =>
      (s.pkg.out ++ [.outboundData tile (.core agent) (some (List.replicate r.map.length 0xFF#8))]) <+: t.pkg.out ∧ (t.pkg.bridge tile).reads = [] ∧
      t.pkg.accessFaults tile = s.pkg.accessFaults tile + (if agent = 0 then 1 else 0) ∧ t.pkg.now = max s.pkg.now n ∧
      t.pkg.cnt tile off = s.pkg.cnt tile off + 1 ∧ t.pkg.on tile (fHbCause cause) = true ∧
      Frame s t [pkgAddr tile (fHbCause cause).off] [pkgAddr tile off]) := by
  have hfail := Pkg.failRead_one (s := s.pkg.reachFrac n) (off := off) (cause := cause) hreads hlive hf
  have hends := he.trans (Pkg.failRead_ends (s := s.pkg.reachFrac n) hreads hlive hf)
  rw [hwho] at hfail
  generalize hq : (s.pkg.reachFrac n).failRead tile p.tag off cause = q at hfail hends
  have hn : r.map.length ≠ 0 := fun h0 => hmap (List.length_eq_zero_iff.1 h0)
  refine runs_becomes h hends ⟨s.out_prefix_becomes ?_, ?_, ?_, ?_, ?_, ?_, Touches.finishes ?_⟩
  · refine Eq.trans (b := q.out) rfl ?_
    rw [hfail, Pkg.outFault_out, if_neg hn]; rfl
  · rw [State.finish_bridge, State.map_pkg, Pkg.bridge_setBridge_same]
  · rw [State.finish_accessFaults]
    refine Eq.trans (b := q.accessFaults tile) rfl ?_
    rw [hfail, Pkg.outFault_faults]; rfl
  · rw [State.finish_pkg_now]
    refine Eq.trans (b := q.now) rfl ?_
    rw [hfail, Pkg.outFault_now]; rfl
  · rw [State.finish_pkg_cnt]
    refine Eq.trans (b := q.cnt tile off) rfl ?_
    rw [hfail, Pkg.outFault_cnt]
    exact Pkg.cnt_bump_same ((s.pkg.reachFrac n).setBridge tile _) tile off
  · rw [State.finish_pkg_on]
    refine Eq.trans (b := q.on tile (fHbCause cause)) rfl ?_
    rw [hfail, Pkg.outFault_on]
    exact Pkg.on_raise_same _ _ _ hcause (Nat.le_refl _)
  · rw [hfail]
    exact ((((Touches.refl _ _ _).reachFrac.setBridge).bump (List.mem_singleton.2 rfl)).raise (List.mem_singleton.2 rfl)).outFault.setBridge

/-- Another status than SC fails the read (R228). -/
theorem outboundCompletion_fails {st : CplStatus} (data : List Byte) (hmap : r.map ≠ []) (hon : s.pkg.tileOn tile = true)
    (hlink : s.pkg.on tile fHbLink = true) (hst : st ≠ .sc) : Runs (.outboundCompletion tile p.tag st data at_) s (fun t =>
      (s.pkg.out ++ [.outboundData tile (.core agent) (some (List.replicate r.map.length 0xFF#8))]) <+: t.pkg.out ∧ (t.pkg.bridge tile).reads = [] ∧
      t.pkg.accessFaults tile = s.pkg.accessFaults tile + (if agent = 0 then 1 else 0) ∧
      t.pkg.cnt tile oHbOutErr = s.pkg.cnt tile oHbOutErr + 1 ∧ t.pkg.on tile (fHbCause 2) = true ∧
      Frame s t [pkgAddr tile (fHbCause 2).off] [pkgAddr tile oHbOutErr]) := by
  have heff : outboundCompletion tile p.tag st data at_ s.pkg =
      (((s.pkg.reachFrac (ns at_)).failRead tile p.tag oHbOutErr 2).finishReads tile).issueAll tile := by
    rw [outboundCompletion, Pkg.when_pos _ _ (outboundCompletion_taken hreads hlive hon hlink)]
    simp only [if_neg hst]
    rfl
  obtain ⟨t, hrun, hout, hreads, hfaults, -, hcnt, hcause, hframe⟩ := runs_failsRead (i := .outboundCompletion tile p.tag st data at_)
    (f := outboundCompletion tile p.tag st data at_) hreads hwho hlive hf hmap (by decide) rfl heff
  exact ⟨t, hrun, hout, hreads, hfaults, hcnt, hcause, hframe⟩

/-- COMPLETION_TIMEOUT: the completion timeout after its piece was issued, the read fails (R224). -/
theorem completionTimeout_fails (hmap : r.map ≠ []) (hon : s.pkg.tileOn tile = true) : Runs (.completionTimeout tile p.tag) s (fun t =>
      (s.pkg.out ++ [.outboundData tile (.core agent) (some (List.replicate r.map.length 0xFF#8))]) <+: t.pkg.out ∧ (t.pkg.bridge tile).reads = [] ∧
      t.pkg.accessFaults tile = s.pkg.accessFaults tile + (if agent = 0 then 1 else 0) ∧
      t.pkg.now = max s.pkg.now (p.sent + ns (1000 * (s.pkg.bridge tile).cplUs)) ∧ t.pkg.cnt tile oHbCplTimeout = s.pkg.cnt tile oHbCplTimeout + 1 ∧
      t.pkg.on tile (fHbCause 3) = true ∧ Frame s t [pkgAddr tile (fHbCause 3).off] [pkgAddr tile oHbCplTimeout]) := by
  have hfind : ((s.pkg.bridge tile).reads.flatMap (·.live)).find? (fun q => q.tag == p.tag) = some p := by simp [hreads, hlive]
  have heff : completionTimeout tile p.tag s.pkg =
      (((s.pkg.reachFrac (p.sent + ns (us (s.pkg.bridge tile).cplUs))).failRead tile p.tag oHbCplTimeout 3).finishReads tile).issueAll tile := by
    simp only [completionTimeout, hfind]
    exact Pkg.when_pos _ _ hon
  rw [Nat.mul_comm 1000]
  exact runs_failsRead hreads hwho hlive hf hmap (by decide) rfl heff

/-- A completion with all of the read's bytes: they are delivered in the order of the access, and none is left over (R228). -/
theorem outboundCompletion_delivers {data : List Byte} (hon : s.pkg.tileOn tile = true) (hlink : s.pkg.on tile fHbLink = true) (htodo : r.todo = [])
    (hgot : p.got = 0) (hlen : data.length = p.len) (hdata : r.data = []) (hmap : r.map = addrsFrom p.addr p.len) :
    Runs (.outboundCompletion tile p.tag .sc data at_) s (fun t =>
      (s.pkg.out ++ [.outboundData tile (.core agent) (some data)]) <+: t.pkg.out ∧ (t.pkg.bridge tile).reads = [] ∧
      Frame s t [] [pkgAddr tile oHbPfBytes, pkgAddr tile oHbPfDiscard]) := by
  let x : OutRead := { r with data := bytesFrom p.addr data, live := [] }
  let q := (s.pkg.reach at_).setBridge tile { s.pkg.bridge tile with reads := [x] }
  have hq : (q.bridge tile).reads = [x] := congrArg BridgeSt.reads (Pkg.bridge_setBridge_same ..)
  have hwhole : x.map.map (byteAt x.data) = data := by
    show r.map.map (byteAt (bytesFrom p.addr data)) = data
    rw [hmap, ← hlen]
    exact map_byteAt_bytesFrom p.addr data
  have hasked : x.data.filter (fun e => !x.map.contains e.1) = [] := by
    refine List.filter_eq_nil_iff.2 fun e he => ?_
    have hmem : e.1 ∈ r.map := by
      rw [hmap, ← hlen, ← bytesFrom_addrs]
      exact List.mem_map_of_mem he
    simpa [x] using hmem
  have heff : outboundCompletion tile p.tag .sc data at_ s.pkg = (q.finishReads tile).issueAll tile := by
    rw [outboundCompletion, Pkg.when_pos _ _ (outboundCompletion_taken hreads hlive hon hlink)]
    refine congrArg (fun q : Pkg => (q.finishReads tile).issueAll tile)
      (congrArg (fun l => (s.pkg.reach at_).setBridge tile { s.pkg.bridge tile with reads := l }) ?_)
    have htake : data.take p.len = data := List.take_of_length_le hlen.le
    have hreads' : ((s.pkg.reach at_).bridge tile).reads = [r] := hreads
    simp [hreads', hlive, mapIf, htake, hf, hdata, hgot, hlen, x, bytesFrom]
  rw [Pkg.finishReads_whole hq htodo rfl hf hasked, hwhole, Pkg.issueAll_none (congrArg BridgeSt.reads (Pkg.bridge_setBridge_same ..))] at heff
  have hto : x.who = .core agent := hwho
  rw [hto] at heff
  refine runs_becomes rfl heff ⟨s.out_prefix_becomes rfl, ?_, Touches.finishes ?_⟩
  · rw [State.finish_bridge]
    exact congrArg BridgeSt.reads (Pkg.bridge_setBridge_same q ..)
  · exact ((Touches.refl _ _ _).reach.setBridge.setBridge.emit.add List.mem_cons_self).add (List.mem_cons_of_mem _ (List.mem_singleton.2 rfl))

end

/-! ### Prefetched bytes (R233) -/

theorem prefetchExpire_expires {s : State} {tile : Nat} {p : PfBuf} {l : List PfBuf} (hon : s.pkg.tileOn tile = true) (hpf : (s.pkg.bridge tile).pf = p :: l) :
    Runs (.prefetchExpire tile) s (fun t =>
      (t.pkg.bridge tile).pf = l ∧ t.pkg.now = max s.pkg.now (p.came + ns 2000) ∧
      t.pkg.cnt tile oHbPfDiscard = s.pkg.cnt tile oHbPfDiscard + BitVec.ofNat 64 p.bytes.length ∧ Frame s t [] [pkgAddr tile oHbPfDiscard]) := by
  let q := s.pkg.reachFrac (p.came + ns (us 2))
  have heff : prefetchExpire tile s.pkg = (q.setBridge tile { s.pkg.bridge tile with pf := l }).add tile oHbPfDiscard p.bytes.length := by
    simp only [prefetchExpire, hpf]
    exact Pkg.when_pos _ _ hon
  refine runs_becomes rfl heff ⟨?_, ?_, ?_, ((Touches.refl _ _ _).reachFrac.setBridge.add (List.mem_singleton.2 rfl)).finishes⟩
  · rw [State.finish_bridge]
    exact congrArg BridgeSt.pf (Pkg.bridge_setBridge_same q ..)
  · rw [State.finish_pkg_now]; rfl
  · rw [State.finish_pkg_cnt]
    exact Pkg.cnt_add_same (q.setBridge tile _) tile oHbPfDiscard _

/-- Settles O29: each access by what the bridge makes of it; a read that fails does so in one way, for whatever reason. -/
theorem hostAccessEffects : Obligations.HostAccessEffects := by
  unfold Obligations.HostAccessEffects
  refine ⟨fun tile off at_ data s hon hlink hset hn hbar => ⟨fun be => bar2Access_discards hon hlink be hn,
      fun w hw hl => bar2Access_stores hon hlink hset hn hbar hw hl,
      fun w hw hbyte hl hheld hq => bar2Access_answers hon hlink (by omega) hw hbyte hl hheld hq,
      fun hw hheld hq => bar2Access_misses hon hlink (by omega) hw hheld hq⟩,
    fun tile w off at_ agent data s hon hw hn => ⟨fun href write => outboundAccess_refused hon hw hn href write,
      fun href hl hpiece => outboundAccess_writes hon hw hn href hl hpiece,
      fun href hl hpre hreads hpf hpiece => outboundAccess_reads hon hw hn href hl hpre hreads hpf hpiece⟩,
    fun tile at_ agent r p s hon hreads hwho htodo hlive hgot hf hmap => ⟨fun data hlink hlen hdata hall =>
        outboundCompletion_delivers hreads hwho hlive hf hon hlink htodo hgot hlen hdata hall,
      fun st data hlink hst => outboundCompletion_fails hreads hwho hlive hf data hmap hon hlink hst,
      completionTimeout_fails hreads hwho hlive hf hmap hon⟩,
    fun tile p l s hon hpf => prefetchExpire_expires hon hpf⟩

end Sys2Proof.Machine
end
